-- ==== Sys2Proof/Word.lean ====
section
/-!
DEFINITION. The word types of PSL-768 and their plainest arithmetic. Byte order is little-endian and
bits are numbered from 0 at the least significant end (R11).
-/
namespace Sys2Proof

/-- A byte of a store or of a message. -/
abbrev Byte := BitVec 8

/-- A 32-bit instruction word, FP32 code or U32 field. -/
abbrev W32 := BitVec 32

/-- A 64-bit scalar register or U64 field. -/
abbrev W64 := BitVec 64

end Sys2Proof
end

