-- ==== Sys2Proof/Syntax.lean ====
section
/-!
DEFINITION. The commands the block takes from outside (one constructor for each row of the spec's table of
operations and events) and the records their operands carry. `g` names a physical hearth (18 × rick + hearth,
R27), `n` a partition, `k` a rick, `p` a fabric port, `e` an Ethernet port, `t` the device time in nanoseconds
at which an event happens (R14).
-/
namespace Sys2Proof

/-- What a Dolli REQUEST carries beside its entry and data: session id, message SEQ, REQ_ID (Tables 16-3,
16-5), whether the tag verifies (R471), and the device time of its arrival. -/
structure Rq where
  ses : Nat
  seq : Nat
  id : Nat
  ok : Bool
  t : Nat
  deriving DecidableEq, Repr

/-- A Dolli HELLO (Table 16-4, event 1) and the port it arrived on. -/
structure HelloMsg where
  eport : Fin 8
  x25519 : List Byte
  mlkem : List Byte
  nonce : List Byte
  role : Nat
  tenant : Nat
  cred : Nat
  deriving DecidableEq, Repr

/-- A fabric message as it arrives on port `port` in position `pos` (Table 15-3): the KIND is the row's. -/
structure FabMsg where
  port : Fin 16
  pos : Nat
  msgid : Nat
  notify : Bool
  rcounter : Nat
  rkey : Nat
  dest : Nat
  src : Nat
  tenant : Nat
  roff : Nat
  /-- LENGTH -/
  len : Nat
  addv : Nat
  aux : Nat
  body : List Byte
  data : List Byte
  deriving DecidableEq, Repr

/-- An inbound RoCE v2 packet train on connection `conn` of partition `part` (R462, R463). -/
structure RoceMsg where
  part : Fin 12
  conn : Nat
  eport : Fin 8
  psn : Nat
  rkey : Nat
  roff : Nat
  length : Nat
  data : List Byte
  deriving DecidableEq, Repr

/-- The commands and events of the device: one constructor for each row of the table of operations. -/
inductive Instr where
  /-- ADD (R96): Core instruction: A receives B plus C. -/
  | add (g : Fin 216)
  /-- SUB (R96): Core instruction: A receives B minus C. -/
  | sub (g : Fin 216)
  /-- AND (R96): Core instruction: A receives the bitwise AND of B and C. -/
  | and (g : Fin 216)
  /-- OR (R96): Core instruction: A receives the bitwise OR of B and C. -/
  | or (g : Fin 216)
  /-- XOR (R96): Core instruction: A receives the bitwise XOR of B and C. -/
  | xor (g : Fin 216)
  /-- SHL (R96): Core instruction: A receives B shifted left by C[5:0]. -/
  | shl (g : Fin 216)
  /-- SHR (R96): Core instruction: A receives B shifted right logically by C[5:0]. -/
  | shr (g : Fin 216)
  /-- SAR (R96): Core instruction: A receives B shifted right arithmetically by C[5:0]. -/
  | sar (g : Fin 216)
  /-- MUL (R96): Core instruction: A receives the low 64 bits of the signed product. -/
  | mul (g : Fin 216)
  /-- MULH (R96): Core instruction: A receives the high 64 bits of the signed product. -/
  | mulh (g : Fin 216)
  /-- SLT (R96): Core instruction: A receives 1 if B is less than C as signed values, otherwise 0. -/
  | slt (g : Fin 216)
  /-- SLTU (R96): Core instruction: A receives 1 if B is less than C as unsigned values, otherwise 0. -/
  | sltu (g : Fin 216)
  /-- MIN (R96): Core instruction: A receives the signed minimum of B and C. -/
  | min (g : Fin 216)
  /-- MAX (R96): Core instruction: A receives the signed maximum of B and C. -/
  | max (g : Fin 216)
  /-- FADD (R193): Core instruction: FP32 addition rounded to nearest even. -/
  | fadd (g : Fin 216)
  /-- FSUB (R193): Core instruction: FP32 subtraction rounded to nearest even. -/
  | fsub (g : Fin 216)
  /-- FMUL (R193): Core instruction: FP32 multiplication rounded to nearest even. -/
  | fmul (g : Fin 216)
  /-- FMIN (R193): Core instruction: FP32 minimum, which is NaN if either operand is NaN. -/
  | fmin (g : Fin 216)
  /-- FMAX (R193): Core instruction: FP32 maximum, which is NaN if either operand is NaN. -/
  | fmax (g : Fin 216)
  /-- FLT (R96): Core instruction: FP32 less-than comparison giving 1 or 0. -/
  | flt (g : Fin 216)
  /-- FCVTI (R193): Core instruction: converts a signed 64-bit integer to FP32, rounding to nearest even. -/
  | fcvti (g : Fin 216)
  /-- FCVTF (R193): Core instruction: converts FP32 to a signed 64-bit integer toward zero, saturating, with NaN giving 0. -/
  | fcvtf (g : Fin 216)
  /-- ADDI (R96): Core instruction: A receives B plus the sign-extended IMM14. -/
  | addi (g : Fin 216)
  /-- ANDI (R96): Core instruction: A receives B AND IMM14. -/
  | andi (g : Fin 216)
  /-- ORI (R96): Core instruction: A receives B OR IMM14. -/
  | ori (g : Fin 216)
  /-- XORI (R96): Core instruction: A receives B XOR IMM14. -/
  | xori (g : Fin 216)
  /-- SHLI (R96): Core instruction: A receives B shifted left by the immediate. -/
  | shli (g : Fin 216)
  /-- SHRI (R96): Core instruction: A receives B shifted right logically by the immediate. -/
  | shri (g : Fin 216)
  /-- SARI (R96): Core instruction: A receives B shifted right arithmetically by the immediate. -/
  | sari (g : Fin 216)
  /-- MOVH (R96): Core instruction: A receives A shifted left by 20, ORed with IMM20. -/
  | movh (g : Fin 216)
  /-- LD64 (R97): Core instruction: loads 64 bits from scalar data memory, with alignment and address checks. -/
  | ld64 (g : Fin 216)
  /-- LD32 (R97): Core instruction: loads 32 bits, zero-extended, from scalar data memory. -/
  | ld32 (g : Fin 216)
  /-- LD16 (R97): Core instruction: loads 16 bits, zero-extended, from scalar data memory. -/
  | ld16 (g : Fin 216)
  /-- LD8 (R97): Core instruction: loads 8 bits, zero-extended, from scalar data memory. -/
  | ld8 (g : Fin 216)
  /-- ST64 (R97): Core instruction: stores 64 bits to the working copy of scalar data memory. -/
  | st64 (g : Fin 216)
  /-- ST32 (R97): Core instruction: stores the low 32 bits of A to scalar data memory. -/
  | st32 (g : Fin 216)
  /-- ST16 (R97): Core instruction: stores the low 16 bits of A to scalar data memory. -/
  | st16 (g : Fin 216)
  /-- ST8 (R97): Core instruction: stores the low 8 bits of A to scalar data memory. -/
  | st8 (g : Fin 216)
  /-- BEQ (R96): Core instruction: branches by OFF14 if A equals B. -/
  | beq (g : Fin 216)
  /-- BNE (R96): Core instruction: branches by OFF14 if A differs from B. -/
  | bne (g : Fin 216)
  /-- BLT (R96): Core instruction: branches by OFF14 if A is less than B as signed values. -/
  | blt (g : Fin 216)
  /-- BGE (R96): Core instruction: branches by OFF14 if A is at least B as signed values. -/
  | bge (g : Fin 216)
  /-- BLTU (R96): Core instruction: branches by OFF14 if A is less than B as unsigned values. -/
  | bltu (g : Fin 216)
  /-- BGEU (R96): Core instruction: branches by OFF14 if A is at least B as unsigned values. -/
  | bgeu (g : Fin 216)
  /-- JMP (R96): Core instruction: links the next address into A and jumps to TGT14. -/
  | jmp (g : Fin 216)
  /-- JR (R96): Core instruction: links the next address into A and jumps to B[13:0]. -/
  | jr (g : Fin 216)
  /-- BSUM (R102): Core instruction: branches on the flags of a summary register, stalling while the register is invalid. -/
  | bsum (g : Fin 216)
  /-- SRD (R101): Core instruction: reads the value of a summary register into A, stalling while the register is invalid. -/
  | srd (g : Fin 216)
  /-- SFLG (R101): Core instruction: reads the flags of a summary register into A, stalling while the register is invalid. -/
  | sflg (g : Fin 216)
  /-- ISSUE (R98): Core instruction: copies a 64-byte descriptor into an engine's issue queue. -/
  | issue (g : Fin 216)
  /-- FENCE (R96): Core instruction: stalls until every engine named in MASK is idle. -/
  | fence (g : Fin 216)
  /-- WAITC (R105): Core instruction: stalls until CYCLE reaches its operand, or raises a schedule fault if CYCLE is already past it. -/
  | waitc (g : Fin 216)
  /-- WAITC_RELEASE (R105): CYCLE reaches the operand of a stalled WAITC, and the core resumes. -/
  | waitcRelease (g : Fin 216)
  /-- BAR (R104): Core instruction: enters partition barrier C with a combine operation. -/
  | bar (g : Fin 216)
  /-- BAR_COMPLETE (R104): Every active hearth has executed BAR with the same C, and the combined result is written to A. -/
  | barComplete (n : Fin 12)
  /-- POLL (R83): Core instruction: takes messages in sequence order from a queue. -/
  | poll (g : Fin 216)
  /-- CSRR (R109): Core instruction: reads a control register into A. -/
  | csrr (g : Fin 216)
  /-- CSRW (R109): Core instruction: writes a control register, such as a clear of NANSTAT. -/
  | csrw (g : Fin 216)
  /-- NOTE (R113): Core instruction: posts a tenant note, at most one per hearth per step. -/
  | note (g : Fin 216)
  /-- STEPEND (R107): Core instruction: waits for all engines of the hearth to be idle, then enters the end barrier naming the next step kind. -/
  | stepend (g : Fin 216)
  /-- HALT_STOP (R634): A halted partition stops at c + 2,048, writes HALT_INFO and HALT markers and raises event 0xE310. -/
  | haltStop (n : Fin 12) (t : Nat)
  /-- RAKING_PIECE_START (R108): At a piece start cycle, the core stops for 5,000 ns and background agents own the slots. -/
  | rakingPieceStart (n : Fin 12) (t : Nat)
  /-- RAKING_PIECE_END (R108): A raking piece ends after 5,000 ns and the core resumes. -/
  | rakingPieceEnd (n : Fin 12) (t : Nat)
  /-- SCHEDULE_FAULT (R49): A bank, flue or DRAM access outside an owned slot is detected, and the step is discarded and repeated once. -/
  | scheduleFault (g : Fin 216) (unit : Nat) (slot : Nat)
  /-- MMUL (R128): A matrix multiply operation starts its weight load and proceeds through its phases. -/
  | mmul (g : Fin 216)
  /-- MMUL_COMPLETE (R129): The drain of an MMUL ends, its checksums are judged and its summary is written. -/
  | mmulComplete (g : Fin 216)
  /-- MMUL_WRITEBACK_END (R129): The accumulator write-back of an MMUL finishes, and the engine becomes idle. -/
  | mmulWritebackEnd (g : Fin 216)
  /-- LIN_IN (R143): Layout operation: copies rows from a tier address into the hearth store. -/
  | linIn (g : Fin 216)
  /-- LIN_OUT (R143): Layout operation: copies rows from the hearth store to a tier address. -/
  | linOut (g : Fin 216)
  /-- SKEW_IN (R143): Layout operation: writes the skewed activation tile, with its zero triangles, from the tier. -/
  | skewIn (g : Fin 216)
  /-- SKEW_LOCAL (R143): Layout operation: writes a skewed tile from a source in the same hearth store. -/
  | skewLocal (g : Fin 216)
  /-- WEIGHT_IN (R143): Layout operation: writes weight tiles delivered by the rick's weight stream engine. -/
  | weightIn (g : Fin 216)
  /-- FILL (R143): Layout operation: writes zeros to rows of the hearth store. -/
  | fill (g : Fin 216)
  /-- LAYOUT_OP_COMPLETE (R144): A layout operation completes and writes its byte-count summary. -/
  | layoutOpComplete (g : Fin 216) (c : Nat)
  /-- VECTOR_ADD (R154): Vector operation A + B. -/
  | vectorAdd (g : Fin 216)
  /-- VECTOR_SUB (R154): Vector operation A − B. -/
  | vectorSub (g : Fin 216)
  /-- VECTOR_MUL (R154): Vector operation A × B. -/
  | vectorMul (g : Fin 216)
  /-- VECTOR_MAX (R156): Vector operation max(A, B). -/
  | vectorMax (g : Fin 216)
  /-- VECTOR_MIN (R156): Vector operation min(A, B). -/
  | vectorMin (g : Fin 216)
  /-- AXPY (R154): Vector operation s0 × A + B with one rounding. -/
  | axpy (g : Fin 216)
  /-- AFFINE (R154): Vector operation s0 × A + s1 with one rounding. -/
  | affine (g : Fin 216)
  /-- MULS (R154): Vector operation (s0 × A rounded to FP32) × B. -/
  | muls (g : Fin 216)
  /-- SEL (R154): Vector operation selecting B where A > s0, and s1 otherwise. -/
  | sel (g : Fin 216)
  /-- ABS (R154): Vector operation |A|. -/
  | abs (g : Fin 216)
  /-- EXP (R155): Transcendental vector operation exp(s0 × (A − s1)). -/
  | exp (g : Fin 216)
  /-- LOG (R156): Transcendental vector operation ln(A). -/
  | log (g : Fin 216)
  /-- RECIP (R156): Transcendental vector operation 1 / A. -/
  | recip (g : Fin 216)
  /-- RSQRT (R156): Transcendental vector operation 1 / √A. -/
  | rsqrt (g : Fin 216)
  /-- SIGM (R154): Transcendental vector operation computing the sigmoid. -/
  | sigm (g : Fin 216)
  /-- SILU (R154): Transcendental vector operation A × SIGM(A). -/
  | silu (g : Fin 216)
  /-- REDUCE_SUM (R159): Reduction: sums each line in the fixed lane and tree order. -/
  | reduceSum (g : Fin 216)
  /-- SUMSQ (R159): Reduction: sums the squares of each line. -/
  | sumsq (g : Fin 216)
  /-- REDUCE_MAX (R157): Reduction: largest value of each line. -/
  | reduceMax (g : Fin 216)
  /-- REDUCE_MIN (R157): Reduction: smallest value of each line. -/
  | reduceMin (g : Fin 216)
  /-- ARGMAX (R158): Reduction: index and value of the largest element of each line. -/
  | argmax (g : Fin 216)
  /-- TOPK (R158): Reduction: the k largest values of each line and their indices. -/
  | topk (g : Fin 216)
  /-- CAST (R163): Conversion: casts between non-block types under RM. -/
  | cast (g : Fin 216)
  /-- QUANT_MX (R167): Conversion: quantises to MXFP8 or MXFP4, with block scales. -/
  | quantMx (g : Fin 216)
  /-- QUANT_G16 (R186): Conversion: encodes G16 blocks. -/
  | quantG16 (g : Fin 216)
  /-- COMPRESS (R168): Conversion: writes the compressed activation form. -/
  | compress (g : Fin 216)
  /-- EXPAND (R163): Conversion: expands block or compressed formats to FP32 or BF16. -/
  | expand (g : Fin 216)
  /-- CONST (R163): Conversion: writes s0, rounded, to every element. -/
  | constFill (g : Fin 216)
  /-- SINIT (R169): Statistics: clears and binds a slot. -/
  | sinit (g : Fin 216)
  /-- SACC (R170): Statistics: adds the elements of A to a slot's counts. -/
  | sacc (g : Fin 216)
  /-- SOUT (R172): Statistics: waits for earlier taps, writes the 512-byte record and clears the counts. -/
  | sout (g : Fin 216)
  /-- PENALIZE (R174): Sampling: applies repetition, presence and frequency penalties from the pair list. -/
  | penalize (g : Fin 216)
  /-- SELECT (R176): Sampling: chooses a token per row by temperature, top-k, top-p and a Philox draw. -/
  | select (g : Fin 216)
  /-- PROBOF (R177): Sampling: gives the probability of the QUERY token. -/
  | probof (g : Fin 216)
  /-- ATTN (R214): Attention pipeline: one single-pass operation of a chain over key rows, with the streaming soft-maximum and the evidence tap. -/
  | attn (g : Fin 216)
  /-- ATTN_COMPLETE (R216): An ATTN operation completes 40 cycles after its busy time, writing its summary. -/
  | attnComplete (g : Fin 216)
  /-- GATHER (R240): KV operation: writes the cache entries of a position range as rows in the hearth store. -/
  | gather (g : Fin 216)
  /-- APPEND (R236): KV operation: writes entries, allocating and copying pages on write. -/
  | kvAppend (g : Fin 216)
  /-- ACCEPT (R239): KV operation: sets the pending length of a model. -/
  | accept (g : Fin 216)
  /-- ATTACH (R244): KV operation: copies a prefix handle's directory into an empty list. -/
  | attach (g : Fin 216)
  /-- SNAP (R246): KV operation: creates a prefix handle sharing a list's map pages. -/
  | snap (g : Fin 216)
  /-- KV_OP_COMPLETE (R241): A KV engine operation completes and writes its summary. -/
  | kvOpComplete (g : Fin 216) (c : Nat)
  /-- ENGINE_OP_COMPLETE (R153): An operation of engines 1 to 5 completes, its results are written and its summary becomes valid. -/
  | engineOpComplete (g : Fin 216) (e : Fin 8)
  /-- STEP_BOUNDARY (R86): All hearths pass the end barrier, and the boundary actions run in order. -/
  | stepBoundary (n : Fin 12) (t : Nat)
  /-- RAKE_PAUSE_END (R63): A rake pause ends when no task is urgent, or at 1,000 µs. -/
  | rakePauseEnd (n : Fin 12) (t : Nat)
  /-- SWITCH_WRITEBACK_DONE (R72): 30 µs after a switch starts, write-back is complete and loading of the incoming cord begins. -/
  | switchWritebackDone (n : Fin 12) (t : Nat)
  /-- SLOT_MAPS_IN_FORCE (R72): 430 µs after a switch starts, the incoming slot maps are in force and any tier S copy begins. -/
  | slotMapsInForce (n : Fin 12) (t : Nat)
  /-- TIER_S_COPY_DONE (R72): Missing shards have been copied from tier S, and the restream prologue begins. -/
  | tierSCopyDone (n : Fin 12) (t : Nat)
  /-- SWITCH_PROLOGUE_DONE (R72): The restream prologue ends and the incoming job's first step begins. -/
  | switchPrologueDone (n : Fin 12) (t : Nat)
  /-- STEP_RECORD_DELIVERY (R358): A NIC engine writes a step record, with any PAD record, into a subscriber ring and updates TAIL. -/
  | stepRecordDelivery (n : Fin 12) (t : Nat)
  /-- BOUNDARY_RECORD (R359): 1 ms after a terminal state or refusal with no committed step, a NOSTEP record is sent. -/
  | boundaryRecord (n : Fin 12) (t : Nat)
  /-- QUEUE_MESSAGE_WRITE (R82): A NIC engine writes a message and its stamp into a queue ring slot. -/
  | queueMessageWrite (n : Fin 12) (q : Fin 16) (stamp : Nat) (msg : List Byte) (t : Nat)
  /-- WRITE_BACK_PAGE (R272): The write-back agent copies one dirty page to tier S and completes flush requests. -/
  | writeBackPage (n : Fin 12) (t : Nat)
  /-- KV_RELEASE_UNIT (R237): A background unit processes reference-count decrements of released lists. -/
  | kvReleaseUnit (n : Fin 12) (t : Nat)
  /-- SCRUB_UNIT (R598): A scrub unit reads its range, rewrites corrected words and poisons uncorrectable pages. -/
  | scrubUnit (n : Fin 12) (t : Nat)
  /-- ARRAY_CHECK_UNIT (R594): A background unit runs the array diagnostic on 32 rows. -/
  | arrayCheckUnit (n : Fin 12) (t : Nat)
  /-- CALIBRATION_UNIT (R594): A background unit calibrates one channel or sensor. -/
  | calibrationUnit (n : Fin 12) (t : Nat)
  /-- AGING_MONITOR_UNIT (R594): A background unit measures one hearth's delay monitor. -/
  | agingMonitorUnit (n : Fin 12) (t : Nat)
  /-- TELEMETRY_UNIT (R599): A background unit reads one rick's counters and sensors. -/
  | telemetryUnit (n : Fin 12) (t : Nat)
  /-- DIGEST_RECHECK (R300): A background unit re-hashes a resident shard copy and poisons it on a mismatch. -/
  | digestRecheck (n : Fin 12) (t : Nat)
  /-- PASS_OVERDUE (R596): A task's pass is incomplete at T_p + I, raising event 0xE058. -/
  | passOverdue (n : Fin 12) (task : Nat) (t : Nat)
  /-- BACKGROUND_WAKE_DUE (R599): A sleeping partition's task reaches its wake instant and starts a background wake. -/
  | backgroundWakeDue (n : Fin 12) (t : Nat)
  /-- CHANNEL_MIGRATION_UNIT (R605): One raking unit copies bursts of a migrating channel to its spare. -/
  | channelMigrationUnit (n : Fin 12) (t : Nat)
  /-- ROW_REPAIR (R606): A DRAM row is copied into a spare row within one raking unit. -/
  | rowRepair (k : Fin 12) (t : Nat)
  /-- SPARE_MANIFEST_STORE (R612): A new SPARE manifest is stored in flash, or the store fails. -/
  | spareManifestStore (ok : Bool) (t : Nat)
  /-- CHANNEL_FAILURE (R607): A bonded channel fails and a spare takes its addresses without a copy, or the rick is degraded. -/
  | channelFailure (k : Fin 12) (ch : Nat) (t : Nat)
  /-- SUBSTRATE_CHANNEL_FAILURE (R608): A substrate channel fails and is recorded, with its reads becoming uncorrectable. -/
  | substrateChannelFailure (k : Fin 12) (ch : Nat) (t : Nat)
  /-- SHARD_ARRIVAL (R296): A fetched shard has arrived, been decrypted and hashed, and becomes RESIDENT or fails. -/
  | shardArrival (n : Fin 12) (w : Fin 8) (shard : Nat) (data : List Byte) (t : Nat)
  /-- REFETCH_COMPLETE (R316): A refetch from some source succeeds, or the set becomes BROKEN when every source fails. -/
  | refetchComplete (n : Fin 12) (w : Fin 8) (shard : Nat) (ok : Bool) (t : Nat)
  /-- HOLD_LIMIT_EXPIRY (R318): HOLD_LIMIT_NS passes with the set still HELD, and in-flight requests of the epoch fail. -/
  | holdLimitExpiry (n : Fin 12) (w : Fin 8) (t : Nat)
  /-- EVICTION_COPY_COMPLETE (R303): The eviction copy of a weight set's region completes, and its tier B span is freed. -/
  | evictionCopyComplete (n : Fin 12) (w : Fin 8) (t : Nat)
  /-- LOAD (R54): Command: checks CORD_IMAGE in order and loads it into LOAD_SLOT. -/
  | load (r : Rq) (n : Fin 12)
  /-- UNLOAD (R87): Command: unloads LOAD_SLOT at the next step boundary. -/
  | unload (r : Rq) (n : Fin 12)
  /-- NAN_CLEAR (R199): Command: empties the NaN record at the next step boundary. -/
  | nanClear (r : Rq) (n : Fin 12)
  /-- HANDLE_RELEASE (R245): Write that releases a prefix handle at the next action 2. -/
  | handleRelease (r : Rq) (n : Fin 12) (v : List Byte)
  /-- REGION_CREATE (R265): Write that creates a tenant region after checks. -/
  | regionCreate (r : Rq) (n : Fin 12) (v : List Byte)
  /-- REGION_DELETE (R266): Write that deletes a region, optionally writing it back first. -/
  | regionDelete (r : Rq) (n : Fin 12) (v : List Byte)
  /-- FLUSH_ALL (R276): Command: queues a flush of every backed region. -/
  | flushAll (r : Rq) (n : Fin 12)
  /-- WSET_REGISTER (R287): Command: registers a manifest in a weight-set slot. -/
  | wsetRegister (r : Rq) (n : Fin 12)
  /-- WSET_FETCH (R295): Command: creates regions and fetches the absent shards of a set. -/
  | wsetFetch (r : Rq) (n : Fin 12)
  /-- WSET_RELEASE (R290): Command: deletes a set's regions and empties the slot. -/
  | wsetRelease (r : Rq) (n : Fin 12)
  /-- EPOCH_SWITCH (R305): Write that requests a job's switch to a weight-set slot. -/
  | epochSwitch (r : Rq) (n : Fin 12) (v : List Byte)
  /-- JOB_DRAIN (R332): Write that begins a job drain at the next action 8. -/
  | jobDrain (r : Rq) (n : Fin 12) (v : List Byte)
  /-- LR_RESUME (R389): Write that resumes a stalled learning job. -/
  | lrResume (r : Rq) (n : Fin 12) (v : List Byte)
  /-- TURN_ARM (R395): Command: checks a plan image and arms the turn. -/
  | turnArm (r : Rq) (n : Fin 12)
  /-- TURN_DISARM (R412): Command: fails the turn member with code DISARMED. -/
  | turnDisarm (r : Rq) (n : Fin 12)
  /-- BUFFER_REG (R430): Write that registers a buffer and returns its RKEY. -/
  | bufferReg (r : Rq) (n : Fin 12) (v : List Byte)
  /-- BUFFER_DEREG (R431): Write that refuses new messages to a buffer and frees it once drained. -/
  | bufferDereg (r : Rq) (n : Fin 12) (v : List Byte)
  /-- BUFFER_FREED (R431): Every accepted message to a deregistered buffer has been written, and the buffer is freed. -/
  | bufferFreed (n : Fin 12) (rkey : Nat) (t : Nat)
  /-- TRIG_OPS (R438): Write that arms a job slot's triggered operations. -/
  | trigOps (r : Rq) (n : Fin 12) (v : List Byte)
  /-- OBJ_INSTALL (R490): Command: checks and installs a signed firmware image or manifest. -/
  | objInstall (r : Rq)
  /-- FW_SVN_COMMIT (R491): Command: raises OBJ_SVN to the running firmware SVNs. -/
  | fwSvnCommit (r : Rq)
  /-- OP_CRED_ADD (R497): Write that adds an operator credential. -/
  | opCredAdd (r : Rq) (v : List Byte)
  /-- OP_CRED_REMOVE (R497): Write that removes an operator credential and closes its sessions. -/
  | opCredRemove (r : Rq) (v : List Byte)
  /-- CRED_ADD (R497): Write that adds a tenant-slot credential. -/
  | credAdd (r : Rq) (ts : Fin 12) (v : List Byte)
  /-- CRED_REMOVE (R497): Write that removes a tenant-slot credential. -/
  | credRemove (r : Rq) (ts : Fin 12) (v : List Byte)
  /-- SETKEY_INSTALL (R501): Write of a set-key install record, which the retort opens and checks. -/
  | setkeyInstall (r : Rq) (ts : Fin 12) (v : List Byte)
  /-- SETKEY_REMOVE (R501): Write that destroys a set key. -/
  | setkeyRemove (r : Rq) (ts : Fin 12) (v : List Byte)
  /-- ATTEST (R503): Command: produces a signed partition attestation report. -/
  | attest (r : Rq) (n : Fin 12) (v : List Byte)
  /-- MODULE_ATTEST (R503): Command: produces a signed module attestation report. -/
  | moduleAttest (r : Rq) (v : List Byte)
  /-- ASH_OUT (R508): Command: stores the next tenant and starts the 3,000 ms ash-out. -/
  | ashOut (r : Rq) (v : List Byte) (flashOk : Bool)
  /-- ASH_OUT_ZEROING_START (R510): At t0 + 150 ms, zeroing of every store begins. -/
  | ashOutZeroingStart (n : Fin 12) (t : Nat)
  /-- ASH_OUT_CHECK (R510): At t0 + 2,950 ms, the completion check passes, or the attempt is repeated under R512. -/
  | ashOutCheck (n : Fin 12) (ok : Bool) (t : Nat)
  /-- ASH_OUT_END (R510): At t0 + 3,000 ms, ASHOUT_COUNT rises, the new tenant is bound and the state returns. -/
  | ashOutEnd (n : Fin 12) (t : Nat)
  /-- WAKE (R525): Command: a tenant wake trigger now. -/
  | wake (r : Rq) (n : Fin 12)
  /-- WAKE_AT_REACHED (R525): Device time reaches WAKE_AT, triggering a wake and clearing the entry. -/
  | wakeAtReached (n : Fin 12) (t : Nat)
  /-- FM_START (R558): Command: starts the frequency-measuring counter. -/
  | fmStart (r : Rq) (k : Fin 12)
  /-- FM_DONE (R558): The counter's gate of 2^g reference cycles ends, and FM_RESULT is written. -/
  | fmDone (k : Fin 12) (count : Nat) (t : Nat)
  /-- RESET_MODULE (R580): Command: performs a module reset. -/
  | resetModule (r : Rq)
  /-- RESET_PARTITION (R581): Command: resets a partition, unloading its cords. -/
  | resetPartition (r : Rq) (v : List Byte)
  /-- RESET_RICK (R582): Command: takes an unassigned rick through state O and bring-up. -/
  | resetRick (r : Rq) (v : List Byte)
  /-- RESET_HEARTH (R582): Command: zeroes and self-tests an unbound hearth. -/
  | resetHearth (r : Rq) (v : List Byte)
  /-- KINDLING_END (R577): Command: drains or unloads the kindling job. -/
  | kindlingEnd (r : Rq) (v : List Byte)
  /-- TRACE_TRIGGER (R630): Command: trigger source 4 for the trace. -/
  | traceTrigger (r : Rq) (n : Fin 12)
  /-- BP_HALT (R634): Command: halts the partition at the lowest hearth's current cycle. -/
  | bpHalt (r : Rq) (n : Fin 12)
  /-- BP_RESUME (R635): Command: resumes a halted partition, optionally for RUN cycles. -/
  | bpResume (r : Rq) (n : Fin 12) (v : List Byte)
  /-- HALT_LIMIT_EXPIRY (R635): A partition halted for HALT_LIMIT_NS resumes as for RUN 0. -/
  | haltLimitExpiry (n : Fin 12) (t : Nat)
  /-- SNAPSHOT (R636): Command: copies a halted hearth's state into SNAP_DATA. -/
  | snapshot (r : Rq) (n : Fin 12) (v : List Byte)
  /-- PERF_CLEAR (R638): Command: zeroes hearth counters at the next step boundary. -/
  | perfClear (r : Rq) (n : Fin 12)
  /-- TRACE_SWEEP (R627): The sweep moves trace records from buffers into the TRACE region. -/
  | traceSweep (n : Fin 12) (t : Nat)
  /-- RICK_MASK (R66): Write of a partition's rick mask, with the degraded-rick path of R499. -/
  | rickMask (r : Rq) (n : Fin 12) (v : List Byte)
  /-- QUEUE_MAP (R655): Write that maps queues to QUEUE regions and resets consumer indices. -/
  | queueMap (r : Rq) (n : Fin 12) (v : List Byte)
  /-- KV_MODELS (R228): Write of KV model records after checks. -/
  | kvModels (r : Rq) (n : Fin 12) (v : List Byte)
  /-- KV_POOL_PAGES (R233): Write of sub-pool sizes after checks. -/
  | kvPoolPages (r : Rq) (n : Fin 12) (v : List Byte)
  /-- TCT_PAIRS (R329): Write of the token-count pairs per request. -/
  | tctPairs (r : Rq) (n : Fin 12) (v : List Byte)
  /-- TCT_REGIONS (R329): Write of the token-count table regions. -/
  | tctRegions (r : Rq) (n : Fin 12) (v : List Byte)
  /-- AUDIT_REGION (R367): Write of the audit region number after checks. -/
  | auditRegion (r : Rq) (n : Fin 12) (v : List Byte)
  /-- EVID_REGION (R367): Write of the evidence staging region after checks. -/
  | evidRegion (r : Rq) (n : Fin 12) (v : List Byte)
  /-- LSTATS_REGION (R391): Write of the learning statistics region after checks. -/
  | lstatsRegion (r : Rq) (n : Fin 12) (v : List Byte)
  /-- TENANT_ID (R495): Write that binds or frees a tenant slot. -/
  | tenantId (r : Rq) (ts : Fin 12) (v : List Byte)
  /-- PART_TENANT (R498): Write that binds a tenant slot to a tenantless partition. -/
  | partTenant (r : Rq) (n : Fin 12) (v : List Byte)
  /-- CONSENT (R504): Write of consent bits, which become effective at the next boundary. -/
  | consent (r : Rq) (n : Fin 12) (v : List Byte)
  /-- PART_CLOCK_MHZ (R548): Write of the configured arithmetic clock, which retunes the idle PLL. -/
  | partClockMhz (r : Rq) (n : Fin 12) (v : List Byte)
  /-- PART_BUDGET_W (R534): Write of a partition power budget after the sum check. -/
  | partBudgetW (r : Rq) (n : Fin 12) (v : List Byte)
  /-- TX_OWNERS (R424): Write of fabric position owner codes, which recomputes the transit plan. -/
  | txOwners (r : Rq) (p : Fin 16) (v : List Byte)
  /-- ETH_OWNERS (R456): Write of Ethernet unit owners, which recomputes the transit plan. -/
  | ethOwners (r : Rq) (e : Fin 8) (v : List Byte)
  /-- CONN_REC (R462): Write of a RoCE connection record, which enables or restarts the connection. -/
  | connRec (r : Rq) (n : Fin 12) (v : List Byte)
  /-- GROUP_REC (R442): Write of a collective group record after checks. -/
  | groupRec (r : Rq) (n : Fin 12) (v : List Byte)
  /-- RING_DESC (R355): Write of a ring descriptor, which takes effect at the next action 2. -/
  | ringDesc (r : Rq) (n : Fin 12) (v : List Byte)
  /-- TRACE_BYTES (R628): Write that recreates the partition's TRACE regions. -/
  | traceBytes (r : Rq) (n : Fin 12) (v : List Byte)
  /-- TRACE_ENABLE (R632): Write that starts or ends the trace. -/
  | traceEnable (r : Rq) (n : Fin 12) (v : List Byte)
  /-- BP_REC (R633): Write of a hearth's comparators and watches. -/
  | bpRec (r : Rq) (n : Fin 12) (v : List Byte)
  /-- KINDLING_PART (R578): Write of the kindling partition, which clears the tenant kindling entries. -/
  | kindlingPart (r : Rq) (v : List Byte)
  /-- PORT_ENABLE (R579): Write of a port enable; a change from 0 to 1 resets and trains the link. -/
  | portEnable (r : Rq) (p : Fin 16) (v : List Byte)
  /-- REGISTER_WRITE (R482): A write or RW1C clear of a dictionary entry that has no row of its own. -/
  | registerWrite (r : Rq) (idx sub : Nat) (v : List Byte)
  /-- HELLO (R467): Dolli HELLO opens a session handshake and is answered by ACCEPT. -/
  | hello (m : HelloMsg) (t : Nat)
  /-- FINISH (R469): Dolli FINISH authenticates the credential and completes the session, or REJECT follows. -/
  | finish (ses seq : Nat) (sigsOk : Bool) (t : Nat)
  /-- FINISH_TIMEOUT (R467): No FINISH arrives within 1 s of ACCEPT. -/
  | finishTimeout (ses t : Nat)
  /-- DOLLI_READ (R474): Dolli READ returns a whole value. -/
  | dolliRead (r : Rq) (idx sub : Nat)
  /-- READ_BLOCK (R474): Dolli READ_BLOCK returns bytes, optionally freezing a snapshot. -/
  | readBlock (r : Rq) (idx sub off len : Nat) (snap : Bool)
  /-- WRITE_BLOCK (R474): Dolli WRITE_BLOCK stages bytes and writes the value once it is complete. -/
  | writeBlock (r : Rq) (idx sub off : Nat) (first last : Bool) (v : List Byte)
  /-- SUBSCRIBE (R476): Dolli SUBSCRIBE registers or cancels notification for an entry. -/
  | subscribe (r : Rq) (idx sub : Nat) (cancel : Bool)
  /-- STORE (R474): Dolli STORE writes class-S values to module flash. -/
  | store (r : Rq) (idx sub : Nat) (flashOk : Bool)
  /-- NOTIFY_SEND (R476): NOTIFY_MIN_NS after a subscribed change, the device sends NOTIFY. -/
  | notifySend (ses idx sub t : Nat)
  /-- NOTIFY_RESEND (R476): An unanswered NOTIFY is resent every 100 ms, and the subscription is removed after 10 resends. -/
  | notifyResend (ses idx sub t : Nat)
  /-- NOTIFY_ACK (R476): The client acknowledges a NOTIFY. -/
  | notifyAck (r : Rq)
  /-- DOLLI_CLOSE (R470): A CLOSE message ends a session. -/
  | dolliClose (r : Rq)
  /-- SESSION_IDLE_TIMEOUT (R470): A session closes after SESSION_IDLE_NS without a valid message. -/
  | sessionIdleTimeout (ses t : Nat)
  /-- STAGING_EXPIRY (R474): Incomplete block staging or a frozen snapshot is discarded after 10 s. -/
  | stagingExpiry (ses idx sub t : Nat)
  /-- STATUS_PROBE (R466): A sessionless STATUS probe is answered with STATUS_REPLY. -/
  | statusProbe (e : Fin 8) (endpoint : Nat) (t : Nat)
  /-- ETHERNET_FRAME_RECEIVE (R461): A received frame enters a partition or collier receive buffer, or is dropped. -/
  | ethernetFrameReceive (e : Fin 8) (frame : List Byte) (fcsOk : Bool) (t : Nat)
  /-- NEIGHBOUR_DISCOVERY (R454): The device answers IPv6 neighbour discovery or IPv4 ARP. -/
  | neighbourDiscovery (e : Fin 8) (target : List Byte) (t : Nat)
  /-- ECHO_REQUEST (R454): The device answers an ICMP or ICMPv6 echo request. -/
  | echoRequest (e : Fin 8) (dst : List Byte) (payload : List Byte) (t : Nat)
  /-- RDMA_WRITE (R463): An inbound RoCE v2 RDMA WRITE is checked and written to a buffer. -/
  | rdmaWrite (m : RoceMsg) (t : Nat)
  /-- RDMA_WRITE_IMM (R447): An inbound RDMA WRITE with immediate writes data and adds ADDV to a counter. -/
  | rdmaWriteImm (m : RoceMsg) (rcounter addv : Nat) (t : Nat)
  /-- RDMA_READ (R463): An inbound RDMA READ is answered. -/
  | rdmaRead (m : RoceMsg) (t : Nat)
  /-- ROCE_ACK_TIMEOUT (R463): An acknowledgement timeout triggers retransmission, and the connection enters ERROR after RETRY. -/
  | roceAckTimeout (n : Fin 12) (c t : Nat)
  /-- RUN_START (R460): At the start of a run, an idle or unassigned run may be lent to a SHARED partition. -/
  | runStart (e : Fin 8) (unit : Nat) (ready : Nat) (t : Nat)
  /-- ETH_LINK_UP (R449): An Ethernet port's link comes up. -/
  | ethLinkUp (e : Fin 8) (t : Nat)
  /-- ETH_LINK_DOWN (R449): An Ethernet port's link goes down. -/
  | ethLinkDown (e : Fin 8) (t : Nat)
  /-- PUT (R418): A fabric PUT message is checked and written, then ACKed and optionally notified. -/
  | put (m : FabMsg) (t : Nat)
  /-- GET_REQUEST (R418): A fabric GET request is checked and answered with a GET response. -/
  | getRequest (m : FabMsg) (t : Nat)
  /-- GET_RESPONSE (R433): A GET response lands, completing the requesting operation. -/
  | getResponse (m : FabMsg) (t : Nat)
  /-- REDUCE_F32 (R440): A reduce message adds FP32 payload into the destination. -/
  | reduceF32 (m : FabMsg) (t : Nat)
  /-- REDUCE_I32 (R440): A reduce message adds INT32 payload into the destination, wrapping. -/
  | reduceI32 (m : FabMsg) (t : Nat)
  /-- COUNTER_ADD (R436): A COUNTER_ADD message raises a receiver counter and may fire armed operations. -/
  | counterAdd (m : FabMsg) (t : Nat)
  /-- TOKEN (R427): A TOKEN message carries a barrier, learning or turn token on the control position. -/
  | token (m : FabMsg) (t : Nat)
  /-- ACK (R436): An ACK completes or fails an operation and raises its LCOUNTER. -/
  | ack (m : FabMsg) (t : Nat)
  /-- MAINT_FLIT (R420): The position-0 MAINT flit delivers ACK, NAK, credits and link control. -/
  | maintFlit (p : Fin 16) (payload : List Byte) (t : Nat)
  /-- TRANSIT_FLIT (R425): A transit flit is forwarded to its paired port position. -/
  | transitFlit (p : Fin 16) (pos : Nat) (flit : List Byte) (t : Nat)
  /-- OP_TIMEOUT (R436): A fired operation not complete after OP_TIMEOUT_NS fails. -/
  | opTimeout (n : Fin 12) (owner op t : Nat)
  /-- TRIGGER_RING_RECORD (R437): A NIC engine takes a trigger-ring record and raises a counter. -/
  | triggerRingRecord (n : Fin 12) (job : Fin 8) (t : Nat)
  /-- ALLREDUCE (R441): Collective command: hierarchical all-reduce. -/
  | allreduce (n : Fin 12) (gr : Fin 64) (t : Nat)
  /-- REDUCE_SCATTER (R441): Collective command: reduce-scatter through stage 2. -/
  | reduceScatter (n : Fin 12) (gr : Fin 64) (t : Nat)
  /-- ALLGATHER (R441): Collective command: all-gather rounds. -/
  | allgather (n : Fin 12) (gr : Fin 64) (t : Nat)
  /-- ALLTOALLV (R446): Collective command: counts-first all-to-all with capacity drops. -/
  | alltoallv (n : Fin 12) (gr : Fin 64) (t : Nat)
  /-- BARRIER (R444): Collective command: barrier over the group. -/
  | barrier (n : Fin 12) (gr : Fin 64) (t : Nat)
  /-- LINK_TRAINING_START (R419): A fabric port begins training on enable, after DOWN, or on PORT_RETRAIN. -/
  | linkTrainingStart (p : Fin 16) (t : Nat)
  /-- PORT_RETRAIN (R419): Command: retrains a fabric port. -/
  | portRetrain (r : Rq) (p : Fin 16)
  /-- EQUALISATION_COMPLETE (R419): At t0 + 8 ms, failed lanes are determined, and the port may go DOWN. -/
  | equalisationComplete (p : Fin 16) (locked : Nat) (t : Nat)
  /-- PEER_IDENTITY_EXCHANGE (R419): At t0 + 8.3 ms, peer identity is compared with EXPECT_PEER. -/
  | peerIdentityExchange (p : Fin 16) (peer : Nat) (t : Nat)
  /-- LINK_UP (R419): At t0 + 8.4 ms, sequences are zeroed, credits granted and the port is UP. -/
  | linkUp (p : Fin 16) (t : Nat)
  /-- TRAINING_TIMEOUT (R419): Training not UP by 100 ms restarts after 1 s. -/
  | trainingTimeout (p : Fin 16) (t : Nat)
  /-- LANE_SWAP (R422): A failing lane is agreed for replacement, and the port idles 4 frames then resumes on lane 8. -/
  | laneSwap (p : Fin 16) (lane : Nat) (t : Nat)
  /-- LANE_SWAP_RESUME (R422): After 5,120 ns of IDLE, the port resumes with lane 8 and replays. -/
  | laneSwapResume (p : Fin 16) (t : Nat)
  /-- PORT_DOWN (R423): A fabric port goes DOWN, failing in-flight messages. -/
  | portDown (p : Fin 16) (t : Nat)
  /-- CABLE_PRESENT (R647): G1 detects a fabric cable, allowing training. -/
  | cablePresent (p : Fin 16) (present : Bool) (t : Nat)
  /-- GATE_TOKEN (R384): A ready token arrives, and when all are held the exchange step starts. -/
  | gateToken (m : FabMsg) (t : Nat)
  /-- GATE_TIMEOUT (R384): The gate wait reaches GATE_NS, and the step starts anyway. -/
  | gateTimeout (n : Fin 12) (t : Nat)
  /-- VOTE_ROUND (R384): Votes are combined around the ring into the verdict. -/
  | voteRound (m : FabMsg) (t : Nat)
  /-- VERDICT_TIMEOUT (R384): No verdict arrives within VERDICT_NS, so a query is sent, and the outcome is unresolved after the second wait. -/
  | verdictTimeout (n : Fin 12) (t : Nat)
  /-- VERDICT_QUERY (R384): A verdict query is answered from history. -/
  | verdictQuery (m : FabMsg) (t : Nat)
  /-- TURN_WRITE (R401): A turn shard write arrives, is checked, hashed in line and acknowledged. -/
  | turnWrite (m : FabMsg) (t : Nat)
  /-- TURN_WRITE_RETRY (R400): A refused turn write is repeated every 1 ms. -/
  | turnWriteRetry (n : Fin 12) (entry t : Nat)
  /-- FINAL (R404): A FINAL token arrives, and shards may become RESIDENT and the set READY. -/
  | turnFinal (m : FabMsg) (t : Nat)
  /-- PARKED (R407): A PARKED token reaches the coordinator, which may decide SWITCH. -/
  | turnParked (m : FabMsg) (t : Nat)
  /-- FAIL (R407): A FAIL token reaches the coordinator, which sends ABORT. -/
  | turnFail (m : FabMsg) (t : Nat)
  /-- SWITCH (R408): A SWITCH token makes the receiver switch GEN_SLOT to the new set. -/
  | turnSwitch (m : FabMsg) (t : Nat)
  /-- ABORT (R410): An ABORT token fails the member with code ABORTED. -/
  | turnAbort (m : FabMsg) (t : Nat)
  /-- UNPARK (R407): An UNPARK token lifts a receiver's hold for one old-epoch slice. -/
  | turnUnpark (m : FabMsg) (t : Nat)
  /-- TURN_QUERY (R409): A turn QUERY is answered from the decision history. -/
  | turnQuery (m : FabMsg) (t : Nat)
  /-- TURN_TOKEN_RESEND (R409): An unacknowledged turn token is repeated every 1 ms. -/
  | turnTokenResend (n : Fin 12) (t : Nat)
  /-- TURN_LIMIT_EXPIRY (R410): TURN_LIMIT_NS runs out before FINAL or PARKED, and the member fails with LIMIT. -/
  | turnLimitExpiry (n : Fin 12) (t : Nat)
  /-- TURN_PARK_EXPIRY (R407): TURN_PARK_NS passes without every PARKED, so UNPARK or QUERY is sent. -/
  | turnParkExpiry (n : Fin 12) (t : Nat)
  /-- SLOT_BOUNDARY (R530): At a slew-window boundary, the damper starts waiting rick wakes in order within the slew limit. -/
  | slotBoundary (t : Nat)
  /-- STAGGER_EXPIRY (R531): STAGGER_NS after a trigger, the partition's ricks become waiting. -/
  | staggerExpiry (n : Fin 12) (t : Nat)
  /-- RICK_WAKE_COMPLETE (R519): A rick completes its wake and reaches state A. -/
  | rickWakeComplete (k : Fin 12) (t : Nat)
  /-- WAKE_BOUND_REACHED (R528): At the trigger time plus the wake bound, the first step after the wake begins. -/
  | wakeBoundReached (n : Fin 12) (t : Nat)
  /-- IDLE_HOLD_EXPIRY (R522): After IDLE_HOLD_NS of idleness, the partition is taken to its chosen deeper state. -/
  | idleHoldExpiry (n : Fin 12) (t : Nat)
  /-- STATE_ENTRY_COMPLETE (R519): A rick finishes entering a power state. -/
  | stateEntryComplete (k : Fin 12) (t : Nat)
  /-- BUDGET_WINDOW (R535): A 1 ms draw mean is compared with the budget, and the running clock is stepped. -/
  | budgetWindow (n : Fin 12) (meanW : Nat) (t : Nat)
  /-- OVERRUN_WINDOW (R536): A 100 ms window over budget at the floor clock counts an overrun. -/
  | overrunWindow (n : Fin 12) (meanW : Nat) (t : Nat)
  /-- EMERGENCY_RAISE (R538): A throttle cause sets every rick to 500 MHz and suspends wakes. -/
  | emergencyRaise (cause : Fin 8) (t : Nat)
  /-- EMERGENCY_END (R539): All causes have been clear for 100 ms, and the throttle ends. -/
  | emergencyEnd (t : Nat)
  /-- PHASE_FAILURE (R517): A conversion phase fails and a spare replaces it, with the third failure raising PHASES. -/
  | phaseFailure (k : Fin 12) (t : Nat)
  /-- INPUT_OUT_OF_RANGE (R518): Input under 32 V for 1 ms or over 46 V for 10 µs takes every rick to O and holds reset. -/
  | inputOutOfRange (mv : Nat) (t : Nat)
  /-- POWER_VALID (R567): The input has been in range for 100 ms after presence, and power-on bring-up begins. -/
  | powerValid (t : Nat)
  /-- PRESENCE_OPEN (R643): PRES_N opens, the hot-swap switch opens and draw is reduced. -/
  | presenceOpen (t : Nat)
  /-- ALERT_ASSERT (R645): ALERT_N is low for 10 µs, setting cause ALERT. -/
  | alertAssert (t : Nat)
  /-- ALERT_RELEASE (R645): ALERT_N has been released for 100 µs, clearing ALERT. -/
  | alertRelease (t : Nat)
  /-- THERMAL_CONDITION (R652): A thermal condition sets or clears cause THERMAL. -/
  | thermalCondition (on : Bool) (t : Nat)
  /-- THERMAL_SHUTDOWN (R652): A junction above 115 °C for 1 ms takes every rick to O and holds reset. -/
  | thermalShutdown (t : Nat)
  /-- THERMAL_RESTART (R653): Junctions have been below 90 °C for 10 s, and the module starts as from power-on. -/
  | thermalRestart (t : Nat)
  /-- REFERENCE_LOSS (R544): The active reference trips, and the other reference is selected within 20 ns. -/
  | referenceLoss (ref : Fin 2) (t : Nat)
  /-- REFERENCE_COMPARE (R543): REF0 and REF1 are compared every 2^20 cycles. -/
  | referenceCompare (ppm : Int) (t : Nat)
  /-- BOTH_REFERENCES_LOST (R545): Both references fail, islands go safe and time runs on the ring oscillator. -/
  | bothReferencesLost (t : Nat)
  /-- REFERENCE_RESTORED (R545): A reference is judged stable again, and the module restarts as from a module reset. -/
  | referenceRestored (ref : Fin 2) (t : Nat)
  /-- SOURCE_STABLE (R550): A started or retuned clock source is judged stable. -/
  | sourceStable (k : Fin 12) (t : Nat)
  /-- SOURCE_TIMEOUT (R551): A source is not stable within STABLE_TIMEOUT_NS and fails. -/
  | sourceTimeout (k : Fin 12) (t : Nat)
  /-- MONITOR_WINDOW (R554): A monitor window of 2^16 reference cycles checks the live PLL's frequency. -/
  | monitorWindow (k : Fin 12) (count : Nat) (t : Nat)
  /-- SOURCE_FAILURE (R556): A live PLL fails, the rick moves to another source and the step is repeated. -/
  | sourceFailure (k : Fin 12) (t : Nat)
  /-- CONTROLLER_CLOCK_FAILURE (R557): A DRAM controller clock fails, and the partition's steps halt until it is stable. -/
  | controllerClockFailure (k : Fin 12) (t : Nat)
  /-- TINDER_START (R560): Tinder checks and admits a firmware bank, or enters the tinder hold. -/
  | tinderStart (okA okB : Bool) (t : Nat)
  /-- COLLIER_READY (R567): The collier is ready, class-S values are loaded and bring-up of the first rick begins. -/
  | collierReady (t : Nat)
  /-- RICK_BRINGUP_START (R568): A rick's bring-up starts from state O at a slot boundary. -/
  | rickBringupStart (k : Fin 12) (t : Nat)
  /-- RICK_READY (R568): At r0 + 2,700 ms, a rick is ready, or is degraded if an event failed. -/
  | rickReady (k : Fin 12) (ok : Bool) (t : Nat)
  /-- FULL_SERVICE (R567): Calibration completes 3,000 ms after the last rick, and full service begins. -/
  | fullService (t : Nat)
  /-- TRIAL_TIMEOUT (R562): A TRIAL bank fails to reach collier ready within 10,000 ms, causing a module reset. -/
  | trialTimeout (t : Nat)
  /-- WATCHDOG_EXPIRY (R564): The collier watchdog expires, so the standby takes over, or the module resets if the standby is alone. -/
  | watchdogExpiry (t : Nat)
  /-- LOCKSTEP_MISMATCH (R564): The collier pair's outputs differ, and the standby takes over from the journal. -/
  | lockstepMismatch (t : Nat)
  /-- KINDLING_START (R574): Both kindling ricks are ready, and the kindling setup, fetch, load and switch run. -/
  | kindlingStart (t : Nat)
  /-- PRESENCE_CLOSE (R643): PRES_N closes on insertion, and once the bulk voltage is within 1.0 V of PC40 and the input is in range the module closes its hot-swap switch. -/
  | presenceClose (bulkmV inmV : Nat) (t : Nat)
  /-- PLUGGABLE_MODULE_INSERT (R648): A pluggable module enters an Ethernet cage; the module reads its management interface, sets ETH_PMD and powers the cage, or leaves it unpowered if it declares more than 15 W. -/
  | pluggableModuleInsert (e : Fin 8) (watts : Nat) (t : Nat)
  /-- ROCE_ACKNOWLEDGEMENT (R463): A RoCE v2 acknowledgement, NAK or RDMA READ response arrives for a transfer that the device issued, completing or retransmitting it (for example the HEAD_ADDR read, shard-file reads and stage-3 writes). -/
  | roceAcknowledgement (n : Fin 12) (c : Nat) (psn : Nat) (nak : Bool) (data : List Byte) (t : Nat)
  /-- TRACE_SAMPLE (R623): When CYCLE reaches a multiple of 2^PROF_LOG2 with SAMPLES selected, each hearth writes a SAMPLE record of busy engines. -/
  | traceSample (n : Fin 12) (t : Nat)
  /-- HEARTH_WEAR_STORE (R621): Every hour the collier writes the stored copy of HEARTH_WEAR to module flash. -/
  | hearthWearStore (t : Nat)
  deriving DecidableEq, Repr

end Sys2Proof
end

