-- ==== Sys2Proof/Config.lean ====
section
/-!
DEFINITION. What the manual fixes outside the machine (cryptography, layouts it does not give) and the
free values it leaves open: constants without a body, so that no proof can see what they are.
-/
namespace Sys2Proof.Config

/-- A fresh free value: the machine reads its counter and advances it (log 1). -/
opaque freeValue : Nat → W64

/-- Distance in units in the last place of a transcendental result from the correctly rounded one, by
operation and operands; the meaning limits it to 2 (R155, R162, R194; log 20). -/
opaque ulpOffset : Nat → Nat → Nat → Int

/-- Whether a stochastic rounding that discards more than 32 bits carries (R165 names only 32 bits; log 21). -/
opaque stochasticWide : Nat → Nat → Nat → Bool

/-- A CAST to INT32 that overflows with SAT clear: R166 states no result (log 22). -/
opaque castInt32Overflow : Bool → Nat → W32

/-- SERIAL, set at manufacture (Table 23-7). -/
opaque serial : List Byte
/-- BOARD_LEVEL, set at manufacture. -/
opaque boardLevel : Nat
/-- MFG_TIME, set at manufacture. -/
opaque mfgTime : Nat
/-- MAC_BASE, set at manufacture (R453). -/
opaque macBase : Nat
/-- CODE_MATRIX, fixed in silicon (R590): the manual does not print the columns. -/
opaque codeMatrix : List Byte
/-- The tray slot pins SLOT3 to SLOT0 (R644). -/
opaque traySlot : Nat
/-- DEVICE_ID, derived from the unique device secret (R486, R487). -/
opaque deviceId : List Byte
/-- CERT_CHAIN, derived at boot (R487). -/
opaque certChain : List Byte

/-- A counter of `w` bits that overflows: the manual names no result (log 5). -/
opaque counterOverflow : Nat → Nat → Nat → Nat

/-! The insides of cord sections whose byte layout the manual does not give (Table 02-3 names their content only;
log 8): each is a function of the section's bytes. -/

/-- STREAMS: the instruction image of a logical hearth. -/
opaque streamOf : List Byte → Nat → List W32
/-- SDATA: the scalar data image of a logical hearth. -/
opaque sdataOf : List Byte → Nat → List Byte
/-- RAKE: start cycle of each raking piece of a step kind. -/
opaque rakeStarts : List Byte → Nat → List Nat
/-- POLL: the poll point at a word address of a logical hearth's stream: queue, slots, cycles. -/
opaque pollPoint : List Byte → Nat → Nat → Option (Nat × Nat × Nat)
/-- POLL: the start-of-step poll of a step kind: queues and slots for each poll. -/
opaque pollStart : List Byte → Nat → List (Nat × Nat)
/-- POLL: whether some POLL instruction of the cord reads a queue. -/
opaque pollReads : List Byte → Nat → Bool
/-- POLL: the step kind is marked yieldable (R70). -/
opaque pollYield : List Byte → Nat → Bool
/-- POLL: the admission records of 24 bytes (Table 11-6). -/
opaque pollAdmission : List Byte → List (List Byte)
/-- POLL: the exchange records of 64 bytes of a learning cord (Table 13-1). -/
opaque pollExchange : List Byte → List (List Byte)
/-- CLAIMS: a claim of Table 02-4 by its number (log 8). -/
opaque claim : List Byte → Nat → Nat
/-- BANK_MAP, FLUE_MAP and DRAM_MAP: check 12 of Table 02-6 holds against the partition's ricks and transit plan. -/
opaque slotMapsOk : List Byte → Nat → Nat → Bool
/-- DRAM_MAP: region offset of the i-th 256-byte weight-stream burst taken by an operation of a logical hearth that
starts at a cycle of a step kind (R298). -/
opaque weightBurst : List Byte → Nat → Nat → Nat → Nat → Nat

/-- What a weight stream delivers when the step's job has no weight set (log 24). -/
opaque noWeights : Nat → Nat → Byte

/-- What a processing element with a defect makes of an output of its column: array, row, column, vector (R139;
log 6). -/
opaque defectOut : Nat → Nat → Nat → Nat → Nat
/-- CHECK of a prefix handle: the retort derives it from a per-partition secret, slot, STEPNO and LIST (R243). -/
opaque handleCheck : Nat → Nat → Nat → Nat → Nat

/-- MEMBERS of a co-cord: the job slots of its two members (R74). -/
opaque memberSlots : List Byte → Nat × Nat

/-- The member steps of one co-cord step in order, 0 the first member and 1 the second (R75). -/
opaque coSteps : List Byte → List Nat

/-! Cryptography (log 33): the manual names the algorithms by their standards. -/

/-- SHA-384. -/
opaque sha384 : List Byte → List Byte
/-- Both signatures of a signature block over the signed bytes verify under a credential record (R52, R486). -/
opaque signaturesOk : List Byte → List Byte → List Byte → Bool
/-- The signatures of a firmware image verify under the keys held in tinder (Table 17-2). -/
opaque firmwareSigOk : List Byte → List Byte → Bool
/-- A signature of the device identity key (R486). -/
opaque deviceSign : List Byte → List Byte
/-- A signature pair of the alias key over a report (R503), under two measurements. -/
opaque aliasSign : List Byte → List Byte → List Byte
/-- The key-wrapping key's public parts: 32 + 1,184 bytes, from the device secret and the measurements (Table 17-1). -/
opaque kwkPublic : List Byte → List Byte
/-- A set-key record opens under the key-wrapping key of the measurements: the set key, none when the encapsulation or
the tag fails (R501). -/
opaque openSetKey : List Byte → List Byte → Option (List Byte)
/-- AES-256-GCM of a shard: key, header, ciphertext and tag; none when the tag fails (R291). -/
opaque openShard : List Byte → List Byte → List Byte → Option (List Byte)
/-- The ACCEPT of a HELLO: the device's key shares and signatures (Table 16-4), by session. -/
opaque acceptBody : Nat → List Byte → List Byte
/-- The public keys that made the signatures of a FINISH (R494). -/
opaque finishKeys : Nat → List Byte
/-- POWERON_ID drawn at a power-on (R488). -/
opaque powerOnId : Nat → Nat
/-- TRANSIT_FP of the transit plan derived from masks and port shares (R68). -/
opaque transitFp : List Nat → List (List Byte) → Nat

/-! Bodies of the tokens and headers whose content the manual names and whose layout it does not give (log 34). -/

/-- A learning token (R384): kind, GROUP, TSTEP, ATTEMPT, member, value. -/
opaque lrBody : Nat → Nat → Nat → Nat → Nat → Nat → List Byte
opaque lrGroup : List Byte → Nat
opaque lrTstep : List Byte → Nat
opaque lrAttempt : List Byte → Nat
opaque lrMember : List Byte → Nat
opaque lrValue : List Byte → Nat
/-- The second round of a vote, or an answer to a query: the value is a verdict. -/
opaque lrIsVerdict : List Byte → Bool
/-- A turn token (Table 14-5): kind, TURN_ID, member, decision. -/
opaque turnBody : Nat → Nat → Nat → Nat → List Byte
opaque turnId : List Byte → Nat
opaque turnMember : List Byte → Nat
/-- What a turn's write carries (R400): TURN_ID, TURN_TSTEP, sender, SHARD. -/
opaque turnWrite : Nat → Nat → Nat → Nat → List Byte
opaque turnTstep : List Byte → Nat
opaque turnShard : List Byte → Nat
/-- A barrier token (R427): group's command SEQ and member. -/
opaque barrierBody : Nat → Nat → Nat → List Byte
opaque barrierGroup : List Byte → Nat
opaque barrierSeq : List Byte → Nat
opaque barrierMember : List Byte → Nat

/-- Die, bank and row of a burst of a bonded channel: stack, physical channel, channel offset; the first 8 bytes of a
ROWS record (log 35). -/
opaque rowOf : Nat → Nat → Nat → List Byte
/-- Sensors that calibration covers in one rick (Table 21-3 gives no count; log 36). -/
opaque sensorCount : Nat

/-- The byte that names a summary register's pending writer in a snapshot: Table 22-10 gives no code (log 49). -/
opaque pendingWriter : Option Nat → Byte

/-- FIRST_POS of a request sub-section that carries no token: Table 12-6 names no value (log 32). -/
opaque firstPosNone : Nat → Nat → Nat

/-- The KEY_IDs of a manifest's shards: they stand in the shard files of its sources, which the device has not read when kindling asks for
them (R291, R574; log 70). -/
opaque kindlingKeys : List Byte → List Byte → List Nat

end Sys2Proof.Config
end

