-- ==== Sys2Proof/Machine/Tab.lean ====
section
/-!
DEFINITION. Sparse tables: lists of (key, value) pairs with strictly rising keys. A key that is not
listed stands for the value a fresh object has. Every indexed store of the machine but byte memory is one.
-/
namespace Sys2Proof.Machine

/-- A table from natural numbers to values, keys strictly rising. -/
abbrev Tab (α : Type) := List (Nat × α)

/-- The value listed for key `k`. -/
def Tab.look {α : Type} : Tab α → Nat → Option α
  | [], _ => none
  | (a, v) :: r, k => if a = k then some v else if k < a then none else Tab.look r k

/-- The table with `v` listed for key `k`. -/
def Tab.put {α : Type} : Tab α → Nat → α → Tab α
  | [], k, v => [(k, v)]
  | (a, x) :: r, k, v =>
    if k < a then (k, v) :: (a, x) :: r else if a = k then (k, v) :: r else (a, x) :: Tab.put r k v

/-- The table without key `k`. -/
def Tab.del {α : Type} (m : Tab α) (k : Nat) : Tab α := m.filter (fun p => p.1 != k)

/-- The value of key `k`, or `d` when none is listed. -/
def Tab.getD {α : Type} (m : Tab α) (k : Nat) (d : α) : α := (Tab.look m k).getD d

/-- The keys from `lo` (included) to `hi` (excluded) that are listed, with their values. -/
def Tab.range {α : Type} (m : Tab α) (lo hi : Nat) : Tab α := m.filter (fun p => decide (lo ≤ p.1 ∧ p.1 < hi))

/-- The table without the keys from `lo` (included) to `hi` (excluded). -/
def Tab.clear {α : Type} (m : Tab α) (lo hi : Nat) : Tab α := m.filter (fun p => !decide (lo ≤ p.1 ∧ p.1 < hi))

/-- Every listed value rewritten by `f`. -/
def Tab.mapV {α : Type} (f : Nat → α → α) (m : Tab α) : Tab α := m.map (fun p => (p.1, f p.1 p.2))

/-- The lowest key from `lo` (included) to `hi` (excluded) that satisfies `p`. -/
def lowestFrom (p : Nat → Bool) (lo : Nat) : Nat → Option Nat
  | 0 => none
  | n + 1 => if p lo then some lo else lowestFrom p (lo + 1) n

/-- Keys strictly rising. -/
def Tab.sorted {α : Type} : Tab α → Bool
  | [] => true
  | [_] => true
  | (a, _) :: (b, y) :: r => decide (a < b) && Tab.sorted ((b, y) :: r)

end Sys2Proof.Machine
end

