-- ==== Sys2Proof/Machine/Bytes.lean ====
section
/-!
DEFINITION. Little-endian fields of byte strings (R11) and small list helpers.
-/
namespace Sys2Proof.Machine

/-- The number a byte string holds, least significant byte first (R11). -/
def leNat : List Byte → Nat
  | [] => 0
  | b :: r => b.toNat + 256 * leNat r

/-- `v` as `n` bytes, least significant byte first (R11). -/
def leBytes : Nat → Nat → List Byte
  | 0, _ => []
  | n + 1, v => BitVec.ofNat 8 v :: leBytes n (v / 256)

/-- `n` bytes of zero. -/
def zeros (n : Nat) : List Byte := List.replicate n 0

/-- `n` bytes of a byte string from offset `o`; bytes past its end read as zero. -/
def bytesAt (l : List Byte) (o n : Nat) : List Byte :=
  let d := (l.drop o).take n
  d ++ zeros (n - d.length)

/-- The `n`-byte field at offset `o`. -/
def fld (l : List Byte) (o n : Nat) : Nat := leNat (bytesAt l o n)

/-- The byte string with the bytes `v` laid over it from offset `o`. -/
def setBytes (l : List Byte) (o : Nat) (v : List Byte) : List Byte :=
  let a := l.take o
  (a ++ zeros (o - a.length)) ++ v ++ l.drop (o + v.length)

/-- The byte string with the `n`-byte field at offset `o` set to `x`. -/
def setFld (l : List Byte) (o n x : Nat) : List Byte := setBytes l o (leBytes n x)

/-- The last `n` elements of a list. -/
def lastOf {α : Type} (n : Nat) (l : List α) : List α := (l.reverse.take n).reverse

/-- Every byte is zero. -/
def allZero (l : List Byte) : Bool := l.all (fun b => b == 0)

/-- Bits `[hi:lo]` of a number. -/
def bits (v hi lo : Nat) : Nat := v / 2 ^ lo % 2 ^ (hi + 1 - lo)

/-- Bit `i` of a number. -/
def bit (v i : Nat) : Bool := v.testBit i

/-- The byte string padded with zeros to a multiple of `n` bytes. -/
def padTo (n : Nat) (l : List Byte) : List Byte := l ++ zeros ((n - l.length % n) % n)

/-- `ceiling(a / b)`. -/
def ceilDiv (a b : Nat) : Nat := (a + (b - 1)) / b

/-- `a` rounded up to a multiple of `b`. -/
def roundUp (a b : Nat) : Nat := ceilDiv a b * b

/-- `clamp(x, lo, hi)` on integers. -/
def clampI (x lo hi : Int) : Int := if x < lo then lo else if hi < x then hi else x

/-- A time rounded down to a multiple of 1,000 ns (R506, Table 17-8). -/
def micro (t : Nat) : Nat := t / 1000 * 1000

/-- Consecutive pieces of `n` bytes of a byte string, `count` of them. -/
def pieces (l : List Byte) (n : Nat) : Nat → List (List Byte)
  | 0 => []
  | c + 1 => bytesAt l 0 n :: pieces (l.drop n) n c

/-- The number of bits set among bits `[n-1:0]`. -/
def popcount (v : Nat) : Nat → Nat
  | 0 => 0
  | n + 1 => popcount v n + (if v.testBit n then 1 else 0)

/-- The numbers below `n` whose bit is set in `v`, ascending. -/
def bitList (v n : Nat) : List Nat := (List.range n).filter (fun i => v.testBit i)

/-- A list sorted by a Boolean order, insertion by insertion (stable). -/
def insertBy {α : Type} (le : α → α → Bool) (x : α) : List α → List α
  | [] => [x]
  | y :: r => if le x y then x :: y :: r else y :: insertBy le x r

/-- A list in ascending order of `le`. -/
def sortBy {α : Type} (le : α → α → Bool) : List α → List α
  | [] => []
  | x :: r => insertBy le x (sortBy le r)

end Sys2Proof.Machine
end

