-- ==== Sys2Proof/Machine/Float.lean ====
section
/-!
DEFINITION. Number formats and exact arithmetic on their values (R181 to R194): a finite value is a sign,
a natural significand and a power of two; every operation is exact and one function rounds.
-/
namespace Sys2Proof.Machine

/-- A value of a number format: NaN, an infinity, or (-1)^neg × m × 2^e. -/
inductive FV where
  | nan
  | inf (neg : Bool)
  | fin (neg : Bool) (m : Nat) (e : Int)
  deriving DecidableEq, Repr

/-- How the top codes of a format read (Table 06-1). -/
inductive Special where
  | ieee
  | e4m3
  | allFinite
  deriving DecidableEq, Repr

/-- A binary element format: exponent width, fraction width, bias, special codes (Table 06-1). -/
structure Fmt where
  eb : Nat
  fb : Nat
  bias : Nat
  sp : Special
  deriving DecidableEq, Repr

/-- FP32 (Table 06-1). -/
def fmtFP32 : Fmt := ⟨8, 23, 127, .ieee⟩
/-- BF16 (Table 06-1). -/
def fmtBF16 : Fmt := ⟨8, 7, 127, .ieee⟩
/-- FP16 (Table 06-1). -/
def fmtFP16 : Fmt := ⟨5, 10, 15, .ieee⟩
/-- FP8 E4M3 (Table 06-1). -/
def fmtE4M3 : Fmt := ⟨4, 3, 7, .e4m3⟩
/-- FP8 E5M2 (Table 06-1). -/
def fmtE5M2 : Fmt := ⟨5, 2, 15, .ieee⟩
/-- E2M1 (Table 06-1). -/
def fmtE2M1 : Fmt := ⟨2, 1, 1, .allFinite⟩
/-- E2M3 (Table 06-1, R168). -/
def fmtE2M3 : Fmt := ⟨2, 3, 1, .allFinite⟩

/-- Bits of one code. -/
def Fmt.width (f : Fmt) : Nat := 1 + f.eb + f.fb

/-- The magnitude code of the largest finite value (Table 06-1). -/
def Fmt.maxMag (f : Fmt) : Nat :=
  match f.sp with
  | .ieee => (2 ^ f.eb - 1) * 2 ^ f.fb - 1
  | .e4m3 => 2 ^ (f.eb + f.fb) - 2
  | .allFinite => 2 ^ (f.eb + f.fb) - 1

/-- The exponent of the least significant bit of a subnormal. -/
def Fmt.qmin (f : Fmt) : Int := 1 - (f.bias : Int) - (f.fb : Int)

/-- The canonical NaN of the format (Table 06-1); a format without one answers its zero. -/
def Fmt.nanCode (f : Fmt) : Nat :=
  match f.sp with
  | .ieee => (2 ^ f.eb - 1) * 2 ^ f.fb + 2 ^ (f.fb - 1)
  | .e4m3 => 2 ^ (f.eb + f.fb) - 1
  | .allFinite => 0

/-- The code of an infinity, where the format has one (Table 06-1). -/
def Fmt.infMag (f : Fmt) : Nat := (2 ^ f.eb - 1) * 2 ^ f.fb

/-- A code with its sign bit. -/
def Fmt.signed (f : Fmt) (neg : Bool) (mag : Nat) : Nat := mag + (if neg then 2 ^ (f.eb + f.fb) else 0)

/-- The value of a code (R181, Table 06-1). -/
def Fmt.decode (f : Fmt) (c : Nat) : FV :=
  let neg := c.testBit (f.eb + f.fb)
  let mag := c % 2 ^ (f.eb + f.fb)
  let e := mag / 2 ^ f.fb
  let fr := mag % 2 ^ f.fb
  if mag ≤ f.maxMag then
    if e = 0 then .fin neg fr f.qmin else .fin neg (2 ^ f.fb + fr) (f.qmin + (e : Int) - 1)
  else if f.sp = .ieee ∧ fr = 0 then .inf neg
  else .nan

/-- Rounding modes (Table 05-7); stochastic carries the random word of the element. -/
inductive RM where
  | nearest
  | zero
  | up
  | down
  | stochastic (word : Nat)
  | odd
  deriving DecidableEq, Repr

/-- Whether a magnitude with kept part `lo` and `d` discarded bits `rem` rounds to `lo + 1` (Table 06-2, R165). -/
def RM.carry (rm : RM) (neg : Bool) (lo rem d : Nat) : Bool :=
  if rem = 0 then false else
  match rm with
  | .nearest => decide (2 ^ d < 2 * rem) || (decide (2 * rem = 2 ^ d) && lo % 2 == 1)
  | .zero => false
  | .up => !neg
  | .down => neg
  | .stochastic w => if d ≤ 32 then decide (2 ^ d ≤ rem + w / 2 ^ (32 - d)) else Config.stochasticWide rem d w
  | .odd => lo % 2 == 0

/-- The magnitude code of `m × 2^e` rounded to the format, its exponent range taken as unbounded above
(R189): code = grid steps above zero. -/
def Fmt.roundMag (f : Fmt) (rm : RM) (neg : Bool) (m : Nat) (e : Int) : Nat :=
  if m = 0 then 0 else
  let q := max ((Nat.log2 m : Int) + e - (f.fb : Int)) f.qmin
  let base := (q - f.qmin).toNat * 2 ^ f.fb
  if q ≤ e then base + m * 2 ^ (e - q).toNat
  else
    let d := (q - e).toNat
    let lo := m / 2 ^ d
    base + lo + (if rm.carry neg lo (m % 2 ^ d) d then 1 else 0)

/-- What a magnitude above the largest finite one becomes (R166, R190). -/
inductive Ovf where
  | inf
  | max
  deriving DecidableEq, Repr

/-- A value rounded into the format: NaN to the canonical NaN, an overflow by `ov` (R166, R189, R190). -/
def Fmt.encode (f : Fmt) (rm : RM) (ov : Ovf) : FV → Nat
  | .nan => f.nanCode
  | .inf neg => f.signed neg (if f.sp = .ieee then f.infMag else f.maxMag)
  | .fin neg m e =>
    let c := f.roundMag rm neg m e
    f.signed neg (if c ≤ f.maxMag then c else if ov = .inf ∧ f.sp = .ieee then f.infMag else f.maxMag)

/-- A magnitude of the format exceeds its largest finite value after rounding to nearest even (Table 05-9). -/
def Fmt.overflows (f : Fmt) : FV → Bool
  | .fin neg m e => decide (f.maxMag < f.roundMag .nearest neg m e)
  | _ => false

/-- Zero of a sign. -/
def FV.zero (neg : Bool) : FV := .fin neg 0 0

/-- The value is a NaN. -/
def FV.isNan : FV → Bool
  | .nan => true
  | _ => false

/-- The value is infinite. -/
def FV.isInf : FV → Bool
  | .inf _ => true
  | _ => false

/-- The value is zero of either sign. -/
def FV.isZero : FV → Bool
  | .fin _ m _ => m == 0
  | _ => false

/-- The value is finite. -/
def FV.isFin : FV → Bool
  | .fin _ _ _ => true
  | _ => false

/-- The value's sign bit; false for NaN. -/
def FV.isNeg : FV → Bool
  | .nan => false
  | .inf n => n
  | .fin n _ _ => n

/-- The value with its sign turned. -/
def FV.neg : FV → FV
  | .nan => .nan
  | .inf n => .inf (!n)
  | .fin n m e => .fin (!n) m e

/-- The magnitude. -/
def FV.abs : FV → FV
  | .nan => .nan
  | .inf _ => .inf false
  | .fin _ m e => .fin false m e

/-- The exact product (IEEE 754-2019 for the special values, R192). -/
def FV.mul : FV → FV → FV
  | .nan, _ => .nan
  | _, .nan => .nan
  | .inf a, .inf b => .inf (a != b)
  | .inf a, .fin b m _ => if m = 0 then .nan else .inf (a != b)
  | .fin a m _, .inf b => if m = 0 then .nan else .inf (a != b)
  | .fin a m e, .fin b n k => .fin (a != b) (m * n) (e + k)

/-- The signed significand of a finite value brought to exponent `k`, not above its own. -/
def alignTo (neg : Bool) (m : Nat) (e k : Int) : Int :=
  let v : Int := (m * 2 ^ (e - k).toNat : Nat)
  if neg then -v else v

/-- The exact sum; an exact zero sum is +0 unless both operands are −0 (IEEE 754-2019, R155). -/
def FV.add : FV → FV → FV
  | .nan, _ => .nan
  | _, .nan => .nan
  | .inf a, .inf b => if a = b then .inf a else .nan
  | .inf a, _ => .inf a
  | _, .inf b => .inf b
  | .fin a m e, .fin b n k =>
    let q := min e k
    let s := alignTo a m e q + alignTo b n k q
    if s = 0 then .fin (a && b) 0 0 else .fin (decide (s < 0)) s.natAbs q

/-- The exact difference. -/
def FV.sub (a b : FV) : FV := a.add b.neg

/-- The quotient to 96 significant bits with a sticky bit below, which rounds as the exact quotient does to
any format of Table 06-1. -/
def FV.div : FV → FV → FV
  | .nan, _ => .nan
  | _, .nan => .nan
  | .inf _, .inf _ => .nan
  | .inf a, .fin b _ _ => .inf (a != b)
  | .fin a _ _, .inf b => .zero (a != b)
  | .fin a m e, .fin b n k =>
    if n = 0 then (if m = 0 then .nan else .inf (a != b)) else
    let s := 96 + Nat.log2 n
    let num := m * 2 ^ s
    .fin (a != b) (2 * (num / n) + (if num % n = 0 then 0 else 1)) (e - k - (s : Int) - 1)

/-- `a < b` on values; false when either is a NaN (IEEE 754-2019). -/
def FV.lt : FV → FV → Bool
  | .nan, _ => false
  | _, .nan => false
  | .inf a, .inf b => a && !b
  | .inf a, .fin _ _ _ => a
  | .fin _ _ _, .inf b => !b
  | .fin a m e, .fin b n k =>
    let q := min e k
    decide (alignTo a m e q < alignTo b n k q)

/-- `a = b` on values: zeros of either sign are equal, a NaN equals nothing. -/
def FV.eqv (a b : FV) : Bool := !a.isNan && !b.isNan && !a.lt b && !b.lt a

/-- `a ≤ b` on values; false when either is a NaN. -/
def FV.le (a b : FV) : Bool := a.lt b || a.eqv b

/-- The larger value, a NaN when either is one (R156, R193). -/
def FV.max (a b : FV) : FV :=
  if a.isNan || b.isNan then .nan else if a.lt b then b else if b.lt a then a
  else if a.isNeg then b else a

/-- The smaller value, a NaN when either is one (R156, R193). -/
def FV.min (a b : FV) : FV :=
  if a.isNan || b.isNan then .nan else if a.lt b then a else if b.lt a then b
  else if a.isNeg then a else b

/-- The exact value of an integer. -/
def FV.ofInt (i : Int) : FV := .fin (decide (i < 0)) i.natAbs 0

/-- The exact value of a natural number. -/
def FV.ofNat (n : Nat) : FV := .fin false n 0

/-- The value scaled by a power of two. -/
def FV.scale (k : Int) : FV → FV
  | .fin n m e => .fin n m (e + k)
  | v => v

/-- `floor(log₂ |v|)` of a finite non-zero value. -/
def FV.floorLog2 : FV → Int
  | .fin _ m e => (Nat.log2 m : Int) + e
  | _ => 0

/-- The value rounded to an integer under `rm` (R189 on the integer grid). -/
def FV.toIntR (rm : RM) : FV → Int
  | .fin neg m e =>
    let mag : Nat :=
      if 0 ≤ e then m * 2 ^ e.toNat
      else
        let d := (-e).toNat
        let lo := m / 2 ^ d
        lo + (if rm.carry neg lo (m % 2 ^ d) d then 1 else 0)
    if neg then -(mag : Int) else (mag : Int)
  | _ => 0

/-- The value a 32-bit FP32 code stands for. -/
def f32v (c : Nat) : FV := fmtFP32.decode c

/-- A value rounded to nearest even to an FP32 code, an overflow to an infinity (R155, R190, R193). -/
def f32c (v : FV) : Nat := fmtFP32.encode .nearest .inf v

/-- A value rounded to FP32 and read back. -/
def f32r (v : FV) : FV := f32v (f32c v)

/-- FP32 addition rounded to nearest even. -/
def f32add (a b : FV) : FV := f32r (a.add b)

/-- FP32 multiplication rounded to nearest even. -/
def f32mul (a b : FV) : FV := f32r (a.mul b)

/-- A finite value as a fixed-point integer with `p` fraction bits, rounded down. -/
def FV.fixed (p : Nat) : FV → Int
  | .fin neg m e =>
    let s := e + (p : Int)
    let v : Int := (m : Int)
    let w := if 0 ≤ s then v * 2 ^ s.toNat else v / 2 ^ (-s).toNat
    if neg then -w else w
  | _ => 0

/-- ln 2 with 192 fraction bits. -/
def ln2Fixed : Int := 4350955369971217654477563090224794165364344896676135745069

/-- Taylor terms of exp on 192 fraction bits, `n` of them from term `i` of value `t`. -/
def expTerms (r : Int) : Nat → Nat → Int → Int
  | 0, _, _ => 0
  | n + 1, i, t => t + expTerms r n (i + 1) (t * r / 2 ^ 192 / ((i : Int) + 1))

/-- The value of exp to far more bits than FP32 holds. -/
def expV : FV → FV
  | .nan => .nan
  | .inf neg => if neg then .zero false else .inf false
  | .fin neg m e =>
    if m = 0 then .fin false 1 0
    else if 8 < (FV.fin neg m e).floorLog2 then (if neg then .fin false 1 (-1000) else .fin false 1 1000)
    else
      let x := (FV.fin neg m e).fixed 192
      let k := x / ln2Fixed
      let r := x % ln2Fixed
      .fin false (expTerms r 48 0 (2 ^ 192)).toNat (k - 192)

/-- Terms of the inverse hyperbolic tangent series on 192 fraction bits: `t^(2i+1)/(2i+1)`. -/
def atanhTerms (t2 : Int) : Nat → Nat → Int → Int
  | 0, _, _ => 0
  | n + 1, i, p => p / (2 * (i : Int) + 1) + atanhTerms t2 n (i + 1) (p * t2 / 2 ^ 192)

/-- The value of the natural logarithm to far more bits than FP32 holds (special values: R156). -/
def lnV : FV → FV
  | .nan => .nan
  | .inf neg => if neg then .nan else .inf false
  | .fin neg m e =>
    if m = 0 then .inf true
    else if neg then .nan
    else
      let l := Nat.log2 m
      let z : Int := (m : Int) * 2 ^ 192 / 2 ^ l
      let t := (z - 2 ^ 192) * 2 ^ 192 / (z + 2 ^ 192)
      let s := 2 * atanhTerms (t * t / 2 ^ 192) 64 0 t + ((l : Int) + e) * ln2Fixed
      .fin (decide (s < 0)) s.natAbs (-192)

/-- The integer square root, bit by bit from bit `n`. -/
def isqrtFrom (v : Nat) : Nat → Nat → Nat
  | 0, r => r
  | n + 1, r => let c := r + 2 ^ n; isqrtFrom v n (if c * c ≤ v then c else r)

/-- The integer square root. -/
def isqrt (v : Nat) : Nat := isqrtFrom v (Nat.log2 v / 2 + 1) 0

/-- The value of the square root to far more bits than FP32 holds. -/
def sqrtV : FV → FV
  | .nan => .nan
  | .inf neg => if neg then .nan else .inf false
  | .fin neg m e =>
    if m = 0 then .fin neg 0 0
    else if neg then .nan
    else
      let s : Nat := 128 + (if e % 2 = 0 then 0 else 1)
      .fin false (isqrt (m * 2 ^ s)) ((e - (s : Int)) / 2)

/-- The value of 1 / √v: RSQRT(−0) is −∞ as IEEE 754-2019 gives rSqrt. -/
def rsqrtV (v : FV) : FV := (FV.fin false 1 0).div (sqrtV v)

/-- The value of 1 / (1 + exp(−v)). -/
def sigmV : FV → FV
  | .nan => .nan
  | .inf neg => if neg then .zero false else .fin false 1 0
  | v => (FV.fin false 1 0).div ((FV.fin false 1 0).add (expV v.neg))

/-- An FP32 transcendental result: the correctly rounded magnitude moved by at most 2 units in the last
place; a NaN, an infinity or an exact zero is not moved (R155, R156; log 20). -/
def within2 (op x y : Nat) (v : FV) : Nat :=
  match v with
  | .fin neg m e =>
    if m = 0 then f32c v else
    let c := fmtFP32.roundMag .nearest neg m e
    let d := clampI (Config.ulpOffset op x y) (-2) 2
    let c' := ((c : Int) + d).toNat
    fmtFP32.signed neg (if fmtFP32.maxMag < c' then fmtFP32.infMag else c')
  | _ => f32c v

end Sys2Proof.Machine
end

