-- ==== Sys2Proof/Machine/Mem.lean ====
section
/-!
DEFINITION. Byte memory: one sorted list of (address, byte) cells for every byte store of the device. An address
that is not listed reads as zero (R256, R592; log 3).
-/
namespace Sys2Proof.Machine

/-- The byte memory: addresses strictly rising, no cell holding zero. -/
abbrev Memory := List Host.Cell

/-- What an address that is not listed reads as (log 3). -/
def Memory.unlisted : Byte := 0

/-- The byte at an address. -/
def Memory.look : Memory → Nat → Byte
  | [], _ => Memory.unlisted
  | (k, v) :: r, a => if k = a then v else Memory.look r a

/-- The cells of a byte string laid at an address, zero bytes left out. -/
def cellsFrom : Nat → List Byte → Memory
  | _, [] => []
  | a, b :: r => if b = Memory.unlisted then cellsFrom (a + 1) r else (a, b) :: cellsFrom (a + 1) r

/-- The memory with the `n` bytes from `a` replaced by the given cells, which lie among them. -/
def Memory.splice (m : Memory) (a n : Nat) (mid : Memory) : Memory :=
  m.filter (fun c => decide (c.1 < a)) ++ mid ++ m.filter (fun c => decide (a + n ≤ c.1))

/-- The memory with a byte string stored at an address. -/
def Memory.store (m : Memory) (a : Nat) (l : List Byte) : Memory := m.splice a l.length (cellsFrom a l)

/-- The memory with `n` bytes from `a` cleared to zero. -/
def Memory.zero (m : Memory) (a n : Nat) : Memory := m.splice a n []

/-- `n` bytes from an address. -/
def Memory.read (m : Memory) (a n : Nat) : List Byte := (List.range n).map (fun i => m.look (a + i))

/-- The memory with `n` bytes copied from `src` to `dst`. -/
def Memory.copy (m : Memory) (src dst n : Nat) : Memory :=
  m.splice dst n ((m.filter (fun c => decide (src ≤ c.1 ∧ c.1 < src + n))).map (fun c => (c.1 - src + dst, c.2)))

/-- The `n`-byte little-endian number at an address (R11). -/
def Memory.num (m : Memory) (a n : Nat) : Nat := leNat (m.read a n)

/-- Addresses strictly rising from `lo`, and no cell holding what an unlisted address reads as. -/
def Memory.wfFrom : Nat → Memory → Bool
  | _, [] => true
  | lo, (k, v) :: r => decide (lo ≤ k) && v != Memory.unlisted && Memory.wfFrom (k + 1) r

/-- The canonical form of the memory. -/
def Memory.wf (m : Memory) : Bool := m.wfFrom 0

/-! The address spaces of the one memory (log 4). -/

/-- First address of a physical hearth's store of 8 MiB (R36). -/
def hearthBase (g : Nat) : Nat := g * 2 ^ 23
/-- Scalar data memory of a physical hearth, working copy (R92). -/
def sdWork (g : Nat) : Nat := 2 ^ 31 + g * 2 ^ 15
/-- Scalar data memory of a physical hearth, committed copy (R92). -/
def sdComm (g : Nat) : Nat := 2 ^ 31 + 2 ^ 24 + g * 2 ^ 15
/-- Stack Dk of tier B, 64 GiB (Table 01-5). -/
def tierB (k : Nat) : Nat := 2 ^ 40 + k * 2 ^ 36
/-- Substrate channel m of tier S, 128 GiB (Table 01-5). -/
def tierS (m : Nat) : Nat := 2 ^ 44 + m * 2 ^ 37
end Sys2Proof.Machine
end

