-- ==== Sys2Proof/Machine/State.lean ====
section
/-!
DEFINITION. The state of the device: plain data. A table whose key is not listed stands for a fresh object
(the default values of the structures below), so that State.reset lists almost nothing.
-/
namespace Sys2Proof.Machine

/-- A fault of the model: the part is outside the conditions under which its manual says what it does. -/
inductive Fault where
  /-- Raised by INPUT_OUT_OF_RANGE beyond the absolute maximum ratings of Table 23-4, where R649 gives no
  behaviour, only that the part may be damaged. Safe: the hardware's behaviour is left unsaid. -/
  | beyondAbsoluteMaximum
  deriving DecidableEq, Repr

/-- A refusal of the model. -/
inductive Refusal where
  /-- Raised by the dispatch for a command that has no meaning yet. Safe: nothing is claimed of it. -/
  | notModelled (mnemonic : String)
  deriving DecidableEq, Repr

/-- The value of a dictionary entry: a number, or the bytes of a BLOB, STR or DIGEST384 (Table 16-8). -/
inductive DVal where
  | num (v : Nat)
  | blob (b : List Byte)
  deriving DecidableEq, Repr

/-- An event record (Table 21-7); DETAIL as the values of R614, one for each 8 bytes. -/
structure Ev where
  code : Nat
  scope : Nat
  persisted : Bool
  tenant : Bool
  seq : Nat
  time : Nat
  detail : List Nat
  deriving DecidableEq, Repr

/-- A summary register Y (R101): value, flags of Table 03-6, and the operation that will write it. -/
structure YReg where
  value : Nat := 0
  flags : Nat := 0
  valid : Bool := false
  writer : Option Nat := none
  deriving DecidableEq, Repr

/-- The summary an operation writes when it completes. -/
structure Summary where
  value : Nat := 0
  flags : Nat := 0
  deriving DecidableEq, Repr

/-- What an operation that has started will do when it completes. -/
structure Result where
  /-- hearth-store address and bytes -/
  writes : List (Nat × List Byte) := []
  /-- the summary, where the descriptor asks for one -/
  sum : Summary := {}
  /-- WHERE of Table 06-4, when the operation produces a NaN -/
  nan : Option Nat := none
  /-- tier address and bytes a layout operation writes -/
  tier : List (Nat × List Byte) := []
  /-- messages of the operation that have not been answered (R433) -/
  msgs : List Nat := []
  /-- rows of values fed to a statistics slot (R171) -/
  feed : Option (Nat × List (List FV)) := none
  /-- SOUT: the slot written and cleared -/
  sout : Option Nat := none
  /-- MMUL: end of its stream and of its write-back phase, with the half (Table 04-6) -/
  wbEnd : Nat := 0
  /-- a trap found while the operation ran (Table 05-12, "during") -/
  trap : Bool := false
  /-- MMUL: its own contribution y_op by array, row, column, as FP32 codes (R135) -/
  yop : List (Nat × List (List Nat)) := []
  /-- MMUL: the checks that failed: array, 1 column or 2 row, first m or n -/
  failed : List (Nat × Nat × Nat) := []
  /-- sampling rows with STATUS 2 or 3 (R180) -/
  bad : Nat := 0
  /-- ATTN: empty rows, evidence records, score-writing operations (R225) -/
  emptyRows : Nat := 0
  evidence : Nat := 0
  scoreOps : Nat := 0
  deriving DecidableEq, Repr

/-- An issued operation: the descriptor copied by ISSUE (R98), where it was issued, and its cycles (R100, R153). -/
structure Op where
  desc : List Byte := []
  seq : Nat := 0
  iaddr : Nat := 0
  word : Nat := 0
  issued : Nat := 0
  started : Bool := false
  start : Nat := 0
  busyEnd : Nat := 0
  done : Nat := 0
  /-- the cycle at which its summary becomes valid; later than `done` by the POST of a reduction -/
  sumAt : Nat := 0
  /-- MMUL: complete, its write-back not yet finished (R129) -/
  complete : Bool := false
  res : Result := {}
  deriving DecidableEq, Repr

/-- What a core that has stopped waits for. -/
inductive Stall where
  | none
  /-- WAITC: the cycle awaited and the cycle at which the wait began (R105) -/
  | waitc (cycle since : Nat)
  /-- BAR: number C, combine FN, destination A, S[B], start (R104) -/
  | bar (c fn a v since : Nat)
  /-- SRD, SFLG or BSUM on an invalid Y, since a cycle (R101) -/
  | summary (y since : Nat)
  /-- FENCE with its mask (R96) -/
  | fence (mask since : Nat)
  /-- STEPEND waits for the engines, naming the next kind (R107) -/
  | stepend (kind since : Nat)
  /-- the core has entered the end barrier -/
  | ended (kind : Nat)
  deriving DecidableEq, Repr

/-- A slot of the statistics unit (R169, R170, Table 06-5). -/
structure StatSlot where
  bound : Bool := false
  tensor : Nat := 0
  base : Int := 0
  elements : Nat := 0
  nzero : Nat := 0
  nans : Nat := 0
  infs : Nat := 0
  /-- overflow and vanish counts of FP16, BF16, E4M3, E5M2, MXFP8, MXFP4, G16, in that order -/
  pairs : List (Nat × Nat) := List.replicate 7 (0, 0)
  /-- 64 bins -/
  hist : List Nat := List.replicate 64 0
  /-- the cycle at which an operation last added to the slot (R172) -/
  added : Nat := 0
  deriving DecidableEq, Repr

/-- A candidate of the evidence tap (R219). -/
structure Cand where
  pos : Nat
  rank : Nat
  scores : List Nat
  deriving DecidableEq, Repr

/-- The tap's state for one position index. -/
structure Tap where
  kept : List Cand := []
  seen : Nat := 0
  nan : Bool := false
  /-- the highest rank key of a candidate that was not kept -/
  ninth : Option Nat := none
  deriving DecidableEq, Repr

/-- The running state of one query row (R210, R214): m and l as FP32 codes, a as FP32 codes. -/
structure QRow where
  q : List Nat := []
  m : Nat := 0xFF800000
  l : Nat := 0
  a : List Nat := []
  any : Bool := false
  bad : Bool := false
  deriving DecidableEq, Repr

/-- The open chain of an attention pipeline (R210). -/
structure Chain where
  desc : List Byte := []
  slopes : List Nat := []
  rows : List QRow := []
  taps : List Tap := []
  nextKpos : Nat := 0
  deriving DecidableEq, Repr

/-- A NaN report (R114, Table 06-4). -/
structure NanRep where
  time : Nat
  lh : Nat
  ph : Nat
  engine : Nat
  iaddr : Nat
  stepno : Nat
  tensor : Nat
  kind : Nat
  wher : Nat
  deriving DecidableEq, Repr

/-- A trace buffer (R626): records waiting to be swept and the pending loss. -/
structure TraceBuf where
  recs : List (List Byte) := []
  lost : Nat := 0
  lostStarts : Nat := 0
  lostCycle : Nat := 0
  /-- the TRIGGER marker of this stream has been written -/
  marked : Bool := false
  /-- records lost since TRACE_ENABLE -/
  lostAll : Nat := 0
  deriving DecidableEq, Repr

/-- Phases of the matrix engine's latest operations (Table 04-6): ends of the weight load and of the stream, start of
the compute phase, and end of the latest write-back of each half. -/
structure MmTimes where
  load : Nat := 0
  comp : Nat := 0
  stream : Nat := 0
  wb0 : Nat := 0
  wb1 : Nat := 0
  deriving DecidableEq, Repr

/-- A message that a NIC engine has sent (Table 15-3, R447): path (1 fabric, 2 network B, 3 network A), sending
partition, positions' tag or connection, message number, and the fields of its header. -/
structure Msg where
  path : Nat
  part : Nat
  tag : Nat
  msgid : Nat
  kind : Nat
  notify : Bool := false
  rcounter : Nat := 0xFFFF
  rkey : Nat := 0
  dest : Nat := 0
  src : Nat := 0
  tenant : Nat := 0
  roff : Nat := 0
  len : Nat := 0
  addv : Nat := 0
  aux : Nat := 0
  body : List Byte := []
  data : List Byte := []
  deriving DecidableEq, Repr

/-- What a message in flight was sent for. -/
inductive Use where
  /-- a row of a layout operation of a hearth: its operation number and the hearth-store address of the row (R433) -/
  | layout (g seq haddr : Nat)
  /-- an armed operation: owner (0 to 7 a job slot, 0x40 + a group) and number (R436) -/
  | armed (owner op : Nat)
  /-- a turn's write of a send entry (R400), and a turn's token by its place among those unacknowledged (R409) -/
  | turn (entry : Nat)
  | turnTok (tok : Nat)
  /-- a step record or a producer count written to a ring, and the read of its HEAD (R358) -/
  | ring (r : Nat)
  | ringHead (r : Nat)
  /-- a shard fetch: set, shard, source (R296) -/
  | shard (w i src : Nat)
  /-- nothing waits for its answer -/
  | other
  deriving DecidableEq, Repr

/-- A message in flight: when it was sent, by what path and position tag, and what for. -/
structure Flight where
  part : Nat
  path : Nat
  /-- the fabric port, or the connection, it left by -/
  via : Nat
  sent : Nat
  len : Nat
  aux : Nat
  use : Use
  deriving DecidableEq, Repr

/-- A weight-set slot (Tables 10-3, 10-4, 10-7). -/
structure WSet where
  st : Nat := 0
  backed : Bool := false
  pinned : Bool := false
  epoch : Nat := 0
  lastUse : Nat := 0
  man : List Byte := []
  digest : List Byte := []
  /-- SHARD_STATE bytes -/
  shards : List Nat := []
  /-- region number by rank; empty while no region exists -/
  regions : List Nat := []
  sources : List Byte := List.replicate 128 0
  /-- the instant its hold began and the state it held before (R289, R318) -/
  heldSince : Option Nat := none
  heldFrom : Nat := 0
  expired : Bool := false
  /-- shards whose tier B or tier S copy is poisoned (R315) -/
  badB : List Nat := []
  badS : List Nat := []
  /-- the source being tried of a shard in fetch or refetch -/
  trying : Tab Nat := []
  /-- step number at which a copy last passed a check, tier B copies by shard and tier S copies by 65,536 + shard -/
  checked : Tab Nat := []
  /-- shards that wait for one of the 16 fetches of the partition (R296) -/
  wanted : List Nat := []
  /-- shards whose re-check is urgent after a refill (R315), and units of the re-check done on the shard under it -/
  urgent : List Nat := []
  /-- an eviction in progress: the regions still to be copied or freed (R303) -/
  evicting : Bool := false
  /-- when the copies of the eviction in progress began -/
  evictAt : Nat := 0
  deriving DecidableEq, Repr

/-- A physical hearth: its core, its engines and its buffers. -/
structure Hearth where
  imem : List W32 := []
  pc : Nat := 0
  cycle : Nat := 0
  regs : Tab W64 := []
  ys : Tab YReg := []
  kind : Nat := 0
  stall : Stall := .none
  opSeq : Nat := 0
  /-- issued operations by engine, oldest first -/
  engs : Tab (List Op) := []
  noted : Bool := false
  nan0 : Bool := false
  nan1 : Bool := false
  nanRep : Option NanRep := none
  stats : Tab StatSlot := []
  /-- accumulator rows by (2 × array + half) × 32,768 + row × 128 + column (R118) -/
  acc : Tab Nat := []
  /-- rows written in this step, by 2 × array + half (Table 04-10) -/
  accRows : Tab Nat := []
  /-- the cycle at which each engine stops being busy (R153) -/
  busy : Tab Nat := []
  mm : MmTimes := {}
  /-- WADDR, WSADDR and weight format of the last operation issued that loads a tile (R127) -/
  tileKey : Option (Nat × Nat × Nat) := none
  /-- bytes of the tile in the active buffer and its scales (R120) -/
  tile : List Byte × List Byte := ([], [])
  /-- processing elements whose output is wrong: array, row, column; a physical condition (R139; log 6) -/
  defects : List (Nat × Nat × Nat) := []
  /-- uncorrectable words of the accumulator buffers: array, half, row; a physical condition (log 6) -/
  badAcc : List (Nat × Nat × Nat) := []
  chain : Option Chain := none
  /-- the descriptor of the last ATTN issued, while its chain is open (R211, R212) -/
  chainDesc : Option (List Byte) := none
  /-- raking piece in progress (R108): its index -/
  piece : Option Nat := none
  /-- this core's mismatches of the attempt: array, check, first (R138) -/
  mism : List (Nat × Nat × Nat) := []
  perfRun : Tab Nat := []
  perf : Tab Nat := []
  trace : TraceBuf := {}
  /-- corrected words over 24 h, margin in ps, consecutive low margins, active hours, mismatch and schedule-fault
  steps over 24 h (HEARTH_WEAR) -/
  corrected : List Nat := []
  margin : Nat := 0
  lowMargins : Nat := 0
  activeHours : Nat := 0
  mismSteps : Tab (List Nat) := []
  faultSteps : List Nat := []
  uncorrectable : Nat := 0
  deriving DecidableEq, Repr

/-- What the device remembers of a request beside its table entry: its last and its OPEN audit block (R363), the
token ids it was given (for a REPLAY block), whether a restart cut its tokens (R361), its order of pausing (R334),
the boundary it was placed at, the handle SNAP made in the step (R361), that its ATTACH was refused or its reads
met a poisoned page (R250), and whether a record has reported its terminal state (R330, R359). -/
structure ReqX where
  prev : Nat := 0
  openSeq : Nat := 0
  tokens : List Nat := []
  discont : Bool := false
  paused : Nat := 0
  placeTime : Nat := 0
  first : Bool := false
  placed : Bool := false
  ntok : Nat := 0
  handle : Nat := 0
  lateNow : Bool := false
  attachBad : Bool := false
  cacheLost : Bool := false
  endTime : Nat := 0
  refusedTake : Bool := false
  reported : Bool := false
  tctEvent : Bool := false
  replayAddr : Nat := 0
  deriving DecidableEq, Repr

/-- A directory: the committed and pending lengths of models 0 to 3 and the map-page references (Table 08-2). -/
structure Dir where
  len : List Nat := [0, 0, 0, 0]
  pend : List (Option Nat) := [none, none, none, none]
  ents : Tab Nat := []
  deriving DecidableEq, Repr

/-- A prefix handle (R243, R244). -/
structure Handle where
  check : Nat := 0
  /-- lengths of models 0 to 3 -/
  len : List Nat := [0, 0, 0, 0]
  epoch : Nat := 0
  pinned : Bool := false
  lastAttach : Nat := 0
  releasing : Bool := false
  deriving DecidableEq, Repr

/-- What one attempt of a step did to the KV cache, for R242, R247 and R248. -/
structure KvJournal where
  /-- data pages allocated: rick, list, model, first position, page, and the index of the map entry -/
  alloc : List (Nat × Nat × Nat × Nat × Nat × Nat) := []
  /-- entries appended so far: (rick, list, model, layer), highest end -/
  appended : List ((Nat × Nat × Nat × Nat) × Nat) := []
  /-- handles created: source list, slot, and the ricks that have issued the SNAP -/
  handles : List (Nat × Nat × List Nat) := []
  /-- lists attached -/
  attached : List Nat := []
  /-- ACCEPT, ATTACH and SNAP operands issued on each rick, in order, with the logical hearth and the ISSUE's address (R242) -/
  seqs : List (Nat × Nat × Nat × List Byte) := []
  deriving DecidableEq, Repr

/-- A halt of a partition (R634, Table 22-9): cause, index, hearth and address of the hit, the cycle of the hit,
the cycle at which every core stops, the hits after it, and the device time since which it has been halted. -/
structure Halt where
  cause : Nat
  index : Nat
  lh : Nat
  iaddr : Nat
  daddr : Nat
  stepno : Nat
  cycle : Nat
  stop : Nat
  hits : Nat := 0
  since : Option Nat := none
  deriving DecidableEq, Repr

/-- The trigger of a trace (R630): source, DATA of its marker, cycle and step, and whether it places its marker
by cycle. -/
structure Trigger where
  source : Nat
  data : Nat
  cycle : Nat
  stepno : Nat
  deriving DecidableEq, Repr

/-- Where a partition stands between and within steps. -/
inductive Phase where
  /-- no step runs -/
  | idle
  /-- a step runs -/
  | running
  /-- the wait for the verdict of an exchange attempt: since when, and whether the query is out (R384) -/
  | verdict (since : Nat) (query : Bool)
  /-- a rake pause of action 5 or 6: since when, and whether a remap is taken in it (R63, R79) -/
  | pause (since : Nat) (remap : Bool)
  /-- a job switch to a job slot, by its events of Table 02-7, with the instant at which each began: write-back, loading, copy from tier S,
  prologue -/
  | switchOut (j t0 : Nat)
  | switchMaps (j t0 : Nat)
  | switchCopy (j t0 : Nat)
  | switchPrologue (j t0 : Nat)
  /-- the hold of R402 before the gate, and the gate wait of R384: since when -/
  | turnHold
  | gate (since : Nat)
  deriving DecidableEq, Repr

/-- A flush request taken (R275): SEQ, or none for FLUSH_ALL, and the pages still to be examined: region, offset. -/
structure FlushReq where
  seq : Option Nat
  pages : List (Nat × Nat)
  deriving DecidableEq, Repr

/-- A subscriber ring (R355, R358): the descriptor in force and the one written, producer and cached consumer counts,
records lost since the last written, records waiting for delivery, and the message number of a HEAD read. -/
structure Ring where
  desc : List Byte := []
  next : Option (List Byte) := none
  prod : Nat := 0
  cons : Nat := 0
  lost : Nat := 0
  recs : List (List Byte) := []
  reading : Option Nat := none
  deriving DecidableEq, Repr

/-- A job slot and the cord it holds (empty image: no cord). -/
structure Job where
  img : List Byte := []
  /-- the other member's slot of a loaded co-cord (R74) -/
  partner : Option Nat := none
  /-- a first member of a co-cord, and the steps its co-cord step consists of (R75) -/
  coSteps : List Nat := []
  /-- the step kind that its next step runs (R106, R107) -/
  kind : Nat := 0
  /-- a copy of its hearth stores and scalar data was saved at a switch (R72, R93) -/
  saved : Bool := false
  /-- weight-set slot of its pending switch, and the number of steps of the partition at which it was requested -/
  pendSwitch : Option Nat := none
  /-- the older epoch of a drain, STEP_COUNT when it began, and the epoch of its last step (R311, R313) -/
  oldEpoch : Option Nat := none
  oldSet : Nat := 0xFF
  drainAt : Nat := 0
  lastEpoch : Nat := 0
  /-- a JOB_DRAIN waits for action 8; a job drain is in progress (R332) -/
  drainReq : Bool := false
  draining : Bool := false
  /-- UNLOAD waits for the boundary -/
  unloadReq : Bool := false
  /-- it yielded its slice (R70) -/
  yielded : Bool := false
  /-- number of its last committed step -/
  lastStep : Nat := 0
  /-- instant of the first terminal state or refusal no record has reported (R359) -/
  unreported : Option Nat := none
  /-- the next step repeats a discarded exchange; the next step is the first after LR_RESUME (Table 13-2) -/
  repeatX : Bool := false
  resumed : Bool := false
  /-- attempts counted towards LR_REPEAT_LIMIT since LR_RESUME (R389) -/
  lrBase : Nat := 0
  /-- one old-epoch slice may run under the turn's hold (UNPARK, R407) -/
  unparked : Bool := false
  /-- header fields of its last record: epoch, kind, start, end (R359) -/
  lastHdr : Nat × Nat × Nat × Nat := (0, 0, 0, 0)
  /-- learning (R384): ready tokens held as (TSTEP, ATTEMPT, member); the vote cast; a ring vote that waits for it;
  the verdict held for the attempt; the history of verdicts as (TSTEP, ATTEMPT, verdict); accepted pieces of the
  attempt; a stale piece was reported in it; a verdict 1 arrived for the training step (R386) -/
  lrTokens : List (Nat × Nat × Nat) := []
  lrVote : Option (Nat × Nat × Nat) := none
  lrRing : List (Nat × Nat × Nat) := []
  lrVerdict : Option Nat := none
  lrHist : List (Nat × Nat × Nat) := []
  lrPieces : Nat := 0
  lrStale : Bool := false
  lrForce : Bool := false
  /-- the cord is being reloaded after a failed step (R604) -/
  reload : Bool := false
  /-- the co-cord image, kept with its first member; the member images are those of the two job slots (R74) -/
  coImg : List Byte := []
  deriving DecidableEq, Repr

/-- A channel migration (R605): logical channel, spare, units copied, and where it stands: 0 waits for the next boundary,
1 copying, 2 its manifest is being stored, 3 waits for the boundary after the store. -/
structure Mig where
  logical : Nat
  spare : Nat
  done : Nat := 0
  st : Nat := 0
  deriving DecidableEq, Repr

/-- The SPARE manifest's content (Table 21-6) with its SVN: bindings that differ from Lk·16+j to Hk.j, retired hearths,
ARRAY bytes by physical hearth, CHANNELS bytes that are not 0xFF, ROWS records, failed substrate channels. -/
structure Spare where
  svn : Nat := 0
  remap : Tab Nat := []
  retired : List Nat := []
  arrays : Tab (List Byte) := []
  chans : Tab Nat := []
  rows : List (List Byte) := []
  schan : List Nat := []
  deriving DecidableEq, Repr

/-- A pass of a background task (R595): T_p, units done, the instant of completion, and whether it was found overdue. -/
structure Task where
  tp : Nat := 0
  done : Nat := 0
  fin : Option Nat := none
  late : Bool := false
  deriving DecidableEq, Repr

/-- A registered buffer (R430). -/
structure Buf where
  region : Nat
  mode : Nat
  owner : Nat
  off : Nat
  len : Nat
  /-- deregistered: no new message is accepted (R431) -/
  closed : Bool := false
  deriving DecidableEq, Repr

/-- Counters and armed operations of an owner (R435, R436): operations fired: 1 in flight, 2 complete, 3 failed; the
SEQ of the next trigger-ring record. -/
structure Trig where
  ops : List (List Byte) := []
  ctrs : Tab Nat := []
  fired : Tab Nat := []
  next : Nat := 0
  deriving DecidableEq, Repr

/-- A group record with its slot list, the SEQ of its next command, the command that runs, its drops, and barrier tokens
held as (SEQ, member) (R442 to R446). -/
structure Group where
  bytes : List Byte := []
  slots : List Byte := []
  next : Nat := 0
  cmd : Option (List Byte) := none
  dropped : Nat := 0
  tokens : List (Nat × Nat) := []
  deriving DecidableEq, Repr

/-- A connection (R462, R463): its record, state, next send and next expected packet number, retransmissions so far,
and the messages outstanding with the packet number of their last packet. -/
structure Conn where
  bytes : List Byte := []
  st : Nat := 0
  sq : Nat := 0
  rq : Nat := 0
  tries : Nat := 0
  since : Nat := 0
  out : List (Nat × Nat) := []
  deriving DecidableEq, Repr

/-- A fabric port: the last event of Table 15-4 done and its t0, blocked by a peer mismatch, cable present, lanes locked,
a swap agreed (lane, frame time), and by owner code the next SEQ to send, the SEQ acknowledged, credits, the SEQ
expected; the flits it has forwarded as (position, bytes). -/
structure FPort where
  ev : Nat := 0
  t0 : Nat := 0
  blocked : Bool := false
  present : Bool := false
  locked : Nat := 0x1FF
  swap : Option (Nat × Nat) := none
  tx : Tab Nat := []
  acked : Tab Nat := []
  credits : Tab Nat := []
  rx : Tab Nat := []
  out : List (Nat × List Byte) := []
  deriving DecidableEq, Repr

/-- An Ethernet port: parked under R452; a pluggable module above 15 W (R648); receive-buffer bytes held by partition
(R461, R527) with the frames; the round-robin pointer of lent runs; the run that began last (unit, owner, lent to);
frames sent; STATUS probes answered in the second that began at an instant; the last 0xE106 by partition. -/
structure EPort where
  parked : Bool := false
  starved : Bool := false
  held : Tab (List (List Byte)) := []
  robin : Nat := 0
  run : Option (Nat × Nat × Option Nat) := none
  sent : List (List Byte) := []
  probes : Nat × Nat := (0, 0)
  dropAt : Tab Nat := []
  deriving DecidableEq, Repr

/-- A turn of a partition (Tables 14-1, 14-6, 14-7): its plan image, state, failure code, hold; the counters of the
attempt; entries fired in it, acknowledged, refused and waiting for a retry; shards landed with their digests; senders
whose FINAL arrived; tokens not yet acknowledged, as (number, token, member); PARKED tokens held; the times of
TURN_STATUS and of the first PARKED; the coordinator's decision; when this receiver sent PARKED; whether an attempt has
begun and TURN_TSTEP has committed. -/
structure Turn where
  img : List Byte := []
  st : Nat := 0
  fail : Nat := 0
  hold : Bool := false
  ctrs : Tab Nat := []
  fired : List Nat := []
  acked : List Nat := []
  retry : List Nat := []
  landed : Tab (List Byte) := []
  finals : List Nat := []
  sentFinal : Bool := false
  tokens : List (Nat × Nat × Nat) := []
  tokCount : Nat := 0
  parked : List Nat := []
  parkAt : Option Nat := none
  armAt : Nat := 0
  readyAt : Nat := 0
  decidedAt : Nat := 0
  decision : Option Bool := none
  ownPark : Option Nat := none
  began : Bool := false
  committed : Bool := false
  /-- decisions of the last 4 turns: TURN_ID and whether it was SWITCH (R409) -/
  hist : List (Nat × Bool) := []
  deriving DecidableEq, Repr

/-- A subscription (R476): entry, REQ_ID, changes since SUBSCRIBE, the value last seen, the last sending and resends. -/
structure Sub16 where
  key : Nat
  id : Nat
  changes : Nat := 0
  last : Option DVal := none
  sentAt : Option Nat := none
  acked : Bool := true
  resends : Nat := 0
  dirty : Bool := false
  deriving DecidableEq, Repr

/-- A Dolli message sent: session, kind (Table 16-3), OP, STATUS or error, TYPE, entry, REQ_ID, OFFSET, TOTAL, data. -/
structure Reply where
  ses : Nat
  kind : Nat
  op : Nat := 0
  status : Nat := 0
  ty : Nat := 0
  key : Nat := 0
  id : Nat := 0
  off : Nat := 0
  total : Nat := 0
  data : List Byte := []
  deriving DecidableEq, Repr

/-- A Dolli session (R467 to R476). -/
structure Session where
  role : Nat := 0
  net : Nat := 0
  tenant : Nat := 0
  cred : Nat := 0
  /-- FINISH was accepted -/
  live : Bool := false
  since : Nat := 0
  last : Nat := 0
  top : Nat := 0
  seen : List Nat := []
  kept : List (Nat × Reply) := []
  subs : List Sub16 := []
  /-- staged blocks by entry: pieces (offset, bytes) in order of arrival, the total once LAST was seen, and the instant -/
  stage : Tab (List (Nat × List Byte) × Option Nat × Nat) := []
  /-- frozen copies by entry: instant and value -/
  snaps : Tab (Nat × List Byte) := []
  deriving DecidableEq, Repr

/-- An ash-out in progress: start of the attempt, attempt, event reached, the tenant slot that follows, the check of the
attempt failed (Table 17-10, R512). -/
structure Ash where
  t0 : Nat
  attempt : Nat
  event : Nat
  next : Nat
  bad : Bool := false
  dead : Bool := false
  deriving DecidableEq, Repr

/-- A rick. -/
structure Rick where
  nic : TraceBuf := {}
  /-- power state: 0 A, 1 S, 2 B, 3 C, 4 O (Table 18-2) -/
  pst : Nat := 4
  /-- a wake or an entry in progress: target state and start (R519) -/
  move : Option (Nat × Nat) := none
  /-- since when the rick waits for the start of its wake, at the first slot boundary (R530) -/
  waiting : Option Nat := none
  deferred : Bool := false
  /-- start of its bring-up (Table 20-2) -/
  bringup : Option Nat := none
  /-- its islands are stopped for want of a source (R555); its DRAM controllers have no clock since (R557) -/
  stopped : Bool := false
  ctrlDead : Option Nat := none
  /-- PLLs started and not yet judged: PLL 2 or 3, start, target in MHz; those judged stable; the frequency of each -/
  starting : Option (Nat × Nat × Nat) := none
  stable : List Nat := []
  freq : Tab Nat := []
  /-- source failures of its live PLL in the step (R556) -/
  srcFails : Nat := 0
  /-- an operator measurement in progress: source and the end of its gate (R558) -/
  measuring : Option (Nat × Nat) := none
  /-- times of schedule faults attributed to its flue router or DRAM controller (Table 21-4, order 10) -/
  schedFaults : List Nat := []
  /-- corrected bursts by physical channel, and by row record, over 24 h (Table 21-4, orders 7 and 8) -/
  chanCe : Tab (List Nat) := []
  rowCe : List (List Byte × Nat) := []
  /-- uncured uncorrectable bursts by physical channel: row and time (order 9) -/
  chanUe : Tab (List (List Byte × Nat)) := []
  /-- channel migration in progress and those that wait (R605) -/
  mig : Option Mig := none
  migWait : List Nat := []
  /-- rows decided for repair and copied, not yet in force (R606) -/
  rowsDue : List (List Byte) := []
  /-- failed substrate channels (R608) -/
  schan : List Nat := []
  /-- since when the rick is degraded (R81) -/
  degradedAt : Option Nat := none
  deriving DecidableEq, Repr

/-- The rick's gated logic runs: power state A, no transition, its islands clocked. -/
def Rick.on (r : Rick) : Bool := r.pst == 0 && r.move.isNone && !r.stopped

/-- A partition. -/
structure Part where
  phase : Phase := .idle
  /-- step kind, device time of the start barrier, and attempt of the step in progress -/
  kind : Nat := 0
  stepT0 : Nat := 0
  /-- start of the first attempt of the step -/
  firstT0 : Nat := 0
  attempt : Nat := 0
  /-- this attempt met a schedule fault; schedule faults of this step so far (R49) -/
  schedFault : Bool := false
  schedFaults : Nat := 0
  /-- a fatal trap stopped the partition at this cycle of the step (R110) -/
  trapAt : Option Nat := none
  halt : Option Halt := none
  /-- comparators and watches in force, and those waiting for a boundary, by logical hearth (R633) -/
  bp : Tab (List Byte) := []
  bpNext : Tab (List Byte) := []
  trig : Option Trigger := none
  lossEvent : Bool := false
  traceEnded : Bool := false
  /-- epoch in force for the step (R307) -/
  stepEpoch : Nat := 0
  /-- raking pieces of the step done, and whether one is in progress (R108) -/
  pieces : Nat := 0
  inPiece : Bool := false
  perfLost : Nat := 0
  /-- job slot of the step (ACTIVE_SLOT while one runs) -/
  job : Nat := 0
  /-- number of the last committed step -/
  lastStep : Nat := 0
  /-- pages awaiting release: rick, page, whether a map page (R237) -/
  releases : List (Nat × Nat × Bool) := []
  kv : KvJournal := {}
  /-- counts staged by the running attempt, added at its commit (R225, R180) -/
  emptyRows : Nat := 0
  evidence : Nat := 0
  scoreOps : Nat := 0
  badRows : Nat := 0
  /-- a read met an uncorrectable word: the attempt is to be repeated (Table 04-10) -/
  ueDiscard : Bool := false
  /-- pages to be refilled from tier S in the rake pause of the boundary: rick, stack offset (Table 09-8) -/
  refill : List (Nat × Nat) := []
  /-- a read of data that cannot be recovered: the cord is unloaded at the step's end (Table 09-8) -/
  lostData : Bool := false
  /-- weight-set slot the step streams; 0xFF for none (R307) -/
  stepSet : Nat := 0xFF
  /-- T_e of the last boundary (R338), and the step kind named there -/
  te : Nat := 0
  bkind : Nat := 0
  /-- the attempt that ended was discarded and the step is to be repeated (R138) -/
  again : Bool := false
  /-- waits that belong to the step about to run: rake pause and gate (R57, R388) -/
  waitNs : Nat := 0
  /-- attempts with a mismatch, and the arrays that mismatched in the first (Table 04-8) -/
  mmCount : Nat := 0
  mmFirst : List (Nat × Nat) := []
  /-- arrays to be diagnosed in the pause: physical hearth and array -/
  diag : List (Nat × Nat) := []
  /-- hearths whose contents were lost in the remap: the step that follows is a failed step (R80, R604) -/
  lostHearth : Bool := false
  /-- passes of the background tasks by their row in Table 21-3 (R595) -/
  tasks : Tab Task := []
  /-- wake trigger: instant, class (1 tenant, 2 background, 3 ash-out), and the state it woke from (R525) -/
  trigger : Option (Nat × Nat × Nat) := none
  /-- the first step after the wake begins at this instant (R528) -/
  firstStep : Option Nat := none
  wakeDeferred : Bool := false
  /-- consecutive 1 ms means below 95 % of the budget; the running clock waiting for a boundary; the last 100 ms window
  overran (R535, R536) -/
  lowMeans : Nat := 0
  clkNext : Option Nat := none
  overran : Bool := false
  ash : Option Ash := none
  /-- the latest instant any unavailability interval has covered (R618), and the start of an unload's interval -/
  cover : Nat := 0
  downSince : Option (Nat × Nat) := none
  /-- a turn's SWITCH asks for the slice of this job (R408) -/
  turnJob : Option Nat := none
  /-- buffers registered so far (R430) -/
  rkeys : Nat := 0
  /-- the partition has been degraded by a rick (R81) -/
  degraded : Bool := false
  /-- the slice: when its first step began, its length in ms, and the plan entry after it -/
  sliceAt : Option Nat := none
  sliceMs : Nat := 0
  planPos : Nat := 0
  /-- index of the member step within the co-cord step -/
  coIdx : Nat := 0
  /-- the job switch in progress began in a partition without a step boundary (R306) -/
  fromIdle : Bool := false
  /-- a poll of the step found or left a message (R70) -/
  polled : Bool := false
  /-- batch slots of the step that hold a request: slot, entry -/
  batch : List (Nat × Nat) := []
  /-- every slot of the step was padded under R365 -/
  stalled : Bool := false
  /-- SUBMITs refused at take that no record has reported: job, CLIENT_TAG, code, RING -/
  refused : List (Nat × Nat × Nat × Nat) := []
  /-- NAN_CLEAR and PERF_CLEAR wait for the boundary -/
  nanClear : Bool := false
  perfClear : Bool := false
  /-- RND_SEED in force (R180) -/
  seed : Nat := 0
  /-- flush requests taken, and the sequence number expected next (R273, R274; log 31) -/
  flush : List FlushReq := []
  flushNext : Nat := 1
  /-- requests paused so far, for their order of pausing (R334) -/
  pauses : Nat := 0
  /-- PART_PERF (R639): committed step time, longest committed step, time halted, in ns; halts; discarded attempts -/
  perfTime : Nat := 0
  perfMax : Nat := 0
  perfHalted : Nat := 0
  perfHalts : Nat := 0
  perfDiscards : Nat := 0
  /-- the step that runs contained a halt, and how long its halts lasted so far (R115) -/
  halted : Bool := false
  haltNs : Nat := 0
  /-- since when the partition has been idle without interruption (R522) -/
  idleSince : Option Nat := none
  /-- the running clock that takes effect at the next boundary (R535, R553), and the emergency throttle's 500 MHz -/
  clkReady : Option Nat := none
  floorNow : Bool := false
  deriving DecidableEq, Repr

/-- What is held for a sleeping partition (R527): a fabric message of a row, numbered in the order of the table from PUT, an RDMA transfer (0 WRITE, 1 WRITE with
immediate, 2 READ) with its immediate, and a received frame by port. -/
inductive Held where
  | fab (row : Nat) (m : FabMsg)
  | roce (op : Nat) (m : RoceMsg) (rcounter addv : Nat)
  deriving DecidableEq, Repr

/-- A Dolli command that an eviction copy holds up (R303). -/
inductive Waiting where
  | region (r : Rq) (op n : Nat) (v : List Byte)
  | fetch (r : Rq) (n : Nat)
  | arm (r : Rq) (n : Nat)
  deriving DecidableEq, Repr

/-- The request of a command that waits. -/
def Waiting.rq : Waiting → Rq
  | .region r _ _ _ => r
  | .fetch r _ => r
  | .arm r _ => r
/-- Its session. -/
def Waiting.ses (w : Waiting) : Nat := w.rq.ses
/-- Its REQ_ID. -/
def Waiting.id (w : Waiting) : Nat := w.rq.id

/-- The whole device: what it holds, and the queue of commands that wait for it. -/
structure State where
  /-- the commands that wait, first in, first out -/
  pending : List Instr := []
  /-- commands that an eviction copy holds up (R303): they answer when it completes -/
  waits : List Waiting := []
  /-- messages and RDMA transfers held for a sleeping partition, oldest first (R527) -/
  held : Tab (List Held) := []
  /-- device time in nanoseconds (R14, R542) -/
  now : Nat := 0
  /-- the model's own counter of free values drawn -/
  free : Nat := 0
  /-- every byte store of the device, by the address spaces of Machine/Ops.lean -/
  mem : Memory := []
  /-- dictionary values in force that differ from the default -/
  dict : Tab DVal := []
  /-- stored copies of class-S entries in module flash (R483) -/
  stored : Tab DVal := []
  /-- physical hearths, by number (R23, R28) -/
  hearths : Tab Hearth := []
  /-- partitions P0 to P11 (R65) -/
  parts : Tab Part := []
  /-- the event log (R613, R616) -/
  events : List Ev := []
  /-- the persisted event log, in module flash (R616) -/
  persisted : List Ev := []
  /-- the event log of each partition (R617) -/
  partEvents : Tab (List Ev) := []
  /-- 16-byte words of the stores that hold an uncorrectable word, and those that hold a correctable error (R591,
  R592): physical conditions, which the errors themselves put there (log 6) -/
  bad : List Nat := []
  /-- 16-byte words that hold a correctable error -/
  ce : List Nat := []
  /-- ricks R0 to R11, by number (R24) -/
  ricks : Tab Rick := []
  /-- job slots by partition × 8 + slot -/
  jobs : Tab Job := []
  /-- region records of 32 bytes by partition × 256 + number (Table 09-4) -/
  regions : Tab (List Byte) := []
  /-- dirty 4 KiB pages: rick × 2^24 + page of its stack (R271) -/
  dirty : Tab Bool := []
  /-- poisoned 4 KiB pages: rick × 2^24 + page, or 2^40 + partition × 2^32 + page of its tier S (R282) -/
  pagePoison : Tab Bool := []
  /-- logical hearths bound elsewhere than Lk·16+j to Hk.j (R77, R610) -/
  remap : Tab Nat := []
  /-- request table entries, 128 bytes each (Table 11-1) -/
  reqs : Tab (List Byte) := []
  /-- what the device remembers of a request beside its entry -/
  reqx : Tab ReqX := []
  /-- directories by rick × 65,536 + list -/
  dirs : Tab Dir := []
  /-- map pages by rick × 2^24 + page: entries by index -/
  maps : Tab (Tab Nat) := []
  /-- REFS by rick × 2^24 + page (R234) -/
  refs : Tab Nat := []
  /-- KV pages poisoned, by rick × 2^24 + page (R250) -/
  poisoned : Tab Bool := []
  /-- live handles by partition × 4,096 + slot -/
  handles : Tab Handle := []
  /-- weight-set slots by partition × 8 + slot -/
  wsets : Tab WSet := []
  /-- window records by partition × 4,096 + window (R432) -/
  windows : Tab (List Byte) := []
  /-- subscriber rings by partition × 64 + ring -/
  rings : Tab Ring := []
  /-- messages the module has sent, oldest first (R433, R447) -/
  sent : List Msg := []
  /-- their count, from which MSGID follows -/
  msgid : Nat := 0
  /-- messages in flight, by MSGID -/
  flights : Tab Flight := []
  /-- registered buffers by partition × 2^32 + RKEY (R430) -/
  buffers : Tab Buf := []
  /-- trigger counters and armed operations by partition × 256 + owner (R435, R436) -/
  trigs : Tab Trig := []
  /-- collective groups by partition × 64 + number (R442) -/
  groups : Tab Group := []
  /-- RDMA connections by partition × 1,024 + number (R462) -/
  conns : Tab Conn := []
  /-- turns by partition (Table 14-6) -/
  turns : Tab Turn := []
  /-- fabric ports F0 to F15 (R415) -/
  fports : Tab FPort := []
  /-- Ethernet ports E0 to E7 (R449) -/
  eports : Tab EPort := []
  /-- the SPARE manifest in force (R603) -/
  spare : Spare := {}
  /-- the SPARE manifest being stored, with the start of its store (R612) -/
  spareNext : Option (Spare × Nat) := none
  /-- hearths fallen due for retirement, with whether faulted (R601) -/
  due : List (Nat × Bool) := []
  /-- Dolli sessions by SESSION (R467) -/
  sessions : Tab Session := []
  /-- every Dolli message the device has sent, oldest first -/
  replies : List Reply := []
  /-- installed manifests by KIND (R490) -/
  objs : Tab (List Byte) := []
  /-- firmware images by bank × 256 + KIND (R490) -/
  banks : Tab (List Byte) := []
  /-- the running bank (R560) -/
  bank : Nat := 0
  /-- set-key records by tenant slot (R501) -/
  setkeys : Tab (List (List Byte)) := []
  /-- emergency causes that hold (Table 18-4) -/
  causes : Nat := 0
  /-- the instant the last of them cleared -/
  clearAt : Nat := 0
  /-- the instant of the emergency throttle in force -/
  throttleAt : Option Nat := none
  /-- the module runs: it is not held off -/
  powered : Bool := true
  /-- it is held by the input (R518) -/
  heldInput : Bool := false
  /-- it is held by heat (R653) -/
  heldHeat : Bool := false
  /-- the tinder hold (R563) -/
  tinderHold : Bool := false
  /-- t0 of the bring-up (Table 20-1) -/
  bootT0 : Nat := 0
  /-- the ricks still to be brought up (Table 20-2) -/
  bringups : List Nat := []
  /-- start of the trial of a firmware bank (R560) -/
  trialT0 : Nat := 0
  /-- the standby collier serves (R564) -/
  standby : Bool := false
  /-- the references that have tripped, a bit each (R544) -/
  refsLost : Nat := 0
  /-- the slot boundary at which ricks last started, and the wake steps charged to it, in mA × 27,720 (R530) -/
  slew : Nat × Nat := (0, 0)
  /-- a module reset is taking the ricks to power state O (R580) -/
  descending : Bool := false
  /-- power-ons so far, of which POWERON_ID is a function (R488) -/
  powerOns : Nat := 0
  /-- when the last rick was ready or failed (Table 20-1) -/
  lastReady : Nat := 0
  /-- start of an unplanned module reset, until every partition is ready again (Table 21-9, cause 7) -/
  unplanned : Option Nat := none
  /-- the hot-swap switch is closed (R643) -/
  switchOn : Bool := true
  /-- the kindling partition as configured at event 4 of Table 20-1, 0xFF none (R573) -/
  kindPart : Nat := 0xFF
  /-- its kindling ricks (R573) -/
  kindMask : Nat := 0
  /-- the kindling job is loaded, so its restrictions hold (R574, R576) -/
  kindled : Bool := false
  /-- KINDLING_END drains it (R577) -/
  kindEnding : Bool := false
  deriving DecidableEq, Repr

/-- The device after reset. -/
def State.reset : State := {}

end Sys2Proof.Machine
end

