-- ==== Sys2Proof/Machine/Dict.lean ====
section
/-!
DEFINITION. The Dolli dictionary (R484): every entry with its type, access mode, persistence class, default,
the roles that read and write it (R478 and the last rule of each chapter) and the range of a numeric value.
-/
namespace Sys2Proof.Machine

/-- Entry types (Table 16-8); `cmd` for an entry of access CMD. -/
inductive Ty where
  | u8 | u16 | u32 | u64 | time64 | bool | str | blob | digest384 | cmd
  deriving DecidableEq, Repr

/-- Access modes (Table 16-9). -/
inductive Acc where
  | ro | rw | wo | rw1c | cmd
  deriving DecidableEq, Repr

/-- Persistence classes (R583). -/
inductive Cls where
  | V | B | M | S
  deriving DecidableEq, Repr

/-- Who may read or write an entry: every role; the operator; the tenant of the partition (with its observers and
the operator to read, alone to write); the same for a tenant slot or the kindling partition; the partition's tenant,
or the operator under consent; the operator or the tenant; nobody. -/
inductive Who where
  | all | op | part | slot | kind | part1 | slot1 | kind1 | cons | opPart | opKind | nobody
  deriving DecidableEq, Repr

/-- One row of the dictionary: `base + 0 … base + count − 1` at subindex `sub`. -/
structure Entry where
  base : Nat
  count : Nat
  sub : Nat
  ty : Ty
  acc : Acc
  cls : Cls
  rd : Who
  wr : Who
  lo : Nat
  hi : Nat
  dflt : DVal
  deriving DecidableEq, Repr

namespace E

/-- 0x1000/01 -/
def IDENT_REV : Nat := 0x1000 * 256 + 0x01
/-- 0x1000/02 -/
def SERIAL : Nat := 0x1000 * 256 + 0x02
/-- 0x1000/03 -/
def BOARD_LEVEL : Nat := 0x1000 * 256 + 0x03
/-- 0x1000/04 -/
def MFG_TIME : Nat := 0x1000 * 256 + 0x04
/-- 0x1000/05 -/
def TRAY_SLOT : Nat := 0x1000 * 256 + 0x05
/-- 0x1000/06 -/
def SENSORS : Nat := 0x1000 * 256 + 0x06
/-- 0x1000/07 -/
def ALERT_PIN : Nat := 0x1000 * 256 + 0x07
/-- 0x1100/01 -/
def DOLLI_PORT : Nat := 0x1100 * 256 + 0x01
/-- 0x1100/02 -/
def MAC_BASE : Nat := 0x1100 * 256 + 0x02
/-- 0x1100/03 -/
def MGMT_IPV6_A : Nat := 0x1100 * 256 + 0x03
/-- 0x1100/04 -/
def MGMT_IPV6_B : Nat := 0x1100 * 256 + 0x04
/-- 0x1100/05 -/
def MGMT_IPV4 : Nat := 0x1100 * 256 + 0x05
/-- 0x1100/06 -/
def MGMT_VLAN : Nat := 0x1100 * 256 + 0x06
/-- 0x1100/07 -/
def SESSION_IDLE_NS : Nat := 0x1100 * 256 + 0x07
/-- 0x1100/08 -/
def NOTIFY_MIN_NS : Nat := 0x1100 * 256 + 0x08
/-- 0x1100/09 -/
def SESSIONS_LIVE : Nat := 0x1100 * 256 + 0x09
/-- 0x1100/0A -/
def SESSION_LIST : Nat := 0x1100 * 256 + 0x0A
/-- 0x1100/0B -/
def AUTH_FAILS : Nat := 0x1100 * 256 + 0x0B
/-- 0x1100/0C -/
def DOLLI_DROPS : Nat := 0x1100 * 256 + 0x0C
/-- 0x1100/0D -/
def KEEPALIVE_PORT : Nat := 0x1100 * 256 + 0x0D
/-- 0x1110+n/01 -/
def NET_IPV6_A (n : Nat) : Nat := (0x1110 + n) * 256 + 0x01
/-- 0x1110+n/02 -/
def NET_IPV6_B (n : Nat) : Nat := (0x1110 + n) * 256 + 0x02
/-- 0x1110+n/03 -/
def NET_IPV4 (n : Nat) : Nat := (0x1110 + n) * 256 + 0x03
/-- 0x1110+n/04 -/
def NET_VLAN (n : Nat) : Nat := (0x1110 + n) * 256 + 0x04
/-- 0x1110+n/05 -/
def ETH_MODE (n : Nat) : Nat := (0x1110 + n) * 256 + 0x05
/-- 0x1110+n/06 -/
def RX_DROPS (n : Nat) : Nat := (0x1110 + n) * 256 + 0x06
/-- 0x1120+n/01 -/
def CONN_INDEX (n : Nat) : Nat := (0x1120 + n) * 256 + 0x01
/-- 0x1120+n/02 -/
def CONN_REC (n : Nat) : Nat := (0x1120 + n) * 256 + 0x02
/-- 0x1120+n/03 -/
def CONN_STATE (n : Nat) : Nat := (0x1120 + n) * 256 + 0x03
/-- 0x1120+n/04 -/
def CONN_ERRORS (n : Nat) : Nat := (0x1120 + n) * 256 + 0x04
/-- 0x1200+e/01 -/
def ETH_STATE (e : Nat) : Nat := (0x1200 + e) * 256 + 0x01
/-- 0x1200+e/02 -/
def ETH_ENABLE (e : Nat) : Nat := (0x1200 + e) * 256 + 0x02
/-- 0x1200+e/03 -/
def ETH_PMD (e : Nat) : Nat := (0x1200 + e) * 256 + 0x03
/-- 0x1200+e/04 -/
def ETH_OWNERS (e : Nat) : Nat := (0x1200 + e) * 256 + 0x04
/-- 0x1200+e/05 -/
def ETH_COUNTERS (e : Nat) : Nat := (0x1200 + e) * 256 + 0x05
/-- 0x1200+e/06 -/
def ETH_MAC (e : Nat) : Nat := (0x1200 + e) * 256 + 0x06
/-- 0x2000/01 -/
def INPUT_MV : Nat := 0x2000 * 256 + 0x01
/-- 0x2000/02 -/
def INPUT_W : Nat := 0x2000 * 256 + 0x02
/-- 0x2000/03 -/
def BASE_W : Nat := 0x2000 * 256 + 0x03
/-- 0x2000/04 -/
def MODULE_LIMIT_W : Nat := 0x2000 * 256 + 0x04
/-- 0x2000/05 -/
def SLEW_LIMIT_MA : Nat := 0x2000 * 256 + 0x05
/-- 0x2000/06 -/
def SLEW_WINDOW_NS : Nat := 0x2000 * 256 + 0x06
/-- 0x2000/07 -/
def STAGGER_NS : Nat := 0x2000 * 256 + 0x07
/-- 0x2000/08 -/
def PHASES_FAILED : Nat := 0x2000 * 256 + 0x08
/-- 0x2000/09 -/
def EMERGENCY : Nat := 0x2000 * 256 + 0x09
/-- 0x2000/0A -/
def EMERGENCIES : Nat := 0x2000 * 256 + 0x0A
/-- 0x2000/0B -/
def UNUSED_RICK_STATE : Nat := 0x2000 * 256 + 0x0B
/-- 0x2010+n/01 -/
def PART_BUDGET_W (n : Nat) : Nat := (0x2010 + n) * 256 + 0x01
/-- 0x2010+n/02 -/
def PART_POWER_W (n : Nat) : Nat := (0x2010 + n) * 256 + 0x02
/-- 0x2010+n/03 -/
def RUN_CLOCK_MHZ (n : Nat) : Nat := (0x2010 + n) * 256 + 0x03
/-- 0x2010+n/04 -/
def THROTTLE (n : Nat) : Nat := (0x2010 + n) * 256 + 0x04
/-- 0x2010+n/05 -/
def BUDGET_OVERRUNS (n : Nat) : Nat := (0x2010 + n) * 256 + 0x05
/-- 0x2100/01 -/
def RICK_STATES : Nat := 0x2100 * 256 + 0x01
/-- 0x2110+n/01 -/
def WAKE_LATENCY_NS (n : Nat) : Nat := (0x2110 + n) * 256 + 0x01
/-- 0x2110+n/02 -/
def IDLE_HOLD_NS (n : Nat) : Nat := (0x2110 + n) * 256 + 0x02
/-- 0x2110+n/03 -/
def WAKE_AT (n : Nat) : Nat := (0x2110 + n) * 256 + 0x03
/-- 0x2110+n/04 -/
def WAKE (n : Nat) : Nat := (0x2110 + n) * 256 + 0x04
/-- 0x2110+n/05 -/
def PSTATE (n : Nat) : Nat := (0x2110 + n) * 256 + 0x05
/-- 0x2110+n/06 -/
def WAKE_BOUNDS (n : Nat) : Nat := (0x2110 + n) * 256 + 0x06
/-- 0x2110+n/07 -/
def WAKE_DEFERRALS (n : Nat) : Nat := (0x2110 + n) * 256 + 0x07
/-- 0x2200/01 -/
def DEVICE_TIME : Nat := 0x2200 * 256 + 0x01
/-- 0x2200/02 -/
def TIME_QUALITY : Nat := 0x2200 * 256 + 0x02
/-- 0x2200/03 -/
def REF_ACTIVE : Nat := 0x2200 * 256 + 0x03
/-- 0x2200/04 -/
def REF_TOL_PPM : Nat := 0x2200 * 256 + 0x04
/-- 0x2200/05 -/
def REF_DEGRADED : Nat := 0x2200 * 256 + 0x05
/-- 0x2200/06 -/
def CLK_JUDGE : Nat := 0x2200 * 256 + 0x06
/-- 0x2200/07 -/
def STABLE_N : Nat := 0x2200 * 256 + 0x07
/-- 0x2200/08 -/
def STABLE_GATE : Nat := 0x2200 * 256 + 0x08
/-- 0x2200/09 -/
def STABLE_PPM : Nat := 0x2200 * 256 + 0x09
/-- 0x2200/0A -/
def STABLE_K : Nat := 0x2200 * 256 + 0x0A
/-- 0x2200/0B -/
def STABLE_TIMEOUT_NS : Nat := 0x2200 * 256 + 0x0B
/-- 0x2200/0C -/
def CROSS_BOUND_PS : Nat := 0x2200 * 256 + 0x0C
/-- 0x2200/0D -/
def HOP_BOUND_PS : Nat := 0x2200 * 256 + 0x0D
/-- 0x2210+k/01 -/
def LIVE_SOURCE (k : Nat) : Nat := (0x2210 + k) * 256 + 0x01
/-- 0x2210+k/02 -/
def PLL_FAILED (k : Nat) : Nat := (0x2210 + k) * 256 + 0x02
/-- 0x2210+k/03 -/
def FM_SOURCE (k : Nat) : Nat := (0x2210 + k) * 256 + 0x03
/-- 0x2210+k/04 -/
def FM_GATE (k : Nat) : Nat := (0x2210 + k) * 256 + 0x04
/-- 0x2210+k/05 -/
def FM_HEARTH (k : Nat) : Nat := (0x2210 + k) * 256 + 0x05
/-- 0x2210+k/06 -/
def FM_START (k : Nat) : Nat := (0x2210 + k) * 256 + 0x06
/-- 0x2210+k/07 -/
def FM_RESULT (k : Nat) : Nat := (0x2210 + k) * 256 + 0x07
/-- 0x2220+n/01 -/
def PART_CLOCK_MHZ (n : Nat) : Nat := (0x2220 + n) * 256 + 0x01
/-- 0x3000/01 -/
def STACK_USABLE : Nat := 0x3000 * 256 + 0x01
/-- 0x3000/02 -/
def STACK_RESERVED : Nat := 0x3000 * 256 + 0x02
/-- 0x3000/03 -/
def SCHANNEL_BYTES : Nat := 0x3000 * 256 + 0x03
/-- 0x3010+t/01 -/
def QUOTA_H (t : Nat) : Nat := (0x3010 + t) * 256 + 0x01
/-- 0x3010+t/02 -/
def QUOTA_B (t : Nat) : Nat := (0x3010 + t) * 256 + 0x02
/-- 0x3010+t/03 -/
def QUOTA_S (t : Nat) : Nat := (0x3010 + t) * 256 + 0x03
/-- 0x3010+t/04 -/
def QUOTA_KV (t : Nat) : Nat := (0x3010 + t) * 256 + 0x04
/-- 0x3010+t/05 -/
def USED (t : Nat) : Nat := (0x3010 + t) * 256 + 0x05
/-- 0x3030+n/01 -/
def REGION_CREATE (n : Nat) : Nat := (0x3030 + n) * 256 + 0x01
/-- 0x3030+n/02 -/
def REGION_DELETE (n : Nat) : Nat := (0x3030 + n) * 256 + 0x02
/-- 0x3030+n/03 -/
def REGION_RESULT (n : Nat) : Nat := (0x3030 + n) * 256 + 0x03
/-- 0x3030+n/04 -/
def REGION_TABLE (n : Nat) : Nat := (0x3030 + n) * 256 + 0x04
/-- 0x3030+n/05 -/
def FLUSH_ALL (n : Nat) : Nat := (0x3030 + n) * 256 + 0x05
/-- 0x3030+n/06 -/
def FLUSH_DONE (n : Nat) : Nat := (0x3030 + n) * 256 + 0x06
/-- 0x3030+n/07 -/
def FLUSH_PENDING (n : Nat) : Nat := (0x3030 + n) * 256 + 0x07
/-- 0x3030+n/08 -/
def FLUSH_FAILED_PAGES (n : Nat) : Nat := (0x3030 + n) * 256 + 0x08
/-- 0x3030+n/09 -/
def FLUSH_BAD (n : Nat) : Nat := (0x3030 + n) * 256 + 0x09
/-- 0x3030+n/0A -/
def POISONED_TIER_PAGES (n : Nat) : Nat := (0x3030 + n) * 256 + 0x0A
/-- 0x3100+n/01 -/
def WSET_SLOT (n : Nat) : Nat := (0x3100 + n) * 256 + 0x01
/-- 0x3100+n/02 -/
def WSET_MANIFEST (n : Nat) : Nat := (0x3100 + n) * 256 + 0x02
/-- 0x3100+n/03 -/
def WSET_REGISTER (n : Nat) : Nat := (0x3100 + n) * 256 + 0x03
/-- 0x3100+n/04 -/
def WSET_FETCH (n : Nat) : Nat := (0x3100 + n) * 256 + 0x04
/-- 0x3100+n/05 -/
def WSET_RELEASE (n : Nat) : Nat := (0x3100 + n) * 256 + 0x05
/-- 0x3100+n/06 -/
def WSET_SOURCES (n : Nat) : Nat := (0x3100 + n) * 256 + 0x06
/-- 0x3100+n/07 -/
def WSET_TABLE (n : Nat) : Nat := (0x3100 + n) * 256 + 0x07
/-- 0x3100+n/08 -/
def SHARD_STATE (n : Nat) : Nat := (0x3100 + n) * 256 + 0x08
/-- 0x3100+n/09 -/
def RECHECK_NS (n : Nat) : Nat := (0x3100 + n) * 256 + 0x09
/-- 0x3140+n/01 -/
def EPOCH_COUNTER (n : Nat) : Nat := (0x3140 + n) * 256 + 0x01
/-- 0x3140+n/02 -/
def EPOCH_POLICY (n : Nat) : Nat := (0x3140 + n) * 256 + 0x02
/-- 0x3140+n/03 -/
def EPOCH_SWITCH (n : Nat) : Nat := (0x3140 + n) * 256 + 0x03
/-- 0x3140+n/04 -/
def JOB_EPOCH (n : Nat) : Nat := (0x3140 + n) * 256 + 0x04
/-- 0x3140+n/05 -/
def SWITCH_PENDING (n : Nat) : Nat := (0x3140 + n) * 256 + 0x05
/-- 0x3140+n/06 -/
def PIN_LIMIT_STEPS (n : Nat) : Nat := (0x3140 + n) * 256 + 0x06
/-- 0x3140+n/07 -/
def PIN_FALLBACK (n : Nat) : Nat := (0x3140 + n) * 256 + 0x07
/-- 0x3140+n/08 -/
def HOLD_LIMIT_NS (n : Nat) : Nat := (0x3140 + n) * 256 + 0x08
/-- 0x3140+n/09 -/
def WEIGHT_HOLDS (n : Nat) : Nat := (0x3140 + n) * 256 + 0x09
/-- 0x3140+n/0A -/
def REFETCHES (n : Nat) : Nat := (0x3140 + n) * 256 + 0x0A
/-- 0x3200+n/01 -/
def KV_MODELS (n : Nat) : Nat := (0x3200 + n) * 256 + 0x01
/-- 0x3200+n/02 -/
def KV_POOL_PAGES (n : Nat) : Nat := (0x3200 + n) * 256 + 0x02
/-- 0x3200+n/03 -/
def KV_FREE (n : Nat) : Nat := (0x3200 + n) * 256 + 0x03
/-- 0x3200+n/04 -/
def KV_RELEASE_LAG (n : Nat) : Nat := (0x3200 + n) * 256 + 0x04
/-- 0x3200+n/05 -/
def HANDLE_RELEASE (n : Nat) : Nat := (0x3200 + n) * 256 + 0x05
/-- 0x3200+n/06 -/
def HANDLES_LIVE (n : Nat) : Nat := (0x3200 + n) * 256 + 0x06
/-- 0x3200+n/07 -/
def HANDLE_EVICTIONS (n : Nat) : Nat := (0x3200 + n) * 256 + 0x07
/-- 0x3200+n/08 -/
def KV_PAUSES (n : Nat) : Nat := (0x3200 + n) * 256 + 0x08
/-- 0x3200+n/09 -/
def POISONED_PAGES (n : Nat) : Nat := (0x3200 + n) * 256 + 0x09
/-- 0x4000/01 -/
def TRANSIT_FP : Nat := 0x4000 * 256 + 0x01
/-- 0x4010+n/01 -/
def RICK_MASK (n : Nat) : Nat := (0x4010 + n) * 256 + 0x01
/-- 0x4020+t/01 -/
def TENANT_ID (t : Nat) : Nat := (0x4020 + t) * 256 + 0x01
/-- 0x4030+n/01 -/
def PART_TENANT (n : Nat) : Nat := (0x4030 + n) * 256 + 0x01
/-- 0x4030+n/02 -/
def PART_STATE (n : Nat) : Nat := (0x4030 + n) * 256 + 0x02
/-- 0x4110+n/01 -/
def LOAD_SLOT (n : Nat) : Nat := (0x4110 + n) * 256 + 0x01
/-- 0x4110+n/02 -/
def CORD_IMAGE (n : Nat) : Nat := (0x4110 + n) * 256 + 0x02
/-- 0x4110+n/03 -/
def LOAD (n : Nat) : Nat := (0x4110 + n) * 256 + 0x03
/-- 0x4110+n/04 -/
def UNLOAD (n : Nat) : Nat := (0x4110 + n) * 256 + 0x04
/-- 0x4110+n/05 -/
def LOAD_RESULT (n : Nat) : Nat := (0x4110 + n) * 256 + 0x05
/-- 0x4110+n/06 -/
def SLICE_PLAN (n : Nat) : Nat := (0x4110 + n) * 256 + 0x06
/-- 0x4110+n/07 -/
def ACTIVE_SLOT (n : Nat) : Nat := (0x4110 + n) * 256 + 0x07
/-- 0x4110+n/08 -/
def STEP_COUNT (n : Nat) : Nat := (0x4110 + n) * 256 + 0x08
/-- 0x4110+n/09 -/
def GAP_TABLE (n : Nat) : Nat := (0x4110 + n) * 256 + 0x09
/-- 0x4110+n/0A -/
def WCET_OVERRUNS (n : Nat) : Nat := (0x4110 + n) * 256 + 0x0A
/-- 0x4110+n/0B -/
def CONSUMED (n : Nat) : Nat := (0x4110 + n) * 256 + 0x0B
/-- 0x4110+n/0C -/
def QUEUE_OVERRUNS (n : Nat) : Nat := (0x4110 + n) * 256 + 0x0C
/-- 0x4110+n/0D -/
def QUEUE_MAP (n : Nat) : Nat := (0x4110 + n) * 256 + 0x0D
/-- 0x4120+n/01 -/
def RND_SEED (n : Nat) : Nat := (0x4120 + n) * 256 + 0x01
/-- 0x4200/01 -/
def PIECE_NS : Nat := 0x4200 * 256 + 0x01
/-- 0x4200/02 -/
def PAUSE_MAX_NS : Nat := 0x4200 * 256 + 0x02
/-- 0x4210+n/01 -/
def RAKE_PAUSES (n : Nat) : Nat := (0x4210 + n) * 256 + 0x01
/-- 0x4210+n/02 -/
def URGENT_TASKS (n : Nat) : Nat := (0x4210 + n) * 256 + 0x02
/-- 0x4210+n/03 -/
def LAST_PAUSE_NS (n : Nat) : Nat := (0x4210 + n) * 256 + 0x03
/-- 0x5000+n/01 -/
def REQ_INDEX (n : Nat) : Nat := (0x5000 + n) * 256 + 0x01
/-- 0x5000+n/02 -/
def REQ_ENTRY (n : Nat) : Nat := (0x5000 + n) * 256 + 0x02
/-- 0x5000+n/03 -/
def AGE_STEPS (n : Nat) : Nat := (0x5000 + n) * 256 + 0x03
/-- 0x5000+n/04 -/
def JOB_DRAIN (n : Nat) : Nat := (0x5000 + n) * 256 + 0x04
/-- 0x5000+n/05 -/
def STATE_COUNTS (n : Nat) : Nat := (0x5000 + n) * 256 + 0x05
/-- 0x5000+n/06 -/
def REFUSALS (n : Nat) : Nat := (0x5000 + n) * 256 + 0x06
/-- 0x5000+n/07 -/
def EXPIRIES (n : Nat) : Nat := (0x5000 + n) * 256 + 0x07
/-- 0x5000+n/08 -/
def CANCEL_MISSES (n : Nat) : Nat := (0x5000 + n) * 256 + 0x08
/-- 0x5010+t/01 -/
def ENTRY_QUOTA (t : Nat) : Nat := (0x5010 + t) * 256 + 0x01
/-- 0x5100+n/01 -/
def TCT_PAIRS (n : Nat) : Nat := (0x5100 + n) * 256 + 0x01
/-- 0x5100+n/02 -/
def TCT_REGIONS (n : Nat) : Nat := (0x5100 + n) * 256 + 0x02
/-- 0x5200+n/01 -/
def RING_INDEX (n : Nat) : Nat := (0x5200 + n) * 256 + 0x01
/-- 0x5200+n/02 -/
def RING_DESC (n : Nat) : Nat := (0x5200 + n) * 256 + 0x02
/-- 0x5200+n/03 -/
def RING_LOST (n : Nat) : Nat := (0x5200 + n) * 256 + 0x03
/-- 0x5200+n/04 -/
def AUDIT_REGION (n : Nat) : Nat := (0x5200 + n) * 256 + 0x04
/-- 0x5200+n/05 -/
def EVID_REGION (n : Nat) : Nat := (0x5200 + n) * 256 + 0x05
/-- 0x5200+n/06 -/
def EVID_GROUPS (n : Nat) : Nat := (0x5200 + n) * 256 + 0x06
/-- 0x5200+n/07 -/
def AUDIT_SEQ (n : Nat) : Nat := (0x5200 + n) * 256 + 0x07
/-- 0x5200+n/08 -/
def AUDIT_STALLS (n : Nat) : Nat := (0x5200 + n) * 256 + 0x08
/-- 0x6000/01 -/
def DOMAIN_ID : Nat := 0x6000 * 256 + 0x01
/-- 0x6000/02 -/
def MODULE_ID : Nat := 0x6000 * 256 + 0x02
/-- 0x6010+p/01 -/
def PORT_STATE (p : Nat) : Nat := (0x6010 + p) * 256 + 0x01
/-- 0x6010+p/02 -/
def PORT_ENABLE (p : Nat) : Nat := (0x6010 + p) * 256 + 0x02
/-- 0x6010+p/03 -/
def PORT_RETRAIN (p : Nat) : Nat := (0x6010 + p) * 256 + 0x03
/-- 0x6010+p/04 -/
def EXPECT_PEER (p : Nat) : Nat := (0x6010 + p) * 256 + 0x04
/-- 0x6010+p/05 -/
def PEER (p : Nat) : Nat := (0x6010 + p) * 256 + 0x05
/-- 0x6010+p/06 -/
def TX_OWNERS (p : Nat) : Nat := (0x6010 + p) * 256 + 0x06
/-- 0x6010+p/07 -/
def RX_OWNERS (p : Nat) : Nat := (0x6010 + p) * 256 + 0x07
/-- 0x6010+p/08 -/
def LANE_MAP (p : Nat) : Nat := (0x6010 + p) * 256 + 0x08
/-- 0x6010+p/09 -/
def SWAP_THRESHOLD (p : Nat) : Nat := (0x6010 + p) * 256 + 0x09
/-- 0x6010+p/0A -/
def FLIT_RETRIES (p : Nat) : Nat := (0x6010 + p) * 256 + 0x0A
/-- 0x6010+p/0B -/
def CORRECTED (p : Nat) : Nat := (0x6010 + p) * 256 + 0x0B
/-- 0x6010+p/0C -/
def UNASSIGNED_DROPS (p : Nat) : Nat := (0x6010 + p) * 256 + 0x0C
/-- 0x6100+n/01 -/
def GROUP_INDEX (n : Nat) : Nat := (0x6100 + n) * 256 + 0x01
/-- 0x6100+n/02 -/
def GROUP_REC (n : Nat) : Nat := (0x6100 + n) * 256 + 0x02
/-- 0x6100+n/03 -/
def GROUP_SLOTS (n : Nat) : Nat := (0x6100 + n) * 256 + 0x03
/-- 0x6100+n/04 -/
def GROUP_DROPS (n : Nat) : Nat := (0x6100 + n) * 256 + 0x04
/-- 0x6100+n/05 -/
def REFUSED (n : Nat) : Nat := (0x6100 + n) * 256 + 0x05
/-- 0x6110+n/01 -/
def BUFFER_REG (n : Nat) : Nat := (0x6110 + n) * 256 + 0x01
/-- 0x6110+n/02 -/
def BUFFER_RESULT (n : Nat) : Nat := (0x6110 + n) * 256 + 0x02
/-- 0x6110+n/03 -/
def BUFFER_DEREG (n : Nat) : Nat := (0x6110 + n) * 256 + 0x03
/-- 0x6110+n/04 -/
def WINDOW_INDEX (n : Nat) : Nat := (0x6110 + n) * 256 + 0x04
/-- 0x6110+n/05 -/
def WINDOW_REC (n : Nat) : Nat := (0x6110 + n) * 256 + 0x05
/-- 0x6200/01 -/
def TRIG_UNALLOCATED : Nat := 0x6200 * 256 + 0x01
/-- 0x6210+n/01 -/
def TRIG_ALLOC (n : Nat) : Nat := (0x6210 + n) * 256 + 0x01
/-- 0x6210+n/02 -/
def TRIG_RING (n : Nat) : Nat := (0x6210 + n) * 256 + 0x02
/-- 0x6210+n/03 -/
def TRIG_OPS (n : Nat) : Nat := (0x6210 + n) * 256 + 0x03
/-- 0x6210+n/04 -/
def TRIG_RESULT (n : Nat) : Nat := (0x6210 + n) * 256 + 0x04
/-- 0x6210+n/05 -/
def OP_TIMEOUT_NS (n : Nat) : Nat := (0x6210 + n) * 256 + 0x05
/-- 0x6210+n/06 -/
def OP_FAILS (n : Nat) : Nat := (0x6210 + n) * 256 + 0x06
/-- 0x6210+n/07 -/
def TRIG_GAPS (n : Nat) : Nat := (0x6210 + n) * 256 + 0x07
/-- 0x6800+n/01 -/
def LR_STATUS (n : Nat) : Nat := (0x6800 + n) * 256 + 0x01
/-- 0x6800+n/02 -/
def LR_TSTEP_INIT (n : Nat) : Nat := (0x6800 + n) * 256 + 0x02
/-- 0x6800+n/03 -/
def LR_REPEAT_LIMIT (n : Nat) : Nat := (0x6800 + n) * 256 + 0x03
/-- 0x6800+n/04 -/
def LR_RESUME (n : Nat) : Nat := (0x6800 + n) * 256 + 0x04
/-- 0x6800+n/05 -/
def LR_REPEATS (n : Nat) : Nat := (0x6800 + n) * 256 + 0x05
/-- 0x6800+n/06 -/
def LR_UNRESOLVED (n : Nat) : Nat := (0x6800 + n) * 256 + 0x06
/-- 0x6800+n/07 -/
def LR_GATE_MISSES (n : Nat) : Nat := (0x6800 + n) * 256 + 0x07
/-- 0x6800+n/08 -/
def LR_STALE_PIECES (n : Nat) : Nat := (0x6800 + n) * 256 + 0x08
/-- 0x6800+n/09 -/
def LSTATS_REGION (n : Nat) : Nat := (0x6800 + n) * 256 + 0x09
/-- 0x6800+n/0A -/
def LSTATS_SEQ (n : Nat) : Nat := (0x6800 + n) * 256 + 0x0A
/-- 0x6800+n/0B -/
def LSTATS_LOST (n : Nat) : Nat := (0x6800 + n) * 256 + 0x0B
/-- 0x6800+n/0C -/
def LSTATS_ALARM_PPM (n : Nat) : Nat := (0x6800 + n) * 256 + 0x0C
/-- 0x6820+n/01 -/
def TURN_PLAN (n : Nat) : Nat := (0x6820 + n) * 256 + 0x01
/-- 0x6820+n/02 -/
def TURN_ARM (n : Nat) : Nat := (0x6820 + n) * 256 + 0x02
/-- 0x6820+n/03 -/
def TURN_DISARM (n : Nat) : Nat := (0x6820 + n) * 256 + 0x03
/-- 0x6820+n/04 -/
def TURN_RESULT (n : Nat) : Nat := (0x6820 + n) * 256 + 0x04
/-- 0x6820+n/05 -/
def TURN_STATUS (n : Nat) : Nat := (0x6820 + n) * 256 + 0x05
/-- 0x6820+n/06 -/
def TURN_LIMIT_NS (n : Nat) : Nat := (0x6820 + n) * 256 + 0x06
/-- 0x6820+n/07 -/
def TURN_PARK_NS (n : Nat) : Nat := (0x6820 + n) * 256 + 0x07
/-- 0x6820+n/08 -/
def TURN_LAST (n : Nat) : Nat := (0x6820 + n) * 256 + 0x08
/-- 0x6820+n/09 -/
def TURN_BAD_WRITES (n : Nat) : Nat := (0x6820 + n) * 256 + 0x09
/-- 0x6820+n/0A -/
def TURNS_FAILED (n : Nat) : Nat := (0x6820 + n) * 256 + 0x0A
/-- 0x7000/01 -/
def EVENT_LOG : Nat := 0x7000 * 256 + 0x01
/-- 0x7000/02 -/
def EVENT_SEQ : Nat := 0x7000 * 256 + 0x02
/-- 0x7000/03 -/
def EVENT_PERSIST : Nat := 0x7000 * 256 + 0x03
/-- 0x7000/04 -/
def CODE_MATRIX : Nat := 0x7000 * 256 + 0x04
/-- 0x7000/05 -/
def SPARE_SVN : Nat := 0x7000 * 256 + 0x05
/-- 0x7010+n/01 -/
def PART_EVENTS (n : Nat) : Nat := (0x7010 + n) * 256 + 0x01
/-- 0x7010+n/02 -/
def PART_EVENT_SEQ (n : Nat) : Nat := (0x7010 + n) * 256 + 0x02
/-- 0x7010+n/03 -/
def UNAVAIL_NS (n : Nat) : Nat := (0x7010 + n) * 256 + 0x03
/-- 0x7020/01 -/
def SCRUB_H_NS : Nat := 0x7020 * 256 + 0x01
/-- 0x7020/02 -/
def SCRUB_B_NS : Nat := 0x7020 * 256 + 0x02
/-- 0x7020/03 -/
def SCRUB_S_NS : Nat := 0x7020 * 256 + 0x03
/-- 0x7020/04 -/
def ARRAY_CHECK_NS : Nat := 0x7020 * 256 + 0x04
/-- 0x7020/05 -/
def CAL_NS : Nat := 0x7020 * 256 + 0x05
/-- 0x7020/06 -/
def MONITOR_NS : Nat := 0x7020 * 256 + 0x06
/-- 0x7020/07 -/
def TELEMETRY_NS : Nat := 0x7020 * 256 + 0x07
/-- 0x7020/08 -/
def TASKS_OVERDUE : Nat := 0x7020 * 256 + 0x08
/-- 0x7030/01 -/
def HEARTH_CE_LIMIT : Nat := 0x7030 * 256 + 0x01
/-- 0x7030/02 -/
def CHANNEL_CE_LIMIT : Nat := 0x7030 * 256 + 0x02
/-- 0x7030/03 -/
def ROW_CE_LIMIT : Nat := 0x7030 * 256 + 0x03
/-- 0x7030/04 -/
def WEAR_MARGIN_PS : Nat := 0x7030 * 256 + 0x04
/-- 0x7040/01 -/
def ARRAY_SPARES : Nat := 0x7040 * 256 + 0x01
/-- 0x7050+k/01 -/
def HEARTH_WEAR (k : Nat) : Nat := (0x7050 + k) * 256 + 0x01
/-- 0x7050+k/02 -/
def CHANNEL_MAP (k : Nat) : Nat := (0x7050 + k) * 256 + 0x02
/-- 0x7050+k/03 -/
def CHANNEL_CE (k : Nat) : Nat := (0x7050 + k) * 256 + 0x03
/-- 0x7050+k/04 -/
def ROWS_USED (k : Nat) : Nat := (0x7050 + k) * 256 + 0x04
/-- 0x7050+k/05 -/
def SCHANNEL_STATE (k : Nat) : Nat := (0x7050 + k) * 256 + 0x05
/-- 0x7050+k/06 -/
def DEGRADED (k : Nat) : Nat := (0x7050 + k) * 256 + 0x06
/-- 0x8000/01 -/
def DEVICE_ID : Nat := 0x8000 * 256 + 0x01
/-- 0x8000/02 -/
def CERT_CHAIN : Nat := 0x8000 * 256 + 0x02
/-- 0x8000/03 -/
def POWERON_ID : Nat := 0x8000 * 256 + 0x03
/-- 0x8000/04 -/
def MODULE_ATTEST : Nat := 0x8000 * 256 + 0x04
/-- 0x8000/05 -/
def MODULE_REPORT : Nat := 0x8000 * 256 + 0x05
/-- 0x8000/06 -/
def PLATFORM_EVENTS : Nat := 0x8000 * 256 + 0x06
/-- 0x8008/01 -/
def OBJ_IMAGE : Nat := 0x8008 * 256 + 0x01
/-- 0x8008/02 -/
def OBJ_INSTALL : Nat := 0x8008 * 256 + 0x02
/-- 0x8008/03 -/
def OBJ_RESULT : Nat := 0x8008 * 256 + 0x03
/-- 0x8008/04 -/
def OBJ_SVN : Nat := 0x8008 * 256 + 0x04
/-- 0x8008/05 -/
def FW_SVN_COMMIT : Nat := 0x8008 * 256 + 0x05
/-- 0x8010/01 -/
def OP_CRED_ADD : Nat := 0x8010 * 256 + 0x01
/-- 0x8010/02 -/
def OP_CRED_REMOVE : Nat := 0x8010 * 256 + 0x02
/-- 0x8010/03 -/
def OP_CRED_LIST : Nat := 0x8010 * 256 + 0x03
/-- 0x8020+t/01 -/
def CRED_ADD (t : Nat) : Nat := (0x8020 + t) * 256 + 0x01
/-- 0x8020+t/02 -/
def CRED_REMOVE (t : Nat) : Nat := (0x8020 + t) * 256 + 0x02
/-- 0x8020+t/03 -/
def CRED_LIST (t : Nat) : Nat := (0x8020 + t) * 256 + 0x03
/-- 0x8020+t/04 -/
def SETKEY_INSTALL (t : Nat) : Nat := (0x8020 + t) * 256 + 0x04
/-- 0x8020+t/05 -/
def SETKEY_REMOVE (t : Nat) : Nat := (0x8020 + t) * 256 + 0x05
/-- 0x8020+t/06 -/
def SETKEY_LIST (t : Nat) : Nat := (0x8020 + t) * 256 + 0x06
/-- 0x8040+n/01 -/
def ATTEST (n : Nat) : Nat := (0x8040 + n) * 256 + 0x01
/-- 0x8040+n/02 -/
def PART_REPORT (n : Nat) : Nat := (0x8040 + n) * 256 + 0x02
/-- 0x8040+n/03 -/
def CONSENT (n : Nat) : Nat := (0x8040 + n) * 256 + 0x03
/-- 0x8040+n/04 -/
def CONSENT_EFFECTIVE (n : Nat) : Nat := (0x8040 + n) * 256 + 0x04
/-- 0x8040+n/05 -/
def CONSENT_SEEN (n : Nat) : Nat := (0x8040 + n) * 256 + 0x05
/-- 0x8040+n/06 -/
def ASHOUT_COUNT (n : Nat) : Nat := (0x8040 + n) * 256 + 0x06
/-- 0x9000/01 -/
def TRACE_BUF_RECORDS : Nat := 0x9000 * 256 + 0x01
/-- 0x9000/02 -/
def NIC_BUF_RECORDS : Nat := 0x9000 * 256 + 0x02
/-- 0x9010+n/01 -/
def TRACE_BYTES (n : Nat) : Nat := (0x9010 + n) * 256 + 0x01
/-- 0x9010+n/02 -/
def TRACE_MODE (n : Nat) : Nat := (0x9010 + n) * 256 + 0x02
/-- 0x9010+n/03 -/
def TRACE_SELECT (n : Nat) : Nat := (0x9010 + n) * 256 + 0x03
/-- 0x9010+n/04 -/
def TRACE_PRE (n : Nat) : Nat := (0x9010 + n) * 256 + 0x04
/-- 0x9010+n/05 -/
def PROF_LOG2 (n : Nat) : Nat := (0x9010 + n) * 256 + 0x05
/-- 0x9010+n/06 -/
def TRACE_ENABLE (n : Nat) : Nat := (0x9010 + n) * 256 + 0x06
/-- 0x9010+n/07 -/
def TRACE_TRIGGER (n : Nat) : Nat := (0x9010 + n) * 256 + 0x07
/-- 0x9010+n/08 -/
def TRACE_STATE (n : Nat) : Nat := (0x9010 + n) * 256 + 0x08
/-- 0x9010+n/09 -/
def TRACE_DATA (n : Nat) : Nat := (0x9010 + n) * 256 + 0x09
/-- 0x9010+n/0A -/
def TRACE_LOST (n : Nat) : Nat := (0x9010 + n) * 256 + 0x0A
/-- 0x9020+n/01 -/
def CORE_TRAP (n : Nat) : Nat := (0x9020 + n) * 256 + 0x01
/-- 0x9020+n/02 -/
def CORE_TRAPS (n : Nat) : Nat := (0x9020 + n) * 256 + 0x02
/-- 0x9020+n/03 -/
def NOTES_DROPPED (n : Nat) : Nat := (0x9020 + n) * 256 + 0x03
/-- 0x9030+n/01 -/
def CHECK_MISMATCHES (n : Nat) : Nat := (0x9030 + n) * 256 + 0x01
/-- 0x9030+n/02 -/
def CHECK_LAST (n : Nat) : Nat := (0x9030 + n) * 256 + 0x02
/-- 0x9040+n/01 -/
def SAMPLE_BAD_ROWS (n : Nat) : Nat := (0x9040 + n) * 256 + 0x01
/-- 0x9050+n/01 -/
def NAN_RECORD (n : Nat) : Nat := (0x9050 + n) * 256 + 0x01
/-- 0x9050+n/02 -/
def NAN_CLEAR (n : Nat) : Nat := (0x9050 + n) * 256 + 0x02
/-- 0x9050+n/03 -/
def NAN_STEPS (n : Nat) : Nat := (0x9050 + n) * 256 + 0x03
/-- 0x9060+n/01 -/
def EMPTY_ROWS (n : Nat) : Nat := (0x9060 + n) * 256 + 0x01
/-- 0x9060+n/02 -/
def EVIDENCE_RECORDS (n : Nat) : Nat := (0x9060 + n) * 256 + 0x02
/-- 0x9060+n/03 -/
def SCORE_OPS (n : Nat) : Nat := (0x9060 + n) * 256 + 0x03
/-- 0x9070+n/01 -/
def BP_HEARTH (n : Nat) : Nat := (0x9070 + n) * 256 + 0x01
/-- 0x9070+n/02 -/
def BP_REC (n : Nat) : Nat := (0x9070 + n) * 256 + 0x02
/-- 0x9070+n/03 -/
def BP_HALT (n : Nat) : Nat := (0x9070 + n) * 256 + 0x03
/-- 0x9070+n/04 -/
def BP_RESUME (n : Nat) : Nat := (0x9070 + n) * 256 + 0x04
/-- 0x9070+n/05 -/
def HALT_STATE (n : Nat) : Nat := (0x9070 + n) * 256 + 0x05
/-- 0x9070+n/06 -/
def HALT_INFO (n : Nat) : Nat := (0x9070 + n) * 256 + 0x06
/-- 0x9070+n/07 -/
def HALT_LIMIT_NS (n : Nat) : Nat := (0x9070 + n) * 256 + 0x07
/-- 0x9070+n/08 -/
def HALTS (n : Nat) : Nat := (0x9070 + n) * 256 + 0x08
/-- 0x9070+n/09 -/
def SNAPSHOT (n : Nat) : Nat := (0x9070 + n) * 256 + 0x09
/-- 0x9070+n/0A -/
def SNAP_DATA (n : Nat) : Nat := (0x9070 + n) * 256 + 0x0A
/-- 0x9080+n/01 -/
def PERF_HEARTH (n : Nat) : Nat := (0x9080 + n) * 256 + 0x01
/-- 0x9080+n/02 -/
def PERF_REC (n : Nat) : Nat := (0x9080 + n) * 256 + 0x02
/-- 0x9080+n/03 -/
def PERF_CLEAR (n : Nat) : Nat := (0x9080 + n) * 256 + 0x03
/-- 0x9080+n/04 -/
def PART_PERF (n : Nat) : Nat := (0x9080 + n) * 256 + 0x04
/-- 0xF000/01 -/
def RESET_MODULE : Nat := 0xF000 * 256 + 0x01
/-- 0xF000/02 -/
def RESET_PARTITION : Nat := 0xF000 * 256 + 0x02
/-- 0xF000/03 -/
def RESET_RICK : Nat := 0xF000 * 256 + 0x03
/-- 0xF000/04 -/
def RESET_HEARTH : Nat := 0xF000 * 256 + 0x04
/-- 0xF000/05 -/
def RESET_CAUSE : Nat := 0xF000 * 256 + 0x05
/-- 0xF000/06 -/
def RESET_COUNT : Nat := 0xF000 * 256 + 0x06
/-- 0xF000/07 -/
def BOOT_STATE : Nat := 0xF000 * 256 + 0x07
/-- 0xF000/08 -/
def RICK_READY : Nat := 0xF000 * 256 + 0x08
/-- 0xF000/09 -/
def BOOT_TIMES : Nat := 0xF000 * 256 + 0x09
/-- 0xF000/0A -/
def BOOT_BANK : Nat := 0xF000 * 256 + 0x0A
/-- 0xF000/0B -/
def BANK_STATUS : Nat := 0xF000 * 256 + 0x0B
/-- 0xF000/0C -/
def COLLIER_STATE : Nat := 0xF000 * 256 + 0x0C
/-- 0xF000/0D -/
def FAILOVERS : Nat := 0xF000 * 256 + 0x0D
/-- 0xF000/10 -/
def KINDLING_PART : Nat := 0xF000 * 256 + 0x10
/-- 0xF000/11 -/
def KINDLING_RICKS : Nat := 0xF000 * 256 + 0x11
/-- 0xF000/12 -/
def KINDLING_CORD : Nat := 0xF000 * 256 + 0x12
/-- 0xF000/13 -/
def KINDLING_MANIFEST : Nat := 0xF000 * 256 + 0x13
/-- 0xF000/14 -/
def KINDLING_SOURCES : Nat := 0xF000 * 256 + 0x14
/-- 0xF000/15 -/
def KINDLING_SETUP : Nat := 0xF000 * 256 + 0x15
/-- 0xF000/16 -/
def KINDLING_END : Nat := 0xF000 * 256 + 0x16
/-- 0xF000/17 -/
def KINDLING_STATUS : Nat := 0xF000 * 256 + 0x17
/-- 0xF010/01 -/
def ASH_OUT : Nat := 0xF010 * 256 + 0x01
/-- 0xF010/02 -/
def ASH_STATUS : Nat := 0xF010 * 256 + 0x02

end E

/-- Dictionary rows, part 0. -/
def entries0 : List Entry := [
  ⟨0x1000, 1, 0x01, .u64, .ro, .S, .all, .nobody, 0, 18446744073709551615, .num 0xAED0CF0107680200⟩,
  ⟨0x1000, 1, 0x02, .str, .ro, .S, .all, .nobody, 0, 0, .blob Config.serial⟩,
  ⟨0x1000, 1, 0x03, .u16, .ro, .S, .all, .nobody, 0, 65535, .num Config.boardLevel⟩,
  ⟨0x1000, 1, 0x04, .time64, .ro, .S, .all, .nobody, 0, 18446744073709551615, .num Config.mfgTime⟩,
  ⟨0x1000, 1, 0x05, .u8, .ro, .V, .op, .nobody, 0, 255, .num 0⟩,
  ⟨0x1000, 1, 0x06, .blob, .ro, .V, .op, .nobody, 0, 0, .blob (zeros 32)⟩,
  ⟨0x1000, 1, 0x07, .bool, .ro, .V, .op, .nobody, 0, 1, .num 0⟩,
  ⟨0x1100, 1, 0x01, .u16, .ro, .S, .all, .nobody, 0, 65535, .num 6260⟩,
  ⟨0x1100, 1, 0x02, .u64, .ro, .S, .all, .nobody, 0, 18446744073709551615, .num Config.macBase⟩,
  ⟨0x1100, 1, 0x03, .blob, .rw, .S, .all, .op, 0, 0, .blob (zeros 16)⟩,
  ⟨0x1100, 1, 0x04, .blob, .rw, .S, .all, .op, 0, 0, .blob (zeros 16)⟩,
  ⟨0x1100, 1, 0x05, .u64, .rw, .S, .all, .op, 0, 18446744073709551615, .num 0⟩,
  ⟨0x1100, 1, 0x06, .u32, .rw, .S, .all, .op, 0, 4294967295, .num 4294967295⟩,
  ⟨0x1100, 1, 0x07, .u64, .rw, .S, .all, .op, 1000000000, 3600000000000, .num 60000000000⟩,
  ⟨0x1100, 1, 0x08, .u64, .rw, .S, .all, .op, 1000000, 10000000000, .num 10000000⟩,
  ⟨0x1100, 1, 0x09, .u16, .ro, .V, .op, .nobody, 0, 65535, .num 0⟩,
  ⟨0x1100, 1, 0x0A, .blob, .ro, .V, .op, .nobody, 0, 0, .blob []⟩,
  ⟨0x1100, 1, 0x0B, .u32, .rw1c, .V, .op, .op, 0, 4294967295, .num 0⟩,
  ⟨0x1100, 1, 0x0C, .u32, .rw1c, .V, .op, .op, 0, 4294967295, .num 0⟩,
  ⟨0x1100, 1, 0x0D, .u8, .ro, .V, .all, .nobody, 0, 255, .num 255⟩,
  ⟨0x1110, 12, 0x01, .blob, .rw, .S, .part, .op, 0, 0, .blob (zeros 16)⟩,
  ⟨0x1110, 12, 0x02, .blob, .rw, .S, .part, .op, 0, 0, .blob (zeros 16)⟩,
  ⟨0x1110, 12, 0x03, .u64, .rw, .S, .part, .op, 0, 18446744073709551615, .num 0⟩,
  ⟨0x1110, 12, 0x04, .u32, .rw, .S, .part, .op, 0, 4294967295, .num 4294967295⟩,
  ⟨0x1110, 12, 0x05, .u8, .rw, .S, .part, .op, 0, 1, .num 1⟩,
  ⟨0x1110, 12, 0x06, .blob, .rw1c, .V, .part, .part1, 0, 0, .blob (zeros 32)⟩,
  ⟨0x1120, 12, 0x01, .u16, .rw, .V, .part, .part1, 0, 1023, .num 0⟩,
  ⟨0x1120, 12, 0x02, .blob, .rw, .B, .part, .part1, 0, 0, .blob (zeros 64)⟩,
  ⟨0x1120, 12, 0x03, .u8, .ro, .V, .part, .nobody, 0, 255, .num 0⟩,
  ⟨0x1120, 12, 0x04, .u32, .rw1c, .V, .part, .part1, 0, 4294967295, .num 0⟩,
  ⟨0x1200, 8, 0x01, .u8, .ro, .V, .op, .nobody, 0, 255, .num 0⟩,
  ⟨0x1200, 8, 0x02, .bool, .rw, .S, .op, .op, 0, 1, .num 1⟩,
  ⟨0x1200, 8, 0x03, .u8, .ro, .V, .op, .nobody, 0, 255, .num 0⟩,
  ⟨0x1200, 8, 0x04, .blob, .rw, .S, .op, .op, 0, 0, .blob (List.replicate 10 0xFE ++ List.replicate 990 0xFF)⟩,
  ⟨0x1200, 8, 0x05, .blob, .ro, .V, .op, .nobody, 0, 0, .blob (zeros 64)⟩,
  ⟨0x1200, 8, 0x06, .u64, .ro, .S, .op, .nobody, 0, 18446744073709551615, .num 0⟩,
  ⟨0x2000, 1, 0x01, .u32, .ro, .V, .op, .nobody, 0, 4294967295, .num 0⟩,
  ⟨0x2000, 1, 0x02, .u32, .ro, .V, .op, .nobody, 0, 4294967295, .num 0⟩,
  ⟨0x2000, 1, 0x03, .u32, .ro, .V, .op, .nobody, 0, 4294967295, .num 0⟩,
  ⟨0x2000, 1, 0x04, .u32, .rw, .S, .op, .op, 5000, 15000, .num 15000⟩]

/-- Dictionary rows, part 1. -/
def entries1 : List Entry := [
  ⟨0x2000, 1, 0x05, .u32, .rw, .S, .op, .op, 30000, 375000, .num 60000⟩,
  ⟨0x2000, 1, 0x06, .u64, .rw, .S, .op, .op, 100000, 2000000, .num 1000000⟩,
  ⟨0x2000, 1, 0x07, .u64, .rw, .S, .op, .op, 0, 100000000, .num 0⟩,
  ⟨0x2000, 1, 0x08, .u8, .ro, .V, .op, .nobody, 0, 255, .num 0⟩,
  ⟨0x2000, 1, 0x09, .u32, .ro, .V, .op, .nobody, 0, 4294967295, .num 0⟩,
  ⟨0x2000, 1, 0x0A, .u32, .rw1c, .V, .op, .op, 0, 4294967295, .num 0⟩,
  ⟨0x2000, 1, 0x0B, .u8, .rw, .S, .op, .op, 3, 4, .num 4⟩,
  ⟨0x2010, 12, 0x01, .u32, .rw, .S, .part, .op, 0, 4294967295, .num 0⟩,
  ⟨0x2010, 12, 0x02, .u32, .ro, .V, .part, .nobody, 0, 4294967295, .num 0⟩,
  ⟨0x2010, 12, 0x03, .u16, .ro, .V, .part, .nobody, 0, 65535, .num 0⟩,
  ⟨0x2010, 12, 0x04, .u8, .ro, .V, .part, .nobody, 0, 255, .num 0⟩,
  ⟨0x2010, 12, 0x05, .u32, .rw1c, .V, .part, .part1, 0, 4294967295, .num 0⟩,
  ⟨0x2100, 1, 0x01, .blob, .ro, .V, .op, .nobody, 0, 0, .blob (zeros 12)⟩,
  ⟨0x2110, 12, 0x01, .u64, .rw, .B, .part, .part1, 0, 18446744073709551615, .num 0⟩,
  ⟨0x2110, 12, 0x02, .u64, .rw, .B, .part, .part1, 1000000, 3600000000000, .num 10000000⟩,
  ⟨0x2110, 12, 0x03, .time64, .rw, .V, .part, .part1, 0, 18446744073709551615, .num 0⟩,
  ⟨0x2110, 12, 0x04, .cmd, .cmd, .V, .part, .part1, 0, 0, .blob []⟩,
  ⟨0x2110, 12, 0x05, .u8, .ro, .V, .part, .nobody, 0, 255, .num 0⟩,
  ⟨0x2110, 12, 0x06, .blob, .ro, .V, .part, .nobody, 0, 0, .blob (zeros 24)⟩,
  ⟨0x2110, 12, 0x07, .u32, .rw1c, .V, .part, .op, 0, 4294967295, .num 0⟩,
  ⟨0x2200, 1, 0x01, .time64, .ro, .M, .all, .nobody, 0, 18446744073709551615, .num 0⟩,
  ⟨0x2200, 1, 0x02, .u8, .ro, .V, .op, .nobody, 0, 255, .num 0⟩,
  ⟨0x2200, 1, 0x03, .u8, .rw, .S, .op, .op, 0, 1, .num 0⟩,
  ⟨0x2200, 1, 0x04, .u32, .rw, .S, .op, .op, 10, 1000, .num 100⟩,
  ⟨0x2200, 1, 0x05, .bool, .ro, .V, .op, .nobody, 0, 1, .num 0⟩,
  ⟨0x2200, 1, 0x06, .u8, .rw, .S, .op, .op, 0, 1, .num 0⟩,
  ⟨0x2200, 1, 0x07, .u8, .rw, .S, .op, .op, 10, 20, .num 14⟩,
  ⟨0x2200, 1, 0x08, .u8, .rw, .S, .op, .op, 10, 24, .num 16⟩,
  ⟨0x2200, 1, 0x09, .u32, .rw, .S, .op, .op, 1, 1000, .num 50⟩,
  ⟨0x2200, 1, 0x0A, .u8, .rw, .S, .op, .op, 1, 255, .num 3⟩,
  ⟨0x2200, 1, 0x0B, .u64, .rw, .S, .op, .op, 100000, 1000000000, .num 10000000⟩,
  ⟨0x2200, 1, 0x0C, .u32, .ro, .S, .all, .nobody, 0, 4294967295, .num 6000⟩,
  ⟨0x2200, 1, 0x0D, .u32, .ro, .S, .all, .nobody, 0, 4294967295, .num 2000⟩,
  ⟨0x2210, 12, 0x01, .u8, .ro, .V, .op, .nobody, 0, 255, .num 4⟩,
  ⟨0x2210, 12, 0x02, .u8, .ro, .V, .op, .nobody, 0, 255, .num 0⟩,
  ⟨0x2210, 12, 0x03, .u8, .rw, .V, .op, .op, 0, 15, .num 0⟩,
  ⟨0x2210, 12, 0x04, .u8, .rw, .V, .op, .op, 10, 24, .num 16⟩,
  ⟨0x2210, 12, 0x05, .u8, .rw, .V, .op, .op, 0, 17, .num 0⟩,
  ⟨0x2210, 12, 0x06, .cmd, .cmd, .V, .op, .op, 0, 0, .blob []⟩,
  ⟨0x2210, 12, 0x07, .u64, .ro, .V, .op, .nobody, 0, 18446744073709551615, .num 0⟩]

/-- Dictionary rows, part 2. -/
def entries2 : List Entry := [
  ⟨0x2220, 12, 0x01, .u16, .rw, .S, .part, .op, 0, 65535, .num 1000⟩,
  ⟨0x3000, 1, 0x01, .u64, .ro, .S, .all, .nobody, 0, 18446744073709551615, .num 68451041280⟩,
  ⟨0x3000, 1, 0x02, .u64, .ro, .S, .all, .nobody, 0, 18446744073709551615, .num 268435456⟩,
  ⟨0x3000, 1, 0x03, .u64, .ro, .S, .all, .nobody, 0, 18446744073709551615, .num 137438953472⟩,
  ⟨0x3010, 12, 0x01, .u64, .rw, .S, .slot, .op, 0, 18446744073709551615, .num 0⟩,
  ⟨0x3010, 12, 0x02, .u64, .rw, .S, .slot, .op, 0, 18446744073709551615, .num 0⟩,
  ⟨0x3010, 12, 0x03, .u64, .rw, .S, .slot, .op, 0, 18446744073709551615, .num 0⟩,
  ⟨0x3010, 12, 0x04, .u32, .rw, .S, .slot, .op, 0, 4294967295, .num 0⟩,
  ⟨0x3010, 12, 0x05, .blob, .ro, .B, .slot, .nobody, 0, 0, .blob (zeros 32)⟩,
  ⟨0x3030, 12, 0x01, .blob, .wo, .V, .part, .part1, 0, 0, .blob []⟩,
  ⟨0x3030, 12, 0x02, .u32, .wo, .V, .part, .part1, 0, 4294967295, .num 0⟩,
  ⟨0x3030, 12, 0x03, .u16, .ro, .V, .part, .nobody, 0, 65535, .num 65535⟩,
  ⟨0x3030, 12, 0x04, .blob, .ro, .B, .part, .nobody, 0, 0, .blob (zeros 8192)⟩,
  ⟨0x3030, 12, 0x05, .cmd, .cmd, .V, .part, .part1, 0, 0, .blob []⟩,
  ⟨0x3030, 12, 0x06, .u64, .ro, .B, .part, .nobody, 0, 18446744073709551615, .num 0⟩,
  ⟨0x3030, 12, 0x07, .u32, .ro, .V, .part, .nobody, 0, 4294967295, .num 0⟩,
  ⟨0x3030, 12, 0x08, .u32, .rw1c, .V, .part, .part1, 0, 4294967295, .num 0⟩,
  ⟨0x3030, 12, 0x09, .u32, .rw1c, .V, .part, .part1, 0, 4294967295, .num 0⟩,
  ⟨0x3030, 12, 0x0A, .u32, .ro, .B, .part, .nobody, 0, 4294967295, .num 0⟩,
  ⟨0x3100, 12, 0x01, .u8, .rw, .V, .part, .part1, 0, 255, .num 255⟩,
  ⟨0x3100, 12, 0x02, .blob, .wo, .V, .part, .part1, 0, 0, .blob []⟩,
  ⟨0x3100, 12, 0x03, .cmd, .cmd, .V, .part, .part1, 0, 0, .blob []⟩,
  ⟨0x3100, 12, 0x04, .cmd, .cmd, .V, .part, .part1, 0, 0, .blob []⟩,
  ⟨0x3100, 12, 0x05, .cmd, .cmd, .V, .part, .part1, 0, 0, .blob []⟩,
  ⟨0x3100, 12, 0x06, .blob, .rw, .B, .part, .part1, 0, 0, .blob (zeros 128)⟩,
  ⟨0x3100, 12, 0x07, .blob, .ro, .B, .part, .nobody, 0, 0, .blob (zeros 768)⟩,
  ⟨0x3100, 12, 0x08, .blob, .ro, .B, .part, .nobody, 0, 0, .blob []⟩,
  ⟨0x3100, 12, 0x09, .u64, .rw, .B, .part, .part1, 600000000000, 604800000000000, .num 3600000000000⟩,
  ⟨0x3140, 12, 0x01, .u32, .ro, .M, .part, .nobody, 0, 4294967295, .num 0⟩,
  ⟨0x3140, 12, 0x02, .u8, .rw, .B, .part, .part1, 0, 2, .num 0⟩,
  ⟨0x3140, 12, 0x03, .u16, .wo, .V, .part, .part1, 0, 65535, .num 0⟩,
  ⟨0x3140, 12, 0x04, .blob, .ro, .B, .part, .nobody, 0, 0, .blob (zeros 64)⟩,
  ⟨0x3140, 12, 0x05, .u8, .ro, .V, .part, .nobody, 0, 255, .num 0⟩,
  ⟨0x3140, 12, 0x06, .u32, .rw, .B, .part, .part1, 1, 4294967295, .num 100000⟩,
  ⟨0x3140, 12, 0x07, .u8, .rw, .B, .part, .part1, 1, 2, .num 1⟩,
  ⟨0x3140, 12, 0x08, .u64, .rw, .B, .part, .part1, 1000000, 60000000000, .num 50000000⟩,
  ⟨0x3140, 12, 0x09, .u32, .rw1c, .V, .part, .part1, 0, 4294967295, .num 0⟩,
  ⟨0x3140, 12, 0x0A, .u32, .rw1c, .V, .part, .part1, 0, 4294967295, .num 0⟩,
  ⟨0x3200, 12, 0x01, .blob, .rw, .B, .part, .part1, 0, 0, .blob []⟩,
  ⟨0x3200, 12, 0x02, .blob, .rw, .B, .part, .part1, 0, 0, .blob (zeros 48)⟩]

/-- Dictionary rows, part 3. -/
def entries3 : List Entry := [
  ⟨0x3200, 12, 0x03, .blob, .ro, .V, .part, .nobody, 0, 0, .blob (zeros 48)⟩,
  ⟨0x3200, 12, 0x04, .u32, .rw, .B, .part, .part1, 0, 4294967295, .num 4096⟩,
  ⟨0x3200, 12, 0x05, .u64, .wo, .V, .part, .part1, 0, 18446744073709551615, .num 0⟩,
  ⟨0x3200, 12, 0x06, .u16, .ro, .B, .part, .nobody, 0, 65535, .num 0⟩,
  ⟨0x3200, 12, 0x07, .u32, .rw1c, .V, .part, .part1, 0, 4294967295, .num 0⟩,
  ⟨0x3200, 12, 0x08, .u32, .rw1c, .V, .part, .part1, 0, 4294967295, .num 0⟩,
  ⟨0x3200, 12, 0x09, .u32, .ro, .B, .part, .nobody, 0, 4294967295, .num 0⟩,
  ⟨0x4000, 1, 0x01, .u64, .ro, .V, .all, .nobody, 0, 18446744073709551615, .num 0⟩,
  ⟨0x4010, 12, 0x01, .u16, .rw, .S, .part, .op, 0, 65535, .num 0⟩,
  ⟨0x4020, 12, 0x01, .blob, .rw, .S, .slot, .op, 0, 0, .blob (zeros 16)⟩,
  ⟨0x4030, 12, 0x01, .u8, .rw, .S, .part, .op, 0, 255, .num 255⟩,
  ⟨0x4030, 12, 0x02, .u8, .ro, .V, .part, .nobody, 0, 255, .num 4⟩,
  ⟨0x4110, 12, 0x01, .u8, .rw, .V, .part, .part1, 0, 255, .num 255⟩,
  ⟨0x4110, 12, 0x02, .blob, .wo, .V, .part, .part1, 0, 0, .blob []⟩,
  ⟨0x4110, 12, 0x03, .cmd, .cmd, .V, .part, .part1, 0, 0, .blob []⟩,
  ⟨0x4110, 12, 0x04, .cmd, .cmd, .V, .part, .part1, 0, 0, .blob []⟩,
  ⟨0x4110, 12, 0x05, .u16, .ro, .V, .part, .nobody, 0, 65535, .num 0⟩,
  ⟨0x4110, 12, 0x06, .blob, .rw, .B, .part, .part1, 0, 0, .blob []⟩,
  ⟨0x4110, 12, 0x07, .u8, .ro, .V, .part, .nobody, 0, 255, .num 255⟩,
  ⟨0x4110, 12, 0x08, .u64, .ro, .V, .part, .nobody, 0, 18446744073709551615, .num 0⟩,
  ⟨0x4110, 12, 0x09, .blob, .ro, .V, .part, .nobody, 0, 0, .blob (zeros 64)⟩,
  ⟨0x4110, 12, 0x0A, .u32, .rw1c, .V, .part, .part1, 0, 4294967295, .num 0⟩,
  ⟨0x4110, 12, 0x0B, .blob, .ro, .B, .part, .nobody, 0, 0, .blob (zeros 128)⟩,
  ⟨0x4110, 12, 0x0C, .u32, .rw1c, .V, .part, .part1, 0, 4294967295, .num 0⟩,
  ⟨0x4110, 12, 0x0D, .blob, .rw, .B, .part, .part1, 0, 0, .blob (List.replicate 32 0xFF)⟩,
  ⟨0x4120, 12, 0x01, .u64, .rw, .B, .part, .part1, 0, 18446744073709551615, .num 0⟩,
  ⟨0x4200, 1, 0x01, .u32, .ro, .S, .all, .nobody, 0, 4294967295, .num 5000⟩,
  ⟨0x4200, 1, 0x02, .u32, .ro, .S, .all, .nobody, 0, 4294967295, .num 1000000⟩,
  ⟨0x4210, 12, 0x01, .u32, .ro, .V, .part, .nobody, 0, 4294967295, .num 0⟩,
  ⟨0x4210, 12, 0x02, .u16, .ro, .V, .part, .nobody, 0, 65535, .num 0⟩,
  ⟨0x4210, 12, 0x03, .u32, .ro, .V, .part, .nobody, 0, 4294967295, .num 0⟩,
  ⟨0x5000, 12, 0x01, .u16, .rw, .V, .part, .part1, 0, 65535, .num 0⟩,
  ⟨0x5000, 12, 0x02, .blob, .ro, .B, .part, .nobody, 0, 0, .blob (zeros 128)⟩,
  ⟨0x5000, 12, 0x03, .u16, .rw, .B, .part, .part1, 1, 65535, .num 64⟩,
  ⟨0x5000, 12, 0x04, .u8, .wo, .V, .part, .part1, 0, 255, .num 0⟩,
  ⟨0x5000, 12, 0x05, .blob, .ro, .V, .part, .nobody, 0, 0, .blob (zeros 36)⟩,
  ⟨0x5000, 12, 0x06, .u32, .rw1c, .V, .part, .part1, 0, 4294967295, .num 0⟩,
  ⟨0x5000, 12, 0x07, .u32, .rw1c, .V, .part, .part1, 0, 4294967295, .num 0⟩,
  ⟨0x5000, 12, 0x08, .u32, .rw1c, .V, .part, .part1, 0, 4294967295, .num 0⟩,
  ⟨0x5010, 12, 0x01, .u16, .rw, .S, .slot, .op, 0, 65535, .num 0⟩]

/-- Dictionary rows, part 4. -/
def entries4 : List Entry := [
  ⟨0x5100, 12, 0x01, .u16, .rw, .B, .part, .part1, 0, 8192, .num 0⟩,
  ⟨0x5100, 12, 0x02, .blob, .rw, .B, .part, .part1, 0, 0, .blob (List.replicate 24 0xFF)⟩,
  ⟨0x5200, 12, 0x01, .u8, .rw, .V, .part, .part1, 0, 63, .num 0⟩,
  ⟨0x5200, 12, 0x02, .blob, .rw, .B, .part, .part1, 0, 0, .blob (zeros 64)⟩,
  ⟨0x5200, 12, 0x03, .blob, .rw1c, .V, .part, .part1, 0, 0, .blob (zeros 256)⟩,
  ⟨0x5200, 12, 0x04, .u16, .rw, .B, .part, .part1, 0, 65535, .num 65535⟩,
  ⟨0x5200, 12, 0x05, .u16, .rw, .B, .part, .part1, 0, 65535, .num 65535⟩,
  ⟨0x5200, 12, 0x06, .u8, .rw, .B, .part, .part1, 0, 8, .num 0⟩,
  ⟨0x5200, 12, 0x07, .u64, .ro, .B, .part, .nobody, 0, 18446744073709551615, .num 0⟩,
  ⟨0x5200, 12, 0x08, .u32, .rw1c, .V, .part, .part1, 0, 4294967295, .num 0⟩,
  ⟨0x6000, 1, 0x01, .u16, .rw, .S, .op, .op, 0, 65535, .num 0⟩,
  ⟨0x6000, 1, 0x02, .u16, .rw, .S, .op, .op, 0, 65535, .num 65535⟩,
  ⟨0x6010, 16, 0x01, .u8, .ro, .V, .op, .nobody, 0, 255, .num 0⟩,
  ⟨0x6010, 16, 0x02, .bool, .rw, .S, .op, .op, 0, 1, .num 1⟩,
  ⟨0x6010, 16, 0x03, .cmd, .cmd, .V, .op, .op, 0, 0, .blob []⟩,
  ⟨0x6010, 16, 0x04, .u64, .rw, .S, .op, .op, 0, 18446744073709551615, .num 0⟩,
  ⟨0x6010, 16, 0x05, .u64, .ro, .V, .op, .nobody, 0, 18446744073709551615, .num 0⟩,
  ⟨0x6010, 16, 0x06, .blob, .rw, .S, .op, .op, 0, 0, .blob (List.replicate 1000 0xFF)⟩,
  ⟨0x6010, 16, 0x07, .blob, .rw, .S, .op, .op, 0, 0, .blob (List.replicate 1000 0xFF)⟩,
  ⟨0x6010, 16, 0x08, .u8, .ro, .S, .op, .nobody, 0, 255, .num 255⟩,
  ⟨0x6010, 16, 0x09, .u32, .rw, .S, .op, .op, 0, 4294967295, .num 1000000⟩,
  ⟨0x6010, 16, 0x0A, .u64, .ro, .V, .op, .nobody, 0, 18446744073709551615, .num 0⟩,
  ⟨0x6010, 16, 0x0B, .u64, .ro, .V, .op, .nobody, 0, 18446744073709551615, .num 0⟩,
  ⟨0x6010, 16, 0x0C, .u32, .ro, .V, .op, .nobody, 0, 4294967295, .num 0⟩,
  ⟨0x6100, 12, 0x01, .u8, .rw, .V, .part, .part1, 0, 63, .num 0⟩,
  ⟨0x6100, 12, 0x02, .blob, .rw, .B, .part, .part1, 0, 0, .blob (zeros 160)⟩,
  ⟨0x6100, 12, 0x03, .blob, .rw, .B, .part, .part1, 0, 0, .blob []⟩,
  ⟨0x6100, 12, 0x04, .blob, .rw1c, .V, .part, .part1, 0, 0, .blob (zeros 4096)⟩,
  ⟨0x6100, 12, 0x05, .u32, .rw1c, .V, .part, .part1, 0, 4294967295, .num 0⟩,
  ⟨0x6110, 12, 0x01, .blob, .wo, .V, .part, .part1, 0, 0, .blob []⟩,
  ⟨0x6110, 12, 0x02, .u32, .ro, .V, .part, .nobody, 0, 4294967295, .num 0⟩,
  ⟨0x6110, 12, 0x03, .u32, .wo, .V, .part, .part1, 0, 4294967295, .num 0⟩,
  ⟨0x6110, 12, 0x04, .u16, .rw, .V, .part, .part1, 0, 4095, .num 0⟩,
  ⟨0x6110, 12, 0x05, .blob, .rw, .B, .part, .part1, 0, 0, .blob (zeros 32)⟩,
  ⟨0x6200, 1, 0x01, .blob, .ro, .V, .op, .nobody, 0, 0, .blob [0x00, 0x10, 0x00, 0x40]⟩,
  ⟨0x6210, 12, 0x01, .blob, .rw, .S, .part, .op, 0, 0, .blob (zeros 4)⟩,
  ⟨0x6210, 12, 0x02, .blob, .rw, .B, .part, .part1, 0, 0, .blob (zeros 128)⟩,
  ⟨0x6210, 12, 0x03, .blob, .wo, .V, .part, .part1, 0, 0, .blob []⟩,
  ⟨0x6210, 12, 0x04, .u16, .ro, .V, .part, .nobody, 0, 65535, .num 0⟩,
  ⟨0x6210, 12, 0x05, .u64, .rw, .B, .part, .part1, 100000, 10000000000, .num 10000000⟩]

/-- Dictionary rows, part 5. -/
def entries5 : List Entry := [
  ⟨0x6210, 12, 0x06, .u32, .rw1c, .V, .part, .part1, 0, 4294967295, .num 0⟩,
  ⟨0x6210, 12, 0x07, .u32, .rw1c, .V, .part, .part1, 0, 4294967295, .num 0⟩,
  ⟨0x6800, 12, 0x01, .blob, .ro, .B, .part, .nobody, 0, 0, .blob (zeros 256)⟩,
  ⟨0x6800, 12, 0x02, .blob, .rw, .B, .part, .part1, 0, 0, .blob (zeros 64)⟩,
  ⟨0x6800, 12, 0x03, .u16, .rw, .B, .part, .part1, 1, 65535, .num 16⟩,
  ⟨0x6800, 12, 0x04, .u8, .wo, .V, .part, .part1, 0, 255, .num 0⟩,
  ⟨0x6800, 12, 0x05, .u32, .rw1c, .V, .part, .part1, 0, 4294967295, .num 0⟩,
  ⟨0x6800, 12, 0x06, .u32, .rw1c, .V, .part, .part1, 0, 4294967295, .num 0⟩,
  ⟨0x6800, 12, 0x07, .u32, .rw1c, .V, .part, .part1, 0, 4294967295, .num 0⟩,
  ⟨0x6800, 12, 0x08, .u32, .rw1c, .V, .part, .part1, 0, 4294967295, .num 0⟩,
  ⟨0x6800, 12, 0x09, .u16, .rw, .B, .part, .part1, 0, 65535, .num 65535⟩,
  ⟨0x6800, 12, 0x0A, .u64, .ro, .B, .part, .nobody, 0, 18446744073709551615, .num 0⟩,
  ⟨0x6800, 12, 0x0B, .u32, .rw1c, .V, .part, .part1, 0, 4294967295, .num 0⟩,
  ⟨0x6800, 12, 0x0C, .u32, .rw, .B, .part, .part1, 0, 4294967295, .num 0⟩,
  ⟨0x6820, 12, 0x01, .blob, .wo, .V, .part, .part1, 0, 0, .blob []⟩,
  ⟨0x6820, 12, 0x02, .cmd, .cmd, .V, .part, .part1, 0, 0, .blob []⟩,
  ⟨0x6820, 12, 0x03, .cmd, .cmd, .V, .part, .part1, 0, 0, .blob []⟩,
  ⟨0x6820, 12, 0x04, .u16, .ro, .V, .part, .nobody, 0, 65535, .num 0⟩,
  ⟨0x6820, 12, 0x05, .blob, .ro, .V, .part, .nobody, 0, 0, .blob (zeros 64)⟩,
  ⟨0x6820, 12, 0x06, .u64, .rw, .B, .part, .part1, 10000000, 3600000000000, .num 60000000000⟩,
  ⟨0x6820, 12, 0x07, .u64, .rw, .B, .part, .part1, 1000000, 10000000000, .num 100000000⟩,
  ⟨0x6820, 12, 0x08, .blob, .ro, .B, .part, .nobody, 0, 0, .blob (zeros 80)⟩,
  ⟨0x6820, 12, 0x09, .u32, .rw1c, .V, .part, .part1, 0, 4294967295, .num 0⟩,
  ⟨0x6820, 12, 0x0A, .u32, .rw1c, .V, .part, .part1, 0, 4294967295, .num 0⟩,
  ⟨0x7000, 1, 0x01, .blob, .ro, .M, .op, .nobody, 0, 0, .blob []⟩,
  ⟨0x7000, 1, 0x02, .u64, .ro, .M, .op, .nobody, 0, 18446744073709551615, .num 0⟩,
  ⟨0x7000, 1, 0x03, .blob, .ro, .S, .op, .nobody, 0, 0, .blob []⟩,
  ⟨0x7000, 1, 0x04, .blob, .ro, .S, .all, .nobody, 0, 0, .blob Config.codeMatrix⟩,
  ⟨0x7000, 1, 0x05, .u32, .ro, .S, .op, .nobody, 0, 4294967295, .num 0⟩,
  ⟨0x7010, 12, 0x01, .blob, .ro, .B, .part, .nobody, 0, 0, .blob []⟩,
  ⟨0x7010, 12, 0x02, .u64, .ro, .B, .part, .nobody, 0, 18446744073709551615, .num 0⟩,
  ⟨0x7010, 12, 0x03, .u64, .ro, .M, .part, .nobody, 0, 18446744073709551615, .num 0⟩,
  ⟨0x7020, 1, 0x01, .u64, .rw, .S, .op, .op, 60000000000, 86400000000000, .num 600000000000⟩,
  ⟨0x7020, 1, 0x02, .u64, .rw, .S, .op, .op, 3600000000000, 604800000000000, .num 28800000000000⟩,
  ⟨0x7020, 1, 0x03, .u64, .rw, .S, .op, .op, 3600000000000, 604800000000000, .num 86400000000000⟩,
  ⟨0x7020, 1, 0x04, .u64, .rw, .S, .op, .op, 3600000000000, 604800000000000, .num 86400000000000⟩,
  ⟨0x7020, 1, 0x05, .u64, .rw, .S, .op, .op, 60000000000, 86400000000000, .num 3600000000000⟩,
  ⟨0x7020, 1, 0x06, .u64, .rw, .S, .op, .op, 60000000000, 86400000000000, .num 3600000000000⟩,
  ⟨0x7020, 1, 0x07, .u64, .rw, .S, .op, .op, 10000000, 10000000000, .num 100000000⟩,
  ⟨0x7020, 1, 0x08, .u32, .rw1c, .V, .op, .op, 0, 4294967295, .num 0⟩]

/-- Dictionary rows, part 6. -/
def entries6 : List Entry := [
  ⟨0x7030, 1, 0x01, .u32, .rw, .S, .op, .op, 0, 4294967295, .num 256⟩,
  ⟨0x7030, 1, 0x02, .u32, .rw, .S, .op, .op, 0, 4294967295, .num 4096⟩,
  ⟨0x7030, 1, 0x03, .u32, .rw, .S, .op, .op, 0, 4294967295, .num 8⟩,
  ⟨0x7030, 1, 0x04, .u32, .rw, .S, .op, .op, 0, 4294967295, .num 40⟩,
  ⟨0x7040, 1, 0x01, .blob, .ro, .S, .op, .nobody, 0, 0, .blob (zeros 1728)⟩,
  ⟨0x7050, 12, 0x01, .blob, .ro, .S, .op, .nobody, 0, 0, .blob (zeros 288)⟩,
  ⟨0x7050, 12, 0x02, .blob, .ro, .S, .op, .nobody, 0, 0, .blob (List.replicate 8 0xFF)⟩,
  ⟨0x7050, 12, 0x03, .blob, .ro, .V, .op, .nobody, 0, 0, .blob (zeros 544)⟩,
  ⟨0x7050, 12, 0x04, .u32, .ro, .S, .op, .nobody, 0, 4294967295, .num 0⟩,
  ⟨0x7050, 12, 0x05, .u8, .ro, .S, .op, .nobody, 0, 255, .num 0⟩,
  ⟨0x7050, 12, 0x06, .bool, .ro, .S, .op, .nobody, 0, 1, .num 0⟩,
  ⟨0x8000, 1, 0x01, .digest384, .ro, .S, .all, .nobody, 0, 0, .blob Config.deviceId⟩,
  ⟨0x8000, 1, 0x02, .blob, .ro, .V, .all, .nobody, 0, 0, .blob Config.certChain⟩,
  ⟨0x8000, 1, 0x03, .u64, .ro, .M, .all, .nobody, 0, 18446744073709551615, .num 0⟩,
  ⟨0x8000, 1, 0x04, .cmd, .cmd, .V, .op, .op, 0, 0, .blob []⟩,
  ⟨0x8000, 1, 0x05, .blob, .ro, .V, .op, .nobody, 0, 0, .blob []⟩,
  ⟨0x8000, 1, 0x06, .blob, .ro, .V, .all, .nobody, 0, 0, .blob []⟩,
  ⟨0x8008, 1, 0x01, .blob, .wo, .V, .op, .op, 0, 0, .blob []⟩,
  ⟨0x8008, 1, 0x02, .cmd, .cmd, .V, .op, .op, 0, 0, .blob []⟩,
  ⟨0x8008, 1, 0x03, .u16, .ro, .V, .op, .nobody, 0, 65535, .num 0⟩,
  ⟨0x8008, 1, 0x04, .blob, .ro, .S, .op, .nobody, 0, 0, .blob (zeros 8)⟩,
  ⟨0x8008, 1, 0x05, .cmd, .cmd, .V, .op, .op, 0, 0, .blob []⟩,
  ⟨0x8010, 1, 0x01, .blob, .wo, .V, .op, .op, 0, 0, .blob []⟩,
  ⟨0x8010, 1, 0x02, .u64, .wo, .V, .op, .op, 0, 18446744073709551615, .num 0⟩,
  ⟨0x8010, 1, 0x03, .blob, .ro, .S, .op, .nobody, 0, 0, .blob []⟩,
  ⟨0x8020, 12, 0x01, .blob, .wo, .V, .slot, .slot1, 0, 0, .blob []⟩,
  ⟨0x8020, 12, 0x02, .u64, .wo, .V, .slot, .slot1, 0, 18446744073709551615, .num 0⟩,
  ⟨0x8020, 12, 0x03, .blob, .ro, .S, .slot, .nobody, 0, 0, .blob []⟩,
  ⟨0x8020, 12, 0x04, .blob, .wo, .V, .slot, .slot1, 0, 0, .blob []⟩,
  ⟨0x8020, 12, 0x05, .u64, .wo, .V, .slot, .slot1, 0, 18446744073709551615, .num 0⟩,
  ⟨0x8020, 12, 0x06, .blob, .ro, .M, .slot, .nobody, 0, 0, .blob []⟩,
  ⟨0x8040, 12, 0x01, .cmd, .cmd, .V, .part, .part1, 0, 0, .blob []⟩,
  ⟨0x8040, 12, 0x02, .blob, .ro, .V, .part, .nobody, 0, 0, .blob []⟩,
  ⟨0x8040, 12, 0x03, .u32, .rw, .B, .part, .part1, 0, 4294967295, .num 0⟩,
  ⟨0x8040, 12, 0x04, .u32, .ro, .V, .part, .nobody, 0, 4294967295, .num 0⟩,
  ⟨0x8040, 12, 0x05, .u32, .ro, .V, .part, .nobody, 0, 4294967295, .num 0⟩,
  ⟨0x8040, 12, 0x06, .u64, .ro, .M, .part, .nobody, 0, 18446744073709551615, .num 0⟩,
  ⟨0x9000, 1, 0x01, .u32, .ro, .S, .all, .nobody, 0, 4294967295, .num 16384⟩,
  ⟨0x9000, 1, 0x02, .u32, .ro, .S, .all, .nobody, 0, 4294967295, .num 4096⟩,
  ⟨0x9010, 12, 0x01, .u64, .rw, .B, .part, .cons, 0, 18446744073709551615, .num 0⟩]

/-- Dictionary rows, part 7. -/
def entries7 : List Entry := [
  ⟨0x9010, 12, 0x02, .u8, .rw, .B, .part, .cons, 0, 2, .num 0⟩,
  ⟨0x9010, 12, 0x03, .u8, .rw, .B, .part, .cons, 0, 31, .num 1⟩,
  ⟨0x9010, 12, 0x04, .u8, .rw, .B, .part, .cons, 0, 16, .num 8⟩,
  ⟨0x9010, 12, 0x05, .u8, .rw, .B, .part, .cons, 12, 24, .num 16⟩,
  ⟨0x9010, 12, 0x06, .bool, .rw, .V, .part, .cons, 0, 1, .num 0⟩,
  ⟨0x9010, 12, 0x07, .cmd, .cmd, .V, .part, .cons, 0, 0, .blob []⟩,
  ⟨0x9010, 12, 0x08, .blob, .ro, .V, .part, .nobody, 0, 0, .blob (zeros 8)⟩,
  ⟨0x9010, 12, 0x09, .blob, .ro, .V, .part, .nobody, 0, 0, .blob []⟩,
  ⟨0x9010, 12, 0x0A, .u64, .rw1c, .V, .part, .cons, 0, 18446744073709551615, .num 0⟩,
  ⟨0x9020, 12, 0x01, .blob, .ro, .V, .part, .nobody, 0, 0, .blob (zeros 32)⟩,
  ⟨0x9020, 12, 0x02, .u32, .rw1c, .V, .part, .part1, 0, 4294967295, .num 0⟩,
  ⟨0x9020, 12, 0x03, .u32, .rw1c, .V, .part, .part1, 0, 4294967295, .num 0⟩,
  ⟨0x9030, 12, 0x01, .u32, .rw1c, .V, .part, .part1, 0, 4294967295, .num 0⟩,
  ⟨0x9030, 12, 0x02, .blob, .ro, .V, .part, .nobody, 0, 0, .blob (zeros 16)⟩,
  ⟨0x9040, 12, 0x01, .u32, .rw1c, .V, .part, .part1, 0, 4294967295, .num 0⟩,
  ⟨0x9050, 12, 0x01, .blob, .ro, .V, .part, .nobody, 0, 0, .blob (zeros 32)⟩,
  ⟨0x9050, 12, 0x02, .cmd, .cmd, .V, .part, .part1, 0, 0, .blob []⟩,
  ⟨0x9050, 12, 0x03, .u32, .rw1c, .V, .part, .part1, 0, 4294967295, .num 0⟩,
  ⟨0x9060, 12, 0x01, .u32, .rw1c, .V, .part, .part1, 0, 4294967295, .num 0⟩,
  ⟨0x9060, 12, 0x02, .u64, .ro, .V, .part, .nobody, 0, 18446744073709551615, .num 0⟩,
  ⟨0x9060, 12, 0x03, .u32, .ro, .V, .part, .nobody, 0, 4294967295, .num 0⟩,
  ⟨0x9070, 12, 0x01, .u8, .rw, .V, .part, .cons, 0, 255, .num 0⟩,
  ⟨0x9070, 12, 0x02, .blob, .rw, .B, .part, .cons, 0, 0, .blob (zeros 80)⟩,
  ⟨0x9070, 12, 0x03, .cmd, .cmd, .V, .part, .cons, 0, 0, .blob []⟩,
  ⟨0x9070, 12, 0x04, .cmd, .cmd, .V, .part, .cons, 0, 0, .blob []⟩,
  ⟨0x9070, 12, 0x05, .u8, .ro, .V, .part, .nobody, 0, 255, .num 0⟩,
  ⟨0x9070, 12, 0x06, .blob, .ro, .V, .part, .nobody, 0, 0, .blob (zeros 32)⟩,
  ⟨0x9070, 12, 0x07, .u64, .rw, .B, .part, .cons, 0, 18446744073709551615, .num 600000000000⟩,
  ⟨0x9070, 12, 0x08, .u32, .rw1c, .V, .part, .cons, 0, 4294967295, .num 0⟩,
  ⟨0x9070, 12, 0x09, .cmd, .cmd, .V, .part, .cons, 0, 0, .blob []⟩,
  ⟨0x9070, 12, 0x0A, .blob, .ro, .V, .part, .nobody, 0, 0, .blob []⟩,
  ⟨0x9080, 12, 0x01, .u8, .rw, .V, .part, .cons, 0, 255, .num 0⟩,
  ⟨0x9080, 12, 0x02, .blob, .ro, .V, .part, .nobody, 0, 0, .blob (zeros 160)⟩,
  ⟨0x9080, 12, 0x03, .cmd, .cmd, .V, .part, .cons, 0, 0, .blob []⟩,
  ⟨0x9080, 12, 0x04, .blob, .ro, .V, .part, .nobody, 0, 0, .blob (zeros 48)⟩,
  ⟨0xF000, 1, 0x01, .cmd, .cmd, .V, .op, .op, 0, 0, .blob []⟩,
  ⟨0xF000, 1, 0x02, .cmd, .cmd, .V, .op, .opPart, 0, 0, .blob []⟩,
  ⟨0xF000, 1, 0x03, .cmd, .cmd, .V, .op, .op, 0, 0, .blob []⟩,
  ⟨0xF000, 1, 0x04, .cmd, .cmd, .V, .op, .op, 0, 0, .blob []⟩,
  ⟨0xF000, 1, 0x05, .blob, .ro, .M, .op, .nobody, 0, 0, .blob (zeros 16)⟩]

/-- Dictionary rows, part 8. -/
def entries8 : List Entry := [
  ⟨0xF000, 1, 0x06, .u32, .ro, .M, .op, .nobody, 0, 4294967295, .num 0⟩,
  ⟨0xF000, 1, 0x07, .u8, .ro, .V, .all, .nobody, 0, 255, .num 0⟩,
  ⟨0xF000, 1, 0x08, .u16, .ro, .V, .op, .nobody, 0, 65535, .num 0⟩,
  ⟨0xF000, 1, 0x09, .blob, .ro, .V, .op, .nobody, 0, 0, .blob (zeros 120)⟩,
  ⟨0xF000, 1, 0x0A, .u8, .rw, .S, .op, .op, 0, 1, .num 0⟩,
  ⟨0xF000, 1, 0x0B, .blob, .ro, .S, .op, .nobody, 0, 0, .blob (zeros 32)⟩,
  ⟨0xF000, 1, 0x0C, .u8, .ro, .V, .op, .nobody, 0, 255, .num 0⟩,
  ⟨0xF000, 1, 0x0D, .u32, .rw1c, .M, .op, .op, 0, 4294967295, .num 0⟩,
  ⟨0xF000, 1, 0x10, .u8, .rw, .S, .kind, .op, 0, 255, .num 255⟩,
  ⟨0xF000, 1, 0x11, .u16, .rw, .S, .kind, .op, 0, 65535, .num 0⟩,
  ⟨0xF000, 1, 0x12, .blob, .rw, .S, .kind, .kind1, 0, 0, .blob []⟩,
  ⟨0xF000, 1, 0x13, .blob, .rw, .S, .kind, .kind1, 0, 0, .blob []⟩,
  ⟨0xF000, 1, 0x14, .blob, .rw, .S, .kind, .kind1, 0, 0, .blob (zeros 128)⟩,
  ⟨0xF000, 1, 0x15, .blob, .rw, .S, .kind, .kind1, 0, 0, .blob []⟩,
  ⟨0xF000, 1, 0x16, .cmd, .cmd, .V, .kind, .opKind, 0, 0, .blob []⟩,
  ⟨0xF000, 1, 0x17, .blob, .ro, .V, .kind, .nobody, 0, 0, .blob (zeros 24)⟩,
  ⟨0xF010, 1, 0x01, .cmd, .cmd, .V, .op, .op, 0, 0, .blob []⟩,
  ⟨0xF010, 1, 0x02, .blob, .ro, .V, .op, .nobody, 0, 0, .blob (zeros 48)⟩]

/-- The whole dictionary. -/
def entries : List Entry :=
  entries0 ++ entries1 ++ entries2 ++ entries3 ++ entries4 ++ entries5 ++ entries6 ++ entries7 ++ entries8

/-- The row of an index and subindex, where one exists (R480, R484). -/
def entryOf (idx sub : Nat) : Option Entry :=
  entries.find? (fun e => e.sub == sub && decide (e.base ≤ idx) && decide (idx < e.base + e.count))

/-- The default value of an entry by its key. -/
def dfltOf (key : Nat) : DVal :=
  match entryOf (key / 256) (key % 256) with
  | some e => e.dflt
  | none => .num 0

end Sys2Proof.Machine
end

