-- ==== Sys2Proof/Machine/Ops.lean ====
section
/-!
DEFINITION. The named operations over the state that every meaning shares: dictionary values, byte stores,
objects by number, events, free values.
-/
namespace Sys2Proof.Machine

/-! Dictionary values -/

/-- The value in force of an entry by its key. -/
def State.dval (s : State) (key : Nat) : DVal :=
  match Tab.look s.dict key with
  | some v => v
  | none => dfltOf key

/-- A numeric entry. -/
def State.num (s : State) (key : Nat) : Nat :=
  match s.dval key with
  | .num v => v
  | .blob _ => 0

/-- The bytes of a BLOB entry. -/
def State.blob (s : State) (key : Nat) : List Byte :=
  match s.dval key with
  | .num _ => []
  | .blob b => b

/-- A session sees an entry change: its subscription counts the change (R476). -/
def Session.noted (key : Nat) (x : Session) : Session :=
  { x with subs := x.subs.map (fun b => if b.key = key then { b with changes := b.changes + 1, dirty := true } else b) }

/-- An entry takes a value; the sessions that subscribe to it count a change. -/
def State.setVal (s : State) (key : Nat) (v : DVal) : State :=
  { s with dict := s.dict.put key v, sessions := if s.dval key = v then s.sessions else s.sessions.mapV (fun _ x => x.noted key) }

/-- Sets a numeric entry. -/
def State.setNum (s : State) (key v : Nat) : State := s.setVal key (.num v)

/-- Sets a BLOB entry. -/
def State.setBlob (s : State) (key : Nat) (b : List Byte) : State := s.setVal key (.blob b)

/-- An entry back to its default. -/
def State.unset (s : State) (key : Nat) : State :=
  { s with dict := s.dict.del key, sessions := if s.dval key = dfltOf key then s.sessions else s.sessions.mapV (fun _ x => x.noted key) }

/-- Adds to a counter of `w` bits; what a count beyond its width leaves is a free value (log 5). -/
def State.bumpBy (s : State) (key w d : Nat) : State :=
  let v := s.num key + d
  s.setNum key (if v < 2 ^ w then v else Config.counterOverflow key v d % 2 ^ w)

/-- Adds one to a U32 counter. -/
def State.bump (s : State) (key : Nat) : State := s.bumpBy key 32 1

/-! Byte stores -/

/-- The state with a byte string stored: a 16-byte word written whole is a code word again (R592). -/
def State.store (s : State) (a : Nat) (l : List Byte) : State :=
  let past (w : Nat) : Bool := decide (a ≤ 16 * w) && decide (16 * w + 16 ≤ a + l.length)
  { s with mem := s.mem.store a l, bad := s.bad.filter (fun w => !past w), ce := s.ce.filter (fun w => !past w) }

/-- `n` bytes from `a` cleared. -/
def State.zeroRange (s : State) (a n : Nat) : State :=
  let past (w : Nat) : Bool := decide (a ≤ 16 * w) && decide (16 * w + 16 ≤ a + n)
  { s with mem := s.mem.zero a n, bad := s.bad.filter (fun w => !past w), ce := s.ce.filter (fun w => !past w) }

/-- `n` bytes copied within the byte stores; an uncorrectable word of the source is written as a poison word (R592). Addresses
and length are multiples of 16. -/
def State.copyRange (s : State) (src dst n : Nat) : State :=
  let out (w : Nat) : Bool := !(decide (dst ≤ 16 * w) && decide (16 * w < dst + n))
  let moved := (s.bad.filter (fun w => decide (src ≤ 16 * w) && decide (16 * w < src + n))).map (fun w => w - src / 16 + dst / 16)
  { s with mem := s.mem.copy src dst n, bad := moved ++ s.bad.filter out, ce := s.ce.filter out }

/-- Poison words laid over the words that the `n` bytes from `a` touch (R592). -/
def State.poisonWords (s : State) (a n : Nat) : State :=
  { s with mem := s.mem.zero (a / 16 * 16) (n + a % 16), bad := ((List.range (ceilDiv (n + a % 16) 16)).map (fun i => a / 16 + i)) ++ s.bad }

/-- The address lies in a substrate channel that has failed (R608). -/
def State.deadAt (s : State) (a : Nat) : Bool :=
  let m := a / 2 ^ 37 % 128
  a / 2 ^ 44 == 1 && decide (m < 48) && (s.ricks.getD (m / 4) {}).schan.contains m

/-- A read of `n` bytes from `a` meets an uncorrectable word. -/
def State.uncorrectable (s : State) (a n : Nat) : Bool :=
  s.bad.any (fun w => decide (a / 16 ≤ w) && decide (16 * w < a + n)) || s.deadAt a

/-- Words of the range whose error the decoder corrects (R593). -/
def State.correctable (s : State) (a n : Nat) : List Nat :=
  s.ce.filter (fun w => decide (a / 16 ≤ w) && decide (16 * w < a + n))

/-! Objects by number -/

/-- A physical hearth. -/
def State.hearth (s : State) (g : Nat) : Hearth := s.hearths.getD g {}
/-- Replaces a physical hearth. -/
def State.setHearth (s : State) (g : Nat) (h : Hearth) : State := { s with hearths := s.hearths.put g h }
/-- Changes a physical hearth. -/
def State.onHearth (s : State) (g : Nat) (f : Hearth → Hearth) : State := s.setHearth g (f (s.hearth g))
/-- What the device remembers of a request. -/
def State.rx (s : State) (i : Nat) : ReqX := s.reqx.getD i {}
/-- Changes what the device remembers of a request. -/
def State.onRx (s : State) (i : Nat) (f : ReqX → ReqX) : State := { s with reqx := s.reqx.put i (f (s.rx i)) }
/-- A partition. -/
def State.part (s : State) (n : Nat) : Part := s.parts.getD n {}
/-- Replaces a partition. -/
def State.setPart (s : State) (n : Nat) (p : Part) : State := { s with parts := s.parts.put n p }
/-- Changes a partition. -/
def State.onPart (s : State) (n : Nat) (f : Part → Part) : State := s.setPart n (f (s.part n))

/-- Device time moves to an event's instant, never back. -/
def State.at (s : State) (t : Nat) : State := { s with now := max s.now t }

/-- The next free value, its counter read and advanced (log 1). -/
def State.draw (s : State) : W64 × State := (Config.freeValue s.free, { s with free := s.free + 1 })

/-- Folds a state change over a list. -/
def forAll {α : Type} (l : List α) (f : α → State → State) (s : State) : State := l.foldl (fun s x => f x s) s

/-! Ricks, hearths and partitions -/

/-- The ricks of a partition, ascending (R65); the kindling partition counts as having the kindling ricks (R574). -/
def State.ricksOf (s : State) (n : Nat) : List Nat :=
  bitList (if s.kindMask != 0 && s.kindPart == n then s.kindMask else s.num (E.RICK_MASK n)) 12

/-- The partition that holds a rick (R65). -/
def State.partOf (s : State) (k : Nat) : Option Nat := lowestFrom (fun n => (s.num (E.RICK_MASK n)).testBit k) 0 12

/-- The partition exists (R65). -/
def State.exists (s : State) (n : Nat) : Bool := s.num (E.RICK_MASK n) != 0

/-- The physical hearth a logical hearth is bound to (R77, R610). -/
def State.phys (s : State) (l : Nat) : Nat := s.remap.getD l (18 * (l / 16) + l % 16)

/-- The logical hearth bound to a physical hearth, when there is one. -/
def State.logical (s : State) (g : Nat) : Option Nat := lowestFrom (fun l => s.phys l == g) (16 * (g / 18)) 16

/-- The active logical hearths of a partition, ascending. -/
def State.hearthsOf (s : State) (n : Nat) : List Nat :=
  (s.ricksOf n).flatMap (fun k => (List.range 16).map (fun j => 16 * k + j))

/-- A rick. -/
def State.rick (s : State) (k : Nat) : Rick := s.ricks.getD k {}
/-- Changes a rick. -/
def State.onRick (s : State) (k : Nat) (f : Rick → Rick) : State := { s with ricks := s.ricks.put k (f (s.rick k)) }

/-! Events (R613 to R617) -/

/-- The last `cap` elements with one more. -/
def pushCap {α : Type} (cap : Nat) (l : List α) (x : α) : List α := lastOf cap (l ++ [x])

/-- Codes copied to the persistent log (R616). -/
def persists (code : Nat) : Bool :=
  (decide (0xE001 ≤ code) && decide (code ≤ 0xE0FF)) ||
  [0xE206, 0xE207, 0xE402, 0xE403, 0xE801, 0xE901, 0xE902, 0xE903, 0xE904, 0xEA04, 0xEA09].contains code

/-- The scope byte of a partition, a rick, a fabric port, an Ethernet port (Table 21-7). -/
def scopeP (n : Nat) : Nat := 0x10 + n
def scopeK (k : Nat) : Nat := 0x20 + k
def scopeF (p : Nat) : Nat := 0x30 + p
def scopeE (e : Nat) : Nat := 0x40 + e

/-- DETAIL of a tenant's record: a value naming a physical part is hidden (R617, Table 17-8; log 7). -/
def tenantDetail (code : Nat) (d : List Nat) : List Nat := if code = 0xE402 then d.map (fun _ => 0) else d

/-- Raises an event: EVENT_LOG, EVENT_PERSIST and, for a record with TENANT set, PART_EVENTS (R613 to R617). -/
def State.raise (s : State) (code scope : Nat) (detail : List Nat := []) : State :=
  let seq := s.num E.EVENT_SEQ + 1
  let ten := scope / 16 == 1 || code == 0xE002
  let e : Ev := ⟨code, scope, persists code, ten, seq, s.now, detail⟩
  let s1 := { s with events := pushCap 65536 s.events e,
                     persisted := if persists code then pushCap 16384 s.persisted e else s.persisted }
  let s2 := s1.setNum E.EVENT_SEQ seq
  if scope / 16 = 1 then
    let n := scope % 16
    ({ s2 with partEvents := s2.partEvents.put n (pushCap 256 (s2.partEvents.getD n []) { e with time := micro e.time, detail := tenantDetail code detail }) }).bumpBy (E.PART_EVENT_SEQ n) 64 1
  else s2

end Sys2Proof.Machine
end

