-- ==== Sys2Proof/Machine/Trace.lean ====
section
/-!
DEFINITION. Trace records and counters (Trace, Breakpoints and Counters): how a stream takes a record, its losses
and its markers, and the hearth counters of Table 22-11.
-/
namespace Sys2Proof.Machine

/-- A trace record of 16 bytes (Tables 22-2 and 22-4). -/
def traceBytes16 (typ info iaddr cyc data : Nat) : List Byte :=
  leBytes 1 typ ++ leBytes 1 info ++ leBytes 2 iaddr ++ leBytes 4 cyc ++ leBytes 8 data

/-- One record reaches a buffer of `cap` records, whose last slot is kept for the LOSS marker (R626). -/
def TraceBuf.push (cap : Nat) (b : TraceBuf) (rec : List Byte) : TraceBuf :=
  if b.recs.length + 1 < cap ∧ b.lost = 0 then { b with recs := b.recs ++ [rec] }
  else { b with lost := b.lost + 1, lostAll := b.lostAll + 1, lostStarts := b.lostStarts + (if fld rec 0 1 = 1 then 1 else 0),
                lostCycle := if b.lost = 0 then fld rec 4 4 else b.lostCycle }

/-- The LOSS marker of the pending count, written when a slot is free (R626, Table 22-3). -/
def TraceBuf.flushLoss (b : TraceBuf) : TraceBuf :=
  if b.lost = 0 then b
  else { b with recs := b.recs ++ [traceBytes16 0x0A 0 0 b.lostCycle (b.lost % 2 ^ 32 + 2 ^ 32 * (b.lostStarts % 65536))],
                lost := 0, lostStarts := 0, lostCycle := 0 }

/-- The trace of a partition records (R632). -/
def State.tracing (s : State) (n : Nat) : Bool := s.num (E.TRACE_ENABLE n) == 1 && !(s.part n).traceEnded

/-- The TRIGGER marker (Table 22-3). -/
def Trigger.marker (t : Trigger) : List Byte := traceBytes16 0x0B t.source 0 t.cycle t.data

/-- The trigger's marker is due before a record of cycle `cyc` of step `stepno` (R630). -/
def Trigger.due (t : Trigger) (stepno cyc : Nat) : Bool :=
  t.source == 4 || t.stepno != stepno || decide (t.cycle + 2048 ≤ cyc)

/-- Counts lost records: TRACE_LOST, PART_PERF, and event 0xE314 once a step (R626). -/
def State.countLoss (s : State) (n d : Nat) : State :=
  if d = 0 then s else
  let s1 := (s.bumpBy (E.TRACE_LOST n) 64 d).onPart n (fun p => { p with lossEvent := true, perfLost := p.perfLost + d })
  if (s.part n).lossEvent then s1 else s1.raise 0xE314 (scopeP n)

/-- A record reaches a hearth's stream (R626, R630). -/
def State.hearthRecord (s : State) (n g : Nat) (rec : List Byte) : State :=
  if !s.tracing n then s else
  let h := s.hearth g
  let mark := match (s.part n).trig with
    | some t => !h.trace.marked && t.due (s.num (E.STEP_COUNT n)) (fld rec 4 4)
    | none => false
  let b0 := h.trace
  let b1 := if mark then { b0.push 16384 ((s.part n).trig.elim [] Trigger.marker) with marked := true } else b0
  let b2 := b1.push 16384 rec
  (s.setHearth g { h with trace := b2 }).countLoss n (b2.lost - b0.lost)

/-- A core record of R116, kept when TRACE_SELECT bit [0] asks for it (R623). -/
def State.coreRecord (s : State) (n g typ info iaddr data : Nat) : State :=
  if (s.num (E.TRACE_SELECT n)).testBit 0 then s.hearthRecord n g (traceBytes16 typ info iaddr ((s.hearth g).cycle % 2 ^ 32) data) else s

/-- A marker in every hearth stream of a partition (R623). -/
def State.markAll (s : State) (n typ info data : Nat) : State :=
  forAll (s.hearthsOf n) (fun l s => s.hearthRecord n (s.phys l) (traceBytes16 typ info 0 ((s.hearth (s.phys l)).cycle % 2 ^ 32) data)) s

/-- A NIC record on the stream of rick `k` (R625). -/
def State.nicRecord (s : State) (n k typ kind peer msgid : Nat) : State :=
  if s.tracing n && (s.num (E.TRACE_SELECT n)).testBit 1 then
    let b0 := (s.rick k).nic
    let mark := (s.part n).trig.isSome && !b0.marked
    let b1 := if mark then { b0.push 4096 ((s.part n).trig.elim [] Trigger.marker) with marked := true } else b0
    let b2 := b1.push 4096 (leBytes 1 typ ++ leBytes 1 kind ++ leBytes 2 peer ++ leBytes 4 msgid ++ leBytes 8 (micro s.now))
    (s.onRick k (fun r => { r with nic := b2 })).countLoss n (b2.lost - b0.lost)
  else s

/-- A trigger: only the first after TRACE_ENABLE takes effect (R630). -/
def State.trigger (s : State) (n source data cycle : Nat) : State :=
  if s.tracing n && (s.part n).trig.isNone then
    (s.onPart n (fun p => { p with trig := some ⟨source, data, cycle, s.num (E.STEP_COUNT n)⟩ })).raise 0xE313 (scopeP n)
  else s

/-- Adds to a hearth counter of Table 22-11, by its offset div 8. -/
def Hearth.count (h : Hearth) (i d : Nat) : Hearth := { h with perfRun := h.perfRun.put i (h.perfRun.getD i 0 + d) }

end Sys2Proof.Machine
end

