-- ==== Sys2Proof/Machine/Tiers.lean ====
section
/-!
DEFINITION. Regions, tier addresses, reads and writes of the tiers, dirty and poisoned pages (Memory Tiers, Quotas
and Write-Back).
-/
namespace Sys2Proof.Machine

/-- A region record of Table 09-4; 32 zero bytes when it is not in use (R263). -/
def State.region (s : State) (n r : Nat) : List Byte := s.regions.getD (n * 256 + r) (zeros 32)
/-- CLASS of a region record. -/
def rgClass (r : List Byte) : Nat := fld r 2 1
/-- BACKED. -/
def rgBacked (r : List Byte) : Bool := (fld r 3 1).testBit 0
/-- LIVE. -/
def rgLive (r : List Byte) : Bool := (fld r 3 1).testBit 1
/-- RICK. -/
def rgRick (r : List Byte) : Nat := fld r 4 1
/-- JOBSLOT. -/
def rgJob (r : List Byte) : Nat := fld r 5 1
/-- BOFF. -/
def rgBoff (r : List Byte) : Nat := fld r 8 8
/-- LENGTH. -/
def rgLen (r : List Byte) : Nat := fld r 16 8
/-- SOFF. -/
def rgSoff (r : List Byte) : Nat := fld r 24 8
/-- The region has a tier B span. -/
def rgHasB (r : List Byte) : Bool := rgRick r != 0xFF && rgLen r != 0
/-- The region has a tier S span. -/
def rgHasS (r : List Byte) : Bool := rgSoff r != 2 ^ 64 - 1 && rgLen r != 0

/-- The numbers of a partition's regions in use (R263). -/
def State.regionNums (s : State) (n : Nat) : List Nat :=
  ((Tab.range s.regions (n * 256) (n * 256 + 256)).filter (fun p => rgLen p.2 != 0)).map (fun p => p.1 % 256)

/-- Replaces a region record. -/
def State.setRegion (s : State) (n r : Nat) (b : List Byte) : State := { s with regions := s.regions.put (n * 256 + r) b }

/-- Sets or clears a FLAGS bit of a region record. -/
def State.regionFlag (s : State) (n r bitno : Nat) (on : Bool) : State :=
  let b := s.region n r
  let f := fld b 3 1
  s.setRegion n r (setFld b 3 1 (if f.testBit bitno == on then f else if on then f + 2 ^ bitno else f - 2 ^ bitno))

/-- The substrate channels of a partition, ascending (R25, R259). -/
def State.channels (s : State) (n : Nat) : List Nat := (s.ricksOf n).flatMap (fun k => (List.range 4).map (fun j => 4 * k + j))

/-- Where offset `o` of a partition's tier S lies (R259). -/
def State.tierSAddr (s : State) (n o : Nat) : Nat :=
  let ch := s.channels n
  let c := ch.length
  tierS ((ch[o / 256 % c]?).getD 0) + o / (256 * c) * 256 + o % 256

/-- The contiguous pieces, at most 256 bytes each, of a tier S span. -/
def State.tierSSegs (s : State) (n : Nat) : Nat → Nat → Nat → List (Nat × Nat)
  | 0, _, _ => []
  | f + 1, o, len =>
    if len = 0 then [] else
    let d := min len (256 - o % 256)
    (s.tierSAddr n o, d) :: s.tierSSegs n f (o + d) (len - d)

/-- The pieces of a tier S span. -/
def State.segsS (s : State) (n o len : Nat) : List (Nat × Nat) := s.tierSSegs n (len / 256 + 2) o len

/-- The bytes of a list of pieces. -/
def State.readSegs (s : State) (l : List (Nat × Nat)) : List Byte := l.flatMap (fun x => s.mem.read x.1 x.2)

/-- Bytes written over a list of pieces; what falls on a failed substrate channel is discarded (R608). -/
def State.writeSegs : State → List (Nat × Nat) → List Byte → State
  | s, [], _ => s
  | s, (a, n) :: r, b => State.writeSegs (if s.deadAt a then s else s.store a (b.take n)) r (b.drop n)

/-- Some piece holds an uncorrectable word. -/
def State.badSegs (s : State) (l : List (Nat × Nat)) : Bool := l.any (fun x => s.uncorrectable x.1 x.2)

/-- The key of a 4 KiB page of a stack. -/
def pageB (k off : Nat) : Nat := k * 2 ^ 24 + off / 4096
/-- The key of a 4 KiB page of a partition's tier S. -/
def pageS (n off : Nat) : Nat := 2 ^ 40 + n * 2 ^ 32 + off / 4096

/-- The page offsets that `len` bytes from `off` touch. -/
def pagesOf (off len : Nat) : List Nat := (List.range (ceilDiv (off % 4096 + len) 4096)).map (fun i => (off / 4096 + i) * 4096)

/-- The region of a partition whose tier B span holds a range of a stack. -/
def State.regionAtB (s : State) (n k off len : Nat) : Option Nat :=
  (s.regionNums n).find? (fun r => let b := s.region n r
    rgRick b == k && rgLive b && decide (rgBoff b ≤ off) && decide (off + len ≤ rgBoff b + rgLen b))

/-- The region of a partition whose tier S span holds a range of its tier S. -/
def State.regionAtS (s : State) (n off len : Nat) : Option Nat :=
  (s.regionNums n).find? (fun r => let b := s.region n r
    rgHasS b && decide (rgSoff b ≤ off) && decide (off + len ≤ rgSoff b + rgLen b))

/-- A write to a stack of a partition: data, dirty bits of a backed region (R271), poison cleared by a write of a
whole page (R282). -/
def State.writeB (s : State) (n k off : Nat) (l : List Byte) : State :=
  let s1 := s.store (tierB k + off) l
  let whole := (pagesOf off l.length).filter (fun p => decide (off ≤ p) && decide (p + 4096 ≤ off + l.length))
  let s2 := { s1 with pagePoison := whole.foldl (fun t p => t.del (pageB k p)) s1.pagePoison }
  match s.regionAtB n k off l.length with
  | some r => if rgBacked (s.region n r) then { s2 with dirty := (pagesOf off l.length).foldl (fun t p => t.put (pageB k p) true) s2.dirty } else s2
  | none => s2

/-- A page of a tier is poisoned: the region's POISON flag, the count and the event (R282). -/
def State.poisonPage (s : State) (n r key tier off : Nat) : State :=
  let s0 := if s.pagePoison.getD key false then s
    else { s with pagePoison := s.pagePoison.put key true }.bump (E.POISONED_TIER_PAGES n)
  (s0.regionFlag n r 2 true).raise (if tier = 1 then 0xE901 else 0xE902) (scopeP n) [r, off]

/-- A write to a partition's tier S; the pages it touches on a failed channel are poisoned (R608). -/
def State.writeS (s : State) (n off : Nat) (l : List Byte) : State :=
  let s1 := s.writeSegs (s.segsS n off l.length) l
  let whole := (pagesOf off l.length).filter (fun p => decide (off ≤ p) && decide (p + 4096 ≤ off + l.length))
  let s2 := { s1 with pagePoison := whole.foldl (fun t p => t.del (pageS n p)) s1.pagePoison }
  forAll ((pagesOf off l.length).filter (fun p => (s.segsS n (max p off) (min (p + 4096) (off + l.length) - max p off)).any (fun x => s.deadAt x.1)))
    (fun p s => match s.regionAtS n p 1 with
      | some r => s.poisonPage n r (pageS n p) 2 (p - rgSoff (s.region n r))
      | none => s) s2

/-- Bytes of a region from its tier B span. -/
def State.readRegion (s : State) (n r off len : Nat) : List Byte :=
  let b := s.region n r
  s.mem.read (tierB (rgRick b) + rgBoff b + off) len

/-- Bytes written into a region's tier B span. -/
def State.writeRegion (s : State) (n r off : Nat) (l : List Byte) : State :=
  let b := s.region n r
  s.writeB n (rgRick b) (rgBoff b + off) l

/-- The tier field of a TADDR (Table 09-2). -/
def taTier (a : Nat) : Nat := bits a 63 60
/-- The stack of a tier B TADDR. -/
def taRick (a : Nat) : Nat := bits a 39 36
/-- The stack offset of a tier B TADDR. -/
def taBoff (a : Nat) : Nat := bits a 35 0
/-- The offset of a tier S TADDR. -/
def taSoff (a : Nat) : Nat := bits a 42 0
/-- The window of a tier P TADDR. -/
def taWindow (a : Nat) : Nat := bits a 59 48
/-- The offset of a tier P TADDR. -/
def taPoff (a : Nat) : Nat := bits a 47 0

/-- Classes the layout engine may read (Table 09-5). -/
def classRead (c : Nat) : Bool := c == 0 || c == 1 || c == 3
/-- Classes the layout engine may write (Table 09-5). -/
def classWrite (c : Nat) : Bool := c == 0 || c == 5 || c == 6

/-- The region that a tier B or tier S range lies in, when the range lies wholly in one span (R257, R264). -/
def State.rangeRegion (s : State) (n ta len : Nat) : Option Nat :=
  if taTier ta = 1 ∧ bits ta 59 40 = 0 then
    if taBoff ta + len ≤ 2 ^ 36 then s.regionAtB n (taRick ta) (taBoff ta) len else none
  else if taTier ta = 2 ∧ bits ta 59 43 = 0 then
    if taSoff ta + len ≤ 2 ^ 43 then s.regionAtS n (taSoff ta) len else none
  else none

/-- The pieces of a tier B or tier S range. -/
def State.segsOf (s : State) (n ta len : Nat) : List (Nat × Nat) :=
  if taTier ta = 1 then [(tierB (taRick ta) + taBoff ta, len)] else s.segsS n (taSoff ta) len

/-- Writes a tier B or tier S range. -/
def State.writeTier (s : State) (n ta : Nat) (l : List Byte) : State :=
  if taTier ta = 1 then s.writeB n (taRick ta) (taBoff ta) l else s.writeS n (taSoff ta) l

/-- Some page of a tier range is poisoned. -/
def State.poisonedRange (s : State) (n ta len : Nat) : Bool :=
  if taTier ta = 1 then (pagesOf (taBoff ta) len).any (fun p => s.pagePoison.getD (pageB (taRick ta) p) false)
  else (pagesOf (taSoff ta) len).any (fun p => s.pagePoison.getD (pageS n p) false)

end Sys2Proof.Machine
end

