-- ==== Sys2Proof/Machine/Cords.lean ====
section
/-!
DEFINITION. Cord images and job slots (Cords and the Static Schedule): header fields, sections, WCET records.
-/
namespace Sys2Proof.Machine

/-- KIND of a cord header (Table 02-2). -/
def cdKind (i : List Byte) : Nat := fld i 0x08 1
/-- RICK_COUNT. -/
def cdRickCount (i : List Byte) : Nat := fld i 0x09 1
/-- RICK_MASK. -/
def cdRickMask (i : List Byte) : Nat := fld i 0x0A 2
/-- CLOCK_MHZ. -/
def cdClock (i : List Byte) : Nat := fld i 0x0C 2
/-- STEP_KINDS. -/
def cdStepKinds (i : List Byte) : Nat := fld i 0x0E 2
/-- CROSS_PS. -/
def cdCrossPs (i : List Byte) : Nat := fld i 0x10 4
/-- HOP_PS. -/
def cdHopPs (i : List Byte) : Nat := fld i 0x14 4
/-- TRANSIT_FP. -/
def cdTransit (i : List Byte) : Nat := fld i 0x18 8
/-- SWITCH_PROLOGUE_NS. -/
def cdPrologue (i : List Byte) : Nat := fld i 0x20 8
/-- SECTION_COUNT. -/
def cdSections (i : List Byte) : Nat := fld i 0x28 4
/-- SECTION_TABLE. -/
def cdTable (i : List Byte) : Nat := fld i 0x2C 4
/-- TENANT_ID. -/
def cdTenant (i : List Byte) : Nat := fld i 0x60 16
/-- SIGNER_ID. -/
def cdSigner (i : List Byte) : Nat := fld i 0x70 8
/-- BODY_LENGTH. -/
def cdBody (i : List Byte) : Nat := fld i 0x78 8

/-- The section table: type, offset, length of each entry (R51). -/
def cdEntries (i : List Byte) : List (Nat × Nat × Nat) :=
  (List.range (cdSections i)).map (fun j => let o := cdTable i + 16 * j; (fld i o 2, fld i (o + 8) 4, fld i (o + 12) 4))

/-- The bytes of every section of a type. -/
def cdSectionsOf (i : List Byte) (ty : Nat) : List (List Byte) :=
  ((cdEntries i).filter (fun e => e.1 == ty)).map (fun e => bytesAt i e.2.1 e.2.2)

/-- The bytes of the section of a type; empty when it is absent. -/
def cdSection (i : List Byte) (ty : Nat) : List Byte := ((cdSectionsOf i ty).head?).getD []

/-- The section is present. -/
def cdHas (i : List Byte) (ty : Nat) : Bool := (cdEntries i).any (fun e => e.1 == ty)

/-- The WCET record of a step kind (Table 02-5). -/
def cdStep (i : List Byte) (kind : Nat) : List Byte :=
  let st := cdSection i 8
  ((pieces st 32 (st.length / 32)).find? (fun r => fld r 0 2 == kind)).getD (zeros 32)

/-- WCET_NS of a step kind. -/
def cdWcet (i : List Byte) (kind : Nat) : Nat := fld (cdStep i kind) 0x18 8

/-- The largest WCET_NS of a cord. -/
def cdWcetMax (i : List Byte) : Nat :=
  let st := cdSection i 8
  (pieces st 32 (st.length / 32)).foldl (fun m r => max m (fld r 0x18 8)) 0

/-- The POLL section. -/
def cdPoll (i : List Byte) : List Byte := cdSection i 9

/-- The admission record of a step kind (Table 11-6). -/
def cdAdmission (i : List Byte) (kind : Nat) : Option (List Byte) :=
  (Config.pollAdmission (cdPoll i)).find? (fun r => fld r 0 2 == kind)

/-- The slot records of the FABRIC_MAP section (R428). -/
def cdFabric (i : List Byte) : List Nat :=
  let f := cdSection i 6
  (pieces f 8 (f.length / 8)).map leNat

/-- A job slot. -/
def State.job (s : State) (n j : Nat) : Job := s.jobs.getD (n * 8 + j) {}
/-- Changes a job slot. -/
def State.onJob (s : State) (n j : Nat) (f : Job → Job) : State := { s with jobs := s.jobs.put (n * 8 + j) (f (s.job n j)) }
/-- The image whose header counts for a slice-plan entry: the co-cord's own, for the first member of one (R74). -/
def Job.image (x : Job) : List Byte := if x.coImg.isEmpty then x.img else x.coImg
/-- The job slot holds a cord. -/
def State.loaded (s : State) (n j : Nat) : Bool := (s.job n j).img.length != 0
/-- The job slots of a partition that hold a cord. -/
def State.loadedJobs (s : State) (n : Nat) : List Nat := (List.range 8).filter (fun j => s.loaded n j)
/-- A cord is loaded in the partition. -/
def State.anyLoaded (s : State) (n : Nat) : Bool := (s.loadedJobs n).length != 0

/-- The arithmetic clock a partition runs at, in MHz (R534, R548). -/
def State.clockMhz (s : State) (n : Nat) : Nat :=
  if (s.part n).floorNow then 500 else
  let r := s.num (E.RUN_CLOCK_MHZ n)
  if r = 0 then s.num (E.PART_CLOCK_MHZ n) else r

/-- The device time of a cycle of the running step (R105, R542). -/
def State.cycleTime (s : State) (n cyc : Nat) : Nat := (s.part n).stepT0 + (s.part n).haltNs + cyc * 1000 / s.clockMhz n

/-- The partition is halted (R115, R634). -/
def State.haltedNow (s : State) (n : Nat) : Bool := (s.part n).halt.any (fun x => x.since.isSome)

/-- Raking pieces of the running step kind: start cycles (R108). -/
def State.rakeStarts (s : State) (n : Nat) : List Nat :=
  Config.rakeStarts (cdSection (s.job n (s.part n).job).img 7) (s.part n).kind

end Sys2Proof.Machine
end

