-- ==== Sys2Proof/Machine/Fabric.lean ====
section
/-!
DEFINITION. Messages of the NIC engines: endpoints, windows, ports, connections, sending, and messages in flight (R416 to
R418, R427, R432, R447, R462).
-/
namespace Sys2Proof.Machine

/-- A window record; 32 zero bytes when none was written (R432). -/
def State.window (s : State) (n w : Nat) : List Byte := s.windows.getD (n * 4096 + w) (zeros 32)
/-- ENDPOINT of a window. -/
def wnEnd (b : List Byte) : Nat := fld b 0 8
/-- RKEY of a window. -/
def wnRkey (b : List Byte) : Nat := fld b 8 4
/-- PATH of a window. -/
def wnPath (b : List Byte) : Nat := fld b 12 1
/-- VALID of a window. -/
def wnValid (b : List Byte) : Bool := (fld b 13 1).testBit 0
/-- LENGTH of a window. -/
def wnLen (b : List Byte) : Nat := fld b 16 8

/-- The fabric endpoint of a partition of this module (Table 15-6). -/
def State.endpoint (s : State) (n : Nat) : Nat :=
  s.num E.DOMAIN_ID * 2 ^ 48 + s.num E.MODULE_ID * 2 ^ 32 + n * 2 ^ 28

/-- The tenant id of a partition; 0 without a tenant (R495, R498). -/
def State.tenantOf (s : State) (n : Nat) : Nat :=
  let t := s.num (E.PART_TENANT n)
  if t = 0xFF then 0 else leNat (s.blob (E.TENANT_ID t))

/-! Ports (Table 01-2, R424, R427) -/

/-- The rick that carries a fabric port. -/
def fportRick (p : Nat) : Nat := if p < 8 then p / 2 else p / 2 + 4
/-- The rick that carries an Ethernet port. -/
def eportRick (e : Nat) : Nat := ([0, 3, 8, 11, 4, 7, 4, 7][e]?).getD 0

/-- A fabric port. -/
def State.fport (s : State) (p : Nat) : FPort := s.fports.getD p {}
/-- Changes a fabric port. -/
def State.onFport (s : State) (p : Nat) (f : FPort → FPort) : State := { s with fports := s.fports.put p (f (s.fport p)) }

/-- Transmit owner code of a position. -/
def State.txOwner (s : State) (p x : Nat) : Nat := fld (s.blob (E.TX_OWNERS p)) x 1
/-- Receive owner code of a position. -/
def State.rxOwner (s : State) (p x : Nat) : Nat := fld (s.blob (E.RX_OWNERS p)) x 1
/-- The partition owns a transmit position of the port. -/
def State.ownsTx (s : State) (n p : Nat) : Bool := (s.blob (E.TX_OWNERS p)).any (fun b => b.toNat == n)
/-- The control position of a partition on a port (R427). -/
def State.controlPos (s : State) (n p : Nat) : Option Nat := lowestFrom (fun x => s.txOwner p x == n) 1 999

/-- The port a message leaves by: the first slot record of the claimant with the message's TAG; a token or an answer, and a
message whose TAG no record has, by a port whose peer is the destination's module, else by the lowest port on which the
partition owns positions (log 37). -/
def State.portFor (s : State) (n : Nat) (slots : List Nat) (tag dest : Nat) (control : Bool) : Nat :=
  let r0 := slots.find? (fun r => bits r 15 0 == tag && decide (bits r 63 56 < 16))
  match r0, control with
  | some r, false => bits r 63 56
  | _, _ =>
    let owned := (List.range 16).filter (fun p => s.ownsTx n p)
    ((owned.find? (fun p => s.num (E.PEER p) / 2 ^ 32 == dest / 2 ^ 32)).orElse (fun _ => owned.head?)).getD 0

/-! Connections (R462, R463) -/

/-- A connection. -/
def State.conn (s : State) (n c : Nat) : Conn := s.conns.getD (n * 1024 + c) {}
/-- Changes a connection. -/
def State.onConn (s : State) (n c : Nat) (f : Conn → Conn) : State := { s with conns := s.conns.put (n * 1024 + c) (f (s.conn n c)) }
/-- Packet numbers a transfer takes (R463): one for each 4,096 bytes, and one for an empty transfer. -/
def packets (len : Nat) : Nat := max 1 (ceilDiv len 4096)
/-- The connection of a message: PATH 2 names it in the endpoint (R464); path 3 in its tag. -/
def Msg.connection (m : Msg) : Nat := if m.path = 2 then m.dest % 1024 else m.tag
/-- RoCE v2 operation of a message: 0 WRITE, 1 WRITE with immediate, 2 READ (R447, R625). -/
def Msg.roceOp (m : Msg) : Nat := if m.kind = 0x02 then 2 else if m.notify || m.kind == 0x06 then 1 else 0

/-- The message is sent: the fabric takes a HEADER flit and data flits of the partition's owner code (R416), a connection
its packets. The message is in flight for `use` unless nothing answers it. -/
def State.sendBy (s : State) (slots : List Nat) (m : Msg) (use : Option Use) : State :=
  let id := s.msgid % 2 ^ 32
  let m1 := { m with msgid := id, src := s.endpoint m.part, tenant := s.tenantOf m.part }
  let control := m.kind == 0x07 || m.kind == 0x08
  let via := if m.path < 2 then s.portFor m.part slots m.tag m.dest control else m.connection
  let s1 := { s with sent := s.sent ++ [m1], msgid := (id + 1) % 2 ^ 32 }
  let s2 := match use with
    | some u => { s1 with flights := s1.flights.put id ⟨m.part, m.path, via, s.now, m.len, m.aux, u⟩ }
    | none => s1
  if m.path = 0 then s2
  else if m.path = 1 then
    let flits := 1 + ceilDiv m.data.length 240
    (s2.onFport via (fun p => { p with tx := p.tx.put m.part ((p.tx.getD m.part 0 + flits) % 4096),
                                       credits := p.credits.put m.part (p.credits.getD m.part 0 - flits) })).nicRecord
      m.part (fportRick via) 0x10 m.kind (bits m.dest 47 32) id
  else
    let c := s2.conn m.part via
    let last := c.sq + packets m.len - 1
    (s2.onConn m.part via (fun c => { c with sq := (last + 1) % 2 ^ 24, since := s.now,
                                             out := if use.isSome then c.out ++ [(last % 2 ^ 24, id)] else c.out })).nicRecord
      m.part (eportRick (fld c.bytes 2 1)) 0x10 (0x80 + m.roceOp) via (c.sq % 2 ^ 24)

/-- Sends a message of a claimant that is in flight for `use`. -/
def State.send (s : State) (slots : List Nat) (m : Msg) (use : Use) : State := s.sendBy slots m (some use)

/-- Sends a message that no answer is expected for. -/
def State.sendOnly (s : State) (m : Msg) : State := s.sendBy [] m none

/-- A message that takes no packet numbers of its own: an answer of a connection. -/
def State.emit (s : State) (m : Msg) : State := { s with sent := s.sent ++ [{ m with src := s.endpoint m.part, tenant := s.tenantOf m.part }] }

/-- The MSGID the next message takes. -/
def State.nextMsgid (s : State) : Nat := s.msgid % 2 ^ 32

/-! Buffers (R430) -/

/-- A registered buffer. -/
def State.buffer (s : State) (n rkey : Nat) : Option Buf := Tab.look s.buffers (n * 2 ^ 32 + rkey)
/-- The live buffers of a partition. -/
def State.buffersOf (s : State) (n : Nat) : List (Nat × Buf) :=
  (Tab.range s.buffers (n * 2 ^ 32) ((n + 1) * 2 ^ 32)).map (fun p => (p.1 % 2 ^ 32, p.2))

end Sys2Proof.Machine
end

