-- ==== Sys2Proof/Machine/Weights.lean ====
section
/-!
DEFINITION. Weight-set slots, manifests and shards (R284 to R290), uncorrectable tier reads and poisoned shards
(Table 09-8, R315).
-/
namespace Sys2Proof.Machine

/-- A weight-set slot. -/
def State.wset (s : State) (n w : Nat) : WSet := s.wsets.getD (n * 8 + w) {}
/-- Changes a weight-set slot. -/
def State.onWset (s : State) (n w : Nat) (f : WSet → WSet) : State := { s with wsets := s.wsets.put (n * 8 + w) (f (s.wset n w)) }

/-- RANKS of a manifest header (Table 10-1). -/
def mfRanks (m : List Byte) : Nat := fld m 6 1
/-- SHARD_COUNT. -/
def mfCount (m : List Byte) : Nat := fld m 8 4
/-- LAYOUT_FP. -/
def mfLayout (m : List Byte) : Nat := fld m 0x10 8
/-- REGION_PAGES of a rank. -/
def mfPages (m : List Byte) (r : Nat) : Nat := fld m (0x20 + 4 * r) 4
/-- A manifest entry (Table 10-2). -/
def mfEntry (m : List Byte) (i : Nat) : List Byte := bytesAt m (128 + 64 * i) 64
/-- DIGEST of a shard. -/
def meDigest (e : List Byte) : List Byte := bytesAt e 0 48
/-- PAGES of a shard. -/
def mePages (e : List Byte) : Nat := fld e 0x30 4
/-- RANK of a shard. -/
def meRank (e : List Byte) : Nat := fld e 0x34 1
/-- OFFSET of a shard. -/
def meOff (e : List Byte) : Nat := fld e 0x38 8

/-- STATE of a shard (Table 10-7). -/
def WSet.shard (w : WSet) (i : Nat) : Nat := ((w.shards[i]?).getD 0) % 16

/-- Sets STATE of a shard. -/
def WSet.setShard (w : WSet) (i v : Nat) : WSet := { w with shards := w.shards.modify i (fun b => b / 16 * 16 + v) }

/-- Sets LASTFAIL of a shard (Table 10-7). -/
def WSet.setFail (w : WSet) (i v : Nat) : WSet := { w with shards := w.shards.modify i (fun b => b % 16 + 16 * v) }

/-- The current epoch of a job slot. -/
def State.jobEpoch (s : State) (n j : Nat) : Nat := fld (s.blob (E.JOB_EPOCH n)) (8 * j) 4

/-- The set slot in JOB_EPOCH of a job slot; 0xFF for none (Table 10-9), as before its first switch. -/
def State.jobSet (s : State) (n j : Nat) : Nat :=
  if s.jobEpoch n j = 0 then 0xFF else fld (s.blob (E.JOB_EPOCH n)) (8 * j + 4) 1

/-- JOB_EPOCH as the next binding finds it: at its default, every job slot has no set, 0xFF (Table 10-9; log 175). -/
def State.jobEpochs (s : State) (n : Nat) : List Byte :=
  if allZero (s.blob (E.JOB_EPOCH n)) then (List.range 8).flatMap (fun _ => setFld (zeros 8) 4 1 0xFF) else s.blob (E.JOB_EPOCH n)

/-- Binds a job slot to a set under an epoch. -/
def State.setJobEpoch (s : State) (n j e w : Nat) : State :=
  s.setBlob (E.JOB_EPOCH n) (setBytes (s.jobEpochs n) (8 * j) (leBytes 4 e ++ leBytes 1 w ++ zeros 3))

/-- The set is the current set of a job slot (BOUND). -/
def State.wsetBound (s : State) (n w : Nat) : Bool := (List.range 8).any (fun j => s.jobSet n j == w)

/-- The set becomes HELD: the hold begins at this instant (R289, R317). A BROKEN set stays BROKEN (R320). -/
def State.hold (s : State) (n w : Nat) : State :=
  let x := s.wset n w
  if x.st = 4 ∨ x.st = 7 then s
  else (s.onWset n w (fun x => { x with st := 4, heldSince := some s.now, heldFrom := x.st, expired := false })).bump (E.WEIGHT_HOLDS n)

/-- A copy of a shard becomes POISONED: event 0xEA04 with the step number at which that copy last passed a check; the
running step that uses the set is discarded (R301, R315). `tier` is 0 for tier B and 1 for tier S. -/
def State.poisonShard (s : State) (n w i tier : Nat) : State :=
  let x := s.wset n w
  if x.shard i = 2 ∨ x.shard i = 4 ∨ x.shard i = 5 then
    let y := if tier = 0 then { x with badB := if x.badB.contains i then x.badB else x.badB ++ [i] }
             else { x with badS := if x.badS.contains i then x.badS else x.badS ++ [i] }
    let s1 := (s.onWset n w (fun _ => y.setShard i 4)).raise 0xEA04 (scopeP n) [w, i, x.checked.getD (65536 * tier + i) 0]
    let s2 := s1.hold n w
    if (s2.part n).phase = .running ∧ (s2.part n).stepSet = w then s2.onPart n (fun p => { p with ueDiscard := true }) else s2
  else s

/-- The set, rank and shard that hold an offset of a WEIGHT region. -/
def State.shardAt (s : State) (n r off : Nat) : Option (Nat × Nat) :=
  (List.range 8).findSome? (fun w =>
    let x := s.wset n w
    match x.regions.findIdx? (fun q => q == r) with
    | none => none
    | some rank =>
      ((List.range (mfCount x.man)).find? (fun i =>
        let e := mfEntry x.man i
        meRank e == rank && decide (meOff e ≤ off) && decide (off < meOff e + 4096 * mePages e))).map (fun i => (w, i)))

/-- The region of the rick that the step's weight stream engine reads (R298, R307). -/
def State.streamRegion (s : State) (n k : Nat) : Option Nat :=
  let w := (s.part n).stepSet
  if w = 0xFF then none
  else match (s.ricksOf n).findIdx? (fun q => q == k) with
    | some rank => (s.wset n w).regions[rank]?
    | none => none

/-- Table 09-8 for one page that a read of the layout engine or of a weight stream met: `off` is its offset in the
region. -/
def State.tierPageError (s : State) (n r tier off : Nat) : State :=
  let b := s.region n r
  let key := if tier = 1 then pageB (rgRick b) (rgBoff b + off) else pageS n (rgSoff b + off)
  let s1 := s.poisonPage n r key tier off
  let clean := tier = 1 && rgBacked b && rgHasS b && !s.dirty.getD key false && !s.badSegs (s.segsS n (rgSoff b + off) 4096)
  if clean && rgClass b != 1 || (clean && rgClass b == 1 && !(match s.shardAt n r off with
      | some (w, i) => (s.wset n w).badS.contains i
      | none => false)) then
    s1.onPart n (fun p => { p with ueDiscard := true, refill := p.refill ++ [(rgRick b, rgBoff b + off)] })
  else if rgClass b = 1 then
    match s.shardAt n r off with
    | some (w, i) => (s1.poisonShard n w i (tier - 1)).onPart n (fun p => { p with ueDiscard := true })
    | none => s1
  else if rgClass b = 3 then s1
  else s1.onPart n (fun p => { p with lostData := true })

/-- The 4 KiB pages of a tier range that hold an uncorrectable word, as offsets in the tier. -/
def State.badPages (s : State) (n ta len : Nat) : List Nat :=
  if taTier ta = 1 then (pagesOf (taBoff ta) len).filter (fun p =>
    s.pagePoison.getD (pageB (taRick ta) p) false ||
    s.uncorrectable (tierB (taRick ta) + max p (taBoff ta)) (min (p + 4096) (taBoff ta + len) - max p (taBoff ta)))
  else (pagesOf (taSoff ta) len).filter (fun p =>
    s.pagePoison.getD (pageS n p) false ||
    s.badSegs (s.segsS n (max p (taSoff ta)) (min (p + 4096) (taSoff ta + len) - max p (taSoff ta))))

/-- Bytes of a tier B or tier S range read by an engine; each page in error draws the response of Table 09-8. -/
def State.readTier (s : State) (n ta len : Nat) : State × List Byte :=
  let d := s.readSegs (s.segsOf n ta len)
  match s.rangeRegion n ta len with
  | none => (s, d)
  | some r =>
    let b := s.region n r
    let base := if taTier ta = 1 then rgBoff b else rgSoff b
    (forAll (s.badPages n ta len) (fun p s => s.tierPageError n r (taTier ta) (p - base)) s, d)

end Sys2Proof.Machine
end

