-- ==== Sys2Proof/Machine/KvPages.lean ====
section
/-!
DEFINITION. The pages of the KV cache (R226 to R238, R247, R248, R261): models, lists, map pages, reference counts,
allocation, copy-on-write, release.
-/
namespace Sys2Proof.Machine

/-! Models (Table 08-1) -/

/-- The model records of a partition. -/
def State.models (s : State) (n : Nat) : List (List Byte) :=
  let b := s.blob (E.KV_MODELS n)
  pieces b 160 (b.length / 160)

/-- The record of a model. -/
def State.model (s : State) (n m : Nat) : Option (List Byte) := (s.models n).find? (fun r => fld r 0 1 == m)

/-- LAYERS. -/
def kmLayers (r : List Byte) : Nat := fld r 4 2
/-- MAXCTX. -/
def kmMaxctx (r : List Byte) : Nat := fld r 8 4
/-- ENTRY_BYTES. -/
def kmEntry (r : List Byte) : Nat := fld r 0x0C 2
/-- TPP. -/
def kmTpp (r : List Byte) : Nat := fld r 0x0E 2
/-- MAPW. -/
def kmMapw (r : List Byte) : Nat := fld r 0x10 4
/-- The home rick of a layer. -/
def kmHome (r : List Byte) (l : Nat) : Nat := if l % 2 = 0 then fld r (0x20 + l / 2) 1 % 16 else fld r (0x20 + l / 2) 1 / 16

/-- The (model, layer) pairs homed on a rick, in ascending order, with their MAPW (R231). -/
def State.pairsOn (s : State) (n k : Nat) : List (Nat × Nat × Nat) :=
  (List.range 4).flatMap (fun m => match s.model n m with
    | none => []
    | some r => ((List.range (kmLayers r)).filter (fun l => kmHome r l == k)).map (fun l => (m, l, kmMapw r)))

/-- base of R231 for a (model, layer) pair on a rick. -/
def State.mapBase (s : State) (n k m l : Nat) : Nat :=
  ((s.pairsOn n k).takeWhile (fun p => decide (p.1 < m) || (p.1 == m && decide (p.2.1 < l)))).foldl (fun a p => a + p.2.2) 0

/-! Lists (R228, R33, R34) -/

/-- Request table entries that a partition's ricks hold (R33, R34). -/
def State.entryCount (s : State) (n : Nat) : Nat := ((s.ricksOf n).map (fun k => if k < 8 then 2731 else 2730)).foldl (fun a b => a + b) 0

/-- The list number of a request table entry: its place among the partition's entries. -/
def State.listOf (s : State) (n i : Nat) : Nat :=
  let rk := s.ricksOf n
  i / 12 * rk.length + (rk.findIdx? (fun k => k == i % 12)).getD 0

/-- The entry of a list of a request. -/
def State.entryOfList (s : State) (n l : Nat) : Option Nat :=
  let rk := s.ricksOf n
  if l < s.entryCount n then (rk[l % rk.length]?).map (fun k => 12 * (l / rk.length) + k) else none

/-- KV_POOL_PAGES of a rick. -/
def State.poolPages (s : State) (n k : Nat) : Nat := fld (s.blob (E.KV_POOL_PAGES n)) (4 * k) 4

/-- The size of a KV range (R261). -/
def kvRange (pages lists : Nat) : Nat := if pages = 0 then 0 else roundUp (65536 * pages + 1024 * lists + 4 * pages) (2 ^ 21)

/-- KV_BASE of a stack (R261). -/
def State.kvBase (s : State) (n k : Nat) : Nat := 0xFF0000000 - kvRange (s.poolPages n k) (s.entryCount n + 4096)

/-- The address of a page in its stack. -/
def State.pageAddr (s : State) (n k q : Nat) : Nat := tierB k + s.kvBase n k + 65536 * q

/-- A directory. -/
def State.dir (s : State) (k l : Nat) : Dir := s.dirs.getD (k * 65536 + l) {}
/-- Replaces a directory. -/
def State.setDir (s : State) (k l : Nat) (d : Dir) : State := { s with dirs := s.dirs.put (k * 65536 + l) d }
/-- LEN of a model in a directory. -/
def Dir.lenOf (d : Dir) (m : Nat) : Nat := (d.len[m]?).getD 0
/-- PEND of a model in a directory. -/
def Dir.pendOf (d : Dir) (m : Nat) : Option Nat := (d.pend[m]?).getD none
/-- The directory is in its empty state. -/
def Dir.isEmpty (d : Dir) : Bool := d.ents.isEmpty && d.len.all (fun x => x == 0)

/-- The key of a page of a rick. -/
def pageKey (k q : Nat) : Nat := k * 2 ^ 24 + q
/-- REFS of a page (R234). -/
def State.refsOf (s : State) (k q : Nat) : Nat := s.refs.getD (pageKey k q) 0
/-- Sets REFS of a page; a page with REFS 0 is free and no longer poisoned (R234, R250). -/
def State.setRefs (s : State) (k q v : Nat) : State :=
  if v = 0 then { s with refs := s.refs.del (pageKey k q), poisoned := s.poisoned.del (pageKey k q), maps := s.maps.del (pageKey k q) }
  else { s with refs := s.refs.put (pageKey k q) v }
/-- REFS rises by 1. -/
def State.incRef (s : State) (k q : Nat) : State := s.setRefs k q (s.refsOf k q + 1)
/-- REFS falls by 1. -/
def State.decRef (s : State) (k q : Nat) : State := s.setRefs k q (s.refsOf k q - 1)

/-- The lowest-numbered free page of a sub-pool (R235). -/
def State.freePage (s : State) (n k : Nat) : Option Nat := lowestFrom (fun q => s.refsOf k q == 0) 0 (s.poolPages n k)

/-- Free pages of a sub-pool (R234): pages in use have REFS. -/
def State.freePages (s : State) (n k : Nat) : Nat := s.poolPages n k - (Tab.range s.refs (pageKey k 0) (pageKey k (2 ^ 24))).length

/-- The entries of a map page. -/
def State.mapPage (s : State) (k q : Nat) : Tab Nat := s.maps.getD (pageKey k q) []
/-- Replaces the entries of a map page. -/
def State.setMap (s : State) (k q : Nat) (m : Tab Nat) : State := { s with maps := s.maps.put (pageKey k q) m }

/-- Where the pages of a position are found (R231): directory reference and map entry. -/
def State.mapIndex (s : State) (n k m l tpp p : Nat) : Nat × Nat :=
  let x := s.mapBase n k m l + p / tpp
  (x / 16384, x % 16384)

/-- The data page of a position of a list, where both references are valid. -/
def State.dataPage (s : State) (n k list m l tpp p : Nat) : Option Nat :=
  let x := s.mapIndex n k m l tpp p
  match Tab.look (s.dir k list).ents x.1 with
  | none => none
  | some mp => Tab.look (s.mapPage k mp) x.2

/-- A page of the KV range is poisoned (R250). -/
def State.poisonKvPage (s : State) (n k q : Nat) : State :=
  if s.refsOf k q = 0 ∨ s.poisoned.getD (pageKey k q) false then s
  else ({ s with poisoned := s.poisoned.put (pageKey k q) true }.bump (E.POISONED_PAGES n)).raise 0xE801 (scopeP n) [k, q]

/-- A read of a list that meets a poisoned page loses the request's cache (R250). -/
def State.cacheLost (s : State) (n list : Nat) : State :=
  match s.entryOfList n list with
  | some i => s.onRx i (fun x => { x with cacheLost := true })
  | none => s

/-- The key under which a poisoned directory is kept, past those of the pages. -/
def dirKey (k l : Nat) : Nat := 2 ^ 28 + k * 65536 + l
/-- The address of a directory (R261). -/
def State.dirAddr (s : State) (n k l : Nat) : Nat := tierB k + s.kvBase n k + 65536 * s.poolPages n k + 1024 * l
/-- A directory is poisoned, or a read of it now meets an uncorrectable word. -/
def State.dirBad (s : State) (n k l : Nat) : Bool := s.poisoned.getD (dirKey k l) false || s.uncorrectable (s.dirAddr n k l) 1024
/-- The KV engine reads the directory of `src` for the list of a request: a bad one is poisoned, counted once, and the
request loses its cache (R250). -/
def State.readDir (s : State) (n k src list : Nat) : State :=
  if s.dirBad n k src then
    (if s.poisoned.getD (dirKey k src) false then s
     else ({ s with poisoned := s.poisoned.put (dirKey k src) true }.bump (E.POISONED_PAGES n)).raise 0xE801 (scopeP n)
       [k, s.poolPages n k + src / 64]).cacheLost n list
  else s
/-- The KV engine reads `len` bytes of a page for the list of a request: a bad page is poisoned and the request loses its
cache (R250). -/
def State.readPage (s : State) (n k q off len list : Nat) : State :=
  if s.poisoned.getD (pageKey k q) false || s.uncorrectable (s.pageAddr n k q + off) len then (s.poisonKvPage n k q).cacheLost n list
  else s

/-- A private map page for a directory reference: allocated, or copied when shared (R236). Answers the page and how
many pages were allocated. -/
def State.privateMap (s : State) (n k list di : Nat) : State × Option (Nat × Nat) :=
  let d := s.dir k list
  match Tab.look d.ents di, s.freePage n k with
  | none, some q => (((s.setRefs k q 1).setMap k q []).setDir k list { d with ents := d.ents.put di q }, some (q, 1))
  | none, none => (s, none)
  | some mp, fq =>
    if s.refsOf k mp ≤ 1 then (s, some (mp, 0))
    else match fq with
      | none => (s, none)
      | some q =>
        let es := s.mapPage k mp
        let s1 := (forAll es (fun e s => s.incRef k e.2) s).setRefs k q 1
        (((s1.setMap k q es).decRef k mp).setDir k list { d with ents := d.ents.put di q }, some (q, 1))

/-- A private data page for a write that begins at position p (R236). Answers the page and how many were allocated. -/
def State.privatePage (s0 : State) (n k list m l p : Nat) (r : List Byte) : State × Option (Nat × Nat) :=
  let tpp := kmTpp r
  let x := s0.mapIndex n k m l tpp p
  let s := match Tab.look (s0.dir k list).ents x.1 with
    | some mp => s0.readPage n k mp (4 * x.2) 4 list
    | none => s0
  match s.privateMap n k list x.1 with
  | (s1, none) => (s1, none)
  | (s1, some (mp, a)) =>
    let es := s1.mapPage k mp
    let take (s : State) (copy : Option Nat) : State × Option (Nat × Nat) :=
      match s.freePage n k with
      | none => (s, none)
      | some q =>
        let s2 := (s.setRefs k q 1).setMap k mp (es.put x.2 q)
        let s3 := match copy with
          | some o => s2.store (s2.pageAddr n k q) (s2.mem.read (s2.pageAddr n k o) (p % tpp * kmEntry r))
          | none => s2
        let j := (s3.part n).kv
        (s3.onPart n (fun pt => { pt with kv := { j with alloc := j.alloc ++ [(k, list, m, p / tpp * tpp, q, 65536 * mp + x.2)] } }), some (q, a + 1))
    match Tab.look es x.2 with
    | none => take s1 none
    | some o =>
      if p % tpp = 0 then
        match take s1 none with
        | (s2, some z) => (s2.decRef k o, some z)
        | z => z
      else if 1 < s1.refsOf k o then
        match take (s1.readPage n k o 0 (p % tpp * kmEntry r) list) (some o) with
        | (s2, some z) => (s2.decRef k o, some z)
        | z => z
      else (s1, some (o, a))

/-- A data page allocated in the step is freed and its map entry cleared (R247, R248). -/
def State.dropAlloc (s : State) (k q : Nat) (at65536 : Nat) : State :=
  let mp := at65536 / 65536
  let x := at65536 % 65536
  if Tab.look (s.mapPage k mp) x = some q then (s.setMap k mp ((s.mapPage k mp).del x)).decRef k q else s

/-- Releasing a list: its directories become empty and its map pages await their decrement (R237). -/
def State.releaseList (s : State) (n l : Nat) : State :=
  forAll (s.ricksOf n) (fun k s =>
    let d := s.dir k l
    let s1 := { s with dirs := s.dirs.del (k * 65536 + l), poisoned := s.poisoned.del (dirKey k l) }
    s1.onPart n (fun p => { p with releases := p.releases ++ d.ents.map (fun e => (k, e.2, true)) })) s

/-- One decrement of the release work (R237). -/
def State.releaseOne (s : State) (n : Nat) : State :=
  match (s.part n).releases with
  | [] => s
  | (k, q, isMap) :: rest =>
    let s1 := s.onPart n (fun p => { p with releases := rest })
    if isMap ∧ s1.refsOf k q = 1 then
      let es := s1.mapPage k q
      (s1.decRef k q).onPart n (fun p => { p with releases := p.releases ++ es.map (fun e => (k, e.2, false)) })
    else s1.decRef k q

/-- A handle slot. -/
def State.handle (s : State) (n i : Nat) : Option Handle := Tab.look s.handles (n * 4096 + i)
/-- The list of a handle slot. -/
def State.handleList (s : State) (n i : Nat) : Nat := s.entryCount n + i
/-- A handle ends: its list is released (R245). -/
def State.dropHandle (s : State) (n i : Nat) : State :=
  { s with handles := s.handles.del (n * 4096 + i) }.releaseList n (s.handleList n i)
/-- The live handles of a partition, by slot. -/
def State.liveHandles (s : State) (n : Nat) : List (Nat × Handle) :=
  (Tab.range s.handles (n * 4096) (n * 4096 + 4096)).map (fun p => (p.1 % 4096, p.2))

/-- The lists of a partition that have a pending length. -/
def State.pendingLists (s : State) (n : Nat) : List (Nat × Nat) :=
  (s.ricksOf n).flatMap (fun k => ((Tab.range s.dirs (k * 65536) (k * 65536 + 65536)).filter (fun e => e.2.pend.any Option.isSome)).map
    (fun e => (k, e.1 % 65536)))

/-- PEND becomes LEN, and data pages allocated in the step at or above the new LEN are freed (R247). -/
def State.kvCommit (s : State) (n : Nat) : State :=
  let ls := s.pendingLists n
  let s1 := forAll ls (fun x s =>
    let d := s.dir x.1 x.2
    s.setDir x.1 x.2 { d with len := (List.range 4).map (fun m => (d.pendOf m).getD (d.lenOf m)), pend := List.replicate 4 none }) s
  let s2 := forAll (s1.part n).kv.alloc (fun a s =>
    if ls.any (fun x => x.1 == a.1 && x.2 == a.2.1) && decide ((s.dir a.1 a.2.1).lenOf a.2.2.1 ≤ a.2.2.2.1)
    then s.dropAlloc a.1 a.2.2.2.2.1 a.2.2.2.2.2 else s) s1
  s2.onPart n (fun p => { p with kv := {} })

/-- The KV effects of a discarded attempt are undone (R248). -/
def State.kvDiscard (s : State) (n : Nat) : State :=
  let j := (s.part n).kv
  let s1 := forAll (s.pendingLists n) (fun x s => s.setDir x.1 x.2 { s.dir x.1 x.2 with pend := List.replicate 4 none }) s
  let s2 := forAll j.alloc (fun a s =>
    if (s.dir a.1 a.2.1).lenOf a.2.2.1 ≤ a.2.2.2.1 then s.dropAlloc a.1 a.2.2.2.2.1 a.2.2.2.2.2 else s) s1
  let s3 := forAll j.handles (fun h s => s.dropHandle n h.2.1) s2
  let s4 := forAll j.attached (fun l s => s.releaseList n l) s3
  s4.onPart n (fun p => { p with kv := {} })

/-- A list names a poisoned page on some rick, or its directory is poisoned there. -/
def State.listPoisoned (s : State) (n l : Nat) : Bool :=
  (s.ricksOf n).any (fun k => s.poisoned.getD (dirKey k l) false || (s.dir k l).ents.any (fun e =>
    s.poisoned.getD (pageKey k e.2) false || (s.mapPage k e.2).any (fun x => s.poisoned.getD (pageKey k x.2) false)))

end Sys2Proof.Machine
end

