-- ==== Sys2Proof/Machine/Queues.lean ====
section
/-!
DEFINITION. Queue rings and polls (R82 to R85, R655).
-/
namespace Sys2Proof.Machine

/-- The QUEUE region of a queue, or none (R655). -/
def State.queueRegion (s : State) (n q : Nat) : Option Nat :=
  let v := fld (s.blob (E.QUEUE_MAP n)) (2 * q) 2
  if v = 0xFFFF then none else some v

/-- The consumer index of a queue (R85). -/
def State.consumed (s : State) (n q : Nat) : Nat := fld (s.blob (E.CONSUMED n)) (8 * q) 8

/-- Sets the consumer index of a queue. -/
def State.setConsumed (s : State) (n q v : Nat) : State := s.setBlob (E.CONSUMED n) (setFld (s.blob (E.CONSUMED n)) (8 * q) 8 v)

/-- Slots of a queue's ring (R82). -/
def State.queueSlots (s : State) (n r : Nat) : Nat := rgLen (s.region n r) / 256

/-- One slot read by a poll: the message when its stamp is the number expected; a larger stamp loses the messages
between (R83, R84); an unreadable slot loses its message (Table 09-8). A slot of zeros holds no message, though its stamp
equals the number 0 that a fresh queue expects: DEDUCED, unsafe (log 174). -/
def State.pollSlot (s : State) (n q r : Nat) : State × Option (List Byte) :=
  let c := s.consumed n q
  let slots := s.queueSlots n r
  let off := c % slots * 256
  let b := s.region n r
  if s.poisonedRange n (2 ^ 60 + rgRick b * 2 ^ 36 + rgBoff b + off) 256 || s.uncorrectable (tierB (rgRick b) + rgBoff b + off) 256 then
    (((s.setConsumed n q (c + 1)).bump (E.QUEUE_OVERRUNS n)).raise 0xE205 (scopeP n), none)
  else
    let m := s.readRegion n r off 256
    let st := fld m 0xF8 8
    if allZero m then (s, none)
    else if st = c then (s.setConsumed n q (c + 1), some m)
    else if c < st then
      let s1 := ((s.setConsumed n q (st + 1)).bumpBy (E.QUEUE_OVERRUNS n) 32 (st - c)).raise 0xE205 (scopeP n)
      (s1, some m)
    else (s, none)

/-- What a poll holds after one slot `y` of queue `q`: a slot without a message ends the poll, a lost
slot is passed over (R83, R84). -/
def pollNext (n q c : Nat) (l : List (List Byte)) (y : State × Option (List Byte)) : State × List (List Byte) × Bool :=
  match y.2 with
  | some m => (y.1, l ++ [m], false)
  | none => (y.1, l, y.1.consumed n q == c)

/-- One turn of a poll: the state, the messages taken and whether the poll is over (R83). -/
def State.pollOnce (n q : Nat) (a : State × List (List Byte) × Bool) : State × List (List Byte) × Bool :=
  if a.2.2 then a else
  match a.1.queueRegion n q with
  | none => (a.1, a.2.1, true)
  | some r =>
    if a.1.queueSlots n r = 0 then (a.1, a.2.1, true)
    else pollNext n q (a.1.consumed n q) a.2.1 (a.1.pollSlot n q r)

/-- A poll of a queue: messages in sequence order, at most `k` (R83). -/
def State.poll (s : State) (n q k : Nat) : State × List (List Byte) :=
  let x := (List.range k).foldl (fun a _ => State.pollOnce n q a) (s, [], false)
  (x.1, x.2.1)

/-- The queue holds no message a poll would take. -/
def State.queueEmpty (s : State) (n q : Nat) : Bool := (s.poll n q 1).2.isEmpty

/-- A message and its stamp written into a queue's ring by a NIC engine, the stamp last (R82). -/
def State.queueWrite (s : State) (n q : Nat) (stamp : Nat) (msg : List Byte) : State :=
  match s.queueRegion n q with
  | none => s
  | some r =>
    let slots := s.queueSlots n r
    if slots = 0 then s else s.writeRegion n r (stamp % slots * 256) (bytesAt msg 0 248 ++ leBytes 8 stamp)

end Sys2Proof.Machine
end

