-- ==== Sys2Proof/Machine/Nic.lean ====
section
/-!
DEFINITION. What the NIC engines read and write in the tiers (R429 to R433, R440): registered buffers, single
reads, stores and reductions.
-/
namespace Sys2Proof.Machine

/-- The TADDR of a byte of a region: its tier B span, or its tier S span where it has no other (Table 09-2). -/
def regionTaddr (b : List Byte) (off : Nat) : Nat :=
  if rgHasB b && rgLive b then 2 ^ 60 + rgRick b * 2 ^ 36 + rgBoff b + off else 2 ^ 61 + rgSoff b + off

/-- The TADDR of a byte of a buffer. -/
def State.bufTaddr (s : State) (n : Nat) (b : Buf) (off : Nat) : Nat := regionTaddr (s.region n b.region) (b.off + off)

/-- A read by a NIC engine; none when it meets an uncorrectable page, whose response is that of Table 09-8 while a step
runs, and its poison otherwise (R282). -/
def State.nicRead (s : State) (n ta len : Nat) : State × Option (List Byte) :=
  let bad := s.badPages n ta len
  if bad.isEmpty then (s, some (s.readSegs (s.segsOf n ta len)))
  else if (s.part n).phase = .running then ((s.readTier n ta len).1, none)
  else match s.rangeRegion n ta len with
    | none => (s, none)
    | some r =>
      let base := if taTier ta = 1 then rgBoff (s.region n r) else rgSoff (s.region n r)
      (forAll bad (fun p s => s.poisonPage n r (if taTier ta = 1 then pageB (taRick ta) p else pageS n p) (taTier ta) (p - base)) s, none)

/-- The 4-byte elements of a byte string. -/
def elems4 (l : List Byte) : List Nat := (pieces l 4 (l.length / 4)).map leNat

/-- The sums of a reduction, element by element (R440): FP32 with the canonical NaN, or INT32 that wraps. -/
def reduceBytes (f32 : Bool) (old new : List Byte) : List Byte :=
  ((elems4 old).zip (elems4 new)).flatMap (fun p => leBytes 4
    (if f32 then f32c ((f32v p.1).add (f32v p.2)) else (p.1 + p.2) % 2 ^ 32))

/-- A reduction into a tier range. -/
def State.reduceTier (s : State) (n ta : Nat) (f32 : Bool) (l : List Byte) : State :=
  s.writeTier n ta (reduceBytes f32 (s.readSegs (s.segsOf n ta l.length)) l)

/-! Counters of blocks of U32 values -/

/-- A U32 counter after an addition (log 5). -/
def addU32 (tag v d : Nat) : Nat := if v + d < 2 ^ 32 then v + d else Config.counterOverflow tag (v + d) d % 2 ^ 32

/-- An attempt-discarding condition has been met in the running step (R49, R110, Tables 04-8, 04-10, 09-8). -/
def State.discarding (s : State) (n : Nat) : Bool :=
  let p := s.part n
  p.schedFault || p.trapAt.isSome || p.ueDiscard || p.lostData || !p.refill.isEmpty ||
  (s.hearthsOf n).any (fun l => !(s.hearth (s.phys l)).mism.isEmpty)

end Sys2Proof.Machine
end

