-- ==== Sys2Proof/Machine/TurnState.lean ====
section
/-!
DEFINITION. The turn of a partition: its plan image, its tokens and how it fails (Tables 14-1 to 14-7).
-/
namespace Sys2Proof.Machine

/-! Plan images (Tables 14-1 to 14-3) -/

/-- MEMBER. -/
def tpMember (i : List Byte) : Nat := fld i 0x06 2
/-- MEMBERS. -/
def tpMembers (i : List Byte) : Nat := fld i 0x08 2
/-- ROLE bit SEND. -/
def tpSend (i : List Byte) : Bool := (fld i 0x0A 1).testBit 0
/-- ROLE bit RECV. -/
def tpRecv (i : List Byte) : Bool := (fld i 0x0A 1).testBit 1
/-- FLAGS bit BACKED. -/
def tpBacked (i : List Byte) : Bool := (fld i 0x0B 1).testBit 0
/-- FLAGS bit EARLY_HOLD. -/
def tpEarly (i : List Byte) : Bool := (fld i 0x0B 1).testBit 1
/-- LEARN_SLOT. -/
def tpLearn (i : List Byte) : Nat := fld i 0x0C 1
/-- GEN_SLOT. -/
def tpGen (i : List Byte) : Nat := fld i 0x0D 1
/-- SET_SLOT. -/
def tpSet (i : List Byte) : Nat := fld i 0x0E 1
/-- TURN_ID. -/
def tpId (i : List Byte) : Nat := fld i 0x10 8
/-- TURN_TSTEP. -/
def tpTstep (i : List Byte) : Nat := fld i 0x18 8
/-- LAYOUT_FP. -/
def tpLayout (i : List Byte) : Nat := fld i 0x20 8
/-- GROUP. -/
def tpGroup (i : List Byte) : Nat := fld i 0x28 2
/-- COUNTERS. -/
def tpCounters (i : List Byte) : Nat := fld i 0x2A 2
/-- SEND_COUNT. -/
def tpSendCount (i : List Byte) : Nat := fld i 0x2C 4
/-- SOURCES. -/
def tpSources (i : List Byte) : Nat := fld i 0x30 4
/-- SLOTS. -/
def tpSlotCount (i : List Byte) : Nat := fld i 0x34 4
/-- A member table entry. -/
def tpMemberRec (i : List Byte) (m : Nat) : List Byte := bytesAt i (0x90 + 16 * m) 16
/-- A send entry. -/
def tpEntry (i : List Byte) (e : Nat) : List Byte := bytesAt i (0x90 + 16 * tpMembers i + 32 * e) 32
/-- Offset of the slot list. -/
def tpSlotsAt (i : List Byte) : Nat := 0x90 + 16 * tpMembers i + 32 * tpSendCount i
/-- The slot list. -/
def tpSlots (i : List Byte) : List Nat := (pieces (i.drop (tpSlotsAt i)) 8 (tpSlotCount i)).map leNat
/-- The manifest template and what follows it. -/
def tpTail (i : List Byte) : List Byte := i.drop (tpSlotsAt i + 8 * tpSlotCount i)
/-- The manifest template: header and entries. -/
def tpTemplate (i : List Byte) : List Byte := (tpTail i).take (128 + 64 * mfCount (tpTail i))
/-- The member that sends a shard. -/
def tpSource (i : List Byte) (shard : Nat) : Nat := fld (tpTail i) (128 + 64 * mfCount (tpTail i) + 2 * shard) 2

/-! The turn -/

/-- The turn of a partition. -/
def State.turn (s : State) (n : Nat) : Turn := s.turns.getD n {}
/-- Changes the turn of a partition. -/
def State.onTurn (s : State) (n : Nat) (f : Turn → Turn) : State := { s with turns := s.turns.put n (f (s.turn n)) }
/-- The turn is armed and neither DONE nor FAILED. -/
def Turn.active (t : Turn) : Bool := decide (1 ≤ t.st) && decide (t.st ≤ 4)
/-- The points of R410 have passed: FINAL sent by a sender, PARKED sent by a receiver. -/
def Turn.past (t : Turn) : Bool := (!tpSend t.img || t.sentFinal) && (!tpRecv t.img || t.ownPark.isSome)

/-- Numbers of the tokens of Table 14-5 (log 34). -/
def tkFinal : Nat := 1
def tkParked : Nat := 2
def tkFail : Nat := 3
def tkSwitch : Nat := 4
def tkAbort : Nat := 5
def tkUnpark : Nat := 6
def tkQuery : Nat := 7

/-- The message that carries a turn token from a member to another, along the PATH of its entry (Table 14-2): over the flue
network the destination is the partition PART of this module. -/
def State.turnMsg (s : State) (n to_ : Nat) (kind : Nat) (body data : List Byte) : Msg :=
  let e := tpMemberRec (s.turn n).img to_
  let path := fld e 0 1
  { path := path, part := n, tag := 0, msgid := 0, kind := kind, body := body, len := data.length, data := data,
    dest := if path = 0 then s.endpoint (fld e 1 1) else fld e 8 8 }

/-- Sends a token that names `origin` as its member, to be repeated until acknowledged (R409). -/
def State.turnTokenFrom (s : State) (n origin to_ tok id : Nat) : State :=
  let c := (s.turn n).tokCount
  (s.onTurn n (fun t => { t with tokCount := c + 1, tokens := t.tokens ++ [(c, tok, to_)] })).send [] (s.turnMsg n to_ 7 (Config.turnBody tok id origin 0) []) (.turnTok c)

/-- Sends a token of this member. -/
def State.turnToken (s : State) (n to_ tok : Nat) : State :=
  s.turnTokenFrom n (tpMember (s.turn n).img) to_ tok (tpId (s.turn n).img)

/-- Keeps a decision among those of the last 4 turns (R409). -/
def State.turnRemember (s : State) (n id : Nat) (sw : Bool) : State :=
  s.onTurn n (fun t => if t.hist.any (fun h => h.1 == id) then t else { t with hist := pushCap 4 t.hist (id, sw) })

/-- The coordinator decides: SWITCH or ABORT to every member, at most once (R407). -/
def State.turnDecide (s : State) (n : Nat) (sw : Bool) : State :=
  let t := s.turn n
  if t.decision.isSome then s else
  forAll (List.range (tpMembers t.img)) (fun m s => s.turnToken n m (if sw then tkSwitch else tkAbort))
    ((s.onTurn n (fun t => { t with decision := some sw, decidedAt := s.now })).turnRemember n (tpId t.img) sw)

/-- The member fails with a code of Table 14-7 (R410, R411): firing ends, claims and hold are given up, shards that are not
RESIDENT return to ABSENT with LASTFAIL SOURCE, and FAIL goes to the coordinator unless the coordinator has decided. -/
def State.turnFail (s : State) (n code : Nat) : State :=
  let t := s.turn n
  if !t.active || (code != 2 && code != 3 && t.past) then s else
  let s1 := s.onTurn n (fun t => { t with st := 6, fail := code, hold := false, retry := [] })
  let w := tpSet t.img
  let s2 := if !tpRecv t.img then s1 else s1.onWset n w (fun x =>
    { x with shards := x.shards.map (fun b => if b % 16 = 2 then b else 0x50) })
  let s3 := (s2.bump (E.TURNS_FAILED n)).raise 0xEE04 (scopeP n)
  if code = 2 then s3
  else if code = 1 ∧ tpMember t.img = 0 then s3.turnDecide n false
  else s3.turnToken n 0 tkFail

/-! Firing (R399, R400) -/

/-- A send entry's write is sent along the PATH of its DEST. A staged page that cannot be read leaves the entry unfired. -/
def State.turnWriteOut (s : State) (n e : Nat) : State :=
  let t := s.turn n
  let r := tpEntry t.img e
  match s.nicRead n (fld r 16 8) (4096 * fld r 12 4) with
  | (s1, none) => s1
  | (s1, some d) =>
    let m := s1.turnMsg n (fld r 2 2) 1 (Config.turnWrite (tpId t.img) (tpTstep t.img) (tpMember t.img) (fld r 8 4)) d
    let slots := tpSlots t.img
    let s2 := s1.onTurn n (fun t => { t with fired := if t.fired.contains e then t.fired else t.fired ++ [e], retry := t.retry.filter (fun x => x != e) })
    s2.send slots { m with tag := bits ((slots.head?).getD 0) 15 0 } (.turn e)

/-- A counter of the armed turn is raised; entries that reach their THRESHOLD fire, unless acknowledged, already fired in
the attempt, or the attempt is to be discarded (R399). -/
def State.turnRaise (s : State) (n c d : Nat) : State :=
  let t := s.turn n
  let v := addU32 c (t.ctrs.getD c 0) d
  let s1 := s.onTurn n (fun t => { t with ctrs := t.ctrs.put c v })
  if s.discarding n then s1 else
  forAll ((List.range (tpSendCount t.img)).filter (fun e =>
      let r := tpEntry t.img e
      fld r 0 2 == c && decide (fld r 4 4 ≤ v) && !t.fired.contains e && !t.acked.contains e))
    (fun e s => s.turnWriteOut n e) s1

/-- The loss of a job slot's cord reaches the turn (Table 14-7, UNLOADED). -/
def State.turnUnload (s : State) (n j : Nat) : State :=
  let t := s.turn n
  if t.active && ((tpSend t.img && tpLearn t.img == j) || (tpRecv t.img && tpGen t.img == j)) then s.turnFail n 4 else s

end Sys2Proof.Machine
end

