-- ==== Sys2Proof/Machine/Requests.lean ====
section
/-!
DEFINITION. Request table entries (Table 11-1), token-count tables, the audit record (R362, R363), and how a request
and a cord end (R331, R88).
-/
namespace Sys2Proof.Machine

/-! Entries -/

/-- A request table entry; 128 zero bytes while FREE (R322). -/
def State.rq (s : State) (i : Nat) : List Byte := s.reqs.getD i (zeros 128)
/-- A field of an entry. -/
def State.rf (s : State) (i o n : Nat) : Nat := fld (s.rq i) o n
/-- Sets a field of an entry. -/
def State.setRf (s : State) (i o n v : Nat) : State := { s with reqs := s.reqs.put i (setFld (s.rq i) o n v) }

/-- STATE of an entry (Table 11-3). -/
def State.rqState (s : State) (i : Nat) : Nat := s.rf i 0 1
/-- LEN. -/
def State.rqLen (s : State) (i : Nat) : Nat := s.rf i 4 4
/-- LIST. -/
def State.rqList (s : State) (i : Nat) : Nat := s.rf i 8 2
/-- JOB. -/
def State.rqJob (s : State) (i : Nat) : Nat := s.rf i 0x0A 1
/-- EPOCH. -/
def State.rqEpoch (s : State) (i : Nat) : Nat := s.rf i 0x0C 4
/-- DEADLINE. -/
def State.rqDeadline (s : State) (i : Nat) : Nat := s.rf i 0x10 8
/-- CLIENT_TAG. -/
def State.rqTag (s : State) (i : Nat) : Nat := s.rf i 0x20 8
/-- PROMPT_LEN. -/
def State.rqPrompt (s : State) (i : Nat) : Nat := s.rf i 0x38 4
/-- PFL_DONE. -/
def State.rqDone (s : State) (i : Nat) : Nat := s.rf i 0x3C 4
/-- MAX_NEW. -/
def State.rqMaxNew (s : State) (i : Nat) : Nat := s.rf i 0x40 4
/-- EMITTED. -/
def State.rqEmitted (s : State) (i : Nat) : Nat := s.rf i 0x44 4
/-- SLOT. -/
def State.rqSlot (s : State) (i : Nat) : Nat := s.rf i 0x4E 2
/-- PFL_TARGET. -/
def State.rqTarget (s : State) (i : Nat) : Nat := s.rf i 0x5C 4
/-- A bit of FLAGS. -/
def State.rqFlag (s : State) (i b : Nat) : Bool := (s.rf i 3 1).testBit b
/-- Sets a bit of FLAGS. -/
def State.setRqFlag (s : State) (i b : Nat) : State := s.setRf i 3 1 (s.rf i 3 1 ||| 2 ^ b)

/-- The request is live: it holds an entry and has not ended. -/
def liveState (st : Nat) : Bool := decide (1 ≤ st) && decide (st ≤ 5)
/-- The request is in flight (R309). -/
def inFlight (st : Nat) : Bool := decide (2 ≤ st) && decide (st ≤ 5)

/-- The entry lies in a partition's ricks (R33, R34). -/
def State.owns (s : State) (n i : Nat) : Bool := (s.num (E.RICK_MASK n)).testBit (i % 12)

/-- The entries of a partition that are not FREE, ascending. -/
def State.entriesOf (s : State) (n : Nat) : List Nat := (s.reqs.filter (fun e => s.owns n e.1 && fld e.2 0 1 != 0)).map Prod.fst

/-- The non-FREE entries of a job. -/
def State.jobEntries (s : State) (n j : Nat) : List Nat := (s.entriesOf n).filter (fun i => s.rqJob i == j)

/-- In-flight requests of a job under an epoch (R309, R310). -/
def State.inFlightOf (s : State) (n j e : Nat) : List Nat :=
  (s.jobEntries n j).filter (fun i => inFlight (s.rqState i) && s.rqEpoch i == e)

/-- The weight-set slot of an epoch of a job slot: the current one, or the older one of a drain (R307, R311); 0xFF for
none. -/
def State.epochSet (s : State) (n j e : Nat) : Nat :=
  if s.jobEpoch n j = e then (if e = 0 then 0xFF else s.jobSet n j)
  else if (s.job n j).oldEpoch = some e then (s.job n j).oldSet else 0xFF

/-- REFS of a pinned set: the in-flight requests of the epochs that drain on it (R309, R310). -/
def State.wsetRefs (s : State) (n w : Nat) : Nat :=
  ((List.range 8).map (fun j => match (s.job n j).oldEpoch with
    | some e => if (s.job n j).oldSet = w then (s.inFlightOf n j e).length else 0
    | none => 0)).foldl (· + ·) 0

/-! The audit record (R362, R363) -/

/-- The audit region of a partition, where one is named (log 28). -/
def State.auditRegion (s : State) (n : Nat) : Option Nat :=
  let r := s.num (E.AUDIT_REGION n)
  if r = 0xFFFF ∨ rgLen (s.region n r) ≤ 4096 then none else some r

/-- Bytes of the body of an audit ring or completion ring: its region, a multiple of 4,096 bytes (R265), without the header page. -/
def State.auditBody (s : State) (n r : Nat) : Nat := (rgLen (s.region n r) / 4096 - 1) * 4096

/-- HEAD of the audit region. -/
def State.auditHead (s : State) (n r : Nat) : Nat := leNat (s.readRegion n r 0 8)
/-- TAIL of the audit region. -/
def State.auditTail (s : State) (n r : Nat) : Nat := leNat (s.readRegion n r 8 8)

/-- Free bytes of the audit ring. -/
def State.auditFree (s : State) (n r : Nat) : Nat := s.auditBody n r - (s.auditTail n r - s.auditHead n r)

/-- Bytes of an audit block with a body, padded to 64 (R362). -/
def auditLen (body : Nat) : Nat := 64 * ceilDiv (64 + body) 64

/-- An audit block (Table 12-7). -/
def auditBlock (ty i seq tag stepno prev : Nat) (body : List Byte) : List Byte :=
  padTo 64 (leBytes 4 0x54445541 ++ leBytes 1 ty ++ zeros 1 ++ leBytes 2 i ++ leBytes 4 (auditLen body.length) ++ zeros 4 ++
    leBytes 8 seq ++ leBytes 8 tag ++ leBytes 8 stepno ++ leBytes 8 prev ++ zeros 16 ++ body)

/-- Writes an audit block behind a PAD block where it would wrap; TAIL moves last (R362). A PAD block takes no SEQ
(log 29). Answers the offset of the block in the region. -/
def State.audit (s : State) (n i ty : Nat) (body : List Byte) : State × Nat :=
  match s.auditRegion n with
  | none => (s, 0)
  | some r =>
    let size := s.auditBody n r
    let len := auditLen body.length
    let tail := s.auditTail n r
    let gap := if size - tail % size < len then size - tail % size else 0
    let pad := leBytes 4 0x54445541 ++ leBytes 1 0xFF ++ zeros 3 ++ leBytes 4 gap ++ zeros (gap - 12)
    let s1 := if gap = 0 then s else s.writeRegion n r (4096 + tail % size) pad
    let seq := s1.num (E.AUDIT_SEQ n) + 1
    let pos := 4096 + (tail + gap) % size
    let x := s1.rx i
    let s2 := s1.writeRegion n r pos (auditBlock ty i seq (s1.rqTag i) (s1.part n).lastStep (if ty = 1 then 0 else x.prev) body)
    let s3 := (s2.writeRegion n r 8 (leBytes 8 (tail + gap + len))).setNum (E.AUDIT_SEQ n) seq
    (s3.onRx i (fun x => { x with prev := seq, openSeq := if ty = 1 then seq else x.openSeq }), pos)

/-- The digest of the weight set of an epoch of a job slot; zero where no slot holds it. -/
def State.epochDigest (s : State) (n j e : Nat) : List Byte :=
  let w := s.epochSet n j e
  if w = 0xFF then zeros 48 else bytesAt (s.wset n w).digest 0 48

/-- The OPEN block's body (Table 12-8). -/
def State.openBody (s : State) (n i : Nat) : List Byte :=
  let b := s.rq i
  bytesAt b 0x0C 4 ++ bytesAt b 0x70 2 ++ bytesAt b 1 1 ++ bytesAt b 2 1 ++ s.epochDigest n (s.rqJob i) (s.rqEpoch i) ++
  leBytes 8 (micro (fld b 0x18 8)) ++ leBytes 8 (micro (s.rx i).placeTime) ++ bytesAt b 0x10 8 ++ bytesAt b 0x60 8 ++ bytesAt b 0x28 8 ++
  bytesAt b 0x68 8 ++ bytesAt b 0x74 12 ++ bytesAt b 0x38 4 ++ bytesAt b 0x40 4 ++ bytesAt b 0x50 12 ++ bytesAt b 3 1 ++ zeros 23

/-- The CLOSE block's body (Table 12-8). -/
def State.closeBody (s : State) (i : Nat) : List Byte :=
  let b := s.rq i
  bytesAt b 0 1 ++ bytesAt b 0x0B 1 ++ zeros 2 ++ bytesAt b 0x44 4 ++ bytesAt b 4 4 ++ zeros 4 ++ leBytes 8 (micro s.now) ++ leBytes 8 (s.rx i).openSeq

/-! How a request ends -/

/-- A request enters a terminal state: its list is released, its batch slot is given up, its CLOSE block is written
(R331, R363). -/
def State.endRequest (s : State) (n i st code : Nat) : State :=
  if !liveState (s.rqState i) then s else
  let s1 := ((s.setRf i 0 1 st).setRf i 0x0B 1 code).setRf i 0x4E 2 0xFFFF
  let s2 := ((s1.releaseList n (s1.rqList i)).onRx i (fun x => { x with endTime := s.now, reported := false, placed := false })).onJob n (s.rqJob i)
    (fun j => { j with unreported := some (j.unreported.getD s.now) })
  if (s2.rx i).openSeq = 0 then s2 else (s2.audit n i 3 (s2.closeBody i)).1

/-- Every live request of a job ends FAILED. -/
def State.failJob (s : State) (n j code : Nat) : State :=
  forAll ((s.jobEntries n j).filter (fun i => liveState (s.rqState i))) (fun i s => s.endRequest n i 8 code) s

/-- An entry returns to FREE, all other bytes zero (R322, Table 11-4). -/
def State.freeEntry (s : State) (i : Nat) : State := { s with reqs := s.reqs.del i, reqx := s.reqx.del i }

/-! How a cord ends -/

/-- The job slots that a loaded cord occupies: two for a co-cord (R74, R76). -/
def State.slotsOfJob (s : State) (n j : Nat) : List Nat :=
  match (s.job n j).partner with
  | some q => [j, q]
  | none => [j]

/-- The SPILL regions of a job slot are deleted (R267). -/
def State.dropSpill (s : State) (n j : Nat) : State :=
  forAll ((s.regionNums n).filter (fun r => rgClass (s.region n r) == 2 && rgJob (s.region n r) == j))
    (fun r s => { s with regions := s.regions.del (n * 256 + r) }) s

/-- The longest gap from an entry of the plan to the next that names its slot (R71): `rest` follows the entry in
cyclic order. -/
def gapOf (j : Nat) (loaded : Nat → Bool) (wcet switch : Nat → Nat) : List (Nat × Nat) → Nat → Bool → Nat
  | [], acc, _ => acc
  | (k, ms) :: rest, acc, some1 =>
    if k = j then (if some1 then acc + switch j else 0)
    else if loaded k then gapOf j loaded wcet switch rest (acc + ms * 1000000 + wcet k + switch k) true
    else gapOf j loaded wcet switch rest acc some1

/-- The slice plan: job slot and milliseconds of each entry (R69). -/
def State.plan (s : State) (n : Nat) : List (Nat × Nat) :=
  let b := s.blob (E.SLICE_PLAN n)
  (pieces b 4 (b.length / 4)).map (fun e => (fld e 0 1, fld e 2 2))

/-- GAP_TABLE recomputed (R71). -/
def State.updateGaps (s : State) (n : Nat) : State :=
  let p := s.plan n
  let wc (j : Nat) : Nat := cdWcetMax (s.job n j).image
  let sw (j : Nat) : Nat := 430000 + cdPrologue (s.job n j).image
  let one (j : Nat) : Nat := (p.mapIdx (fun i e => if e.1 = j then gapOf j (s.loaded n) wc sw (p.drop (i + 1) ++ p.take (i + 1)) 0 false else 0)).foldl max 0
  s.setBlob (E.GAP_TABLE n) ((List.range 8).flatMap (fun j => leBytes 8 (one j)))

/-- The drain of a job slot ends: PINNED clears unless another job's drain holds the set (R310). -/
def State.endDrain (s : State) (n j : Nat) : State :=
  match (s.job n j).oldEpoch with
  | none => s
  | some _ =>
    let w := (s.job n j).oldSet
    let s1 := s.onJob n j (fun x => { x with oldEpoch := none, oldSet := 0xFF })
    if (List.range 8).any (fun q => (s1.job n q).oldEpoch.isSome && (s1.job n q).oldSet == w) then s1
    else s1.onWset n w (fun x => { x with pinned := false })

/-- One job slot is emptied: its requests end FAILED, a drain ends, its turn fails, its SPILL regions, counters
and armed operations go (R88, R267, R310, R438). Its binding and a pending switch belong to the job slot and stay
(R305, R306), and so does what the boundary record of its ended requests says (R359). -/
def State.emptySlot (s : State) (n j code : Nat) : State :=
  let s1 := (((s.failJob n j code).endDrain n j).dropSpill n j).turnUnload n j
  let s2 := s1.onJob n j (fun x => { pendSwitch := x.pendSwitch, unreported := x.unreported, lastStep := x.lastStep, lastHdr := x.lastHdr })
  -- STATE of LR_STATUS: none
  let lr := s2.blob (E.LR_STATUS n)
  let s3 := if fld lr (32 * j + 10) 1 = 0 then s2 else s2.setBlob (E.LR_STATUS n) (setFld lr (32 * j + 10) 1 0)
  { s3 with trigs := s3.trigs.del (n * 256 + j) }

/-! Kindling (R573 to R577) -/

/-- KINDLING_STATUS: STATE, and its code. -/
def State.setKindling (s : State) (st code : Nat) : State :=
  s.setBlob E.KINDLING_STATUS (setFld (setFld (s.blob E.KINDLING_STATUS) 0 1 st) 1 1 code)

/-- No partition kindles: the masks of all are in force. -/
def State.noKindling (s : State) : State := { s with kindled := false, kindMask := 0, kindPart := 0xFF, kindEnding := false }

/-- The first step of the kindling job: event 0xE044, its time (R574). -/
def State.kindledStep (s : State) (n j : Nat) : State :=
  let b := s.blob E.KINDLING_STATUS
  if s.kindled && s.kindPart == n && j == 0 && fld b 0 1 == 2 then
    ((s.setBlob E.KINDLING_STATUS (setFld (setFld b 0 1 3) 16 8 (micro s.now))).setBlob E.BOOT_TIMES (setFld (s.blob E.BOOT_TIMES) 112 8 s.now)).raise 0xE044 (scopeP n)
  else s

/-- The kindling job is unloaded: its partition's mask is in force again, event 0xE049 (R577; log 70). -/
def State.endKindling (s : State) (n : Nat) (slots : List Nat) : State :=
  if s.kindled && s.kindPart == n && slots.contains 0 then (s.noKindling.setKindling 4 0).raise 0xE049 (scopeP n) else s

/-- A cord is unloaded: its requests end FAILED with the code, its slots are emptied, the step no longer runs. -/
def unloadJob (s : State) (n j : Nat) (code : Nat) : State :=
  let slots := s.slotsOfJob n j
  let s1 := forAll slots (fun q s => s.emptySlot n q code) s
  let s2 := if slots.contains (s.part n).job ∧ s.num (E.ACTIVE_SLOT n) ≠ 0xFF ∧ slots.contains (s.num (E.ACTIVE_SLOT n)) then
      (s1.setNum (E.ACTIVE_SLOT n) 0xFF).onPart n (fun p => { p with phase := .idle, again := false, attempt := 0, mmCount := 0, mmFirst := [], schedFaults := 0 })
    else s1
  (s2.updateGaps n).endKindling n slots

/-- A kindling failure: event 0xE045, the partition is without kindling (R576). -/
def State.failKindling (s : State) (code detail load : Nat) : State :=
  let n := s.kindPart
  let was := s.kindled && s.loaded n 0
  let b := setFld (setFld (s.blob E.KINDLING_STATUS) 2 2 detail) 4 2 load
  let s1 : State := (({ s with kindled := false }.setBlob E.KINDLING_STATUS b).setKindling 5 code).raise 0xE045 (scopeP n)
  (if was then unloadJob s1 n 0 0x13 else s1).noKindling

/-- The results of an attempt are discarded: the working scalar data returns to the committed copy (R92), the KV
effects are undone (R248), the reports and counts of the attempt are dropped (R198, R225). -/
def State.discardAttempt (s : State) (n : Nat) : State :=
  let s1 := s.kvDiscard n
  let s2 := forAll (s1.hearthsOf n) (fun l s =>
    let g := s.phys l
    (s.copyRange (sdComm g) (sdWork g) 0x8000).onHearth g (fun h => { h with nanRep := none, mism := [] })) s1
  let s3 := s2.onPart n (fun p => { p with emptyRows := 0, evidence := 0, scoreOps := 0, badRows := 0 })
  forAll (s3.entriesOf n) (fun i s => s.onRx i (fun x => { x with handle := 0, attachBad := false })) s3

end Sys2Proof.Machine
end

