-- ==== Sys2Proof/Machine/Limits.lean ====
section
/-!
DEFINITION. Counts over 24 hours and the actions at their limits (Table 21-4, R600, R601, R81), and the unavailability of a
partition (R618 to R620).
-/
namespace Sys2Proof.Machine

/-- 24 h in nanoseconds. -/
def dayNs : Nat := 86400000000000

/-- The instants of a list that lie in the rolling window. -/
def State.recent (s : State) (l : List Nat) : List Nat := l.filter (fun t => decide (s.now < t + dayNs))

/-- An unavailability interval ended at an instant: its duration beyond what earlier intervals covered is added, and event
0xE059 is raised (R618, R620). -/
def State.unavailableTo (s : State) (n cause start fin : Nat) : State :=
  let d := fin - max start (s.part n).cover
  ((s.bumpBy (E.UNAVAIL_NS n) 64 d).onPart n (fun p => { p with cover := max p.cover fin })).raise 0xE059 (scopeP n) [cause, start, d]

/-- An unavailability interval ends now. -/
def State.unavailable (s : State) (n cause start : Nat) : State := s.unavailableTo n cause start s.now

/-- A limit of Table 21-4 is reached. -/
def State.limitEvent (s : State) (order k index count : Nat) : State := s.raise 0xE050 (scopeK k) [order, k, index, count]

/-- A hearth falls due for retirement, as faulted or for wear, once (R601). -/
def State.hearthDue (s : State) (order g count : Nat) (faulted : Bool) : State :=
  if s.due.any (fun x => x.1 == g) ∨ s.spare.retired.contains g then s else
  { s.limitEvent order (g / 18) (g % 18) count with due := s.due ++ [(g, faulted)] }

/-- Every cord of a partition is unloaded. -/
def State.unloadAll (s : State) (n code : Nat) : State := forAll (List.range 8) (fun j s => if s.loaded n j then unloadJob s n j code else s) s

/-- A rick becomes degraded: event 0xE207, every cord of its partition unloaded (R81); the partition is unavailable until
the operator excludes the rick (Table 21-9, cause 6). -/
def State.degrade (s : State) (k : Nat) : State :=
  if (s.rick k).degradedAt.isSome then s else
  let s1 := (s.onRick k (fun r => { r with degradedAt := some s.now })).raise 0xE207 (scopeK k)
  match s1.partOf k with
  | some n => (s1.unloadAll n 0x13).onPart n (fun p => { p with degraded := true })
  | none => s1

/-- An uncorrectable word on a hearth: order 1. -/
def State.hearthUe (s : State) (g : Nat) : State :=
  let c := (s.hearth g).uncorrectable + 1
  (s.onHearth g (fun h => { h with uncorrectable := c })).hearthDue 1 g c true

/-- Corrected words of a hearth's store and memories: order 4. -/
def State.hearthCe (s : State) (g d : Nat) : State :=
  if d = 0 then s else
  let l := List.replicate d s.now ++ s.recent (s.hearth g).corrected
  let s1 := s.onHearth g (fun h => { h with corrected := l })
  if s.num E.HEARTH_CE_LIMIT ≤ l.length then s1.hearthDue 4 g l.length false else s1

/-- A step with a schedule fault attributed to a hearth, counted once a step: order 2. -/
def State.hearthSched (s : State) (n g : Nat) : State :=
  let old := s.recent (s.hearth g).faultSteps
  let l := if old.any (fun t => decide ((s.part n).firstT0 ≤ t)) then old else s.now :: old
  let s1 := s.onHearth g (fun h => { h with faultSteps := l })
  if 2 ≤ l.length then s1.hearthDue 2 g l.length true else s1

/-- A step with a schedule fault attributed to a rick's flue router or DRAM controller: order 10. -/
def State.rickSched (s : State) (n k : Nat) : State :=
  let old := s.recent (s.rick k).schedFaults
  let l := if old.any (fun t => decide ((s.part n).firstT0 ≤ t)) then old else s.now :: old
  let s1 := s.onRick k (fun r => { r with schedFaults := l })
  if 2 ≤ l.length ∧ old.length < 2 then (s1.limitEvent 10 k 0 l.length).degrade k else s1

/-- A step with a checksum mismatch on an array after a diagnostic without a wrong output: order 3. -/
def State.hearthMism (s : State) (g array : Nat) : State :=
  let l := s.now :: s.recent ((s.hearth g).mismSteps.getD array [])
  let s1 := s.onHearth g (fun h => { h with mismSteps := h.mismSteps.put array l })
  if 3 ≤ l.length then s1.hearthDue 3 g l.length true else s1

end Sys2Proof.Machine
end

