-- ==== Sys2Proof/Machine/Operands.lean ====
section
/-!
DEFINITION. Instruction words of the hearth core (R95, R96, Tables 03-2 and 03-3): fields, operand forms, and
which instruction a word is.
-/
namespace Sys2Proof.Machine

/-- OP, bits [31:26]. -/
def wOp (w : W32) : Nat := bits w.toNat 31 26
/-- A, bits [25:20]. -/
def wA (w : W32) : Nat := bits w.toNat 25 20
/-- B, bits [19:14]. -/
def wB (w : W32) : Nat := bits w.toNat 19 14
/-- C, bits [13:8]. -/
def wC (w : W32) : Nat := bits w.toNat 13 8
/-- D of the IS format, bits [7:2]. -/
def wD (w : W32) : Nat := bits w.toNat 7 2
/-- FN, bits [7:0]. -/
def wFn (w : W32) : Nat := bits w.toNat 7 0
/-- ENG, bits [25:22]. -/
def wEng (w : W32) : Nat := bits w.toNat 25 22
/-- Y of the SB format, bits [25:23]. -/
def wYsb (w : W32) : Nat := bits w.toNat 25 23
/-- MASK of the SB format, bits [22:17]. -/
def wMaskSb (w : W32) : Nat := bits w.toNat 22 17
/-- SENSE, bit [16]. -/
def wSense (w : W32) : Bool := w.toNat.testBit 16
/-- Y of the SR format, bits [16:14]. -/
def wYsr (w : W32) : Nat := bits w.toNat 16 14
/-- MASK of the FC format, bits [25:17]. -/
def wMaskFc (w : W32) : Nat := bits w.toNat 25 17
/-- CYCLE26, bits [25:0]. -/
def wCycle (w : W32) : Nat := bits w.toNat 25 0
/-- TGT14, bits [13:0]. -/
def wTgt (w : W32) : Nat := bits w.toNat 13 0
/-- IMM20, bits [19:0]. -/
def wImm20 (w : W32) : Nat := bits w.toNat 19 0
/-- IMM14 sign-extended to 64 bits (R95). -/
def wImm (w : W32) : W64 := (w.extractLsb' 0 14).signExtend 64
/-- The target of a BR or SB branch at word address `pc`: pc + OFF14 in the 14 bits of a word address. -/
def wTarget (w : W32) (pc : Nat) : Nat := (((pc : Int) + (w.extractLsb' 0 14).toInt) % 16384).toNat

/-- The instructions of Table 03-3. -/
inductive Mn where
  | add | sub | and | or | xor | shl | shr | sar | mul | mulh | slt | sltu | min | max
  | fadd | fsub | fmul | fmin | fmax | flt | fcvti | fcvtf
  | addi | andi | ori | xori | shli | shri | sari | movh
  | ld64 | ld32 | ld16 | ld8 | st64 | st32 | st16 | st8
  | beq | bne | blt | bge | bltu | bgeu | jmp | jr
  | bsum | srd | sflg | issue | fence | waitc | bar | poll | csrr | csrw | note | stepend
  deriving DecidableEq, Repr

/-- The instruction of OP 0x00 and an FN (Table 03-3). -/
def mnRR (fn : Nat) : Option Mn :=
  match fn with
  | 0x00 => some .add | 0x01 => some .sub | 0x02 => some .and | 0x03 => some .or
  | 0x04 => some .xor | 0x05 => some .shl | 0x06 => some .shr | 0x07 => some .sar
  | 0x08 => some .mul | 0x09 => some .mulh | 0x0A => some .slt | 0x0B => some .sltu
  | 0x0C => some .min | 0x0D => some .max | 0x10 => some .fadd | 0x11 => some .fsub
  | 0x12 => some .fmul | 0x13 => some .fmin | 0x14 => some .fmax | 0x15 => some .flt
  | 0x16 => some .fcvti | 0x17 => some .fcvtf
  | _ => none

/-- Which instruction a word is; none where Table 03-3 does not list it or a bit marked 0 in Table 03-2 is set
(R95, R96, R99). A field of a format that an instruction does not use is not looked at (log 9). -/
def mnOf (w : W32) : Option Mn :=
  match wOp w with
  | 0x00 => mnRR (wFn w)
  | 0x01 => some .addi | 0x02 => some .andi | 0x03 => some .ori | 0x04 => some .xori
  | 0x05 => some .shli | 0x06 => some .shri | 0x07 => some .sari | 0x08 => some .movh
  | 0x10 => some .ld64 | 0x11 => some .ld32 | 0x12 => some .ld16 | 0x13 => some .ld8
  | 0x14 => some .st64 | 0x15 => some .st32 | 0x16 => some .st16 | 0x17 => some .st8
  | 0x18 => some .beq | 0x19 => some .bne | 0x1A => some .blt | 0x1B => some .bge
  | 0x1C => some .bltu | 0x1D => some .bgeu
  | 0x1E => if bits w.toNat 19 14 = 0 then some .jmp else none
  | 0x1F => some .jr
  | 0x20 => if bits w.toNat 15 14 = 0 then some .bsum else none
  | 0x21 => if bits w.toNat 19 17 = 0 ∧ bits w.toNat 13 0 = 0 then some .srd else none
  | 0x22 => if bits w.toNat 19 17 = 0 ∧ bits w.toNat 13 0 = 0 then some .sflg else none
  | 0x28 => if bits w.toNat 21 20 = 0 ∧ bits w.toNat 1 0 = 0 ∧ wEng w ≤ 8 then some .issue else none
  | 0x29 => if bits w.toNat 16 0 = 0 then some .fence else none
  | 0x2A => some .waitc
  | 0x30 => if wFn w ≤ 5 then some .bar else none
  | 0x31 => if wFn w ≠ 0 then some .poll else none
  | 0x38 => some .csrr | 0x39 => some .csrw | 0x3B => some .note | 0x3C => some .stepend
  | _ => none

/-- A scalar register; S0 reads as zero (R94). -/
def Hearth.reg (h : Hearth) (i : Nat) : W64 := if i = 0 then 0 else h.regs.getD i 0

/-- Writes a scalar register; a write to S0 is discarded (R94). -/
def Hearth.setReg (h : Hearth) (i : Nat) (v : W64) : Hearth := if i = 0 then h else { h with regs := h.regs.put i v }

/-- A summary register. -/
def Hearth.y (h : Hearth) (i : Nat) : YReg := h.ys.getD i {}

end Sys2Proof.Machine
end

