-- ==== Sys2Proof/Machine/HearthCore.lean ====
section
/-!
DEFINITION. What every instruction of the hearth core shares (The Hearth Core): readiness, fetch, breakpoints,
traps, NaN reports, retirement, scalar data, engine idleness.
-/
namespace Sys2Proof.Machine

/-- Nothing keeps the core of a hearth from starting an instruction: its partition runs a step, it is bound to a
logical hearth, it is not stalled, not in a raking piece, and neither a halt nor a fatal trap of the step stops it
at its cycle (R29, R108, R110, R115). -/
def State.coreReady (s : State) (g : Nat) : Option (Nat × Nat) :=
  match s.partOf (g / 18), s.logical g with
  | some n, some l =>
    let h := s.hearth g
    let p := s.part n
    let stop := match p.trapAt with
      | some c => decide (h.cycle < c)
      | none => decide (p.phase = .running)
    let halt := match p.halt with
      | some x => decide (h.cycle < x.stop) && x.since.isNone
      | none => true
    if stop && halt && h.stall == .none && h.piece.isNone && (s.rick (g / 18)).on then some (n, l) else none
  | _, _ => none

/-- The trap record of Table 03-9. -/
def trapRecord (s : State) (n l g cause engine iaddr word detail cyc : Nat) : List Byte :=
  leBytes 1 cause ++ leBytes 1 engine ++ leBytes 2 l ++ leBytes 2 (g / 18 * 256 + g % 18) ++ leBytes 2 iaddr ++
  leBytes 8 (s.num (E.STEP_COUNT n)) ++ leBytes 8 (micro (s.cycleTime n cyc)) ++ leBytes 4 word ++ leBytes 4 detail

/-- A fatal trap (R110, R112): the partition stops at the cycle, the step is discarded, the cord is unloaded and its
requests fail; CORE_TRAP keeps the earliest trap of the step, then the lowest logical hearth. -/
def State.fatalTrap (s : State) (n l g cause engine iaddr : Nat) (word : Nat) (detail cyc : Nat) : State :=
  let p := s.part n
  let old := s.blob (E.CORE_TRAP n)
  let keep := match p.trapAt with
    | some c => decide (c < cyc) || (c == cyc && decide (fld old 2 2 ≤ l))
    | none => false
  let s1 := if keep then s else s.setBlob (E.CORE_TRAP n) (trapRecord s n l g cause engine iaddr word detail cyc)
  let s2 := ((s1.bump (E.CORE_TRAPS n)).raise 0xE301 (scopeP n)).coreRecord n g 0x07 cause iaddr detail
  let s3 := if (s.num (E.TRACE_SELECT n)).testBit 4 then s2.trigger n 3 cause cyc else s2
  let s4 := if cause = 8 then (s3.hearthUe g).unavailable n 5 s.now else s3
  match p.trapAt with
  | some c => s4.onPart n (fun p => { p with trapAt := some (min c cyc) })
  | none => (unloadJob (s4.discardAttempt n) n p.job 0x13).onPart n (fun p => { p with trapAt := some cyc, phase := .idle })

/-- A trap of the core itself at the instruction that is starting. -/
def State.coreTrap (s : State) (n l g cause : Nat) (w : Nat) (detail : Nat := 0) : State :=
  s.fatalTrap n l g cause 0xFF (s.hearth g).pc w detail (s.hearth g).cycle

/-- A trap on every hearth of a partition at one cycle (R104, R107). -/
def State.trapAll (s : State) (n cause detail cyc : Nat) : State :=
  forAll (s.hearthsOf n) (fun l s =>
    let g := s.phys l
    s.fatalTrap n l g cause 0xFF (s.hearth g).pc (((s.hearth g).imem[(s.hearth g).pc]?.map BitVec.toNat).getD 0) detail cyc) s

/-- A schedule fault of the running attempt (R49); `g` is the hearth it is attributed to. -/
def State.scheduleFault (s : State) (n : Nat) (g : Option Nat) : State :=
  let s1 := match g with
    | some g => s.hearthSched n g
    | none => s
  if (s.part n).schedFault then s1
  else (s1.onPart n (fun p => { p with schedFault := true })).raise 0xE202 (scopeP n)

/-- A NaN report (R114): NANSTAT bit [0], the hearth's first report of the step, and the NAN_TRIG trigger. -/
def State.nanReport (s : State) (n l g engine iaddr tensor wher cyc : Nat) : State :=
  let h := s.hearth g
  let first := (s.hearthsOf n).all (fun l => (s.hearth (s.phys l)).nanRep.isNone)
  let rep : NanRep := ⟨s.cycleTime n cyc, l, g / 18 * 256 + g % 18, engine, iaddr, s.num (E.STEP_COUNT n), tensor, h.kind, wher⟩
  let s1 := s.setHearth g { h with nan0 := true, nanRep := some (h.nanRep.getD rep) }
  if first && (s.num (E.TRACE_SELECT n)).testBit 3 then s1.trigger n 2 tensor cyc else s1

/-- An instruction ends: the program counter moves, its cycles pass, it is counted. -/
def Hearth.retire (h : Hearth) (pc cycles : Nat) : Hearth := ({ h with pc := pc, cycle := h.cycle + cycles }).count 1 1

/-- The next word address. -/
def Hearth.nextPc (h : Hearth) : Nat := (h.pc + 1) % 16384

/-- A taken branch or jump: its trace record, its count, and the move (R116). -/
def State.jump (s : State) (n g op target cycles : Nat) : State :=
  (s.coreRecord n g 0x03 op (s.hearth g).pc target).onHearth g (fun h => (h.retire target cycles).count 2 1)

/-! Comparators and watches (R633) -/

/-- The record of comparators and watches in force for a logical hearth. -/
def State.bpRec (s : State) (n l : Nat) : List Byte := (s.part n).bp.getD l (zeros 80)

/-- A comparator or watch that hit and whose SKIP is used up acts: HALT (R634) or TRIGGER (R630). -/
def State.bpAct (s : State) (n l idx daddr action : Nat) : State :=
  let h := s.hearth (s.phys l)
  let cause := if idx < 8 then 0x0B else 0x0C
  let index := if idx < 8 then idx else idx - 8
  if action = 1 then s.trigger n 1 index h.cycle
  else
    let x : Halt := ⟨cause, index, l, h.pc, daddr, s.num (E.STEP_COUNT n), h.cycle, h.cycle + 2048, 0, none⟩
    let s1 := s.coreRecord n (s.phys l) 0x07 cause h.pc 0
    match (s.part n).halt with
    | none => s1.onPart n (fun p => { p with halt := some x })
    | some y =>
      if h.cycle < y.cycle ∨ (h.cycle = y.cycle ∧ l < y.lh) then
        s1.onPart n (fun p => { p with halt := some { x with hits := y.hits + 1 } })
      else s1.onPart n (fun p => { p with halt := some { y with hits := y.hits + 1 } })

/-- One comparator or watch hit: SKIP is consumed first (R633). -/
def State.bpHit (s : State) (n l idx daddr : Nat) : State :=
  let r := s.bpRec n l
  let v := fld r (8 * idx) 8
  if bits v 47 32 = 0 then s.bpAct n l idx daddr (bits v 62 61)
  else s.onPart n (fun p => { p with bp := p.bp.put l (setFld r (8 * idx + 4) 2 (bits v 47 32 - 1)) })

/-- The comparators see an instruction start (R633). -/
def State.compare (s : State) (n l pc : Nat) : State :=
  forAll (List.range 8) (fun i s =>
    let v := fld (s.bpRec n l) (8 * i) 8
    if v.testBit 63 && ((pc ^^^ bits v 13 0) &&& bits v 29 16) == 0 then s.bpHit n l i 0 else s) s

/-- The watches see `len` bytes from `a` touched by an access of a mode bit: 0 load, 1 store, 2 descriptor copy. -/
def State.watch (s : State) (n l mode a len : Nat) : State :=
  forAll [8, 9] (fun i s =>
    let v := fld (s.bpRec n l) (8 * i) 8
    if v.testBit 63 && v.testBit (56 + mode) && decide (a ≤ bits v 30 16) && decide (bits v 14 0 < a + len)
    then s.bpHit n l i (max a (bits v 14 0)) else s) s

/-! Fetch and dispatch -/

/-- The word a core fetches; none beyond its STREAMS image (R97). -/
def Hearth.fetch (h : Hearth) : Option W32 := h.imem[h.pc]?

/-- The address space of instruction memory, where its uncorrectable words are marked. -/
def imBase (g : Nat) : Nat := 2 ^ 31 + 2 ^ 25 + g * 2 ^ 16

/-- The core of hearth `g` starts its next instruction, commanded as a `mn`. A fetch trap, a memory trap and an
illegal instruction are taken whichever instruction is commanded; a word that is another instruction is not run by
this command (log 10). The comparators see the start. -/
def coreRun (s : State) (g : Nat) (mn : Mn) (body : State → Nat → Nat → W32 → State) : State :=
  match s.coreReady g with
  | none => s
  | some (n, l) =>
    let h := s.hearth g
    match h.fetch with
    | none => s.coreTrap n l g 0x04 0
    | some w =>
      if s.uncorrectable (imBase g + 4 * h.pc) 4 then s.coreTrap n l g 0x08 w.toNat
      else match mnOf w with
        | none => s.coreTrap n l g 0x01 w.toNat
        | some m => if m = mn then body (s.compare n l h.pc) n l w else s

/-- An instruction that writes A from the hearth's registers and retires to the next word. -/
def coreAlu (s : State) (g : Nat) (mn : Mn) (cycles : Nat) (f : Hearth → W32 → W64) : State :=
  coreRun s g mn (fun s _ _ w => s.onHearth g (fun h => (h.setReg (wA w) (f h w)).retire h.nextPc cycles))

/-- A ← B op C (RR). -/
def coreRR (s : State) (g : Nat) (mn : Mn) (cycles : Nat) (f : W64 → W64 → W64) : State :=
  coreAlu s g mn cycles (fun h w => f (h.reg (wB w)) (h.reg (wC w)))

/-- A ← B op IMM14 (RI). -/
def coreRI (s : State) (g : Nat) (mn : Mn) (f : W64 → W64 → W64) : State :=
  coreAlu s g mn 1 (fun h w => f (h.reg (wB w)) (wImm w))

/-- The shift amount C[5:0]. -/
def shAmt (v : W64) : Nat := v.toNat % 64

/-- An FP32 result in bits [31:0], bits [63:32] zero. -/
def fpRes (c : Nat) : W64 := BitVec.ofNat 64 (c % 2 ^ 32)

/-- The FP32 value in bits [31:0] of a register. -/
def fpVal (v : W64) : FV := f32v (v.toNat % 2 ^ 32)

/-- A ← B op C on FP32 values (R193), with the NaN report of the core (R195). -/
def coreFP (s : State) (g : Nat) (mn : Mn) (f : FV → FV → Nat) : State :=
  coreRun s g mn (fun s n l w =>
    let h := s.hearth g
    let r := f (fpVal (h.reg (wB w))) (fpVal (h.reg (wC w)))
    let s1 := s.setHearth g ((h.setReg (wA w) (fpRes r)).retire h.nextPc 4)
    if (f32v r).isNan then s1.nanReport n l g 0xFF h.pc 0 5 (h.cycle + 4) else s1)

/-- FCVTF: toward zero, saturating to the signed 64-bit range, a NaN to 0 (R193). -/
def fcvtf (v : FV) : W64 :=
  match v with
  | .nan => 0
  | .inf neg => BitVec.ofInt 64 (if neg then -(2 ^ 63) else 2 ^ 63 - 1)
  | v => BitVec.ofInt 64 (clampI (v.toIntR .zero) (-(2 ^ 63)) (2 ^ 63 - 1))

/-- The address of a load or store: B + IMM14. -/
def memAddr (h : Hearth) (w : W32) : Nat := (h.reg (wB w) + wImm w).toNat

/-- A load of `size` bytes, zero-extended, with the checks of R97 and the watches. -/
def coreLoad (s : State) (g : Nat) (mn : Mn) (size : Nat) : State :=
  coreRun s g mn (fun s n l w =>
    let h := s.hearth g
    let a := memAddr h w
    if a % size ≠ 0 then s.coreTrap n l g 0x02 w.toNat (a % 2 ^ 32)
    else if 0x8000 < a + size then s.coreTrap n l g 0x03 w.toNat (a % 2 ^ 32)
    else if s.uncorrectable (sdWork g + a) size then s.coreTrap n l g 0x08 w.toNat
    else
      let s1 := s.watch n l 0 a size
      s1.onHearth g (fun h => (h.setReg (wA w) (BitVec.ofNat 64 (s1.mem.num (sdWork g + a) size))).retire h.nextPc 2))

/-- A store of the low `size` bytes of A to the working copy of scalar data memory (R92, R97). -/
def coreStore (s : State) (g : Nat) (mn : Mn) (size : Nat) : State :=
  coreRun s g mn (fun s n l w =>
    let h := s.hearth g
    let a := memAddr h w
    if a % size ≠ 0 then s.coreTrap n l g 0x02 w.toNat (a % 2 ^ 32)
    else if 0x8000 < a + size then s.coreTrap n l g 0x03 w.toNat (a % 2 ^ 32)
    else
      let s1 := s.watch n l 1 a size
      (s1.store (sdWork g + a) (leBytes size (h.reg (wA w)).toNat)).onHearth g (fun h => h.retire h.nextPc 1))

/-- A conditional branch on A and B by OFF14: 1 cycle not taken, 3 taken. -/
def coreBranch (s : State) (g : Nat) (mn : Mn) (c : W64 → W64 → Bool) : State :=
  coreRun s g mn (fun s n _ w =>
    let h := s.hearth g
    if c (h.reg (wA w)) (h.reg (wB w)) then s.jump n g (wOp w) (wTarget w h.pc) 3
    else s.onHearth g (fun h => h.retire h.nextPc 1))

/-! Engines as the core sees them -/

/-- The issued operations of an engine, oldest first. -/
def Hearth.ops (h : Hearth) (e : Nat) : List Op := h.engs.getD e []

/-- Replaces the operations of an engine. -/
def Hearth.setOps (h : Hearth) (e : Nat) (l : List Op) : Hearth := { h with engs := h.engs.put e l }

/-- An engine is idle when no operation of it is unfinished (R129, R153). -/
def Hearth.idle (h : Hearth) (e : Nat) : Bool := (h.ops e).isEmpty

/-- Every engine of a mask is idle. -/
def Hearth.idleMask (h : Hearth) (mask : Nat) : Bool := (List.range 9).all (fun e => !mask.testBit e || h.idle e)

/-- BSUM takes its branch (R102). -/
def bsumTaken (w : W32) (flags : Nat) : Bool :=
  if wSense w then wMaskSb w &&& flags != 0 else wMaskSb w &&& flags == 0

/-- SRD, SFLG or BSUM once its register is valid (R101, R102). -/
def State.readSummary (s : State) (n g : Nat) (w : W32) : State :=
  let h := s.hearth g
  if wOp w = 0x20 then
    if bsumTaken w (h.y (wYsb w)).flags then s.jump n g 0x20 (wTarget w h.pc) 3
    else s.onHearth g (fun h => h.retire h.nextPc 1)
  else
    let y := h.y (wYsr w)
    s.setHearth g ((h.setReg (wA w) (BitVec.ofNat 64 (if wOp w = 0x21 then y.value else y.flags))).retire h.nextPc 1)

/-- SRD, SFLG or BSUM starts: it reads a valid register, stalls on one with a pending writer, and traps on one
with none (R101). -/
def coreSummary (s : State) (g : Nat) (mn : Mn) (yOf : W32 → Nat) : State :=
  coreRun s g mn (fun s n l w =>
    let h := s.hearth g
    let y := h.y (yOf w)
    if y.valid then s.readSummary n g w
    else if y.writer.isSome then s.setHearth g { h with stall := .summary (yOf w) h.cycle }
    else s.coreTrap n l g 0x05 w.toNat)

/-- The core enters the end barrier naming a kind; a kind out of range, or another kind than a hearth that entered
before it named, is a kind trap (R107). -/
def State.enterEnd (s : State) (n l g kind : Nat) (w : Nat) : State :=
  let others := (s.hearthsOf n).filterMap (fun l => match (s.hearth (s.phys l)).stall with | .ended k => some k | _ => none)
  if cdStepKinds (s.job n (s.part n).job).img ≤ kind then s.coreTrap n l g 0x07 w kind
  else if others.any (fun k => k != kind) then s.trapAll n 0x07 kind (s.hearth g).cycle
  else s.onHearth g (fun h => ({ h with stall := .ended kind }).count 1 1)

/-- After an engine's operation ends at cycle `cyc`, its summary valid at `scyc`, a core stalled on it goes on
(R101, R107, Table 03-3). -/
def State.resumeCore (s : State) (n l g cyc : Nat) (scyc : Nat := cyc) : State :=
  let h := s.hearth g
  match h.stall with
  | .summary y since =>
    if (h.y y).valid then
      let c := max h.cycle scyc
      let s1 := s.setHearth g (({ h with stall := .none, cycle := c }).count 4 (c - since))
      match h.fetch with
      | some w => s1.readSummary n g w
      | none => s1
    else s
  | .fence mask since =>
    if h.idleMask mask then
      let c := max h.cycle cyc
      s.setHearth g ((({ h with stall := .none, cycle := c }).retire h.nextPc 1).count 7 (c - since))
    else s
  | .stepend kind _ =>
    if h.idleMask 511 then
      (s.setHearth g { h with stall := .none, cycle := max h.cycle cyc }).enterEnd n l g kind ((h.fetch.map BitVec.toNat).getD 0)
    else s
  | _ => s

end Sys2Proof.Machine
end

