-- ==== Sys2Proof/Machine/Flags.lean ====
section
/-!
DEFINITION. Summary flags (Table 03-6) as the engines compute them.
-/
namespace Sys2Proof.Machine

/-- Bits of Table 03-6, VALID set. -/
def sumFlags (zero neg nan inf tie : Bool) : Nat :=
  (if zero then 1 else 0) + (if neg then 2 else 0) + (if nan then 4 else 0) + (if inf then 8 else 0) +
  (if tie then 16 else 0) + 32

/-- Flags of a summary that is one FP32 value: `anyNan` when an input is a NaN. -/
def fpFlags (v : FV) (anyNan tie : Bool) : Nat :=
  sumFlags v.isZero (v.lt (.zero false)) (anyNan || v.isNan) v.isInf tie

/-- The summary of R133: how many results are NaN or infinite; ZERO when every one is zero. -/
def countSummary (l : List FV) : Summary :=
  ⟨(l.filter (fun v => v.isNan || v.isInf)).length,
   sumFlags (l.all FV.isZero) false (l.any FV.isNan) (l.any FV.isInf) false⟩

/-- The summary of a conversion (R167, R168): results that saturated, became infinite or were zeroed. ZERO says
that the count is zero (log 13). -/
def convSummary (count : Nat) (srcNan resInf : Bool) : Summary := ⟨count, sumFlags (count == 0) false srcNan resInf false⟩

/-- The summary of a count of bytes (R144): flags clear except VALID. -/
def bytesSummary (n : Nat) : Summary := ⟨n, 32⟩

end Sys2Proof.Machine
end

