-- ==== Sys2Proof/Machine/Engines.lean ====
section
/-!
DEFINITION. What the engines of a hearth share: descriptors (Table 03-4), element types (R121, R147), the shared
operand layout (Table 05-2), reads of the hearth store, and how an operation starts and completes (R100, R153).
-/
namespace Sys2Proof.Machine

/-! Descriptor fields (Table 03-4) -/

/-- OPCODE. -/
def dOp (d : List Byte) : Nat := fld d 0 2
/-- SUMDEST asks for a summary. -/
def dSumOn (d : List Byte) : Bool := (fld d 2 1).testBit 7
/-- The Y register SUMDEST names. -/
def dSumY (d : List Byte) : Nat := fld d 2 1 % 8
/-- TENSOR_ID. -/
def dTensor (d : List Byte) : Nat := fld d 4 4
/-- SCALAR0. -/
def dS0 (d : List Byte) : Nat := fld d 8 8
/-- SCALAR1. -/
def dS1 (d : List Byte) : Nat := fld d 0x10 8
/-- SRCA (Tables 05-2, 05-10). -/
def dA (d : List Byte) : Nat := fld d 0x18 4
/-- SRCB. -/
def dB (d : List Byte) : Nat := fld d 0x1C 4
/-- DST. -/
def dDst (d : List Byte) : Nat := fld d 0x20 4
/-- COUNT. -/
def dCount (d : List Byte) : Nat := fld d 0x24 2
/-- ROWS. -/
def dRows (d : List Byte) : Nat := fld d 0x26 2
/-- ASTRIDE. -/
def dAStr (d : List Byte) : Nat := fld d 0x28 4
/-- BSTRIDE. -/
def dBStr (d : List Byte) : Nat := fld d 0x2C 4
/-- DSTRIDE. -/
def dDStr (d : List Byte) : Nat := fld d 0x30 4
/-- Source type, ETYPE bits [3:0]. -/
def dSrc (d : List Byte) : Nat := fld d 0x34 1 % 16
/-- Destination type, ETYPE bits [7:4]. -/
def dDty (d : List Byte) : Nat := fld d 0x34 1 / 16
/-- CTRL. -/
def dCtrl (d : List Byte) : Nat := fld d 0x35 1
/-- TAP. -/
def dTap (d : List Byte) : Nat := fld d 0x36 1
/-- ARG. -/
def dArg (d : List Byte) : Nat := fld d 0x37 1
/-- XADDR. -/
def dX (d : List Byte) : Nat := fld d 0x38 4
/-- XSTRIDE. -/
def dXStr (d : List Byte) : Nat := fld d 0x3C 4

/-! Element types -/

/-- The size of an element in half bits: 0.8125 bytes of the compressed form are 13 of them (R147, R153). -/
def etHalf (t : Nat) : Nat :=
  match t with
  | 0x5 => 8 | 0x7 => 32 | 0x8 => 32 | 0xB => 32 | 0x9 => 64 | 0xA => 64 | 0xC => 13
  | _ => 16

/-- Bits of one code of a type. -/
def etBits (t : Nat) : Nat := if t = 0xC then 6 else etHalf t / 2

/-- The floating-point format of a type's elements. -/
def etFmt (t : Nat) : Fmt :=
  match t with
  | 0x1 => fmtE4M3 | 0x3 => fmtE4M3 | 0x2 => fmtE5M2 | 0x4 => fmtE5M2 | 0x5 => fmtE2M1
  | 0x7 => fmtBF16 | 0x8 => fmtFP16 | 0xC => fmtE2M3
  | _ => fmtFP32

/-- A type of two's-complement integers. -/
def etInt (t : Nat) : Bool := t == 0x6 || t == 0xA

/-- The value of a code of a type. -/
def etValue (t c : Nat) : FV :=
  if etInt t then FV.ofInt (BitVec.ofNat (etBits t) c).toInt else (etFmt t).decode c

/-- Bytes from the start of a row to the end of its last element (R150). -/
def etRow (t count : Nat) : Nat := ceilDiv (count * etHalf t) 16

/-- The first `count` codes of `w` bits of a byte string, least significant first (R11, R123, Table 05-8). -/
def codesOf (w count : Nat) (l : List Byte) : List Nat :=
  let v := leNat l
  (List.range count).map (fun i => v / 2 ^ (w * i) % 2 ^ w)

/-- Codes of `w` bits packed into bytes. -/
def packCodes (w : Nat) (l : List Nat) : List Byte :=
  leBytes (ceilDiv (w * l.length) 8) (l.foldr (fun c acc => c % 2 ^ w + 2 ^ w * acc) 0)

/-! The hearth store as engines read it -/

/-- Bytes of a hearth store. -/
def State.hread (s : State) (g a n : Nat) : List Byte := s.mem.read (hearthBase g + a) n

/-- The codes of a row of a hearth store. -/
def State.hcodes (s : State) (g a t count : Nat) : List Nat := codesOf (etBits t) count (s.hread g a (etRow t count))

/-- The values of a row of a hearth store. -/
def State.hvals (s : State) (g a t count : Nat) : List FV := (s.hcodes g a t count).map (etValue t)

/-- Bank ports that byte ranges occupy: one for each 64-byte block (R38, R150). -/
def portBlocks (l : List (Nat × Nat)) : Nat := l.foldl (fun a r => a + ceilDiv r.2 64) 0

/-- An engine reads ranges of its hearth store: each word with a correctable error adds 1 to the hearth's corrected
count (R593); an uncorrectable one discards the attempt with the engine's event (R142, R179, R224, R251). -/
def State.hreadCheck (s : State) (n g code : Nat) (ranges : List (Nat × Nat)) : State :=
  let ces := ranges.flatMap (fun r => s.correctable (hearthBase g + r.1) r.2)
  let s0 := s.onHearth g (fun h => h.count 17 (portBlocks ranges))
  let s1 := if ces.isEmpty then s0 else s0.onHearth g (fun h => { h with corrected := ces.map (fun _ => s.now) ++ h.corrected })
  if ranges.any (fun r => s.uncorrectable (hearthBase g + r.1) r.2) then
    (s1.onPart n (fun p => { p with ueDiscard := true })).raise code (scopeP n)
  else s1

/-- Byte ranges of the rows of an operand. -/
def rowRanges (base stride rows len : Nat) : List (Nat × Nat) :=
  if stride = 0 then [(base, len)] else (List.range rows).map (fun r => (base + r * stride, len))

/-- Ranges of two operands meet. -/
def rangesMeet (a b : List (Nat × Nat)) : Bool :=
  a.any (fun x => b.any (fun y => decide (x.1 < y.1 + y.2) && decide (y.1 < x.1 + x.2)))

/-- Every range lies in the 8 MiB of the hearth store. -/
def rangesFit (l : List (Nat × Nat)) : Bool := l.all (fun x => decide (x.1 + x.2 ≤ 2 ^ 23))

/-- A multiple of 64 bytes. -/
def al64 (a : Nat) : Bool := a % 64 == 0

/-! Starting and completing operations -/

/-- How an operation starts: the state after its reads, what it will do, its busy cycles, its latency to completion
and to its summary (Table 05-3). -/
structure Started where
  st : State
  res : Result
  busy : Nat
  lat : Nat
  slat : Nat := lat

/-- The next operation of engine `e` starts, when it is a `opc`: at the later of 2 cycles after its ISSUE and the end
of the engine's busy cycles (R100, R153). -/
def engStart (s : State) (g e opc : Nat) (f : State → Nat → Nat → Op → Nat → Started) : State :=
  match s.partOf (g / 18), s.logical g with
  | some n, some l =>
    let h := s.hearth g
    match (h.ops e).span (fun o => o.started) with
    | (_, []) => s
    | (before, o :: rest) =>
      if dOp o.desc ≠ opc then s else
      let start := max (o.issued + 2) (h.busy.getD e 0)
      let x := f s n l o start
      let o1 : Op := { o with started := true, start := start, busyEnd := start + x.busy, done := start + x.busy + x.lat,
                              sumAt := start + x.busy + x.slat, res := x.res }
      x.st.onHearth g (fun h => { (h.setOps e (before ++ o1 :: rest)).count (8 + e) x.busy with busy := h.busy.put e (start + x.busy) })
  | _, _ => s

/-- The summary of an operation reaches its Y register, when the operation is the register's only pending writer
(R101). -/
def Hearth.writeSummary (h : Hearth) (o : Op) : Hearth :=
  if dSumOn o.desc ∧ (h.y (dSumY o.desc)).writer = some o.seq then
    { h with ys := h.ys.put (dSumY o.desc) ⟨o.res.sum.value % 2 ^ 64, o.res.sum.flags, true, none⟩ }
  else h

/-- The bytes an operation writes to its hearth store, and the bank ports that this takes. -/
def State.hwrites (s : State) (g : Nat) (l : List (Nat × List Byte)) : State :=
  (forAll l (fun w s => s.store (hearthBase g + w.1) w.2) s).onHearth g (fun h => h.count 17 (portBlocks (l.map (fun w => (w.1, w.2.length)))))

/-- WHERE of a NaN report by the conditions of R195, the lowest code that applies (Table 06-4): result, second
output, summary, scale. -/
def nanWhere (result second scale : Bool) (d : List Byte) (sum : Summary) : Option Nat :=
  if result then some 0 else if second then some 1
  else if dSumOn d && sum.flags.testBit 2 then some 2 else if scale then some 3 else none

/-- The NaN report of an operation that produced one. -/
def State.opNan (s : State) (n l g e : Nat) (o : Op) : State :=
  match o.res.nan with
  | some w => s.nanReport n l g e o.iaddr (dTensor o.desc) w o.done
  | none => s

/-- The first operation of an engine leaves it. -/
def Hearth.popOp (h : Hearth) (e : Nat) : Hearth := h.setOps e (h.ops e).tail

/-- The oldest operation of an engine, when it has started. -/
def State.oldest (s : State) (g e : Nat) : Option (Nat × Nat × Op) :=
  match s.partOf (g / 18), s.logical g, (s.hearth g).ops e with
  | some n, some l, o :: _ => if o.started then some (n, l, o) else none
  | _, _, _ => none

end Sys2Proof.Machine
end

