-- ==== Sys2Proof/Machine/Vector.lean ====
section
/-!
DEFINITION. The vector engine (R154 to R156, Table 05-4) and the tap of the statistics unit (R171).
-/
namespace Sys2Proof.Machine

/-- A scalar operand as the engine reads it: FP32 for the floating-point types, INT32 for the integer types (R154). -/
def scalarV (t x : Nat) : FV :=
  if etInt t then FV.ofInt (BitVec.ofNat 32 x).toInt else f32v (x % 2 ^ 32)

/-- A result written to a type: an FP32 value rounded once more for BF16 and FP16; INT32 wraps, INT8 saturates (R155,
R156). -/
def vecEncode (t : Nat) (v : FV) : Nat :=
  if t = 0xA then (BitVec.ofInt 32 (v.toIntR .zero)).toNat
  else if t = 0x6 then (BitVec.ofInt 8 (clampI (v.toIntR .zero) (-128) 127)).toNat
  else (etFmt t).encode .nearest .inf v

/-- A statistics feed, when TAP asks for one (R171). -/
def tapFeed (d : List Byte) (rows : List (List FV)) : Option (Nat × List (List FV)) :=
  if (dTap d).testBit 7 then some (dTap d % 4, rows) else none

/-- A vector operation: `f` answers from the scalars (their words, then their values) and the elements of A and B the
exact result, or for a transcendental operation (`trans`) the FP32 one; A stands for B where there is none. -/
def vecOp (s : State) (g opc : Nat) (trans hasB : Bool) (f : Nat → Nat → FV → FV → FV → FV → FV) : State :=
  engStart s g 1 opc (fun s n _ o _ =>
    let d := o.desc
    let t := dSrc d
    let c := dCount d
    let w0 := dS0 d % 2 ^ 32
    let w1 := dS1 d % 2 ^ 32
    let rd := rowRanges (dA d) (dAStr d) (dRows d) (etRow t c) ++
      (if hasB then rowRanges (dB d) (dBStr d) (dRows d) (etRow t c) else [])
    let res : List (List FV) := (List.range (dRows d)).map (fun r =>
      let a := s.hvals g (dA d + r * dAStr d) t c
      let b := if hasB then s.hvals g (dB d + r * dBStr d) t c else a
      (a.zip b).map (fun x =>
        let v := f w0 w1 (scalarV t w0) (scalarV t w1) x.1 x.2
        if etInt t then v else f32r v))
    let codes := res.map (fun r => r.map (vecEncode t))
    let out := codes.flatMap (fun r => r.map (etValue t))
    let sum := countSummary out
    { st := s.hreadCheck n g 0xE501 rd,
      res := { writes := codes.mapIdx (fun r x => (dDst d + r * dDStr d, packCodes (etBits t) x)), sum := sum,
               nan := nanWhere (out.any FV.isNan) false false d sum, feed := tapFeed d res },
      busy := dRows d * ceilDiv (c * etHalf t) (if trans then 4096 else 8192), lat := if trans then 20 else 8 })

/-- A transcendental result as an FP32 value within 2 units in the last place of the exact one (R155). -/
def transc (op x y : Nat) (v : FV) : FV := f32v (within2 op x y v)

/-- VECTOR_ADD: A + B (Table 05-4). -/
def execVectorAdd (g : Fin 216) (s : State) : Host.Outcome State Fault Refusal :=
  .next (vecOp s g 0x0101 false true (fun _ _ _ _ a b => a.add b))

/-- VECTOR_SUB: A − B. -/
def execVectorSub (g : Fin 216) (s : State) : Host.Outcome State Fault Refusal :=
  .next (vecOp s g 0x0102 false true (fun _ _ _ _ a b => a.sub b))

/-- VECTOR_MUL: A × B. -/
def execVectorMul (g : Fin 216) (s : State) : Host.Outcome State Fault Refusal :=
  .next (vecOp s g 0x0103 false true (fun _ _ _ _ a b => a.mul b))

/-- VECTOR_MAX: NaN when either input is one (R156). -/
def execVectorMax (g : Fin 216) (s : State) : Host.Outcome State Fault Refusal :=
  .next (vecOp s g 0x0104 false true (fun _ _ _ _ a b => a.max b))

/-- VECTOR_MIN: NaN when either input is one (R156). -/
def execVectorMin (g : Fin 216) (s : State) : Host.Outcome State Fault Refusal :=
  .next (vecOp s g 0x0105 false true (fun _ _ _ _ a b => a.min b))

/-- AXPY: s0 × A + B, one rounding. -/
def execAxpy (g : Fin 216) (s : State) : Host.Outcome State Fault Refusal :=
  .next (vecOp s g 0x0106 false true (fun _ _ x _ a b => (x.mul a).add b))

/-- AFFINE: s0 × A + s1, one rounding. -/
def execAffine (g : Fin 216) (s : State) : Host.Outcome State Fault Refusal :=
  .next (vecOp s g 0x0107 false false (fun _ _ x y a _ => (x.mul a).add y))

/-- MULS: (s0 × A rounded to FP32) × B. -/
def execMuls (g : Fin 216) (s : State) : Host.Outcome State Fault Refusal :=
  .next (vecOp s g 0x0108 false true (fun _ _ x _ a b => (f32mul x a).mul b))

/-- SEL: B where A > s0, otherwise s1. -/
def execSel (g : Fin 216) (s : State) : Host.Outcome State Fault Refusal :=
  .next (vecOp s g 0x0109 false true (fun _ _ x y a b => if x.lt a then b else y))

/-- ABS: |A|. -/
def execAbs (g : Fin 216) (s : State) : Host.Outcome State Fault Refusal :=
  .next (vecOp s g 0x010A false false (fun _ _ _ _ a _ => a.abs))

/-- EXP: exp(s0 × (A − s1)). -/
def execExp (g : Fin 216) (s : State) : Host.Outcome State Fault Refusal :=
  .next (vecOp s g 0x0110 true false (fun w0 w1 x y a _ => transc 0x110 (f32c a) (w0 + 2 ^ 32 * w1) (expV (x.mul (a.sub y)))))

/-- LOG: ln(A). -/
def execLog (g : Fin 216) (s : State) : Host.Outcome State Fault Refusal :=
  .next (vecOp s g 0x0111 true false (fun _ _ _ _ a _ => transc 0x111 (f32c a) 0 (lnV a)))

/-- RECIP: 1 / A. -/
def execRecip (g : Fin 216) (s : State) : Host.Outcome State Fault Refusal :=
  .next (vecOp s g 0x0112 true false (fun _ _ _ _ a _ => transc 0x112 (f32c a) 0 ((FV.ofNat 1).div a)))

/-- RSQRT: 1 / √A. -/
def execRsqrt (g : Fin 216) (s : State) : Host.Outcome State Fault Refusal :=
  .next (vecOp s g 0x0113 true false (fun _ _ _ _ a _ => transc 0x113 (f32c a) 0 (rsqrtV a)))

/-- SIGM: 1 / (1 + exp(−A)). -/
def execSigm (g : Fin 216) (s : State) : Host.Outcome State Fault Refusal :=
  .next (vecOp s g 0x0114 true false (fun _ _ _ _ a _ => transc 0x114 (f32c a) 0 (sigmV a)))

/-- SILU: A × SIGM(A). -/
def execSilu (g : Fin 216) (s : State) : Host.Outcome State Fault Refusal :=
  .next (vecOp s g 0x0115 true false (fun _ _ _ _ a _ => transc 0x115 (f32c a) 0 (a.mul (sigmV a))))

end Sys2Proof.Machine
end

