-- ==== Sys2Proof/Machine/Convert.lean ====
section
/-!
DEFINITION. The conversion engine (R163 to R168, R184 to R187, Table 05-6) and Philox-4×32-10.
-/
namespace Sys2Proof.Machine

/-! Philox-4×32-10 (R165, R176) -/

/-- One round on a counter and a key. -/
def philoxRound (c : Nat × Nat × Nat × Nat) (k : Nat × Nat) : Nat × Nat × Nat × Nat :=
  let p0 := 0xD2511F53 * c.1
  let p1 := 0xCD9E8D57 * c.2.2.1
  ((p1 / 2 ^ 32) ^^^ c.2.1 ^^^ k.1, p1 % 2 ^ 32, (p0 / 2 ^ 32) ^^^ c.2.2.2 ^^^ k.2, p0 % 2 ^ 32)

/-- Rounds with the key moved on before each but the first. -/
def philoxRounds : Nat → (Nat × Nat × Nat × Nat) → (Nat × Nat) → Nat × Nat × Nat × Nat
  | 0, c, _ => c
  | n + 1, c, k => philoxRounds n (philoxRound c k) ((k.1 + 0x9E3779B9) % 2 ^ 32, (k.2 + 0xBB67AE85) % 2 ^ 32)

/-- Output word `i` of the block of a 64-bit key and four counter words. -/
def philox (key c0 c1 c2 c3 i : Nat) : Nat :=
  let r := philoxRounds 10 (c0 % 2 ^ 32, c1 % 2 ^ 32, c2 % 2 ^ 32, c3 % 2 ^ 32) (key % 2 ^ 32, key / 2 ^ 32 % 2 ^ 32)
  match i with
  | 0 => r.1 | 1 => r.2.1 | 2 => r.2.2.1
  | _ => r.2.2.2

/-! Conversions -/

/-- RM of CTRL. -/
def cvRm (d : List Byte) : Nat := dCtrl d % 8
/-- SAT of CTRL. -/
def cvSat (d : List Byte) : Bool := (dCtrl d).testBit 3
/-- PRESCALE of CTRL. -/
def cvPre (d : List Byte) : Bool := (dCtrl d).testBit 4

/-- The rounding of element `i` of an operation; `seed` gives the random word of an element (Table 05-7, R165). -/
def rmOf (rm : Nat) (word : Nat → Nat) (i : Nat) : RM :=
  match rm with
  | 0 => .nearest | 1 => .zero | 2 => .up | 3 => .down | 4 => .stochastic (word i)
  | _ => .odd

/-- The random word of element `i` of an operation (R165). -/
def State.rndWord (s : State) (n l : Nat) (d : List Byte) (i : Nat) : Nat :=
  philox ((s.part n).seed) (s.num (E.STEP_COUNT n) % 2 ^ 32) (dTensor d) l (i / 4) (i % 4)

/-- The largest integer code of an integer type. -/
def etIntMax (t : Nat) : Int := 2 ^ (etBits t - 1) - 1

/-- A value written to a type by CAST, CONST or EXPAND, and whether it saturated or became infinite (R166, R190): an
infinite source overflows (log 23). -/
def convEncode (t : Nat) (rm : RM) (sat : Bool) (v : FV) : Nat × Bool :=
  if etInt t then
    match v with
    | .nan => (0, false)
    | v =>
      let x : Int := v.toIntR rm
      let past := v.isInf || decide (etIntMax t < x) || decide (x < -(etIntMax t) - 1)
      if past then
        if sat || t == 0x6 then ((BitVec.ofInt (etBits t) (if v.isNeg then -(etIntMax t) - 1 else etIntMax t)).toNat, true)
        else ((Config.castInt32Overflow v.isNeg x.natAbs).toNat, false)
      else ((BitVec.ofInt (etBits t) x).toNat, false)
  else
    let f := etFmt t
    let big (neg : Bool) : Nat := if !sat && decide (f.sp = .ieee) then f.signed neg f.infMag else f.signed neg f.maxMag
    match v with
    | .nan => (f.nanCode, false)
    | .inf neg => (big neg, true)
    | .fin neg m e =>
      let c := f.roundMag rm neg m e
      if c ≤ f.maxMag then (f.signed neg c, false) else (big neg, true)

/-- The source values of a conversion, multiplied by SCALAR0 under PRESCALE (R163). -/
def State.convSrc (s : State) (g : Nat) (d : List Byte) : List (List FV) :=
  (List.range (dRows d)).map (fun r =>
    (s.hvals g (dA d + r * dAStr d) (dSrc d) (dCount d)).map (fun v => if cvPre d then v.mul (f32v (dS0 d % 2 ^ 32)) else v))

/-- The larger element size of a conversion in half bits (R153). -/
def cvHalf (d : List Byte) : Nat := max (etHalf (dSrc d)) (etHalf (dDty d))

/-- What a block conversion makes of one row: bytes at DST, bytes at XADDR, results counted, a scale of 0xFF. -/
structure RowOut where
  dst : List Byte
  x : List Byte
  count : Nat
  bad : Bool
  deriving DecidableEq, Repr

/-- The shared frame of QUANT_MX, QUANT_G16 and COMPRESS: `row` converts the row whose first element has a position
in the operation. -/
def quantOp (s : State) (g opc : Nat) (row : List Byte → (Nat → RM) → Nat → List FV → RowOut) : State :=
  engStart s g 3 opc (fun s n l o _ =>
    let d := o.desc
    let src := s.convSrc g d
    let rm := rmOf (cvRm d) (s.rndWord n l d)
    let outs := src.mapIdx (fun r vs => row d rm (r * dCount d) vs)
    let count := outs.foldl (fun a x => a + x.count) 0
    let sum := convSummary count (src.any (fun r => r.any FV.isNan)) false
    { st := s.hreadCheck n g 0xE501 (rowRanges (dA d) (dAStr d) (dRows d) (etRow (dSrc d) (dCount d))),
      res := { writes := outs.mapIdx (fun r x => (dDst d + r * dDStr d, x.dst)) ++
                 (outs.mapIdx (fun r x => (dX d + r * dXStr d, x.x))).filter (fun w => !w.2.isEmpty),
               sum := sum, nan := nanWhere false false (outs.any RowOut.bad) d sum, feed := tapFeed d src },
      busy := dRows d * ceilDiv (dCount d * cvHalf d) 8192, lat := 16 })

/-- Consecutive blocks of `k` elements with the position of their first. -/
def blocksOf {α : Type} (k : Nat) (l : List α) : List (Nat × List α) :=
  (List.range (ceilDiv l.length k)).map (fun b => (b * k, (l.drop (b * k)).take k))

/-- The largest finite magnitude of a block. -/
def blockMax (l : List FV) : FV :=
  l.foldl (fun m v => if v.isFin && m.lt v.abs then v.abs else m) (.zero false)

/-- The scale code of a block of an element format whose largest exponent is `m` (R167). -/
def mxScale (m : Int) (l : List FV) : Nat :=
  if l.any (fun v => !v.isFin) then 0xFF
  else
    let a := blockMax l
    if a.isZero then 0 else (clampI (a.floorLog2 - m + 127) 0 254).toNat

/-- The largest exponent of an element format (R167). -/
def mxMaxExp (t : Nat) : Int := if t = 0x4 then 15 else if t = 0x3 then 8 else 2

/-- The largest finite value of a format. -/
def Fmt.maxV (f : Fmt) : FV := f.decode f.maxMag

/-- A block coded under its scale: codes, and elements set to the largest magnitude or zeroed (R167). -/
def mxBlock (t : Nat) (rm : Nat → RM) (pos : Nat) (l : List FV) : Nat × List Nat × Nat :=
  let f := etFmt t
  let sc := mxScale (mxMaxExp t) l
  if sc = 0xFF then (sc, l.map (fun _ => 0), l.length)
  else
    let vs := l.map (fun v => v.scale (127 - (sc : Int)))
    (sc, vs.mapIdx (fun i v => f.encode (rm (pos + i)) .max v), (vs.filter (fun v => f.maxV.lt v.abs)).length)

/-- A row of QUANT_MX: scales one byte per block at XADDR (R167). -/
def mxRow (d : List Byte) (rm : Nat → RM) (pos : Nat) (vs : List FV) : RowOut :=
  let bs := (blocksOf 32 vs).map (fun b => mxBlock (dDty d) rm (pos + b.1) b.2)
  ⟨packCodes (etBits (dDty d)) (bs.flatMap (fun b => b.2.1)), bs.map (fun b => BitVec.ofNat 8 b.1),
   bs.foldl (fun a b => a + b.2.2) 0, bs.any (fun b => b.1 == 0xFF)⟩

/-- A group of the compressed activation form (Table 05-8). -/
def compressGroup (rm : Nat → RM) (pos : Nat) (vs : List FV) : List Byte × Nat × Bool :=
  let bs := (blocksOf 32 vs).map (fun b => mxBlock 0xC rm (pos + b.1) b.2)
  (bs.map (fun b => BitVec.ofNat 8 b.1) ++ zeros 32 ++ packCodes 6 (bs.flatMap (fun b => b.2.1)),
   bs.foldl (fun a b => a + b.2.2) 0, bs.any (fun b => b.1 == 0xFF))

/-- A row of COMPRESS: groups of 1,024 elements in 832 bytes (R168). -/
def compressRow (_d : List Byte) (rm : Nat → RM) (pos : Nat) (vs : List FV) : RowOut :=
  let gs := (blocksOf 1024 vs).map (fun b => compressGroup rm (pos + b.1) b.2)
  ⟨gs.flatMap (fun x => x.1), [], gs.foldl (fun a x => a + x.2.1) 0, gs.any (fun x => x.2.2)⟩

/-- The magnitude q of an element of a G16 block before its limit (R186). -/
def g16q (x : Nat) (rm : RM) (v : FV) : Nat := ((v.scale (141 - (x : Int))).toIntR rm).natAbs

/-- The block exponent of G16 (R186). -/
def g16Exp (l : List FV) : Nat :=
  if l.any (fun v => !v.isFin) then 0xFF
  else
    let a := blockMax l
    if a.isZero then 0 else (clampI (a.floorLog2 + 127) 0 254).toNat

/-- A block of QUANT_G16 (R186). -/
def g16Block (rm : Nat → RM) (pos : Nat) (l : List FV) : Nat × List Nat × Nat :=
  let x := g16Exp l
  if x = 0xFF then (x, l.map (fun _ => 0), l.length)
  else
    let qs := l.mapIdx (fun i v => (v.isNeg, g16q x (rm (pos + i)) v))
    (x, qs.map (fun q => min q.2 32767 + (if q.1 then 2 ^ 15 else 0)), (qs.filter (fun q => decide (32767 < q.2))).length)

/-- A row of QUANT_G16 (R185). -/
def g16Row (_d : List Byte) (rm : Nat → RM) (pos : Nat) (vs : List FV) : RowOut :=
  let bs := (blocksOf 32 vs).map (fun b => g16Block rm (pos + b.1) b.2)
  ⟨packCodes 16 (bs.flatMap (fun b => b.2.1)), bs.map (fun b => BitVec.ofNat 8 b.1),
   bs.foldl (fun a b => a + b.2.2) 0, bs.any (fun b => b.1 == 0xFF)⟩

/-- CAST: one rounding under RM (R163, R166). -/
def execCast (g : Fin 216) (s : State) : Host.Outcome State Fault Refusal :=
  .next (engStart s g 3 0x0301 (fun s n l o _ =>
    let d := o.desc
    let t := dDty d
    let src := s.convSrc g d
    let outs := src.mapIdx (fun r vs => vs.mapIdx (fun i v =>
      convEncode t (rmOf (cvRm d) (s.rndWord n l d) (r * dCount d + i)) (cvSat d) v))
    let vals := outs.flatMap (fun r => r.map (fun x => etValue t x.1))
    let count := outs.foldl (fun a r => a + (r.filter (fun x => x.2)).length) 0
    let sum := convSummary count (src.any (fun r => r.any FV.isNan)) (vals.any FV.isInf)
    { st := s.hreadCheck n g 0xE501 (rowRanges (dA d) (dAStr d) (dRows d) (etRow (dSrc d) (dCount d))),
      res := { writes := outs.mapIdx (fun r x => (dDst d + r * dDStr d, packCodes (etBits t) (x.map Prod.fst))), sum := sum,
               nan := nanWhere (vals.any FV.isNan) false false d sum, feed := tapFeed d src },
      busy := dRows d * ceilDiv (dCount d * cvHalf d) 8192, lat := 12 }))

/-- QUANT_MX (R167). -/
def execQuantMx (g : Fin 216) (s : State) : Host.Outcome State Fault Refusal :=
  .next (quantOp s g 0x0302 mxRow)

/-- QUANT_G16 (R184 to R186). -/
def execQuantG16 (g : Fin 216) (s : State) : Host.Outcome State Fault Refusal :=
  .next (quantOp s g 0x0303 g16Row)

/-- COMPRESS (R168). -/
def execCompress (g : Fin 216) (s : State) : Host.Outcome State Fault Refusal :=
  .next (quantOp s g 0x0304 compressRow)

/-- The value of a block-scaled element: NaN under a scale of 0xFF (R182, R183, R184). -/
def scaledValue (t sc c : Nat) : FV :=
  if sc = 0xFF then .nan
  else if t = 0xB then .fin (c.testBit 15) (c % 2 ^ 15) ((sc : Int) - 141)
  else ((etFmt t).decode c).scale ((sc : Int) - 127)

/-- The values of one row of a block source of EXPAND (R163, R168, R185). -/
def State.expandRow (s : State) (g : Nat) (d : List Byte) (r : Nat) : List FV :=
  let t := dSrc d
  let a := dA d + r * dAStr d
  if t = 0xC then
    (List.range (dCount d / 1024)).flatMap (fun q =>
      let b := s.hread g (a + 832 * q) 832
      (codesOf 6 1024 (b.drop 64)).mapIdx (fun i c => scaledValue t (fld b (i / 32) 1) c))
  else
    let sc := s.hread g (dX d + r * dXStr d) (ceilDiv (dCount d) 32)
    (s.hcodes g a t (dCount d)).mapIdx (fun i c => scaledValue t (fld sc (i / 32) 1) c)

/-- EXPAND: exact where the destination can hold the value, otherwise rounded under RM (R163, R187). -/
def execExpand (g : Fin 216) (s : State) : Host.Outcome State Fault Refusal :=
  .next (engStart s g 3 0x0305 (fun s n l o _ =>
    let d := o.desc
    let t := dDty d
    let src := (List.range (dRows d)).map (fun r => (s.expandRow g d r).map (fun v =>
      if cvPre d then v.mul (f32v (dS0 d % 2 ^ 32)) else v))
    let outs := src.mapIdx (fun r vs => vs.mapIdx (fun i v =>
      convEncode t (rmOf (cvRm d) (s.rndWord n l d) (r * dCount d + i)) (cvSat d) v))
    let vals := outs.flatMap (fun r => r.map (fun x => etValue t x.1))
    let count := outs.foldl (fun a r => a + (r.filter (fun x => x.2)).length) 0
    let sum := convSummary count (src.any (fun r => r.any FV.isNan)) (vals.any FV.isInf)
    let rd := rowRanges (dA d) (dAStr d) (dRows d) (etRow (dSrc d) (dCount d)) ++
      (if dSrc d = 0xC then [] else rowRanges (dX d) (dXStr d) (dRows d) (ceilDiv (dCount d) 32))
    { st := s.hreadCheck n g 0xE501 rd,
      res := { writes := outs.mapIdx (fun r x => (dDst d + r * dDStr d, packCodes (etBits t) (x.map Prod.fst))), sum := sum,
               nan := nanWhere (vals.any FV.isNan) false false d sum, feed := tapFeed d src },
      busy := dRows d * ceilDiv (dCount d * cvHalf d) 8192, lat := 16 }))

/-- CONST: writes s0, rounded under RM, to every element (Table 05-6). -/
def execConstFill (g : Fin 216) (s : State) : Host.Outcome State Fault Refusal :=
  .next (engStart s g 3 0x0306 (fun s n l o _ =>
    let d := o.desc
    let t := dDty d
    let v := f32v (dS0 d % 2 ^ 32)
    let outs := (List.range (dRows d)).map (fun r => (List.range (dCount d)).map (fun i =>
      convEncode t (rmOf (cvRm d) (s.rndWord n l d) (r * dCount d + i)) (cvSat d) v))
    let vals := outs.flatMap (fun r => r.map (fun x => etValue t x.1))
    let count := outs.foldl (fun a r => a + (r.filter (fun x => x.2)).length) 0
    let sum := convSummary count v.isNan (vals.any FV.isInf)
    { st := s,
      res := { writes := outs.mapIdx (fun r x => (dDst d + r * dDStr d, packCodes (etBits t) (x.map Prod.fst))), sum := sum,
               nan := nanWhere (vals.any FV.isNan) false false d sum, feed := tapFeed d [] },
      busy := dRows d * ceilDiv (dCount d * etHalf t) 8192, lat := 12 }))

end Sys2Proof.Machine
end

