-- ==== Sys2Proof/Machine/Stats.lean ====
section
/-!
DEFINITION. The statistics unit (R169 to R172, R188, R200, Tables 05-9 and 06-5).
-/
namespace Sys2Proof.Machine

/-- A count of 32 bits that saturates (R170). -/
def sat32 (v : Nat) : Nat := min v (2 ^ 32 - 1)

/-- The arrays read a code of a format as zero: zero, or a subnormal that is flushed (Table 05-9, R191). -/
def arraysZero (t c : Nat) : Bool :=
  let f := etFmt t
  let mag := c % 2 ^ (f.eb + f.fb)
  mag == 0 || (t != 0x8 && decide (mag < 2 ^ f.fb))

/-- Overflow and vanish of one element in a scalar format (Table 05-9). -/
def scalarLoss (t : Nat) (v : FV) : Nat × Nat :=
  ((if (etFmt t).overflows v then 1 else 0),
   (if v.isFin && !v.isZero && arraysZero t ((etFmt t).encode .nearest .inf v) then 1 else 0))

/-- Overflow and vanish of a block in an MX format (Table 05-9). -/
def mxLoss (t : Nat) (l : List FV) : Nat × Nat :=
  let b := mxBlock t (fun _ => .nearest) 0 l
  let f := etFmt t
  (b.2.2, ((l.zip b.2.1).filter (fun x => !x.1.isZero && x.2 % 2 ^ (f.eb + f.fb) == 0)).length)

/-- Overflow and vanish of a block in G16 (R188). -/
def g16Loss (l : List FV) : Nat × Nat :=
  let b := g16Block (fun _ => .nearest) 0 l
  (b.2.2, ((l.zip b.2.1).filter (fun x => x.1.isFin && !x.1.isZero && x.2 % 2 ^ 15 == 0)).length)

/-- Pairs of counts added. -/
def addPair (a b : Nat × Nat) : Nat × Nat := (sat32 (a.1 + b.1), sat32 (a.2 + b.2))

/-- The losses of one row: FP16, BF16, E4M3, E5M2, MXFP8, MXFP4, G16 (Table 06-5). -/
def rowLoss (l : List FV) : List (Nat × Nat) :=
  let scal (t : Nat) := l.foldl (fun a v => addPair a (scalarLoss t v)) (0, 0)
  let blk (f : List FV → Nat × Nat) := (blocksOf 32 l).foldl (fun a b => addPair a (f b.2)) (0, 0)
  [scal 0x8, scal 0x7, scal 0x1, scal 0x2, blk (mxLoss 0x3), blk (mxLoss 0x5), blk g16Loss]

/-- The histogram bin of an element (Table 05-9). -/
def histBin (base : Int) (v : FV) : Option Nat :=
  if v.isFin && !v.isZero then some (clampI (v.floorLog2 - base) 0 63).toNat else none

/-- A slot with the elements of one row added (R170). -/
def StatSlot.addRow (x : StatSlot) (l : List FV) : StatSlot :=
  { x with
    elements := sat32 (x.elements + l.length),
    nzero := sat32 (x.nzero + (l.filter FV.isZero).length),
    nans := sat32 (x.nans + (l.filter FV.isNan).length),
    infs := sat32 (x.infs + (l.filter FV.isInf).length),
    pairs := (x.pairs.zip (rowLoss l)).map (fun p => addPair p.1 p.2),
    hist := x.hist.mapIdx (fun b c => sat32 (c + (l.filter (fun v => histBin x.base v == some b)).length)) }

/-- A slot's record (Table 06-5). -/
def StatSlot.record (x : StatSlot) (slot stepno : Nat) : List Byte :=
  leBytes 4 x.tensor ++ [BitVec.ofInt 8 x.base] ++ leBytes 1 slot ++ zeros 2 ++ leBytes 8 stepno ++
  leBytes 4 x.elements ++ leBytes 4 x.nzero ++ leBytes 4 x.nans ++ leBytes 4 x.infs ++
  x.pairs.flatMap (fun p => leBytes 4 p.1 ++ leBytes 4 p.2) ++ zeros 168 ++ x.hist.flatMap (leBytes 4)

/-- A slot of a hearth. -/
def Hearth.stat (h : Hearth) (i : Nat) : StatSlot := h.stats.getD i {}

/-- The summary of a statistics operation: the manual names none (log 15). -/
def freeSummary (s : State) : Summary × State := let d := s.draw; (⟨d.1.toNat, d.1.toNat % 32 + 32⟩, d.2)

/-- An operation that adds to the slot issued before `seq` is not complete: a tap of the vector or the conversion
engine, or a SACC (R172). -/
def Hearth.slotPending (h : Hearth) (slot seq : Nat) : Bool :=
  [1, 3].any (fun e => (h.ops e).any (fun o => decide (o.seq < seq) && (dTap o.desc).testBit 7 && dTap o.desc % 4 == slot)) ||
  (h.ops 4).any (fun o => decide (o.seq < seq) && dOp o.desc == 0x0402 && dArg o.desc == slot)

/-- SINIT: clears the slot ARG, binds it to TENSOR_ID and sets its histogram base (R169). -/
def execSinit (g : Fin 216) (s : State) : Host.Outcome State Fault Refusal :=
  .next (engStart s g 4 0x0401 (fun s _ _ _ _ =>
    let f := freeSummary s
    { st := f.2, res := { sum := f.1 }, busy := 4, lat := 0 }))

/-- SACC: adds the elements of A to the slot ARG (R169). -/
def execSacc (g : Fin 216) (s : State) : Host.Outcome State Fault Refusal :=
  .next (engStart s g 4 0x0402 (fun s n _ o _ =>
    let d := o.desc
    let f := freeSummary s
    let rows := (List.range (dRows d)).map (fun r => s.hvals g (dA d + r * dAStr d) (dSrc d) (dCount d))
    { st := f.2.hreadCheck n g 0xE501 (rowRanges (dA d) (dAStr d) (dRows d) (etRow (dSrc d) (dCount d))),
      res := { sum := f.1, feed := some (dArg d, rows) },
      busy := dRows d * ceilDiv (dCount d * etHalf (dSrc d)) 8192, lat := 16 }))

/-- SOUT: waits for the taps and SACCs into its slot that were issued before it, the unit busy meanwhile; then
writes the slot and clears its counts (R169, R172). -/
def execSout (g : Fin 216) (s : State) : Host.Outcome State Fault Refusal :=
  .next (
    let h := s.hearth g
    let waits := match (h.ops 4).find? (fun o => !o.started) with
      | some o => h.slotPending (dArg o.desc) o.seq
      | none => false
    if waits then s else
    engStart s g 4 0x0403 (fun s _ _ o start =>
      let f := freeSummary s
      { st := f.2, res := { sum := f.1, sout := some (dArg o.desc) },
        busy := max start ((s.hearth g).stat (dArg o.desc)).added - start + 32, lat := 0 }))

/-- A completing operation feeds its slot, or writes and clears it. -/
def State.applyStats (s : State) (n g : Nat) (o : Op) : State :=
  let s1 := match o.res.feed with
    | some (slot, rows) => s.onHearth g (fun h =>
        let x := rows.foldl StatSlot.addRow (h.stat slot)
        { h with stats := h.stats.put slot { x with added := max x.added o.done } })
    | none => s
  let s2 := match o.res.sout with
    | some slot =>
      let x := (s1.hearth g).stat slot
      (s1.store (hearthBase g + dDst o.desc) (x.record slot (s1.num (E.STEP_COUNT n)))).onHearth g (fun h =>
        { h with stats := h.stats.put slot { bound := x.bound, tensor := x.tensor, base := x.base } })
    | none => s1
  let fresh : StatSlot := { bound := true, tensor := dTensor o.desc, base := (BitVec.ofNat 8 (dS0 o.desc)).toInt }
  if dOp o.desc = 0x0401 then s2.onHearth g (fun h => { h with stats := h.stats.put (dArg o.desc) fresh }) else s2

/-- ENGINE_OP_COMPLETE: the oldest started operation of an engine 1 to 5 completes: its results are written, its slot
is fed, its summary becomes valid, its NaN is reported, and a core that waits for it goes on (R101, R153, R171, R195);
an error found while it ran traps instead (Table 05-12). -/
def execEngineOpComplete (g : Fin 216) (e : Fin 8) (s : State) : Host.Outcome State Fault Refusal :=
  .next (
    if e.val = 0 ∨ 5 < e.val then s else
    match s.oldest g e with
    | none => s
    | some (n, l, o) =>
      let s1 := s.onHearth g (fun h => h.popOp e)
      if o.res.trap then s1.fatalTrap n l g 0x09 e o.iaddr o.word 0 o.done
      else
        let s2 := (((s1.hwrites g o.res.writes).applyStats n g o).onPart n (fun p => { p with badRows := p.badRows + o.res.bad }))
        let s3 := (s2.onHearth g (fun h => h.writeSummary o)).opNan n l g e o
        s3.resumeCore n l g o.done o.sumAt)

end Sys2Proof.Machine
end

