-- ==== Sys2Proof/Machine/Matrix.lean ====
section
/-!
DEFINITION. The matrix engine (R118 to R138, R142, R191, R192): operand layouts, accumulation, phases, checks.
-/
namespace Sys2Proof.Machine

/-- K_t, p and c of a weight and an activation format; none for a pair not in Table 04-3. -/
def mmPair (w a : Nat) : Option (Nat × Nat × Nat) :=
  let fp8 (x : Nat) := x == 1 || x == 2
  let mx8 (x : Nat) := x == 3 || x == 4
  if fp8 w && fp8 a then some (128, 1, 1)
  else if mx8 w && (mx8 a || a == 5) then some (128, 1, 1)
  else if w == 5 && a == 5 then some (256, 2, 1)
  else if w == 5 && mx8 a then some (256, 2, 2)
  else if w == 6 && a == 6 then some (128, 1, 1)
  else if (w == 7 && a == 7) || (w == 8 && a == 8) then some (128, 1, 2)
  else none

/-- A block-scaled format (Table 04-2). -/
def isMx (t : Nat) : Bool := t == 3 || t == 4 || t == 5

/-! MMUL operands (Table 04-5) -/

/-- WADDR. -/
def mmW (d : List Byte) : Nat := fld d 0x18 4
/-- WSADDR. -/
def mmWs (d : List Byte) : Nat := fld d 0x1C 4
/-- AADDR. -/
def mmA (d : List Byte) : Nat := fld d 0x20 4
/-- ASTRIDE. -/
def mmAStr (d : List Byte) : Nat := fld d 0x24 4
/-- XSADDR. -/
def mmXs (d : List Byte) : Nat := fld d 0x28 4
/-- OADDR. -/
def mmO (d : List Byte) : Nat := fld d 0x2C 4
/-- OSTRIDE. -/
def mmOStr (d : List Byte) : Nat := fld d 0x30 4
/-- M. -/
def mmM (d : List Byte) : Nat := fld d 0x34 2
/-- The enabled arrays. -/
def mmArrays (d : List Byte) : List Nat := bitList (fld d 0x36 1) 4
/-- Weight format, FMT bits [3:0]. -/
def mmWf (d : List Byte) : Nat := fld d 0x37 1 % 16
/-- Activation format, FMT bits [7:4]. -/
def mmAf (d : List Byte) : Nat := fld d 0x37 1 / 16
/-- FLAGS. -/
def mmFlags (d : List Byte) : Nat := fld d 0x38 1
/-- HALF. -/
def mmHalf (d : List Byte) : Nat := if (mmFlags d).testBit 3 then 1 else 0
/-- XSSTRIDE. -/
def mmXsStr (d : List Byte) : Nat := fld d 0x3A 2
/-- K_t. -/
def mmKt (d : List Byte) : Nat := ((mmPair (mmWf d) (mmAf d)).getD (128, 1, 1)).1
/-- p. -/
def mmP (d : List Byte) : Nat := ((mmPair (mmWf d) (mmAf d)).getD (128, 1, 1)).2.1
/-- c. -/
def mmC (d : List Byte) : Nat := ((mmPair (mmWf d) (mmAf d)).getD (128, 1, 1)).2.2
/-- L_w, the weight line. -/
def mmLw (d : List Byte) : Nat := 128 * mmP d * etBits (mmWf d) / 8
/-- L_a, the activation line. -/
def mmLa (d : List Byte) : Nat := mmKt d * etBits (mmAf d) / 8
/-- S_w, the size of the weight scales. -/
def mmSw (d : List Byte) : Nat := if isMx (mmWf d) then mmKt d / 32 * 128 else 0
/-- Bytes of the activation scales of one array. -/
def mmSx (d : List Byte) : Nat := if isMx (mmAf d) then mmM d * mmKt d / 32 else 0

/-- A code as the arrays read it: subnormals of BF16, E4M3, E5M2 and E2M1 are zeros of the same sign (R191). -/
def arrayValue (t c : Nat) : FV :=
  if etInt t then etValue t c
  else let v := (etFmt t).decode c
       if v.isFin && arraysZero t c then .zero v.isNeg else v

/-- The weights w[k][n] of a tile, by k (Table 04-4). -/
def tileWeights (d : List Byte) (tile : List Byte) : List (List FV) :=
  let w := etBits (mmWf d)
  let lines := (pieces tile (mmLw d) 128).map (codesOf w (128 * mmP d))
  (List.range (mmKt d)).map (fun k => (List.range 128).map (fun n =>
    arrayValue (mmWf d) ((((lines[k / mmP d]?).getD [])[n * mmP d + k % mmP d]?).getD 0)))

/-- The scale code s_w[k div 32][n]; 127 where the format has none. -/
def tileScale (d scales : List Byte) (k n : Nat) : Nat := if isMx (mmWf d) then fld scales (k / 32 * 128 + n) 1 else 127

/-- The activations x[m][k] of an array (Table 04-4: line t holds element k of vector t − k div p). -/
def State.acts (s : State) (g : Nat) (d : List Byte) (j : Nat) : List (List FV) :=
  let lines := (pieces (s.hread g (mmA d + j * mmAStr d) ((mmM d + 127) * mmLa d)) (mmLa d) (mmM d + 127)).map (codesOf (etBits (mmAf d)) (mmKt d))
  (List.range (mmM d)).map (fun m => (List.range (mmKt d)).map (fun k =>
    arrayValue (mmAf d) ((((lines[m + k / mmP d]?).getD [])[k]?).getD 0)))

/-- The scale codes s_x[m][k div 32] of an array. -/
def State.actScales (s : State) (g : Nat) (d : List Byte) (j : Nat) : List (List Nat) :=
  let q := mmKt d / 32
  (List.range (mmM d)).map (fun m => (List.range q).map (fun b =>
    if isMx (mmAf d) then fld (s.hread g (mmXs d + j * mmXsStr d + m * q + b) 1) 0 1 else 127))

/-- The exact sum of a block of products, scaled (R131, R192). -/
def blockSum (ew ex : Nat) (ws xs : List FV) : FV :=
  if ew = 0xFF ∨ ex = 0xFF then .nan
  else match List.zipWith FV.mul ws xs with
    | [] => .zero false
    | p :: r => (r.foldl FV.add p).scale ((ew : Int) + ex - 254)

/-- A column's FP32 running value for one vector: blocks of 32 in ascending k, one rounding each (R131). -/
def columnValue (d scales : List Byte) (ws : List (List FV)) (n : Nat) (xs : List FV) (sx : List Nat) : FV :=
  (List.range (mmKt d / 32)).foldl (fun acc b =>
    let w := ((ws.drop (32 * b)).take 32).map (fun r => (r[n]?).getD (.zero false))
    f32add acc (blockSum (tileScale d scales (32 * b) n) ((sx[b]?).getD 127) w ((xs.drop (32 * b)).take 32))) (.zero false)

/-- The processing elements of an array that a substitution has taken out of use (R140, Table 04-13). -/
def State.substituted (s : State) (g j : Nat) (d : Nat × Nat) : Bool :=
  let v := fld (s.blob E.ARRAY_SPARES) (2 * (4 * g + j)) 2
  (v.testBit 15 && bits v 14 8 == d.1) || (v.testBit 7 && bits v 6 0 == d.2)

/-- The wrong processing elements of an array that are in use: row and column. -/
def State.defectsOf (s : State) (g j : Nat) : List (Nat × Nat) :=
  ((s.hearth g).defects.filter (fun x => x.1 == j && !s.substituted g j x.2)).map Prod.snd

/-- y_op of an array: what the operation itself contributes (R131, R135). -/
def State.yOp (s : State) (g : Nat) (d : List Byte) (tile : List Byte × List Byte) (j : Nat) : List (List FV) :=
  let ws := tileWeights d tile.1
  let bad := s.defectsOf g j
  let sx := s.actScales g d j
  (s.acts g d j).mapIdx (fun m xs => (List.range 128).map (fun n =>
    match bad.find? (fun x => x.2 == n) with
    | some x => f32v (Config.defectOut j x.1 n m % 2 ^ 32)
    | none => columnValue d tile.2 ws n xs ((sx[m]?).getD [])))

/-- A scaled value x̂ or ŵ. -/
def hat (sc : Nat) (v : FV) : FV := if sc = 0xFF then .nan else v.scale ((sc : Int) - 127)

/-- A comparison of R135 or R136 that fails: |a − b| > 2⁻¹⁴ × g, made only on finite operands (R137). -/
def checkFails (a b g : FV) : Bool :=
  a.isFin && b.isFin && g.isFin && (g.scale (-14)).lt (a.sub b).abs

/-- The three BF16 parts whose sum is an FP32 value: the upper, middle and lower 8 bits of its significand (R136). -/
def bfPart (i : Nat) : FV → FV
  | .fin neg m e => .fin neg (m / 2 ^ (16 - 8 * i) % 256) (e + (16 - 8 * i : Nat))
  | v => if i = 0 then v else .zero false

/-- The failed checks of an array: 1 a column check, its first m; 2 a row check, its first n (R134 to R137). Sums are
taken in FP32 in ascending order (log 25). -/
def State.checks (s : State) (g : Nat) (d : List Byte) (tile : List Byte × List Byte) (j : Nat) (y : List (List FV)) :
    List (Nat × Nat × Nat) :=
  let ws := (tileWeights d tile.1).mapIdx (fun k r => r.mapIdx (fun n v => hat (tileScale d tile.2 k n) v))
  let sx := s.actScales g d j
  let xs := (s.acts g d j).mapIdx (fun m r => r.mapIdx (fun k v => hat ((((sx[m]?).getD [])[k / 32]?).getD 127) v))
  let c := ws.map sumAsc
  let gg := ws.map (fun r => sumAsc (r.map FV.abs))
  let bigC := xs.map (fun r => sumAsc (List.zipWith f32mul r c))
  let bigG := xs.map (fun r => sumAsc (List.zipWith (fun a b => f32mul a.abs b) r gg))
  let ySum := y.map sumAsc
  let colBad := (List.range (mmM d)).find? (fun m =>
    checkFails ((bigC[m]?).getD .nan) ((ySum[m]?).getD .nan) ((bigG[m]?).getD .nan))
  let xh := (List.range (mmKt d)).map (fun k => sumAsc (xs.map (fun r => (r[k]?).getD .nan)))
  let gSum := sumAsc bigG
  let rowBad := (List.range 128).find? (fun n =>
    let pass (i : Nat) := sumAsc (List.zipWith (fun x r => f32mul (bfPart i x) ((r[n]?).getD .nan)) xh ws)
    checkFails (sumAsc (y.map (fun r => (r[n]?).getD .nan))) (f32add (f32add (pass 0) (pass 1)) (pass 2)) gSum)
  (match colBad with | some m => [(j, 1, m)] | none => []) ++ (match rowBad with | some n => [(j, 2, n)] | none => [])
where
  /-- FP32 values added in ascending order. -/
  sumAsc : List FV → FV
    | [] => .zero false
    | x :: r => r.foldl f32add x

/-- Byte ranges an MMUL reads: the tile and its scales unless KEEPW, the activations and their scales. -/
def mmReads (d : List Byte) : List (Nat × Nat) :=
  (if (mmFlags d).testBit 4 then [] else [(mmW d, 128 * mmLw d)] ++ (if isMx (mmWf d) then [(mmWs d, mmSw d)] else [])) ++
  (mmArrays d).flatMap (fun j => [(mmA d + j * mmAStr d, (mmM d + 127) * mmLa d)] ++
    (if isMx (mmAf d) then [(mmXs d + j * mmXsStr d, mmSx d)] else []))

/-- MMUL: the oldest waiting operation of the matrix engine starts its weight load; its phases follow Table 04-6. It
computes from the tile it loads, or from the active buffer under KEEPW, and from the activations (log 26). -/
def execMmul (g : Fin 216) (s : State) : Host.Outcome State Fault Refusal :=
  .next (
    let h := s.hearth g
    match s.partOf (g / 18), (h.ops 0).span (fun o => o.started) with
    | some n, (before, o :: rest) =>
      let d := o.desc
      let keep := (mmFlags d).testBit 4
      let a := (mmArrays d).length
      let lload := ceilDiv (128 * mmLw d + mmSw d + (if isMx (mmAf d) then a * mmSx d else 0)) 256
      let start := if keep then o.issued + 2 else max (o.issued + 2) (max h.mm.load h.mm.comp)
      let loadEnd := if keep then start else start + lload
      let comp := max loadEnd h.mm.stream
      let stream := comp + mmC d * mmM d + 6
      let done := stream + 268
      let wb := (mmFlags d).testBit 1
      let wb0 := max done (if mmHalf d = 0 then h.mm.wb0 else h.mm.wb1)
      let wbE := if wb then wb0 + ceilDiv (a * mmM d * (if (mmFlags d).testBit 2 then 256 else 512)) 512 else done
      let tile := if keep then h.tile else (s.hread g (mmW d) (128 * mmLw d), s.hread g (mmWs d) (mmSw d))
      let ys := (mmArrays d).map (fun j => (j, s.yOp g d tile j))
      let failed := ys.flatMap (fun x => s.checks g d tile x.1 x.2)
      let res : Result := { yop := ys.map (fun x => (x.1, x.2.map (fun r => r.map f32c))), failed := failed, wbEnd := wbE }
      let o1 : Op := { o with started := true, start := start, busyEnd := stream, done := done, sumAt := done, res := res }
      let half := mmHalf d
      let mm : MmTimes := ⟨loadEnd, comp, stream, (if half = 0 ∧ wb then wbE else h.mm.wb0), (if half = 1 ∧ wb then wbE else h.mm.wb1)⟩
      (s.hreadCheck n g 0xE404 (mmReads d)).onHearth g (fun h =>
        { (h.setOps 0 (before ++ o1 :: rest)).count 8 (stream - start) with mm := mm, tile := tile, busy := h.busy.put 0 stream })
    | _, _ => s)

/-- The key of an accumulator entry. -/
def accKey (j half row col : Nat) : Nat := (2 * j + half) * 32768 + row * 128 + col

/-- A row of an accumulator half. -/
def Hearth.accRow (h : Hearth) (j half m : Nat) : List Nat := (List.range 128).map (fun n => h.acc.getD (accKey j half m n) 0)

/-- A row of an accumulator half replaced. -/
def Hearth.setAccRow (h : Hearth) (j half m : Nat) (r : List Nat) : Hearth :=
  { h with acc := (r.zipIdx).foldl (fun t x => t.put (accKey j half m x.2) x.1) h.acc,
           badAcc := h.badAcc.filter (fun b => b != (j, half, m)) }

/-- The operation's contribution reaches the accumulator (R126, R131). -/
def Hearth.accumulate (h : Hearth) (d : List Byte) (yop : List (Nat × List (List Nat))) : Hearth :=
  yop.foldl (fun h x => (x.2.zipIdx).foldl (fun h r =>
    let old := h.accRow x.1 (mmHalf d) r.2
    h.setAccRow x.1 (mmHalf d) r.2
      (if (mmFlags d).testBit 0 then List.zipWith (fun a b => f32c ((f32v a).add (f32v b))) old r.1 else r.1)) h) h

/-- The bytes of the write-back of rows 0 to M − 1 of a half (R126, Table 04-4). -/
def Hearth.writeBack (h : Hearth) (d : List Byte) : List (Nat × List Byte) :=
  let bf := (mmFlags d).testBit 2
  (mmArrays d).flatMap (fun j => (List.range (mmM d)).map (fun m =>
    let row := h.accRow j (mmHalf d) m
    if bf then (mmO d + j * mmOStr d + m * 256, packCodes 16 (row.map (fun c => fmtBF16.encode .nearest .inf (f32v c))))
    else (mmO d + j * mmOStr d + m * 512, packCodes 32 row)))

/-- MMUL_COMPLETE: at the end of the drain the outputs are in the accumulator, the checksums are judged and the summary
is written (R129, R133, R138); an uncorrectable accumulator row discards the attempt (Table 04-10). -/
def execMmulComplete (g : Fin 216) (s : State) : Host.Outcome State Fault Refusal :=
  .next (
    let h := s.hearth g
    match s.partOf (g / 18), s.logical g, (h.ops 0).span (fun o => o.complete) with
    | some n, some l, (before, o :: rest) =>
      if !o.started then s else
      let d := o.desc
      let half := mmHalf d
      let readBad := (mmFlags d).testBit 0 && (mmArrays d).any (fun j => h.badAcc.any (fun b => b.1 == j && b.2.1 == half && decide (b.2.2 < mmM d)))
      let h1 := h.accumulate d o.res.yop
      let vals := (mmArrays d).flatMap (fun j => (List.range (mmM d)).flatMap (fun m => (h1.accRow j half m).map f32v))
      let sum := countSummary vals
      let nan := nanWhere (vals.any FV.isNan) false false d sum
      let wb := (mmFlags d).testBit 1
      let o1 : Op := { o with complete := true, res := { o.res with sum := sum, nan := nan, writes := if wb then h1.writeBack d else [] } }
      let h2 := ({ h1.setOps 0 (if wb then before ++ o1 :: rest else before ++ rest) with
        mism := h1.mism ++ o.res.failed.filter (fun (f : Nat × Nat × Nat) => !h1.mism.any (fun m => m.1 == f.1)) }).writeSummary o1
      let s1 := (s.setHearth g h2).opNan n l g 0 o1
      let s2 := if readBad then (s1.onPart n (fun p => { p with ueDiscard := true })).raise 0xE404 (scopeP n) else s1
      s2.resumeCore n l g o.done
    | _, _, _ => s)

/-- MMUL_WRITEBACK_END: the output rows are in the hearth store (R126, R129). -/
def execMmulWritebackEnd (g : Fin 216) (s : State) : Host.Outcome State Fault Refusal :=
  .next (
    match s.partOf (g / 18), s.logical g, (s.hearth g).ops 0 with
    | some n, some l, o :: rest =>
      if !o.complete then s else
      ((s.hwrites g o.res.writes).onHearth g (fun h => h.setOps 0 rest)).resumeCore n l g o.res.wbEnd
    | _, _, _ => s)

end Sys2Proof.Machine
end

