-- ==== Sys2Proof/Machine/Reduce.lean ====
section
/-!
DEFINITION. The reduction unit (R157 to R162, Table 05-5).
-/
namespace Sys2Proof.Machine

/-- AXIS of CTRL: each row is one line. -/
def rdAxis (d : List Byte) : Bool := (dCtrl d).testBit 0
/-- POST of CTRL. -/
def rdPost (d : List Byte) : Nat := dCtrl d / 2 % 4

/-- The FP32 values of the lines an operation reduces (R157). -/
def State.lines (s : State) (g : Nat) (d : List Byte) : List (List FV) :=
  let rows := (List.range (dRows d)).map (fun r => s.hvals g (dA d + r * dAStr d) (dSrc d) (dCount d))
  if rdAxis d then rows
  else (List.range (dCount d)).map (fun c => rows.map (fun r => (r[c]?).getD (.zero false)))

/-- Neighbour pairs (2i, 2i + 1) added, one level of the tree (R159). -/
def pairSums : List FV → List FV
  | a :: b :: r => f32add a b :: pairSums r
  | l => l

/-- FP32 values added in ascending order, each addition rounded. -/
def sumAsc : List FV → FV
  | [] => .zero false
  | x :: r => r.foldl f32add x

/-- The sum of a line: 128 lanes and a seven-level tree along a row, ascending down a column (R159); a lane without
an element holds +0 (log 14). -/
def lineSum (axis : Bool) (l : List FV) : FV :=
  if axis then
    let lanes := (List.range 128).map (fun j => sumAsc ((l.zipIdx.filter (fun x => x.2 % 128 == j)).map Prod.fst))
    ((((((((pairSums lanes |> pairSums) |> pairSums) |> pairSums) |> pairSums) |> pairSums) |> pairSums).head?).getD (.zero false))
  else sumAsc l

/-- `a` ranks before `b`: a NaN above +∞, then the larger value (R160); position decides between equals. -/
def ranksBefore (a b : FV) : Bool := if b.isNan then false else a.isNan || b.lt a

/-- Elements with their positions in rank order (R160): insertion keeps the lower position first among equals. -/
def ranked (l : List FV) : List (FV × Nat) := sortBy (fun a b => !ranksBefore b.1 a.1) l.zipIdx

/-- Equal for ranking: both NaN, or equal values. -/
def rankEq (a b : FV) : Bool := !ranksBefore a b && !ranksBefore b a

/-- The transformed summary value (R162). -/
def postValue (post : Nat) (s0 s1 : Nat) (v : FV) : FV :=
  let x := (v.mul (f32v s1)).add (f32v s0)
  let y := s0 + 2 ^ 32 * s1
  if post = 1 then f32v (within2 0x2F1 (f32c v) y ((FV.ofNat 1).div x))
  else if post = 2 then f32v (within2 0x2F2 (f32c v) y (rsqrtV x))
  else v

/-- SUM, SUMSQ, MAX and MIN: `line` reduces a line, `all` the line results in ascending line order (R161). -/
def reduceOp (s : State) (g opc : Nat) (line : Bool → List FV → FV) (all : List FV → FV) : State :=
  engStart s g 2 opc (fun s n _ o _ =>
    let d := o.desc
    let ls := s.lines g d
    let rs := ls.map (line (rdAxis d))
    let v := postValue (rdPost d) (dS0 d % 2 ^ 32) (dS1 d % 2 ^ 32) (all rs)
    let sum : Summary := ⟨f32c v, fpFlags v (ls.any (fun l => l.any FV.isNan)) false⟩
    { st := s.hreadCheck n g 0xE501 (rowRanges (dA d) (dAStr d) (dRows d) (etRow (dSrc d) (dCount d))),
      res := { writes := [(dDst d, packCodes 32 (rs.map f32c))], sum := sum,
               nan := nanWhere (rs.any FV.isNan) false false d sum },
      busy := dRows d * ceilDiv (dCount d * etHalf (dSrc d)) 8192, lat := 24,
      slat := if rdPost d = 0 then 24 else 36 })

/-- The extreme of a list, a NaN when one is among them. -/
def extreme (f : FV → FV → FV) : List FV → FV
  | [] => .nan
  | x :: r => r.foldl f x

/-- REDUCE_SUM. -/
def execReduceSum (g : Fin 216) (s : State) : Host.Outcome State Fault Refusal :=
  .next (reduceOp s g 0x0201 lineSum sumAsc)

/-- SUMSQ: sums of the exact squares widened to FP32 (R159). -/
def execSumsq (g : Fin 216) (s : State) : Host.Outcome State Fault Refusal :=
  .next (reduceOp s g 0x0202 (fun ax l => lineSum ax (l.map (fun x => f32r (x.mul x)))) sumAsc)

/-- REDUCE_MAX. -/
def execReduceMax (g : Fin 216) (s : State) : Host.Outcome State Fault Refusal :=
  .next (reduceOp s g 0x0203 (fun _ l => extreme FV.max l) (extreme FV.max))

/-- REDUCE_MIN. -/
def execReduceMin (g : Fin 216) (s : State) : Host.Outcome State Fault Refusal :=
  .next (reduceOp s g 0x0204 (fun _ l => extreme FV.min l) (extreme FV.min))

/-- The index of a position: the position plus bits [31:0] of SCALAR1 (R158), in 32 bits (log 14). -/
def rdIndex (d : List Byte) (p : Nat) : Nat := (p + dS1 d) % 2 ^ 32

/-- ARGMAX (R158, R160, R161). -/
def execArgmax (g : Fin 216) (s : State) : Host.Outcome State Fault Refusal :=
  .next (engStart s g 2 0x0205 (fun s n _ o _ =>
    let d := o.desc
    let ls := s.lines g d
    let best := ls.map (fun l => ((ranked l).head?).getD (.nan, 0))
    -- the tile in row order: (value, position along its line)
    let tile : List (FV × Nat) :=
      if rdAxis d then ls.flatMap (fun l => l.zipIdx)
      else (List.range (dRows d)).flatMap (fun r => ls.map (fun l => ((l[r]?).getD .nan, r)))
    let top := tile.foldl (fun (m : Option (FV × Nat)) x => match m with
      | none => some x
      | some y => if ranksBefore x.1 y.1 then some x else some y) none
    let tv := top.getD (.nan, 0)
    let tie := decide (1 < (tile.filter (fun x => rankEq x.1 tv.1)).length)
    let anyNan := tile.any (fun x => x.1.isNan)
    let v := rdIndex d tv.2
    let sum : Summary := ⟨v, sumFlags (v == 0) false anyNan false tie⟩
    { st := s.hreadCheck n g 0xE501 (rowRanges (dA d) (dAStr d) (dRows d) (etRow (dSrc d) (dCount d))),
      res := { writes := [(dDst d, packCodes 32 (best.map (fun x => rdIndex d x.2))), (dX d, packCodes 32 (best.map (fun x => f32c x.1)))],
               sum := sum, nan := nanWhere false (best.any (fun x => x.1.isNan)) false d sum },
      busy := dRows d * ceilDiv (dCount d * etHalf (dSrc d)) 8192, lat := 24 }))

/-- Bytes of a line of TOPK results: L_k (R158). -/
def topkLine (k : Nat) : Nat := 64 * ceilDiv (4 * k) 64

/-- TOPK (R158, R160, R161). -/
def execTopk (g : Fin 216) (s : State) : Host.Outcome State Fault Refusal :=
  .next (engStart s g 2 0x0206 (fun s n _ o _ =>
    let d := o.desc
    let k := dArg d
    let ls := s.lines g d
    let tops := ls.map (fun l => (ranked l).take k)
    let l0 := (ls.head?).getD []
    let vk := ((((tops.head?).getD [])[k - 1]?).getD (.nan, 0)).1
    let tie := decide (1 < (l0.filter (fun x => rankEq x vk)).length)
    let sum : Summary := ⟨f32c vk, fpFlags vk (ls.any (fun l => l.any FV.isNan)) tie⟩
    let vals := tops.mapIdx (fun l t => (dDst d + l * topkLine k, packCodes 32 (t.map (fun x => f32c x.1))))
    let idxs := tops.mapIdx (fun l t => (dX d + l * topkLine k, packCodes 32 (t.map (fun x => rdIndex d x.2))))
    { st := s.hreadCheck n g 0xE501 (rowRanges (dA d) (dAStr d) (dRows d) (etRow (dSrc d) (dCount d))),
      res := { writes := vals ++ idxs, sum := sum,
               nan := nanWhere (tops.any (fun t => t.any (fun x => x.1.isNan))) false false d sum },
      busy := dRows d * ceilDiv (dCount d * etHalf (dSrc d)) 4096, lat := 40 + 2 * k }))

end Sys2Proof.Machine
end

