-- ==== Sys2Proof/Machine/Attention.lean ====
section
/-!
DEFINITION. The attention pipeline and the evidence tap (R203 to R223, Tables 07-1 to 07-6).
-/
namespace Sys2Proof.Machine

/-! ATTN operands (Table 07-3) -/

/-- σ. -/
def atSigma (d : List Byte) : FV := f32v (dS0 d % 2 ^ 32)
/-- WIN. -/
def atWin (d : List Byte) : Nat := dS1 d % 2 ^ 32
/-- GROUP. -/
def atGroup (d : List Byte) : Nat := bits (dS1 d) 47 32
/-- QADDR. -/
def atQ (d : List Byte) : Nat := fld d 0x18 4
/-- KADDR. -/
def atK (d : List Byte) : Nat := fld d 0x1C 4
/-- VADDR. -/
def atV (d : List Byte) : Nat := fld d 0x20 4
/-- OADDR. -/
def atO (d : List Byte) : Nat := fld d 0x24 4
/-- SADDR. -/
def atS (d : List Byte) : Nat := fld d 0x28 4
/-- EADDR. -/
def atE (d : List Byte) : Nat := fld d 0x2C 4
/-- KPOS. -/
def atKpos (d : List Byte) : Nat := fld d 0x30 4
/-- QPOS. -/
def atQpos (d : List Byte) : Nat := fld d 0x34 4
/-- KLEN. -/
def atKlen (d : List Byte) : Nat := fld d 0x38 2
/-- KMAX. -/
def atKmax (d : List Byte) : Nat := fld d 0x3A 2
/-- HG. -/
def atHG (d : List Byte) : Nat := fld d 0x3C 1 % 16 + 1
/-- T. -/
def atT (d : List Byte) : Nat := fld d 0x3C 1 / 16
/-- Q, the query rows. -/
def atRows (d : List Byte) : Nat := atHG d * atT d
/-- WIDTH. -/
def atWidth (d : List Byte) : Nat := fld d 0x3D 1
/-- KFMT. -/
def atFmt (d : List Byte) : Nat := fld d 0x3E 1 / 16
/-- DIRECT form. -/
def atDirect (d : List Byte) : Bool := (fld d 0x3E 1).testBit 2
/-- CTRL. -/
def atCtrl (d : List Byte) : Nat := fld d 0x3F 1
/-- FIRST. -/
def atFirst (d : List Byte) : Bool := (atCtrl d).testBit 0
/-- LAST. -/
def atLast (d : List Byte) : Bool := (atCtrl d).testBit 1
/-- EVID. -/
def atEvid (d : List Byte) : Bool := (atCtrl d).testBit 2
/-- SCORES. -/
def atScores (d : List Byte) : Bool := (atCtrl d).testBit 3
/-- OUT_BF16. -/
def atOutBf (d : List Byte) : Bool := (atCtrl d).testBit 4
/-- SCORE_BF16. -/
def atScBf (d : List Byte) : Bool := (atCtrl d).testBit 5
/-- MASK. -/
def atMask (d : List Byte) : Nat := atCtrl d / 64
/-- E, the key width. -/
def atEw (d : List Byte) : Nat := if atDirect d then 64 * atWidth d else 64 * (atWidth d % 16)
/-- V, the value width. -/
def atVw (d : List Byte) : Nat := if atDirect d then 64 * atWidth d else 64 * (atWidth d / 16)

/-- Bytes of a stored part of `e` elements (Table 07-2). -/
def partBytes (fmt e : Nat) : Nat :=
  if fmt = 0x7 then 64 * ceilDiv (2 * e) 64 else if fmt = 0x3 then 64 * ceilDiv (33 * e) 2048 else 64 * ceilDiv e 64

/-- R_q. -/
def atRq (d : List Byte) : Nat := 64 * ceilDiv (2 * atEw d) 64
/-- R_k. -/
def atRk (d : List Byte) : Nat := partBytes (atFmt d) (atEw d)
/-- R_v. -/
def atRv (d : List Byte) : Nat := partBytes (atFmt d) (atVw d)
/-- R_r, the row stride of stored keys. -/
def atRr (d : List Byte) : Nat := if atDirect d then atRk d else atRk d + atRv d
/-- R_o. -/
def atRo (d : List Byte) : Nat := 64 * ceilDiv ((if atOutBf d then 2 else 4) * atVw d) 64
/-- Bytes of one score. -/
def atSo (d : List Byte) : Nat := if atScBf d then 2 else 4
/-- R_s. -/
def atRs (d : List Byte) : Nat := 64 * ceilDiv (atSo d * atKmax d) 64

/-- The values of a stored part: subnormals read as zeros, MXFP8 elements scaled exactly (R206, R207). -/
def partValues (fmt e : Nat) (b : List Byte) : List FV :=
  let cs := codesOf (etBits fmt) e b
  if fmt = 0x3 then cs.mapIdx (fun i c => hat (fld b (e + i / 32) 1) (arrayValue fmt c)) else cs.map (arrayValue fmt)

/-- Key row j of an operation. -/
def State.keyRow (s : State) (g : Nat) (d : List Byte) (j : Nat) : List FV :=
  partValues (atFmt d) (atEw d) (s.hread g (atK d + j * atRr d) (atRk d))

/-- Value row j of an operation (Table 07-1). -/
def State.valueRow (s : State) (g : Nat) (d : List Byte) (j : Nat) : List FV :=
  if atDirect d then partValues (atFmt d) (atVw d) (s.hread g (atV d + j * atRv d) (atRv d))
  else partValues (atFmt d) (atVw d) (s.hread g (atK d + j * atRr d + atRk d) (atRv d))

/-- Key j is included for position index t (Table 07-4). -/
def atIncluded (d : List Byte) (t j : Nat) : Bool :=
  let p := atQpos d + t
  let k := atKpos d + j
  decide (j < atKlen d) &&
  (atMask d == 0 || (decide (k ≤ p) && (atMask d != 2 || decide (p < k + atWin d))))

/-- The dot product: exact blocks of 32 elements added to an FP32 running value (R213). -/
def atDot (q k : List FV) : FV :=
  (List.range (q.length / 32)).foldl (fun acc b =>
    f32add acc (blockSum 127 127 ((q.drop (32 * b)).take 32) ((k.drop (32 * b)).take 32))) (.zero false)

/-- The score of a key for a query row (R213). -/
def atScore (d : List Byte) (slopes : List Nat) (i j : Nat) (q k : List FV) : FV :=
  let x := f32mul (atSigma d) (atDot q k)
  if atDirect d then x
  else
    let p := atQpos d + i / atHG d
    let dist := ((p : Int) - ((atKpos d + j : Nat) : Int)).natAbs
    f32r (x.sub (f32mul (f32v ((slopes[i % atHG d]?).getD 0)) (FV.ofNat dist)))

/-- exp within its accuracy (R214). -/
def atExp (x : FV) : FV := transcF 0x601 (f32r x)
where
  /-- exp of an FP32 value, within 2 units in the last place. -/
  transcF (op : Nat) (x : FV) : FV := f32v (within2 op (f32c x) 0 (expV x))

/-- recip within its accuracy (R214). -/
def atRecip (x : FV) : FV := f32v (within2 0x602 (f32c x) 0 ((FV.ofNat 1).div x))

/-- One block of 32 keys for a query row: `ks` lists the included keys' scores and values in ascending j, scores of
−∞ left out (R214, R215). Each sum is formed first and then added (log 27). -/
def QRow.block (r : QRow) (ks : List (FV × List FV)) : QRow :=
  if ks.isEmpty then r
  else if r.bad || ks.any (fun x => x.1.isNan || x.1.isInf || x.2.any (fun v => !v.isFin)) then { r with bad := true, any := true }
  else
    let m := f32v r.m
    let mb := ks.foldl (fun a x => a.max x.1) (.inf true)
    let mn := m.max mb
    let c := if m.isInf then .zero false else atExp (m.sub mn)
    let es := ks.map (fun x => (atExp (x.1.sub mn), x.2))
    let l := f32add (f32mul (f32v r.l) c) (sumAsc (es.map Prod.fst))
    let a := r.a.mapIdx (fun i x =>
      let prods := es.map (fun e => e.1.mul ((e.2[i]?).getD (.zero false)))
      let sm := match prods with | [] => FV.zero false | p :: rest => rest.foldl f32add p
      f32c (f32add (f32mul (f32v x) c) sm))
    { r with m := f32c mn, l := f32c l, a := a, any := true }

/-- A candidate reaches the tap (R219): the 8 with the largest rank keys are kept, the lower position first. -/
def Tap.add (t : Tap) (c : Cand) : Tap :=
  let before (a b : Cand) : Bool := (f32v b.rank).lt (f32v a.rank) || ((f32v a.rank).eqv (f32v b.rank) && decide (a.pos < b.pos))
  let l := insertBy (fun a b => before a b) c t.kept
  let out := (l.drop 8).map Cand.rank
  let ninth := out.foldl (fun (m : Option Nat) r => match m with
    | none => some r
    | some x => if (f32v x).lt (f32v r) then some r else some x) t.ninth
  { t with kept := l.take 8, seen := t.seen + 1, ninth := ninth }

/-- Key j of an operation reaches the tap of position index t (R219). -/
def Tap.key (t : Tap) (pos : Nat) (scores : List FV) : Tap :=
  if scores.any FV.isNan then { t with nan := true }
  else if scores.any FV.isInf then t
  else t.add ⟨pos, f32c (sumAsc scores), scores.map f32c⟩

/-- The tie of a record: a ninth candidate had the rank key of the eighth (Table 07-6). -/
def Tap.tie (t : Tap) : Bool :=
  match t.kept[7]?, t.ninth with
  | some c, some r => (f32v c.rank).eqv (f32v r)
  | _, _ => false

/-- The weight of a kept candidate (R220). -/
def candWeight (hg : Nat) (rows : List QRow) (c : Cand) : Nat :=
  let ws := (List.zip c.scores rows).map (fun x => f32mul (atExp ((f32v x.1).sub (f32v x.2.m))) (atRecip (f32v x.2.l)))
  f32c (f32mul (f32r ((FV.ofNat 1).div (FV.ofNat hg))) (sumAsc ws))

/-- An evidence record (Table 07-6). -/
def evidenceRecord (d : List Byte) (t : Nat) (tap : Tap) (rows : List QRow) : List Byte :=
  let k := tap.kept
  let padL (l : List Nat) (v : Nat) : List Byte := (l ++ List.replicate (8 - l.length) v).flatMap (leBytes 4)
  let flags := (if tap.nan then 1 else 0) + (if tap.tie then 2 else 0) + (if k.isEmpty then 4 else 0)
  leBytes 2 (atGroup d) ++ leBytes 1 t ++ leBytes 1 k.length ++ leBytes 1 flags ++ leBytes 1 (atHG d) ++ zeros 2 ++
  leBytes 4 (atQpos d + t) ++ leBytes 4 tap.seen ++ padL (k.map Cand.pos) 0xFFFFFFFF ++
  padL (k.map (candWeight (atHG d) rows)) 0 ++ padL (k.map Cand.rank) 0xFF800000 ++ zeros 16

/-- The chain state at the start of an operation: fresh under FIRST (R210). -/
def State.openChain (s : State) (g : Nat) (d : List Byte) : Chain :=
  if atFirst d then
    { desc := d, slopes := if atDirect d then [] else (List.range 16).map (fun h => fld (s.hread g (atV d + 4 * h) 4) 0 4),
      rows := (List.range (atRows d)).map (fun i =>
        { q := codesOf 16 (atEw d) (s.hread g (atQ d + i * atRq d) (2 * atEw d)), a := List.replicate (atVw d) 0 }),
      taps := List.replicate (atT d) {} }
  else ((s.hearth g).chain).getD {}

/-- The scores of every key present, by query row (R213). -/
def State.scoreRows (s : State) (g : Nat) (d : List Byte) (c : Chain) : List (List FV) :=
  let keys := (List.range (atKlen d)).map (s.keyRow g d)
  c.rows.mapIdx (fun i r =>
    let q := r.q.map (arrayValue 0x7)
    keys.mapIdx (fun j k => atScore d c.slopes i j q k))

/-- The chain after an operation's keys (R214, R219). -/
def Chain.advance (c : Chain) (d : List Byte) (sc : List (List FV)) (vals : List (List FV)) : Chain :=
  let rows := c.rows.mapIdx (fun i r =>
    let mine := (sc[i]?).getD []
    (List.range (ceilDiv (atKlen d) 32)).foldl (fun r b =>
      r.block ((((List.range 32).map (fun x => 32 * b + x)).filter (fun j => atIncluded d (i / atHG d) j)).filterMap (fun j =>
        match (mine[j]?).getD .nan with
        | .inf true => none
        | v => some (v, (vals[j]?).getD [])))) r)
  let taps := c.taps.mapIdx (fun t tap =>
    if atEvid d then ((List.range (atKlen d)).filter (fun j => atIncluded d t j)).foldl (fun tap j =>
      tap.key (atKpos d + j) ((List.range (atHG d)).map (fun h => (((sc[t * atHG d + h]?).getD [])[j]?).getD .nan))) tap
    else tap)
  { c with desc := d, rows := rows, taps := taps, nextKpos := atKpos d + atKlen d }

/-- The output row of a query row, as FP32 values (R214, R215). -/
def QRow.output (r : QRow) : List FV :=
  if r.bad then r.a.map (fun _ => FV.nan)
  else if !r.any then r.a.map (fun _ => FV.zero false)
  else r.a.map (fun x => f32mul (f32v x) (atRecip (f32v r.l)))

/-- The score matrix of an operation as written (R218). -/
def scoreWrites (d : List Byte) (sc : List (List FV)) : List (Nat × List Byte) :=
  sc.mapIdx (fun i row => (atS d + i * atRs d,
    packCodes (8 * atSo d) ((List.range (atKmax d)).map (fun j =>
      let v := if atIncluded d (i / atHG d) j then (row[j]?).getD .nan else .inf true
      if atScBf d then fmtBF16.encode .nearest .inf v else f32c v))))

/-- Bytes an operation reads. -/
def atReads (d : List Byte) : List (Nat × Nat) :=
  (if atFirst d then [(atQ d, atRows d * atRq d)] ++ (if atDirect d then [] else [(atV d, 64)]) else []) ++
  [(atK d, atKlen d * atRr d)] ++ (if atDirect d then [(atV d, atKlen d * atRv d)] else [])

/-- Busy cycles (R216, Table 07-5). -/
def atBusy (d : List Byte) : Nat :=
  let brow := atRk d + atRv d + (if atScores d then atRows d * atSo d else 0)
  let crow := max (ceilDiv (atRows d) 16 * ceilDiv (max (atEw d) (atVw d)) 256) (ceilDiv brow 512)
  (if atFirst d then ceilDiv (atRows d * atRq d) 512 + (if atDirect d then 0 else 1) else 0) + atKmax d * crow +
  (if atLast d then ceilDiv (atRows d * atRo d) 512 + (if atEvid d then ceilDiv (128 * atT d) 512 else 0) else 0)

/-- ATTN: one operation of a chain (R210 to R221); its busy time and completion follow R216. -/
def execAttn (g : Fin 216) (s : State) : Host.Outcome State Fault Refusal :=
  .next (engStart s g 6 0x0601 (fun s n _ o _ =>
    let d := o.desc
    let c0 := s.openChain g d
    let sc := s.scoreRows g d c0
    let c1 := c0.advance d sc ((List.range (atKlen d)).map (s.valueRow g d))
    let outs := c1.rows.map QRow.output
    let t := if atOutBf d then 0x7 else 0x9
    let codes := outs.map (fun r => r.map ((etFmt t).encode .nearest .inf))
    let vals := codes.map (fun r => r.map (etValue t))
    let last := atLast d
    let nanRows := (vals.filter (fun r => r.any FV.isNan)).length
    let sum : Summary := if last then ⟨nanRows, sumFlags (nanRows == 0) false (nanRows != 0) false (atEvid d && c1.taps.any Tap.tie)⟩
      else ⟨0, sumFlags true false false false false⟩
    let scw := if atScores d then scoreWrites d sc else []
    let scNan := atScores d && (sc.mapIdx (fun i row => (row.zipIdx).any (fun x => x.1.isNan && atIncluded d (i / atHG d) x.2))).any id
    let recs := if last && atEvid d then c1.taps.mapIdx (fun t tap =>
      (atE d + 128 * t, evidenceRecord d t tap ((c1.rows.drop (t * atHG d)).take (atHG d)))) else []
    let ow := if last then codes.mapIdx (fun i r => (atO d + i * atRo d, packCodes (etBits t) r)) else []
    { st := (s.hreadCheck n g 0xE701 (atReads d)).onHearth g (fun h => { h with chain := if last then none else some c1 }),
      res := { writes := scw ++ ow ++ recs, sum := sum, nan := nanWhere (last && nanRows != 0) scNan false d sum,
               emptyRows := if last then (c1.rows.filter (fun r => !r.any)).length else 0,
               evidence := recs.length, scoreOps := if atScores d then 1 else 0 },
      busy := atBusy d, lat := 40 }))

/-- ATTN_COMPLETE: outputs, scores and records are written and the summary is valid (R216, R220, R223). -/
def execAttnComplete (g : Fin 216) (s : State) : Host.Outcome State Fault Refusal :=
  .next (
    match s.oldest g 6 with
    | none => s
    | some (n, l, o) =>
      let s1 := ((s.onHearth g (fun h => h.popOp 6)).hwrites g o.res.writes).onPart n (fun p =>
        { p with emptyRows := p.emptyRows + o.res.emptyRows, evidence := p.evidence + o.res.evidence,
                 scoreOps := p.scoreOps + o.res.scoreOps })
      ((s1.onHearth g (fun h => h.writeSummary o)).opNan n l g 6 o).resumeCore n l g o.done)

end Sys2Proof.Machine
end

