-- ==== Sys2Proof/Machine/Triggers.lean ====
section
/-!
DEFINITION. Triggered operations (R434 to R438) and the end of a collective command (R445).
-/
namespace Sys2Proof.Machine

/-! Armed operations (Table 15-8) -/

/-- TYPE. -/
def aoType (b : List Byte) : Nat := fld b 0 1
/-- NOTIFY. -/
def aoNotify (b : List Byte) : Bool := (fld b 1 1).testBit 1
/-- TAG. -/
def aoTag (b : List Byte) : Nat := fld b 2 2
/-- COUNTER. -/
def aoCounter (b : List Byte) : Nat := fld b 4 2
/-- LCOUNTER. -/
def aoLcounter (b : List Byte) : Nat := fld b 6 2
/-- THRESHOLD. -/
def aoThreshold (b : List Byte) : Nat := fld b 8 4
/-- RCOUNTER. -/
def aoRcounter (b : List Byte) : Nat := fld b 0x0C 2
/-- WINDOW. -/
def aoWindow (b : List Byte) : Nat := fld b 0x0E 2
/-- LTADDR. -/
def aoLtaddr (b : List Byte) : Nat := fld b 0x10 8
/-- ROFF. -/
def aoRoff (b : List Byte) : Nat := fld b 0x18 8
/-- LENGTH. -/
def aoLength (b : List Byte) : Nat := fld b 0x20 4
/-- ADDV. -/
def aoAddv (b : List Byte) : Nat := fld b 0x24 4

/-- The bytes of an armed operation that a device builds for a group. -/
def mkOp (ty : Nat) (notify : Bool) (tag ctr lctr thr rctr win lt ro len addv : Nat) : List Byte :=
  leBytes 1 ty ++ leBytes 1 (1 + if notify then 2 else 0) ++ leBytes 2 tag ++ leBytes 2 ctr ++ leBytes 2 lctr ++ leBytes 4 thr ++
  leBytes 2 rctr ++ leBytes 2 win ++ leBytes 8 lt ++ leBytes 8 ro ++ leBytes 4 len ++ leBytes 4 addv ++ zeros 24

/-- Counters and armed operations of an owner: a job slot 0 to 7, or 0x40 + a group record. -/
def State.trigOf (s : State) (n o : Nat) : Trig := s.trigs.getD (n * 256 + o) {}
/-- Changes the counters and armed operations of an owner. -/
def State.onTrig (s : State) (n o : Nat) (f : Trig → Trig) : State := { s with trigs := s.trigs.put (n * 256 + o) (f (s.trigOf n o)) }

/-- A group record. -/
def State.group (s : State) (n g : Nat) : Group := s.groups.getD (n * 64 + g) {}
/-- Changes a group record. -/
def State.onGroup (s : State) (n g : Nat) (f : Group → Group) : State := { s with groups := s.groups.put (n * 64 + g) (f (s.group n g)) }
/-- The slot records of a group. -/
def Group.slotRecs (g : Group) : List Nat := (pieces g.slots 8 (g.slots.length / 8)).map leNat
/-- ENABLE of a group record. -/
def Group.enabled (g : Group) : Bool := (fld g.bytes 3 1).testBit 0

/-- The slot records an owner's operations use. -/
def State.ownerSlots (s : State) (n o : Nat) : List Nat :=
  if o < 8 then cdFabric (s.job n o).img else (s.group n (o - 0x40)).slotRecs

/-- The slice of a job slot runs: a job's operations fire (R438). -/
def State.sliceRuns (s : State) (n j : Nat) : Bool :=
  s.num (E.ACTIVE_SLOT n) != 0xFF && (s.part n).phase != .idle && (s.slotsOfJob n (s.num (E.ACTIVE_SLOT n))).contains j

/-! The completion ring of a group (R445) -/

/-- Free bytes of a group's completion ring: its header's HEAD and TAIL are those of R362. -/
def State.cmplFree (s : State) (n g : Nat) : Nat :=
  let r := fld (s.group n g).bytes 0x0C 2
  s.auditBody n r - (leNat (s.readRegion n r 8 8) - leNat (s.readRegion n r 0 8))

/-- The command of a group ends with a status: its record is written, TAIL last; the counters give back what it used, and a
drop is counted once (R445, R446). -/
def State.groupEnd (s : State) (n g status : Nat) : State :=
  let x := s.group n g
  match x.cmd with
  | none => s
  | some c =>
    let r := fld x.bytes 0x0C 2
    let tail := leNat (s.readRegion n r 8 8)
    let size := s.auditBody n r
    let b := bytesAt c 0x38 8 ++ leBytes 1 status ++ bytesAt c 0 1 ++ zeros 2 ++ leBytes 4 x.dropped ++ leBytes 8 (micro s.now) ++ zeros 8
    let s1 := (s.writeRegion n r (4096 + tail % size) b).writeRegion n r 8 (leBytes 8 (tail + 32))
    let t := s.trigOf n (0x40 + g)
    let used (ctr : Nat) : Nat := (t.ops.filter (fun o => aoCounter o == ctr)).foldl (fun m o => max m (aoThreshold o)) 0
    let s2 := s1.onTrig n (0x40 + g) (fun t => { t with ops := [], fired := [], ctrs := t.ctrs.mapV (fun k v => v - used k) })
    let s3 := s2.onGroup n g (fun x => { x with cmd := none, dropped := 0 })
    if x.dropped = 0 then s3 else s3.raise 0xEF08 (scopeP n)

/-- Every other member's barrier token of the running command is held (R427, R444). -/
def Group.tokensHeld (g : Group) (seq : Nat) : Bool :=
  (List.range (fld g.bytes 4 2)).all (fun m => m == fld g.bytes 6 2 || g.tokens.contains (seq, m))

/-- A command whose operations are all complete ends OK; a barrier once every token is held. -/
def State.groupCheck (s : State) (n g : Nat) : State :=
  match (s.group n g).cmd with
  | none => s
  | some c =>
    let t := s.trigOf n (0x40 + g)
    let seq := fld c 0x38 8
    if (List.range t.ops.length).all (fun i => t.fired.getD i 0 == 2) && (fld c 0 1 != 5 || (s.group n g).tokensHeld seq) then
      (s.onGroup n g (fun x => { x with tokens := x.tokens.filter (fun k => k.1 != seq) })).groupEnd n g 0
    else s

/-! Firing and completion -/

/-- An operation fails (R436); the command of a group ends with a status of R445. -/
def State.opFail (s : State) (n o i status : Nat) : State :=
  if (s.trigOf n o).fired.getD i 0 != 1 then s else
  let s1 := ((s.onTrig n o (fun t => { t with fired := t.fired.put i 3 })).bump (E.OP_FAILS n)).raise 0xEF06 (scopeP n)
  if o < 0x40 then s1 else s1.groupEnd n (o - 0x40) status

/-- KIND of the message that carries an operation. -/
def aoKind (ty : Nat) : Nat :=
  match ty with
  | 1 => 0x01 | 2 => 0x02 | 3 => 0x04 | 4 => 0x05 | _ => 0x06

/-- The bytes an operation sends: the range at LTADDR, which lies in one USER or STAGE region (R429); a value with bit 63 set
is a count the device itself puts (R446). -/
def State.aoRead (s : State) (n o : Nat) (b : List Byte) : State × Option (List Byte) :=
  if 0x40 ≤ o ∧ 2 ^ 63 ≤ aoLtaddr b then (s, some (leBytes (aoLength b) (aoLtaddr b % 2 ^ 63)))
  else match s.rangeRegion n (aoLtaddr b) (aoLength b) with
    | none => (s, none)
    | some r => if rgClass (s.region n r) = 0 ∨ rgClass (s.region n r) = 6 then s.nicRead n (aoLtaddr b) (aoLength b) else (s, none)

/-- An operation fires (R436): LOCAL_ADD raises its LCOUNTER by ADDV and is complete; the others send their message. -/
def State.fireOp (raise : State → Nat → Nat → State) (s : State) (n o i : Nat) : State :=
  let b := ((s.trigOf n o).ops[i]?).getD []
  let s1 := s.onTrig n o (fun t => { t with fired := t.fired.put i 1 })
  if aoType b = 6 then
    let s2 := s1.onTrig n o (fun t => { t with fired := t.fired.put i 2 })
    if aoLcounter b = 0xFFFF then s2 else raise s2 (aoLcounter b) (aoAddv b)
  else
    let w := s.window n (aoWindow b)
    if !wnValid w || decide (wnLen w < aoRoff b + aoLength b) then s1.opFail n o i 2 else
    let m : Msg := { path := wnPath w, part := n, tag := aoTag b, msgid := 0, kind := aoKind (aoType b), notify := aoNotify b,
                     rcounter := aoRcounter b, rkey := wnRkey w, dest := wnEnd w, roff := aoRoff b, len := aoLength b, addv := aoAddv b,
                     aux := if aoType b = 2 then aoLtaddr b else 0 }
    if aoType b = 1 ∨ aoType b = 3 ∨ aoType b = 4 then
      match s1.aoRead n o b with
      | (s2, none) => s2.opFail n o i 2
      | (s2, some d) => s2.send (s2.ownerSlots n o) { m with data := d } (.armed o i)
    else s1.send (s1.ownerSlots n o) (if aoType b = 5 then { m with len := 0 } else m) (.armed o i)

/-- The operations of an owner that its counter fires now. -/
def State.firable (s : State) (n o c : Nat) : List Nat :=
  let t := s.trigOf n o
  (List.range t.ops.length).filter (fun i =>
    let b := (t.ops[i]?).getD []
    aoCounter b == c && decide (aoThreshold b ≤ t.ctrs.getD c 0) && t.fired.getD i 0 == 0)

/-- A counter is raised, and the operations on it are tested (R436). Operations of a job slot fire while its slice runs. The
fuel bounds the chain of LOCAL_ADDs, each of which fires once. -/
def State.raiseCtr : Nat → State → Nat → Nat → Nat → Nat → State
  | 0, s, _, _, _, _ => s
  | f + 1, s, n, o, c, d =>
    let s1 := s.onTrig n o (fun t => { t with ctrs := t.ctrs.put c (addU32 o (t.ctrs.getD c 0) d) })
    if o < 8 ∧ s1.sliceRuns n o = false then s1 else
    forAll (s1.firable n o c) (fun i s => if i < (s.trigOf n o).ops.length ∧ (s.trigOf n o).fired.getD i 0 = 0 then s.fireOp (fun s c d => State.raiseCtr f s n o c d) n o i else s) s1

/-- A counter of an owner is raised; 0x80 names the armed turn (R430, R437). -/
def State.raiseCounter (s : State) (n o c d : Nat) : State :=
  if o = 0x80 then s.turnRaise n c d else
  let s1 := State.raiseCtr 16385 s n o c d
  if o < 0x40 then s1 else s1.groupCheck n (o - 0x40)

/-- An operation is complete: its LCOUNTER rises by 1 (R436). -/
def State.opDone (s : State) (n o i : Nat) : State :=
  if (s.trigOf n o).fired.getD i 0 != 1 then s else
  let b := ((s.trigOf n o).ops[i]?).getD []
  let s1 := s.onTrig n o (fun t => { t with fired := t.fired.put i 2 })
  let s2 := if aoLcounter b = 0xFFFF then s1 else s1.raiseCounter n o (aoLcounter b) 1
  if o < 0x40 then s2 else s2.groupCheck n (o - 0x40)

/-- A start barrier of a job: its counters return to 0 and its operations re-arm (R438). -/
def State.rearm (s : State) (n j : Nat) : State :=
  s.onTrig n j (fun t => { t with ctrs := [], fired := [] })

/-! Trigger rings (R437) -/

/-- The trigger ring of a job slot: region, slots, offset. -/
def State.trigRing (s : State) (n j : Nat) : Nat × Nat × Nat :=
  let b := bytesAt (s.blob (E.TRIG_RING n)) (16 * j) 16
  (fld b 0 2, 2 ^ fld b 2 1, fld b 8 8)

/-- The ring is usable: its LOG2 is legal and its bytes lie in a STAGE region. -/
def State.trigRingOk (s : State) (n j : Nat) : Bool :=
  let x := s.trigRing n j
  let l := fld (s.blob (E.TRIG_RING n)) (16 * j + 2) 1
  decide (4 ≤ l) && decide (l ≤ 12) && rgClass (s.region n x.1) == 6 && decide (x.2.2 + 64 * x.2.1 ≤ rgLen (s.region n x.1))

/-- The record in the slot of the next SEQ, when its stamp is that or a later one (R83, R84); a slot of zeros holds none
(log 174). -/
def State.trigNext (s : State) (n j : Nat) : Option (List Byte) :=
  if !s.trigRingOk n j then none else
  let x := s.trigRing n j
  let c := (s.trigOf n j).next
  let b := s.readRegion n x.1 (x.2.2 + c % x.2.1 * 64) 64
  if !allZero b && decide (c ≤ fld b 0x38 8) then some b else none

/-- A trigger-ring record is taken (R437). -/
def State.trigTake (s : State) (n j : Nat) (b : List Byte) : State :=
  let seq := fld b 0x38 8
  let gap := (s.trigOf n j).next != seq
  let s1 := s.onTrig n j (fun t => { t with next := seq + 1 })
  let s2 := if gap then (s1.bump (E.TRIG_GAPS n)).raise 0xEF09 (scopeP n) else s1
  let t := s2.turn n
  if fld b 2 1 = 0 then s2.raiseCounter n j (fld b 0 2) (fld b 4 4)
  else if fld b 2 1 = 0x80 ∧ 1 ≤ t.st ∧ t.st ≤ 3 ∧ tpSend t.img ∧ tpLearn t.img = j then s2.raiseCounter n 0x80 (fld b 0 2) (fld b 4 4)
  else (s2.bump (E.OP_FAILS n)).raise 0xEF0B (scopeP n)

/-- TRIGGER_RING_RECORD: a NIC engine takes the next record of a job slot's ring. -/
def execTriggerRingRecord (n : Fin 12) (job : Fin 8) (t : Nat) (s : State) : Host.Outcome State Fault Refusal :=
  let s1 := s.at t
  .next (match s1.trigNext n job with
    | some b => if s1.haltedNow n then s1 else s1.trigTake n job b
    | none => s1)

/-! Arming (R438) -/

/-- The window is valid and holds the bytes. -/
def State.windowOk (s : State) (n w off len : Nat) : Bool :=
  decide (w < 4096) && wnValid (s.window n w) && decide (off + len ≤ wnLen (s.window n w))

/-- The form of an armed operation (Table 15-8). -/
def aoForm (b : List Byte) : Bool :=
  decide (1 ≤ aoType b) && decide (aoType b ≤ 6) && (fld b 1 1).testBit 0 && decide (fld b 1 1 < 4) && aoThreshold b != 0 &&
  aoLength b % 64 == 0 && allZero (bytesAt b 0x28 24) && (aoType b != 6 || (aoTag b == 0 && aoWindow b == 0))

/-- A job slot's operations are armed; TRIG_RESULT says how it went (R438). -/
def State.armOps (s : State) (n : Nat) (v : List Byte) : State :=
  let j := s.num (E.LOAD_SLOT n)
  let ops := pieces v 64 (v.length / 64)
  let img := (s.job n j).img
  let claims := cdSection img 0x0A
  let tags := (cdFabric img).map (fun r => bits r 15 0)
  let code :=
    if 7 < j ∨ img.length = 0 then 0x0304
    else if v.length % 64 != 0 || !ops.all aoForm then 0x0301
    else if Config.claim claims 6 < ops.length then 0x0302
    else if !ops.all (fun b =>
        decide (aoCounter b < Config.claim claims 5) && (aoLcounter b == 0xFFFF || decide (aoLcounter b < Config.claim claims 5)) &&
        (aoType b == 6 || (tags.contains (aoTag b) && s.windowOk n (aoWindow b) (aoRoff b) (aoLength b)))) then 0x0303
    else 0
  let s1 := s.setNum (E.TRIG_RESULT n) code
  if code = 0 then s1.onTrig n j (fun t => { t with ops := ops, ctrs := [], fired := [] }) else s1

/-- OP_TIMEOUT: a fired operation that is not complete OP_TIMEOUT_NS after it fired fails (R436). `owner` is a job slot, or
0x40 + a group record. -/
def execOpTimeout (n : Fin 12) (owner op t : Nat) (s : State) : Host.Outcome State Fault Refusal :=
  let s1 := s.at t
  let mine := s1.flights.filter (fun f => f.2.use == Use.armed owner op && f.2.part == n.val)
  .next (
    if mine.any (fun f => decide (f.2.sent + s1.num (E.OP_TIMEOUT_NS n) ≤ s1.now)) then
      { s1 with flights := s1.flights.filter (fun f => !(f.2.use == Use.armed owner op && f.2.part == n.val)) }.opFail n owner op 4
    else s1)

end Sys2Proof.Machine
end

