-- ==== Sys2Proof/Machine/TurnLogic.lean ====
section
/-!
DEFINITION. How a weight set becomes READY, and the progress of a turn (R400 to R409).
-/
namespace Sys2Proof.Machine

/-! Shards and sets -/

/-- The region of a shard of a set, and the shard's offset and bytes. -/
def State.shardPlace (s : State) (n w i : Nat) : Nat × Nat × Nat :=
  let x := s.wset n w
  let e := mfEntry x.man i
  ((x.regions[meRank e]?).getD 0, meOff e, 4096 * mePages e)

/-- The pages of a shard's tier B copy that hold an error. -/
def State.shardBad (s : State) (n w i : Nat) : Bool :=
  let p := s.shardPlace n w i
  let b := s.region n p.1
  !(s.badPages n (2 ^ 60 + rgRick b * 2 ^ 36 + rgBoff b + p.2.1) p.2.2).isEmpty

/-- A backed shard is copied to its tier S span; its pages are clean (R296). -/
def State.copyShardToS (s : State) (n w i : Nat) : State :=
  let p := s.shardPlace n w i
  let b := s.region n p.1
  let s1 := s.writeS n (rgSoff b + p.2.1) (s.readRegion n p.1 p.2.1 p.2.2)
  { s1 with dirty := (pagesOf (rgBoff b + p.2.1) p.2.2).foldl (fun t q => t.del (pageB (rgRick b) q)) s1.dirty }

/-- A shard's copy in tier S is copied to its tier B span (R299). -/
def State.copyShardToB (s : State) (n w i : Nat) : State :=
  let p := s.shardPlace n w i
  let b := s.region n p.1
  let s1 := s.writeRegion n p.1 p.2.1 (s.readSegs (s.segsS n (rgSoff b + p.2.1) p.2.2))
  { s1 with dirty := (pagesOf (rgBoff b + p.2.1) p.2.2).foldl (fun t q => t.del (pageB (rgRick b) q)) s1.dirty }

/-- Every shard of the set is RESIDENT. -/
def WSet.allResident (x : WSet) : Bool := x.shards.all (fun b => b % 16 == 2)
/-- Some shard is POISONED or REFETCHING (R289). -/
def WSet.anyBad (x : WSet) : Bool := x.shards.any (fun b => b % 16 == 4 || b % 16 == 5)

/-- A shard becomes RESIDENT; its copies count as checked now (R301). -/
def State.shardResident (s : State) (n w i : Nat) : State :=
  let st := s.num (E.STEP_COUNT n)
  s.onWset n w (fun x => { x.setShard i 2 with checked := (x.checked.put i st).put (65536 + i) st, trying := x.trying.del i,
                                               badB := x.badB.filter (fun k => k != i), badS := x.badS.filter (fun k => k != i) })

/-- A filling set whose every shard is RESIDENT becomes READY (R297). -/
def State.setReady (s : State) (n w : Nat) : State :=
  let x := s.wset n w
  if x.st = 2 ∧ x.allResident then (s.onWset n w (fun x => { x with st := 3 })).raise 0xEA02 (scopeP n) else s

/-! Receivers (R401 to R406) -/

/-- The generation job runs, or is being switched in. -/
def State.genRuns (s : State) (n j : Nat) : Bool :=
  s.sliceRuns n j || (match (s.part n).phase with
    | .switchOut q _ => q == j
    | .switchMaps q _ => q == j
    | .switchCopy q _ => q == j
    | .switchPrologue q _ => q == j
    | _ => false)

/-- A receiver parks: its set is READY and its generation job does not run under the hold (R406). -/
def State.turnPark (s : State) (n : Nat) : State :=
  let t := s.turn n
  if t.st = 3 ∧ tpRecv t.img ∧ t.hold ∧ (s.wset n (tpSet t.img)).st = 3 ∧ t.readyAt ≠ 0 ∧ s.genRuns n (tpGen t.img) = false ∧ !(s.job n (tpGen t.img)).unparked then
    (s.onTurn n (fun t => { t with st := 4, ownPark := some s.now })).turnToken n 0 tkParked
  else s

/-- Shards whose FINAL and write have arrived become RESIDENT; a full set takes its digests and is READY (R404). -/
def State.turnSettle (s : State) (n : Nat) : State :=
  let t := s.turn n
  if !t.active || !tpRecv t.img then s else
  let w := tpSet t.img
  let ready := t.landed.filter (fun p => (s.wset n w).shard p.1 == 1 && t.finals.contains (tpSource t.img p.1))
  if ready.any (fun p => s.shardBad n w p.1) then s.turnFail n 6 else
  let s1 := forAll ready (fun p s => (if (s.wset n w).backed then s.copyShardToS n w p.1 else s).shardResident n w p.1) s
  let x := s1.wset n w
  if x.st = 2 ∧ x.allResident then
    let man := t.landed.foldl (fun m p => setBytes m (128 + 64 * p.1) p.2) x.man
    let s2 := (s1.onWset n w (fun x => { x with man := man, digest := Config.sha384 man })).setReady n w
    (s2.onTurn n (fun t => { t with readyAt := s2.now, hold := true })).turnPark n
  else s1

/-- A turn write is accepted (R401). -/
def State.turnWriteOk (s : State) (n : Nat) (body : List Byte) (len : Nat) : Bool :=
  let t := s.turn n
  let i := Config.turnShard body
  decide (1 ≤ t.st) && decide (t.st ≤ 3) && tpRecv t.img && Config.turnId body == tpId t.img && Config.turnTstep body == tpTstep t.img &&
  decide (i < mfCount (tpTail t.img)) && Config.turnMember body == tpSource t.img i && len == 4096 * mePages (mfEntry (tpTemplate t.img) i)

/-- An accepted turn write lands: hashed in line, FETCHING from the first, with which the turn is FLOWING and an early hold
begins (R405); a different digest fails the turn (R401). -/
def State.turnLand (s : State) (n i : Nat) (d : List Byte) : State :=
  let t := s.turn n
  let w := tpSet t.img
  let dg := Config.sha384 d
  let p := s.shardPlace n w i
  let s1 := s.writeRegion n p.1 p.2.1 d
  let s2 := if (s1.wset n w).shard i = 0 then s1.onWset n w (fun x => x.setShard i 1) else s1
  let s3 := if t.landed.isEmpty then s2.onTurn n (fun t => { t with st := max t.st 2, hold := t.hold || tpEarly t.img }) else s2
  match Tab.look t.landed i with
  | some old => if old = dg then s3 else s3.turnFail n 5
  | none =>
    let s4 := s3.onTurn n (fun t => { t with landed := t.landed.put i dg })
    let s5 := if (s4.turn n).landed.length = mfCount (tpTail t.img) ∧ (s4.turn n).st = 2 then s4.onTurn n (fun t => { t with st := 3 }) else s4
    s5.turnSettle n

/-! Senders (R402, R403) -/

/-- Every send entry of the sender is acknowledged. -/
def Turn.allAcked (t : Turn) : Bool := (List.range (tpSendCount t.img)).all (fun e => t.acked.contains e)

/-- A sender whose TURN_TSTEP has committed and whose entries are all acknowledged sends FINAL to each of its receivers. -/
def State.turnFinals (s : State) (n : Nat) : State :=
  let t := s.turn n
  if t.active && tpSend t.img && t.committed && t.allAcked && !t.sentFinal then
    let dests := ((List.range (tpSendCount t.img)).map (fun e => fld (tpEntry t.img e) 2 2)).eraseDups
    forAll dests (fun d s => s.turnToken n d tkFinal) (s.onTurn n (fun t => { t with sentFinal := true }))
  else s

/-- A send entry is acknowledged, or refused and to be repeated every 1 ms (R400). -/
def State.turnAcked (s : State) (n e status : Nat) : State :=
  if status = 0 then (s.onTurn n (fun t => { t with acked := if t.acked.contains e then t.acked else t.acked ++ [e] })).turnFinals n
  else if (s.turn n).active then s.onTurn n (fun t => { t with retry := if t.retry.contains e then t.retry else t.retry ++ [e] })
  else s

/-- TURN_TSTEP commits on a sender (R403). -/
def State.turnCommitted (s : State) (n j tstep : Nat) : State :=
  let t := s.turn n
  if t.active && tpSend t.img && tpLearn t.img == j && tpTstep t.img == tstep then
    (s.onTurn n (fun t => { t with committed := true, st := if t.st < 3 then 3 else t.st })).turnFinals n
  else s

/-- An exchange attempt of TURN_TSTEP starts: the counters are 0; a sender enters FLOWING (R399, Table 14-6). -/
def State.turnAttempt (s : State) (n j tstep : Nat) : State :=
  let t := s.turn n
  if t.active && tpSend t.img && tpLearn t.img == j && tpTstep t.img == tstep then
    s.onTurn n (fun t => { t with ctrs := [], fired := [], began := true, st := if t.st = 1 then 2 else t.st })
  else s

/-- The hold of R402: a sender's gate of TURN_TSTEP + 2 waits for the acknowledgements or the turn's end. -/
def State.turnHolds (s : State) (n j tstep : Nat) : Bool :=
  let t := s.turn n
  t.active && tpSend t.img && tpLearn t.img == j && tpTstep t.img + 2 == tstep && !t.allAcked

/-! Decisions (R407 to R409) -/

/-- The receivers of the member table. -/
def tpReceivers (i : List Byte) : List Nat := (List.range (tpMembers i)).filter (fun m => (fld (tpMemberRec i m) 2 1).testBit 1)

/-- PARKED reaches the coordinator (R407). -/
def State.turnParkedIn (s : State) (n m : Nat) : State :=
  let t := s.turn n
  if tpMember t.img ≠ 0 ∨ t.img.length = 0 ∨ t.decision.isSome then s else
  let s1 := s.onTurn n (fun t => { t with parked := if t.parked.contains m then t.parked else t.parked ++ [m], parkAt := some (t.parkAt.getD s.now) })
  if (tpReceivers t.img).all (fun r => (s1.turn n).parked.contains r) then s1.turnDecide n true else s1

/-- SWITCH reaches a member (R408): a receiver asks for the switch of GEN_SLOT and for its slice; a sender only is DONE. -/
def State.turnSwitchIn (s : State) (n : Nat) : State :=
  let t := s.turn n
  let s1 := s.turnRemember n (tpId t.img) true
  if !t.active then s1
  else if tpRecv t.img then
    if t.st ≠ 4 then s1 else
    let j := tpGen t.img
    let s2 := (s1.onTurn n (fun t => { t with hold := false, decidedAt := s.now, decision := if tpMember t.img = 0 then t.decision else some true }))
    ((s2.onJob n j (fun x => { x with pendSwitch := some (tpSet t.img) })).setNum (E.SWITCH_PENDING n)
      (s2.num (E.SWITCH_PENDING n) ||| 2 ^ j)).onPart n (fun p => { p with turnJob := some j })
  else s1.onTurn n (fun t => { t with st := 5, decidedAt := s.now })

/-- The switch of a receiver's generation job takes effect: the turn is DONE (R408). -/
def State.turnDone (s : State) (n j w e : Nat) : State :=
  let t := s.turn n
  if t.st = 4 && tpRecv t.img && tpGen t.img == j && tpSet t.img == w && !t.hold then
    ((s.onTurn n (fun t => { t with st := 5 })).setBlob (E.TURN_LAST n)
      (leBytes 8 (tpId t.img) ++ leBytes 8 (tpTstep t.img) ++ leBytes 4 e ++ leBytes 1 w ++ zeros 3 ++ leBytes 8 (micro s.now) ++
       bytesAt (s.wset n w).digest 0 48)).raise 0xEE03 (scopeP n)
  else s

/-- ABORT reaches a member (Table 14-7). -/
def State.turnAbortIn (s : State) (n : Nat) : State := (s.turnRemember n (tpId (s.turn n).img) false).turnFail n 2

/-- UNPARK reaches a receiver: the hold is lifted for one slice under the old epoch (R407). -/
def State.turnUnparkIn (s : State) (n : Nat) : State :=
  let t := s.turn n
  if t.st = 4 ∧ tpRecv t.img then
    (s.onTurn n (fun t => { t with st := 3, hold := false })).onJob n (tpGen t.img) (fun x => { x with unparked := true })
  else s

/-- The slice that UNPARK allowed has ended: the hold returns as at READY (R407). -/
def State.turnSliceEnded (s : State) (n j : Nat) : State :=
  let t := s.turn n
  let s1 := if (s.job n j).unparked then
      (s.onJob n j (fun x => { x with unparked := false })).onTurn n (fun t => { t with hold := t.active && t.st == 3 })
    else s
  if t.active && tpRecv t.img && tpGen t.img == j then s1.turnPark n else s1

/-- A QUERY travels round the member ring: a member that keeps the decision answers its origin, another passes it on (R409). -/
def State.turnQueryIn (s : State) (n id origin : Nat) : State :=
  let t := s.turn n
  match t.hist.find? (fun h => h.1 == id) with
  | some h => s.turnTokenFrom n (tpMember t.img) origin (if h.2 then tkSwitch else tkAbort) id
  | none =>
    let next := (tpMember t.img + 1) % max 1 (tpMembers t.img)
    if t.img.length = 0 ∨ next = origin then s else s.turnTokenFrom n origin next tkQuery id

end Sys2Proof.Machine
end

