-- ==== Sys2Proof/Machine/Alloc.lean ====
section
/-!
DEFINITION. Space in the tiers and quotas (R259 to R262, R265, R279, R280): free spans, usage.
-/
namespace Sys2Proof.Machine

/-- Live tier B spans of a partition in a stack: offset and length. -/
def State.spansB (s : State) (n k : Nat) : List (Nat × Nat) :=
  ((s.regionNums n).map (s.region n)).filterMap (fun b => if rgRick b = k ∧ rgLive b then some (rgBoff b, rgLen b) else none)

/-- Tier S spans of a partition. -/
def State.spansS (s : State) (n : Nat) : List (Nat × Nat) :=
  ((s.regionNums n).map (s.region n)).filterMap (fun b => if rgHasS b then some (rgSoff b, rgLen b) else none)

/-- The ranges do not overlap. -/
def apart (a b : Nat × Nat) : Bool := decide (a.1 + a.2 ≤ b.1) || decide (b.1 + b.2 ≤ a.1)

/-- The lowest offset at which `len` bytes fit below a limit beside some spans. -/
def lowestFit (spans : List (Nat × Nat)) (limit len : Nat) : Option Nat :=
  let starts := sortBy (fun a b => decide (a ≤ b)) (0 :: spans.map (fun x => x.1 + x.2))
  starts.find? (fun o => decide (o + len ≤ limit) && spans.all (fun x => apart (o, len) x))

/-- Bytes of a partition's tier S (R259). -/
def State.tierSBytes (s : State) (n : Nat) : Nat := (s.channels n).length * 2 ^ 37

/-- The lowest free offset of a stack for a region (R265, R295). -/
def State.fitB (s : State) (n k len : Nat) : Option Nat := lowestFit (s.spansB n k) (s.kvBase n k) len
/-- The lowest free offset of a partition's tier S. -/
def State.fitS (s : State) (n len : Nat) : Option Nat := lowestFit (s.spansS n) (s.tierSBytes n) len

/-- The lowest number of a partition's region table that is not in use. -/
def State.freeRegion (s : State) (n : Nat) : Option Nat := lowestFrom (fun r => rgLen (s.region n r) == 0) 0 256

/-- A region record (Table 09-4). -/
def mkRegion (r cls fl rick job boff len soff : Nat) : List Byte :=
  leBytes 2 r ++ leBytes 1 cls ++ leBytes 1 fl ++ leBytes 1 rick ++ leBytes 1 job ++ zeros 2 ++ leBytes 8 boff ++ leBytes 8 len ++ leBytes 8 soff

/-- SOFF of a region without a tier S span. -/
def noSoff : Nat := 2 ^ 64 - 1

/-- The FLUSH region that the collier creates when a partition gains a tenant (R265, R273; log 67). -/
def State.giveFlush (s : State) (n : Nat) : State :=
  match (s.ricksOf n).head? with
  | none => s
  | some k =>
    if (s.regionNums n).any (fun r => rgClass (s.region n r) == 5) then s else
    match s.freeRegion n, s.fitB n k 4096 with
    | some r, some off => s.setRegion n r (mkRegion r 5 2 k 0xFF off 4096 noSoff)
    | _, _ => s

/-! Usage (Table 09-7) -/

/-- The partitions of a tenant slot. -/
def State.partsOf (s : State) (t : Nat) : List Nat := (List.range 12).filter (fun n => s.exists n && s.num (E.PART_TENANT n) == t)

/-- Sum of a quantity over a list. -/
def sumOf {α : Type} (l : List α) (f : α → Nat) : Nat := l.foldl (fun a x => a + f x) 0

/-- Tier H usage: live hearth-store claims of loaded job slots times logical hearths. -/
def State.usedH (s : State) (t : Nat) : Nat :=
  sumOf (s.partsOf t) (fun n => sumOf (s.loadedJobs n) (fun j => Config.claim (cdSection (s.job n j).img 0x0A) 0 * (s.hearthsOf n).length))
/-- Tier B usage of a partition: live spans of every class but FLUSH, and KV ranges. -/
def State.partB (s : State) (n : Nat) : Nat :=
  sumOf (s.regionNums n) (fun r => let b := s.region n r; if rgLive b ∧ rgClass b ≠ 5 then rgLen b else 0) +
  sumOf (s.ricksOf n) (fun k => kvRange (s.poolPages n k) (s.entryCount n + 4096))
/-- Tier B usage. -/
def State.usedB (s : State) (t : Nat) : Nat := sumOf (s.partsOf t) s.partB
/-- Tier S usage. -/
def State.usedS (s : State) (t : Nat) : Nat := sumOf (s.partsOf t) (fun n => sumOf (s.spansS n) Prod.snd)
/-- KV page usage. -/
def State.usedKv (s : State) (t : Nat) : Nat := sumOf (s.partsOf t) (fun n => sumOf (s.ricksOf n) (s.poolPages n))
/-- Request table entries claimed by the tenant's loaded cords (R323). -/
def State.usedEntries (s : State) (t : Nat) : Nat := sumOf (s.partsOf t) (fun n => sumOf (s.loadedJobs n) (fun j => Config.claim (cdSection (s.job n j).img 0x0A) 4))

/-- A further tier B use of a partition's tenant stays within its quota. -/
def State.quotaB (s : State) (n d : Nat) : Bool := let t := s.num (E.PART_TENANT n); decide (s.usedB t + d ≤ s.num (E.QUOTA_B t))
/-- A further tier S use of a partition's tenant stays within its quota. -/
def State.quotaS (s : State) (n d : Nat) : Bool := let t := s.num (E.PART_TENANT n); decide (s.usedS t + d ≤ s.num (E.QUOTA_S t))

/-- USED of a tenant slot (Table 09-9). -/
def State.usedBytes (s : State) (t : Nat) : List Byte :=
  leBytes 8 (s.usedH t) ++ leBytes 8 (s.usedB t) ++ leBytes 8 (s.usedS t) ++ leBytes 4 (s.usedKv t) ++ zeros 4

end Sys2Proof.Machine
end

