-- ==== Sys2Proof/Machine/GenStep.lean ====
section
/-!
DEFINITION. What a committed generation step leaves (The Generation Step): admission records, token-count tables,
slot results, audit blocks, step records and subscriber rings.
-/
namespace Sys2Proof.Machine

/-! Admission records (Table 11-6) -/

/-- CAP. -/
def adCap (r : List Byte) : Nat := fld r 2 2
/-- BUCKET. -/
def adBucket (r : List Byte) : Nat := fld r 4 4
/-- CHUNK. -/
def adChunk (r : List Byte) : Nat := fld r 8 2
/-- SPAN. -/
def adSpan (r : List Byte) : Nat := fld r 0x0A 1
/-- URES. -/
def adUres (r : List Byte) : Nat := fld r 0x0B 1
/-- BATCH_HADDR. -/
def adHaddr (r : List Byte) : Nat := fld r 0x0C 4
/-- REQQ. -/
def adReqq (r : List Byte) : Nat := fld r 0x10 1
/-- RESULT_HADDR (R353). -/
def adResult (r : List Byte) : Nat := adHaddr r + 96 * adCap r

/-- The lowest-numbered logical hearth of a partition. -/
def State.firstHearth (s : State) (n : Nat) : Nat := ((s.hearthsOf n).head?).getD 0

/-- MAXCTX of model 0; 0 without a record (R325). -/
def State.maxctx (s : State) (n : Nat) : Nat := ((s.model n 0).map kmMaxctx).getD 0

/-! Token-count tables (R327, R328) -/

/-- T, the bytes of one table. -/
def State.tctBytes (s : State) (n : Nat) : Nat := 64 * ceilDiv (8 * s.num (E.TCT_PAIRS n)) 64

/-- The region of the table of an entry. -/
def State.tctRegion (s : State) (n i : Nat) : Option Nat :=
  let v := fld (s.blob (E.TCT_REGIONS n)) (2 * (i % 12)) 2
  if v = 0xFFFF then none else some v

/-- One token added to a pair list in ascending order: a count saturates; a new token beyond the limit is not counted. -/
def tctAdd (limit : Nat) (l : List (Nat × Nat)) (t : Nat) : List (Nat × Nat) × Bool :=
  if l.any (fun p => p.1 == t) then (l.map (fun p => if p.1 = t then (t, min (p.2 + 1) (2 ^ 32 - 1)) else p), false)
  else if limit ≤ l.length then (l, true)
  else (insertBy (fun a b => decide (a.1 ≤ b.1)) (t, 1) l, false)

/-- The tokens added to the table of a request (R328). -/
def State.countTokens (s : State) (n i : Nat) (toks : List Nat) : State :=
  let lim := s.num (E.TCT_PAIRS n)
  match s.tctRegion n i with
  | none => s
  | some r =>
    if lim = 0 ∨ toks.isEmpty then s else
    let off := i / 12 * s.tctBytes n
    let np := s.rf i 0x4A 2
    let old := (pieces (s.readRegion n r off (8 * np)) 8 np).map (fun b => (fld b 0 4, fld b 4 4))
    let x := toks.foldl (fun a t => let y := tctAdd lim a.1 t; (y.1, a.2 || y.2)) (old, false)
    let s1 := (s.writeRegion n r off (x.1.flatMap (fun p => leBytes 4 p.1 ++ leBytes 4 p.2))).setRf i 0x4A 2 x.1.length
    if x.2 && !(s1.rx i).tctEvent then ((s1.setRqFlag i 0).onRx i (fun x => { x with tctEvent := true })).raise 0xEB04 (scopeP n)
    else s1

/-! Slot results (Table 12-2) -/

/-- The result record of a batch slot. -/
def State.slotResult (s : State) (n slot : Nat) (ad : List Byte) : List Byte :=
  s.mem.read (hearthBase (s.phys (s.firstHearth n)) + adResult ad + 128 * slot) 128

/-- NOUT. -/
def srNout (r : List Byte) : Nat := fld r 2 1
/-- PROPOSED. -/
def srProposed (r : List Byte) : Nat := fld r 3 1
/-- ACCEPTED. -/
def srAccepted (r : List Byte) : Nat := fld r 4 1
/-- INVALID. -/
def srInvalid (r : List Byte) : Bool := (fld r 5 1).testBit 0
/-- Tokens with their log-probabilities. -/
def srTokens (r : List Byte) : List (Nat × Nat) := (List.range (min (srNout r) 9)).map (fun j => (fld r (8 + 4 * j) 4, fld r (0x2C + 4 * j) 4))

/-- The slot of the step is a prefill slot of a request. -/
def State.isPrefill (s : State) (i : Nat) : Bool := decide (s.rqDone i < s.rqTarget i)

/-- The request placed in a batch slot of the running step. -/
def State.inSlot (s : State) (n slot : Nat) : Option Nat := ((s.part n).batch.find? (fun x => x.1 == slot)).map Prod.snd

/-- Model 0's accept position of a slot (R349, R350, R352). -/
def State.acceptPos (s : State) (i l0 : Nat) (r : List Byte) : Nat :=
  if s.isPrefill i then l0 + (s.rx i).ntok - (if srInvalid r then 1 else 0)
  else l0 + srAccepted r + (if srInvalid r then 0 else 1)

/-- The checks of R354 on one slot: `d` is the directory of the request's list. A request that ended while the step ran
is not checked. -/
def State.slotOk (s : State) (n slot : Nat) (ad : List Byte) : Bool :=
  let r := s.slotResult n slot ad
  match s.inSlot n slot with
  | none => fld r 0 2 == 0xFFFF && allZero (r.drop 2)
  | some i =>
    !(s.rx i).placed ||
    let d := s.dir (s.firstHearth n / 16) (s.rqList i)
    (fld r 0 2 == i &&
    (if s.isPrefill i then
      srProposed r == 0 && srAccepted r == 0 && srNout r == (if s.rqDone i + (s.rx i).ntok = s.rqTarget i then 1 else 0)
     else srProposed r + 1 == (s.rx i).ntok && decide (srAccepted r ≤ srProposed r) && srNout r == srAccepted r + 1) &&
    ((s.rx i).attachBad || (d.pendOf 0).getD (d.lenOf 0) == s.acceptPos i (d.lenOf 0) r))

/-! Delivery (R347, R339) -/

/-- Tokens up to the first stop token, at most `room` of them. -/
def cutTokens (stops : List Nat) : Nat → List (Nat × Nat) → List (Nat × Nat)
  | 0, _ => []
  | _, [] => []
  | f + 1, t :: r => if stops.contains t.1 then [t] else t :: cutTokens stops f r

/-- The stop tokens of a request. -/
def State.stops (s : State) (i : Nat) : List Nat := [0x50, 0x54, 0x58].map (fun o => s.rf i o 4) |>.filter (fun t => t != 2 ^ 32 - 1)

/-- The deadline of a request has passed at T_e (R338). -/
def State.passed (s : State) (i te : Nat) : Bool := s.rqDeadline i != 0 && decide (s.rqDeadline i < te)

/-- What the record of a boundary says of a request placed in its step (Table 12-6). -/
structure Sub where
  entry : Nat
  toks : List (Nat × Nat) := []
  flags : Nat := 0
  proposed : Nat := 0
  accepted : Nat := 0
  firstPos : Nat := 0
  handle : Nat := 0
  aseq : Nat := 0
  deriving DecidableEq, Repr

/-- Staged evidence records of one token (R364). -/
def State.evidence (s : State) (n slot t : Nat) : List Byte :=
  let g := s.num (E.EVID_GROUPS n)
  let r := s.num (E.EVID_REGION n)
  (List.range g).flatMap (fun x => if r = 0xFFFF then zeros 128 else s.readRegion n r (((slot * g + x) * 9 + t) * 128) 128)

/-- The body of a STEP block (Table 12-8). -/
def State.stepBody (s : State) (n slot : Nat) (x : Sub) (tidx : List Nat) : List Byte :=
  let p := s.part n
  leBytes 4 p.stepEpoch ++ leBytes 1 x.toks.length ++ leBytes 1 x.flags ++ leBytes 1 x.proposed ++ leBytes 1 x.accepted ++
  s.epochDigest n p.job p.stepEpoch ++ leBytes 8 (micro p.stepT0) ++ leBytes 8 (micro p.te) ++
  leBytes 2 (x.toks.length * s.num (E.EVID_GROUPS n)) ++ zeros 6 ++
  (x.toks.mapIdx (fun k t => leBytes 4 (x.firstPos + k) ++ leBytes 4 t.1 ++ leBytes 4 t.2 ++ leBytes 4 p.stepEpoch)).flatten ++
  tidx.flatMap (fun t => s.evidence n slot t)

/-- FLAGS that follow from the entry itself: FINAL and TCT_FULL. -/
def State.subFlags (s : State) (i : Nat) (fl : Nat) (final : Bool) : Nat :=
  fl ||| (if final then 4 else 0) ||| (if s.rqFlag i 0 then 16 else 0)

/-- What the record says of a placed request that ends without tokens. -/
def State.endedSub (s : State) (n i : Nat) (r : List Byte) : Sub :=
  { entry := i, flags := s.subFlags i 0 true, proposed := srProposed r, accepted := srAccepted r,
    firstPos := Config.firstPosNone (s.num (E.STEP_COUNT n)) i }

/-- The request of one slot is committed (R328, R331, R347, R350 to R352, R363): the entry, its tokens, its audit blocks,
and its end. Answers what the step record says of it. -/
def State.commitSlot (s : State) (n i : Nat) (ad : List Byte) (l0 : Nat) : State × Sub :=
  let slot := s.rqSlot i
  let r := s.slotResult n slot ad
  let p := s.part n
  let te := p.te
  let x := s.rx i
  let s0 := s.onRx i (fun x => { x with first := false })
  let s1 := if x.openSeq = 0 then (s0.audit n i 1 (s0.openBody n i)).1 else s0
  let len := (s1.dir (s.firstHearth n / 16) (s1.rqList i)).lenOf 0
  let tooLong := decide (s1.maxctx n < l0 + s1.rqPrompt i + s1.rqMaxNew i)
  if x.attachBad || (x.first && s1.rf i 0x28 8 != 0 && tooLong) then
    (s1.endRequest n i 8 0x07, s1.endedSub n i r)
  else
    let pre := s1.isPrefill i
    let done := s1.rqDone i
    let hi := min (done + x.ntok) (s1.rqPrompt i)
    let prompt := (pieces (s1.mem.read (tierB (taRick (s1.rf i 0x30 8)) + taBoff (s1.rf i 0x30 8) + 4 * done) (4 * (hi - done))) 4 (hi - done)).map leNat
    let s2 := s1.setRf i 4 4 len
    let s3 := if pre then
        let a := if s2.rqFlag i 2 then s2.countTokens n i prompt else s2
        let b := a.setRf i 0x3C 4 (done + x.ntok)
        if b.rqTarget i ≤ done + x.ntok ∧ b.rqState i = 2 then b.setRf i 0 1 3 else b
      else s2
    let all := if srInvalid r then (srTokens r).dropLast else srTokens r
    let stops := s3.stops i
    let cut := cutTokens stops (s3.rqMaxNew i - s3.rqEmitted i) all
    let late := s3.passed i te
    let held := late && s3.rf i 2 1 % 4 == 0
    let out := if held then [] else cut
    let fp := l0 + (if pre then x.ntok else 1)
    let s4 := (s3.countTokens n i (out.map Prod.fst)).setRf i 0x44 4 (s3.rqEmitted i + out.length)
    let s5 := s4.onRx i (fun y => { y with tokens := y.tokens ++ out.map Prod.fst, discont := y.discont && out.isEmpty, handle := 0 })
    let isLate := late && !out.isEmpty
    let s6 := if isLate then s5.setRqFlag i 1 else s5
    let st := s6.rqState i
    let fin := (st == 3 || st == 5) && !late &&
      (out.any (fun t => stops.contains t.1) || decide (s6.rqMaxNew i ≤ s6.rqEmitted i) || len == s6.maxctx n)
    let base := (if isLate then 1 else 0) + (if x.discont && !out.isEmpty then 2 else 0) + (if x.handle != 0 then 8 else 0) +
      (if !held && out.length < all.length then 32 else 0)
    let fl := s6.subFlags i base fin
    let sub : Sub := { entry := i, toks := out, flags := fl, proposed := srProposed r, accepted := srAccepted r,
                       firstPos := if out.isEmpty then Config.firstPosNone (s6.num (E.STEP_COUNT n)) i else fp, handle := x.handle }
    let tidx := if pre then out.map (fun _ => x.ntok - 1) else List.range out.length
    let s7 := if out.isEmpty then s6 else (s6.audit n i 2 (s6.stepBody n slot sub tidx)).1
    let s8 := if fin then s7.endRequest n i 7 0 else s7
    (s8, { sub with aseq := if out.isEmpty ∨ (s7.auditRegion n).isNone then 0 else s7.num (E.AUDIT_SEQ n) })

/-! Step records (Tables 12-4 to 12-6) -/

/-- A section with its header (R360). -/
def section8 (ty count : Nat) (body : List Byte) : List Byte := leBytes 2 ty ++ leBytes 2 count ++ leBytes 4 (8 + body.length) ++ body

/-- A request sub-section, as the entry stands now. -/
def State.subBytes (s : State) (x : Sub) : List Byte :=
  let b := s.rq x.entry
  bytesAt b 0x20 8 ++ leBytes 2 x.entry ++ bytesAt b 0 1 ++ (if fld b 0 1 = 8 then bytesAt b 0x0B 1 else zeros 1) ++
  leBytes 1 x.toks.length ++ leBytes 1 x.flags ++ leBytes 1 x.proposed ++ leBytes 1 x.accepted ++ bytesAt b 0x0C 4 ++
  leBytes 4 x.firstPos ++ bytesAt b 0x44 4 ++ bytesAt b 4 4 ++ leBytes 8 x.handle ++ leBytes 8 x.aseq ++
  x.toks.flatMap (fun t => leBytes 4 t.1 ++ leBytes 4 t.2)

/-- A subscriber ring. -/
def State.ring (s : State) (n r : Nat) : Ring := s.rings.getD (n * 64 + r) {}
/-- Changes a subscriber ring. -/
def State.onRing (s : State) (n r : Nat) (f : Ring → Ring) : State := { s with rings := s.rings.put (n * 64 + r) (f (s.ring n r)) }
/-- ENABLE of the descriptor in force. -/
def Ring.enabled (r : Ring) : Bool := (fld r.desc 0 1).testBit 0
/-- ALL of the descriptor in force. -/
def Ring.all (r : Ring) : Bool := (fld r.desc 0 1).testBit 1

/-- A ring receives what is addressed to a RING value (R356). -/
def State.ringGets (s : State) (n r target : Nat) : Bool :=
  let g := s.ring n r
  g.enabled && (g.all || r == target)

/-- Ring descriptors written since take effect (R355). -/
def State.applyRings (s : State) (n : Nat) : State :=
  forAll (List.range 64) (fun r s =>
    match (s.ring n r).next with
    | none => s
    | some d => s.onRing n r (fun g =>
        let x := { g with desc := d, next := none }
        if x.enabled && !g.enabled then { x with prod := 0, cons := 0, lost := 0, recs := [] } else x)) s

/-- A record of a job for every enabled ring of the partition: the header, QUEUES, and the sections that are not empty
for the ring (R357 to R361). `fl` is FLAGS; LOST is filled in at delivery. -/
def State.publish (s : State) (n j stepno epoch kind attempts tstart tend fl : Nat) (subs : List (Nat × Sub))
    (refs : List (Nat × Nat × Nat × Nat)) : State :=
  let queues := section8 1 16 (s.blob (E.CONSUMED n))
  forAll (List.range 64) (fun r s =>
    if !(s.ring n r).enabled then s else
    let mine := (subs.filter (fun x => s.ringGets n r x.1)).map (fun x => s.subBytes x.2)
    let ref := refs.filter (fun x => s.ringGets n r x.2.2.2)
    let secs := [queues] ++ (if mine.isEmpty then [] else [section8 2 mine.length mine.flatten]) ++
      (if ref.isEmpty then [] else [section8 3 ref.length (ref.flatMap (fun x => leBytes 8 x.2.1 ++ leBytes 1 x.2.2.1 ++ leBytes 1 j ++ zeros 6))])
    let body := secs.flatten
    let len := 64 * ceilDiv (64 + body.length) 64
    let hdr := leBytes 4 0x43525453 ++ leBytes 2 1 ++ leBytes 1 n ++ leBytes 1 j ++ leBytes 8 stepno ++ leBytes 4 epoch ++
      leBytes 1 kind ++ leBytes 1 attempts ++ leBytes 2 secs.length ++ leBytes 4 len ++ zeros 4 ++ leBytes 8 (micro tstart) ++
      leBytes 8 (micro tend) ++ leBytes 8 (s.num (E.FLUSH_DONE n)) ++ leBytes 2 r ++ leBytes 1 fl ++ zeros 5
    s.onRing n r (fun g => { g with recs := g.recs ++ [padTo 64 (hdr ++ body)] })) s

/-- The requests of a job that became terminal and that no record has reported, marked reported. -/
def State.takeTerminals (s : State) (n j : Nat) (except : List Nat) : State × List Nat :=
  let l := (s.jobEntries n j).filter (fun i => decide (6 ≤ s.rqState i) && !(s.rx i).reported)
  ((forAll l (fun i s => s.onRx i (fun x => { x with reported := true })) s).onJob n j (fun x => { x with unreported := none }),
   l.filter (fun i => !except.contains i))

/-- The sub-section of a request that no committed step placed. -/
def State.finalSub (s : State) (n i : Nat) : Sub :=
  { entry := i, flags := s.subFlags i 0 (decide (6 ≤ s.rqState i)), firstPos := Config.firstPosNone (s.num (E.STEP_COUNT n)) i }

/-- The refused SUBMITs of a job, taken for a record. -/
def State.takeRefused (s : State) (n j : Nat) : State × List (Nat × Nat × Nat × Nat) :=
  let l := (s.part n).refused
  (s.onPart n (fun p => { p with refused := l.filter (fun x => x.1 != j) }), l.filter (fun x => x.1 == j))

/-- A job drain ends when the job holds no entry (R332); that of KINDLING_END unloads the kindling job (R577). -/
def State.drainCheck (s : State) (n j : Nat) : State :=
  if (s.job n j).draining && (s.jobEntries n j).isEmpty then
    let s1 := (s.onJob n j (fun x => { x with draining := false })).raise 0xEB03 (scopeP n)
    if s1.kindEnding && s1.kindPart == n && j == 0 then unloadJob s1 n 0 0x13 else s1
  else s

/-- Entries whose terminal state a record reported at an earlier boundary return to FREE (Table 11-4). -/
def State.freeReported (s : State) (n : Nat) : State :=
  let l := (s.entriesOf n).filter (fun i => decide (6 ≤ s.rqState i) && (s.rx i).reported)
  let s1 := forAll l (fun i s => s.freeEntry i) s
  forAll (List.range 8) (fun j s => s.drainCheck n j) s1

end Sys2Proof.Machine
end

