-- ==== Sys2Proof/Machine/Admission.lean ====
section
/-!
DEFINITION. Action 8 of a step boundary: request messages (R324 to R326), page demand and eviction (R249), admission
and placement (R333 to R337), the audit reserve (R365), the learning record (R369).
-/
namespace Sys2Proof.Machine

/-! Messages (Table 11-2) -/

/-- The entry claim of a job's cord (R323). -/
def State.entryClaim (s : State) (n j : Nat) : Nat := Config.claim (cdSection (s.job n j).img 0x0A) 4

/-- The lowest-numbered FREE entry of a partition. -/
def State.freeEntryOf (s : State) (n : Nat) : Option Nat := lowestFrom (fun i => s.owns n i && s.rqState i == 0) 0 32768

/-- A live request of the job with a tag. -/
def State.liveTag (s : State) (n j tag : Nat) : Option Nat :=
  (s.jobEntries n j).find? (fun i => liveState (s.rqState i) && s.rqTag i == tag)

/-- The prompt range lies wholly inside one USER region. -/
def State.promptOk (s : State) (n ta len : Nat) : Bool :=
  taTier ta == 1 && (match s.rangeRegion n ta (4 * len) with
    | some r => rgClass (s.region n r) == 0
    | none => false)

/-- The format of a SUBMIT is right (Table 11-5, FORMAT). -/
def State.submitFormat (s : State) (n : Nat) (m : List Byte) : Bool :=
  fld m 0 1 == 1 && fld m 1 1 / 8 == 0 && decide (fld m 2 1 % 4 ≤ 1) && fld m 2 1 / 8 == 0 && fld m 3 1 % 4 == 0 && fld m 3 1 / 32 == 0 &&
  allZero (bytesAt m 4 12) && allZero (bytesAt m 0x80 120) &&
  [(0x18, 8), (0x3C, 4), (0x44, 4), (0x48, 2), (0x4A, 2), (0x4E, 2), (0x5C, 4), (0x72, 2)].all (fun x => fld m x.1 x.2 == 0) &&
  fld m 0x38 4 != 0 && fld m 0x40 4 != 0 && s.promptOk n (fld m 0x30 8) (fld m 0x38 4)

/-- The code that refuses a SUBMIT, first that applies (R325, R332). -/
def State.submitCode (s : State) (n j : Nat) (m : List Byte) : Option Nat :=
  if !s.submitFormat n m then some 0x01
  else if (s.liveTag n j (fld m 0x20 8)).isSome then some 0x02
  else if s.maxctx n < fld m 0x38 4 + fld m 0x40 4 then some 0x03
  else if s.entryClaim n j ≤ (s.jobEntries n j).length ∨ (s.freeEntryOf n).isNone then some 0x04
  else if (s.job n j).draining then some 0x05
  else none

/-- A SUBMIT is refused: reported in the next record, event 0xEB01, counted (R325). -/
def State.refuse (s : State) (n j tag code ring : Nat) : State :=
  (((s.onPart n (fun p => { p with refused := p.refused ++ [(j, tag, code, ring)] })).onJob n j
    (fun x => { x with unreported := some (x.unreported.getD s.now) })).bump (E.REFUSALS n)).raise 0xEB01 (scopeP n) [tag, code]

/-- A SUBMIT takes the lowest-numbered FREE entry (R325). -/
def State.takeEntry (s : State) (n j i : Nat) (m : List Byte) : State :=
  let head := leBytes 1 1 ++ bytesAt m 1 3 ++ zeros 4 ++ leBytes 2 (s.listOf n i) ++ leBytes 1 j ++ zeros 5
  let b := head ++ bytesAt m 0x10 112
  let b1 := setFld (setFld (setFld b 0x18 8 (s.part n).te) 0x4E 2 0xFFFF) 0x5C 4 (fld m 0x38 4)
  { s with reqs := s.reqs.put i b1, reqx := s.reqx.put i {} }

/-- One request message (R324 to R326). -/
def State.message (s : State) (n j : Nat) (m : List Byte) : State :=
  let tag := fld m 0x20 8
  if fld m 0 1 = 2 then
    match s.liveTag n j tag with
    | some i => s.endRequest n i 8 0x08
    | none => s.bump (E.CANCEL_MISSES n)
  else match s.submitCode n j m, s.freeEntryOf n with
    | none, some i => s.takeEntry n j i m
    | c, _ => s.refuse n j tag (c.getD 0x04) (fld m 0x4C 2)

/-! Demand (R249) -/

/-- Map and data pages that writing positions p to e − 1 of one (model, layer) would allocate on a rick for a list, and the
directory references whose map page it makes private. -/
def State.spanDemand (s : State) (n k list m l : Nat) (r : List Byte) (p e : Nat) : List Nat × Nat :=
  let tpp := kmTpp r
  let d := s.dir k list
  (List.range (ceilDiv e tpp - p / tpp)).foldl (fun x i =>
    let b := (p / tpp + i) * tpp
    let at1 := s.mapIndex n k m l tpp b
    match Tab.look d.ents at1.1 with
    | none => (x.1 ++ [at1.1], x.2 + 1)
    | some mp =>
      let shared := decide (1 < s.refsOf k mp)
      let new := match Tab.look (s.mapPage k mp) at1.2 with
        | none => true
        | some q => decide (p ≤ b) || shared || decide (1 < s.refsOf k q)
      (if shared then x.1 ++ [at1.1] else x.1, if new then x.2 + 1 else x.2)) ([], 0)

/-- Pages that a request with a write span would allocate on a rick, every model counted. -/
def State.listDemand (s : State) (n k list ntok : Nat) : Nat :=
  let d := s.dir k list
  let e := d.lenOf 0 + ntok
  let x := (s.pairsOn n k).foldl (fun a pr =>
    match s.model n pr.1 with
    | none => a
    | some r =>
      let p := d.lenOf pr.1
      if e ≤ p then a else
      let y := s.spanDemand n k list pr.1 pr.2.1 r p e
      (a.1 ++ y.1, a.2 + y.2)) (([] : List Nat), 0)
  x.1.eraseDups.length + x.2

/-- D_k for a list of requests with their write spans. -/
def State.demand (s : State) (n k : Nat) (l : List (Nat × Nat)) : Nat := l.foldl (fun a x => a + s.listDemand n k (s.rqList x.1) x.2) 0

/-- The demand fits the free pages of every rick. -/
def State.fits (s : State) (n : Nat) (l : List (Nat × Nat)) : Bool :=
  (s.ricksOf n).all (fun k => decide (s.demand n k l ≤ s.freePages n k))

/-- Every pending decrement done. -/
def State.drainReleases : Nat → State → Nat → State
  | 0, s, _ => s
  | f + 1, s, n => if (s.part n).releases.isEmpty then s else State.drainReleases f (s.releaseOne n) n

/-- The state in which the handles of some slots are gone and the pages they alone held are free. -/
def State.without (s : State) (n : Nat) (slots : List Nat) : State :=
  let s1 := forAll slots (fun i s => s.dropHandle n i) (s.onPart n (fun p => { p with releases := [] }))
  State.drainReleases 16777216 s1 n

/-- The handles that eviction takes, in its order, until the demand would fit (R249, 1). -/
def State.evictions (s : State) (n : Nat) (l : List (Nat × Nat)) : List Nat → List Nat → List Nat
  | taken, [] => taken
  | taken, h :: r => if (s.without n taken).fits n l then taken else State.evictions s n l (taken ++ [h]) r

/-- Handles that are not PINNED, least recently attached first. -/
def State.evictable (s : State) (n : Nat) : List Nat :=
  (sortBy (fun a b => decide (a.2.lastAttach < b.2.lastAttach) || (a.2.lastAttach == b.2.lastAttach && decide (a.1 ≤ b.1)))
    ((s.liveHandles n).filter (fun h => !h.2.pinned))).map Prod.fst

/-- The eviction of handles under R249. -/
def State.evictHandles (s : State) (n : Nat) (l : List (Nat × Nat)) : State :=
  if s.fits n l then s else
  forAll (s.evictions n l [] (s.evictable n)) (fun i s => ((s.dropHandle n i).bump (E.HANDLE_EVICTIONS n)).raise 0xE802 (scopeP n) [i]) s

/-- PRIO bits [2:0]. -/
def State.rqPrio (s : State) (i : Nat) : Nat := s.rf i 1 1 % 8
/-- URGENT. -/
def State.rqUrgent (s : State) (i : Nat) : Bool := (s.rf i 1 1).testBit 7
/-- ADMIT_TIME. -/
def State.rqAdmit (s : State) (i : Nat) : Nat := s.rf i 0x18 8

/-- One request is withheld (R249, 2). -/
def State.withhold (s : State) (n i : Nat) : State :=
  let s1 := if s.rqState i = 5 then s else
    ((s.setRf i 0 1 4).onRx i (fun x => { x with paused := (s.part n).pauses })).onPart n (fun p => { p with pauses := p.pauses + 1 })
  (s1.bump (E.KV_PAUSES n)).raise 0xE803 (scopeP n) [i]

/-- Requests withheld, in their order, until the demand fits; answers those still placed. -/
def State.withholdAll (s : State) (n : Nat) : List (Nat × Nat) → List (Nat × Nat) → State × List (Nat × Nat)
  | placed, [] => (s, placed)
  | placed, x :: r =>
    if s.fits n placed then (s, placed)
    else State.withholdAll (s.withhold n x.1) n (placed.filter (fun y => y.1 != x.1)) r

/-! Placement (R334 to R336) -/

/-- NTOK of a request's slot. -/
def State.ntokOf (s : State) (i : Nat) (ad : List Byte) : Nat :=
  if s.isPrefill i then min (adChunk ad) (s.rqTarget i - s.rqDone i) else adSpan ad

/-- The step kind can carry the request. -/
def State.bucketOk (s : State) (i : Nat) (ad : List Byte) : Bool :=
  decide (s.rqLen i + s.ntokOf i ad ≤ adBucket ad) && !(s.isPrefill i && adChunk ad == 0)

/-- The admission records of a job's cord. -/
def State.admissions (s : State) (n j : Nat) : List (List Byte) := Config.pollAdmission (cdPoll (s.job n j).img)

/-- A QUEUED request is feasible (R335). -/
def State.feasible (s : State) (n j i : Nat) : Bool :=
  let dl := s.rqDeadline i
  let jb := s.job n j
  let chunks := (s.admissions n j).filterMap (fun r => if adChunk r = 0 then none else some (adChunk r))
  let cmin := chunks.foldl min (chunks.headD 1)
  let wmax := ((s.admissions n j).map (fun r => cdWcet jb.img (fld r 0 2))).foldl max 0
  let n0 := ceilDiv (s.rqPrompt i) cmin + s.rqMaxNew i - 1
  let n1 := if jb.oldEpoch.isSome || jb.pendSwitch.isSome then 2 * n0 else n0
  let d := n1 * wmax
  let slices := ((s.plan n).filter (fun e => e.1 == j)).map (fun e => e.2 * 1000000)
  let slice := slices.foldl min (slices.headD 0)
  let gap := fld (s.blob (E.GAP_TABLE n)) (8 * j) 8
  dl == 0 || decide ((s.part n).te + d + (if slice = 0 then 0 else d / slice * gap) ≤ dl)

/-- Admission order of QUEUED requests (R336). -/
def State.admitBefore (s : State) (a b : Nat) : Bool :=
  let key (i : Nat) : List Nat := [if s.rqUrgent i then 0 else 1, s.rqPrio i, if s.rqDeadline i = 0 then 2 ^ 64 else s.rqDeadline i, s.rqAdmit i, i]
  let rec lex : List Nat → List Nat → Bool
    | x :: r, y :: q => decide (x < y) || (x == y && lex r q)
    | _, _ => true
  lex (key a) (key b)

/-- Requests of a job that hold a SLOT. -/
def State.occupied (s : State) (n j : Nat) : List Nat := ((s.jobEntries n j).filter (fun i => s.rqSlot i != 0xFFFF)).map s.rqSlot

/-- The epoch under which a request's steps run: its own, or the job's current one under FOLLOW (Table 10-8). -/
def State.stepsUnder (s : State) (n j i : Nat) : Nat :=
  let e := s.rqEpoch i
  if e = s.jobEpoch n j ∨ (s.job n j).oldEpoch = some e then e else s.jobEpoch n j

/-- QUEUED requests in admission order, one after the other (R334); answers the placed ones. -/
def State.admitQueued (s : State) (n j e : Nat) (ad : List Byte) : List Nat → List (Nat × Nat) → State × List (Nat × Nat)
  | [], placed => (s, placed)
  | i :: r, placed =>
    if !s.feasible n j i && !(s.rf i 2 1).testBit 2 then State.admitQueued (s.endRequest n i 8 0x06) n j e ad r placed
    else
      let occ := s.occupied n j
      if adCap ad ≤ occ.length then (s, placed)
      else if adCap ad - adUres ad ≤ occ.length ∧ s.rqUrgent i = false then (s, placed)
      else
        let nt := s.ntokOf i ad
        if adChunk ad = 0 ∨ adBucket ad < nt then State.admitQueued s n j e ad r placed
        else if !s.fits n (placed ++ [(i, nt)]) then State.admitQueued s n j e ad r placed
        else
          let slot := (lowestFrom (fun x => !occ.contains x) 0 (adCap ad)).getD 0
          let s1 := (((s.setRf i 0x4E 2 slot).setRf i 0 1 2).setRf i 0x0C 4 e).setRf i 1 1 (s.rqPrio i)
          State.admitQueued (s1.onRx i (fun x => { x with first := true, placeTime := (s.part n).te })) n j e ad r (placed ++ [(i, nt)])

/-- PAUSED requests in order of pausing (R334). -/
def State.admitPaused (s : State) (n : Nat) (ad : List Byte) : List Nat → List (Nat × Nat) → State × List (Nat × Nat)
  | [], placed => (s, placed)
  | i :: r, placed =>
    let nt := s.ntokOf i ad
    if s.bucketOk i ad && s.fits n (placed ++ [(i, nt)]) then
      State.admitPaused (s.setRf i 0 1 (if s.isPrefill i then 2 else 3)) n ad r (placed ++ [(i, nt)])
    else State.admitPaused s n ad r placed

/-- The body has less than the reserve of R365. -/
def State.auditShort (s : State) (n j : Nat) (ad : List Byte) : Bool :=
  match s.auditRegion n with
  | none => false
  | some r =>
    let g := s.num (E.EVID_GROUPS n)
    let b := auditLen 160 + auditLen (80 + 16 * 9 + 128 * 9 * g) + auditLen 32
    decide (s.auditFree n r < adCap ad * b + 128 * (s.jobEntries n j).length)

/-! The batch table (R337, Table 11-7) -/

/-- The slot record and parameter block of a batch slot. -/
def State.batchSlot (s : State) (slot : Nat) (b : List (Nat × Nat)) : List Byte × List Byte :=
  match b.find? (fun x => x.1 == slot) with
  | none => (leBytes 2 0xFFFF ++ leBytes 2 0xFFFF ++ zeros 60, zeros 32)
  | some (_, i) =>
    let q := s.rq i
    let x := s.rx i
    let pre := s.isPrefill i
    let done := s.rqDone i
    let snap := pre && s.rqFlag i 3 && done + x.ntok == s.rqTarget i
    let fl := (if x.first then 1 else 0) + (if snap then 2 else 0) + (if s.rqFlag i 4 then 4 else 0)
    let addr := if !pre then 0 else if done < s.rqPrompt i then fld q 0x30 8 + 4 * done else x.replayAddr + 4 * (done - s.rqPrompt i)
    (leBytes 2 i ++ bytesAt q 8 2 ++ leBytes 1 (if pre then 1 else 2) ++ leBytes 1 fl ++ leBytes 2 x.ntok ++ bytesAt q 4 4 ++
       bytesAt q 0x4A 2 ++ zeros 2 ++ leBytes 8 addr ++ (if x.first then bytesAt q 0x28 8 else zeros 8) ++ bytesAt q 0x74 12 ++ zeros 20,
     bytesAt q 0x60 8 ++ leBytes 4 (s.rqLen i + x.ntok) ++ bytesAt q 0x68 8 ++ bytesAt q 0x70 2 ++ leBytes 1 1 ++ zeros 9)

/-- The batch table written to every active hearth (R337). -/
def State.writeBatch (s : State) (n : Nat) (ad : List Byte) (b : List (Nat × Nat)) : State :=
  let xs := (List.range (adCap ad)).map (fun slot => s.batchSlot slot b)
  let bytes := xs.flatMap Prod.fst ++ xs.flatMap Prod.snd
  forAll (s.hearthsOf n) (fun l s => s.store (hearthBase (s.phys l) + adHaddr ad) bytes) s

/-- The admission of a generation step of a job under an epoch (R334). The batch stands in slot order (log 178). -/
def State.admitRequests (s : State) (n j e : Nat) (ad : List Byte) : State :=
  let none1 := forAll (s.jobEntries n j) (fun i s => s.onRx i (fun x => { x with placed := false })) s
  let inf := (none1.jobEntries n j).filter (fun i => s.stepsUnder n j i == e)
  let stall := none1.auditShort n j ad
  let s0 := if stall then (none1.bump (E.AUDIT_STALLS n)).raise 0xEC02 (scopeP n) else none1
  let want := if stall then [] else (inf.filter (fun i => [2, 3, 5].contains (s0.rqState i) && s0.bucketOk i ad)).map (fun i => (i, s0.ntokOf i ad))
  let s1 := s0.evictHandles n want
  let order := sortBy (fun a b => decide (s1.rqPrio b.1 < s1.rqPrio a.1) || (s1.rqPrio a.1 == s1.rqPrio b.1 &&
    (decide (s1.rqAdmit b.1 < s1.rqAdmit a.1) || (s1.rqAdmit a.1 == s1.rqAdmit b.1 && decide (b.1 ≤ a.1))))) want
  let x := s1.withholdAll n want order
  let withheld := (want.filter (fun y => !x.2.contains y)).map Prod.fst
  let paused := if stall then [] else sortBy (fun a b => decide ((x.1.rx a).paused ≤ (x.1.rx b).paused))
    (inf.filter (fun i => x.1.rqState i == 4 && !withheld.contains i))
  let y := x.1.admitPaused n ad paused x.2
  let queued := (y.1.jobEntries n j).filter (fun i => y.1.rqState i == 1)
  let z := if stall || e != s.jobEpoch n j || (s.job n j).draining then y else y.1.admitQueued n j e ad (sortBy y.1.admitBefore queued) y.2
  let s2 := forAll ((z.1.jobEntries n j).filter (fun i => z.1.rqState i == 1)) (fun i s =>
    let w := min (s.rf i 0x48 2 + 1) 0xFFFF
    let s1 := s.setRf i 0x48 2 w
    if s1.num (E.AGE_STEPS n) ≤ w then s1.setRf i 1 1 (s1.rqPrio i + 128) else s1) z.1
  let s3 := forAll z.2 (fun p s => s.onRx p.1 (fun x => { x with placed := true, ntok := p.2 })) s2
  let b := sortBy (fun x y => decide (x.1 ≤ y.1)) (z.2.map (fun p => (s3.rqSlot p.1, p.1)))
  (s3.writeBatch n ad b).onPart n (fun p => { p with batch := b, stalled := stall })

/-- JOB_DRAIN, taken at action 8: QUEUED requests end, those in flight become DRAINING (R332). -/
def State.applyDrain (s : State) (n j : Nat) : State :=
  if !(s.job n j).drainReq then s else
  let s1 := s.onJob n j (fun x => { x with drainReq := false, draining := true })
  let s2 := forAll (s1.jobEntries n j) (fun i s =>
    if s.rqState i = 1 then s.endRequest n i 8 0x05
    else if [2, 3, 4].contains (s.rqState i) then s.setRf i 0 1 5 else s) s1
  s2.drainCheck n j

/-- The drains that wait of every job slot. -/
def State.applyDrains (s : State) (n : Nat) : State := forAll (List.range 8) (fun j s => s.applyDrain n j) s

/-- The start-of-step poll of REQQ (R324). -/
def State.takeMessages (s : State) (n j : Nat) (ad : List Byte) : State :=
  let jb := s.job n j
  let q := adReqq ad
  let slots := (((Config.pollStart (cdPoll jb.img) jb.kind).find? (fun x => x.1 == q)).map Prod.snd).getD 0
  let x := s.poll n q slots
  let s2 := forAll x.2 (fun m s => s.message n j m) x.1
  s2.onPart n (fun p => { p with polled := p.polled || !x.2.isEmpty || !s2.queueEmpty n q })

/-! The learning record (Table 13-2) -/

/-- The exchange record of a step kind of a learning cord (Table 13-1). -/
def State.exchange (s : State) (n j kind : Nat) : Option (List Byte) :=
  if cdKind (s.job n j).img = 2 then (Config.pollExchange (cdPoll (s.job n j).img)).find? (fun r => fld r 0 2 == kind) else none

/-- ROLE of an exchange record is exchange. -/
def exIs (r : Option (List Byte)) : Bool := match r with | some x => fld x 2 1 == 1 | none => false

/-- A field of a job slot's LR_STATUS record. -/
def State.lr (s : State) (n j o w : Nat) : Nat := fld (s.blob (E.LR_STATUS n)) (32 * j + o) w
/-- Sets a field of LR_STATUS. -/
def State.setLr (s : State) (n j o w v : Nat) : State := s.setBlob (E.LR_STATUS n) (setFld (s.blob (E.LR_STATUS n)) (32 * j + o) w v)

/-- The learning record written on every active hearth (R369). -/
def State.writeLearning (s : State) (n j kind : Nat) : State :=
  match s.exchange n j kind with
  | none => s
  | some x =>
    let t := s.lr n j 0 8
    let jb := s.job n j
    let b := leBytes 8 t ++ leBytes 2 (s.lr n j 8 2) ++ leBytes 1 (fld x 2 1) ++ leBytes 1 (t % 2) ++
      leBytes 1 ((if jb.repeatX then 1 else 0) + (if jb.resumed then 2 else 0)) ++ leBytes 1 (s.lr n j 11 1) ++ zeros 2 ++
      leBytes 8 (s.lr n j 12 8) ++ zeros 40
    (forAll (s.hearthsOf n) (fun l s => s.store (hearthBase (s.phys l) + fld x 8 4) b) s).onJob n j (fun y => { y with resumed := false })

end Sys2Proof.Machine
end

