-- ==== Sys2Proof/Machine/LearnState.lean ====
section
/-!
DEFINITION. Learning groups (R384 to R386): ready tokens, pieces, votes and verdicts, as the NIC engines keep them. The
layout of the tokens is not given (log 34); the way round the ring that each takes is a choice (log 40).
-/
namespace Sys2Proof.Machine

/-- TSTEP of a job slot. -/
def State.lrTstep (s : State) (n j : Nat) : Nat := s.lr n j 0 8
/-- ATTEMPT of a job slot. -/
def State.lrAttempt (s : State) (n j : Nat) : Nat := s.lr n j 8 2

/-- The exchange records of a job's cord. -/
def State.exchanges (s : State) (n j : Nat) : List (List Byte) :=
  if cdKind (s.job n j).img = 2 then Config.pollExchange (cdPoll (s.job n j).img) else []

/-- The learning group number of a job slot. -/
def State.lrGroupNo (s : State) (n j : Nat) : Option Nat := (s.exchanges n j).head?.map (fun r => fld r 4 2)

/-- The group record of CLASS 2 that carries a learning group (R442). -/
def State.lrRecord (s : State) (n grp : Nat) : Option Nat :=
  (List.range 64).find? (fun g => (s.group n g).enabled && fld (s.group n g).bytes 0 2 == grp && fld (s.group n g).bytes 2 1 == 2)

/-- The job slot of a learning group. -/
def State.lrJob (s : State) (n grp : Nat) : Option Nat := (s.loadedJobs n).find? (fun j => s.lrGroupNo n j == some grp)

/-- MEMBERS and INDEX of a learning group; a group without a record has this member alone. -/
def State.lrRing (s : State) (n grp : Nat) : Nat × Nat :=
  match s.lrRecord n grp with
  | some g => (fld (s.group n g).bytes 4 2, fld (s.group n g).bytes 6 2)
  | none => (1, 0)

/-- Kinds of learning tokens (log 34). -/
def ltReady : Nat := 1
def ltVote : Nat := 2
def ltVerdict : Nat := 3
def ltQuery : Nat := 4

/-- A token sent to a member through its window. -/
def State.lrSendTo (s : State) (n grp d : Nat) (body : List Byte) : State :=
  match s.lrRecord n grp with
  | none => s
  | some g =>
    let w := s.window n (fld (s.group n g).bytes 0x18 2 + d)
    s.sendOnly { path := wnPath w, part := n, tag := 0, msgid := 0, kind := 7, dest := wnEnd w, body := body }

/-- A token sent to the next member of the ring. -/
def State.lrSendNext (s : State) (n grp : Nat) (body : List Byte) : State :=
  let r := s.lrRing n grp
  if r.1 ≤ 1 then s else s.lrSendTo n grp ((r.2 + 1) % r.1) body

/-! Ready tokens (rule 1) -/

/-- A ready token is held, and forwarded until it has gone round. -/
def State.lrReady (s : State) (n j grp tstep attempt m : Nat) : State :=
  let r := s.lrRing n grp
  if (s.job n j).lrTokens.contains (tstep, attempt, m) then s else
  let keep := (s.job n j).lrTokens.filter (fun x => decide (s.lrTstep n j ≤ x.1))
  let s1 := s.onJob n j (fun x => { x with lrTokens := keep ++ [(tstep, attempt, m)] })
  if (r.2 + 1) % max r.1 1 = m then s1 else s1.lrSendNext n grp (Config.lrBody ltReady grp tstep attempt m 0)

/-- Matching tokens of every member are held. -/
def State.lrAllReady (s : State) (n j grp : Nat) : Bool :=
  (List.range (s.lrRing n grp).1).all (fun m => (s.job n j).lrTokens.contains (s.lrTstep n j, s.lrAttempt n j, m))

/-! Votes and verdicts (rules 5 to 7, R386) -/

/-- A verdict is learnt: it enters the history of the last 4 attempts; for the attempt in progress it is the verdict awaited;
a verdict 1 of another attempt of the current training step commits it at the next boundary (R386). -/
def State.lrLearn (s : State) (n j tstep attempt v : Nat) : State :=
  let jb := s.job n j
  let s1 := if jb.lrHist.any (fun h => h.1 == tstep && h.2.1 == attempt) then s
    else s.onJob n j (fun x => { x with lrHist := pushCap 4 x.lrHist (tstep, attempt, v) })
  if tstep = s.lrTstep n j then
    if attempt = s.lrAttempt n j then s1.onJob n j (fun x => { x with lrVerdict := some v })
    else if v = 1 then s1.onJob n j (fun x => { x with lrForce := true })
    else s1
  else s1

/-- The first round: the votes so far, combined with this member's own once it is cast; member 0 closes the round with the
verdict and starts the second. -/
def State.lrVoteRound (s : State) (n j grp tstep attempt v : Nat) : State :=
  let r := s.lrRing n grp
  match (s.job n j).lrVote with
  | some (t, a, own) =>
    if t = tstep ∧ a = attempt then
      if r.2 = 0 then (s.lrLearn n j tstep attempt v).lrSendNext n grp (Config.lrBody ltVerdict grp tstep attempt 0 v)
      else s.lrSendNext n grp (Config.lrBody ltVote grp tstep attempt r.2 (if v = 1 ∧ own = 1 then 1 else 0))
    else s.onJob n j (fun x => { x with lrRing := [(tstep, attempt, v)] })
  | none => s.onJob n j (fun x => { x with lrRing := [(tstep, attempt, v)] })

/-- This member's vote is cast: member 0 starts the first round, another member answers a round that waits for it. -/
def State.lrCast (s : State) (n j grp v : Nat) : State :=
  let t := s.lrTstep n j
  let a := s.lrAttempt n j
  let r := s.lrRing n grp
  let s1 := s.onJob n j (fun x => { x with lrVote := some (t, a, v) })
  if r.1 ≤ 1 then s1.lrLearn n j t a v
  else if r.2 = 0 then s1.lrSendNext n grp (Config.lrBody ltVote grp t a 0 v)
  else match (s.job n j).lrRing.find? (fun x => x.1 == t && x.2.1 == a) with
    | some x => (s1.onJob n j (fun y => { y with lrRing := [] })).lrVoteRound n j grp t a x.2.2
    | none => s1

/-- A verdict arrives: the second round, forwarded until it reaches member 0 again, or an answer. -/
def State.lrVerdictIn (s : State) (n j grp tstep attempt m v : Nat) : State :=
  let r := s.lrRing n grp
  let known := (s.job n j).lrHist.any (fun h => h.1 == tstep && h.2.1 == attempt)
  let s1 := s.lrLearn n j tstep attempt v
  if m = 0 ∧ r.2 ≠ 0 ∧ (r.2 + 1) % max r.1 1 ≠ 0 ∧ known = false then s1.lrSendNext n grp (Config.lrBody ltVerdict grp tstep attempt 0 v) else s1

/-- A query that travels round the ring for `m`: answered from the history, or forwarded (rules 6 and 7). The answer names
this member. -/
def State.lrQueryIn (s : State) (n j grp tstep attempt m : Nat) : State :=
  let r := s.lrRing n grp
  match (s.job n j).lrHist.find? (fun h => h.1 == tstep && h.2.1 == attempt) with
  | some h => s.lrSendTo n grp m (Config.lrBody ltVerdict grp tstep attempt (r.1 + 1) h.2.2)
  | none => if (r.2 + 1) % max r.1 1 = m then s else s.lrSendNext n grp (Config.lrBody ltQuery grp tstep attempt m 0)

/-- The vote of a member when action 1 completes (rule 5). -/
def State.lrOwnVote (s : State) (n j : Nat) (x : List Byte) : Nat :=
  let b := s.readSegs (s.segsOf n (fld x 0x28 8) 64)
  if s.uncorrectable (tierB (taRick (fld x 0x28 8)) + taBoff (fld x 0x28 8)) 64 = false ∧
     fld b 0 8 = s.lrTstep n j ∧ fld b 8 2 = s.lrAttempt n j ∧ fld b 10 1 = 1 ∧ s.discarding n = false then 1 else 0

/-- A new attempt begins: pieces counted, tokens of the ring and reports of the last one are dropped. -/
def State.lrFresh (s : State) (n j : Nat) : State :=
  s.onJob n j (fun x => { x with lrVote := none, lrVerdict := none, lrPieces := 0, lrStale := false })

/-! Pieces (rules 2 and 3) -/

/-- The payload begins with a piece header (Table 13-6). -/
def isPiece (d : List Byte) : Bool := decide (32 ≤ d.length) && fld d 0 4 == 0x43454950

/-- The member of a group at an endpoint. -/
def State.lrMemberAt (s : State) (n grp ep : Nat) : Option Nat :=
  match s.lrRecord n grp with
  | none => none
  | some g => (List.range (s.lrRing n grp).1).find? (fun d =>
      let w := s.window n (fld (s.group n g).bytes 0x18 2 + d)
      wnValid w && wnEnd w == ep)

/-- The piece belongs to the current attempt of a job. -/
def State.pieceCurrent (s : State) (n j : Nat) (d : List Byte) : Bool :=
  s.lrGroupNo n j == some (fld d 4 2) && fld d 8 8 == s.lrTstep n j && fld d 0x10 2 == s.lrAttempt n j

/-- A piece of another attempt is dropped; a known verdict goes to its sender. -/
def State.pieceStale (s : State) (n j src : Nat) (d : List Byte) : State :=
  let grp := fld d 4 2
  let s1 := s.bump (E.LR_STALE_PIECES n)
  let s2 := if (s.job n j).lrStale then s1 else (s1.onJob n j (fun x => { x with lrStale := true })).raise 0xED03 (scopeP n)
  match (s.job n j).lrHist.find? (fun h => h.1 == fld d 8 8 && h.2.1 == fld d 0x10 2), s.lrMemberAt n grp src with
  | some h, some m => s2.lrSendTo n grp m (Config.lrBody ltVerdict grp h.1 h.2.1 ((s.lrRing n grp).1 + 1) h.2.2)
  | _, _ => s2

/-- A piece of the attempt has landed; the last of them writes the arrival block. -/
def State.pieceLanded (s : State) (n j : Nat) : State :=
  let c := (s.job n j).lrPieces + 1
  let s1 := s.onJob n j (fun x => { x with lrPieces := c })
  match (s.exchanges n j).find? (fun r => fld r 2 1 == 1) with
  | some r =>
    if fld r 0x0C 4 = c then
      s1.writeTier n (fld r 0x20 8) (leBytes 8 (s.lrTstep n j) ++ leBytes 2 (s.lrAttempt n j) ++ [1, 0] ++ leBytes 4 c ++ zeros 48)
    else s1
  | none => s1

end Sys2Proof.Machine
end

