-- ==== Sys2Proof/Machine/Shards.lean ====
section
/-!
DEFINITION. Weight sets in motion: fetching (R294 to R297), eviction (R302, R303), holds and refetches (R315 to R320),
and their events.
-/
namespace Sys2Proof.Machine

/-! Shard files (R291) -/

/-- Byte of a shard file at which a shard begins. -/
def shardFileAt (man : List Byte) (i : Nat) : Nat := sumOf (List.range i) (fun j => 4096 * ceilDiv (272 + 4096 * mePages (mfEntry man j)) 4096)

/-- A firmware measurement: SHA-384 over the signed bytes of the running bank's image of a KIND, 1 collier and 2 retort (R486). -/
def State.measure (s : State) (kind : Nat) : List Byte :=
  let o := s.banks.getD (s.bank * 256 + kind) []
  Config.sha384 (o.take (128 + fld o 0x10 8))

/-- The set key of a tenant slot by KEY_ID. A record is what SETKEY_LIST shows of the key, 64 bytes, and then the key; one whose FW_MEAS is neither zero nor the
running M_collier is unusable (R292, R501, R502). -/
def State.setKey (s : State) (t keyId : Nat) : Option (List Byte) :=
  ((s.setkeys.getD t []).find? (fun r => fld r 0 8 == keyId && (allZero (bytesAt r 16 48) || bytesAt r 16 48 == bytesAt (s.measure 1) 0 48))).map (fun r => r.drop 64)

/-- What a delivered shard of a shard file gives: its plaintext, or the code of Table 10-7. -/
def State.openFile (s : State) (n w i : Nat) (data : List Byte) : List Byte ⊕ Nat :=
  let x := s.wset n w
  let e := mfEntry x.man i
  let len := 4096 * mePages e
  if data.length < 272 + len then .inr 5
  else
    let h := bytesAt data 0 256
    if !(fld h 0 4 == 0x44524853 && fld h 4 2 == 1 && fld h 6 2 == 0 && fld h 8 4 == i && fld h 0x0C 4 == mePages e && allZero (bytesAt h 0x24 12) &&
        bytesAt h 0x30 48 == meDigest e && bytesAt h 0x60 48 == bytesAt x.digest 0 48 && allZero (bytesAt h 0x90 112)) then .inr 1
    else match s.setKey (s.num (E.PART_TENANT n)) (fld h 0x10 8) with
      | none => .inr 2
      | some k => match Config.openShard k h (bytesAt data 256 (len + 16)) with
        | none => .inr 3
        | some p => if p.length = len ∧ Config.sha384 p = meDigest e then .inl p else .inr 4

/-- What a shard read from a peer replica gives: checked by digest only (R294). -/
def State.openPeer (s : State) (n w i : Nat) (data : List Byte) : List Byte ⊕ Nat :=
  let e := mfEntry (s.wset n w).man i
  if data.length ≠ 4096 * mePages e then .inr 5 else if Config.sha384 data = meDigest e then .inl data else .inr 4

/-- A source record of a set. -/
def WSet.source (x : WSet) (k : Nat) : List Byte := bytesAt x.sources (32 * k) 32

/-- A delivered shard is judged by the KIND of its source. -/
def State.openFrom (s : State) (n w i k : Nat) (data : List Byte) : List Byte ⊕ Nat :=
  if fld ((s.wset n w).source k) 0 1 = 1 then s.openFile n w i data else s.openPeer n w i data

/-! Sources (Table 10-6) -/

/-- A source can be reached: its connection works, or its window is valid. -/
def State.reachable (s : State) (n w i k : Nat) : Bool :=
  let r := (s.wset n w).source k
  if fld r 0 1 = 1 then (s.conn n (fld r 4 4)).st == 1
  else wnValid (s.window n (fld r 0x0C 2 + meRank (mfEntry (s.wset n w).man i)))

/-- A shard is read from a source of its set. -/
def State.readSource (s : State) (n w i k : Nat) : State :=
  let x := s.wset n w
  let r := x.source k
  let e := mfEntry x.man i
  let win := s.window n (fld r 0x0C 2 + meRank e)
  let m : Msg := if fld r 0 1 = 1 then
      { path := 3, part := n, tag := fld r 4 4, msgid := 0, kind := 0x02, rkey := fld r 8 4, roff := fld r 0x10 8 + shardFileAt x.man i, len := 272 + 4096 * mePages e }
    else { path := wnPath win, part := n, tag := 0, msgid := 0, kind := 0x02, dest := wnEnd win, rkey := wnRkey win, roff := meOff e, len := 4096 * mePages e }
  s.send [] m (.shard w i k)

/-- A source fails: event 0xEA01 with its code, LASTFAIL (R297, R316). -/
def State.sourceFails (s : State) (n w i code : Nat) : State :=
  (s.onWset n w (fun x => x.setFail i code)).raise 0xEA01 (scopeP n) [code]

/-- The sources of a set from a place on. -/
def WSet.sourcesFrom (x : WSet) (k : Nat) : List Nat := (List.range 4).filter (fun j => decide (k ≤ j) && fld (x.source j) 0 1 != 0)

/-- A shard is fetched from the first source that can be reached; without one it is ABSENT (R297),
and kindling fails (R576). -/
def State.fetchFrom (s : State) (n w i : Nat) : List Nat → State
  | [] =>
    let s1 := s.onWset n w (fun x => { x.setShard i 0 with trying := x.trying.del i })
    if s1.kindPart = n ∧ w = 0 ∧ fld (s1.blob E.KINDLING_STATUS) 0 1 = 2 then s1.failKindling 3 0 0 else s1
  | k :: r =>
    if s.reachable n w i k then (s.onWset n w (fun x => { x.setShard i 1 with trying := x.trying.put i k })).readSource n w i k
    else State.fetchFrom (s.sourceFails n w i 5) n w i r

/-- Fetches in progress in a partition. -/
def State.fetching (s : State) (n : Nat) : Nat :=
  sumOf (List.range 8) (fun w => let x := s.wset n w; (x.trying.filter (fun p => x.shard p.1 == 1)).length)

/-- Wanted shards take the free fetches, in ascending INDEX, up to 16 at once (R296). -/
def State.fetchMore : Nat → State → Nat → State
  | 0, s, _ => s
  | f + 1, s, n =>
    if 16 ≤ s.fetching n then s else
    match (List.range 8).find? (fun w => !(s.wset n w).wanted.isEmpty) with
    | none => s
    | some w =>
      let x := s.wset n w
      let i := (x.wanted.head?).getD 0
      let s1 := s.onWset n w (fun x => { x with wanted := x.wanted.tail })
      State.fetchMore f (if x.shard i = 0 then s1.fetchFrom n w i (x.sourcesFrom 0) else s1) n

/-- The wanted shards of every set of a partition. -/
def State.fetchSome (s : State) (n : Nat) : State := State.fetchMore (sumOf (List.range 8) (fun w => (s.wset n w).wanted.length) + 1) s n

/-- Every ABSENT shard of a set is to be fetched. -/
def State.wantAll (s : State) (n w : Nat) : State :=
  (s.onWset n w (fun x => { x with wanted := (List.range (mfCount x.man)).filter (fun i => x.shard i == 0) })).fetchSome n

/-! Failure of a set (R318, R320) -/

/-- Every in-flight request whose steps stream the set ends FAILED with WEIGHTS_UNAVAILABLE. -/
def State.failSet (s : State) (n w : Nat) : State :=
  forAll ((s.entriesOf n).filter (fun i => inFlight (s.rqState i) && s.epochSet n (s.rqJob i) (s.stepsUnder n (s.rqJob i) i) == w))
    (fun i s => s.endRequest n i 8 0x12) s

/-- Every source of a refetch failed: the set is BROKEN (R320). -/
def State.breakSet (s : State) (n w : Nat) : State :=
  let s0 := match (s.wset n w).heldSince with
    | some t => s.unavailable n 3 t
    | none => s
  let s1 := ((s0.failSet n w).onWset n w (fun x => { x with st := 7, trying := [], wanted := [], heldSince := none })).raise 0xEA09 (scopeP n)
  forAll (List.range 8) (fun j s =>
    let s2 := if s.jobSet n j = w then s.setJobEpoch n j (s.jobEpoch n j) 0xFF else s
    if (s2.job n j).pendSwitch = some w then
      (s2.onJob n j (fun x => { x with pendSwitch := none })).setNum (E.SWITCH_PENDING n)
        (let p := s2.num (E.SWITCH_PENDING n); if p.testBit j then p - 2 ^ j else p)
    else s2) s1

/-! Refetches (R316). Sources in order: 0 the other copy, 1 another set of the partition, 2 + k source record k. -/

/-- The copy being mended: tier B first. -/
def WSet.mendB (x : WSet) (i : Nat) : Bool := x.badB.contains i

/-- A source of a refetch is there. -/
def State.refetchSource (s : State) (n w i k : Nat) : Bool :=
  let x := s.wset n w
  if k = 0 then (if x.mendB i then x.backed && !x.badS.contains i else !x.badB.contains i)
  else if k = 1 then (List.range 8).any (fun v => v != w &&
    (List.range (mfCount (s.wset n v).man)).any (fun j => (s.wset n v).shard j == 2 && meDigest (mfEntry (s.wset n v).man j) == meDigest (mfEntry x.man i)))
  else fld (x.source (k - 2)) 0 1 != 0

/-- The refetch of a poisoned copy goes to the first source from a list; with none left the set is BROKEN. -/
def State.refetchFrom (s : State) (n w i : Nat) : List Nat → State
  | [] => s.breakSet n w
  | k :: r =>
    if !s.refetchSource n w i k then State.refetchFrom s n w i r
    else if 2 ≤ k ∧ s.reachable n w i (k - 2) = false then State.refetchFrom (s.sourceFails n w i 5) n w i r
    else
      let s1 := s.onWset n w (fun x => { x.setShard i 5 with trying := x.trying.put i k })
      if 2 ≤ k then s1.readSource n w i (k - 2) else s1

/-- Every POISONED shard of a partition is refetched, once (R316). -/
def State.refetches (s : State) (n : Nat) : State :=
  forAll (List.range 8) (fun w s =>
    forAll ((List.range (mfCount (s.wset n w).man)).filter (fun i => (s.wset n w).shard i == 4)) (fun i s =>
      if (s.wset n w).st = 7 then s else s.refetchFrom n w i [0, 1, 2, 3, 4, 5]) s) s

/-- A hold ends when no shard is POISONED or REFETCHING: the set returns to the state its shards give. -/
def State.endHold (s : State) (n w : Nat) : State :=
  let x := s.wset n w
  if x.st = 4 ∧ x.anyBad = false then
    (s.unavailable n 3 (x.heldSince.getD s.now)).onWset n w (fun x => { x with st := if x.allResident then 3 else if x.heldFrom = 3 then 2 else x.heldFrom, heldSince := none })
  else s

/-- A refetched copy is written; with the other copy clean the shard is RESIDENT again (R316). -/
def State.refetched (s : State) (n w i : Nat) (plain : List Byte) : State :=
  let x := s.wset n w
  let p := s.shardPlace n w i
  let b := s.region n p.1
  let s1 := if x.mendB i then
      let s1 := s.writeRegion n p.1 p.2.1 plain
      { s1 with dirty := (pagesOf (rgBoff b + p.2.1) p.2.2).foldl (fun t q => t.del (pageB (rgRick b) q)) s1.dirty }
    else s.writeS n (rgSoff b + p.2.1) plain
  let s2 := (s1.onWset n w (fun x => { x with
      badB := if x.mendB i then x.badB.filter (fun k => k != i) else x.badB,
      badS := if x.mendB i then x.badS else x.badS.filter (fun k => k != i),
      checked := x.checked.put (if x.mendB i then i else 65536 + i) (s.num (E.STEP_COUNT n)), trying := x.trying.del i }))
  let s3 := (s2.bump (E.REFETCHES n)).raise 0xEA05 (scopeP n)
  let y := s3.wset n w
  if y.badB.contains i ∨ y.badS.contains i then (s3.onWset n w (fun x => x.setShard i 4)).refetches n
  else (s3.onWset n w (fun x => x.setShard i 2)).endHold n w

/-- A source of a refetch fails; the next is tried. -/
def State.refetchFails (s : State) (n w i code : Nat) : State :=
  let k := (s.wset n w).trying.getD i 6
  (s.sourceFails n w i code).refetchFrom n w i ((List.range 6).filter (fun j => decide (k < j)))

/-- The plaintext a local source of a refetch holds. -/
def State.refetchLocal (s : State) (n w i k : Nat) : List Byte :=
  let x := s.wset n w
  let own := s.shardPlace n w i
  let b := s.region n own.1
  if k = 0 then (if x.mendB i then s.readSegs (s.segsS n (rgSoff b + own.2.1) own.2.2) else s.readRegion n own.1 own.2.1 own.2.2)
  else
    let hit := (List.range 8).findSome? (fun v => if v = w then none else
      ((List.range (mfCount (s.wset n v).man)).find? (fun j => (s.wset n v).shard j == 2 && meDigest (mfEntry (s.wset n v).man j) == meDigest (mfEntry x.man i))).map (fun j => (v, j)))
    match hit with
    | some (v, j) => let q := s.shardPlace n v j; s.readRegion n q.1 q.2.1 q.2.2
    | none => []

/-- The bytes a source delivered; none at all for a transfer error. A fetch ends RESIDENT or tries the next
source (R296, R297); a refetch likewise (R316). -/
def State.shardArrives (s1 : State) (n w shard : Nat) (data : List Byte) : State :=
  let x := s1.wset n w
  match Tab.look x.trying shard with
  | none => s1
  | some k =>
    let refetch := x.shard shard == 5
    if refetch ∧ k < 2 then s1 else
    let src := if refetch then k - 2 else k
    let s2 := { s1 with flights := s1.flights.filter (fun f => !(f.2.use == Use.shard w shard src && f.2.part == n)) }
    match s2.openFrom n w shard src data with
    | .inr code =>
      if refetch then s2.refetchFails n w shard code
      else ((s2.sourceFails n w shard code).fetchFrom n w shard (x.sourcesFrom (k + 1))).fetchSome n
    | .inl plain =>
      if refetch then s2.refetched n w shard plain
      else
        let p := s2.shardPlace n w shard
        let s3 := s2.writeRegion n p.1 p.2.1 plain
        let s4 := if x.backed then s3.copyShardToS n w shard else s3
        ((s4.shardResident n w shard).setReady n w).fetchSome n

/-- SHARD_ARRIVAL: what a source delivered has arrived. -/
def execShardArrival (n : Fin 12) (w : Fin 8) (shard : Nat) (data : List Byte) (t : Nat) (s : State) : Host.Outcome State Fault Refusal :=
  .next (((s.at t).refetches n).shardArrives n w shard data)

/-- REFETCH_COMPLETE: the source being tried has delivered a copy, or has failed (R316, R320). A local copy is hashed like
any other; what a remote source delivered arrives as SHARD_ARRIVAL, so that only its failure is told here. -/
def execRefetchComplete (n : Fin 12) (w : Fin 8) (shard : Nat) (ok : Bool) (t : Nat) (s : State) : Host.Outcome State Fault Refusal :=
  let s1 := (s.at t).refetches n
  let x := s1.wset n w
  .next (
    if x.shard shard ≠ 5 then s1 else
    match Tab.look x.trying shard with
    | none => s1
    | some k =>
      if ok then
        if 2 ≤ k then s1 else
        let plain := s1.refetchLocal n w shard k
        if Config.sha384 plain = meDigest (mfEntry x.man shard) then s1.refetched n w shard plain else s1.refetchFails n w shard 4
      else
        { s1 with flights := s1.flights.filter (fun f => !(f.2.use == Use.shard w shard (k - 2) && f.2.part == n.val)) }.refetchFails n w shard 5)

/-- HOLD_LIMIT_EXPIRY: the set is still HELD after HOLD_LIMIT_NS; its requests end and the refetch goes on (R318). -/
def execHoldLimitExpiry (n : Fin 12) (w : Fin 8) (t : Nat) (s : State) : Host.Outcome State Fault Refusal :=
  let s1 := s.at t
  let x := s1.wset n w
  .next (
    match x.heldSince with
    | some h =>
      if x.st = 4 ∧ !x.expired ∧ h + s1.num (E.HOLD_LIMIT_NS n) ≤ s1.now then
        ((s1.failSet n w).onWset n w (fun x => { x with expired := true })).raise 0xEA06 (scopeP n)
      else s1
    | none => s1)

/-! Eviction (R302, R303) -/

/-- The regions of a set that hold a tier B span. -/
def State.liveRegions (s : State) (n w : Nat) : List Nat := (s.wset n w).regions.filter (fun r => rgLive (s.region n r) && rgLen (s.region n r) != 0)

/-- The tier B span of a region is freed: LIVE clears (R278). -/
def State.dropB (s : State) (n r : Nat) : State :=
  let b := s.region n r
  let s1 := { s with dirty := s.dirty.filter (fun d => !(decide (pageB (rgRick b) (rgBoff b) ≤ d.1) && decide (d.1 < pageB (rgRick b) (rgBoff b + rgLen b)))) }
  s1.regionFlag n r 1 false

/-- The shards of a set that lie in a region take a state, those that are ABSENT or still FETCHING apart, which are ABSENT. -/
def State.regionShards (s : State) (n w r v : Nat) : State :=
  let rank := ((s.wset n w).regions.findIdx? (fun q => q == r)).getD 12
  s.onWset n w (fun x => { x with shards := x.shards.mapIdx (fun i b => if meRank (mfEntry x.man i) = rank then b / 16 * 16 + (if b % 16 < 2 then 0 else v) else b) })

/-- The pages of a region are copied to its tier S span. -/
def State.copyRegionToS (s : State) (n r : Nat) : State :=
  let b := s.region n r
  s.writeS n (rgSoff b) (s.readRegion n r 0 (rgLen b))

/-- The set is EVICTED or PARTIAL (Table 10-4). -/
def State.evicted (s : State) (n w : Nat) : State :=
  (s.onWset n w (fun x => { x with evicting := false, st := if x.shards.all (fun b => b % 16 == 3) then 5 else 6 })).raise 0xEA07 (scopeP n)

/-- The fetches of a set are given up: what is FETCHING is ABSENT again (log 169). -/
def State.dropFetches (s : State) (n w : Nat) : State :=
  s.onWset n w (fun x => { x with trying := [], wanted := [], shards := x.shards.map (fun b => if b % 16 = 1 then b / 16 * 16 else b) })

/-- An eviction begins: the set's fetches are given up; backed regions are dropped after the write-back of their dirty pages; an unbacked region gets a tier
S span and is copied, which takes time; without a span its tier B bytes are given up. -/
def State.beginEvict (s0 : State) (n w : Nat) : State :=
  let s := s0.dropFetches n w
  let s1 := forAll (s.liveRegions n w) (fun r s =>
    let b := s.region n r
    if rgHasS b then
      let dirty := (pagesOf (rgBoff b) (rgLen b)).filter (fun p => s.dirty.getD (pageB (rgRick b) p) false)
      let s2 := forAll dirty (fun p s => s.writeS n (rgSoff b + (p - rgBoff b)) (s.mem.read (tierB (rgRick b) + p) 4096)) s
      (s2.dropB n r).regionShards n w r 3
    else match (if s.quotaS n (rgLen b) then s.fitS n (rgLen b) else none) with
      | some o => s.setRegion n r (setFld b 24 8 o)
      | none => (s.dropB n r).regionShards n w r 0) s
  if (s1.liveRegions n w).isEmpty then s1.evicted n w else s1.onWset n w (fun x => { x with evicting := true, evictAt := s.now })

/-- EVICTION_COPY_COMPLETE's effect on the set: the copies are in tier S, the tier B spans are freed. -/
def State.finishEvict (s : State) (n w : Nat) : State :=
  if (s.wset n w).evicting = false then s else
  (forAll (s.liveRegions n w) (fun r s => ((s.copyRegionToS n r).dropB n r).regionShards n w r 3) s).evicted n w

/-- A set may be evicted: not HELD, not PINNED, not streamed by a running step, and it has a tier B span. -/
def State.mayEvict (s : State) (n w : Nat) : Bool :=
  let x := s.wset n w
  (x.st == 2 || x.st == 3) && !x.pinned && !x.evicting && !(s.liveRegions n w).isEmpty && ((s.part n).stepSet != w || (s.part n).phase == .idle || s.num (E.ACTIVE_SLOT n) == 0xFF) &&
  !((s.turn n).active && tpRecv (s.turn n).img && tpSet (s.turn n).img == w)

/-- The job slots bound to a set. -/
def State.boundJobs (s : State) (n w : Nat) : List Nat := (List.range 8).filter (fun j => s.jobSet n j == w)

/-- The order of eviction (R302): unbound sets by LAST_USE, then those bound only to job slots that do not run. -/
def State.evictOrder (s : State) (n : Nat) : List Nat :=
  let l := sortBy (fun a b => decide ((s.wset n a).lastUse ≤ (s.wset n b).lastUse)) ((List.range 8).filter (s.mayEvict n))
  l.filter (fun w => (s.boundJobs n w).isEmpty) ++
  l.filter (fun w => !(s.boundJobs n w).isEmpty && !(s.boundJobs n w).any (fun j => s.sliceRuns n j))

/-- The needs fit one after the other: stack and bytes. -/
def State.placeAll (s : State) (n : Nat) : List (Nat × Nat) → List (Nat × Nat × Nat) → Option (List Nat)
  | [], _ => some []
  | (k, len) :: r, taken =>
    let spans := s.spansB n k ++ (taken.filter (fun x => x.1 == k)).map Prod.snd
    match lowestFit spans (s.kvBase n k) len with
    | none => none
    | some o => (State.placeAll s n r (taken ++ [(k, o, len)])).map (fun l => o :: l)

/-- The state as it will be once some sets have given up their tier B spans. -/
def State.withoutSets (s : State) (n : Nat) (l : List Nat) : State :=
  forAll (l ++ (List.range 8).filter (fun w => (s.wset n w).evicting)) (fun w s => forAll (s.liveRegions n w) (fun r s => s.regionFlag n r 1 false) s) s

/-- How room for tier B spans can be had. -/
inductive Room where
  /-- the spans fit now, at these offsets -/
  | now (offs : List Nat)
  /-- they fit when these sets, and those already being evicted, are gone -/
  | after (sets : List Nat)
  /-- they do not fit: a quota is short, or only stack space -/
  | never (quota : Bool)
  deriving DecidableEq, Repr

/-- The spans fit in space and in the tier B quota. -/
def State.fitsRoom (s : State) (n : Nat) (needs : List (Nat × Nat)) : Option (List Nat) :=
  if s.quotaB n (sumOf needs Prod.snd) then s.placeAll n needs [] else none

/-- Room for tier B spans, by eviction if need be (R302). -/
def State.room (s : State) (n : Nat) (needs : List (Nat × Nat)) : Room :=
  match s.fitsRoom n needs with
  | some o => .now o
  | none =>
    let order := s.evictOrder n
    match (List.range (order.length + 1)).find? (fun c => ((s.withoutSets n (order.take c)).fitsRoom n needs).isSome) with
    | some c => .after (order.take c)
    | none => .never (!(s.withoutSets n order).quotaB n (sumOf needs Prod.snd))

/-- Spans a set lacks: the rick and length of each WEIGHT region without a live tier B span. -/
def State.spanNeeds (s : State) (n w : Nat) : List (Nat × Nat) :=
  let x := s.wset n w
  if x.regions.isEmpty then
    ((List.range (mfRanks x.man)).map (fun r => (((s.ricksOf n)[r]?).getD 0, 4096 * mfPages x.man r))).filter (fun p => p.2 != 0)
  else (x.regions.filter (fun r => rgLen (s.region n r) != 0 && !rgLive (s.region n r))).map (fun r => (rgRick (s.region n r), rgLen (s.region n r)))

/-- The spans are given: regions are created, or their tier B spans again. -/
def State.giveSpans (s : State) (n w : Nat) (offs : List Nat) : State :=
  let x := s.wset n w
  if x.regions.isEmpty then
    let ranks := List.range (mfRanks x.man)
    let y := ranks.foldl (fun (a : State × List Nat × List Nat) rk =>
      let len := 4096 * mfPages x.man rk
      let s := a.1
      if len = 0 then (s, a.2.1, a.2.2 ++ [0xFFFF]) else
      match s.freeRegion n with
      | none => (s, a.2.1, a.2.2 ++ [0xFFFF])
      | some r =>
        let soff := if x.backed then (s.fitS n len).getD noSoff else noSoff
        (s.setRegion n r (mkRegion r 1 (2 + if x.backed then 1 else 0) (((s.ricksOf n)[rk]?).getD 0) 0xFF ((a.2.1.head?).getD 0) len soff),
         a.2.1.tail, a.2.2 ++ [r])) (s, offs, [])
    y.1.onWset n w (fun x => { x with regions := y.2.2, st := 2 })
  else
    let todo := x.regions.filter (fun r => rgLen (s.region n r) != 0 && !rgLive (s.region n r))
    (forAll (todo.zip offs) (fun p s => (s.setRegion n p.1 (setFld (s.region n p.1) 8 8 p.2)).regionFlag n p.1 1 true) s)

/-- Tier S bytes and region records that creating a set's regions takes are there (R280, R295). -/
def State.createOk (s : State) (n w : Nat) : Bool × Bool :=
  let x := s.wset n w
  if !x.regions.isEmpty then (true, true) else
  let lens := ((List.range (mfRanks x.man)).map (fun r => 4096 * mfPages x.man r)).filter (fun l => l != 0)
  let free := ((List.range 256).filter (fun r => rgLen (s.region n r) == 0)).length
  let fitS := !x.backed || (lens.foldl (fun (a : Option (List (Nat × Nat))) l => match a with
    | none => none
    | some sp => (lowestFit (s.spansS n ++ sp) (s.tierSBytes n) l).map (fun o => sp ++ [(o, l)])) (some [])).isSome
  (!x.backed || s.quotaS n (sumOf lens id), decide (lens.length ≤ free) && fitS)

/-- The IN_S shards of a set are copied in; a page of tier S in error poisons the page and leaves the shard ABSENT (R299,
R315). The set is READY when every one is RESIDENT (R297). -/
def State.copyIn (s : State) (n w : Nat) : State :=
  let l := (List.range (mfCount (s.wset n w).man)).filter (fun i => (s.wset n w).shard i == 3)
  let s1 := forAll l (fun i s =>
    let p := s.shardPlace n w i
    let b := s.region n p.1
    let bad := s.badPages n (2 ^ 61 + rgSoff b + p.2.1) p.2.2
    if bad.isEmpty then (s.copyShardToB n w i).onWset n w (fun x => x.setShard i 2)
    else (forAll bad (fun q s => s.poisonPage n p.1 (pageS n q) 2 (q - rgSoff b)) s).onWset n w (fun x => x.setShard i 0)) s
  (s1.onWset n w (fun x => { x with st := 2 })).setReady n w

end Sys2Proof.Machine
end

