-- ==== Sys2Proof/Machine/Spares.lean ====
section
/-!
DEFINITION. Spares (Table 21-5): the SPARE manifest in preparation, retirement and remap of hearths, the array diagnostic,
channel migration, row repair, failed channels (R77 to R81, R139 to R141, R601 to R612).
-/
namespace Sys2Proof.Machine

/-! The manifest in preparation (R610 to R612) -/

/-- The manifest that the next store will hold: the one being stored, or the one in force with its SVN plus 1. -/
def State.draft (s : State) : Spare := (s.spareNext.map Prod.fst).getD { s.spare with svn := s.spare.svn + 1 }

/-- A decision changes the manifest to be stored; decisions taken while a store is in progress join it (log 42). -/
def State.decideSpare (s : State) (f : Spare → Spare) : State := { s with spareNext := some (f s.draft, s.now) }

/-- The hearth a logical hearth is bound to in a manifest. -/
def Spare.bind (m : Spare) (l : Nat) : Nat := m.remap.getD l (18 * (l / 16) + l % 16)

/-- Spare hearths of a rick in a manifest: neither bound nor retired. -/
def Spare.free (m : Spare) (k : Nat) : List Nat :=
  ((List.range 18).map (fun h => 18 * k + h)).filter (fun g => !m.retired.contains g && (List.range 16).all (fun j => m.bind (16 * k + j) != g))

/-! Retirement (R77 to R81, R601) -/

/-- A hearth is retired: a spare of its rick takes its logical hearth; a spare hearth leaves the pool; without a spare a
faulted hearth degrades the rick and a worn one stays (R601). -/
def State.retire (s : State) (g : Nat) (faulted : Bool) : State :=
  let k := g / 18
  let m := s.draft
  let s1 := { s with due := s.due.filter (fun x => x.1 != g) }
  match (List.range 16).find? (fun j => m.bind (16 * k + j) == g) with
  | none => s1.decideSpare (fun m => { m with retired := m.retired ++ [g] })
  | some j =>
    match m.free k with
    | [] => if faulted then s1.degrade k else s1.raise 0xE055 (scopeK k) [1, k]
    | f :: rest =>
      let s2 := s1.decideSpare (fun m => { m with retired := m.retired ++ [g], remap := m.remap.put (16 * k + j) f })
      if rest.isEmpty then s2.raise 0xE055 (scopeK k) [1, k] else s2

/-- Hearths due in a partition are retired, the lower hearth of a rick first (R601). -/
def State.retireDue (s : State) (n : Nat) : State :=
  let l := sortBy (fun a b => decide (a.1 ≤ b.1)) (s.due.filter (fun x => (s.num (E.RICK_MASK n)).testBit (x.1 / 18)))
  forAll l (fun x s => s.retire x.1 x.2) s

/-- Logical hearths of a partition whose stored binding is not yet in force (R79). -/
def State.remapsDue (s : State) (n : Nat) : List Nat := (s.hearthsOf n).filter (fun l => s.spare.bind l != s.phys l)

/-- The contents of a hearth can be read. -/
def State.readableHearth (s : State) (g : Nat) : Bool :=
  !s.uncorrectable (hearthBase g) (2 ^ 23) && !s.uncorrectable (sdWork g) 0x8000 && !s.uncorrectable (sdComm g) 0x8000 && !s.uncorrectable (imBase g) 0x10000

/-- One binding takes effect: the retiring hearth's store, instruction image and scalar data are copied to the spare, or lost
(R79, R80). -/
def State.remapOne (s : State) (n : Nat) (m : Spare) (l : Nat) : State :=
  let g := s.phys l
  let f := m.bind l
  let s1 := if s.readableHearth g then
      (((s.copyRange (hearthBase g) (hearthBase f) (2 ^ 23)).copyRange (sdWork g) (sdWork f) 0x8000).copyRange (sdComm g) (sdComm f) 0x8000).onHearth f
        (fun h => { h with imem := (s.hearth g).imem })
    else (((s.zeroRange (hearthBase f) (2 ^ 23)).zeroRange (sdWork f) 0x8000).zeroRange (sdComm f) 0x8000).onPart n (fun p => { p with lostHearth := true })
  { s1 with remap := s1.remap.put l f }

/-- The bindings of a manifest take effect in a partition. -/
def State.remapAll (s : State) (n : Nat) (m : Spare) : State :=
  forAll ((s.hearthsOf n).filter (fun l => m.bind l != s.phys l)) (fun l s => s.remapOne n m l) s

/-! The array diagnostic (R139 to R141) -/

/-- The spare row and the spare column of every array of a rick are in use (R609; log 170). -/
def State.allArraySpares (s : State) (k : Nat) : Bool :=
  (List.range 72).all (fun i => let v := fld (s.blob E.ARRAY_SPARES) (2 * (72 * k + i)) 2; v.testBit 7 && v.testBit 15)

/-- Sets the ARRAY_SPARES entry of an array (Table 04-13), in force at once and in the manifest to be stored. -/
def State.substitute (s : State) (g a bitno field v : Nat) : State :=
  let o := 2 * (4 * g + a)
  let old := fld (s.blob E.ARRAY_SPARES) o 2
  let s1 := s.setBlob E.ARRAY_SPARES (setFld (s.blob E.ARRAY_SPARES) o 2 (old ||| (2 ^ bitno + v * 2 ^ field)))
  let s2 := (s1.decideSpare (fun m => { m with arrays := m.arrays.put g (bytesAt (s1.blob E.ARRAY_SPARES) (8 * g) 8) })).raise 0xE402 (scopeK (g / 18)) [g % 18, a]
  if s2.allArraySpares (g / 18) then s2.raise 0xE055 (scopeK (g / 18)) [2, g / 18] else s2

/-- What Table 04-9 does with a diagnostic of an array: `inPause` when it follows a mismatch in a step (attempt 2 of Table
04-8), where the retirement takes effect in the same pause (R141; log 43) and no wrong output counts toward order 3. -/
def State.diagnose (s : State) (n g a : Nat) (inPause : Bool) : State :=
  let bad := s.defectsOf g a
  let cols := (bad.map Prod.snd).eraseDups
  let rows := (bad.map Prod.fst).eraseDups
  let v := fld (s.blob E.ARRAY_SPARES) (2 * (4 * g + a)) 2
  let retire (s : State) : State :=
    if inPause then
      let s1 := s.retire g true
      match s1.spareNext with
      | some (m, _) => if (s1.rick (g / 18)).degradedAt.isSome then s1 else s1.remapAll n m
      | none => s1
    else if s.due.any (fun x => x.1 == g) ∨ s.spare.retired.contains g then s else { s with due := s.due ++ [(g, true)] }
  if bad.isEmpty then (if inPause then s.hearthMism g a else s)
  else if cols.length = 1 then (if v.testBit 7 then retire s else s.substitute g a 7 0 ((cols.head?).getD 0))
  else if rows.length = 1 then (if v.testBit 15 then retire s else s.substitute g a 15 8 ((rows.head?).getD 0))
  else retire s

/-! Channels and rows (R605 to R608) -/

/-- The physical channel that serves a logical channel of a stack: 128 + j for spare channel j. -/
def State.physChan (s : State) (k logical : Nat) : Nat :=
  match lowestFrom (fun j => s.spare.chans.getD (8 * k + j) 0xFF == logical) 0 8 with
  | some j => 128 + j
  | none => logical

/-- The lowest free spare channel of a stack in the manifest to be stored. -/
def State.freeChan (s : State) (k : Nat) : Option Nat := lowestFrom (fun j => s.draft.chans.getD (8 * k + j) 0xFF == 0xFF) 0 8

/-- Every spare channel of the stack is in use or failed. -/
def State.lastChan (s : State) (k : Nat) : State := if (s.freeChan k).isNone then s.raise 0xE055 (scopeK k) [3, k] else s

/-- A clean backed page is refilled from tier S: event 0xE903; the shard it holds is to be re-checked at once (Table 09-8, R315,
R598). -/
def State.refillPage (s : State) (n k p : Nat) : State :=
  match s.regionAtB n k p 1 with
  | none => s
  | some r =>
    let b := s.region n r
    let off := p - rgBoff b
    let s1 := s.store (tierB k + p) (s.readSegs (s.segsS n (rgSoff b + off) 4096))
    let s2 := { s1 with pagePoison := s1.pagePoison.del (pageB k p) }.raise 0xE903 (scopeP n) [r, off]
    if rgClass b = 1 then
      match s2.shardAt n r off with
      | some (w, i) => s2.onWset n w (fun x => { x with urgent := if x.urgent.contains i then x.urgent else x.urgent ++ [i] })
      | none => s2
    else s2

/-- The page of a stack is poisoned under the rule of what it holds: region, shard, KV page (R282, R315, R250). A scrub
refills a clean backed page (R598). -/
def State.poisonStackPage (s : State) (n k p : Nat) (refill : Bool) : State :=
  match s.regionAtB n k p 1 with
  | some r =>
    let b := s.region n r
    let off := p - rgBoff b
    let key := pageB k p
    let clean := rgBacked b && rgHasS b && !s.dirty.getD key false && !s.badSegs (s.segsS n (rgSoff b + off) 4096)
    let s1 := s.poisonPage n r key 1 off
    if refill ∧ clean then
      s1.refillPage n k p
    else if rgClass b = 1 then
      match s1.shardAt n r off with
      | some (w, i) => if (s1.wset n w).shard i = 1 ∧ (s1.turn n).active ∧ tpRecv (s1.turn n).img ∧ tpSet (s1.turn n).img = w then s1.turnFail n 6 else (s1.poisonShard n w i 0).refetches n
      | none => s1
    else s1
  | none =>
    let base := s.kvBase n k
    if base ≤ p ∧ p < base + 65536 * s.poolPages n k then s.poisonKvPage n k ((p - base) / 65536) else s

/-- The 4 KiB pages of a range of a stack that hold an uncorrectable word. -/
def State.badStackPages (s : State) (k lo len : Nat) : List Nat :=
  let t := tierB k
  ((s.bad.filter (fun w => decide (t + lo ≤ 16 * w) && decide (16 * w < t + lo + len))).map (fun w => (16 * w - t) / 4096 * 4096)).eraseDups

/-- A migration begins, or waits for the one in progress (R605). -/
def State.startMigration (s : State) (k logical : Nat) : State :=
  let r := s.rick k
  if r.mig.any (fun m => m.logical == logical) ∨ r.migWait.contains logical then s
  else if r.mig.isSome then s.onRick k (fun r => { r with migWait := sortBy (fun a b => decide (a ≤ b)) (r.migWait ++ [logical]) })
  else match s.freeChan k with
    | none => s.raise 0xE055 (scopeK k) [3, k]
    | some j => ((s.onRick k (fun r => { r with mig := some { logical := logical, spare := j } })).raise 0xE051 (scopeK k) [k, logical, j])

/-- The migrations and row repairs of a partition's ricks at a step boundary: mirroring begins, a stored spare enters
service, a stored row is remapped, a waiting migration begins (R605, R606). -/
def State.channelBoundary (s : State) (n : Nat) : State :=
  forAll (s.ricksOf n) (fun k s =>
    let r := s.rick k
    let s1 := match r.mig with
      | some m =>
        if m.st = 0 then s.onRick k (fun r => { r with mig := some { m with st := 1 } })
        else if m.st = 3 then
          let s2 := (s.onRick k (fun r => { r with mig := none })).raise 0xE052 (scopeK k) [k, m.logical, m.spare]
          match r.migWait with
          | [] => s2
          | c :: _ => (s2.onRick k (fun r => { r with migWait := r.migWait.tail })).startMigration k c
        else s
      | none => s
    let done := (s1.rick k).rowsDue.filter (fun row => s1.spare.rows.contains row)
    (s1.onRick k (fun r => { r with rowsDue := r.rowsDue.filter (fun row => !done.contains row) }))) s

/-- Corrected bursts of a bonded channel and of its rows, counted; their limits start a migration or a row repair (orders 7
and 8). `offs` are stack offsets of corrected words. -/
def State.countBursts (s : State) (k : Nat) (offs : List Nat) : State :=
  forAll offs (fun o s =>
    let c := s.physChan k (o / 256 % 128)
    let row := Config.rowOf k c (o / 32768 * 256)
    let l := s.now :: s.recent ((s.rick k).chanCe.getD c [])
    let rows := (row, s.now) :: (s.rick k).rowCe.filter (fun x => decide (s.now < x.2 + dayNs))
    let s1 := s.onRick k (fun r => { r with chanCe := r.chanCe.put c l, rowCe := rows })
    let inRow := (rows.filter (fun x => x.1 == row)).length
    let s2 := if s.num E.CHANNEL_CE_LIMIT = l.length then (s1.limitEvent 7 k c l.length).startMigration k (o / 256 % 128) else s1
    if s.num E.ROW_CE_LIMIT = inRow then
      (s2.limitEvent 8 k c inRow).onRick k (fun r => { r with rowsDue := if r.rowsDue.contains row then r.rowsDue else r.rowsDue ++ [row] })
    else s2) s

/-- Uncorrectable bursts that a rewrite did not cure: a row in which a scrub finds one again; two such rows of a channel start
a migration (order 9). -/
def State.countUncured (s : State) (k o : Nat) : State :=
  let c := s.physChan k (o / 256 % 128)
  let row := Config.rowOf k c (o / 32768 * 256)
  let l := (row, s.now) :: ((s.rick k).chanUe.getD c []).filter (fun x => decide (s.now < x.2 + dayNs))
  let s1 := s.onRick k (fun r => { r with chanUe := r.chanUe.put c l })
  let again := ((l.map Prod.fst).eraseDups).filter (fun x => decide (2 ≤ (l.filter (fun y => y.1 == x)).length))
  if again.length = 2 ∧ again.contains row then (s1.limitEvent 9 k c again.length).startMigration k (o / 256 % 128) else s1

/-- SPARE_MANIFEST_STORE: the new manifest is in force, with event 0xE206 for each hearth it retires; or the store failed and
is tried again (R78, R612). -/
def execSpareManifestStore (ok : Bool) (t : Nat) (s : State) : Host.Outcome State Fault Refusal :=
  let s1 := s.at t
  .next (
    match s1.spareNext with
    | none => s1
    | some (m, _) =>
      if ok then
        let news := m.retired.filter (fun g => !s1.spare.retired.contains g)
        let s2 := ({ s1 with spare := m, spareNext := none }).setNum E.SPARE_SVN m.svn
        let s3 := forAll news (fun g s => s.raise 0xE206 (scopeK (g / 18)) [g / 18, g % 18]) s2
        forAll (List.range 12) (fun k s => s.onRick k (fun r => { r with schan := m.schan.filter (fun c => c / 4 == k), mig := r.mig.map (fun g => if g.st = 2 then { g with st := 3 } else g) })) s3
      else ({ s1 with spareNext := some (m, s1.now) }).raise 0xE055 0 [0, 0xFF])

/-- ROW_REPAIR: the first row due of a stack is copied to a spare row, its uncorrectable words as poison words, and the
manifest that remaps it is prepared (R606). -/
def execRowRepair (k : Fin 12) (t : Nat) (s : State) : Host.Outcome State Fault Refusal :=
  let s1 := s.at t
  .next (
    match (s1.rick k).rowsDue.find? (fun row => !s1.draft.rows.contains row) with
    | none => s1
    | some row =>
      let same := (s1.draft.rows.filter (fun x => bytesAt x 0 3 == bytesAt row 0 3)).length
      let s2 := (s1.decideSpare (fun m => { m with rows := m.rows ++ [row] })).raise 0xE054 (scopeK k) [leNat row]
      if same = 7 then s2.raise 0xE055 (scopeK k) [4, k] else s2)

/-- CHANNEL_FAILURE: a bonded channel fails; a free spare takes its addresses at the next boundary without a copy, every page
with a burst on it is poisoned; without a spare the rick is degraded (R607). -/
def execChannelFailure (k : Fin 12) (ch : Nat) (t : Nat) (s : State) : Host.Outcome State Fault Refusal :=
  let s1 := s.at t
  .next (
    if 136 ≤ ch then s1
    else if 128 ≤ ch ∧ s1.spare.chans.getD (8 * k + (ch - 128)) 0xFF = 0xFF then
      (s1.decideSpare (fun m => { m with chans := m.chans.put (8 * k + (ch - 128)) 0xFE })).lastChan k
    else
      let logical := if ch < 128 then ch else s1.spare.chans.getD (8 * k + (ch - 128)) 0xFF
      let s2 := if ch < 128 then s1 else s1.decideSpare (fun m => { m with chans := m.chans.put (8 * k + (ch - 128)) 0xFE })
      match s2.freeChan k with
      | none => (s2.raise 0xE053 (scopeK k) [k, logical, 0xFF]).degrade k
      | some j =>
        let s3 := ((s2.decideSpare (fun m => { m with chans := m.chans.put (8 * k + j) logical })).raise 0xE053 (scopeK k) [k, logical, j]).lastChan k
        -- every 4 KiB page with a burst on the channel: 16 consecutive bursts, one on each of 16 channels
        match s3.partOf k with
        | none => s3
        | some n =>
          let pages := ((s3.spansB n k).flatMap (fun x => pagesOf x.1 x.2)).filter (fun p => decide (p / 256 % 128 / 16 = logical / 16))
          let kv := (List.range (s3.poolPages n k)).map (fun q => s3.kvBase n k + 65536 * q)
          forAll kv (fun p s => s.poisonStackPage n k p false) (forAll pages (fun p s => s.poisonStackPage n k p false) s3))

/-- SUBSTRATE_CHANNEL_FAILURE: a substrate channel fails; what it held reads as uncorrectable from then on (R608). -/
def execSubstrateChannelFailure (k : Fin 12) (ch : Nat) (t : Nat) (s : State) : Host.Outcome State Fault Refusal :=
  let s1 := s.at t
  .next (
    let m := 4 * k.val + ch % 4
    if (s1.rick k).schan.contains m then s1 else
    ((s1.onRick k (fun r => { r with schan := r.schan ++ [m] })).decideSpare (fun d => { d with schan := d.schan ++ [m] })).raise 0xE056 (scopeK k) [m])

end Sys2Proof.Machine
end

