-- ==== Sys2Proof/Machine/Tasks.lean ====
section
/-!
DEFINITION. Background tasks (R594 to R599): their passes, urgency, and units; write-back (R271 to R277), scrubs (R598), the
array check, monitors and digest re-checks (R300, R301).
-/
namespace Sys2Proof.Machine

/-! Tasks by their row in Table 21-3; 11 is the re-check of tier S copies, which shares row 8 -/

/-- The interval of a task. -/
def State.interval (s : State) (n k : Nat) : Nat :=
  match k with
  | 1 => s.num E.SCRUB_H_NS
  | 2 => s.num E.SCRUB_B_NS
  | 3 => s.num E.SCRUB_S_NS
  | 4 => s.num E.ARRAY_CHECK_NS
  | 5 => s.num E.CAL_NS
  | 6 => s.num E.MONITOR_NS
  | 7 => s.num E.TELEMETRY_NS
  | _ => s.num (E.RECHECK_NS n)

/-- The shards a re-check covers, with their units of 320,000 bytes (log 44): RESIDENT ones, backed ones for tier S. -/
def State.recheckList (s : State) (n : Nat) (tierS : Bool) : List (Nat × Nat × Nat) :=
  (List.range 8).flatMap (fun w =>
    let x := s.wset n w
    if tierS && !x.backed then [] else
    ((List.range (mfCount x.man)).filter (fun i => x.shard i == 2)).map (fun i => (w, i, ceilDiv (4096 * mePages (mfEntry x.man i)) 320000)))

/-- N, the units of one pass of a task. -/
def State.units (s : State) (n k : Nat) : Nat :=
  let r := (s.ricksOf n).length
  match k with
  | 1 => 18 * r
  | 2 => 1678
  | 3 => 429497
  | 4 => 288 * r
  | 5 => (140 + Config.sensorCount) * r
  | 6 => 18 * r
  | 7 => r
  | _ => sumOf (s.recheckList n (k == 11)) (fun x => x.2.2)

/-- The interval tasks. -/
def intervalTasks : List Nat := [1, 2, 3, 4, 5, 6, 7, 8, 11]

/-- The pass of a task at this instant: the next one has begun at the later of T_p + I and the completion (R595). -/
def State.task (s : State) (n k : Nat) : Task :=
  let t := (s.part n).tasks.getD k {}
  match t.fin with
  | some f => let nx := max (t.tp + s.interval n k) f; if nx ≤ s.now then { tp := nx } else t
  | none => t

/-- Replaces the pass of a task. -/
def State.setTask (s : State) (n k : Nat) (t : Task) : State := s.onPart n (fun p => { p with tasks := p.tasks.put k t })

/-- `needed` of R595. -/
def State.neededUnits (s : State) (n k : Nat) : Nat :=
  let t := s.task n k
  let i := s.interval n k
  let u := s.units n k
  min u (8 * u * (s.now - t.tp) / (7 * max i 1))

/-- A task is urgent (R595, R238, R315, R598). -/
def State.urgent (s : State) (n k : Nat) : Bool :=
  if k = 9 then decide (s.num (E.KV_RELEASE_LAG n) < (s.part n).releases.length)
  else if k = 10 then false
  else
    let t := s.task n k
    (t.fin.isNone && decide (t.done < s.neededUnits n k)) ||
    (k == 8 && (List.range 8).any (fun w => !(s.wset n w).urgent.isEmpty))

/-- The tasks of a partition that are urgent. -/
def State.urgents (s : State) (n : Nat) : List Nat := ((List.range 12).filter (fun k => k != 0)).filter (s.urgent n)

/-- The instant at which a task would become urgent (R597). -/
def State.urgentAt (s : State) (n k : Nat) : Nat :=
  let t := s.task n k
  t.tp + ceilDiv (7 * s.interval n k * (t.done + 1)) (8 * max 1 (s.units n k))

/-- A pass has units left to do. -/
def State.hasUnit (s : State) (n k : Nat) : Bool := (s.task n k).fin.isNone && decide ((s.task n k).done < s.units n k)

/-- One unit of a pass is done. -/
def State.unitDone (s : State) (n k : Nat) : State :=
  let t := s.task n k
  s.setTask n k { t with done := t.done + 1, fin := if s.units n k ≤ t.done + 1 then some s.now else none }

/-- A partition whose ricks run no step and are in power state A (R599). -/
def State.quiet (s : State) (n : Nat) : Bool :=
  (s.part n).phase == .idle && s.exists n && (s.ricksOf n).all (fun k => (s.rick k).on)

/-- A unit may run: in a raking piece, in a rake pause, or in a quiet partition (R62, R63, R599). -/
def State.mayRake (s : State) (n : Nat) : Bool :=
  (s.part n).inPiece || s.haltedNow n || (match (s.part n).phase with | .pause _ _ => true | _ => false) || s.quiet n

/-! Scrubs (R598) -/

/-- Words of a range of the byte stores whose error a scrub corrects, cleared by the write back. -/
def State.scrubWords (s : State) (a n : Nat) : State × List Nat :=
  let c := s.correctable a n
  ({ s with ce := s.ce.filter (fun w => !c.contains w) }, c)

/-- One hearth: its store, scalar data and instruction memory. -/
def State.scrubHearth (s : State) (g : Nat) : State :=
  let ranges := [(hearthBase g, 2 ^ 23), (sdWork g, 0x8000), (sdComm g, 0x8000), (imBase g, 0x10000)]
  let x := ranges.foldl (fun (a : State × Nat) r => let y := a.1.scrubWords r.1 r.2; (y.1, a.2 + y.2.length)) (s, 0)
  let bad := ranges.any (fun r => s.uncorrectable r.1 r.2)
  let s1 := x.1.hearthCe g x.2
  if bad then s1.hearthUe g else s1

/-- The bursts that some words lie in, as stack offsets. -/
def burstsOf (base : Nat) (ws : List Nat) : List Nat := (ws.map (fun w => (16 * w - base) / 256 * 256)).eraseDups

/-- One unit of the tier B scrub: 1,250 bursts on each channel of every stack of the partition. -/
def State.scrubB (s : State) (n d : Nat) : State :=
  let lo := 40960000 * d
  let len := min 40960000 (2 ^ 36 - lo)
  forAll (s.ricksOf n) (fun k s =>
    let x := s.scrubWords (tierB k + lo) len
    let ue := burstsOf (tierB k) (s.bad.filter (fun w => decide (tierB k + lo ≤ 16 * w) && decide (16 * w < tierB k + lo + len)))
    let s1 := x.1.countBursts k (burstsOf (tierB k) x.2)
    let s2 := forAll ue (fun o s => s.countUncured k o) s1
    forAll (s.badStackPages k lo len) (fun p s => s.poisonStackPage n k p true) s2) s

/-- A page of a partition's tier S is poisoned (R282, R315). -/
def State.poisonTierSPage (s : State) (n p : Nat) : State :=
  match s.regionAtS n p 1 with
  | none => s
  | some r =>
    let b := s.region n r
    let s1 := s.poisonPage n r (pageS n p) 2 (p - rgSoff b)
    if rgClass b = 1 then
      match s1.shardAt n r (p - rgSoff b) with
      | some (w, i) => (s1.poisonShard n w i 1).refetches n
      | none => s1
    else s1

/-- One unit of the tier S scrub: 1,250 bursts on each substrate channel of the partition. -/
def State.scrubS (s : State) (n d : Nat) : State :=
  let lo := 320000 * d
  let len := min 320000 (2 ^ 37 - lo)
  let ch := s.channels n
  forAll (ch.mapIdx (fun i m => (i, m))) (fun im s =>
    let a := tierS im.2 + lo
    let s1 := (s.scrubWords a len).1
    let words := s.bad.filter (fun w => decide (a ≤ 16 * w) && decide (16 * w < a + len))
    let pages := (words.map (fun w => let o := 16 * w - tierS im.2; ((o / 256 * ch.length + im.1) * 256 + o % 256) / 4096 * 4096)).eraseDups
    forAll pages (fun p s => s.poisonTierSPage n p) s1) s

/-- SCRUB_UNIT: the scrub task that would become urgent first runs its next unit (R597, R598). -/
def execScrubUnit (n : Fin 12) (t : Nat) (s : State) : Host.Outcome State Fault Refusal :=
  let s1 := s.at t
  .next (
    if !s1.mayRake n then s1 else
    match sortBy (fun a b => decide (s1.urgentAt n a ≤ s1.urgentAt n b)) ([1, 2, 3].filter (s1.hasUnit n)) with
    | [] => s1
    | k :: _ =>
      let d := (s1.task n k).done
      let s2 := match k with
        | 1 => s1.scrubHearth (18 * (((s1.ricksOf n)[d / 18]?).getD 0) + d % 18)
        | 2 => s1.scrubB n d
        | _ => s1.scrubS n d
      s2.unitDone n k)

/-! The array check (R139, R602) -/

/-- ARRAY_CHECK_UNIT: 32 rows of one array; its last quarter classifies the array, and an array with wrong outputs is dealt
with in the rake pause of the next boundary (Table 21-4, order 6). -/
def execArrayCheckUnit (n : Fin 12) (t : Nat) (s : State) : Host.Outcome State Fault Refusal :=
  let s1 := s.at t
  .next (
    if !s1.mayRake n || !s1.hasUnit n 4 then s1 else
    let d := (s1.task n 4).done
    let g := 18 * (((s1.ricksOf n)[d / 288]?).getD 0) + d % 288 / 16
    let a := d % 16 / 4
    let bad := s1.defectsOf g a
    let s2 := if d % 4 = 3 ∧ !bad.isEmpty ∧ !s1.spare.retired.contains g then
        (s1.limitEvent 6 (g / 18) (g % 18) bad.length).onPart n (fun p => { p with diag := if p.diag.contains (g, a + 4) then p.diag else p.diag ++ [(g, a + 4)] })
      else s1
    s2.unitDone n 4)

/-! Calibration, monitors, telemetry -/

/-- CALIBRATION_UNIT: one channel, or one sensor. Its targets are analogue: only the progress of the pass is state. -/
def execCalibrationUnit (n : Fin 12) (t : Nat) (s : State) : Host.Outcome State Fault Refusal :=
  let s1 := s.at t
  .next (if s1.mayRake n && s1.hasUnit n 5 then s1.unitDone n 5 else s1)

/-- AGING_MONITOR_UNIT: the delay monitor of one hearth; the margin measured is a free value (log 45). The third low margin in
a row retires the hearth for wear (Table 21-4, order 5). -/
def execAgingMonitorUnit (n : Fin 12) (t : Nat) (s : State) : Host.Outcome State Fault Refusal :=
  let s1 := s.at t
  .next (
    if !s1.mayRake n || !s1.hasUnit n 6 then s1 else
    let d := (s1.task n 6).done
    let g := 18 * (((s1.ricksOf n)[d / 18]?).getD 0) + d % 18
    let x := s1.draw
    let m := x.1.toNat % 65536
    let low := if m < s1.num E.WEAR_MARGIN_PS then (s1.hearth g).lowMargins + 1 else 0
    let s2 := x.2.onHearth g (fun h => { h with margin := m, lowMargins := low })
    let s3 := if 3 ≤ low then s2.hearthDue 5 g low false else s2
    s3.unitDone n 6)

/-- TELEMETRY_UNIT: the counters and sensors of one rick. The service tile of a sleeping rick reads them itself (R599). -/
def execTelemetryUnit (n : Fin 12) (t : Nat) (s : State) : Host.Outcome State Fault Refusal :=
  let s1 := s.at t
  let asleep := (s1.ricksOf n).any (fun k => (s1.rick k).pst != 0)
  .next (if (s1.mayRake n || asleep) && s1.hasUnit n 7 then s1.unitDone n 7 else s1)

/-! Digest re-checks (R300, R301) -/

/-- The copy of a shard in one tier is re-hashed: a copy in error or with another digest is POISONED. -/
def State.recheck (s : State) (n w i : Nat) (tierS : Bool) : State :=
  let x := s.wset n w
  let p := s.shardPlace n w i
  let b := s.region n p.1
  let ta := if tierS then 2 ^ 61 + rgSoff b + p.2.1 else 2 ^ 60 + rgRick b * 2 ^ 36 + rgBoff b + p.2.1
  let data := s.readSegs (s.segsOf n ta p.2.2)
  if (s.badPages n ta p.2.2).isEmpty && Config.sha384 data == meDigest (mfEntry x.man i) then
    s.onWset n w (fun x => { x with checked := x.checked.put (if tierS then 65536 + i else i) (s.num (E.STEP_COUNT n)) })
  else (s.poisonShard n w i (if tierS then 1 else 0)).refetches n

/-- The shard whose last unit is unit `d` of a re-check. -/
def recheckAt : List (Nat × Nat × Nat) → Nat → Option (Nat × Nat)
  | [], _ => none
  | (w, i, u) :: r, d => if d + 1 = u then some (w, i) else if d < u then none else recheckAt r (d - u)

/-- DIGEST_RECHECK: a shard made urgent by a refill first (R315), else one unit of the re-check that would become urgent
first. -/
def execDigestRecheck (n : Fin 12) (t : Nat) (s : State) : Host.Outcome State Fault Refusal :=
  let s1 := s.at t
  .next (
    if !s1.mayRake n then s1 else
    match (List.range 8).find? (fun w => !(s1.wset n w).urgent.isEmpty) with
    | some w =>
      let i := ((s1.wset n w).urgent.head?).getD 0
      let s2 := s1.onWset n w (fun x => { x with urgent := x.urgent.tail })
      if (s2.wset n w).shard i = 2 then s2.recheck n w i false else s2
    | none =>
      match sortBy (fun a b => decide (s1.urgentAt n a ≤ s1.urgentAt n b)) ([8, 11].filter (s1.hasUnit n)) with
      | [] => s1
      | k :: _ =>
        let s2 := match recheckAt (s1.recheckList n (k == 11)) (s1.task n k).done with
          | some (w, i) => s1.recheck n w i (k == 11)
          | none => s1
        s2.setTask n k (let t := s1.task n k
          { t with done := t.done + 1, fin := if s1.units n k ≤ t.done + 1 then some s1.now else none }))

/-! KV release and write-back -/

/-- KV_RELEASE_UNIT: one decrement of the release work (R237; log 44). -/
def execKvReleaseUnit (n : Fin 12) (t : Nat) (s : State) : Host.Outcome State Fault Refusal :=
  let s1 := s.at t
  .next (if s1.mayRake n then s1.releaseOne n else s1)

/-- A dirty page is copied to its tier S span, its dirty bit cleared first (R272). A page that cannot be read is left out and
counted (Table 09-8). -/
def State.writeBack (s : State) (n r off : Nat) : State :=
  let b := s.region n r
  let key := pageB (rgRick b) (rgBoff b + off)
  if !(rgLive b && rgBacked b) || !s.dirty.getD key false then s else
  let s1 := { s with dirty := s.dirty.del key }
  if s.pagePoison.getD key false || s.uncorrectable (tierB (rgRick b) + rgBoff b + off) 4096 then
    (s1.poisonPage n r key 1 off).bump (E.FLUSH_FAILED_PAGES n)
  else s1.writeS n (rgSoff b + off) (s1.readRegion n r off 4096)

/-- Requests at the head whose pages are all examined are complete (R275, R276). -/
def State.flushHeads (s : State) (n : Nat) : List FlushReq → State
  | [] => s.onPart n (fun p => { p with flush := [] })
  | f :: r =>
    if f.pages.isEmpty then
      State.flushHeads (match f.seq with
        | some q => s.setNum (E.FLUSH_DONE n) q
        | none => s.raise 0xE905 (scopeP n)) n r
    else s.onPart n (fun p => { p with flush := f :: r })

/-- Completed flush requests leave the queue. -/
def State.flushDone (s : State) (n : Nat) : State := s.flushHeads n (s.part n).flush

/-- A rick's write-back runs: not in power state B, C or O (R277). -/
def State.wbRuns (s : State) (k : Nat) : Bool := decide ((s.rick k).pst ≤ 1)

/-- The first page of the first request whose rick runs write-back. -/
def State.flushPage (s : State) (n : Nat) : Option (Nat × Nat) :=
  match (s.part n).flush with
  | [] => none
  | f :: _ => f.pages.find? (fun p => s.wbRuns (rgRick (s.region n p.1)))

/-- WRITE_BACK_PAGE: the agent examines the next page of the oldest flush request, or, without one, copies the lowest dirty
page of the partition. -/
def execWriteBackPage (n : Fin 12) (t : Nat) (s : State) : Host.Outcome State Fault Refusal :=
  let s1 := s.at t
  .next (
    match s1.flushPage n with
    | some p =>
      let s2 := (s1.writeBack n p.1 p.2).onPart n (fun q => { q with flush := match q.flush with
        | [] => []
        | f :: r => { f with pages := f.pages.filter (fun x => x != p) } :: r })
      s2.flushDone n
    | none =>
      if !(s1.part n).flush.isEmpty then s1.flushDone n else
      match (s1.ricksOf n).findSome? (fun k => if s1.wbRuns k then (s1.dirty.range (pageB k 0) (pageB k (2 ^ 36))).head? else none) with
      | some (key, _) =>
        let k := key / 2 ^ 24
        let off := key % 2 ^ 24 * 4096
        (match s1.regionAtB n k off 4096 with
        | some r => s1.writeBack n r (off - rgBoff (s1.region n r))
        | none => s1)
      | none => s1)

/-! Overdue passes and channel migration -/

/-- PASS_OVERDUE: a pass is not complete at T_p + I (R596). `task` is the row of Table 21-3, or 11. -/
def execPassOverdue (n : Fin 12) (task t : Nat) (s : State) : Host.Outcome State Fault Refusal :=
  let s1 := s.at t
  let x := s1.task n task
  .next (
    if s1.exists n && intervalTasks.contains task && x.fin.isNone && !x.late && decide (x.tp + s1.interval n task ≤ s1.now) then
      ((s1.setTask n task { x with late := true }).bump E.TASKS_OVERDUE).raise 0xE058 0 [if task = 11 then 8 else task, n]
    else s1)

/-- CHANNEL_MIGRATION_UNIT: 1,250 bursts of the channel that migrates are copied; an uncorrectable one becomes poison words and
its page is poisoned; the last unit prepares the manifest (R605). -/
def execChannelMigrationUnit (n : Fin 12) (t : Nat) (s : State) : Host.Outcome State Fault Refusal :=
  let s1 := s.at t
  .next (
    if !s1.mayRake n then s1 else
    match (s1.ricksOf n).find? (fun k => ((s1.rick k).mig.map (fun m => m.st)) == some 1) with
    | none => s1
    | some k =>
      match (s1.rick k).mig with
      | none => s1
      | some m =>
        let mine (w : Nat) : Bool :=
          let o := 16 * w - tierB k
          decide (tierB k ≤ 16 * w) && decide (o < 2 ^ 36) && o / 256 % 128 == m.logical && decide (320000 * m.done ≤ o / 32768 * 256) &&
          decide (o / 32768 * 256 < 320000 * (m.done + 1))
        let pages := ((s1.bad.filter mine).map (fun w => (16 * w - tierB k) / 4096 * 4096)).eraseDups
        let s2 := forAll pages (fun p s => s.poisonStackPage n k p false) s1
        let last := decide (1678 ≤ m.done + 1)
        let s3 := s2.onRick k (fun r => { r with mig := some { m with done := m.done + 1, st := if last then 2 else 1 } })
        if last then
          (s3.decideSpare (fun d => { d with chans := d.chans.put (8 * k + m.spare) m.logical })).lastChan k
        else s3)

end Sys2Proof.Machine
end

