-- ==== Sys2Proof/Machine/Epochs.lean ====
section
/-!
DEFINITION. Epochs (R304 to R314): restarts, switches, drains, and the step epoch of a step.
-/
namespace Sys2Proof.Machine

/-- One in-flight request restarts under a new epoch (Tables 10-8 and 11-4): its list is released, its prefill covers the
prompt and the tokens emitted, which a REPLAY block keeps (R363). A block that does not fit ends the request (R366); so does
having nowhere to keep the tokens (log 28). -/
def State.restart (s : State) (n i e : Nat) : State :=
  let toks := (s.rx i).tokens
  let em := s.rqEmitted i
  let body := leBytes 4 em ++ zeros 4 ++ toks.flatMap (leBytes 4)
  let open1 := (s.rx i).openSeq != 0
  let fits := match s.auditRegion n with
    | some r =>
      let size := s.auditBody n r
      let len := auditLen body.length
      let left := size - s.auditTail n r % size
      decide (len + (if left < len then left else 0) ≤ s.auditFree n r)
    | none => em == 0
  if open1 ∧ !fits then (s.endRequest n i 8 0x11).raise 0xEC03 (scopeP n) else
  let x := if open1 then s.audit n i 4 body else (s, 0)
  let addr := match x.1.auditRegion n with
    | some r => let b := x.1.region n r; 2 ^ 60 + rgRick b * 2 ^ 36 + rgBoff b + x.2 + 72
    | none => 0
  let s1 := x.1.releaseList n (x.1.rqList i)
  let s2 := (((s1.setRf i 4 4 0).setRf i 0x3C 4 0).setRf i 0x5C 4 (s1.rqPrompt i + em)).setRf i 0x0C 4 e
  let s3 := if s2.rqState i = 3 then s2.setRf i 0 1 2 else s2
  s3.onRx i (fun y => { y with first := true, discont := true, replayAddr := if open1 then addr else y.replayAddr })

/-- Restarts some requests under an epoch. -/
def State.restartAll (s : State) (n e : Nat) (l : List Nat) : State := forAll l (fun i s => s.restart n i e) s

/-- In-flight requests of a job whose steps run under an epoch. -/
def State.flyingUnder (s : State) (n j e : Nat) : List Nat :=
  (s.jobEntries n j).filter (fun i => inFlight (s.rqState i) && s.stepsUnder n j i == e)

/-- SWITCH_PENDING of a job slot clears. -/
def State.clearPending (s : State) (n j : Nat) : State :=
  let p := s.num (E.SWITCH_PENDING n)
  (s.onJob n j (fun x => { x with pendSwitch := none })).setNum (E.SWITCH_PENDING n) (if p.testBit j then p - 2 ^ j else p)

/-- A switch takes effect (R304, R306, R309): the counter rises, the job is bound to the set, the policy is applied. -/
def State.applySwitch (s : State) (n j w : Nat) : State :=
  let old := s.jobEpoch n j
  let oldSet := s.epochSet n j old
  let e := s.num (E.EPOCH_COUNTER n) + 1
  let s1 := ((s.setNum (E.EPOCH_COUNTER n) e).clearPending n j).raise 0xEA03 (scopeP n)
  let s2 := (s1.setJobEpoch n j e w).onWset n w (fun x => { x with epoch := e })
  let inf := s.flyingUnder n j old
  let pol := s2.num (E.EPOCH_POLICY n)
  let s3 :=
    if pol = 0 then
      if inf.isEmpty ∨ oldSet = 0xFF then s2
      else (s2.onJob n j (fun x => { x with oldEpoch := some old, oldSet := oldSet, drainAt := s2.num (E.STEP_COUNT n), lastEpoch := old })).onWset n oldSet
        (fun x => { x with pinned := true })
    else if pol = 1 then s2.restartAll n e inf
    else s2
  s3.turnDone n j w e

/-- Action 4 for a job: a finished drain ends, a drain past its limit ends under PIN_FALLBACK (R313), and a pending switch
whose set is READY takes effect when no drain is left (R306, R312). -/
def State.action4 (s : State) (n j : Nat) : State :=
  let s1 := match (s.job n j).oldEpoch with
    | none => s
    | some e =>
      if (s.inFlightOf n j e).isEmpty then s.endDrain n j
      else if (s.job n j).drainAt + s.num (E.PIN_LIMIT_STEPS n) ≤ s.num (E.STEP_COUNT n) then
        let a := (s.endDrain n j).raise 0xEA08 (scopeP n)
        if s.num (E.PIN_FALLBACK n) = 1 then a.restartAll n (s.jobEpoch n j) (s.inFlightOf n j e) else a
      else s
  match (s1.job n j).pendSwitch with
  | some w =>
    if (s1.wset n w).st = 3 ∧ (s1.job n j).oldEpoch = none ∧ s1.num (E.EPOCH_COUNTER n) + 1 < 2 ^ 32 then s1.applySwitch n j w else s1
  | none => s1

/-! The step epoch (R307, R311, R317) -/

/-- The set of an epoch of a job is READY. -/
def State.epochReady (s : State) (n j e : Nat) : Bool :=
  let w := s.epochSet n j e
  w != 0xFF && (s.wset n w).st == 3

/-- Some request of an epoch could be placed in a step of the job's kind. -/
def State.placeable (s : State) (n j e : Nat) : Bool :=
  match cdAdmission (s.job n j).img (s.job n j).kind with
  | none => false
  | some ad =>
    (s.jobEntries n j).any (fun i =>
      ([2, 3, 4, 5].contains (s.rqState i) && s.stepsUnder n j i == e && s.bucketOk i ad) ||
      (s.rqState i == 1 && e == s.jobEpoch n j && !(s.job n j).draining && adChunk ad != 0))

/-- The epoch of the job's next step: none when the job is held, or holds no set. A learning cord without a set runs under
epoch 0 (log 38). -/
def State.chooseEpoch (s : State) (n j : Nat) : Option Nat :=
  let cur := s.jobEpoch n j
  if cdKind (s.job n j).img = 2 ∧ s.jobSet n j = 0xFF then some 0 else
  match (s.job n j).oldEpoch with
  | none => if s.epochReady n j cur then some cur else none
  | some old =>
    let order := if (s.job n j).lastEpoch = old then [cur, old] else [old, cur]
    match order.find? (fun e => s.epochReady n j e && s.placeable n j e) with
    | some e => some e
    | none => if s.epochReady n j cur then some cur else none

end Sys2Proof.Machine
end

