-- ==== Sys2Proof/Machine/Halts.lean ====
section
/-!
DEFINITION. Consent in force (R493, R504, R505), halts and resumes (R115, R634, R635), and the events that begin and end them.
-/
namespace Sys2Proof.Machine

/-! Halts -/

/-- The halt record (Table 22-9). -/
def Halt.bytes (x : Halt) (t : Nat) : List Byte :=
  leBytes 1 x.cause ++ leBytes 1 x.index ++ leBytes 2 x.lh ++ leBytes 2 x.iaddr ++ leBytes 2 x.daddr ++ leBytes 8 x.stepno ++
  leBytes 4 x.cycle ++ leBytes 4 x.hits ++ leBytes 8 (micro t)

/-- The lowest logical hearth of a partition and the address its core stands at. -/
def State.lowest (s : State) (n : Nat) : Nat × Nat :=
  let l := ((s.hearthsOf n).head?).getD 0
  (l, (s.hearth (s.phys l)).pc)

/-- The partition halts now (R634): HALT_INFO, a HALT marker in every stream, event 0xE310, HALTS. -/
def State.haltNow (s : State) (n : Nat) : State :=
  match (s.part n).halt with
  | none => s
  | some x0 =>
    let x := if x0.cause = 0x0D then { x0 with lh := (s.lowest n).1, iaddr := (s.lowest n).2 } else x0
    let s1 := (s.setBlob (E.HALT_INFO n) (x.bytes s.now)).markAll n 0x0C x.cause x.stop
    ((s1.bump (E.HALTS n)).raise 0xE310 (scopeP n)).onPart n (fun p =>
      { p with halt := some { x with since := some s.now }, halted := true, perfHalts := p.perfHalts + 1 })

/-- No core of the partition can start an instruction before the stop. -/
def State.allStopped (s : State) (n stop : Nat) : Bool :=
  (s.hearthsOf n).all (fun l => let h := s.hearth (s.phys l); decide (stop ≤ h.cycle) || h.stall != .none)

/-- HALT_STOP: every core has reached the stop cycle of a halt that fell due. A raking piece runs to its end first (R634). -/
def execHaltStop (n : Fin 12) (t : Nat) (s : State) : Host.Outcome State Fault Refusal :=
  let s1 := s.at t
  .next (match (s1.part n).halt with
    | some x => if x.since.isNone && (s1.part n).phase == .running && !(s1.part n).inPiece && s1.allStopped n x.stop then s1.haltNow n else s1
    | none => s1)

/-- A halted partition resumes (R635): RUN 0 freely, RUN n until the stop cycle has advanced by n. A BP_REC written
meanwhile takes effect (R633); the snapshot is gone (R636). -/
def State.resume (s : State) (n run : Nat) : State :=
  match (s.part n).halt with
  | none => s
  | some x => match x.since with
    | none => s
    | some t0 =>
      let d := s.now - t0
      let next : Option Halt := if run = 0 then none else some ⟨0x0D, 0, 0, 0, 0, x.stepno, x.stop + run, x.stop + run, 0, none⟩
      (((s.markAll n 0x0D 0 run).raise 0xE311 (scopeP n)).unset (E.SNAP_DATA n)).onPart n (fun p =>
        { p with halt := next, haltNs := p.haltNs + d, perfHalted := p.perfHalted + d,
                 bp := p.bpNext.foldl (fun b x => b.put x.1 x.2) p.bp, bpNext := [] })

/-- HALT_LIMIT_EXPIRY: a partition halted for HALT_LIMIT_NS resumes as for RUN 0 (R635). -/
def execHaltLimitExpiry (n : Fin 12) (t : Nat) (s : State) : Host.Outcome State Fault Refusal :=
  let s1 := s.at t
  let lim := s1.num (E.HALT_LIMIT_NS n)
  .next (match (s1.part n).halt.bind Halt.since with
    | some t0 => if lim ≠ 0 ∧ t0 + lim ≤ s1.now then (s1.resume n 0).raise 0xE312 (scopeP n) else s1
    | none => s1)

/-! Consent -/

/-- The policy mask of a partition: 0 until a POLICY manifest is installed (R493). -/
def State.policyMask (s : State) (n : Nat) : Nat :=
  match Tab.look s.objs 0x12 with
  | some o => fld o (128 + 4 * n) 4
  | none => 0

/-- The trace of a partition ends: event 0xE315 (R632). -/
def State.endTrace (s : State) (n : Nat) : State :=
  if s.tracing n then (s.onPart n (fun p => { p with traceEnded := true })).raise 0xE315 (scopeP n) else s

/-- Every comparator and watch of a record disarmed. -/
def disarmRec (b : List Byte) : List Byte := (pieces b 8 10).flatMap (fun r => leBytes 8 (leNat r % 2 ^ 63))

/-- Effective consent becomes CONSENT AND the policy mask; what a lost bit permitted stops (R504, R505). -/
def State.applyConsent (s : State) (n : Nat) : State :=
  let new := s.num (E.CONSENT n) &&& s.policyMask n
  let old := s.num (E.CONSENT_EFFECTIVE n)
  let lost (b : Nat) : Bool := old.testBit b && !new.testBit b
  let sel := s.num (E.TRACE_SELECT n)
  let s1 := (s.setNum (E.CONSENT_EFFECTIVE n) new).setNum (E.CONSENT_SEEN n) (s.num (E.CONSENT_SEEN n) ||| new)
  let s2 := if (lost 0 && (sel.testBit 0 || sel.testBit 1)) || (lost 2 && sel.testBit 2) then s1.endTrace n else s1
  if lost 1 then
    let s3 := s2.onPart n (fun p => { p with bp := p.bp.mapV (fun _ b => disarmRec b), bpNext := p.bpNext.mapV (fun _ b => disarmRec b) })
    if s3.haltedNow n then s3.resume n 0 else s3.onPart n (fun p => { p with halt := none })
  else s2

/-- Consent changes at once while no step runs, which a halted partition's does not either; otherwise at the next step
boundary (R504). -/
def State.consentSoon (s : State) (n : Nat) : State :=
  if (s.part n).phase = .running ∧ s.haltedNow n = false then s else s.applyConsent n

end Sys2Proof.Machine
end

