-- ==== Sys2Proof/Machine/PowerState.lean ====
section
/-!
DEFINITION. Power states and wakes as the rest of the device sees them (R519 to R533): bounds, the chosen state, entries,
triggers, and what a sleeping partition's stacks keep.
-/
namespace Sys2Proof.Machine

/-! Quantities of Table 18-2. Watts per rick are scaled by 27,720, the least common multiple of 1 to 12, so that a budget
divided by a rick count stays whole. -/

/-- Draw of a sleeping state. -/
def sleepDraw (st : Nat) : Nat := match st with | 1 => 160 | 2 => 38 | 3 => 9 | _ => 0
/-- Entry time. -/
def entryNs (st : Nat) : Nat := match st with | 1 => 2000 | 2 => 200000 | 3 => 5000000 | _ => 5000000
/-- Wake time. -/
def wakeNs (st : Nat) : Nat := match st with | 1 => 20000 | 2 => 1500000 | _ => 120000000

/-- The budget of a partition in watts (R534). -/
def State.budget (s : State) (n : Nat) : Nat :=
  let b := s.num (E.PART_BUDGET_W n)
  if b = 0 then 1150 * (s.ricksOf n).length else b

/-- The wake step of a rick of a partition from a state, in mA × 27,720 (R526): volts are 40. -/
def State.wakeStep (s : State) (n st : Nat) : Nat :=
  (s.budget n * 27720 / max 1 (s.ricksOf n).length - sleepDraw st * 27720) * 25

/-- The partitions that exist. -/
def State.liveParts (s : State) : List Nat := (List.range 12).filter s.exists

/-- The wake bound of a state of a partition (R523). -/
def State.wakeBound (s : State) (n st : Nat) : Nat :=
  if st = 1 then 20000 else
  let r := sumOf s.liveParts (fun m => (s.ricksOf m).length)
  let step := (s.liveParts.map (fun m => s.wakeStep m st)).foldl max 1
  let k := s.num E.SLEW_LIMIT_MA * 27720 / step
  let prologue := ((s.loadedJobs n).map (fun j => cdPrologue (s.job n j).image)).foldl max 0
  entryNs st + s.num E.STAGGER_NS + ceilDiv r (max 1 k) * s.num E.SLEW_WINDOW_NS + wakeNs st + prologue

/-- The deepest state whose wake bound does not exceed WAKE_LATENCY_NS; state A when even S is too slow (R522, R523). -/
def State.chosen (s : State) (n : Nat) : Nat :=
  ([3, 2, 1].find? (fun st => decide (s.wakeBound n st ≤ s.num (E.WAKE_LATENCY_NS n)))).getD 0

/-- The state of a partition: that of its ricks, or the one they are entering. -/
def State.pstate (s : State) (n : Nat) : Nat :=
  ((s.ricksOf n).map (fun k => match (s.rick k).move with
    | some (st, _) => if st = 0 then (s.rick k).pst else st
    | none => (s.rick k).pst)).foldl max 0

/-- Every rick of the partition is in state A with its islands running. -/
def State.awake (s : State) (n : Nat) : Bool := s.exists n && (s.ricksOf n).all (fun k => (s.rick k).on)

/-- The ricks of an idle partition begin to enter a state (R522). -/
def State.startEntry (s : State) (n st : Nat) : State :=
  forAll (s.ricksOf n) (fun k s => s.onRick k (fun r => { r with move := some (st, s.now) })) s

/-- The wake of a rick starts now. -/
def State.startWake (s : State) (k : Nat) : State := s.onRick k (fun r => { r with move := some (0, s.now), waiting := none })

/-- Every rick of a partition waits for the start of its wake (R530). -/
def State.waitWake (s : State) (n : Nat) : State :=
  forAll ((s.ricksOf n).filter (fun k => decide (2 ≤ (s.rick k).pst) && decide ((s.rick k).pst ≤ 3) && (s.rick k).move.isNone && (s.rick k).waiting.isNone)) (fun k s =>
    s.onRick k (fun r => { r with waiting := some s.now })) s

/-- The ricks of a partition in state S wake at once, uncharged and not serialised (R526); the emergency throttle suspends the start until a slot
boundary after it, but for an ash-out (R538, R539). -/
def State.wakeLight (s : State) (n cls : Nat) : State :=
  forAll ((s.ricksOf n).filter (fun k => (s.rick k).pst == 1 && (s.rick k).move.isNone && (s.rick k).waiting.isNone)) (fun k s =>
    if s.throttleAt.isSome ∧ cls ≠ 3 then s.onRick k (fun r => { r with waiting := some s.now }) else s.startWake k) s

/-! Cold modules (R452, R529) -/

/-- In full service, every rick is in power state C or O and none is being brought up: R452 applies. -/
def State.cold (s : State) : Bool :=
  s.num E.BOOT_STATE == 3 && (List.range 12).all (fun k => decide (3 ≤ (s.rick k).pst) && (s.rick k).bringup.isNone)

/-- An Ethernet port. -/
def State.eport (s : State) (e : Nat) : EPort := s.eports.getD e {}
/-- Changes an Ethernet port. -/
def State.onEport (s : State) (e : Nat) (f : EPort → EPort) : State := { s with eports := s.eports.put e (f (s.eport e)) }

/-- The keep-alive port of a module that has just become cold. -/
def State.keepalive (s : State) : Option Nat :=
  ([4, 6, 5, 7].find? (fun e => s.num (E.ETH_STATE e) == 2)).orElse (fun _ => [4, 6, 5, 7].find? (fun e => s.num (E.ETH_ENABLE e) == 1))

/-- The other seven ports go into electrical idle; with network B all disabled no port is parked. -/
def State.parkPorts (s : State) : State :=
  match s.keepalive with
  | none => s
  | some p =>
    forAll ((List.range 8).filter (fun e => e != p && s.num (E.ETH_STATE e) != 3)) (fun e s =>
      (s.setNum (E.ETH_STATE e) 4).onEport e (fun x => { x with parked := true })) (s.setNum E.KEEPALIVE_PORT p)

/-- A wake has begun: the parked ports leave electrical idle and train. -/
def State.unparkPorts (s : State) : State :=
  forAll ((List.range 8).filter (fun e => (s.eport e).parked)) (fun e s =>
    (s.setNum (E.ETH_STATE e) 1).onEport e (fun x => { x with parked := false })) (s.setNum E.KEEPALIVE_PORT 0xFF)

/-! Sources of the arithmetic clock (R547, R553) -/

/-- The PLL of a rick that is idle: 2 PA, 3 PB. -/
def State.idlePll (s : State) (k : Nat) : Nat :=
  match s.num (E.LIVE_SOURCE k) with
  | 2 => 3
  | 3 => 2
  | _ => if (s.num (E.PLL_FAILED k)).testBit 0 then 3 else 2

/-- A PLL has not failed. -/
def State.pllWorks (s : State) (k pll : Nat) : Bool := !(s.num (E.PLL_FAILED k)).testBit (pll - 2)

/-- The highest CLOCK_MHZ of the loaded cords; 500 with none (R535). -/
def State.floorClock (s : State) (n : Nat) : Nat := max 500 (((s.loadedJobs n).map (fun j => cdClock (s.job n j).img)).foldl max 0)

/-- The running clock, but for the emergency throttle. -/
def State.runClock (s : State) (n : Nat) : Nat :=
  let r := s.num (E.RUN_CLOCK_MHZ n)
  if r = 0 then s.num (E.PART_CLOCK_MHZ n) else r

/-- Every rick's idle PLL is stable at the frequency a partition asked for: the change waits for the next boundary (R553). -/
def State.clockJudged (s : State) (n : Nat) : State :=
  match (s.part n).clkNext with
  | some f =>
    if (s.ricksOf n).all (fun k => (s.rick k).stable.contains (s.idlePll k) && (s.rick k).freq.getD (s.idlePll k) 0 == f) then
      s.onPart n (fun p => { p with clkReady := some f })
    else s
  | none => s

/-- A new running clock is asked for: the idle PLL of every rick is retuned (R553). -/
def State.requestClock (s : State) (n f : Nat) : State :=
  let s0 := s.setNum (E.RUN_CLOCK_MHZ n) (s.runClock n)
  if (s.part n).clkNext = some f ∨ ((s.part n).clkNext = none ∧ s.runClock n = f) then s0 else
  let s1 := s0.onPart n (fun p => { p with clkNext := some f, clkReady := none })
  let s2 := forAll (s1.ricksOf n) (fun k s =>
    let p := s.idlePll k
    if !s.pllWorks k p || ((s.rick k).stable.contains p && (s.rick k).freq.getD p 0 == f) then s
    else s.onRick k (fun r => { r with starting := some (p, s.now, f), stable := r.stable.filter (fun x => x != p) })) s1
  s2.clockJudged n

/-- A tenant trigger leads to a first step (R528): a job that yielded for want of messages may begin again (log 104). -/
def State.unyield (s : State) (n : Nat) : State := forAll (List.range 8) (fun j s => s.onJob n j (fun x => { x with yielded := false })) s

/-- A wake trigger of a class of Table 18-3: 1 tenant, 2 background, 3 ash-out (R525). In state A it starts nothing; a tenant
trigger during a background wake fixes the first step (R528); an ash-out wake ignores the stagger (R531). -/
def State.wakePart (s : State) (n cls : Nat) : State :=
  let st := s.pstate n
  if st = 0 ∨ 4 ≤ st then
    -- a wake in progress from state S, or none at all
    s
  else
    let first := if cls = 1 ∧ 2 ≤ st then some (s.now + s.wakeBound n st) else none
    match (s.part n).trigger with
    | some (t0, c, from1) =>
      let s1 := if cls = 1 ∧ c = 2 then
          (s.unyield n).onPart n (fun p => { p with trigger := some (t0, 1, from1), firstStep := if 2 ≤ from1 then some (s.now + s.wakeBound n from1) else none })
        else s
      if cls = 3 then s1.waitWake n else s1
    | none =>
      let sy := if cls = 1 then s.unyield n else s
      let s0 := if sy.cold then sy.unparkPorts else sy
      let s1 := s0.onPart n (fun p => { p with trigger := some (s.now, cls, st), firstStep := first, wakeDeferred := false })
      if st = 1 then s1.wakeLight n cls
      else if cls = 3 ∨ s1.num E.STAGGER_NS = 0 then s1.waitWake n
      else s1

/-- The chosen state of every partition is looked at again: one that sleeps deeper wakes as a background wake (R524). -/
def State.rechoose (s : State) : State :=
  forAll s.liveParts (fun n s => if s.chosen n < s.pstate n ∧ s.pstate n ≤ 3 then s.wakePart n 2 else s) s

/-- A message or transfer reaches a partition: it is a tenant trigger, and it is held unless the stacks are active (R525,
R527). -/
def State.stacksActive (s : State) (n : Nat) : Bool := (s.ricksOf n).all (fun k => decide ((s.rick k).pst ≤ 1))

/-! Saved copies of a job's hearth stores and scalar data, in its SPILL regions (R72, R93, R255, R267): the 16 logical hearths
of a rick one after the other, each its live hearth-store claim rounded up to 4 KiB and then its scalar data (log 46). -/

/-- Bytes kept of one hearth store. -/
def State.liveBytes (s : State) (n j : Nat) : Nat := min (2 ^ 23) (roundUp (Config.claim (cdSection (s.job n j).img 0x0A) 0) 4096)

/-- The SPILL region of a job slot in a rick's stack. -/
def State.spillRegion (s : State) (n j k : Nat) : Option Nat :=
  (s.regionNums n).find? (fun r => rgClass (s.region n r) == 2 && rgJob (s.region n r) == j && rgRick (s.region n r) == k)

/-- Where the copy of a logical hearth lies; none without a SPILL region. -/
def State.spillAddr (s : State) (n j l : Nat) : Option Nat :=
  (s.spillRegion n j (l / 16)).map (fun r => tierB (l / 16) + rgBoff (s.region n r) + l % 16 * (s.liveBytes n j + 0x8000))

/-- The copy of a job is written. -/
def State.saveJob (s : State) (n j : Nat) : State :=
  let live := s.liveBytes n j
  let s1 := forAll (s.hearthsOf n) (fun l s =>
    match s.spillAddr n j l with
    | some b => (s.copyRange (hearthBase (s.phys l)) b live).copyRange (sdComm (s.phys l)) (b + live) 0x8000
    | none => s) s
  s1.onJob n j (fun x => { x with saved := true })

/-- Some page of a job's SPILL regions cannot be read (Table 09-8). -/
def State.spillBad (s : State) (n j : Nat) : Bool :=
  (s.ricksOf n).any (fun k => match s.spillRegion n j k with
    | some r => let b := s.region n r; !(s.badPages n (2 ^ 60 + k * 2 ^ 36 + rgBoff b) (rgLen b)).isEmpty
    | none => false)

/-- The copy of a job is loaded: committed and working scalar data both. -/
def State.restoreJob (s : State) (n j : Nat) : State :=
  let live := s.liveBytes n j
  forAll (s.hearthsOf n) (fun l s =>
    match s.spillAddr n j l with
    | some b => ((s.copyRange b (hearthBase (s.phys l)) live).copyRange (b + live) (sdComm (s.phys l)) 0x8000).copyRange (b + live) (sdWork (s.phys l)) 0x8000
    | none => s) s

/-- The copy of a job's share of one rick is written. -/
def State.saveRick (s : State) (n j k : Nat) : State :=
  let live := s.liveBytes n j
  (forAll ((s.hearthsOf n).filter (fun l => l / 16 == k)) (fun l s =>
    match s.spillAddr n j l with
    | some b => (s.copyRange (hearthBase (s.phys l)) b live).copyRange (sdComm (s.phys l)) (b + live) 0x8000
    | none => s) s).onJob n j (fun x => { x with saved := true })

/-- The copy of a job's share of one rick is loaded. -/
def State.restoreRick (s : State) (n j k : Nat) : State :=
  let live := s.liveBytes n j
  forAll ((s.hearthsOf n).filter (fun l => l / 16 == k)) (fun l s =>
    match s.spillAddr n j l with
    | some b => ((s.copyRange b (hearthBase (s.phys l)) live).copyRange (b + live) (sdComm (s.phys l)) 0x8000).copyRange (b + live) (sdWork (s.phys l)) 0x8000
    | none => s) s

/-- The instruction images of a cord are loaded. -/
def State.loadStreams (s : State) (n j : Nat) : State :=
  let st := cdSection (s.job n j).img 1
  forAll (s.hearthsOf n) (fun l s => s.onHearth (s.phys l) (fun h => { h with imem := Config.streamOf st l })) s

/-- The scalar data images of a cord are loaded. -/
def State.loadSdata (s : State) (n j : Nat) : State :=
  let sd := cdSection (s.job n j).img 2
  forAll (s.hearthsOf n) (fun l s =>
    let g := s.phys l
    let b := bytesAt (Config.sdataOf sd l) 0 0x8000
    (s.store (sdWork g) b).store (sdComm g) b) s

end Sys2Proof.Machine
end

