-- ==== Sys2Proof/Machine/Outcome.lean ====
section
/-!
DEFINITION. How an attempt of a step ends: the outcomes of R49, Table 04-8, Table 04-10, Table 09-8 and Table 13-7, the
checks of R242 and R354, and the commit of action 2.
-/
namespace Sys2Proof.Machine

/-! Discarded attempts -/

/-- The OUTCOME marker of an attempt (Table 22-3). -/
def State.outcomeMark (s : State) (n info : Nat) : State := s.markAll n 0x0E info (s.num (E.STEP_COUNT n))

/-- The attempt is discarded and its step is to be repeated. -/
def State.discardStep (s : State) (n : Nat) : State :=
  let p := s.part n
  (((s.discardAttempt n).outcomeMark n 1).onPart n (fun p => { p with perfDiscards := p.perfDiscards + 1, attempt := p.attempt + 1, again := true })).onJob n p.job
    (fun j => { j with kind := p.kind })

/-- The same, with cause 1 of Table 21-9: from the start barrier to the end barrier. -/
def State.discardFault (s : State) (n : Nat) : State :=
  (s.discardStep n).unavailableTo n 1 (s.part n).stepT0 (s.part n).te

/-- The cord is unloaded through a device fault: cause 5 of Table 21-9, which ends at once, since LOAD would pass check 15. -/
def State.unloadFault (s : State) (n : Nat) : State :=
  let p := s.part n
  ((unloadJob s n p.job 0x13).onPart n (fun p => { p with again := false })).unavailable n 5 s.now

/-- The checksum mismatches of the attempt: logical hearth, array, check, first (R138). -/
def State.mismatches (s : State) (n : Nat) : List (Nat × Nat × Nat × Nat) :=
  (s.hearthsOf n).flatMap (fun l => (s.hearth (s.phys l)).mism.map (fun m => (l, m)))

/-- CHECK_LAST (Table 04-13). -/
def State.setCheckLast (s : State) (n : Nat) : State :=
  match (s.mismatches n).getLast? with
  | none => s
  | some (l, a, c, f) => s.setBlob (E.CHECK_LAST n) (leBytes 2 l ++ leBytes 1 a ++ leBytes 1 c ++ leBytes 2 f ++ zeros 2 ++ leBytes 8 (s.num (E.STEP_COUNT n)))

/-- Some condition of this attempt discards its results. -/
def State.faulty (s : State) (n : Nat) : Bool :=
  let p := s.part n
  p.lostData || p.schedFault || p.ueDiscard || !p.refill.isEmpty || !(s.mismatches n).isEmpty

/-- The response to the conditions of an attempt, the gravest first: data that cannot be recovered (Table 09-8), a schedule
fault (R49), a second failure of a clock source in one step (R556), mismatches by their count in the step (Table 04-8), an uncorrectable error (Tables 04-10 and 09-8). -/
def State.discardBy (s : State) (n : Nat) : State :=
  let p := s.part n
  let ms := s.mismatches n
  let arrays := (ms.map (fun m => (s.phys m.1, m.2.1))).eraseDups
  if p.lostData then unloadJob ((s.discardFault n).onPart n (fun p => { p with again := false })) n p.job 0x11
  else if p.schedFault then
    let s1 := if ms.isEmpty then s else (s.setCheckLast n).raise 0xE401 (scopeP n)
    if p.schedFaults = 0 then (s1.discardFault n).onPart n (fun p => { p with schedFaults := 1 })
    else (s1.discardFault n).unloadFault n
  else if 2 ≤ sumOf (s.ricksOf n) (fun k => (s.rick k).srcFails) then
    ((forAll (s.ricksOf n) (fun k s => s.onRick k (fun r => { r with srcFails := 0 })) s).discardFault n).unloadFault n
  else if !ms.isEmpty then
    let s1 := (s.setCheckLast n).onPart n (fun p => { p with mmCount := p.mmCount + 1 })
    if p.mmCount = 0 then
      (((s1.raise 0xE401 (scopeP n)).bump (E.CHECK_MISMATCHES n)).discardFault n).onPart n (fun p => { p with mmFirst := arrays })
    else if p.mmCount = 1 then
      ((s1.raise 0xE401 (scopeP n)).discardFault n).onPart n (fun p => { p with diag := p.diag ++ arrays.filter (fun x => p.mmFirst.contains x) })
    else ((s1.raise 0xE403 (scopeP n)).discardFault n).unloadFault n
  else s.discardFault n

/-! Exchange attempts (Table 13-7, R386, R389) -/

/-- TSTEP commits. -/
def State.lrCommit (s : State) (n j stepno : Nat) : State :=
  let t := s.lrTstep n j
  let t1 := if t + 1 < 2 ^ 64 then t + 1 else Config.counterOverflow 0x13 (t + 1) 1
  let s1 := (((s.setLr n j 0 8 t1).setLr n j 8 2 0).setLr n j 11 1 1).setLr n j 12 8 stepno
  (s1.onJob n j (fun x => { x with repeatX := false, lrBase := 0, lrForce := false, lrVote := none, lrVerdict := none })).turnCommitted n j t

/-- The attempt is discarded by its verdict, or for want of one. -/
def State.lrDiscard (s : State) (n j kind : Nat) : State :=
  let known := (s.job n j).lrVerdict.isSome
  let a := s.lrAttempt n j + 1
  let a1 := if a < 65536 then a else Config.counterOverflow 0x14 a 1 % 65536
  let s1 := (s.setLr n j 8 2 a1).setLr n j 11 1 (if known then 0 else 2)
  let s2 := ((s1.onJob n j (fun x => { x with repeatX := true, kind := kind, lrVote := none, lrVerdict := none })).bump (E.LR_REPEATS n)).raise 0xED01 (scopeP n)
  let s3 := if known then s2 else (s2.bump (E.LR_UNRESOLVED n)).raise 0xED02 (scopeP n)
  if s.num (E.LR_REPEAT_LIMIT n) ≤ a1 - (s3.job n j).lrBase then (s3.setLr n j 10 1 2).raise 0xED04 (scopeP n) else s3

/-! Checks before the commit -/

/-- The lowest logical hearth that issued an ACCEPT, ATTACH or SNAP, and the address of its first, when the ricks' sequences
differ (R242). -/
def State.kvMismatch (s : State) (n : Nat) : Option (Nat × Nat) :=
  let q := (s.part n).kv.seqs
  let of (k : Nat) : List (List Byte) := (q.filter (fun x => x.1 == k)).map (fun x => x.2.2.2)
  let ks := s.ricksOf n
  if ks.all (fun k => of k == of (ks.headD 0)) then none
  else
    let l := (q.map (fun x => x.2.1)).foldl min ((q.map (fun x => x.2.1)).headD 0)
    (q.find? (fun x => x.2.1 == l)).map (fun x => (l, x.2.2.1))

/-- Some slot result breaks R354. -/
def State.badResult (s : State) (n : Nat) (ad : List Byte) : Bool :=
  !((List.range (adCap ad)).all (fun slot => s.slotOk n slot ad))

/-! The commit (action 2 of Table 02-8) -/

/-- The report that fills the NaN record: the earliest, then the lowest logical hearth (R114, R197). -/
def State.nanFirst (s : State) (n : Nat) : Option NanRep :=
  ((s.hearthsOf n).filterMap (fun l => (s.hearth (s.phys l)).nanRep)).foldl (fun a r => match a with
    | none => some r
    | some b => if r.time < b.time ∨ (r.time = b.time ∧ r.lh < b.lh) then some r else some b) none

/-- The NaN record (Table 06-4). -/
def NanRep.bytes (r : NanRep) : List Byte :=
  [1] ++ leBytes 1 r.engine ++ leBytes 2 r.lh ++ leBytes 2 r.ph ++ leBytes 2 r.iaddr ++ leBytes 8 r.stepno ++ leBytes 8 (micro r.time) ++
  leBytes 4 r.tensor ++ leBytes 1 r.kind ++ leBytes 1 r.wher ++ zeros 2

/-- The NaN record is filled when it is empty; the step is counted (R197). -/
def State.nanCommit (s : State) (n : Nat) : State :=
  match s.nanFirst n with
  | none => s
  | some r =>
    let s1 := s.bump (E.NAN_STEPS n)
    if fld (s.blob (E.NAN_RECORD n)) 0 1 = 1 then s1 else
    forAll (s.hearthsOf n) (fun l s => s.onHearth (s.phys l) (fun h => { h with nan1 := true }))
      ((s1.setBlob (E.NAN_RECORD n) r.bytes).raise 0xE601 (scopeP n))

/-- The pages of a flush record; none when it is to be skipped (R274). A region whose tier B span is evicted has none (R278). -/
def State.flushPages (s : State) (n : Nat) (b : List Byte) : Option (List (Nat × Nat)) :=
  let r := fld b 0 2
  let g := s.region n r
  let first := fld b 8 8
  let len := if fld b 0x10 8 = 0 then rgLen g - first else fld b 0x10 8
  if 256 ≤ r ∨ rgLen g = 0 ∨ rgBacked g = false ∨ rgLen g < first + len ∨ allZero (bytesAt b 2 6) = false ∨ allZero (bytesAt b 0x18 32) = false then none
  else if rgLive g then some ((pagesOf first len).map (fun o => (r, o))) else some []

/-- Flush records are taken in sequence order from the flush list (R273, R274). -/
def State.takeFlush : Nat → State → Nat → State
  | 0, s, _ => s
  | f + 1, s, n =>
    let q := (s.part n).flushNext
    let b := s.mem.read (tierB ((s.ricksOf n).headD 0) + q % 64 * 64) 64
    if fld b 0x38 8 ≠ q then s else
    let s1 := s.onPart n (fun p => { p with flushNext := q + 1 })
    State.takeFlush f (match s.flushPages n b with
      | none => (s1.raise 0xE906 (scopeP n)).bump (E.FLUSH_BAD n)
      | some pages => (s1.onPart n (fun p => { p with flush := p.flush ++ [⟨some q, pages⟩] })).flushDone n) n

/-- The overflow alarm of a block's records: the first record and format beyond the threshold (R377). -/
def State.statAlarm (s : State) (n stepno : Nat) (recs : List (List Byte)) : State :=
  let ppm := s.num (E.LSTATS_ALARM_PPM n)
  let past (r : List Byte) : Bool := (List.range 7).any (fun i => decide (ppm * fld r 0x10 4 < 1000000 * fld r (0x20 + 8 * i) 4))
  if ppm = 0 then s else
  match recs.findIdx? past with
  | some i => s.raise 0xED05 (scopeP n) [fld ((recs[i]?).getD []) 0 4, stepno, 64 + 512 * i]
  | none => s

/-- The statistics block of a committed step (R375, R376). -/
def State.statBlock (s : State) (n j stepno : Nat) (x : List Byte) : State :=
  let c := fld x 6 2
  let r := s.num (E.LSTATS_REGION n)
  if c = 0 ∨ r = 0xFFFF ∨ rgLen (s.region n r) ≤ 4096 then s else
  let size := s.auditBody n r
  let len := 64 + 512 * c
  let tail := s.auditTail n r
  let gap := if size - tail % size < len then size - tail % size else 0
  if s.auditFree n r < gap + len then (s.bump (E.LSTATS_LOST n)).raise 0xED06 (scopeP n)
  else
    let st := s.readSegs (s.segsOf n (fld x 0x30 8) (512 * c))
    let seq := s.num (E.LSTATS_SEQ n) + 1
    let hdr := leBytes 4 0x54415453 ++ leBytes 1 j ++ leBytes 1 (fld x 2 1) ++ leBytes 2 c ++ leBytes 4 len ++ zeros 4 ++ leBytes 8 seq ++
      leBytes 8 stepno ++ leBytes 8 (s.lrTstep n j) ++ leBytes 2 (s.lrAttempt n j) ++ zeros 22
    let pad := leBytes 4 0x54445541 ++ leBytes 1 0xFF ++ zeros 3 ++ leBytes 4 gap ++ zeros (gap - 12)
    let s1 := if gap = 0 then s else s.writeRegion n r (4096 + tail % size) pad
    let s2 := s1.writeRegion n r (4096 + (tail + gap) % size) (hdr ++ st)
    ((s2.writeRegion n r 8 (leBytes 8 (tail + gap + len))).setNum (E.LSTATS_SEQ n) seq).statAlarm n stepno (pieces st 512 c)

/-- The requests of the step are committed, in slot order; one whose reads met a poisoned page ends instead (R250). Answers
what the record says of them. -/
def State.commitBatch (s : State) (n : Nat) (ad : List Byte) (l0 : List (Nat × Nat)) : State × List Sub :=
  ((s.part n).batch.map Prod.snd).foldl (fun a i =>
    let s := a.1
    if !(s.rx i).placed then a
    else if (s.rx i).cacheLost then (s.endRequest n i 8 0x10, a.2 ++ [s.endedSub n i (s.slotResult n (s.rqSlot i) ad)])
    else
      let y := s.commitSlot n i ad (((l0.find? (fun x => x.1 == i)).map Prod.snd).getD 0)
      (y.1, a.2 ++ [y.2])) (s, [])

/-- The step commits (R86, action 2). -/
def State.commitStep (s : State) (n : Nat) : State :=
  let p := s.part n
  let j := p.job
  let img := (s.job n j).img
  let stepno := s.num (E.STEP_COUNT n)
  let x := s.exchange n j p.kind
  -- what earlier boundaries reported is free; ring descriptors and handle releases take effect (R245, R355, Table 11-4)
  let s1 := (s.freeReported n).applyRings n
  let s2 := forAll ((s1.liveHandles n).filter (fun h => h.2.releasing)) (fun h s => s.dropHandle n h.1) s1
  -- scalar data becomes the committed copy (R92)
  let s3 := (forAll (s2.hearthsOf n) (fun l s => s.copyRange (sdWork (s.phys l)) (sdComm (s.phys l)) 0x8000) s2).onPart n (fun p => { p with lastStep := stepno })
  -- the KV cache and the requests (R247, R347)
  let k := s3.firstHearth n / 16
  let l0 := p.batch.map (fun b => (b.2, (s3.dir k (s3.rqList b.2)).lenOf 0))
  let s4 := s3.kvCommit n
  let y := match cdAdmission img p.kind with
    | some ad => s4.commitBatch n ad l0
    | none => (s4, [])
  -- counts of the step (R180, R225), the NaN record, flush records
  let q := y.1.part n
  let s5 := (((y.1.bumpBy (E.EMPTY_ROWS n) 32 q.emptyRows).bumpBy (E.EVIDENCE_RECORDS n) 64 q.evidence).bumpBy (E.SCORE_OPS n) 32 q.scoreOps).bumpBy
    (E.SAMPLE_BAD_ROWS n) 32 q.badRows
  let s6 := State.takeFlush 64 (s5.nanCommit n) n
  -- learning (R375, R385)
  let s7 := match x with
    | some r => s6.statBlock n j stepno r
    | none => s6
  let s8 := if exIs x || (s7.job n j).lrForce then s7.lrCommit n j stepno else s7
  -- the step record (R357 to R361)
  let placed := y.2.map (fun z => z.entry)
  let t := s8.takeTerminals n j placed
  let rf := t.1.takeRefused n j
  let ring (i : Nat) : Nat := rf.1.rf i 0x4C 2
  let subs := y.2.map (fun z => (ring z.entry, z)) ++ t.2.map (fun i => (ring i, rf.1.finalSub n i))
  let s9 := rf.1.publish n j stepno p.stepEpoch p.kind (if exIs x then s.lrAttempt n j else p.attempt) p.stepT0 p.te (if p.stalled then 2 else 0) subs rf.2
  let s10 := s9.onJob n j (fun z => { z with lastStep := stepno, lastHdr := (p.stepEpoch, p.kind, p.stepT0, p.te) })
  let s11 := s10.onPart n (fun p => { p with perfTime := p.perfTime + (p.te - p.stepT0), perfMax := max p.perfMax (p.te - p.stepT0), emptyRows := 0, evidence := 0,
                                             scoreOps := 0, badRows := 0, again := false, attempt := 0, mmCount := 0, mmFirst := [],
                                             schedFaults := 0 })
  ((forAll (s.ricksOf n) (fun k s => s.onRick k (fun r => { r with srcFails := 0 })) s11).outcomeMark n 0).bumpBy (E.STEP_COUNT n) 64 1

/-! Outcome -/

/-- Event 0xE203 for a step longer than its WCET, its waits counted (R60, R388), unless it contained a halt (R115). -/
def State.judgeWcet (s : State) (n : Nat) : State :=
  let p := s.part n
  let took := (p.te - p.stepT0) + p.waitNs + (s.now - p.te)
  if p.halted || decide (took ≤ cdWcet (s.job n p.job).img p.kind) then s
  else (s.raise 0xE203 (scopeP n)).bump (E.WCET_OVERRUNS n)

/-- What becomes of the attempt that has ended, with the verdict of an exchange held or given up (actions 1 to 2). -/
def State.endAttempt (s : State) (n : Nat) : State :=
  let s0 := s.judgeWcet n
  let p := s0.part n
  let j := p.job
  let ex := exIs (s0.exchange n j p.kind)
  let force := (s0.job n j).lrForce || (s0.job n j).lrVerdict == some 1
  if s0.faulty n then
    let s1 := s0.discardBy n
    if ex && s1.loaded n j then (if force then s1.lrCommit n j (s.num (E.STEP_COUNT n)) else s1.lrDiscard n j p.kind) else s1
  else match s0.kvMismatch n with
    | some (l, a) =>
      let h := s0.hearth (s0.phys l)
      s0.fatalTrap n l (s0.phys l) 9 7 a (((h.imem[a]?).map BitVec.toNat).getD 0) 0 h.cycle
    | none =>
      if ex && !force then ((s0.discardStep n).onPart n (fun p => { p with again := false })).lrDiscard n j p.kind
      else
        let bad := match cdAdmission (s0.job n j).img p.kind with
          | some ad => s0.badResult n ad
          | none => false
        if bad then
          let l := s0.firstHearth n
          let h := s0.hearth (s0.phys l)
          (s0.fatalTrap n l (s0.phys l) 9 0xFF h.pc (((h.imem[h.pc]?).map BitVec.toNat).getD 0) 0 h.cycle).raise 0xEC04 (scopeP n)
        else s0.commitStep n

end Sys2Proof.Machine
end

