-- ==== Sys2Proof/Machine/Boundary.lean ====
section
/-!
DEFINITION. The actions of a step boundary (R86, Table 02-8): the end of an attempt, deadlines, rake pauses, job switches,
the start of a step; and the events of a job switch (Table 02-7).
-/
namespace Sys2Proof.Machine

/-! What may run -/

/-- Nothing but want of work keeps an awake partition from running a step. -/
def State.canStep (s : State) (n : Nat) : Bool :=
  s.awake n && (s.part n).ash.isNone && !(s.part n).degraded && (s.ricksOf n).all (fun k => (s.rick k).ctrlDead.isNone) &&
  (match (s.part n).firstStep with | some t => decide (t ≤ s.now) | none => true)

/-- The job slot whose cord is in force in the hearths: ACTIVE_SLOT, kept while its partition idles. -/
def State.resident (s : State) (n : Nat) : Option Nat :=
  let j := s.num (E.ACTIVE_SLOT n)
  if j < 8 ∧ s.loaded n j then some j else none

/-- The members of the entry that names a job slot, first member first. -/
def State.members (s : State) (n j : Nat) : List Nat := (s.slotsOfJob n j).filter (s.loaded n)

/-- The next step of a job is of kind 0, and a repeated exchange of its own kind (R106, R370). -/
def State.kindZero (s : State) (n j : Nat) : State :=
  forAll (s.members n j) (fun m s => s.onJob n m (fun x => { x with kind := if x.repeatX then x.kind else 0 })) s

/-- The job in the hearths goes on from a remap, at kind 0 but for a step that is repeated (R106; log 177). -/
def State.remapped (s : State) (n : Nat) : State :=
  match (s.part n).again, s.resident n with
  | false, some j => s.kindZero n j
  | _, _ => s

/-- The set that the next step of a job would need: that of the switch pending for it, or its own. -/
def State.nextSet (s : State) (n j : Nat) : Nat :=
  match (s.job n j).pendSwitch, (s.job n j).oldEpoch with
  | some w, none => if (s.wset n w).st = 3 ∨ s.jobSet n j = 0xFF then w else s.jobSet n j
  | _, _ => s.jobSet n j

/-- A member can run a step: not stalled (R389), and an epoch can run (R317), its set READY, or its shards in tier S so that the switch
copies them in (Table 02-7, event 3). -/
def State.memberRuns (s : State) (n j : Nat) : Bool :=
  s.lr n j 10 1 != 2 &&
  ((s.chooseEpoch n j).isSome || (s.nextSet n j != 0xFF && ((s.wset n (s.nextSet n j)).st == 3 || ((s.wset n (s.nextSet n j)).st == 5 && !(s.wset n (s.nextSet n j)).evicting))))

/-- A job can run a step, every member of a co-cord with it. -/
def State.canRun (s : State) (n j : Nat) : Bool := s.loaded n j && (s.members n j).all (s.memberRuns n)

/-- A turn holds the slices of a job (R405). -/
def State.turnHeld (s : State) (n j : Nat) : Bool :=
  let t := s.turn n
  t.active && tpRecv t.img && tpGen t.img == j && t.hold

/-- Some queue that a cord polls holds a message. -/
def State.hasWork (s : State) (n j : Nat) : Bool :=
  let p := cdPoll (s.job n j).img
  let reqq := (cdAdmission (s.job n j).img (s.job n j).kind).map adReqq
  (List.range 16).any (fun q => (Config.pollReads p q || reqq == some q) && !s.queueEmpty n q)

/-- A slice of a job may begin: it can run, no turn holds it, and it has not yielded for want of messages. -/
def State.startable (s : State) (n j : Nat) : Bool :=
  s.canRun n j && !s.turnHeld n j && (!(s.job n j).yielded || (s.members n j).any (s.hasWork n))

/-! The end of an attempt (actions 1 and 2) -/

/-- The hearth counters of the attempt are added (R638). -/
def State.addPerf (s : State) (n : Nat) : State :=
  forAll (s.hearthsOf n) (fun l s => s.onHearth (s.phys l) (fun h =>
    { h with perf := (h.perfRun.put 0 (h.perfRun.getD 0 0 + h.cycle)).foldl (fun t x => t.put x.1 (t.getD x.1 0 + x.2)) h.perf, perfRun := [] })) s

/-- A clock that is ready takes effect at the boundary: the idle PLL becomes the live source (R535, R553); the throttle's 500 MHz
ends once the throttle has (R537). -/
def State.switchClock (s : State) (n : Nat) : State :=
  let s1 := if s.throttleAt.isNone then s.onPart n (fun p => { p with floorNow := false }) else s
  match (s1.part n).clkReady with
  | some f =>
    let s2 := forAll (s1.ricksOf n) (fun k s => s.setNum (E.LIVE_SOURCE k) (s.idlePll k)) s1
    (s2.setNum (E.RUN_CLOCK_MHZ n) f).onPart n (fun p => { p with clkReady := none, clkNext := none })
  | none => s1

/-! What takes effect at a boundary beside the actions -/

/-- NAN_CLEAR takes effect (R197). -/
def State.clearNan (s : State) (n : Nat) : State :=
  if !(s.part n).nanClear then s else
  forAll (s.hearthsOf n) (fun l s => s.onHearth (s.phys l) (fun h => { h with nan1 := false }))
    ((s.unset (E.NAN_RECORD n)).onPart n (fun p => { p with nanClear := false }))

/-- PERF_CLEAR takes effect (R638). -/
def State.clearPerf (s : State) (n : Nat) : State :=
  if !(s.part n).perfClear then s else
  forAll (s.hearthsOf n) (fun l s => s.onHearth (s.phys l) (fun h => { h with perf := [] })) (s.onPart n (fun p => { p with perfClear := false }))

/-- The UNLOADs that wait for the boundary (R88). -/
def State.unloads (s : State) (n : Nat) : State :=
  forAll (List.range 8) (fun j s => if (s.job n j).unloadReq && s.loaded n j then unloadJob s n j 0x13 else s) s

/-- Requests and handles whose pages were lost end (R250); clears, consent, comparators, the seed, and UNLOADs take effect (R180, R504,
R633). -/
def State.boundaryEffects (s : State) (n : Nat) : State :=
  let s1 := forAll ((s.entriesOf n).filter (fun i => (s.rx i).cacheLost)) (fun i s => s.endRequest n i 8 0x10) s
  let s2 := forAll ((s1.liveHandles n).filter (fun h => s1.listPoisoned n (s1.handleList n h.1))) (fun h s => s.dropHandle n h.1) s1
  let s3 := ((s2.clearNan n).clearPerf n).onPart n (fun p =>
    { p with seed := s2.num (E.RND_SEED n), bp := p.bpNext.foldl (fun b x => b.put x.1 x.2) p.bp, bpNext := [] })
  (s3.applyConsent n).unloads n

/-- Action 3: every live request whose deadline has passed expires (R338, R339). -/
def State.judge (s : State) (n : Nat) : State :=
  forAll ((s.entriesOf n).filter (fun i => liveState (s.rqState i) && s.passed i (s.part n).te)) (fun i s =>
    ((s.endRequest n i 6 0).raise 0xEB02 (scopeP n)).bump (E.EXPIRIES n)) s

/-- Migrations, refetches and retirements that wait for a boundary (R316, R601, R605). -/
def State.boundaryRepairs (s : State) (n : Nat) : State := ((s.channelBoundary n).refetches n).retireDue n

/-! The start of a step (action 8) -/

/-- A hearth at the start barrier (Table 03-10). -/
def Hearth.atStart (h : Hearth) (kind : Nat) : Hearth :=
  { h with pc := kind, kind := kind, cycle := 0, regs := [], ys := [], stall := .none, engs := [], noted := false, nan0 := false, nanRep := none,
           stats := [], accRows := [], busy := [], mm := {}, tileKey := none, chain := none, chainDesc := none, piece := none, mism := [],
           perfRun := [(18, 1)] }

/-- The start barrier of a step of a job slot (R106, R623): every core at its kind's entry, the attempt's marks cleared, the job's counters
re-armed (R438), LAST_USE of the streamed set. -/
def State.startStep (s : State) (n j : Nat) : State :=
  let p := s.part n
  let k := (s.job n j).kind
  let s1 := s.onPart n (fun p => { p with
    phase := .running, job := j, kind := k, stepT0 := s.now, firstT0 := if p.attempt = 0 then s.now else p.firstT0, schedFault := false,
    trapAt := none, halt := none, lossEvent := false, pieces := 0, inPiece := false, ueDiscard := false, refill := [], lostData := false, again := false,
    halted := false, haltNs := 0, kv := {}, trigger := none, firstStep := none, idleSince := none, lostHearth := false,
    sliceAt := some (p.sliceAt.getD s.now) })
  let s2 := forAll (s1.hearthsOf n) (fun l s =>
    let g := s.phys l
    let s := s.onHearth g (fun h => h.atStart k)
    (s.coreRecord n g 0x01 k 0 (s.num (E.STEP_COUNT n))).coreRecord n g 0x02 0 0 (micro s.now)) s1
  let s3 := if p.stepSet < 8 then s2.onWset n p.stepSet (fun w => { w with lastUse := micro s.now }) else s2
  let s4 := (s3.onJob n j (fun x => { x with lastEpoch := p.stepEpoch, yielded := false, reload := false })).rearm n j
  let s5 := if exIs (s4.exchange n j k) then s4.turnAttempt n j (s4.lrTstep n j) else s4
  let s6 := s5.kindledStep n j
  match (s6.part n).downSince with
  | some (c, t) => (s6.unavailable n c t).onPart n (fun p => { p with downSince := none })
  | none => s6

/-- The gate of an exchange attempt is passed: its wait belongs to the step (R388). -/
def State.passGate (s : State) (n j since : Nat) : State :=
  let s1 := s.onPart n (fun p => { p with waitNs := p.waitNs + (s.now - since) })
  (s1.writeLearning n j (s1.job n j).kind).startStep n j

/-- The gate begins: this member's ready token, and the wait for every other's (R384). -/
def State.openGate (s : State) (n j grp : Nat) : State :=
  let s1 := (s.lrFresh n j).lrReady n j grp (s.lrTstep n j) (s.lrAttempt n j) (s.lrRing n grp).2
  if s1.lrAllReady n j grp then s1.passGate n j s1.now else s1.onPart n (fun p => { p with phase := .gate s1.now })

/-- Action 8 for a job slot: drains, the start-of-step poll, the step epoch, admission; an exchange attempt first meets the hold of R402
and the gate of R384. Messages of a job that is held wait in their queues (R317). -/
def State.action8 (s : State) (n j : Nat) : State :=
  let s1 := (s.applyDrains n).onPart n (fun p => { p with polled := false, job := j, batch := [], stalled := false })
  let ad := cdAdmission (s1.job n j).img (s1.job n j).kind
  let s2 := match ad, s1.chooseEpoch n j with
    | some a, some _ => s1.takeMessages n j a
    | _, _ => s1
  match s2.chooseEpoch n j with
  | none => s2.onPart n (fun p => { p with phase := .idle })
  | some e =>
    let s3 := s2.onPart n (fun p => { p with stepEpoch := e, stepSet := s2.epochSet n j e })
    let s4 := match ad with
      | some a => s3.admitRequests n j e a
      | none => s3
    let x := s4.exchange n j (s4.job n j).kind
    if exIs x then
      if s4.turnHolds n j (s4.lrTstep n j) then s4.onPart n (fun p => { p with phase := .turnHold })
      else s4.openGate n j ((s4.lrGroupNo n j).getD 0)
    else (s4.writeLearning n j (s4.job n j).kind).startStep n j

/-! Members of a co-cord (R75) -/

/-- The scalar data of a logical hearth and its place in a job's SPILL regions (log 46). -/
def State.swapSdata (s : State) (n j : Nat) (out : Bool) : State :=
  let live := s.liveBytes n j
  forAll (s.hearthsOf n) (fun l s =>
    match s.spillAddr n j l with
    | none => s
    | some b =>
      if out then s.copyRange (sdComm (s.phys l)) (b + live) 0x8000
      else (s.copyRange (b + live) (sdComm (s.phys l)) 0x8000).copyRange (b + live) (sdWork (s.phys l)) 0x8000) s

/-- The next member's streams and scalar data replace those of the member whose step ended. -/
def State.enterMember (s : State) (n from1 to1 : Nat) : State :=
  if from1 = to1 then s else
  let s1 := (s.swapSdata n from1 true).onJob n from1 (fun x => { x with saved := true })
  let s2 := if (s1.job n to1).saved then s1.swapSdata n to1 false else s1.loadSdata n to1
  s2.loadStreams n to1

/-- The member slot at a place of the co-cord step. -/
def State.memberAt (s : State) (n j i : Nat) : Nat :=
  if ((s.job n j).coSteps[i]?).getD 0 = 1 then (s.job n j).partner.getD j else j

/-! Idle partitions (R522) -/

/-- A pass would not end in time if a sleeping partition's wake, of the given bound, began later than now; the telemetry of a sleeping rick needs no wake, and the
hearth scrub is suspended in state C (R599). -/
def State.passDue (s : State) (n st w k : Nat) : Bool :=
  let t := s.task n k
  k != 7 && !(k == 1 && st == 3) && s.hasUnit n k &&
  decide (8 * t.tp + 7 * s.interval n k ≤ 8 * (s.now + w + (s.units n k - t.done) * 5000))

/-- Tasks that wake a partition from a state, or keep a background wake of it awake. -/
def State.passesDue (s : State) (n st : Nat) : List Nat := intervalTasks.filter (s.passDue n st (s.wakeBound n st))

/-- No job can run: the slice ends, and the damper may put the partition to sleep. -/
def State.goIdle (s : State) (n : Nat) : State :=
  let s1 := match s.resident n with
    | some j => s.turnSliceEnded n j
    | none => s
  let s2 := s1.onPart n (fun p => { p with phase := .idle, idleSince := some (p.idleSince.getD s.now), sliceAt := none })
  let p := s2.part n
  let c := s2.chosen n
  let waitFirst := match p.firstStep with | some t => decide (s2.now < t) | none => false
  if !s2.awake n || p.ash.isSome || waitFirst then s2
  else match p.trigger with
    | some (_, 2, from1) =>
      if (s2.urgents n).isEmpty && (s2.passesDue n from1).isEmpty then
        let s3 := s2.onPart n (fun p => { p with trigger := none })
        if c = 0 then s3 else s3.startEntry n c
      else s2
    | _ =>
      let s3 := s2.onPart n (fun p => { p with trigger := none, firstStep := none })
      if c = 0 ∨ !(s3.urgents n).isEmpty then s3 else s3.startEntry n 1

/-! Job switches (Table 02-7) -/

/-- The switch into a job begins (event 1): the outgoing slice is over. From an idle partition with nothing resident there is nothing to write
back, but the events keep their times. -/
def State.beginSwitch (s : State) (n j pos ms : Nat) (idle : Bool) : State :=
  let s1 := match s.resident n with
    | some o => s.turnSliceEnded n o
    | none => s
  let s2 := if idle then s1 else forAll (s1.members n j) (fun m s => s.action4 n m) s1
  s2.onPart n (fun p => { p with phase := .switchOut j s2.now, planPos := pos, sliceMs := ms, sliceAt := none, fromIdle := idle, attempt := 0, mmCount := 0,
                                 mmFirst := [], schedFaults := 0, coIdx := 0, turnJob := if p.turnJob = some j then none else p.turnJob })

/-- The plan's entries in cyclic order from a place, with their places. -/
def State.planFrom (s : State) (n pos : Nat) : List (Nat × Nat × Nat) :=
  let p := s.plan n
  let l := p.mapIdx (fun i e => (i, e.1, e.2))
  l.drop (pos % max 1 p.length) ++ l.take (pos % max 1 p.length)

/-- The entry that a turn's SWITCH asks for (R408), where it can start. -/
def State.turnEntry (s : State) (n : Nat) : Option (Nat × Nat × Nat) :=
  match (s.part n).turnJob with
  | some j => (s.planFrom n 0).find? (fun e => e.2.1 == j && s.startable n j)
  | none => none

/-- A step of the resident job begins at once. -/
def State.runResident (s : State) (n j : Nat) : State := s.action8 n (s.memberAt n j (s.part n).coIdx)

/-- A new slice of the resident job begins without a switch (R69). -/
def State.newSlice (s : State) (n j pos ms : Nat) : State :=
  (s.onPart n (fun p => { p with planPos := pos, sliceMs := ms, sliceAt := none, turnJob := if p.turnJob = some j then none else p.turnJob })).runResident n j

/-- An entry of the plan is passed over: a set with ABSENT shards is fetched, its spans given first where it was evicted (R299). -/
def State.passOver (s : State) (n j : Nat) : State :=
  forAll (s.members n j) (fun m s =>
    let w := s.nextSet n m
    let x := s.wset n w
    if 8 ≤ w || x.evicting || ((s.turn n).active && tpRecv (s.turn n).img && tpSet (s.turn n).img == w) then s
    else if x.st = 2 ∧ x.shards.any (fun b => b % 16 == 0) ∧ x.wanted.isEmpty then s.wantAll n w
    else if x.st = 6 then
      match s.room n (s.spanNeeds n w) with
      | .now offs => ((s.giveSpans n w offs).copyIn n w).wantAll n w
      | .after sets => forAll sets (fun v s => s.beginEvict n v) s
      | .never _ => s.raise 0xEA0A (scopeP n)
    else s) s

/-- Action 7 (R69, R70): the slice goes on, or the next entry of the plan that can run begins, a turn's SWITCH first. `idle`: no step ended
here. -/
def State.action7 (s : State) (n : Nat) (idle : Bool) : State :=
  let p := s.part n
  let past := match p.sliceAt with
    | some t => decide (t + 1000000 * p.sliceMs ≤ s.now)
    | none => true
  let stay := match s.resident n with
    | some j => if !idle && !past && s.canRun n j && !(s.job n j).yielded && (s.turnEntry n).isNone then some j else none
    | none => none
  match stay with
  | some j => s.runResident n j
  | none =>
    let next := match s.turnEntry n with
      | some e => some e
      | none =>
        let l := (s.planFrom n p.planPos).filter (fun e => s.startable n e.2.1 && (s.members n e.2.1).head? == some e.2.1)
        (l.find? (fun e => idle || s.resident n != some e.2.1)).orElse (fun _ => l.head?)
    let skipped := ((s.planFrom n p.planPos).takeWhile (fun e => some e != next)).map (fun e => e.2.1)
    let s := forAll skipped (fun j s => s.passOver n j) s
    match next with
    | none => s.goIdle n
    | some (i, j, ms) =>
      let needsCopy := (s.members n j).any (fun m => (s.chooseEpoch n m).isNone && (s.wset n (s.nextSet n m)).st != 3)
      if s.resident n = some j ∧ needsCopy = false then
        let s1 := if idle then forAll (s.members n j) (fun m s => s.action4 n m) s else s
        s1.newSlice n j (i + 1) ms
      else s.beginSwitch n j (i + 1) ms idle

/-! Pauses (actions 5 and 6) -/

/-- Data that the pause mends: pages to refill from tier S (Table 09-8), arrays to diagnose (R139). -/
def State.mends (s : State) (n : Nat) : State :=
  let p := s.part n
  let s1 := forAll p.diag (fun x s => if x.2 < 4 then s.diagnose n x.1 x.2 true else s.diagnose n x.1 (x.2 - 4) false) (s.onPart n (fun p => { p with diag := [], refill := [] }))
  (forAll p.refill (fun x s => s.refillPage n x.1 x.2) s1).retireDue n

/-- The step that would follow has failed: requests in flight end, and the cord is reloaded from its image through events 2 to 5 of Table
02-7 (R80, R604). -/
def State.failedStep (s : State) (n j : Nat) : State :=
  let s1 := forAll (s.members n j) (fun m s =>
    (forAll ((s.jobEntries n m).filter (fun i => inFlight (s.rqState i))) (fun i s => s.endRequest n i 8 0x13) s).onJob n m
      (fun x => { x with reload := true, saved := false, kind := if x.repeatX then x.kind else 0 })) s
  (s1.raise 0xE057 (scopeP n) [j, s1.num (E.STEP_COUNT n)]).onPart n (fun p =>
    { p with lostHearth := false, again := false, attempt := 0, mmCount := 0, mmFirst := [], schedFaults := 0, coIdx := 0,
             downSince := some (p.downSince.getD (2, s1.now)), phase := .switchMaps j s1.now, fromIdle := false })

/-- The pause ends: a step whose hearth was lost has failed and its cord is reloaded (R604); otherwise action 7. -/
def State.endPause (s : State) (n since : Nat) : State :=
  let d := s.now - since
  let s1 := (s.setNum (E.LAST_PAUSE_NS n) d).onPart n (fun p => { p with waitNs := p.waitNs + d })
  let p := s1.part n
  match p.lostHearth, s1.resident n with
  | true, some j => s1.failedStep n j
  | _, some j => if p.again then s1.action8 n (s1.memberAt n j p.coIdx) else s1.action7 n false
  | _, none => s1.action7 n false

/-- Actions 5 to 8 of a boundary: a pause where a remap is due, a task is urgent, or something is to be mended. -/
def State.pauseOrGo (s : State) (n : Nat) : State :=
  let p := s.part n
  let remap := !(s.remapsDue n).isEmpty
  let need := remap || !p.diag.isEmpty || !p.refill.isEmpty || !(s.urgents n).isEmpty
  if need then
    let s1 := ((s.raise 0xE204 (scopeP n)).bump (E.RAKE_PAUSES n)).mends n
    let s2 := if remap then (s1.remapAll n s1.spare).remapped n else s1
    -- the copied images run on; a spare's core starts with the step
    s2.onPart n (fun p => { p with phase := .pause s2.now remap })
  else match p.again, s.resident n with
    | true, some j => s.action8 n (s.memberAt n j p.coIdx)
    | _, _ => s.action7 n false

/-- Actions 3 and 4 of the boundary of a member step, and what follows. -/
def State.afterOutcome (s : State) (n : Nat) : State :=
  let s0 := s.onPart n (fun p => { p with phase := .idle, waitNs := 0 })
  let p := s0.part n
  let j := p.job
  let yields := s0.loaded n j && Config.pollYield (cdPoll (s0.job n j).img) p.kind && !p.polled && !p.again
  let s1 := if yields then s0.onJob n j (fun x => { x with yielded := true }) else s0
  let s2 := (s1.judge n).boundaryEffects n
  let s3 := if s2.loaded n j then s2.action4 n j else s2
  let s4 := s3.boundaryRepairs n
  let q := s4.part n
  match s4.resident n with
  | none => s4.pauseOrGo n
  | some a =>
    let steps := (s4.job n a).coSteps
    if steps.isEmpty then s4.pauseOrGo n
    else if q.again then (if q.diag.isEmpty && q.refill.isEmpty then s4.action8 n j else s4.pauseOrGo n)
    else if q.coIdx + 1 < steps.length then
      let m := s4.memberAt n a (q.coIdx + 1)
      ((s4.enterMember n j m).onPart n (fun p => { p with coIdx := p.coIdx + 1 })).action8 n m
    else ((s4.enterMember n j a).onPart n (fun p => { p with coIdx := 0 })).pauseOrGo n

/-- The attempt is judged and the rest of the boundary follows. -/
def State.finishAttempt (s : State) (n : Nat) : State := (s.endAttempt n).afterOutcome n

/-- Action 1 is complete: T_e, the kind the cord named, the counters, the clock; an exchange attempt votes and waits for its verdict
(R384, R386). -/
def State.beginBoundary (s : State) (n named : Nat) : State :=
  let j := (s.part n).job
  let s1 := ((s.onPart n (fun p => { p with te := s.now, bkind := named })).onJob n j (fun x => { x with kind := named })).addPerf n
  let s2 := s1.switchClock n
  match s2.exchange n j (s2.part n).kind with
  | none => s2.finishAttempt n
  | some x =>
    if fld x 2 1 ≠ 1 then s2.finishAttempt n else
    let s3 := s2.lrCast n j ((s2.lrGroupNo n j).getD 0) (s2.lrOwnVote n j x)
    if (s3.job n j).lrVerdict.isSome || (s3.job n j).lrForce then s3.finishAttempt n
    else s3.onPart n (fun p => { p with phase := .verdict s3.now false })

/-- A sleeping partition has a job that can start, for which nothing has woken it yet (Table 18-3; log 176). -/
def State.sleepsOnWork (s : State) (n : Nat) : Bool :=
  let st := s.pstate n
  decide (1 ≤ st) && decide (st ≤ 3) && (s.part n).trigger.isNone && (s.part n).ash.isNone && !(s.part n).degraded &&
    ((s.turnEntry n).isSome || (s.plan n).any (fun e => s.startable n e.1))

/-- The boundary of a partition that runs no step: releases and ring descriptors apply, deadlines of held steps are judged, and a job that can
run begins (R319, R522). A job that can run wakes a sleeping partition, as a background wake (R525; log 176). -/
def State.idleBoundary (s : State) (n : Nat) : State :=
  if !s.exists n then s else
  if !s.canStep n then (if s.sleepsOnWork n then s.wakePart n 2 else s) else
  let s1 := s.applyRings n
  let s2 := forAll ((s1.liveHandles n).filter (fun h => h.2.releasing)) (fun h s => s.dropHandle n h.1) s1
  let s3 := ((s2.boundaryEffects n).boundaryRepairs n).switchClock n
  let s4 := if (s3.remapsDue n).isEmpty then s3 else (s3.remapAll n s3.spare).remapped n
  let s5 := if (s4.plan n).any (fun e => s4.startable n e.1) then (s4.onPart n (fun p => { p with te := s4.now })).judge n else s4
  match (s5.part n).lostHearth, s5.resident n with
  | true, some j => s5.failedStep n j
  | _, _ => s5.action7 n true

/-- Every core of the partition has entered the end barrier: the kind they named. -/
def State.allEnded (s : State) (n : Nat) : Option Nat :=
  let ks := (s.hearthsOf n).map (fun l => match (s.hearth (s.phys l)).stall with | .ended k => some k | _ => none)
  if ks.all Option.isSome then (ks.head?).bind id else none

/-- STEP_BOUNDARY: a step of the partition has ended, or a partition that runs none looks for work. A halt that falls due in the same
step stops it first; a RUN that it outlives is over (R634, R635). -/
def execStepBoundary (n : Fin 12) (t : Nat) (s : State) : Host.Outcome State Fault Refusal :=
  let s1 := s.at t
  let p := s1.part n
  .next (match p.phase with
    | .running =>
      match s1.allEnded n with
      | none => s1
      | some k =>
        if s1.haltedNow n || p.inPiece then s1 else
        match p.halt with
        | some x => if x.cause = 0x0D then (s1.onPart n (fun p => { p with halt := none })).beginBoundary n k else s1.haltNow n
        | none => s1.beginBoundary n k
    | .idle => s1.idleBoundary n
    | .turnHold => if s1.turnHolds n p.job (s1.lrTstep n p.job) then s1 else s1.openGate n p.job ((s1.lrGroupNo n p.job).getD 0)
    | _ => s1)

/-- RAKE_PAUSE_END: no task is urgent any more, or 1,000 µs have passed (R63). -/
def execRakePauseEnd (n : Fin 12) (t : Nat) (s : State) : Host.Outcome State Fault Refusal :=
  let s1 := s.at t
  .next (match (s1.part n).phase with
    | .pause since _ => if (s1.urgents n).isEmpty || decide (since + 1000000 ≤ s1.now) then s1.endPause n since else s1
    | _ => s1)

/-- GATE_TIMEOUT: the gate ends at GATE_NS without every token (R384). -/
def execGateTimeout (n : Fin 12) (t : Nat) (s : State) : Host.Outcome State Fault Refusal :=
  let s1 := s.at t
  let j := (s1.part n).job
  .next (match (s1.part n).phase, s1.exchange n j (s1.job n j).kind with
    | .gate since, some x =>
      if since + fld x 0x14 4 ≤ s1.now then ((s1.bump (E.LR_GATE_MISSES n)).raise 0xED07 (scopeP n)).passGate n j since else s1
    | _, _ => s1)

/-- VERDICT_TIMEOUT: no verdict within VERDICT_NS: the query goes round the ring; after as long again the attempt ends without one
(R384, Table 13-7). -/
def execVerdictTimeout (n : Fin 12) (t : Nat) (s : State) : Host.Outcome State Fault Refusal :=
  let s1 := s.at t
  let j := (s1.part n).job
  .next (match (s1.part n).phase, s1.exchange n j (s1.part n).kind with
    | .verdict since query, some x =>
      if s1.now < since + fld x 0x18 4 then s1
      else if query then s1.finishAttempt n
      else
        let grp := (s1.lrGroupNo n j).getD 0
        (s1.lrSendNext n grp (Config.lrBody ltQuery grp (s1.lrTstep n j) (s1.lrAttempt n j) (s1.lrRing n grp).2 0)).onPart n
          (fun p => { p with phase := .verdict s1.now true })
    | _, _ => s1)

/-! The events of a switch -/

/-- SWITCH_WRITEBACK_DONE (event 2): the outgoing job's stores and scalar data are in its SPILL regions (R93). -/
def execSwitchWritebackDone (n : Fin 12) (t : Nat) (s : State) : Host.Outcome State Fault Refusal :=
  let s1 := s.at t
  .next (match (s1.part n).phase with
    | .switchOut j t0 =>
      if s1.now < t0 + 30000 then s1 else
      let s2 := match s1.resident n with
        | some o => s1.saveJob n o
        | none => s1
      (s2.setNum (E.ACTIVE_SLOT n) 0xFF).onPart n (fun p => { p with phase := .switchMaps j (t0 + 30000) })
    | _ => s1)

/-- The incoming job's weights (event 3): regions it lacks get their spans, after evictions where need be, and IN_S shards are copied in; a set
that finds no room stays out and its entry is skipped. -/
def State.switchWeights (s : State) (n j : Nat) : State :=
  let lack := ((s.members n j).filter (fun m => (s.chooseEpoch n m).isNone && (s.wset n (s.nextSet n m)).st == 5)).map (s.nextSet n)
  match lack.head? with
  | none => s.onPart n (fun p => { p with phase := .switchPrologue j s.now })
  | some w =>
    match s.room n (s.spanNeeds n w) with
    | .now offs => (s.giveSpans n w offs).onPart n (fun p => { p with phase := .switchCopy j s.now })
    | .after sets => (forAll sets (fun v s => s.beginEvict n v) s).onPart n (fun p => { p with phase := .switchCopy j s.now })
    | .never _ => ((s.raise 0xEA0A (scopeP n)).onPart n (fun p => { p with phase := .idle })).action7 n true

/-- SLOT_MAPS_IN_FORCE (event 3): streams, and the saved copy or the images of the incoming cord, are loaded; a copy that cannot be read
unloads the cord (Table 09-8). -/
def execSlotMapsInForce (n : Fin 12) (t : Nat) (s : State) : Host.Outcome State Fault Refusal :=
  let s1 := s.at t
  .next (match (s1.part n).phase with
    | .switchMaps j t0 =>
      if s1.now < t0 + 400000 then s1 else
      if !s1.loaded n j then s1.onPart n (fun p => { p with phase := .idle }) else
      let jb := s1.job n j
      if jb.saved && !jb.reload && (s1.members n j).any (s1.spillBad n) then
        (unloadJob s1 n j 0x11).onPart n (fun p => { p with phase := .idle })
      else
        let s2 := s1.loadStreams n j
        (if jb.saved && !jb.reload then s2.restoreJob n j else s2.loadSdata n j).switchWeights n j
    | _ => s1)

/-- The shards of a set are copied in; a set that is not READY then is fetched, and the slice is skipped (R299). -/
def State.switchCopied (s : State) (n j w : Nat) : State :=
  let s1 := s.copyIn n w
  if (s1.wset n w).st = 3 then s1.switchWeights n j
  else ((s1.wantAll n w).onPart n (fun p => { p with phase := .idle })).action7 n true

/-- TIER_S_COPY_DONE (event 4): the shards copied in are resident once their room was had. -/
def execTierSCopyDone (n : Fin 12) (t : Nat) (s : State) : Host.Outcome State Fault Refusal :=
  let s1 := s.at t
  .next (match (s1.part n).phase with
    | .switchCopy j _ =>
      let lack := ((s1.members n j).filter (fun m => (s1.chooseEpoch n m).isNone && (s1.wset n (s1.nextSet n m)).st == 5)).map (s1.nextSet n)
      (match lack.head? with
      | none => s1.onPart n (fun p => { p with phase := .switchPrologue j s1.now })
      | some w =>
        if (s1.spanNeeds n w).isEmpty then s1.switchCopied n j w
        else match s1.room n (s1.spanNeeds n w) with
          | .now offs => (s1.giveSpans n w offs).switchCopied n j w
          | _ => s1)
    | _ => s1)

/-- SWITCH_PROLOGUE_DONE (event 5): the incoming slice begins; its first step is kind 0, and a repeated exchange its own kind. A switch pending
in a partition without a boundary takes effect now (R306). -/
def execSwitchPrologueDone (n : Fin 12) (t : Nat) (s : State) : Host.Outcome State Fault Refusal :=
  let s1 := s.at t
  .next (match (s1.part n).phase with
    | .switchPrologue j t0 =>
      if s1.now < t0 + cdPrologue (s1.job n j).image then s1
      else if !s1.loaded n j then s1.onPart n (fun p => { p with phase := .idle })
      else
        let ms := s1.members n j
        let s2 := (s1.setNum (E.ACTIVE_SLOT n) j).onPart n (fun p => { p with phase := .idle })
        let s3 := if (s2.part n).fromIdle then forAll ms (fun m s => s.action4 n m) s2 else s2
        (forAll ms (fun m s => s.onJob n m (fun x => { x with kind := if x.repeatX then x.kind else 0 })) s3).runResident n j
    | _ => s1)

/-! Boundary records (R359) -/

/-- BOUNDARY_RECORD: a terminal state or a refusal that no step of its job reported within 1 ms. -/
def execBoundaryRecord (n : Fin 12) (t : Nat) (s : State) : Host.Outcome State Fault Refusal :=
  let s1 := s.at t
  .next (match (List.range 8).find? (fun j => match (s1.job n j).unreported with
      | some u => decide (u + 1000000 ≤ s1.now)
      | none => false) with
    | none => s1
    | some j =>
      let a := s1.takeTerminals n j []
      let rf := a.1.takeRefused n j
      let subs := a.2.map (fun i => (rf.1.rf i 0x4C 2, rf.1.finalSub n i))
      let h := (rf.1.job n j).lastHdr
      let s2 := rf.1.publish n j (rf.1.job n j).lastStep h.1 h.2.1 0 h.2.2.1 h.2.2.2 4 subs rf.2
      (forAll a.2 (fun i s => s.freeEntry i) s2).drainCheck n j)

end Sys2Proof.Machine
end

