-- ==== Sys2Proof/Machine/Groups.lean ====
section
/-!
DEFINITION. Collective commands (R439 to R446): the chain of operations the device builds for each, from the group's own
counters and operations (log 41).
-/
namespace Sys2Proof.Machine

/-! Group records (Tables 15-9 and 15-10) -/

/-- A stage record. -/
def Group.stage (g : Group) (i : Nat) : List Byte := bytesAt g.bytes (0x20 + 32 * i) 32
/-- SIZE of a stage. -/
def Group.size (g : Group) (i : Nat) : Nat := max 1 (fld (g.stage i) 0 2)
/-- POS in a stage. -/
def Group.pos (g : Group) (i : Nat) : Nat := fld (g.stage i) 2 2
/-- MEMBERS. -/
def Group.members (g : Group) : Nat := fld g.bytes 4 2
/-- INDEX. -/
def Group.index (g : Group) : Nat := fld g.bytes 6 2
/-- Command slots of the ring. -/
def Group.cqSlots (g : Group) : Nat := 2 ^ fld g.bytes 0x0A 1
/-- The local buffer that commands address. -/
def State.groupBuf (s : State) (n : Nat) (g : Group) : Option Buf := s.buffer n (fld g.bytes 0x14 4)

/-! Chains (R439, R441) -/

/-- One send of a ring: reduce-scatter or all-gather, stage, offset in the buffer and bytes. -/
structure Hop where
  reduce : Bool
  stage : Nat
  off : Nat
  len : Nat
  deriving DecidableEq, Repr

/-- The sends of a first round at a stage: chunk (i − s) mod N at step s. -/
def Group.scatter (g : Group) (st base len : Nat) : List Hop :=
  let n := g.size st
  (List.range (n - 1)).map (fun k => { reduce := true, stage := st, off := base + (g.pos st + n - k) % n * (len / n), len := len / n })

/-- The sends of a second round at a stage: chunk (i + 1 − s) mod N at step s. -/
def Group.gather (g : Group) (st base len : Nat) : List Hop :=
  let n := g.size st
  (List.range (n - 1)).map (fun k => { reduce := false, stage := st, off := base + (g.pos st + 1 + n - k) % n * (len / n), len := len / n })

/-- The chunk a member holds after the first round at a stage: its offset and bytes. -/
def Group.chunk (g : Group) (st base len : Nat) : Nat × Nat :=
  let n := g.size st
  (base + (g.pos st + 1) % n * (len / n), len / n)

/-- The sends of OP 1, 2 or 3 over `len` bytes from `base`. -/
def Group.hops (g : Group) (op base len : Nat) : List Hop :=
  let c1 := g.chunk 1 base len
  let c2 := g.chunk 2 c1.1 c1.2
  let down := g.scatter 1 base len ++ g.scatter 2 c1.1 c1.2
  let up := g.gather 2 c1.1 c1.2 ++ g.gather 1 base len
  if op = 1 then down ++ g.scatter 3 c2.1 c2.2 ++ g.gather 3 c2.1 c2.2 ++ up
  else if op = 2 then down else up

/-- The chain of OP 1, 2 or 3: send k waits for the landing of the message of send k − 1 from the previous member, which
raises counter k; the last operation waits for the last landing. -/
def State.ringOps (s : State) (n : Nat) (g : Group) (b : Buf) (f32 : Bool) (hops : List Hop) : List (List Byte) :=
  hops.mapIdx (fun k h =>
    let st := g.stage h.stage
    mkOp (if h.reduce then (if f32 then 3 else 4) else 1) true (fld st 6 2) k 0xFFFF 1 (k + 1) (fld st 0x18 2) (s.bufTaddr n b h.off) h.off h.len 1)
  ++ [mkOp 6 false 0 hops.length 0xFFFF 1 0xFFFF 0 0 0 0 0]

/-! ALLTOALLV (R446) -/

/-- Bytes of a count array. -/
def countBytes (members : Nat) : Nat := roundUp (4 * members) 64

/-- The send counts of a command. -/
def State.a2aCounts (s : State) (n : Nat) (g : Group) (b : Buf) (c : List Byte) : List Nat :=
  elems4 (s.readSegs (s.segsOf n (s.bufTaddr n b (fld c 8 8)) (4 * g.members)))

/-- The chain of ALLTOALLV: the counts n_d, as immediate values (aoRead), on counter 0, the data on counter 1, which the counts of every peer raise. -/
def State.a2aOps (s : State) (n : Nat) (g : Group) (b : Buf) (c : List Byte) (counts : List Nat) : List (List Byte) :=
  let m := g.members
  let cap := fld c 0x10 4
  let elem := fld c 0x14 4
  let tag := fld g.bytes 0x12 2
  let win := fld g.bytes 0x18 2
  let peers := (List.range m).filter (fun d => d != g.index)
  let at1 (d : Nat) : Nat := min ((counts[d]?).getD 0) cap
  peers.map (fun d => mkOp 1 true tag 0 0xFFFF 1 1 (win + d) (2 ^ 63 + at1 d) (fld c 0x18 8 + 4 * g.index) 4 1) ++
  (peers.filter (fun d => at1 d != 0)).map (fun d => mkOp 1 false tag 1 0xFFFF (m - 1) 0xFFFF (win + d)
    (s.bufTaddr n b (fld c 8 8 + countBytes m + d * fld c 0x20 4 * elem)) (fld c 0x18 8 + countBytes m + g.index * cap * elem) (at1 d * elem) 0)

/-! Commands (Table 15-11) -/

/-- The command is well formed. -/
def State.cmdOk (s : State) (n : Nat) (x : Group) (c : List Byte) : Bool :=
  let op := fld c 0 1
  let m := x.members
  match s.groupBuf n x with
  | none => false
  | some b =>
    allZero (bytesAt c 2 6) && allZero (bytesAt c 0x24 20) &&
    (if 1 ≤ op ∧ op ≤ 3 then
      (fld c 1 1 == 0x9 || fld c 1 1 == 0xA) && fld c 0x10 4 % (16 * m) == 0 && decide (fld c 8 8 + 4 * fld c 0x10 4 ≤ b.len)
     else if op = 4 then
      fld c 1 1 == 0 && fld c 0x14 4 % 64 == 0 && fld c 0x14 4 != 0 &&
      decide (fld c 8 8 + countBytes m + m * fld c 0x20 4 * fld c 0x14 4 ≤ b.len) &&
      decide (fld c 0x18 8 + countBytes m + m * fld c 0x10 4 * fld c 0x14 4 ≤ b.len) &&
      (s.a2aCounts n x b c).all (fun k => decide (k ≤ fld c 0x20 4))
     else op == 5 && fld c 1 1 == 0)

/-- The operations of a command of a group. -/
def State.cmdOps (s : State) (n : Nat) (x : Group) (c : List Byte) : List (List Byte) :=
  let op := fld c 0 1
  match s.groupBuf n x with
  | none => []
  | some b =>
    if op = 4 then s.a2aOps n x b c (s.a2aCounts n x b c)
    else if op = 5 then [mkOp 5 false 0 0 0xFFFF 1 0xFFFF 0 0 0 0 0]
    else s.ringOps n x b (fld c 1 1 == 0x9) (x.hops op (fld c 8 8) (4 * fld c 0x10 4))

/-- What a member does for itself in ALLTOALLV: its own count and elements, and its drops (R446). -/
def State.a2aLocal (s : State) (n g : Nat) (x : Group) (c : List Byte) : State :=
  match s.groupBuf n x with
  | none => s
  | some b =>
    let counts := s.a2aCounts n x b c
    let m := x.members
    let cap := fld c 0x10 4
    let elem := fld c 0x14 4
    let own := min ((counts[x.index]?).getD 0) cap
    let src := s.bufTaddr n b (fld c 8 8 + countBytes m + x.index * fld c 0x20 4 * elem)
    let s1 := s.writeTier n (s.bufTaddr n b (fld c 0x18 8 + 4 * x.index)) (leBytes 4 own)
    let s2 := if own = 0 then s1 else s1.writeTier n (s.bufTaddr n b (fld c 0x18 8 + countBytes m + x.index * cap * elem)) (s.readSegs (s.segsOf n src (own * elem)))
    forAll (List.range m) (fun d s =>
      let k := (counts[d]?).getD 0 - cap
      if k = 0 then s else
      (s.setBlob (E.GROUP_DROPS n) (setFld (s.blob (E.GROUP_DROPS n)) (4 * d) 4 (addU32 d (fld (s.blob (E.GROUP_DROPS n)) (4 * d) 4) k))).onGroup n g
        (fun y => { y with dropped := y.dropped + k })) s2

/-- The barrier token of this member, sent to the next; it completes operation 0 when it is acknowledged. -/
def State.barrierSend (s : State) (n : Nat) (x : Group) (seq m : Nat) (use : Option Use) : State :=
  let w := s.window n (fld x.bytes 0x18 2 + (x.index + 1) % max 1 x.members)
  s.sendBy [] { path := wnPath w, part := n, tag := 0, msgid := 0, kind := 7, dest := wnEnd w, body := Config.barrierBody (fld x.bytes 0 2) seq m } use

/-- A barrier token arrives: held, and forwarded until it has gone round. -/
def State.barrierIn (s : State) (n g seq m : Nat) : State :=
  let x := s.group n g
  if x.tokens.contains (seq, m) ∨ m = x.index then s else
  let s1 := s.onGroup n g (fun y => { y with tokens := y.tokens ++ [(seq, m)] })
  let s2 := if (x.index + 1) % max 1 x.members = m then s1 else s1.barrierSend n x seq m none
  s2.groupCheck n g

/-- A command is taken and its chain started. -/
def State.cmdStart (s : State) (n g : Nat) (c : List Byte) : State :=
  let seq := fld c 0x38 8
  let x0 := s.group n g
  let s0 := s.onGroup n g (fun y => { y with cmd := some c, next := seq + 1, dropped := 0 })
  let ops := s.cmdOps n x0 c
  let ctrs := ops.foldl (fun m o => max m (aoCounter o + 1)) 0
  if !s.cmdOk n x0 c || decide (fld x0.bytes 0x10 2 < ops.length) || decide (fld x0.bytes 0x0E 2 < ctrs) then
    (s0.groupEnd n g 1).raise 0xEF0A (scopeP n)
  else
    let o := 0x40 + g
    let s1 := s0.onTrig n o (fun t => { t with ops := ops, fired := [] })
    if fld c 0 1 = 5 then
      if x0.members ≤ 1 then (s1.onTrig n o (fun t => { t with fired := t.fired.put 0 2 })).groupCheck n g
      else (s1.onTrig n o (fun t => { t with fired := t.fired.put 0 1 })).barrierSend n x0 seq x0.index (some (.armed o 0))
    else
      let s2 := if fld c 0 1 = 4 then s1.a2aLocal n g x0 c else s1
      let s3 := s2.raiseCounter n o 0 1
      -- operations whose landings came before the command was taken
      (forAll (List.range (ctrs - 1)) (fun k s => s.raiseCounter n o (k + 1) 0) s3).groupCheck n g

/-- The next command of a group's ring, when its stamp is the number expected or a later one (R83, R84, R444); a slot of
zeros holds none (log 174). -/
def State.cmdNext (s : State) (n g : Nat) : Option (List Byte) :=
  let x := s.group n g
  let r := fld x.bytes 8 2
  if !x.enabled || fld x.bytes 2 1 == 2 || x.cmd.isSome || rgClass (s.region n r) != 3 || decide (s.cmplFree n g < 32) then none else
  let b := s.readRegion n r (x.next % x.cqSlots * 64) 64
  if !allZero b && decide (x.next ≤ fld b 0x38 8) then some b else none

/-- The NIC engine takes the next command when it is of kind `op`; a command of no kind is taken by any of the rows, and ends
INVALID. -/
def takeCommand (n g op t : Nat) (s : State) : State :=
  let s1 := s.at t
  match s1.cmdNext n g with
  | none => s1
  | some c =>
    let k := fld c 0 1
    if k ≠ op ∧ 1 ≤ k ∧ k ≤ 5 then s1 else
    let gap := fld c 0x38 8 - (s1.group n g).next
    let s2 := if gap = 0 then s1 else ((s1.bumpBy (E.QUEUE_OVERRUNS n) 32 gap).raise 0xE205 (scopeP n))
    s2.cmdStart n g c

/-- ALLREDUCE: the first round at stages 1 and 2, both at stage 3, the second at stages 2 and 1 (R441). -/
def execAllreduce (n : Fin 12) (gr : Fin 64) (t : Nat) (s : State) : Host.Outcome State Fault Refusal := .next (takeCommand n gr 1 t s)
/-- REDUCE_SCATTER: through the first round of stage 2. -/
def execReduceScatter (n : Fin 12) (gr : Fin 64) (t : Nat) (s : State) : Host.Outcome State Fault Refusal := .next (takeCommand n gr 2 t s)
/-- ALLGATHER: the second rounds from stage 2 down. -/
def execAllgather (n : Fin 12) (gr : Fin 64) (t : Nat) (s : State) : Host.Outcome State Fault Refusal := .next (takeCommand n gr 3 t s)
/-- ALLTOALLV: counts first, then the accepted elements (R446). -/
def execAlltoallv (n : Fin 12) (gr : Fin 64) (t : Nat) (s : State) : Host.Outcome State Fault Refusal := .next (takeCommand n gr 4 t s)
/-- BARRIER: every member's token goes round the ring (R427, R444). -/
def execBarrier (n : Fin 12) (gr : Fin 64) (t : Nat) (s : State) : Host.Outcome State Fault Refusal := .next (takeCommand n gr 5 t s)

end Sys2Proof.Machine
end

