-- ==== Sys2Proof/Machine/Layout.lean ====
section
/-!
DEFINITION. The layout engine (R143 to R145, R257, R264, R433): copies between the tiers and the hearth store, the
skewed activation tile, weight tiles, fills.
-/
namespace Sys2Proof.Machine

/-- TADDR (Table 04-12). -/
def laT (d : List Byte) : Nat := fld d 0x18 8
/-- HADDR. -/
def laH (d : List Byte) : Nat := fld d 0x20 4
/-- ROWS. -/
def laRows (d : List Byte) : Nat := fld d 0x24 4
/-- ROWBYTES. -/
def laRB (d : List Byte) : Nat := fld d 0x28 4
/-- TSTRIDE. -/
def laTStr (d : List Byte) : Nat := fld d 0x2C 4
/-- HSTRIDE. -/
def laHStr (d : List Byte) : Nat := fld d 0x30 4
/-- FMT: the weight format. -/
def laWf (d : List Byte) : Nat := fld d 0x34 1 % 16
/-- FMT: the activation format. -/
def laAf (d : List Byte) : Nat := fld d 0x34 1 / 16
/-- K_t and p of FMT. -/
def laPair (d : List Byte) : Nat × Nat × Nat := (mmPair (laWf d) (laAf d)).getD (128, 1, 1)
/-- L_a of FMT. -/
def laLine (d : List Byte) : Nat := (laPair d).1 * etBits (laAf d) / 8
/-- Bytes of a weight tile with its scales. -/
def laTile (d : List Byte) : Nat :=
  128 * (128 * (laPair d).2.1 * etBits (laWf d) / 8) + (if isMx (laWf d) then (laPair d).1 / 32 * 128 else 0)

/-- The skewed tile of row-major vectors, zero triangles included (Table 04-4). -/
def skewTile (d : List Byte) (vecs : List (List Byte)) : List Byte :=
  let a := etBits (laAf d)
  let kt := (laPair d).1
  let p := (laPair d).2.1
  let xs := vecs.map (codesOf a kt)
  (List.range (vecs.length + 127)).flatMap (fun t => packCodes a ((List.range kt).map (fun k =>
    if t < k / p then 0 else (((xs[t - k / p]?).getD [])[k]?).getD 0)))

/-- Rows of a tier source, each with its own response to an error. -/
def State.readRows (s : State) (n ta stride len : Nat) : Nat → State × List (List Byte)
  | 0 => (s, [])
  | c + 1 => let x := s.readTier n ta len; let y := x.1.readRows n (ta + stride) stride len c; (y.1, x.2 :: y.2)

/-- A row moved over the fabric: a GET of `len` bytes, or a PUT of the bytes (R433). -/
def State.sendRow (s : State) (n g seq ta haddr len : Nat) (put : Option (List Byte)) : State :=
  let w := s.window n (taWindow ta)
  let f := s.draw
  let m : Msg := { path := wnPath w, part := n, tag := 0, msgid := 0, kind := (if put.isSome then 0x01 else 0x02),
                   rkey := wnRkey w, dest := wnEnd w, roff := taPoff ta, len := len, data := put.getD [],
                   aux := (if put.isSome then 0 else f.1.toNat) }
  f.2.send (cdFabric (s.job n (s.part n).job).img) m (.layout g seq haddr)

/-- Messages of the rows of a tier P operation, with their numbers. -/
def State.sendRows (s : State) (n g : Nat) (o : Op) (put : Bool) : State × List Nat :=
  let d := o.desc
  (List.range (laRows d)).foldl (fun x r =>
    let h := laH d + r * laHStr d
    (x.1.sendRow n g o.seq (laT d + r * laTStr d) h (laRB d) (if put then some (s.hread g h (laRB d)) else none),
     x.2 ++ [x.1.nextMsgid])) (s, [])

/-- The next operation of the layout engine starts (R100); `f` gives its reads and writes. Its completion cycle is
that of the slots the cord gave it, which the completing event tells (R144). -/
def laStart (s : State) (g opc : Nat) (f : State → Nat → Nat → Op → Nat → State × Result) : State :=
  engStart s g 8 opc (fun s n l o start => let x := f s n l o start; { st := x.1, res := x.2, busy := 0, lat := 0 })

/-- LIN_IN: rows from the tier to the hearth store. -/
def execLinIn (g : Fin 216) (s : State) : Host.Outcome State Fault Refusal :=
  .next (laStart s g 0x0001 (fun s n _ o _ =>
    let d := o.desc
    let sum := bytesSummary (laRows d * laRB d)
    if taTier (laT d) = 3 then
      let x := s.sendRows n g o false
      (x.1, { sum := sum, msgs := x.2 })
    else
      let x := s.readRows n (laT d) (laTStr d) (laRB d) (laRows d)
      (x.1, { sum := sum, writes := x.2.mapIdx (fun r b => (laH d + r * laHStr d, b)) })))

/-- LIN_OUT: rows from the hearth store to the tier. -/
def execLinOut (g : Fin 216) (s : State) : Host.Outcome State Fault Refusal :=
  .next (laStart s g 0x0002 (fun s n _ o _ =>
    let d := o.desc
    let sum := bytesSummary (laRows d * laRB d)
    let s1 := s.hreadCheck n g 0xE404 (rowRanges (laH d) (laHStr d) (laRows d) (laRB d))
    if taTier (laT d) = 3 then
      let x := s1.sendRows n g o true
      (x.1, { sum := sum, msgs := x.2 })
    else (s1, { sum := sum, tier := (List.range (laRows d)).map (fun r => (laT d + r * laTStr d, s.hread g (laH d + r * laHStr d) (laRB d))) })))

/-- SKEW_IN: row-major vectors from the tier, written as a skewed tile. -/
def execSkewIn (g : Fin 216) (s : State) : Host.Outcome State Fault Refusal :=
  .next (laStart s g 0x0003 (fun s n _ o _ =>
    let d := o.desc
    let x := s.readRows n (laT d) (laTStr d) (laLine d) (laRows d)
    let t := skewTile d x.2
    (x.1, { sum := bytesSummary t.length, writes := [(laH d, t)] })))

/-- SKEW_LOCAL: the same from the hearth store, at the address in TADDR[22:0]. -/
def execSkewLocal (g : Fin 216) (s : State) : Host.Outcome State Fault Refusal :=
  .next (laStart s g 0x0004 (fun s n _ o _ =>
    let d := o.desc
    let src := laT d % 2 ^ 23
    let t := skewTile d ((List.range (laRows d)).map (fun r => s.hread g (src + r * laTStr d) (laLine d)))
    (s.hreadCheck n g 0xE404 (rowRanges src (laTStr d) (laRows d) (laLine d)), { sum := bytesSummary t.length, writes := [(laH d, t)] })))

/-- One burst more of a weight stream: 256 bytes of tier B at `ta`. -/
def State.burst (n ta : Nat) (x : State × List Byte) : State × List Byte :=
  let y := x.1.readTier n ta 256
  (y.1, x.2 ++ y.2)

/-- Bytes the rick's weight stream engine delivers to an operation: bursts of the region of the step's epoch at the
offsets of DRAM_MAP (R298); none of a poisoned shard (R315). -/
def State.streamBytes (s : State) (n l start len : Nat) : State × List Byte :=
  let k := l / 16
  match s.streamRegion n k with
  | none => (s, (List.range len).map (Config.noWeights start))
  | some r =>
    let b := s.region n r
    let dm := cdSection (s.job n (s.part n).job).img 5
    let x := (List.range (ceilDiv len 256)).foldl (fun x i =>
      State.burst n (2 ^ 60 + k * 2 ^ 36 + (rgBoff b + Config.weightBurst dm (s.part n).kind l start i)) x) (s, [])
    (x.1, x.2.take len)

/-- WEIGHT_IN: ROWS tiles from the weight stream engine, each with its scales behind it. -/
def execWeightIn (g : Fin 216) (s : State) : Host.Outcome State Fault Refusal :=
  .next (laStart s g 0x0005 (fun s n l o start =>
    let d := o.desc
    let t := laTile d
    let x := s.streamBytes n l start (laRows d * t)
    (x.1, { sum := bytesSummary (laRows d * t), writes := (pieces x.2 t (laRows d)).mapIdx (fun r b => (laH d + r * laHStr d, b)) })))

/-- FILL: zero rows. -/
def execFill (g : Fin 216) (s : State) : Host.Outcome State Fault Refusal :=
  .next (laStart s g 0x0006 (fun s _ _ o _ =>
    let d := o.desc
    (s, { sum := bytesSummary (laRows d * laRB d), writes := (List.range (laRows d)).map (fun r => (laH d + r * laHStr d, zeros (laRB d))) })))

/-- LAYOUT_OP_COMPLETE at a cycle: the bytes are written, the summary is valid (R144); an operation of tier P completes
when its responses have landed or its ACKs have arrived (R433). -/
def execLayoutOpComplete (g : Fin 216) (c : Nat) (s : State) : Host.Outcome State Fault Refusal :=
  .next (
    match s.oldest g 8 with
    | none => s
    | some (n, l, o) =>
      if o.res.msgs.any (fun i => (Tab.look s.flights i).isSome) then s else
      let done := max c o.start
      let s1 := ((s.hwrites g o.res.writes).onHearth g (fun h => { (h.popOp 8).count 16 (done - o.start) with busy := h.busy.put 8 done }))
      let s2 := forAll o.res.tier (fun w s => s.writeTier n w.1 w.2) s1
      (s2.onHearth g (fun h => h.writeSummary o)).resumeCore n l g done)

end Sys2Proof.Machine
end

