-- ==== Sys2Proof/Machine/Messages.lean ====
section
/-!
DEFINITION. Fabric messages as they arrive (R417, R418, R424, R427, R433, R436, R440): delivery to a partition, acceptance,
answers, and what they complete.
-/
namespace Sys2Proof.Machine

/-! Delivery -/

/-- Flits of a message (R416). -/
def msgFlits (m : FabMsg) : Nat := 1 + ceilDiv m.len 240

/-- The receive owner code that takes a message: that of its position; a message that travelled on no position is delivered by
the PART of its DEST (log 39). -/
def State.rxCode (s : State) (m : FabMsg) : Nat := if m.pos = 0 then bits m.dest 31 28 else s.rxOwner m.port m.pos

/-- A message reaches a module: the partition that owns its position takes it while its stacks are active; a sleeping partition is woken
and holds it (R525, R527); an ash-out and an unassigned position drop it (R424, R511). -/
def State.arrive (s : State) (m : FabMsg) (kind row : Nat) (act : State → Nat → State) : State :=
  if m.pos ≠ 0 ∧ s.num (E.PORT_STATE m.port) ≠ 2 then s else
  let n := s.rxCode m
  if n = 0xFF then s.bumpBy (E.UNASSIGNED_DROPS m.port) 32 (msgFlits m)
  else if 12 ≤ n || !s.exists n || (s.part n).ash.isSome then s
  else
    let s1 := if m.pos = 0 then s else s.onFport m.port (fun p => { p with rx := p.rx.put n ((p.rx.getD n 0 + (msgFlits m)) % 4096) })
    let s2 := if s1.cold then s1 else s1.wakePart n 1
    if s1.stacksActive n then act (s2.nicRecord n (fportRick m.port) 0x11 kind (bits m.src 47 32) (m.msgid % 2 ^ 32)) n
    else { s2 with held := s2.held.put n (s2.held.getD n [] ++ [.fab row m]) }

/-- A message that answers another: an ACK with a STATUS (Table 15-3). -/
def State.ackTo (s : State) (n : Nat) (m : FabMsg) (status : Nat) : State :=
  s.sendOnly { path := 1, part := n, tag := 0, msgid := 0, kind := 8, dest := m.src, aux := m.msgid % 2 ^ 32 + status * 2 ^ 32 }

/-- A message is refused: counted, with its event (R418). -/
def State.refuseOnly (s : State) (n : Nat) : State := (s.bump (E.REFUSED n)).raise 0xEF05 (scopeP n)

/-- A message is refused and its sender told (R418). -/
def State.refuseMsg (s : State) (n : Nat) (m : FabMsg) : State := (s.ackTo n m 1).refuseOnly n

/-- DEST names this module and this partition, and TENANT is the partition's (R418). -/
def State.addressed (s : State) (n : Nat) (m : FabMsg) : Bool := m.dest == s.endpoint n && m.tenant == s.tenantOf n

/-- The live buffer that accepts `len` bytes at an offset for a MODE bit; NOTIFY needs COUNTERS too (R418, R430, R431). -/
def State.target (s : State) (n rkey roff len modeBit : Nat) (notify : Bool) : Option Buf :=
  match s.buffer n rkey with
  | some b => if !b.closed && b.mode.testBit modeBit && (!notify || b.mode.testBit 3) && decide (roff + len ≤ b.len) then some b else none
  | none => none

/-- The target of a fabric message. -/
def State.accepts (s : State) (n : Nat) (m : FabMsg) (modeBit : Nat) : Option Buf :=
  if s.addressed n m then s.target n m.rkey m.roff m.len modeBit m.notify else none

/-- ADDV is added to RCOUNTER of the buffer's OWNER. -/
def State.notify (s : State) (n : Nat) (b : Buf) (rcounter addv : Nat) : State :=
  if rcounter = 0xFFFF then s else s.raiseCounter n b.owner rcounter addv

/-- The payload of a message. -/
def payload (m : FabMsg) : List Byte := bytesAt m.data 0 m.len

/-- A payload lands: a learning piece only when it belongs to the attempt (R384, rule 2), anything else always. Answers whether it was
written. -/
def State.landPut (s : State) (n : Nat) (src : Nat) (ta : Nat) (d : List Byte) : State × Bool :=
  match (if isPiece d then s.lrJob n (fld d 4 2) else none) with
  | some j => if s.pieceCurrent n j d then ((s.writeTier n ta d).pieceLanded n j, true) else (s.pieceStale n j src d, false)
  | none => (s.writeTier n ta d, true)

/-! What an answer completes -/

/-- Bytes that nothing determines. -/
def State.drawBytes : Nat → State → State × List Byte
  | 0, s => (s, [])
  | k + 1, s =>
    let x := s.draw
    let y := State.drawBytes k x.2
    (y.1, leBytes 8 x.1.toNat ++ y.2)

/-- A row of a layout operation of tier P has its bytes; they are written when the operation completes (R433). -/
def State.layoutRow (s : State) (g seq haddr : Nat) (d : List Byte) : State :=
  s.onHearth g (fun h => h.setOps 8 ((h.ops 8).map (fun o => if o.seq = seq then { o with res := { o.res with writes := o.res.writes ++ [(haddr, d)] } } else o)))

/-- A flight ends with an ACK: STATUS 0 accepted, 1 refused, 2 failed, and 3 for a port or a connection that went down. A row of a layout operation that failed
leaves the bytes it would have brought open (log 47). -/
def State.flightAck (s0 : State) (id status : Nat) : State :=
  match Tab.look s0.flights id with
  | none => s0
  | some f =>
    let s := { s0 with flights := s0.flights.del id }
    match f.use with
    | .layout g seq haddr =>
      if status = 0 ∨ f.aux = 0 then s
      else let x := State.drawBytes (ceilDiv f.len 8) s; x.1.layoutRow g seq haddr (x.2.take f.len)
    | .armed o i => if status = 0 then s.opDone f.part o i else s.opFail f.part o i (if status = 3 then 3 else 2)
    | .turn e => s.turnAcked f.part e status
    | .turnTok c => if status = 0 then s.onTurn f.part (fun t => { t with tokens := t.tokens.filter (fun k => k.1 != c) }) else s
    | .ring _ => s
    | .ringHead r => s.onRing f.part r (fun g => { g with reading := none })
    | .shard w i _ => if status = 0 then s else s.shardArrives f.part w i []
    | .other => s

/-- A flight ends with the bytes it asked for: a GET of a layout operation, of an armed operation, or of a shard. -/
def State.flightData (s0 : State) (id : Nat) (d : List Byte) : State :=
  match Tab.look s0.flights id with
  | none => s0
  | some f =>
    let s := { s0 with flights := s0.flights.del id }
    match f.use with
    | .layout g seq haddr => s.layoutRow g seq haddr (bytesAt d 0 f.len)
    | .armed o i => (s.writeTier f.part f.aux (bytesAt d 0 f.len)).opDone f.part o i
    | .shard w i _ => s.shardArrives f.part w i d
    | _ => s0

/-! Meanings -/

/-- PUT: checked, written in ascending order, acknowledged, and notified (R418). -/
def putIn (m : FabMsg) (s : State) : State :=
  s.arrive m 0x01 1 (fun s n =>
    match s.accepts n m 1 with
    | none => s.refuseMsg n m
    | some b =>
      let x := s.landPut n m.src (s.bufTaddr n b m.roff) (payload m)
      let s1 := x.1.ackTo n m 0
      if m.notify && x.2 then s1.notify n b m.rcounter m.addv else s1)

/-- The Put row: the message as it arrives. -/
def execPut (m : FabMsg) (t : Nat) (s : State) : Host.Outcome State Fault Refusal := .next (putIn m (s.at t))

/-- GET_REQUEST: the bytes go back in a GET response; an uncorrectable read answers ACK with STATUS 2 (R418, Table 15-3). -/
def getRequestIn (m : FabMsg) (s : State) : State :=
  s.arrive m 0x02 2 (fun s n =>
    match (if s.addressed n m then s.target n m.rkey m.roff m.len 0 false else none) with
    | none => s.refuseMsg n m
    | some b =>
      match s.nicRead n (s.bufTaddr n b m.roff) m.len with
      | (s1, none) => s1.ackTo n m 2
      | (s1, some d) =>
        s1.sendOnly { path := 1, part := n, tag := 0, msgid := 0, kind := 3, dest := m.src, len := m.len, aux := m.msgid % 2 ^ 32, data := d })

/-- The GetRequest row: the message as it arrives. -/
def execGetRequest (m : FabMsg) (t : Nat) (s : State) : Host.Outcome State Fault Refusal := .next (getRequestIn m (s.at t))

/-- GET_RESPONSE: the bytes land, and the operation that asked for them is complete (R433, R436); a STATUS other than 0 fails it. -/
def getResponseIn (m : FabMsg) (s : State) : State :=
  s.arrive m 0x03 3 (fun s n =>
    let id := bits m.aux 31 0
    if !s.addressed n m then s.refuseOnly n
    else if ((Tab.look s.flights id).map Flight.part) ≠ some n then s
    else if bits m.aux 39 32 = 0 then s.flightData id (payload m) else s.flightAck id (bits m.aux 39 32))

/-- The GetResponse row: the message as it arrives. -/
def execGetResponse (m : FabMsg) (t : Nat) (s : State) : Host.Outcome State Fault Refusal := .next (getResponseIn m (s.at t))

/-- A reduction message (R440). -/
def reduceIn (f32 : Bool) (kind : Nat) (m : FabMsg) (s : State) : State :=
  s.arrive m kind kind (fun s n =>
    match s.accepts n m 2 with
    | none => s.refuseMsg n m
    | some b =>
      let s1 := (s.reduceTier n (s.bufTaddr n b m.roff) f32 (payload m)).ackTo n m 0
      if m.notify then s1.notify n b m.rcounter m.addv else s1)

/-- REDUCE_F32: FP32 sums with the canonical NaN. -/
def reduceF32In (m : FabMsg) (s : State) : State :=
  reduceIn true 0x04 m s

/-- The ReduceF32 row: the message as it arrives. -/
def execReduceF32 (m : FabMsg) (t : Nat) (s : State) : Host.Outcome State Fault Refusal := .next (reduceF32In m (s.at t))

/-- REDUCE_I32: INT32 sums modulo 2^32. -/
def reduceI32In (m : FabMsg) (s : State) : State :=
  reduceIn false 0x05 m s

/-- The ReduceI32 row: the message as it arrives. -/
def execReduceI32 (m : FabMsg) (t : Nat) (s : State) : Host.Outcome State Fault Refusal := .next (reduceI32In m (s.at t))

/-- COUNTER_ADD: ADDV is added to RCOUNTER of the buffer's OWNER (R431, R436). -/
def counterAddIn (m : FabMsg) (s : State) : State :=
  s.arrive m 0x06 6 (fun s n =>
    match s.accepts n m 3 with
    | none => s.refuseMsg n m
    | some b => (s.ackTo n m 0).notify n b m.rcounter m.addv)

/-- The CounterAdd row: the message as it arrives. -/
def execCounterAdd (m : FabMsg) (t : Nat) (s : State) : Host.Outcome State Fault Refusal := .next (counterAddIn m (s.at t))

/-- A token reaches a partition on its control position and is acknowledged. -/
def tokenIn (m : FabMsg) (row : Nat) (s : State) (act : State → Nat → State) : State :=
  s.arrive m 0x07 row (fun s n => if s.addressed n m then act (s.ackTo n m 0) n else s.refuseMsg n m)

/-- TOKEN: a barrier token is held and forwarded round its group (R427, R444). Learning and turn tokens have rows of their own. -/
def barrierTokenIn (m : FabMsg) (s : State) : State :=
  tokenIn m 7 s (fun s n =>
    match (List.range 64).find? (fun g => (s.group n g).enabled && fld (s.group n g).bytes 0 2 == Config.barrierGroup m.body) with
    | some g => s.barrierIn n g (Config.barrierSeq m.body) (Config.barrierMember m.body)
    | none => s)

/-- The Token row: the message as it arrives. -/
def execToken (m : FabMsg) (t : Nat) (s : State) : Host.Outcome State Fault Refusal := .next (barrierTokenIn m (s.at t))

/-- ACK: the operation it answers is complete, or has failed (R436). -/
def ackIn (m : FabMsg) (s : State) : State :=
  s.arrive m 0x08 8 (fun s n =>
    let id := bits m.aux 31 0
    if !s.addressed n m then s.refuseOnly n
    else if ((Tab.look s.flights id).map Flight.part) = some n then s.flightAck id (bits m.aux 39 32) else s)

/-- The Ack row: the message as it arrives. -/
def execAck (m : FabMsg) (t : Nat) (s : State) : Host.Outcome State Fault Refusal := .next (ackIn m (s.at t))

/-- BUFFER_FREED: every message accepted before BUFFER_DEREG has been written, and the buffer is freed (R431). -/
def execBufferFreed (n : Fin 12) (rkey t : Nat) (s : State) : Host.Outcome State Fault Refusal :=
  let s1 := s.at t
  .next (match s1.buffer n rkey with
    | some b => if b.closed then { s1 with buffers := s1.buffers.del (n * 2 ^ 32 + rkey) } else s1
    | none => s1)

/-! Learning tokens (R384) -/

/-- A learning token of a group whose job the partition holds. -/
def lrTokenIn (m : FabMsg) (row : Nat) (s : State) (act : State → Nat → Nat → Nat → State) : State :=
  tokenIn m row s (fun s n =>
    let grp := Config.lrGroup m.body
    match s.lrJob n grp with
    | some j => act s n j grp
    | none => s)

/-- GATE_TOKEN: a ready token is held and forwarded; with every member's token for this attempt held, the waiting step starts. -/
def gateTokenIn (m : FabMsg) (s : State) : State :=
  lrTokenIn m 9 s (fun s n j grp =>
    let s1 := s.lrReady n j grp (Config.lrTstep m.body) (Config.lrAttempt m.body) (Config.lrMember m.body)
    match (s1.part n).phase with
    | .gate since => if (s1.part n).job = j ∧ s1.lrAllReady n j grp then s1.passGate n j since else s1
    | _ => s1)

/-- The GateToken row: the message as it arrives. -/
def execGateToken (m : FabMsg) (t : Nat) (s : State) : Host.Outcome State Fault Refusal := .next (gateTokenIn m (s.at t))

/-- VOTE_ROUND: the votes travel round the ring, then the verdict, which ends the wait of action 1 (R384, rules 5 and 6). -/
def voteRoundIn (m : FabMsg) (s : State) : State :=
  lrTokenIn m 10 s (fun s n j grp =>
    let ts := Config.lrTstep m.body
    let a := Config.lrAttempt m.body
    let v := Config.lrValue m.body
    let s1 := if Config.lrIsVerdict m.body then s.lrVerdictIn n j grp ts a (Config.lrMember m.body) v else s.lrVoteRound n j grp ts a v
    match (s1.part n).phase with
    | .verdict _ _ => if (s1.part n).job = j ∧ ((s1.job n j).lrVerdict.isSome ∨ (s1.job n j).lrForce) then s1.finishAttempt n else s1
    | _ => s1)

/-- The VoteRound row: the message as it arrives. -/
def execVoteRound (m : FabMsg) (t : Nat) (s : State) : Host.Outcome State Fault Refusal := .next (voteRoundIn m (s.at t))

/-- VERDICT_QUERY: answered from the history, or passed on (R384, rules 6 and 7). -/
def verdictQueryIn (m : FabMsg) (s : State) : State :=
  lrTokenIn m 11 s (fun s n j grp =>
    s.lrQueryIn n j grp (Config.lrTstep m.body) (Config.lrAttempt m.body) (Config.lrMember m.body))

/-- The VerdictQuery row: the message as it arrives. -/
def execVerdictQuery (m : FabMsg) (t : Nat) (s : State) : Host.Outcome State Fault Refusal := .next (verdictQueryIn m (s.at t))

/-! The turn (R400 to R410) -/

/-- TURN_WRITE: a shard's bytes land, or are refused (R401). -/
def turnWriteIn (m : FabMsg) (s : State) : State :=
  s.arrive m 0x01 12 (fun s n =>
    if !s.addressed n m then s.refuseMsg n m
    else if s.turnWriteOk n m.body m.len then (s.turnLand n (Config.turnShard m.body) (payload m)).ackTo n m 0
    else ((s.ackTo n m 1).bump (E.TURN_BAD_WRITES n)).raise 0xEE06 (scopeP n))

/-- The TurnWrite row: the message as it arrives. -/
def execTurnWrite (m : FabMsg) (t : Nat) (s : State) : Host.Outcome State Fault Refusal := .next (turnWriteIn m (s.at t))

/-- TURN_WRITE_RETRY: a refused or unacknowledged write is repeated 1 ms after it was sent, while the turn lasts (R400). -/
def execTurnWriteRetry (n : Fin 12) (entry t : Nat) (s : State) : Host.Outcome State Fault Refusal :=
  let s1 := s.at t
  let tn := s1.turn n
  .next (if tn.active && tn.retry.contains entry && !tn.acked.contains entry && (s1.part n).ash.isNone then s1.turnWriteOut n entry else s1)

/-- A turn token of the turn that the partition's plan names. -/
def turnTokenIn (m : FabMsg) (row : Nat) (s : State) (act : State → Nat → State) : State :=
  tokenIn m row s (fun s n => if (s.turn n).img.length ≠ 0 ∧ Config.turnId m.body = tpId (s.turn n).img then act s n else s)

/-- FINAL: shards of that sender that have landed become RESIDENT (R404). -/
def turnFinalIn (m : FabMsg) (s : State) : State :=
  turnTokenIn m 13 s (fun s n =>
    let x := Config.turnMember m.body
    (s.onTurn n (fun t => { t with finals := if t.finals.contains x then t.finals else t.finals ++ [x] })).turnSettle n)

/-- The TurnFinal row: the message as it arrives. -/
def execTurnFinal (m : FabMsg) (t : Nat) (s : State) : Host.Outcome State Fault Refusal := .next (turnFinalIn m (s.at t))

/-- PARKED: with every receiver's held, the coordinator decides SWITCH (R407). -/
def turnParkedIn (m : FabMsg) (s : State) : State :=
  turnTokenIn m 14 s (fun s n => s.turnParkedIn n (Config.turnMember m.body))

/-- The TurnParked row: the message as it arrives. -/
def execTurnParked (m : FabMsg) (t : Nat) (s : State) : Host.Outcome State Fault Refusal := .next (turnParkedIn m (s.at t))

/-- FAIL: the coordinator decides ABORT (R407). -/
def turnFailIn (m : FabMsg) (s : State) : State :=
  turnTokenIn m 15 s (fun s n => if tpMember (s.turn n).img = 0 then s.turnDecide n false else s)

/-- The TurnFail row: the message as it arrives. -/
def execTurnFail (m : FabMsg) (t : Nat) (s : State) : Host.Outcome State Fault Refusal := .next (turnFailIn m (s.at t))

/-- SWITCH: a receiver switches GEN_SLOT to the new set (R408). -/
def turnSwitchIn (m : FabMsg) (s : State) : State :=
  turnTokenIn m 16 s (fun s n => s.turnSwitchIn n)

/-- The TurnSwitch row: the message as it arrives. -/
def execTurnSwitch (m : FabMsg) (t : Nat) (s : State) : Host.Outcome State Fault Refusal := .next (turnSwitchIn m (s.at t))

/-- ABORT: the member fails with code ABORTED (R410). -/
def turnAbortIn (m : FabMsg) (s : State) : State :=
  turnTokenIn m 17 s (fun s n => s.turnAbortIn n)

/-- The TurnAbort row: the message as it arrives. -/
def execTurnAbort (m : FabMsg) (t : Nat) (s : State) : Host.Outcome State Fault Refusal := .next (turnAbortIn m (s.at t))

/-- UNPARK: the hold is lifted for one slice under the old epoch (R407). -/
def turnUnparkIn (m : FabMsg) (s : State) : State :=
  turnTokenIn m 18 s (fun s n => s.turnUnparkIn n)

/-- The TurnUnpark row: the message as it arrives. -/
def execTurnUnpark (m : FabMsg) (t : Nat) (s : State) : Host.Outcome State Fault Refusal := .next (turnUnparkIn m (s.at t))

/-- TURN_QUERY: answered from the decisions of the last 4 turns, or passed on (R409). -/
def turnQueryIn (m : FabMsg) (s : State) : State :=
  tokenIn m 19 s (fun s n => s.turnQueryIn n (Config.turnId m.body) (Config.turnMember m.body))

/-- The TurnQuery row: the message as it arrives. -/
def execTurnQuery (m : FabMsg) (t : Nat) (s : State) : Host.Outcome State Fault Refusal := .next (turnQueryIn m (s.at t))

/-- TURN_TOKEN_RESEND: the tokens not yet acknowledged are sent again, 1 ms after they were last sent (R409). -/
def execTurnTokenResend (n : Fin 12) (t : Nat) (s : State) : Host.Outcome State Fault Refusal :=
  let s1 := s.at t
  let due (c : Nat) : Bool := s1.flights.all (fun f => !(f.2.use == Use.turnTok c && f.2.part == n.val && decide (s1.now < f.2.sent + 1000000)))
  .next (if (s1.part n).ash.isSome then s1 else
    forAll ((s1.turn n).tokens.filter (fun k => due k.1)) (fun k s =>
      let s2 := { s with flights := s.flights.filter (fun f => !(f.2.use == Use.turnTok k.1 && f.2.part == n.val)) }
      s2.send [] (s2.turnMsg n k.2.2 7 (Config.turnBody k.2.1 (tpId (s2.turn n).img) (tpMember (s2.turn n).img) 0) []) (.turnTok k.1)) s1)

/-- TURN_LIMIT_EXPIRY: TURN_LIMIT_NS has run out before FINAL or PARKED (R410); the coordinator's own limit makes it decide ABORT (R407). -/
def execTurnLimitExpiry (n : Fin 12) (t : Nat) (s : State) : Host.Outcome State Fault Refusal :=
  let s1 := s.at t
  let tn := s1.turn n
  .next (if tn.active && decide (tn.armAt + s1.num (E.TURN_LIMIT_NS n) ≤ s1.now) then
      let s2 := if tpMember tn.img = 0 then s1.turnDecide n false else s1
      s2.turnFail n 1
    else s1)

/-- TURN_PARK_EXPIRY: TURN_PARK_NS after the first PARKED without all of them the coordinator sends UNPARK; a parked receiver without a decision
sends QUERY (R407, R409). -/
def execTurnParkExpiry (n : Fin 12) (t : Nat) (s : State) : Host.Outcome State Fault Refusal :=
  let s1 := s.at t
  let tn := s1.turn n
  let lim := s1.num (E.TURN_PARK_NS n)
  let s2 := if tpMember tn.img = 0 ∧ tn.decision.isNone ∧ (tn.parkAt.any (fun p => decide (p + lim ≤ s1.now))) then
      forAll (tpReceivers tn.img) (fun r s => s.turnToken n r tkUnpark) ((s1.onTurn n (fun t => { t with parked := [], parkAt := none })).raise 0xEE05 (scopeP n))
    else s1
  let t2 := s2.turn n
  .next (if t2.st = 4 ∧ t2.decision.isNone ∧ t2.hold ∧ (t2.ownPark.any (fun p => decide (p + lim ≤ s1.now))) then
      (s2.turnToken n ((tpMember t2.img + 1) % max 1 (tpMembers t2.img)) tkQuery).onTurn n (fun t => { t with ownPark := some s1.now })
    else s2)

end Sys2Proof.Machine
end

