-- ==== Sys2Proof/Machine/Links.lean ====
section
/-!
DEFINITION. Fabric ports: training, retry, credits, lane swaps, loss of a link, and transit (R419 to R425, R647).
-/
namespace Sys2Proof.Machine

/-- PORT_STATE: 0 DOWN, 1 TRAINING, 2 UP, 3 DISABLED. -/
def State.portState (s : State) (p : Nat) : Nat := s.num (E.PORT_STATE p)

/-- Messages in flight on a link fail with PORT_DOWN (R423). -/
def State.failFlights (s : State) (path via : Nat) (part : Option Nat) : State :=
  forAll ((s.flights.filter (fun f => f.2.path == path && f.2.via == via && (part.isNone || part == some f.2.part))).map Prod.fst) (fun id s => s.flightAck id 3) s

/-- A port goes DOWN: its messages in flight fail, transit flits queued for it are dropped (R423). -/
def State.portDown (s : State) (p : Nat) : State :=
  let s1 := ((s.setNum (E.PORT_STATE p) (if s.num (E.PORT_ENABLE p) = 0 then 3 else 0)).onFport p (fun f =>
    { f with ev := 0, t0 := s.now, swap := none, out := [] })).raise 0xEF02 (scopeF p)
  s1.failFlights 1 p none

/-- A port begins event 1 of Table 15-4. -/
def State.train (s : State) (p : Nat) : State :=
  (s.setNum (E.PORT_STATE p) 1).onFport p (fun f => { f with ev := 1, t0 := s.now })

/-- The port may train: enabled, a cable present, and no mismatch of peers standing (R419, R647). -/
def State.mayTrain (s : State) (p : Nat) : Bool :=
  s.num (E.PORT_ENABLE p) == 1 && (s.fport p).present && !(s.fport p).blocked && s.powered && (s.num E.RICK_READY).testBit (fportRick p)

/-- LINK_TRAINING_START: a port that is enabled with a peer present trains; after a timeout it waits 1 s (R419). -/
def execLinkTrainingStart (p : Fin 16) (t : Nat) (s : State) : Host.Outcome State Fault Refusal :=
  let s1 := s.at t
  let f := s1.fport p
  .next (if s1.mayTrain p && (s1.portState p == 0 || (s1.portState p == 1 && f.ev == 0)) && decide (f.t0 ≤ s1.now) then s1.train p else s1)

/-- The spare lane of a port has come into use: with it the last one of the port's rick may be gone, event 0xE055 of class 5 (R609; log 170). -/
def State.lastLane (s : State) (p : Nat) : State :=
  let k := fportRick p
  if s.num (E.LANE_MAP p) ≠ 0xFF ∧ ((List.range 16).filter (fun q => fportRick q == k)).all (fun q => s.num (E.LANE_MAP q) != 0xFF) then s.raise 0xE055 (scopeK k) [5, k] else s

/-- EQUALISATION_COMPLETE: `locked` are the lanes with lock. With two or more failed lanes the port goes DOWN; lane 8 replaces one failed lane
(events 2 and 3). -/
def execEqualisationComplete (p : Fin 16) (locked : Nat) (t : Nat) (s : State) : Host.Outcome State Fault Refusal :=
  let s1 := s.at t
  let f := s1.fport p
  let failed := (List.range 9).filter (fun l => !locked.testBit l)
  .next (if s1.portState p == 1 && f.ev == 1 && decide (f.t0 + 8000000 ≤ s1.now) then
      if 2 ≤ failed.length then s1.portDown p
      else ((s1.onFport p (fun f => { f with ev := 2, locked := locked % 512 })).setNum (E.LANE_MAP p)
        (match failed with | l :: _ => if l < 8 then l else 0xFF | [] => 0xFF)).lastLane p
    else s1)

/-- PEER_IDENTITY_EXCHANGE: PEER is learnt; a mismatch with EXPECT_PEER puts the port DOWN until the operator acts (event 4). -/
def execPeerIdentityExchange (p : Fin 16) (peer : Nat) (t : Nat) (s : State) : Host.Outcome State Fault Refusal :=
  let s1 := s.at t
  let f := s1.fport p
  let want := s1.num (E.EXPECT_PEER p)
  .next (if s1.portState p == 1 && f.ev == 2 && decide (f.t0 + 8300000 ≤ s1.now) then
      let s2 := s1.setNum (E.PEER p) (peer % 2 ^ 64)
      if want ≠ 0 ∧ want ≠ peer then ((s2.raise 0xEF04 (scopeF p)).onFport p (fun f => { f with blocked := true })).portDown p
      else s2.onFport p (fun f => { f with ev := 4 })
    else s1)

/-- Positions of a port that a transmit owner code owns. -/
def State.positions (s : State) (p code : Nat) : Nat := ((s.blob (E.TX_OWNERS p)).filter (fun b => b.toNat == code)).length

/-- LINK_UP: sequences are zeroed, credits granted, 4 for each position (event 5, R421). -/
def execLinkUp (p : Fin 16) (t : Nat) (s : State) : Host.Outcome State Fault Refusal :=
  let s1 := s.at t
  let f := s1.fport p
  .next (if s1.portState p == 1 && f.ev == 4 && decide (f.t0 + 8400000 ≤ s1.now) then
      let granted : Tab Nat := ((List.range 32).filter (fun c => s1.positions p c != 0)).map (fun c => (c, 4 * s1.positions p c))
      ((s1.setNum (E.PORT_STATE p) 2).onFport p (fun f => { f with ev := 5, tx := [], acked := [], rx := [], credits := granted })).raise 0xEF01 (scopeF p)
    else s1)

/-- TRAINING_TIMEOUT: event 5 has not occurred by t0 + 100 ms; the port starts again after 1 s (R419). -/
def execTrainingTimeout (p : Fin 16) (t : Nat) (s : State) : Host.Outcome State Fault Refusal :=
  let s1 := s.at t
  let f := s1.fport p
  .next (if s1.portState p == 1 && f.ev != 0 && decide (f.t0 + 100000000 ≤ s1.now) then s1.onFport p (fun f => { f with ev := 0, t0 := s1.now + 1000000000 }) else s1)

/-- LANE_SWAP: a failing lane is to be replaced by lane 8, after 4 frames of IDLE; with lane 8 in use the port goes DOWN (R422). -/
def execLaneSwap (p : Fin 16) (lane : Nat) (t : Nat) (s : State) : Host.Outcome State Fault Refusal :=
  let s1 := s.at t
  .next (if s1.portState p != 2 || decide (8 < lane) || (s1.fport p).swap.isSome then s1
    else if s1.num (E.LANE_MAP p) ≠ 0xFF then (if lane = s1.num (E.LANE_MAP p) then s1 else s1.portDown p)
    else if lane = 8 then s1
    else s1.onFport p (fun f => { f with swap := some (lane, s1.now) }))

/-- Flits sent and not acknowledged, over every owner code, are sent again (R421, R422). -/
def State.replay (s : State) (p : Nat) : State :=
  let f := s.fport p
  s.bumpBy (E.FLIT_RETRIES p) 64 ((f.tx.map (fun e => (e.2 + 4096 - f.acked.getD e.1 0) % 4096)).foldl (· + ·) 0)

/-- LANE_SWAP_RESUME: after 5,120 ns of IDLE the port resumes with lane 8 and replays (R422). -/
def execLaneSwapResume (p : Fin 16) (t : Nat) (s : State) : Host.Outcome State Fault Refusal :=
  let s1 := s.at t
  .next (match (s1.fport p).swap with
    | some (lane, t0) =>
      if s1.portState p == 2 && decide (t0 + 5120 ≤ s1.now) then
        ((((s1.setNum (E.LANE_MAP p) lane).onFport p (fun f => { f with swap := none })).replay p).raise 0xEF03 (scopeF p)).lastLane p
      else s1
    | none => s1)

/-- PORT_DOWN: the link is lost (R423). -/
def execPortDown (p : Fin 16) (t : Nat) (s : State) : Host.Outcome State Fault Refusal :=
  let s1 := s.at t
  .next (if s1.portState p == 1 || s1.portState p == 2 then s1.portDown p else s1)

/-- CABLE_PRESENT: G1 finds a cable, or none: such a port stays in electrical idle (R647). -/
def execCablePresent (p : Fin 16) (present : Bool) (t : Nat) (s : State) : Host.Outcome State Fault Refusal :=
  let s1 := (s.at t).onFport p (fun f => { f with present := present })
  .next (if !present && (s1.portState p == 1 || s1.portState p == 2) then s1.portDown p else s1)

/-- The owner code of return entry `i` (R420). -/
def returnCode (i : Nat) : Nat := if i < 12 then i else i + 4

/-- One return entry: what is acknowledged, credits given back, and on NAK everything from the SEQ named is sent again (R420, R421; log 48). -/
def State.returnEntry (s : State) (p code e : Nat) : State :=
  let f := s.fport p
  let ack := bits e 11 0
  let s1 := s.onFport p (fun f => { f with acked := f.acked.put code ack, credits := f.credits.put code (f.credits.getD code 0 + bits e 31 16) })
  if bit e 12 then s1.bumpBy (E.FLIT_RETRIES p) 64 ((f.tx.getD code 0 + 4096 - ack) % 4096) else s1

/-- MAINT_FLIT: position 0 carries 28 return entries (R420). -/
def execMaintFlit (p : Fin 16) (payload : List Byte) (t : Nat) (s : State) : Host.Outcome State Fault Refusal :=
  let s1 := s.at t
  .next (if s1.portState p == 2 then
      forAll (List.range 28) (fun i s => if (s1.fport p).tx.any (fun x => x.1 == returnCode i) then s.returnEntry p (returnCode i) (fld payload (6 * i) 6) else s) s1
    else s1)

/-- TRANSIT_FLIT: a flit whose position has a transit code leaves the port the code names, in the same position, without a look at its header;
an unassigned one is dropped and counted (R424, R425). -/
def execTransitFlit (p : Fin 16) (pos : Nat) (flit : List Byte) (t : Nat) (s : State) : Host.Outcome State Fault Refusal :=
  let s1 := s.at t
  let c := s1.rxOwner p pos
  .next (if s1.portState p != 2 || pos == 0 || decide (999 < pos) then s1
    else if c = 0xFF then s1.bump (E.UNASSIGNED_DROPS p)
    else if 0x10 ≤ c ∧ c < 0x20 then
      let q := c - 0x10
      let s2 := s1.onFport p (fun f => { f with rx := f.rx.put c ((f.rx.getD c 0 + 1) % 4096) })
      if s2.portState q = 2 ∧ s2.txOwner q pos = 0x10 + p then
        s2.onFport q (fun f => { f with out := f.out ++ [(pos, flit)], tx := f.tx.put (0x10 + p) ((f.tx.getD (0x10 + p) 0 + 1) % 4096) })
      else s2
    else s1)

end Sys2Proof.Machine
end

