-- ==== Sys2Proof/Machine/Debug.lean ====
section
/-!
DEFINITION. The trace region and its sweep (R626 to R632), samples (R623), halts by command and snapshots (R634 to R636), counters
(R638, R639).
-/
namespace Sys2Proof.Machine

/-! The trace region (R628, R629) -/

/-- The TRACE region of a rick. -/
def State.traceRegion (s : State) (n k : Nat) : Option Nat :=
  (s.regionNums n).find? (fun r => rgClass (s.region n r) == 4 && rgRick (s.region n r) == k)

/-- Bytes of a slice. -/
def State.sliceBytes (s : State) (n r : Nat) : Nat := rgLen (s.region n r) / 17

/-- The header of a slice. -/
def State.sliceHdr (s : State) (n r j : Nat) : List Byte := s.readRegion n r (j * s.sliceBytes n r) 64

/-- A fresh slice header (Table 22-5). -/
def State.freshHdr (s : State) (n r source : Nat) : List Byte :=
  leBytes 4 0x45435254 ++ zeros 2 ++ leBytes 2 source ++ leBytes 8 ((s.sliceBytes n r - 64) / 16) ++ zeros 8 ++ leBytes 8 (2 ^ 64 - 1) ++ zeros 32

/-- A slice as the sweep fills it: FLAGS, WRITTEN, TRIGGER_AT. -/
structure Slice where
  flags : Nat
  written : Nat
  trig : Nat
  deriving DecidableEq, Repr

/-- Records that a CENTER slice accepts from its marker on (Table 22-6). -/
def State.afterTrigger (s : State) (n cap : Nat) : Nat := cap - cap * s.num (E.TRACE_PRE n) / 16

/-- One record reaches a slice of CAPACITY `cap`: where it is written, if it is, and the slice after it (R629 to R631). -/
def State.sliceTake (s : State) (n cap : Nat) (x : Slice) (r : List Byte) : Slice × Option Nat :=
  let mode := s.num (E.TRACE_MODE n)
  if bit x.flags 1 || bit x.flags 3 || cap = 0 then (x, none) else
  let mark := fld r 0 1 == 0x0B
  let x1 := if mark then { x with flags := x.flags ||| 4, trig := x.written } else x
  let full (y : Slice) : Bool := mode == 2 && bit y.flags 2 && decide (y.trig + s.afterTrigger n cap ≤ y.written)
  if full x1 then ({ x1 with flags := x1.flags ||| 8 }, none) else
  let x2 := { x1 with written := x1.written + 1, flags := if cap < x1.written + 1 then x1.flags ||| 1 else x1.flags }
  let x3 := if mode = 1 ∧ x2.written = cap then { x2 with flags := x2.flags ||| 2 } else if full x2 then { x2 with flags := x2.flags ||| 8 } else x2
  (x3, some (64 + 16 * (x1.written % cap)))

/-- A buffer is swept into its slice: records in order, then the header (R627, R629). -/
def State.sweepSlice (s : State) (n r j : Nat) (recs : List (List Byte)) (lost : Nat) : State :=
  let h := s.sliceHdr n r j
  let base := j * s.sliceBytes n r
  let cap := fld h 8 8
  let y := recs.foldl (fun (a : State × Slice) rc =>
    let z := a.1.sliceTake n cap a.2 rc
    (match z.2 with | some o => a.1.writeRegion n r (base + o) rc | none => a.1, z.1)) (s, (⟨fld h 4 1, fld h 0x10 8, fld h 0x18 8⟩ : Slice))
  y.1.writeRegion n r base (setFld (setFld (setFld (setFld h 4 1 y.2.flags) 0x10 8 y.2.written) 0x18 8 y.2.trig) 0x20 8 lost)

/-- Every slice of the partition has stopped or frozen. -/
def State.traceFull (s : State) (n : Nat) : Bool :=
  (s.ricksOf n).all (fun k => match s.traceRegion n k with
    | some r => (List.range 17).all (fun j => let f := fld (s.sliceHdr n r j) 4 1; f.testBit 1 || f.testBit 3)
    | none => false)

/-- The buffers of a rick are swept; a pending loss gets its marker (R626, R627). -/
def State.sweepRick (s : State) (n k : Nat) : State :=
  let hs := (List.range 16).map (fun j => s.phys (16 * k + j))
  let empty := forAll hs (fun g s => s.onHearth g (fun h => { h with trace := { h.trace.flushLoss with recs := [] } })) s
  let clear := empty.onRick k (fun r => { r with nic := { r.nic.flushLoss with recs := [] } })
  match s.traceRegion n k with
  | none => clear
  | some r =>
    let s1 := forAll (hs.zip (List.range 16)) (fun x c => c.sweepSlice n r x.2 (s.hearth x.1).trace.flushLoss.recs (s.hearth x.1).trace.lostAll) clear
    s1.sweepSlice n r 16 (s.rick k).nic.flushLoss.recs (s.rick k).nic.lostAll

/-- The buffers of a partition are swept; with every slice full the trace has ended (R632). -/
def State.sweepPart (s : State) (n : Nat) : State :=
  let s1 := forAll (s.ricksOf n) (fun k s => s.sweepRick n k) s
  if s1.tracing n && s1.traceFull n then s1.endTrace n else s1

/-- TRACE_SWEEP: records move from the buffers to the regions while the stacks are active. -/
def execTraceSweep (n : Fin 12) (t : Nat) (s : State) : Host.Outcome State Fault Refusal :=
  let s1 := s.at t
  .next (if s1.exists n && s1.stacksActive n && (s1.part n).ash.isNone then s1.sweepPart n else s1)

/-- TRACE_ENABLE is set: buffers are emptied, headers are fresh, the trigger is free again (R632). -/
def State.startTrace (s : State) (n : Nat) : State :=
  let s1 := forAll (s.ricksOf n) (fun k s =>
    let s1 := forAll ((List.range 18).map (fun h => 18 * k + h)) (fun g s => s.onHearth g (fun h => { h with trace := {} })) s
    let s2 := s1.onRick k (fun r => { r with nic := {} })
    match s2.traceRegion n k with
    | none => s2
    | some r => forAll (List.range 17) (fun j s => s.writeRegion n r (j * s.sliceBytes n r) (s.freshHdr n r (if j < 16 then 16 * k + j else 0xFFFF))) s2) s
  s1.onPart n (fun p => { p with trig := none, traceEnded := false })

/-! Samples (R623) -/

/-- Engines of a hearth that are busy at a cycle. -/
def Hearth.busyMask (h : Hearth) (c : Nat) : Nat :=
  (List.range 9).foldl (fun m e => if decide (c < h.busy.getD e 0) || (h.ops e).any (fun o => o.started && decide (o.start ≤ c) && decide (c < o.busyEnd)) then m + 2 ^ e else m) 0

/-- TRACE_SAMPLE: CYCLE has reached a multiple of 2^PROF_LOG2; every hearth writes its SAMPLE record. -/
def execTraceSample (n : Fin 12) (t : Nat) (s : State) : Host.Outcome State Fault Refusal :=
  let s1 := s.at t
  let p := s1.part n
  let d := 2 ^ s1.num (E.PROF_LOG2 n)
  let c := (s1.now - p.stepT0 - p.haltNs) * s1.clockMhz n / 1000 / d * d
  .next (if p.phase = .running ∧ s1.haltedNow n = false ∧ (s1.num (E.TRACE_SELECT n)).testBit 2 then
      forAll (s1.hearthsOf n) (fun l s => s.hearthRecord n (s.phys l) (traceBytes16 9 0 0 (c % 2 ^ 32) ((s.hearth (s.phys l)).busyMask c))) s1
    else s1)

/-! Commands -/

/-- BP_HALT: the partition is to halt at c, the CYCLE of its lowest logical hearth (R634). -/
def State.bpHalt (s : State) (n : Nat) : State :=
  let x := s.lowest n
  let c := (s.hearth (s.phys x.1)).cycle
  let h : Halt := ⟨0x0E, 0, x.1, x.2, 0, s.num (E.STEP_COUNT n), c, c + 2048, 0, none⟩
  match (s.part n).halt with
  | none => s.onPart n (fun p => { p with halt := some h })
  | some y => if y.cause = 0x0D then s.onPart n (fun p => { p with halt := some h })
              else if c < y.cycle ∨ (c = y.cycle ∧ x.1 < y.lh) then s.onPart n (fun p => { p with halt := some { h with hits := y.hits + 1 } })
              else s.onPart n (fun p => { p with halt := some { y with hits := y.hits + 1 } })

/-- The snapshot of a hearth (Table 22-10). -/
def State.snapBytes (s : State) (n l : Nat) : List Byte :=
  let g := s.phys l
  let h := s.hearth g
  s.mem.read (hearthBase g) 0x800000 ++ s.mem.read (sdWork g) 0x8000 ++ (List.range 64).flatMap (fun i => leBytes 8 (h.regs.getD i 0).toNat) ++
  (List.range 8).flatMap (fun i => let y := h.ys.getD i {}; leBytes 8 y.value ++ leBytes 1 y.flags ++ [Config.pendingWriter y.writer] ++ zeros 6) ++
  leBytes 2 l ++ zeros 6 ++ leBytes 8 (s.num (E.STEP_COUNT n)) ++ leBytes 4 h.cycle ++ zeros 44

/-- PERF_REC of a hearth (Table 22-11). -/
def Hearth.perfBytes (h : Hearth) : List Byte := (List.range 20).flatMap (fun i => leBytes 8 (if i < 19 then h.perf.getD i 0 else 0))

/-- PART_PERF (R639). -/
def State.partPerf (s : State) (n : Nat) : List Byte :=
  let p := s.part n
  leBytes 8 (p.perfTime / 1000) ++ leBytes 8 (p.perfMax / 1000) ++ leBytes 8 (p.perfHalted / 1000) ++ leBytes 8 p.perfHalts ++ leBytes 8 p.perfLost ++ leBytes 8 p.perfDiscards

/-- TRACE_STATE (Table 22-12). -/
def State.traceState (s : State) (n : Nat) : List Byte :=
  let p := s.part n
  let fl := (s.ricksOf n).flatMap (fun k => match s.traceRegion n k with
    | some r => (List.range 17).map (fun j => fld (s.sliceHdr n r j) 4 1)
    | none => [])
  let st := if s.num (E.TRACE_ENABLE n) = 0 then (if p.traceEnded then 3 else 0) else if p.traceEnded then 3 else if p.trig.isSome then 2 else 1
  leBytes 1 st ++ zeros 1 ++ leBytes 2 (fl.filter (fun f => f.testBit 1)).length ++ leBytes 2 (fl.filter (fun f => f.testBit 3)).length ++ zeros 2

/-- TRACE_DATA: the TRACE regions in ascending rick number; a 64-byte block that cannot be read becomes four CORRUPT records (R637). -/
def State.traceData (s : State) (n : Nat) : List Byte :=
  (s.ricksOf n).flatMap (fun k => match s.traceRegion n k with
    | none => []
    | some r =>
      let b := s.region n r
      let base := tierB k + rgBoff b
      (List.range (rgLen b / 64)).flatMap (fun i =>
        if s.uncorrectable (base + 64 * i) 64 then (List.replicate 4 (traceBytes16 0x0F 0 0 0 0)).flatten else s.mem.read (base + 64 * i) 64))

end Sys2Proof.Machine
end

