-- ==== Sys2Proof/Machine/Ether.lean ====
section
/-!
DEFINITION. Ethernet ports (R449 to R461, R648), RoCE v2 connections (R462, R463), and the delivery of step records to
subscriber rings (R355 to R358).
-/
namespace Sys2Proof.Machine

/-! Endpoints (R453, R454) -/

/-- The MAC address of an endpoint of a port: 0 the collier, n + 1 a partition. -/
def macOf (e k : Nat) : Nat := (Config.macBase + 16 * e + k) % 2 ^ 48

/-- The owner code of a unit. -/
def State.unitOwner (s : State) (e u : Nat) : Nat := fld (s.blob (E.ETH_OWNERS e)) u 1

/-- A partition has an endpoint on a port: it owns units there. -/
def State.hasEndpoint (s : State) (n e : Nat) : Bool := s.exists n && (s.blob (E.ETH_OWNERS e)).any (fun b => b.toNat == n)

/-- The endpoint of a port that a MAC address names. -/
def State.endpointOf (s : State) (e mac : Nat) : Option Nat :=
  (List.range 13).find? (fun k => macOf e k == mac && (k == 0 || s.hasEndpoint (k - 1) e))

/-- The IP addresses of an endpoint on the network of a port, as byte strings of 16 and 4 (Table 16-11); an address of zeros is none. -/
def State.ipsOf (s : State) (e k : Nat) : List (List Byte) :=
  let six := if k = 0 then (if e < 4 then E.MGMT_IPV6_A else E.MGMT_IPV6_B) else (if e < 4 then E.NET_IPV6_A (k - 1) else E.NET_IPV6_B (k - 1))
  let four := s.num (if k = 0 then E.MGMT_IPV4 else E.NET_IPV4 (k - 1)) / (if e < 4 then 1 else 2 ^ 32) % 2 ^ 32
  [bytesAt (s.blob six) 0 16, (leBytes 4 four).reverse].filter (fun b => !allZero b)

/-- The endpoint of a port that answers for an IP address; the keep-alive port answers for the collier only (R452). -/
def State.endpointAt (s : State) (e : Nat) (ip : List Byte) : Option Nat :=
  (List.range (if s.cold then 1 else 13)).find? (fun k => (s.ipsOf e k).contains ip && (k == 0 || s.hasEndpoint (k - 1) e))

/-- A value of ETH_COUNTERS rises. -/
def State.ethCount (s : State) (e i d : Nat) : State :=
  let b := s.blob (E.ETH_COUNTERS e)
  let v := fld b (8 * i) 8 + d
  s.setBlob (E.ETH_COUNTERS e) (setFld b (8 * i) 8 (if v < 2 ^ 64 then v else Config.counterOverflow (E.ETH_COUNTERS e + 2 ^ 32 * i) v d))

/-- The device sends an answer of its own by a port. -/
def State.ethAnswer (s : State) (e : Nat) (f : List Byte) : State := s.onEport e (fun x => { x with sent := x.sent ++ [f] })

/-- Big-endian value of a byte string. -/
def beNat (l : List Byte) : Nat := leNat l.reverse

/-- What a frame carries for the device (R454), its header read past one IEEE 802.1Q tag: 1 RoCE v2, 2 Dolli, 3 ARP, neighbour discovery or an echo
request; 0 anything else. -/
def frameKind (f : List Byte) : Nat :=
  let o := if beNat (bytesAt f 12 2) = 0x8100 then 18 else 14
  let ty := beNat (bytesAt f (o - 2) 2)
  let udp (p : Nat) : Nat := if p = 4791 then 1 else if p = 6260 then 2 else 0
  if ty = 0x0806 then 3
  else if ty = 0x86DD then
    let nh := fld f (o + 6) 1
    if nh = 17 then udp (beNat (bytesAt f (o + 42) 2)) else if nh = 58 ∧ (fld f (o + 40) 1 = 128 ∨ fld f (o + 40) 1 = 135) then 3 else 0
  else if ty = 0x0800 then
    let h := o + 4 * (fld f o 1 % 16)
    let pr := fld f (o + 9) 1
    if pr = 17 then udp (beNat (bytesAt f (h + 2) 2)) else if pr = 1 ∧ fld f h 1 = 8 then 3 else 0
  else 0

/-- PAUSE and priority flow control frames are ignored (R450). -/
def frameFlow (f : List Byte) : Bool := beNat (bytesAt f 12 2) == 0x8808

/-- A frame for a partition finds its receive buffer of a port full: RX_DROPS, and event 0xE106 at most once per second and partition
(R461). -/
def State.rxDrop (s : State) (n e : Nat) : State :=
  let b := s.blob (E.RX_DROPS n)
  let v := fld b (4 * e) 4 + 1
  let s1 := s.setBlob (E.RX_DROPS n) (setFld b (4 * e) 4 (if v < 2 ^ 32 then v else Config.counterOverflow (E.RX_DROPS n + 2 ^ 32 * e) v 1 % 2 ^ 32))
  let quiet := (List.range 8).all (fun p => match Tab.look (s1.eport p).dropAt n with | some t => decide (t + 1000000000 ≤ s1.now) | none => true)
  if quiet then (s1.onEport e (fun x => { x with dropAt := x.dropAt.put n s1.now })).raise 0xE106 (scopeE e) else s1

/-- ETHERNET_FRAME_RECEIVE: a frame from destination address to frame check sequence. A sleeping partition's RoCE frames wait in its 8 MiB
buffer and wake it; an awake one takes them at line rate, and what they carry are rows of their own (R450, R454, R461, R525, R527). -/
def execEthernetFrameReceive (e : Fin 8) (frame : List Byte) (fcsOk : Bool) (t : Nat) (s : State) : Host.Outcome State Fault Refusal :=
  let s1 := s.at t
  .next (if s1.num (E.ETH_STATE e) ≠ 2 then s1
    else if !fcsOk then s1.ethCount e 4 1
    else
      let s2 := (s1.ethCount e 1 1).ethCount e 3 frame.length
      if 9022 < frame.length ∨ frame.length < 18 ∨ frameFlow frame then s2
      else
        let kind := frameKind frame
        let group := fld frame 0 1 % 2 = 1
        match s2.endpointOf e (beNat (bytesAt frame 0 6)) with
        | none => if group ∧ kind = 3 then s2 else s2.ethCount e 7 1
        | some 0 => if kind = 2 ∨ kind = 3 then s2 else s2.ethCount e 7 1
        | some (n + 1) =>
          if s2.cold ∨ (kind ≠ 1 ∧ kind ≠ 3 ∧ kind ≠ 2) then s2.ethCount e 7 1
          else if kind ≠ 1 then s2
          else if (s2.part n).ash.isSome then s2.ethCount e 7 1
          else
            let s3 := s2.wakePart n 1
            if s3.stacksActive n then s3
            else
              let held := (s3.eport e).held.getD n []
              if 2 ^ 23 < sumOf held List.length + frame.length then s3.rxDrop n e
              else s3.onEport e (fun x => { x with held := x.held.put n (held ++ [frame]) }))

/-- NEIGHBOUR_DISCOVERY: a target of 16 bytes (IPv6) or 4 (ARP) is answered with the endpoint's MAC address (R454). -/
def execNeighbourDiscovery (e : Fin 8) (target : List Byte) (t : Nat) (s : State) : Host.Outcome State Fault Refusal :=
  let s1 := s.at t
  .next (if s1.num (E.ETH_STATE e) ≠ 2 then s1 else
    match s1.endpointAt e target with
    | some k => s1.ethAnswer e ((leBytes 6 (macOf e k)).reverse ++ target)
    | none => s1.ethCount e 7 1)

/-- ECHO_REQUEST: an endpoint answers with the request's payload (R454). -/
def execEchoRequest (e : Fin 8) (dst : List Byte) (pay : List Byte) (t : Nat) (s : State) : Host.Outcome State Fault Refusal :=
  let s1 := s.at t
  .next (if s1.num (E.ETH_STATE e) ≠ 2 then s1 else
    match s1.endpointAt e dst with
    | some _ => s1.ethAnswer e (dst ++ pay)
    | none => s1.ethCount e 7 1)

/-! Links (R449, R452, R648) -/

/-- The ports may train: from event 4 of Table 20-1 on, and E4 in the tinder hold (R563). -/
def State.ethTrains (s : State) (e : Nat) : Bool :=
  s.powered && s.num (E.ETH_ENABLE e) == 1 && !(s.eport e).parked && !(s.eport e).starved &&
  (s.num E.BOOT_STATE == 2 || s.num E.BOOT_STATE == 3 || (s.num E.BOOT_STATE == 4 && e == 4))

/-- ETH_LINK_UP: event 0xE101. -/
def execEthLinkUp (e : Fin 8) (t : Nat) (s : State) : Host.Outcome State Fault Refusal :=
  let s1 := s.at t
  .next (if s1.ethTrains e && s1.num (E.ETH_STATE e) != 2 then (s1.setNum (E.ETH_STATE e) 2).raise 0xE101 (scopeE e) else s1)

/-- A port goes DOWN: event 0xE102. -/
def State.ethDown (s : State) (e st : Nat) : State :=
  if s.num (E.ETH_STATE e) = 2 then (s.setNum (E.ETH_STATE e) st).raise 0xE102 (scopeE e) else s.setNum (E.ETH_STATE e) st

/-- ETH_LINK_DOWN. -/
def execEthLinkDown (e : Fin 8) (t : Nat) (s : State) : Host.Outcome State Fault Refusal :=
  let s1 := s.at t
  .next (if s1.num (E.ETH_STATE e) = 2 then s1.ethDown e 0 else s1)

/-- PLUGGABLE_MODULE_INSERT: ETH_PMD from the module's management interface; a module that declares more than 15 W is left without power and its port
stays DOWN (R648). -/
def execPluggableModuleInsert (e : Fin 8) (watts : Nat) (t : Nat) (s : State) : Host.Outcome State Fault Refusal :=
  let s1 := (s.at t).setNum (E.ETH_PMD e) 2
  .next (if 15 < watts then (s1.onEport e (fun x => { x with starved := true })).ethDown e 0 else s1.onEport e (fun x => { x with starved := false }))

/-! Runs (R457 to R460) -/

/-- The claimants of a partition: the slot records of each loaded cord, enabled group and armed turn. -/
def State.claimants (s : State) (n : Nat) : List (List Nat) :=
  (s.loadedJobs n).map (fun j => cdFabric (s.job n j).img) ++
  ((List.range 64).filter (fun g => (s.group n g).enabled)).map (fun g => (s.group n g).slotRecs) ++
  (if (s.turn n).active then [tpSlots (s.turn n).img] else [])

/-- A slot record claims a position, or a unit of an Ethernet port (port 0x20 + e). -/
def claims (r port x : Nat) : Bool := bits r 63 56 == port && decide (bits r 47 32 ≤ x) && decide (x < bits r 47 32 + bits r 31 16)

/-- The claimant of a unit of a partition, numbered from 1; 0 for its general traffic. -/
def State.unitClaim (s : State) (n e u : Nat) : Nat :=
  match (s.claimants n).findIdx? (fun l => l.any (fun r => claims r (0x20 + e) u)) with
  | some i => i + 1
  | none => 0

/-- What a unit's run belongs to: its owner, and the owner's claimant. -/
def State.runKey (s : State) (e u : Nat) : Nat × Nat :=
  let o := s.unitOwner e u
  (o, if o < 12 then s.unitClaim o e u else 0)

/-- A run begins at a unit. -/
def State.runStarts (s : State) (e u : Nat) : Bool := u == 0 || s.runKey e (u - 1) != s.runKey e u

/-- Partitions a run may be lent to, in round-robin order. -/
def State.borrower (s : State) (e ready : Nat) : Option Nat :=
  let r := (s.eport e).robin
  ((List.range 12).map (fun i => (r + i) % 12)).find? (fun n => s.exists n && ready.testBit n && s.num (E.ETH_MODE n) == 0)

/-- RUN_START: `ready` names the partitions with a general-traffic frame ready. A run that is unassigned, or whose owner is SHARED with no frame ready, is lent
whole to one SHARED partition (R460). -/
def execRunStart (e : Fin 8) (unit : Nat) (ready : Nat) (t : Nat) (s : State) : Host.Outcome State Fault Refusal :=
  let s1 := s.at t
  .next (if s1.num (E.ETH_STATE e) ≠ 2 ∨ 1000 ≤ unit ∨ s1.runStarts e unit = false then s1 else
    let k := s1.runKey e unit
    let lends := k.1 == 0xFF || (decide (k.1 < 12) && k.2 == 0 && s1.num (E.ETH_MODE k.1) == 0 && !ready.testBit k.1)
    match (if lends then s1.borrower e ready else none) with
    | some b => s1.onEport e (fun x => { x with run := some (unit, k.1, some b), robin := (b + 1) % 12 })
    | none => s1.onEport e (fun x => { x with run := some (unit, k.1, none) }))

/-! Subscriber rings (R358) -/

/-- One write of a ring, by its connection. -/
def State.ringWrite (s : State) (n r at1 : Nat) (d : List Byte) : State :=
  let g := (s.ring n r).desc
  s.send [] { path := 3, part := n, tag := fld g 4 4 % 1024, msgid := 0, kind := 0x01, rkey := fld g 0x10 4, roff := at1, len := d.length, data := d } (.ring r)

/-- The PAD record of a ring: a header with FLAGS bit 0, padded (R358). -/
def padRecord (n r g : Nat) : List Byte :=
  bytesAt (leBytes 4 0x43525453 ++ leBytes 2 1 ++ leBytes 1 n ++ zeros 17 ++ leBytes 4 g ++ zeros 28 ++ leBytes 2 r ++ leBytes 1 1) 0 g

/-- Bytes of the PAD record that must precede a record. -/
def Ring.gap (g : Ring) (len : Nat) : Nat :=
  let sz := 2 ^ fld g.desc 0x14 1
  if sz - g.prod % sz < len then sz - g.prod % sz else 0

/-- A record and the PAD record before it fit. -/
def Ring.fits (g : Ring) (len : Nat) : Bool := decide (g.gap len + len + (g.prod - g.cons) ≤ 2 ^ fld g.desc 0x14 1)

/-- The records waiting of a ring go out while they fit. One that does not asks for the consumer count first, and is lost when the count just read for it leaves
no room either. -/
def State.deliverRing : Nat → State → Nat → Nat → Bool → State
  | 0, s, _, _, _ => s
  | f + 1, s, n, r, fresh =>
    let g := s.ring n r
    match g.recs with
    | [] => s
    | b :: rest =>
      if (s.conn n (fld g.desc 4 4 % 1024)).st ≠ 1 ∨ g.reading.isSome then s
      else if g.fits b.length then
        let sz := 2 ^ fld g.desc 0x14 1
        let pad := g.gap b.length
        let base := fld g.desc 8 8
        let s1 := if pad = 0 then s else s.ringWrite n r (base + g.prod % sz) (padRecord n r pad)
        let s2 := s1.ringWrite n r (base + (g.prod + pad) % sz) (setFld b 0x1C 4 g.lost)
        let p := g.prod + pad + b.length
        let s3 := s2.ringWrite n r (fld g.desc 0x18 8) (leBytes 8 p)
        State.deliverRing f (s3.onRing n r (fun x => { x with prod := p, lost := 0, recs := rest })) n r false
      else if fresh then
        let l := s.blob (E.RING_LOST n)
        let s1 := (s.setBlob (E.RING_LOST n) (setFld l (4 * r) 4 (addU32 0x15 (fld l (4 * r) 4) 1))).raise 0xEC01 (scopeP n)
        State.deliverRing f (s1.onRing n r (fun x => { x with lost := addU32 0x16 x.lost 1, recs := rest })) n r false
      else
        (s.send [] { path := 3, part := n, tag := fld g.desc 4 4 % 1024, msgid := 0, kind := 0x02, rkey := fld g.desc 0x10 4, roff := fld g.desc 0x20 8, len := 8 }
          (.ringHead r)).onRing n r (fun x => { x with reading := some s.nextMsgid })

/-- Every ring of a partition. -/
def State.deliverAll (s : State) (n : Nat) : State := forAll (List.range 64) (fun r s => s.deliverRing ((s.ring n r).recs.length + 1) n r false) s

/-- STEP_RECORD_DELIVERY: the records of committed steps go to the rings (R357, R358). -/
def execStepRecordDelivery (n : Fin 12) (t : Nat) (s : State) : Host.Outcome State Fault Refusal :=
  let s1 := s.at t
  .next (if s1.stacksActive n then s1.deliverAll n else s1)

/-- The consumer count of a ring has been read. -/
def State.headRead (s : State) (n r : Nat) (d : List Byte) : State :=
  let s1 := s.onRing n r (fun x => { x with reading := none, cons := fld d 0 8 })
  s1.deliverRing ((s1.ring n r).recs.length + 1) n r true

/-! Inbound RDMA (R447, R463) -/

/-- NET of a connection record. -/
def Conn.net (c : Conn) : Nat := fld c.bytes 1 1

/-- A connection answers: an acknowledgement of a packet number with a STATUS, or the bytes of a READ. -/
def State.roceAnswer (s : State) (n c psn status : Nat) (d : List Byte) : State :=
  s.emit { path := if (s.conn n c).net = 1 then 2 else 3, part := n, tag := c, msgid := 0, kind := if status = 0 ∧ !d.isEmpty then 3 else 8, dest := c,
               len := d.length, aux := psn + status * 2 ^ 32, data := d }

/-- Whether a buffer's reductions add FP32 elements: the type of its group's running command; for another owner the manual names no type. -/
def State.reduceType (s : State) (n : Nat) (b : Buf) : Bool × State :=
  match (if decide (0x40 ≤ b.owner) && decide (b.owner < 0x80) then (s.group n (b.owner - 0x40)).cmd else none) with
  | some c => (fld c 1 1 == 0x9, s)
  | none => let x := s.draw; (x.1.toNat.testBit 0, x.2)

/-- A transfer that has reached its partition's stacks: in sequence it is executed, before it it is acknowledged again, after it refused (go-back-N). -/
def roceIn (op : Nat) (m : RoceMsg) (rcounter addv : Nat) (s : State) : State :=
  let n := m.part.val
  let c := m.conn % 1024
  let x := s.conn n c
  let len := if op = 2 then m.length else m.data.length
  let last := (m.psn + packets len - 1) % 2 ^ 24
  if x.st ≠ 1 then s
  else if m.psn % 2 ^ 24 ≠ x.rq then
    if (x.rq + 2 ^ 24 - m.psn % 2 ^ 24) % 2 ^ 24 < 2 ^ 23 then (if op = 2 then s else s.roceAnswer n c last 0 []) else s.roceAnswer n c x.rq 4 []
  else
    let s1 := (s.nicRecord n (eportRick m.eport) 0x11 (0x80 + op) c m.psn).onConn n c (fun x => { x with rq := (last + 1) % 2 ^ 24 })
    let red := match s.buffer n m.rkey with | some b => b.mode.testBit 2 | none => false
    match s1.target n m.rkey m.roff len (if op = 2 then 0 else if red then 2 else 1) (op == 1 && rcounter != 0xFFFF) with
    | none => (s1.roceAnswer n c last 1 []).refuseOnly n
    | some b =>
      let ta := s1.bufTaddr n b m.roff
      if op = 2 then
        match s1.nicRead n ta len with
        | (s2, some d) => s2.roceAnswer n c last 0 d
        | (s2, none) => s2.roceAnswer n c last 2 []
      else
        let r := if red then (let y := s1.reduceType n b; (y.2.reduceTier n ta y.1 m.data, true)) else s1.landPut n c ta m.data
        let s2 := r.1.roceAnswer n c last 0 []
        if op = 1 && r.2 then s2.notify n b rcounter addv else s2

/-- A transfer arrives on a port: it is a tenant trigger (R525), and a sleeping partition's is held (R527). -/
def State.roceArrive (s : State) (op : Nat) (m : RoceMsg) (rcounter addv : Nat) : State :=
  let n := m.part.val
  let x := s.conn n (m.conn % 1024)
  if s.num (E.ETH_STATE m.eport) ≠ 2 ∨ s.exists n = false ∨ (s.part n).ash.isSome ∨ x.st ≠ 1 ∨ fld x.bytes 2 1 ≠ m.eport.val ∨ s.cold then s
  else
    let s1 := s.wakePart n 1
    if s1.stacksActive n then roceIn op m rcounter addv s1
    else { s1 with held := s1.held.put n (s1.held.getD n [] ++ [.roce op m rcounter addv]) }

/-- RDMA_WRITE: the data is written, or reduced into a buffer with MODE REDUCE (R447). -/
def execRdmaWrite (m : RoceMsg) (t : Nat) (s : State) : Host.Outcome State Fault Refusal := .next ((s.at t).roceArrive 0 m 0xFFFF 0)

/-- RDMA_WRITE_IMM: a write whose immediate adds ADDV to RCOUNTER (R447). -/
def execRdmaWriteImm (m : RoceMsg) (rcounter addv : Nat) (t : Nat) (s : State) : Host.Outcome State Fault Refusal :=
  .next ((s.at t).roceArrive 1 m rcounter addv)

/-- RDMA_READ: the bytes go back (R463). -/
def execRdmaRead (m : RoceMsg) (t : Nat) (s : State) : Host.Outcome State Fault Refusal := .next ((s.at t).roceArrive 2 m 0xFFFF 0)

/-! Acknowledgements (R463) -/

/-- A packet number is acknowledged by a later or equal one. -/
def psnUpTo (p acked : Nat) : Bool := decide ((acked + 2 ^ 24 - p) % 2 ^ 24 < 2 ^ 23)

/-- A flight of a connection is answered: a read by its bytes. -/
def State.roceDone (s : State) (n id : Nat) (d : List Byte) : State :=
  match Tab.look s.flights id with
  | none => s
  | some f =>
    match f.use with
    | .ringHead r => ({ s with flights := s.flights.del id }).headRead n r d
    | _ => if d.isEmpty then s.flightAck id 0 else s.flightData id d

/-- The connection fails: ERROR, event 0xE103, its operations fail (R436, R463). -/
def State.connError (s : State) (n c : Nat) : State :=
  let path := if (s.conn n c).net = 1 then 2 else 3
  let s1 := ((s.onConn n c (fun x => { x with st := 2, out := [], tries := 0 })).bump (E.CONN_ERRORS n)).raise 0xE103 (scopeP n)
  s1.failFlights path c (some n)

/-- Everything outstanding on a connection is sent again; after RETRY times the connection fails. -/
def State.retransmit (s : State) (n c : Nat) : State :=
  let x := s.conn n c
  if x.out.isEmpty then s
  else if x.tries < fld x.bytes 0x2C 1 then
    let again := s.sent.filter (fun m => decide (2 ≤ m.path) && m.part == n && m.connection == c && x.out.any (fun o => o.2 == m.msgid))
    ({ s with sent := s.sent ++ again }).onConn n c (fun x => { x with tries := x.tries + 1, since := s.now })
  else s.connError n c

/-- ROCE_ACKNOWLEDGEMENT: packet number `psn` is acknowledged, by the bytes of a READ where `data` holds some; a NAK sends the outstanding again. -/
def execRoceAcknowledgement (n : Fin 12) (c : Nat) (psn : Nat) (nak : Bool) (data : List Byte) (t : Nat) (s : State) : Host.Outcome State Fault Refusal :=
  let s1 := s.at t
  let x := s1.conn n (c % 1024)
  .next (if x.st ≠ 1 then s1
    else if nak then s1.retransmit n (c % 1024)
    else
      let done := x.out.filter (fun o => psnUpTo o.1 (psn % 2 ^ 24))
      let s2 := s1.onConn n (c % 1024) (fun x => { x with out := x.out.filter (fun o => !psnUpTo o.1 (psn % 2 ^ 24)), tries := if done.isEmpty then x.tries else 0, since := s1.now })
      forAll done (fun o s => s.roceDone n o.2 (if o.1 = psn % 2 ^ 24 then data else [])) s2)

/-- ROCE_ACK_TIMEOUT: no acknowledgement for 4.096 us × 2^TIMEOUT. -/
def execRoceAckTimeout (n : Fin 12) (c t : Nat) (s : State) : Host.Outcome State Fault Refusal :=
  let s1 := s.at t
  let x := s1.conn n (c % 1024)
  .next (if x.st = 1 ∧ x.out ≠ [] ∧ x.since + 4096 * 2 ^ fld x.bytes 0x2D 1 ≤ s1.now then s1.retransmit n (c % 1024) else s1)

end Sys2Proof.Machine
end

