-- ==== Sys2Proof/Machine/Power.lean ====
section
/-!
DEFINITION. The damper at work (R516 to R539): slot boundaries, wakes and entries, budgets, the emergency throttle, the input.
-/
namespace Sys2Proof.Machine

/-! What a sleeping partition held (R527) -/

/-- A held fabric message, by its row in the order of the table from PUT. -/
def fabRow (row : Nat) (m : FabMsg) (s : State) : State :=
  match row with
  | 1 => putIn m s | 2 => getRequestIn m s | 3 => getResponseIn m s | 4 => reduceF32In m s | 5 => reduceI32In m s
  | 6 => counterAddIn m s | 7 => barrierTokenIn m s | 8 => ackIn m s | 9 => gateTokenIn m s | 10 => voteRoundIn m s
  | 11 => verdictQueryIn m s | 12 => turnWriteIn m s | 13 => turnFinalIn m s | 14 => turnParkedIn m s | 15 => turnFailIn m s
  | 16 => turnSwitchIn m s | 17 => turnAbortIn m s | 18 => turnUnparkIn m s | 19 => turnQueryIn m s
  | _ => s

/-- One held message is delivered: its flits have been received, so it takes no position again; one addressed elsewhere is refused (R418). -/
def State.deliverOne (s : State) (n : Nat) (h : Held) : State :=
  match h with
  | .fab row m => if bits m.dest 31 28 = n then fabRow row { m with pos := 0 } s else s.refuseMsg n m
  | .roce op m rcounter addv => roceIn op m rcounter addv s

/-- Everything held is delivered, oldest first. -/
def State.deliverHeld (s : State) (n : Nat) : State :=
  let l := s.held.getD n []
  let s1 := forAll (List.range 8) (fun e s => if ((s.eport e).held.getD n []).isEmpty then s else s.onEport e (fun x => { x with held := x.held.del n }))
    { s with held := s.held.del n }
  forAll l (fun h s => s.deliverOne n h) s1

/-! Slot boundaries (R530 to R533) -/

/-- The slew limit, in mA × 27,720. -/
def State.slewLimit (s : State) : Nat := s.num E.SLEW_LIMIT_MA * 27720

/-- The wake step of a waiting rick; none from state S (R526). -/
def State.rickStep (s : State) (k : Nat) : Nat :=
  match s.partOf k with
  | some n => if (s.rick k).pst = 1 then 0 else s.wakeStep n (s.rick k).pst
  | none => 0

/-- Wake steps already charged to the slot boundary at this instant. -/
def State.charged (s : State) : Nat := if s.slew.1 = s.now then s.slew.2 else 0

/-- The class and deadline of a waiting rick: an ash-out's is its t0. -/
def State.rickOrder (s : State) (k : Nat) : Nat × Nat × Nat :=
  match s.partOf k with
  | none => (1, 0, 12)
  | some n =>
    match (s.part n).ash, (s.part n).trigger with
    | some a, _ => (0, a.t0, n)
    | none, some (t0, _, _) => (1, t0 + s.num (E.WAKE_LATENCY_NS n), n)
    | none, none => (1, s.now, n)

/-- One rick comes before another. -/
def State.rickBefore (s : State) (a b : Nat) : Bool :=
  let x := s.rickOrder a
  let y := s.rickOrder b
  if x.1 ≠ y.1 then decide (x.1 < y.1) else if x.2.1 ≠ y.2.1 then decide (x.2.1 < y.2.1) else if x.2.2 ≠ y.2.2 then decide (x.2.2 < y.2.2) else decide (a ≤ b)

/-- The waiting ricks, in the order of R530; the emergency throttle passes over all but those of an ash-out. -/
def State.waiters (s : State) : List Nat :=
  sortBy s.rickBefore ((List.range 12).filter (fun k => (s.rick k).waiting.any (fun t => decide (t ≤ s.now)) && (s.rick k).move.isNone &&
    (s.throttleAt.isNone || (s.rickOrder k).1 == 0)))

/-- A rick that starts later than the slot boundary at which it first waited: a deferral; event 0xE023 once for each wake (R533). -/
def State.defer (s : State) (k : Nat) : State :=
  match s.partOf k, (s.rick k).waiting with
  | some n, some t =>
    let w := max 1 (s.num E.SLEW_WINDOW_NS)
    if s.now ≤ ceilDiv t w * w then s
    else
      let s1 := s.bump (E.WAKE_DEFERRALS n)
      if (s.part n).wakeDeferred then s1 else (s1.onPart n (fun p => { p with wakeDeferred := true })).raise 0xE023 0
  | _, _ => s

/-- Wakes start until the slew limit stops them. -/
def State.startWakes : List Nat → State → State
  | [], s => s
  | k :: r, s =>
    let c := s.charged + s.rickStep k
    if s.slewLimit < c then s
    else State.startWakes r (({ s.defer k with slew := (s.now, c) }).startWake k)

/-- The current a rick gives up on its way to state O, in mA × 27,720 (log 50). -/
def State.descentStep (s : State) (k : Nat) : Nat :=
  let r := s.rick k
  match s.partOf k with
  | some n => if r.pst = 0 then s.wakeStep n 4 else sleepDraw r.pst * 27720 * 25
  | none => (if r.pst = 0 then 250 else sleepDraw r.pst) * 27720 * 25

/-- The descents of a module reset start under the same limit (R580). -/
def State.startDescents : List Nat → State → State
  | [], s => s
  | k :: r, s =>
    let c := s.charged + s.descentStep k
    if s.slewLimit < c then s
    else State.startDescents r (({ s with slew := (s.now, c) }).onRick k (fun x => { x with move := some (4, s.now), waiting := none, bringup := none }))

/-- Ricks that still have to begin their descent. -/
def State.descents (s : State) : List Nat :=
  (List.range 12).filter (fun k => (s.rick k).pst != 4 && (match (s.rick k).move with | some (st, _) => st != 4 | none => true))

/-- SLOT_BOUNDARY: device time is a multiple of SLEW_WINDOW_NS (R530). -/
def execSlotBoundary (t : Nat) (s : State) : Host.Outcome State Fault Refusal :=
  let s1 := s.at t
  .next (if s1.now % max 1 (s1.num E.SLEW_WINDOW_NS) ≠ 0 then s1
    else if s1.descending then State.startDescents s1.descents s1
    else State.startWakes s1.waiters s1)

/-- STAGGER_EXPIRY: STAGGER_NS after the trigger the partition's ricks wait (R531). -/
def execStaggerExpiry (n : Fin 12) (t : Nat) (s : State) : Host.Outcome State Fault Refusal :=
  let s1 := s.at t
  .next (match (s1.part n).trigger with
    | some (t0, _, _) => if t0 + s1.num E.STAGGER_NS ≤ s1.now then s1.waitWake n else s1
    | none => s1)

/-! Wakes (R519, R525, R528) -/

/-- The clocks of a rick that has started: both PLLs are stable, PA is live at the running clock; a kindling rick runs on the floor clock (R575; log 55). -/
def State.clocksUp (s : State) (n k : Nat) : State :=
  (s.onRick k (fun r => { r with stable := [2, 3], freq := [(2, s.runClock n), (3, 500)] })).setNum (E.LIVE_SOURCE k) (if s.kindMask.testBit k then 4 else 2)

/-- A rick is in state A; from state C the saved copy of the running job comes back, and its next step is of kind 0 (R106, R255, R584; log 177). With the last rick awake, what was held is delivered and the
partition looks for work. -/
def State.rickAwake (s : State) (k : Nat) : State :=
  let from1 := (s.rick k).pst
  let s1 := s.onRick k (fun r => { r with pst := 0, move := none, waiting := none })
  match s1.partOf k with
  | none => s1
  | some n =>
    let s2 := if from1 = 3 then
        let s1 := s1.clocksUp n k
        match s1.resident n with
        | some j => ((s1.loadStreams n j).restoreRick n j k).kindZero n j
        | none => s1
      else s1
    if s2.awake n then (s2.deliverHeld n).idleBoundary n else s2

/-- RICK_WAKE_COMPLETE: the wake time of Table 18-2 has passed. -/
def execRickWakeComplete (k : Fin 12) (t : Nat) (s : State) : Host.Outcome State Fault Refusal :=
  let s1 := s.at t
  .next (match (s1.rick k).move with
    | some (0, t0) => if (s1.rick k).pst ≤ 3 ∧ t0 + wakeNs (s1.rick k).pst ≤ s1.now then s1.rickAwake k else s1
    | _ => s1)

/-- WAKE_BOUND_REACHED: the first step after the wake begins (R528). -/
def execWakeBoundReached (n : Fin 12) (t : Nat) (s : State) : Host.Outcome State Fault Refusal :=
  let s1 := s.at t
  .next (match (s1.part n).firstStep with
    | some f => if f ≤ s1.now ∧ (s1.part n).phase = .idle then s1.idleBoundary n else s1
    | none => s1)

/-- WAKE_AT_REACHED: device time has reached WAKE_AT, which is cleared (R525). -/
def execWakeAtReached (n : Fin 12) (t : Nat) (s : State) : Host.Outcome State Fault Refusal :=
  let s1 := s.at t
  let w := s1.num (E.WAKE_AT n)
  .next (if w ≠ 0 ∧ w ≤ s1.now then (s1.setNum (E.WAKE_AT n) 0).wakePart n 1 else s1)

/-- BACKGROUND_WAKE_DUE: a pass of a sleeping partition would not end in time if its wake began later (R599). -/
def execBackgroundWakeDue (n : Fin 12) (t : Nat) (s : State) : Host.Outcome State Fault Refusal :=
  let s1 := s.at t
  let st := s1.pstate n
  .next (if 1 ≤ st ∧ st ≤ 3 ∧ (s1.passesDue n st).isEmpty = false then s1.wakePart n 2 else s1)

/-! Entries (R519 to R522) -/

/-- IDLE_HOLD_EXPIRY: idle for IDLE_HOLD_NS, the partition goes to its chosen state if that is deeper than S (R522). -/
def execIdleHoldExpiry (n : Fin 12) (t : Nat) (s : State) : Host.Outcome State Fault Refusal :=
  let s1 := s.at t
  let p := s1.part n
  let c := s1.chosen n
  let still := (s1.ricksOf n).all (fun k => (s1.rick k).move.isNone && (s1.rick k).waiting.isNone && decide ((s1.rick k).pst ≤ 1))
  .next (match p.idleSince with
    | some t0 =>
      if t0 + s1.num (E.IDLE_HOLD_NS n) ≤ s1.now ∧ p.phase = .idle ∧ p.trigger = none ∧ p.ash = none ∧ 2 ≤ c ∧ s1.pstate n < c ∧ still = true ∧ s1.exists n
      then s1.startEntry n c else s1
    | none => s1)

/-- Class-V entries of a rick return to their defaults (Tables 20-6, 21-10). -/
def State.rickDefaults (s : State) (k : Nat) : State :=
  let s1 := [E.LIVE_SOURCE k, E.PLL_FAILED k, E.FM_SOURCE k, E.FM_GATE k, E.FM_HEARTH k, E.FM_RESULT k].foldl State.unset s
  s1.onRick k (fun r => { r with starting := none, stable := [], freq := [], measuring := none, chanCe := [] })

/-- The stores of a rick's hearths are lost. -/
def State.hearthsLost (s : State) (k : Nat) : State :=
  forAll ((List.range 18).map (fun h => 18 * k + h)) (fun g s =>
    ((((s.zeroRange (hearthBase g) (2 ^ 23)).zeroRange (sdWork g) 0x8000).zeroRange (sdComm g) 0x8000).zeroRange (imBase g) 0x10000).onHearth g
      (fun h => { h with imem := [], acc := [], accRows := [], badAcc := [], tile := ([], []), tileKey := none })) s

/-- A rick is in state O: what it held is lost, and it is no longer ready (Table 18-2). -/
def State.rickOff (s : State) (k : Nat) : State :=
  let s1 := ((s.hearthsLost k).rickDefaults k).onRick k (fun r => { r with pst := 4, move := none, waiting := none, bringup := none, stopped := false, ctrlDead := none })
  s1.setNum E.RICK_READY (s1.num E.RICK_READY &&& (2 ^ 12 - 1 - 2 ^ k))

/-- A rick enters state C: the running job's stores go to its SPILL region (R255). -/
def State.rickCold (s : State) (k : Nat) : State :=
  let s1 := match s.partOf k with
    | some n => match s.resident n with
      | some j => s.saveRick n j k
      | none => s
    | none => s
  ((s1.hearthsLost k).rickDefaults k).onRick k (fun r => { r with pst := 3, move := none })

/-- A rick's trace buffers are swept before it enters state B or C (R627). -/
def State.sweepFor (s : State) (k : Nat) : State :=
  match s.partOf k with
  | some n => s.sweepRick n k
  | none => s

/-- STATE_ENTRY_COMPLETE: the entry time of Table 18-2 has passed. A trigger that came meanwhile starts or continues its wake (R525, R530). -/
def execStateEntryComplete (k : Fin 12) (t : Nat) (s : State) : Host.Outcome State Fault Refusal :=
  let s1 := s.at t
  .next (match (s1.rick k).move with
    | some (st, t0) =>
      if st = 0 ∨ s1.now < t0 + entryNs st then s1 else
      let s0 := if 2 ≤ st ∧ st ≤ 3 ∧ (s1.rick k).pst ≤ 1 then s1.sweepFor k else s1
      let s2 := if st = 4 then s0.rickOff k else if st = 3 then s0.rickCold k else s0.onRick k (fun r => { r with pst := st, move := none })
      let s3 := if s2.cold && !s1.cold then s2.parkPorts else s2
      if s3.descending then (if (List.range 12).all (fun k => (s3.rick k).pst == 4) then { s3 with descending := false, bootT0 := s3.now } else s3)
      else match s3.partOf k with
        | none => s3
        | some n => match (s3.part n).trigger with
          | none => s3
          | some (t1, cls, _) =>
            if st = 1 then s3.wakeLight n cls
            else if cls = 3 ∨ t1 + s3.num E.STAGGER_NS ≤ s3.now then s3.waitWake n else s3
    | none => s1)

/-! Budgets (R535, R536) -/

/-- The kindling job holds its partition at the floor clock (R575). -/
def State.kindlesHere (s : State) (n : Nat) : Bool := s.kindled && s.kindPart == n

/-- BUDGET_WINDOW: the mean draw of 1 ms. Above the budget the running clock falls by 25 MHz, not below the floor; after 10 means below 95 % it rises by as much, not
above the configured clock and not under the emergency throttle. -/
def execBudgetWindow (n : Fin 12) (meanW : Nat) (t : Nat) (s : State) : Host.Outcome State Fault Refusal :=
  let s1 := s.at t
  let b := s1.budget n
  let f := s1.runClock n
  let low := (s1.part n).lowMeans + 1
  .next (if s1.exists n = false ∨ s1.awake n = false ∨ s1.kindlesHere n then s1
    else if b < meanW then
      let s2 := s1.onPart n (fun p => { p with lowMeans := 0 })
      if s1.floorClock n < f then s2.requestClock n (max (s1.floorClock n) (f - 25)) else s2
    else if 100 * meanW < 95 * b then
      if low < 10 then s1.onPart n (fun p => { p with lowMeans := low })
      else
        let s2 := s1.onPart n (fun p => { p with lowMeans := 0 })
        if f < s1.num (E.PART_CLOCK_MHZ n) ∧ s1.throttleAt = none then s2.requestClock n (min (s1.num (E.PART_CLOCK_MHZ n)) (f + 25)) else s2
    else s1.onPart n (fun p => { p with lowMeans := 0 }))

/-- OVERRUN_WINDOW: the mean draw of 100 ms, compared with the budget while the clock is at its floor. -/
def execOverrunWindow (n : Fin 12) (meanW : Nat) (t : Nat) (s : State) : Host.Outcome State Fault Refusal :=
  let s1 := (s.at t).setNum (E.PART_POWER_W n) (meanW % 2 ^ 32)
  .next (if s1.exists n && decide (s1.clockMhz n ≤ s1.floorClock n) && decide (s1.budget n < meanW) then
      let s2 := (s1.bump (E.BUDGET_OVERRUNS n)).onPart n (fun p => { p with overran := true })
      if (s1.part n).overran then s2 else s2.raise 0xE022 (scopeP n)
    else s1.onPart n (fun p => { p with overran := false }))

/-! The emergency throttle (R537 to R539) -/

/-- 10 ms steps of a time that tenants see of the throttle (Table 17-8; log 51). -/
def tenMs (t : Nat) : Nat := t / 10000000 * 10000000

/-- Event 0xE002, of module scope with TENANT set: every partition's PART_EVENTS has it, with a rounded time (R538, R615). -/
def State.raisePlatform (s : State) : State :=
  let s1 := s.raise 0xE002 0
  forAll s1.liveParts (fun n s =>
    ({ s with partEvents := s.partEvents.put n (pushCap 256 (s.partEvents.getD n []) ⟨0xE002, 0, true, true, s.num E.EVENT_SEQ, tenMs s.now, []⟩) }).bumpBy
      (E.PART_EVENT_SEQ n) 64 1) s1

/-- The throttle is raised: every arithmetic clock at 500 MHz, pending clock changes abandoned, events 0xE020 and 0xE002. Input voltage and power are what the
sensors read (log 52). -/
def State.throttle (s : State) : State :=
  let s1 := forAll (List.range 12) (fun n s => s.onPart n (fun p => { p with floorNow := true, clkNext := none, clkReady := none }))
    ({ s with throttleAt := some s.now }.bump E.EMERGENCIES)
  let s2 := forAll (List.range 12) (fun k s => if (s.rick k).starting.isSome then s.onRick k (fun r => { r with starting := none }) else s) s1
  let v := s2.draw
  let w := v.2.draw
  (w.2.raise 0xE020 0 [s.causes, v.1.toNat % 2 ^ 32, w.1.toNat % 2 ^ 32]).raisePlatform

/-- A cause of Table 18-4 holds from now on. -/
def State.addCause (s : State) (bit : Nat) : State :=
  let c := s.causes ||| 2 ^ bit
  let s1 := { s with causes := c, clearAt := s.now }.setNum E.EMERGENCY c
  if s1.throttleAt.isSome then s1 else s1.throttle

/-- A cause is clear from now on. -/
def State.dropCause (s : State) (bit : Nat) : State :=
  if s.causes.testBit bit then
    let c := s.causes ^^^ 2 ^ bit
    { s with causes := c, clearAt := s.now }.setNum E.EMERGENCY c
  else s

/-- EMERGENCY_RAISE: a cause of Table 18-4 by its bit; bits 6 and 7 name none. -/
def execEmergencyRaise (cause : Fin 8) (t : Nat) (s : State) : Host.Outcome State Fault Refusal :=
  let s1 := s.at t
  .next (if cause.val < 6 then s1.addCause cause else s1)

/-- EMERGENCY_END: every cause has been clear for 100 ms. The measured causes (UNDERVOLT, OVERPOWER, PEAK) are clear when this event says so; PHASES, THERMAL and ALERT
while their own events have not set them (R539). -/
def execEmergencyEnd (t : Nat) (s : State) : Host.Outcome State Fault Refusal :=
  let s1 := s.at t
  .next (match s1.throttleAt with
    | some t0 =>
      if 8 ≤ s1.causes ∨ s1.now < s1.clearAt + 100000000 then s1
      else
        let l := s1.blob E.PLATFORM_EVENTS ++ leBytes 8 (tenMs t0) ++ leBytes 8 (tenMs s1.now)
        let s2 := ({ s1 with causes := 0, throttleAt := none }.setNum E.EMERGENCY 0).setBlob E.PLATFORM_EVENTS (lastOf 1024 l)
        s2.raise 0xE021 0
    | none => s1)

/-- PHASE_FAILURE: a spare phase replaces a failed one, the second being the last: event 0xE055 of class 6 (R609); the third failure raises cause PHASES (R517). -/
def execPhaseFailure (_k : Fin 12) (t : Nat) (s : State) : Host.Outcome State Fault Refusal :=
  let s1 := (s.at t).bumpBy E.PHASES_FAILED 8 1
  .next (if 3 ≤ s1.num E.PHASES_FAILED then s1.addCause 3 else if s1.num E.PHASES_FAILED = 2 then s1.raise 0xE055 0 [6, 0xFF] else s1)

/-- ALERT_ASSERT: ALERT_N has been low for 10 us (R645). -/
def execAlertAssert (t : Nat) (s : State) : Host.Outcome State Fault Refusal := .next (((s.at t).setNum E.ALERT_PIN 1).addCause 5)

/-- ALERT_RELEASE: ALERT_N has been released for 100 us (R645). -/
def execAlertRelease (t : Nat) (s : State) : Host.Outcome State Fault Refusal := .next (((s.at t).setNum E.ALERT_PIN 0).dropCause 5)

/-- THERMAL_CONDITION: a condition of Table 23-6 holds, or cause THERMAL clears (R652). -/
def execThermalCondition (on : Bool) (t : Nat) (s : State) : Host.Outcome State Fault Refusal :=
  .next (if on then (s.at t).addCause 4 else (s.at t).dropCause 4)

end Sys2Proof.Machine
end

