-- ==== Sys2Proof/Machine/Boot.lean ====
section
/-!
DEFINITION. Power-on, resets, tinder, bring-up and the collier's standby (R518, R560 to R571, R579 to R588, R643, R653).
-/
namespace Sys2Proof.Machine

/-! Wear records (R621) -/

/-- HEARTH_WEAR of a rick as it stands. -/
def State.wearBytes (s : State) (k : Nat) : List Byte :=
  (List.range 18).flatMap (fun hh =>
    let g := 18 * k + hh
    let h := s.hearth g
    let st := if s.spare.retired.contains g then 2 else if (s.logical g).isSome then 0 else 1
    leBytes 1 st ++ zeros 1 ++ leBytes 2 h.margin ++ leBytes 4 (s.recent h.corrected).length ++ leBytes 4 h.activeHours ++
    leBytes 2 (sumOf h.mismSteps (fun x => (s.recent x.2).length)) ++ leBytes 2 (s.recent h.faultSteps).length)

/-- HEARTH_WEAR_STORE: every hour the stored copies are written. -/
def execHearthWearStore (t : Nat) (s : State) : Host.Outcome State Fault Refusal :=
  let s1 := s.at t
  .next (forAll (List.range 12) (fun k s => { s with stored := s.stored.put (E.HEARTH_WEAR k) (.blob (s.wearBytes k)) }) s1)

/-- A hearth after a reset: its defects are physical, its wear is what the stored copy says (log 54). -/
def State.wornHearth (s : State) (t g : Nat) (h : Hearth) : Hearth :=
  match Tab.look s.stored (E.HEARTH_WEAR (g / 18)) with
  | some (.blob b) =>
    let w := bytesAt b (16 * (g % 18)) 16
    { defects := h.defects, margin := fld w 2 2, corrected := List.replicate (fld w 4 4) t, activeHours := fld w 8 4,
      mismSteps := if fld w 12 2 = 0 then [] else [(255, List.replicate (fld w 12 2) t)], faultSteps := List.replicate (fld w 14 2) t }
  | _ => { defects := h.defects }

/-! What a reset keeps (Tables 20-5 to 20-7) -/

/-- The persistence class of an entry by its key. -/
def clsOf (key : Nat) : Cls :=
  match entryOf (key / 256) (key % 256) with
  | some e => e.cls
  | none => .V

/-- The dictionary after a module reset or a power-on: class M kept or dropped, class S from the stored copies. -/
def State.rebootDict (s : State) (on : Bool) : Tab DVal :=
  s.stored.foldl (fun d x => if clsOf x.1 = .S then d.put x.1 x.2 else d) (if on then [] else s.dict.filter (fun x => clsOf x.1 == .M))

/-- ARRAY_SPARES as the SPARE manifest in force has it (Table 21-6). -/
def Spare.arrayBytes (m : Spare) : List Byte := (List.range 216).flatMap (fun g => bytesAt (m.arrays.getD g []) 0 8)

/-- The module after a module reset or a power-on: what flash and the fabric of the silicon keep, and everything else as new. -/
def State.reborn (s : State) (on : Bool) : State :=
  let t := if on then 0 else s.now
  let s1 : State :=
    { pending := s.pending, now := t, free := s.free, dict := s.rebootDict on, stored := s.stored,
      hearths := (s.hearths.map (fun x => (x.1, s.wornHearth t x.1 x.2))).filter (fun x => x.2 != {}),
      events := if on then [] else s.events, persisted := s.persisted,
      ricks := s.ricks.map (fun x => (x.1, { pst := if on then 4 else x.2.pst, degradedAt := x.2.degradedAt, schan := s.spare.schan.filter (fun m => m / 4 == x.1) })),
      remap := s.spare.remap, sent := s.sent, msgid := s.msgid,
      fports := s.fports.map (fun x => (x.1, { present := x.2.present })), eports := s.eports.map (fun x => (x.1, { starved := x.2.starved })),
      spare := s.spare, replies := s.replies, objs := s.objs, banks := s.banks, bank := s.bank,
      setkeys := if on then [] else s.setkeys, causes := if on then s.causes &&& 0x30 else s.causes, clearAt := if on then 0 else s.clearAt,
      throttleAt := if on then none else s.throttleAt, heldInput := s.heldInput, heldHeat := s.heldHeat, bootT0 := t,
      refsLost := s.refsLost, switchOn := s.switchOn, powered := s.powered, powerOns := s.powerOns }
  let s2 := if s.spare.arrays.isEmpty then s1 else s1.setBlob E.ARRAY_SPARES s.spare.arrayBytes
  if s2.causes = 0 then s2 else s2.setNum E.EMERGENCY s2.causes

/-- RESET_CAUSE. -/
def causeBytes (c t : Nat) : List Byte := leBytes 1 c ++ zeros 7 ++ leBytes 8 t

/-- A module reset (R580): steps, sessions and connections are gone, ports idle, and the ricks descend to state O; with all of them there it follows Table 20-1 from
event 2. An ash-out in progress ends (R513). -/
def State.moduleReset (s : State) (cause : Nat) : State :=
  let s0 := forAll ((List.range 12).filter (fun n => (s.part n).ash.isSome)) (fun n s => s.bumpBy (E.ASHOUT_COUNT n) 64 1) s
  let s1 := (s0.reborn false).setBlob E.RESET_CAUSE (causeBytes cause s.now)
  { (s1.bump E.RESET_COUNT) with
    descending := !(List.range 12).all (fun k => (s.rick k).pst == 4),
    unplanned := if cause = 4 ∨ cause = 5 ∨ cause = 6 then some s.now else none }

/-- A start as from power-on, with its RESET_CAUSE (Table 20-4). Device time starts from 0, and POWERON_ID is drawn anew. -/
def State.powerOn (s : State) (cause : Nat) : State :=
  ({ s.reborn true with heldInput := false, heldHeat := false, switchOn := true, powered := true, powerOns := s.powerOns + 1 }).setBlob E.RESET_CAUSE (causeBytes cause 0)

/-- Every rick goes to state O and the module is held: nothing runs until a start as from power-on (R518, Table 23-6). -/
def State.holdModule (s : State) : State :=
  forAll ((List.range 12).filter (fun k => (s.rick k).pst != 4)) (fun k s => s.onRick k (fun r => { r with move := some (4, s.now), waiting := none, bringup := none }))
    { s with parts := s.parts.map (fun x => (x.1, { x.2 with phase := .idle, trigger := none, firstStep := none, halt := none })), sessions := [], conns := [], waits := [],
             held := [], bringups := [], powered := false, dict := s.dict.filter (fun x => !(x.1 == E.BOOT_STATE || x.1 == E.RICK_READY)) }

/-- INPUT_OUT_OF_RANGE: below 32.0 V for 1 ms or above 46.0 V for 10 us (R518); beyond the 60 V that even a millisecond may reach, the part may be damaged (R649). -/
def execInputOutOfRange (mv : Nat) (t : Nat) (s : State) : Host.Outcome State Fault Refusal :=
  let s1 := s.at t
  if 60000 < mv then .fault .beyondAbsoluteMaximum
  else .next (if 32000 ≤ mv ∧ mv ≤ 46000 then s1 else { s1.holdModule with heldInput := true })

/-- THERMAL_SHUTDOWN: a junction above 115 °C for 1 ms (R652). -/
def execThermalShutdown (t : Nat) (s : State) : Host.Outcome State Fault Refusal := .next { (s.at t).holdModule with heldHeat := true }

/-- THERMAL_RESTART: every junction has been below 90 °C for 10 s: event 0xE025 (R653). -/
def execThermalRestart (t : Nat) (s : State) : Host.Outcome State Fault Refusal :=
  let s1 := s.at t
  .next (if s1.heldHeat ∧ s1.heldInput = false ∧ s1.switchOn then (s1.powerOn 1).raise 0xE025 0 else { s1 with heldHeat := false })

/-- POWER_VALID: the input has been in range for 100 ms after presence. After a brown-out, event 0xE024 (R518, R567). -/
def execPowerValid (t : Nat) (s : State) : Host.Outcome State Fault Refusal :=
  let s1 := s.at t
  .next (if s1.switchOn = false ∨ s1.heldHeat then s1
    else if s1.heldInput then (s1.powerOn 2).raise 0xE024 0
    else if s1.powered = false then (if s1.bootT0 + 100000000 ≤ s1.now then s1.powerOn 1 else s1)
    else s1)

/-- PRESENCE_OPEN: the switch opens; every rick goes to state O without the slew order, and the module loses its power (R586, R643). -/
def execPresenceOpen (t : Nat) (s : State) : Host.Outcome State Fault Refusal :=
  let s1 := (s.at t).holdModule
  .next { forAll (List.range 12) (fun k s => s.rickOff k) s1 with switchOn := false, heldInput := false, heldHeat := false }

/-- PRESENCE_CLOSE: the switch closes when the bulk voltage lies within 1.0 V of PC40 and the input is in range (R643). -/
def execPresenceClose (bulkmV inmV : Nat) (t : Nat) (s : State) : Host.Outcome State Fault Refusal :=
  let s1 := s.at t
  .next (if s1.switchOn = false ∧ bulkmV ≤ inmV + 1000 ∧ inmV ≤ bulkmV + 1000 ∧ 36000 ≤ inmV ∧ inmV ≤ 44000 then
      { s1 with switchOn := true, powered := false, bootT0 := s1.now }
    else s1)

/-! Tinder and the banks (R560 to R563) -/

/-- STATE of a bank: 0 empty, 1 VALID, 2 TRIAL, 3 FAILED. -/
def State.bankState (s : State) (b : Nat) : Nat := fld (s.blob E.BANK_STATUS) (16 * b) 1

/-- An entry takes a value in force and in its stored copy. -/
def State.setBoth (s : State) (key : Nat) (v : DVal) : State := { s with dict := s.dict.put key v, stored := s.stored.put key v }

/-- STATE of a bank changes, in force and stored. -/
def State.setBank (s : State) (b st : Nat) : State := s.setBoth E.BANK_STATUS (.blob (setFld (s.blob E.BANK_STATUS) (16 * b) 1 st))

/-- A bank is admitted: its images pass their checks (`ok`), no SVN is below OBJ_SVN, and it has not FAILED. -/
def State.bankOk (s : State) (b : Nat) (ok : Bool) : Bool :=
  ok && s.bankState b != 3 && decide (fld (s.blob E.OBJ_SVN) 0 4 ≤ fld (s.blob E.BANK_STATUS) (16 * b + 4) 4) &&
  decide (fld (s.blob E.OBJ_SVN) 4 4 ≤ fld (s.blob E.BANK_STATUS) (16 * b + 8) 4)

/-- The module is in event 1 of Table 20-1, or its reset has brought every rick to state O. -/
def State.atStart (s : State) : Bool :=
  s.powered && s.switchOn && !s.heldInput && !s.heldHeat && !s.descending && s.num E.BOOT_STATE == 0

/-- TINDER_START: `okA` and `okB` say whether the images of banks 0 and 1 pass checks 1 to 3 of Table 17-3. Neither admitted: the tinder hold. -/
def execTinderStart (okA okB : Bool) (t : Nat) (s : State) : Host.Outcome State Fault Refusal :=
  let s1 := s.at t
  let b := s1.num E.BOOT_BANK
  let first := s1.bankOk b (if b = 0 then okA else okB)
  let second := s1.bankOk (1 - b) (if b = 0 then okB else okA)
  .next (if s1.atStart = false then s1
    else if first then { s1 with bank := b, trialT0 := s1.now }.setNum E.BOOT_STATE 1
    else if second then ({ s1 with bank := 1 - b, trialT0 := s1.now }.setNum E.BOOT_STATE 1).raise 0xE040 0
    else (({ s1 with tinderHold := true }.setNum E.BOOT_STATE 4).setNum (E.ETH_STATE 4) 1).raise 0xE041 0)

/-- TRIAL_TIMEOUT: the firmware of a TRIAL bank has not come up within 10,000 ms: the bank fails, and the watchdog resets the module (R562). -/
def execTrialTimeout (t : Nat) (s : State) : Host.Outcome State Fault Refusal :=
  let s1 := s.at t
  .next (if s1.num E.BOOT_STATE = 1 ∧ s1.bankState s1.bank = 2 ∧ s1.trialT0 + 10000000000 ≤ s1.now then
      ((s1.setBank s1.bank 3).setBoth E.BOOT_BANK (.num (1 - s1.bank))).moduleReset 6
    else s1)

/-! Grid (R24, R65) -/

/-- Two ricks share an edge. -/
def ricksTouch (a b : Nat) : Bool :=
  (a / 4 == b / 4 && (a + 1 == b || b + 1 == a)) || (a % 4 == b % 4 && (a + 4 == b || b + 4 == a))

/-- Ricks of a list reachable from those of another. -/
def spreadOver (l : List Nat) : Nat → List Nat → List Nat
  | 0, r => r
  | f + 1, r => spreadOver l f (l.filter (fun a => r.any (fun b => a == b || ricksTouch a b)))

/-- The ricks of a mask form one edge-connected set. -/
def edgeConnected (mask : Nat) : Bool :=
  let l := bitList mask 12
  (spreadOver l 12 (l.take 1)).length == l.length

/-! Bring-up (R567 to R571) -/

/-- Kindling is configured (R573). -/
def State.kindles (s : State) : Bool :=
  let n := s.num E.KINDLING_PART
  let m := s.num E.KINDLING_RICKS
  decide (n < 12) && s.num (E.PART_TENANT n) != 0xFF && (bitList m 12).length == 2 && edgeConnected m && (m &&& s.num (E.RICK_MASK n)) == m &&
  !(s.blob E.KINDLING_CORD).isEmpty && !(s.blob E.KINDLING_MANIFEST).isEmpty && !(s.blob E.KINDLING_SETUP).isEmpty

/-- The bring-up order (R568). -/
def State.bringupOrder (s : State) : List Nat :=
  let first := if s.kindles then bitList (s.num E.KINDLING_RICKS) 12 else []
  first ++ (List.range 12).filter (fun k => !first.contains k && ((s.partOf k).isSome || s.num E.UNUSED_RICK_STATE != 4))

/-- A value of BOOT_TIMES. -/
def State.setBootTime (s : State) (i : Nat) : State := s.setBlob E.BOOT_TIMES (setFld (s.blob E.BOOT_TIMES) (8 * i) 8 s.now)

/-- The kindling partition counts as having the kindling ricks (R574). -/
def State.partReady (s : State) (n : Nat) : Bool := s.exists n && (s.ricksOf n).all (fun k => (s.num E.RICK_READY).testBit k)

/-- The bring-up order and the kindling partition are fixed. -/
def State.orderFixed (s : State) : State :=
  { s with bringups := s.bringupOrder, lastReady := s.now,
           kindMask := if s.kindles then s.num E.KINDLING_RICKS else 0, kindPart := if s.kindles then s.num E.KINDLING_PART else 0xFF }

/-- COLLIER_READY: event 4 of Table 20-1. A TRIAL bank becomes VALID; Ethernet ports begin training; the bring-up order is fixed. -/
def execCollierReady (t : Nat) (s : State) : Host.Outcome State Fault Refusal :=
  let s1 := s.at t
  .next (if s1.num E.BOOT_STATE ≠ 1 then s1
    else
      let s2 := if s1.bankState s1.bank = 2 then s1.setBank s1.bank 1 else s1
      let s3 := if fld (s2.blob E.RESET_CAUSE) 0 1 = 0 then s2.setBlob E.RESET_CAUSE (causeBytes 1 0) else s2
      let s4 := (s3.setNum E.BOOT_STATE 2).setBootTime 0
      let s5 := forAll (List.range 8) (fun e s => s.setNum (E.ETH_STATE e) (if s.num (E.ETH_ENABLE e) = 0 then 3 else if (s.eport e).starved then 0 else 1)) s4
      let s6 := forAll ((List.range 16).filter (fun p => s5.num (E.PORT_ENABLE p) == 0)) (fun p s => s.setNum (E.PORT_STATE p) 3) s5
      let tasks : Tab Task := intervalTasks.foldl (fun x k => x.put k { tp := s6.now }) []
      let s7 := forAll s6.liveParts (fun n s => s.onPart n (fun p => { p with tasks := tasks })) s6
      s7.orderFixed)

/-- RICK_BRINGUP_START: the next rick starts from state O at a slot boundary, as a wake step of 28.5 A (R530, Table 20-2). -/
def execRickBringupStart (k : Fin 12) (t : Nat) (s : State) : Host.Outcome State Fault Refusal :=
  let s1 := s.at t
  let c := s1.charged + 28500 * 27720
  .next (if s1.bringups.head? = some k.val ∧ (s1.rick k).pst = 4 ∧ (s1.rick k).bringup = none ∧ s1.throttleAt = none ∧
      s1.now % max 1 (s1.num E.SLEW_WINDOW_NS) = 0 ∧ c ≤ s1.slewLimit ∧ 2 ≤ s1.num E.BOOT_STATE ∧ s1.num E.BOOT_STATE ≤ 3 then
      ({ s1 with slew := (s1.now, c) }).onRick k (fun r => { r with bringup := some s1.now })
    else s1)

/-- Every store of a rick holds zeros (R256, R500). -/
def State.zeroRick (s : State) (k : Nat) : State :=
  (List.range 4).foldl (fun s i => s.zeroRange (tierS (4 * k + i)) (2 ^ 37)) ((s.hearthsLost k).zeroRange (tierB k) (2 ^ 36))

/-- The self-test of a hearth: the array diagnostic on its four arrays (event 4 of Table 20-2). -/
def State.selfTest (s : State) (g : Nat) : State :=
  forAll (List.range 4) (fun a s => if (s.defectsOf g a).isEmpty then s else s.diagnose ((s.partOf (g / 18)).getD 12) g a false) s

/-- A rick is ready (event 7): with a partition it is in state A, its PA live at the running clock (log 55); in none it goes to the state of UNUSED_RICK_STATE. -/
def State.rickIsReady (s : State) (k : Nat) : State :=
  let s1 := (((s.zeroRick k).setNum E.RICK_READY (s.num E.RICK_READY ||| 2 ^ k)).setBootTime (1 + k)).onRick k (fun r =>
    { r with bringup := none, pst := 0, stable := [2, 3], freq := [(3, 500)] })
  match s1.partOf k with
  | none => s1.onRick k (fun r => { r with move := some (if s1.num E.UNUSED_RICK_STATE = 4 then 4 else 3, s1.now) })
  | some n =>
    let s2 := s1.clocksUp n k
    if !s2.partReady n then s2 else
    let s3 := match s2.unplanned with
      | some t0 => if s2.num (E.PART_TENANT n) = 0xFF then s2 else s2.unavailable n 7 t0
      | none => s2
    -- what could start nothing while a rick was missing starts now
    (if s3.num (E.PART_TENANT n) = 0xFF then s3 else s3.giveFlush n).idleBoundary n

/-- RICK_READY: 2,700 ms after its start the rick is ready, or an event of Table 20-2 failed: event 0xE043, and it is degraded (R570). Hearths that the self-test
found faulty are retired in the meantime. -/
def execRickReady (k : Fin 12) (ok : Bool) (t : Nat) (s : State) : Host.Outcome State Fault Refusal :=
  let s1 := s.at t
  .next (match (s1.rick k).bringup with
    | none => s1
    | some r0 =>
      if s1.now < r0 + 2700000000 then s1 else
      let s2 := { s1 with bringups := s1.bringups.filter (fun x => x != k.val), lastReady := s1.now }
      let s3 := if ok then forAll ((List.range 18).map (fun h => 18 * k.val + h)) (fun g s => s.selfTest g) s2 else s2
      if ok && ((s3.rick k).degradedAt.isNone || (s2.rick k).degradedAt.isSome) then s3.rickIsReady k
      else ((s3.raise 0xE043 0).onRick k (fun r => { r with bringup := none, pst := 4 })).degrade k)

/-- FULL_SERVICE: module calibration is complete 3,000 ms after the last rick: event 0xE046. A kindling job on all of its partition's ricks becomes an ordinary one (R577). -/
def execFullService (t : Nat) (s : State) : Host.Outcome State Fault Refusal :=
  let s1 := s.at t
  .next (if s1.num E.BOOT_STATE ≠ 2 ∨ s1.bringups ≠ [] ∨ s1.now < s1.lastReady + 3000000000 then s1
    else
      let s2 := { ((s1.setNum E.BOOT_STATE 3).setBootTime 13).raise 0xE046 0 with unplanned := none }
      let s3 := if s2.kindled && s2.kindMask == s2.num (E.RICK_MASK s2.kindPart) then s2.noKindling.setKindling 4 0 else if s2.kindled then s2 else if s2.kindMask = 0 then s2 else s2.noKindling.setKindling 0 0
      forAll s3.liveParts (fun n s => if (s.part n).phase = .idle then s.idleBoundary n else s) s3)

/-! The collier's standby (R564 to R566) -/

/-- The standby takes over from the journal: event 0xE042, and 0xE055 of class 8 for the last spare (R609). -/
def State.takeover (s : State) : State := (({ s with standby := true }.setNum E.COLLIER_STATE 1).bump E.FAILOVERS).raise 0xE042 0 |>.raise 0xE055 0 [8, 0xFF]

/-- WATCHDOG_EXPIRY: the standby takes over; with the standby alone the module resets. -/
def execWatchdogExpiry (t : Nat) (s : State) : Host.Outcome State Fault Refusal :=
  let s1 := s.at t
  .next (if s1.standby then s1.moduleReset 4 else s1.takeover)

/-- LOCKSTEP_MISMATCH: the outputs of the pair differ; the standby alone has nothing to compare. -/
def execLockstepMismatch (t : Nat) (s : State) : Host.Outcome State Fault Refusal :=
  let s1 := s.at t
  .next (if s1.standby then s1 else s1.takeover)

/-! Smaller resets (R581, R582) -/

/-- Bases of the rows of 12 indices that belong to ricks or tenant slots; every other row of 12 belongs to partitions (R579). -/
def rickBases : List Nat := [0x2210, 0x7050]
def slotBases : List Nat := [0x3010, 0x4020, 0x5010, 0x8020]

/-- The row belongs to a partition. -/
def Entry.ofPart (e : Entry) : Bool := e.count == 12 && !rickBases.contains e.base && !slotBases.contains e.base

/-- The partition an entry belongs to, by its key. -/
def partScope (key : Nat) : Option Nat :=
  match entryOf (key / 256) (key % 256) with
  | some e => if e.ofPart then some (key / 256 - e.base) else none
  | none => none

/-- Entries of a partition of a class return to their defaults. -/
def State.partDefaults (s : State) (n : Nat) (p : Cls → Bool) : State :=
  { s with dict := s.dict.filter (fun x => !(partScope x.1 == some n && p (clsOf x.1))) }

/-- What the hearths of a partition hold for class-V entries: counters, traces, NaN bits. -/
def State.hearthCounters (s : State) (n : Nat) : State :=
  forAll (s.ricksOf n) (fun k s => (forAll ((List.range 18).map (fun h => 18 * k + h)) (fun g s =>
    s.onHearth g (fun h => { h with perf := [], perfRun := [], trace := {}, nan0 := false, nan1 := false, nanRep := none })) s).onRick k (fun r => { r with nic := {} })) s

/-- A partition reset: cores stop, the step is discarded, cords are unloaded, the turn fails, class-V entries go: event 0xE048 (R581). -/
def State.resetPartition (s : State) (n : Nat) : State :=
  let s1 := if (s.part n).phase = .running then s.discardAttempt n else s
  let s2 := (s1.unloadAll n 0x13).turnFail n 4
  let s3 := (s2.partDefaults n (fun c => c == .V)).hearthCounters n
  let s4 := s3.onPart n (fun p => { p with
    phase := .idle, again := false, attempt := 0, mmCount := 0, mmFirst := [], schedFaults := 0, halt := none, trig := none, lossEvent := false, traceEnded := false,
    perfLost := 0, perfTime := 0, perfMax := 0, perfHalted := 0, perfHalts := 0, perfDiscards := 0, nanClear := false, perfClear := false, refused := p.refused })
  let s5 := forAll (List.range 64) (fun g s => if (s.group n g).dropped = 0 then s else s.onGroup n g (fun x => { x with dropped := 0 })) s4
  let s7 := (s5.applyConsent n).raise 0xE048 (scopeP n)
  if s7.awake n then s7.idleBoundary n else s7

/-- A rick reset: through state O, then Table 20-2 (R582). -/
def State.resetRick (s : State) (k : Nat) : State :=
  let s1 := { s with bringups := s.bringups.filter (fun x => x != k) ++ [k] }
  if (s1.rick k).pst = 4 then s1.onRick k (fun r => { r with bringup := none }) else s1.onRick k (fun r => { r with move := some (4, s1.now), waiting := none })

/-- A hearth reset: its stores are zeroed and the self-test runs (Table 20-4). -/
def State.resetHearth (s : State) (g : Nat) : State :=
  let s1 := (((s.zeroRange (hearthBase g) (2 ^ 23)).zeroRange (sdWork g) 0x8000).zeroRange (sdComm g) 0x8000).zeroRange (imBase g) 0x10000
  (s1.onHearth g (fun h => { s1.wornHearth s1.now g h with margin := h.margin, corrected := h.corrected, activeHours := h.activeHours, mismSteps := h.mismSteps,
                                                           faultSteps := h.faultSteps, lowMargins := h.lowMargins, uncorrectable := h.uncorrectable })).selfTest g

end Sys2Proof.Machine
end

