-- ==== Sys2Proof/Machine/Clocks.lean ====
section
/-!
DEFINITION. Clock islands (R541 to R558): references, judging and failing sources, monitor windows, the frequency counter.
-/
namespace Sys2Proof.Machine

/-! References (R541 to R545) -/

/-- Both references have failed: every island enters its safe state, and device time runs on the ring oscillator (R545, Table 19-3). -/
def State.loseReferences (s : State) : State :=
  let s1 := { s with refsLost := 3 }.setNum E.TIME_QUALITY 1
  let s2 := forAll (List.range 12) (fun k s => s.onRick k (fun r => { r with stopped := r.pst == 0, starting := none })) s1
  let s3 := forAll ((List.range 16).filter (fun p => s2.num (E.PORT_STATE p) == 1 || s2.num (E.PORT_STATE p) == 2)) (fun p s => s.portDown p) s2
  forAll ((List.range 8).filter (fun e => s3.num (E.ETH_STATE e) == 1 || s3.num (E.ETH_STATE e) == 2)) (fun e s => s.ethDown e 0) s3

/-- REFERENCE_LOSS: a reference trips its detector. When it was the active one, the other takes over and no step is discarded: event 0xE030
(R544), and 0xE055 of class 7 for the last spare (R609). -/
def execReferenceLoss (ref : Fin 2) (t : Nat) (s : State) : Host.Outcome State Fault Refusal :=
  let s1 := s.at t
  .next (if s1.refsLost.testBit ref then s1
    else if s1.refsLost ≠ 0 then s1.loseReferences
    else
      let s2 := { s1 with refsLost := 2 ^ ref.val }
      if s1.num E.REF_ACTIVE = ref.val then ((s2.setNum E.REF_ACTIVE (1 - ref.val)).raise 0xE030 0).raise 0xE055 0 [7, 0xFF] else s2)

/-- BOTH_REFERENCES_LOST. -/
def execBothReferencesLost (t : Nat) (s : State) : Host.Outcome State Fault Refusal := .next ((s.at t).loseReferences)

/-- REFERENCE_COMPARE: the two references disagree by `ppm` over 2^20 cycles. Whether the active one lies more than 1 % from nominal the ring oscillator tells, a
free value here (R543; log 53). -/
def execReferenceCompare (ppm : Int) (t : Nat) (s : State) : Host.Outcome State Fault Refusal :=
  let s1 := s.at t
  .next (if s1.refsLost ≠ 0 ∨ ppm.natAbs ≤ s1.num E.REF_TOL_PPM then s1
    else
      let s2 := (s1.setNum E.REF_DEGRADED 1).raise 0xE031 0
      let x := s2.draw
      if x.1.toNat.testBit 0 then x.2.setNum E.REF_ACTIVE (1 - x.2.num E.REF_ACTIVE) else x.2)

/-- REFERENCE_RESTORED: after the loss of both, the module restarts as from a module reset: event 0xE036 (R545). -/
def execReferenceRestored (ref : Fin 2) (t : Nat) (s : State) : Host.Outcome State Fault Refusal :=
  let s1 := s.at t
  .next (if s1.refsLost = 3 then
      ({ s1 with refsLost := 3 - 2 ^ ref.val }.moduleReset 5).setNum E.REF_ACTIVE ref |>.raise 0xE036 0
    else { s1 with refsLost := if s1.refsLost.testBit ref then s1.refsLost - 2 ^ ref.val else s1.refsLost })

/-! Sources (R550 to R557) -/

/-- The shortest time in which a source at a frequency is judged stable (R550). -/
def State.judgeNs (s : State) (f : Nat) : Nat :=
  if s.num E.CLK_JUDGE = 0 then 2 ^ s.num E.STABLE_N * 1000 / max 1 f else s.num E.STABLE_K * 2 ^ s.num E.STABLE_GATE * 10

/-- SOURCE_STABLE: the PLL being started is judged stable, and a change waits for the boundary once every rick's is (R553); with none being started, the rick's
DRAM controller clock is stable again (R557). -/
def execSourceStable (k : Fin 12) (t : Nat) (s : State) : Host.Outcome State Fault Refusal :=
  let s1 := s.at t
  .next (match (s1.rick k).starting with
    | some (p, t0, f) =>
      if s1.now < t0 + s1.judgeNs f then s1
      else
        let s2 := s1.onRick k (fun r => { r with starting := none, stable := r.stable.filter (fun x => x != p) ++ [p], freq := r.freq.put p f })
        match s2.partOf k with
        | some n => s2.clockJudged n
        | none => s2
    | none => s1.onRick k (fun r => { r with ctrlDead := none }))

/-- Cords that need more than the floor clock are unloaded while a rick has no usable PLL: event 0xE035 (R556). -/
def State.noPll (s : State) (k : Nat) : State :=
  if s.pllWorks k 2 || s.pllWorks k 3 then s else
  match s.partOf k with
  | none => s.raise 0xE035 0
  | some n =>
    let js := (s.loadedJobs n).filter (fun j => decide (500 < cdClock (s.job n j).img))
    (forAll js (fun j s => if s.loaded n j then (unloadJob s n j 0x13).unavailable n 5 s.now else s) s).raise 0xE035 0

/-- A PLL has failed. -/
def State.pllFails (s : State) (k p : Nat) : State :=
  (s.setNum (E.PLL_FAILED k) (s.num (E.PLL_FAILED k) ||| 2 ^ (p - 2))).onRick k (fun r => { r with stable := r.stable.filter (fun x => x != p) })

/-- SOURCE_TIMEOUT: a source not judged stable within STABLE_TIMEOUT_NS of its start has failed (R551); a controller clock that stays failed fails every channel of
its stack, and the rick is degraded (R557, R607). -/
def execSourceTimeout (k : Fin 12) (t : Nat) (s : State) : Host.Outcome State Fault Refusal :=
  let s1 := s.at t
  let lim := s1.num E.STABLE_TIMEOUT_NS
  .next (match (s1.rick k).starting, (s1.rick k).ctrlDead with
    | some (p, t0, _), _ =>
      if s1.now < t0 + lim then s1 else (((s1.pllFails k p).onRick k (fun r => { r with starting := none })).raise 0xE034 0).noPll k
    | none, some t0 => if s1.now < t0 + lim then s1 else (s1.raise 0xE034 0).degrade k
    | none, none => s1)

/-- The live PLL of a rick fails (R556): its islands go on with the idle PLL where that is stable at the live frequency, and otherwise with the floor clock, and its partition
with them (R548); the step in progress is discarded. -/
def State.liveFails (s : State) (k : Nat) : State :=
  let p := s.num (E.LIVE_SOURCE k)
  if p ≠ 2 ∧ p ≠ 3 then s else
  let idle := s.idlePll k
  let part := s.partOf k
  let f := match part with | some n => s.runClock n | none => 500
  let good := (s.rick k).stable.contains idle && (s.rick k).freq.getD idle 0 == f
  let s1 := ((s.pllFails k p).setNum (E.LIVE_SOURCE k) (if good then idle else 4)).raise 0xE033 0
  let s2 := match part with
    | none => s1
    | some n =>
      let running := decide ((s1.part n).phase = Phase.running)
      let s2 := if running then (s1.onPart n (fun p => { p with ueDiscard := true })).onRick k (fun r => { r with srcFails := r.srcFails + 1 }) else s1
      if good then s2
      else
        let s3 := (forAll (s2.ricksOf n) (fun k s => s.setNum (E.LIVE_SOURCE k) 4) s2).setNum (E.RUN_CLOCK_MHZ n) 500
        if f = 500 then s3 else s3.requestClock n f
  s2.noPll k

/-- SOURCE_FAILURE: the loss-of-clock detector of the live PLL finds no edge for 4 nominal periods (R554). -/
def execSourceFailure (k : Fin 12) (t : Nat) (s : State) : Host.Outcome State Fault Refusal := .next ((s.at t).liveFails k)

/-- MONITOR_WINDOW: `count` edges of the live PLL in 2^16 reference cycles; a deviation of more than 1,000 ppm is a failure. The window pauses while the counter serves
something else (R554, R558). -/
def execMonitorWindow (k : Fin 12) (count : Nat) (t : Nat) (s : State) : Host.Outcome State Fault Refusal :=
  let s1 := s.at t
  let f := match s1.partOf k with | some n => s1.runClock n | none => 500
  let x := f * 65536
  let d := if 100 * count < x then x - 100 * count else 100 * count - x
  let busy := (s1.rick k).measuring.isSome || (s1.num E.CLK_JUDGE == 1 && (s1.rick k).starting.isSome)
  .next (if busy ∨ d * 1000 ≤ x then s1 else s1.liveFails k)

/-- CONTROLLER_CLOCK_FAILURE: the step in progress is discarded, and none runs until the clock is stable again (R557). -/
def execControllerClockFailure (k : Fin 12) (t : Nat) (s : State) : Host.Outcome State Fault Refusal :=
  let s1 := (s.at t).onRick k (fun r => { r with ctrlDead := some (r.ctrlDead.getD (max s.now t)) })
  .next (match s1.partOf k with
    | some n => if (s1.part n).phase = .running then s1.onPart n (fun p => { p with ueDiscard := true }) else s1
    | none => s1)

/-! The frequency counter (R558) -/

/-- A source of Table 19-4 exists on a rick (Table 01-2). -/
def fmExists (k src : Nat) : Bool :=
  if src = 8 ∨ src = 9 then (List.range 16).any (fun p => fportRick p == k)
  else if src = 10 then (List.range 8).any (fun e => eportRick e == k)
  else if src = 15 then ((List.range 8).filter (fun e => eportRick e == k)).length == 2
  else true

/-- FM_DONE: the gate ends; the edges counted, none for a source the rick does not have. -/
def execFmDone (k : Fin 12) (count : Nat) (t : Nat) (s : State) : Host.Outcome State Fault Refusal :=
  let s1 := s.at t
  .next (match (s1.rick k).measuring with
    | some (src, fin) =>
      if s1.now < fin then s1
      else (s1.setNum (E.FM_RESULT k) (if fmExists k src then count % 2 ^ 64 else 0)).onRick k (fun r => { r with measuring := none })
    | none => s1)

end Sys2Proof.Machine
end

