-- ==== Sys2Proof/Machine/Reads.lean ====
section
/-!
DEFINITION. The values that dictionary entries show (R474, R477, R484): those kept as such, and those that are views of the
device's state.
-/
namespace Sys2Proof.Machine

/-! Views of tables -/

/-- An event record (Table 21-7): each DETAIL value at a multiple of 8 bytes (R614). -/
def Ev.bytes (e : Ev) : List Byte :=
  leBytes 2 e.code ++ leBytes 1 e.scope ++ leBytes 1 ((if e.persisted then 1 else 0) + (if e.tenant then 2 else 0)) ++ zeros 4 ++
  leBytes 8 e.seq ++ leBytes 8 e.time ++ bytesAt (e.detail.flatMap (leBytes 8)) 0 40

/-- A set record (Table 10-3). -/
def State.setRecord (s : State) (n w : Nat) : List Byte :=
  let x := s.wset n w
  let count (p : Nat → Bool) : Nat := (x.shards.filter (fun b => p (b % 16))).length
  leBytes 1 w ++ leBytes 1 x.st ++ leBytes 1 ((if x.backed then 1 else 0) + (if s.wsetBound n w then 2 else 0) + (if x.pinned then 4 else 0)) ++ zeros 1 ++
  leBytes 4 x.epoch ++ leBytes 4 (s.wsetRefs n w) ++ leBytes 4 (mfCount x.man) ++ leBytes 4 (count (fun v => v == 2)) ++
  leBytes 4 (count (fun v => v == 4 || v == 5)) ++ leBytes 8 (micro x.lastUse) ++ leBytes 8 (mfLayout x.man) ++ zeros 8 ++ bytesAt x.digest 0 48

/-- TURN_STATUS. -/
def State.turnStatus (s : State) (n : Nat) : List Byte :=
  let t := s.turn n
  leBytes 1 t.st ++ leBytes 1 t.fail ++ leBytes 1 (if t.hold then 1 else 0) ++ zeros 1 ++ leBytes 4 t.acked.length ++ leBytes 4 t.landed.length ++
  leBytes 2 t.finals.length ++ zeros 2 ++ leBytes 8 (tpId t.img) ++ leBytes 8 (tpTstep t.img) ++ leBytes 8 (micro t.armAt) ++ leBytes 8 (micro t.readyAt) ++
  leBytes 8 (micro t.decidedAt) ++ zeros 8

/-- The weight-set slot that WSET_SLOT names; none while a bit of [6:3] is set (R287). -/
def State.namedSet (s : State) (n : Nat) : Option Nat :=
  let v := s.num (E.WSET_SLOT n)
  if bits v 6 3 = 0 then some (v % 8) else none

/-- The state a partition's endpoint gives in a STATUS_REPLY (R466, R571, R574); COLD while R452 applies. DEDUCED (log 173): the order where two
of them hold. -/
def State.partStatus (s : State) (n : Nat) : Nat :=
  if (s.part n).ash.isSome then 3
  else if s.kindled && s.kindPart == n then 2
  else if s.exists n && !s.partReady n then 1
  else if s.num (E.PART_TENANT n) = 0xFF then 4
  else if s.cold then 5
  else 0

/-- The state a collier endpoint gives. -/
def State.collierStatus (s : State) : Nat :=
  if s.num E.BOOT_STATE ≠ 3 then 1 else if s.cold then 5 else 0

/-- ASH_STATUS. -/
def State.ashStatus (s : State) : List Byte :=
  (List.range 12).flatMap (fun n => match (s.part n).ash with
    | some a => leBytes 1 a.attempt ++ leBytes 1 a.event ++ zeros 2
    | none => zeros 4)

/-- The rick mask that the transit plan takes for a partition (R68, R574). -/
def State.maskOf (s : State) (n : Nat) : Nat :=
  if s.kindMask ≠ 0 ∧ s.kindPart = n then s.kindMask else s.num (E.RICK_MASK n)

/-- TRANSIT_FP: a function of the masks and the port shares; 0 while no partition exists (R68; log 56). -/
def State.transitFp (s : State) : Nat :=
  let masks := (List.range 12).map s.maskOf
  if masks.all (fun m => m == 0) then 0
  else Config.transitFp masks ((List.range 16).map (fun p => s.blob (E.TX_OWNERS p) ++ s.blob (E.RX_OWNERS p)) ++ (List.range 8).map (fun e => s.blob (E.ETH_OWNERS e))) % 2 ^ 64

/-- The module base draw (Table 18-1). -/
def State.baseW (s : State) : Nat :=
  min 428 (60 + 18 * ((List.range 8).filter (fun e => s.num (E.ETH_STATE e) == 1 || s.num (E.ETH_STATE e) == 2)).length +
    14 * ((List.range 16).filter (fun p => s.num (E.PORT_STATE p) == 2)).length)

/-- SESSION_LIST. -/
def State.sessionList (s : State) : List Byte :=
  s.sessions.flatMap (fun x => leBytes 8 x.1 ++ leBytes 1 x.2.role ++ leBytes 1 x.2.net ++ zeros 6 ++ leBytes 16 x.2.tenant)

/-- Counters and operations of TRIG_ALLOC (R448). -/
def State.trigAlloc (s : State) (n : Nat) : Nat × Nat := (fld (s.blob (E.TRIG_ALLOC n)) 0 2, fld (s.blob (E.TRIG_ALLOC n)) 2 2)
/-- TRIG_UNALLOCATED. -/
def State.trigFree (s : State) : List Byte :=
  leBytes 2 (4096 - sumOf (List.range 12) (fun n => (s.trigAlloc n).1)) ++ leBytes 2 (16384 - sumOf (List.range 12) (fun n => (s.trigAlloc n).2))

/-- The state shown for a partition's halt. -/
def State.haltState (s : State) (n : Nat) : Nat :=
  match (s.part n).halt with
  | none => 0
  | some h => if h.since.isSome then 2 else if h.cause = 0x0D then 0 else 1

/-- SETKEY_LIST: KEY_ID, MEMBERS and FW_MEAS of each set key (R501). -/
def State.setKeyList (s : State) (t : Nat) : List Byte := (s.setkeys.getD t []).flatMap (fun k => bytesAt k 0 64)

/-- The job slot that runs: none while the partition is idle or switches. -/
def State.activeSlot (s : State) (n : Nat) : Nat :=
  match (s.part n).phase with
  | .idle | .switchOut .. | .switchMaps .. | .switchCopy .. | .switchPrologue .. => 0xFF
  | _ => s.num (E.ACTIVE_SLOT n)

/-- A mean power rounded to the nearest 50 W for a tenant (Table 17-8). -/
def near50 (v : Nat) : Nat := (v + 25) / 50 * 50

/-! Values by entry -/

/-- Views that stand under a partition's index. -/
def State.partView (s : State) (ten : Bool) (n base sub : Nat) : Option DVal :=
  match base, sub with
  | 0x1120, 2 => some (.blob (bytesAt (s.conn n (s.num (E.CONN_INDEX n))).bytes 0 64))
  | 0x1120, 3 => some (.num (s.conn n (s.num (E.CONN_INDEX n))).st)
  | 0x2010, 2 => some (.num (if ten then near50 (s.num (E.PART_POWER_W n)) else s.num (E.PART_POWER_W n)))
  | 0x2010, 3 => some (.num (if (s.part n).floorNow then 500 else s.runClock n))
  | 0x2010, 4 => some (.num (if s.runClock n < s.num (E.PART_CLOCK_MHZ n) then 1 else 0))
  | 0x2110, 5 => some (.num (s.pstate n))
  | 0x2110, 6 => some (.blob ([1, 2, 3].flatMap (fun st => leBytes 8 (s.wakeBound n st))))
  | 0x3030, 4 => some (.blob ((List.range 256).flatMap (fun r => bytesAt (s.region n r) 0 32)))
  | 0x3030, 7 => some (.num (sumOf (s.part n).flush (fun f => f.pages.length)))
  | 0x3100, 6 => (s.namedSet n).map (fun w => .blob (bytesAt (s.wset n w).sources 0 128))
  | 0x3100, 7 => some (.blob ((List.range 8).flatMap (fun w => s.setRecord n w)))
  | 0x3100, 8 => (s.namedSet n).map (fun w => .blob ((s.wset n w).shards.flatMap (leBytes 1)))
  | 0x3200, 3 => some (.blob ((List.range 12).flatMap (fun k => leBytes 4 (if (s.ricksOf n).contains k then s.freePages n k else 0))))
  | 0x3200, 6 => some (.num (Tab.range s.handles (n * 4096) ((n + 1) * 4096)).length)
  | 0x4030, 2 => some (.num (s.partStatus n))
  | 0x4110, 7 => some (.num (s.activeSlot n))
  | 0x4210, 2 => some (.num (s.urgents n).length)
  | 0x5000, 2 => let i := s.num (E.REQ_INDEX n); some (.blob (if s.owns n i then s.reqs.getD i (zeros 128) else zeros 128))
  | 0x5000, 5 => some (.blob ((List.range 9).flatMap (fun st => leBytes 4 (if st = 0 then s.entryCount n - (s.entriesOf n).length else ((s.entriesOf n).filter (fun i => s.rqState i == st)).length))))
  | 0x5200, 2 => let g := s.ring n (s.num (E.RING_INDEX n)); some (.blob (bytesAt (g.next.getD g.desc) 0 64))
  | 0x6100, 2 => some (.blob (bytesAt (s.group n (s.num (E.GROUP_INDEX n))).bytes 0 160))
  | 0x6100, 3 => some (.blob (s.group n (s.num (E.GROUP_INDEX n))).slots)
  | 0x6110, 5 => some (.blob (s.window n (s.num (E.WINDOW_INDEX n))))
  | 0x6820, 5 => some (.blob (s.turnStatus n))
  | 0x7010, 1 => some (.blob ((s.partEvents.getD n []).flatMap Ev.bytes))
  | 0x9010, 8 => some (.blob (s.traceState n))
  | 0x9010, 9 => some (.blob (s.traceData n))
  | 0x9070, 2 => let l := s.num (E.BP_HEARTH n); some (.blob (bytesAt ((Tab.look (s.part n).bpNext l).getD ((s.part n).bp.getD l [])) 0 80))
  | 0x9070, 5 => some (.num (s.haltState n))
  | 0x9080, 2 => let l := s.num (E.PERF_HEARTH n); some (.blob (if (s.hearthsOf n).contains l then (s.hearth (s.phys l)).perfBytes else zeros 160))
  | 0x9080, 4 => some (.blob (s.partPerf n))
  | _, _ => none

/-- Views that stand under a rick's, a slot's or a port's index. -/
def State.unitView (s : State) (k base sub : Nat) : Option DVal :=
  match base, sub with
  | 0x1200, 6 => some (.num (macOf k 0))
  | 0x2210, 1 => some (.num (match s.partOf k with | some n => if (s.part n).floorNow then 4 else s.num (E.LIVE_SOURCE k) | none => s.num (E.LIVE_SOURCE k)))
  | 0x3010, 5 => some (.blob (s.usedBytes k))
  | 0x7050, 1 => some (.blob (s.wearBytes k))
  | 0x7050, 2 => some (.blob ((List.range 8).flatMap (fun j => leBytes 1 (s.spare.chans.getD (8 * k + j) 0xFF))))
  | 0x7050, 3 => some (.blob ((List.range 136).flatMap (fun c => leBytes 4 (s.recent ((s.rick k).chanCe.getD c [])).length)))
  | 0x7050, 4 => some (.num (s.spare.rows.filter (fun r => fld r 0 1 == k)).length)
  | 0x7050, 5 => some (.num ((s.rick k).schan.foldl (fun a m => a ||| 2 ^ (m % 4)) 0))
  | 0x7050, 6 => some (.num (if (s.rick k).degradedAt.isSome then 1 else 0))
  | 0x8020, 6 => some (.blob (s.setKeyList k))
  | _, _ => none

/-- Views of the module. -/
def State.moduleView (s : State) (ten : Bool) (key : Nat) : Option DVal :=
  if key = E.SESSIONS_LIVE then some (.num s.sessions.length)
  else if key = E.SESSION_LIST then some (.blob s.sessionList)
  else if key = E.BASE_W then some (.num s.baseW)
  else if key = E.RICK_STATES then some (.blob ((List.range 12).flatMap (fun k => leBytes 1 (s.rick k).pst)))
  else if key = E.DEVICE_TIME then some (.num (if ten then micro s.now else s.now))
  else if key = E.TRANSIT_FP then some (.num s.transitFp)
  else if key = E.TRIG_UNALLOCATED then some (.blob s.trigFree)
  else if key = E.POWERON_ID then some (.num (Config.powerOnId s.powerOns % 2 ^ 64))
  else if key = E.DEVICE_ID then some (.blob (bytesAt Config.deviceId 0 48))
  else if key = E.CERT_CHAIN then some (.blob Config.certChain)
  else if key = E.SERIAL then some (.blob Config.serial)
  else if key = E.BOARD_LEVEL then some (.num (Config.boardLevel % 2 ^ 16))
  else if key = E.MFG_TIME then some (.num (Config.mfgTime % 2 ^ 64))
  else if key = E.MAC_BASE then some (.num (Config.macBase % 2 ^ 48))
  else if key = E.CODE_MATRIX then some (.blob (bytesAt Config.codeMatrix 0 288))
  else if key = E.TRAY_SLOT then some (.num (Config.traySlot % 16))
  else if key = E.ASH_STATUS then some (.blob s.ashStatus)
  else if key = E.EVENT_LOG then some (.blob (s.events.flatMap Ev.bytes))
  else if key = E.EVENT_PERSIST then some (.blob (s.persisted.flatMap Ev.bytes))
  else if key = E.SPARE_SVN then some (.num s.spare.svn)
  else none

/-- The highest subindex in use of an index (R480). -/
def topSub (idx : Nat) : Option Nat :=
  let l := entries.filter (fun e => decide (e.base ≤ idx) && decide (idx < e.base + e.count))
  if l.isEmpty then none else some (l.foldl (fun a e => max a e.sub) 0)

/-- The value an entry shows to a role: none while WSET_SLOT names no slot. Sensor readings are free (R506; log 52). -/
def State.view (s : State) (ten : Bool) (key : Nat) : Option DVal × State :=
  if key = E.INPUT_MV ∨ key = E.INPUT_W then let x := s.draw; (some (.num (x.1.toNat % 2 ^ 32)), x.2)
  else if key = E.SENSORS then
    let x := (List.range 15).foldl (fun (a : List Byte × State) _ => let y := a.2.draw; (a.1 ++ leBytes 2 y.1.toNat, y.2)) ([], s)
    (some (.blob (x.1 ++ zeros 2)), x.2)
  else
    match s.moduleView ten key with
    | some v => (some v, s)
    | none =>
      match entryOf (key / 256) (key % 256) with
      | none => (some (.num ((topSub (key / 256)).getD 0)), s)
      | some e =>
        if e.count = 1 then (some (s.dval key), s)
        else
          let i := key / 256 - e.base
          match s.unitView i e.base e.sub with
          | some v => (some v, s)
          | none => (match s.partView ten i e.base e.sub with
            | some v => some v
            | none => if (e.base = 0x3100 ∧ (e.sub = 6 ∨ e.sub = 8)) then none else some (s.dval key), s)

/-- Bytes of a type's value (Table 16-8); none for a type without a fixed size. -/
def Ty.size : Ty → Option Nat
  | .u8 | .bool => some 1
  | .u16 => some 2
  | .u32 => some 4
  | .u64 | .time64 => some 8
  | .digest384 => some 48
  | .str | .blob | .cmd => none

/-- TYPE codes (Table 16-8). -/
def Ty.code : Ty → Nat
  | .u8 => 1 | .u16 => 2 | .u32 => 3 | .u64 => 4 | .bool => 7 | .str => 8 | .blob => 9 | .digest384 => 10 | .time64 => 11 | .cmd => 0

/-- A value's bytes. -/
def DVal.bytes (v : DVal) (ty : Ty) : List Byte :=
  match v with
  | .num x => leBytes (ty.size.getD 1) x
  | .blob b => b

end Sys2Proof.Machine
end

