-- ==== Sys2Proof/Machine/Dolli.lean ====
section
/-!
DEFINITION. Dolli (R465 to R483): messages, sessions, the checks every request passes, reading, block staging, subscriptions.
-/
namespace Sys2Proof.Machine

/-! Error codes (Table 16-7) -/

def noEntry : Nat := 0x01
def accessErr : Nat := 0x02
def networkErr : Nat := 0x03
def modeErr : Nat := 0x04
def typeErr : Nat := 0x05
def invalid : Nat := 0x06
def busy : Nat := 0x07
def quotaErr : Nat := 0x08
def incomplete : Nat := 0x09
def tooLarge : Nat := 0x0A
def stateErr : Nat := 0x0B
def consentErr : Nat := 0x0C
def flashErr : Nat := 0x0D
def overload : Nat := 0x0E
def authErr : Nat := 0x10
def sessionErr : Nat := 0x11

/-! Messages of the device -/

/-- What a request answers with: STATUS, OFFSET, TOTAL and data (Table 16-5). -/
structure Ans where
  status : Nat := 0
  off : Nat := 0
  total : Nat := 0
  data : List Byte := []
  deriving DecidableEq, Repr

/-- Changes a session, where it exists. -/
def State.onSession (s : State) (n : Nat) (f : Session → Session) : State :=
  match Tab.look s.sessions n with
  | some x => { s with sessions := s.sessions.put n (f x) }
  | none => s

/-- The device sends a Dolli message. -/
def State.say (s : State) (m : Reply) : State := { s with replies := s.replies ++ [m] }

/-- REJECT: one byte with the error code, and 7 zero bytes (R471). -/
def State.reject (s : State) (ses code : Nat) : State := s.say { ses := ses, kind := 0x04, status := code, data := leBytes 1 code ++ zeros 7 }

/-- A session is closed from the device's end (R470). -/
def State.closeSession (s : State) (n : Nat) : State :=
  if (Tab.look s.sessions n).isSome then { s.say { ses := n, kind := 0x1F } with sessions := s.sessions.del n, waits := s.waits.filter (fun w => w.ses != n) } else s

/-- The response to a request, kept for its REQ_ID among the session's last 64 (R473); a session that the request closed gets none. -/
def State.respond (s : State) (r : Rq) (op key ty : Nat) (a : Ans) : State :=
  let m : Reply := { ses := r.ses, kind := 0x11, op := op, status := a.status, ty := ty, key := key, id := r.id, off := a.off, total := a.total, data := a.data }
  if (Tab.look s.sessions r.ses).isNone then s else (s.say m).onSession r.ses (fun x => { x with kept := pushCap 64 x.kept (r.id, m) })

/-- A message of a live session arrives: one whose tag fails, or whose SEQ is old or already accepted, is dropped and counted; one that names no live session
receives REJECT with SESSION (R471). An accepted one is valid: the session is no longer idle (R470). -/
def State.accept (s : State) (ses seq : Nat) (ok : Bool) : State × Option Session :=
  match Tab.look s.sessions ses with
  | none => (s.reject ses sessionErr, none)
  | some x =>
    if x.live = false then (s.reject ses sessionErr, none)
    else if ok = false ∨ seq + 1024 ≤ x.top ∨ seq ∈ x.seen then (s.bump E.DOLLI_DROPS, none)
    else
      let top := max x.top seq
      let y := { x with top := top, seen := (seq :: x.seen).filter (fun q => decide (top < q + 1024)), last := s.now }
      ({ s with sessions := s.sessions.put ses y }, some y)

/-! Rights (R478, R479, R482, R622) -/

/-- A tenant session's tenant is that of a partition. -/
def State.isTenant (s : State) (x : Session) (n : Nat) : Bool :=
  let t := s.num (E.PART_TENANT n)
  t != 0xFF && x.tenant != 0 && leNat (s.blob (E.TENANT_ID t)) == x.tenant

/-- A tenant session's tenant is bound to a slot. -/
def State.ofSlot (s : State) (x : Session) (t : Nat) : Bool := x.tenant != 0 && leNat (s.blob (E.TENANT_ID t)) == x.tenant

/-- A tenant session's tenant is that of the kindling partition. -/
def State.ofKindling (s : State) (x : Session) : Bool :=
  let n := s.num E.KINDLING_PART
  decide (n < 12) && s.isTenant x n

/-- May a session of this role touch an entry with index offset `i`: 0, or the error. -/
def State.who (s : State) (x : Session) (w : Who) (i : Nat) : Nat :=
  let yes (b : Bool) : Nat := if b then 0 else accessErr
  match w with
  | .all => 0
  | .op => yes (x.role == 1)
  | .part => yes (x.role == 1 || s.isTenant x i)
  | .slot => yes (x.role == 1 || s.ofSlot x i)
  | .kind => yes (x.role == 1 || s.ofKindling x)
  | .part1 => yes (x.role == 2 && s.isTenant x i)
  | .slot1 => yes (x.role == 2 && s.ofSlot x i)
  | .kind1 => yes (x.role == 2 && s.ofKindling x)
  | .cons => if x.role = 1 then (if (s.num (E.CONSENT_EFFECTIVE i)).testBit 4 then 0 else consentErr) else yes (x.role == 2 && s.isTenant x i)
  | .opPart => yes (x.role == 1 || x.role == 2)
  | .opKind => yes (x.role == 1 || (x.role == 2 && s.ofKindling x))
  | .nobody => accessErr

/-- Every bit of a consent mask is effective for a session: an operator session needs OPERATOR too (R504). -/
def State.consents (s : State) (x : Session) (n mask : Nat) : Bool :=
  let e := s.num (E.CONSENT_EFFECTIVE n)
  let m := if x.role = 1 then mask ||| 16 else mask
  e &&& m == m

/-- The operations of Table 16-5. -/
def opRead : Nat := 1
def opWrite : Nat := 2
def opReadBlock : Nat := 3
def opWriteBlock : Nat := 4
def opSubscribe : Nat := 5
def opNotify : Nat := 6
def opStore : Nat := 7
def opCmd : Nat := 8

/-- The operations an access mode permits (Table 16-9). -/
def Acc.permits (a : Acc) (op : Nat) : Bool :=
  match a with
  | .ro => [opRead, opReadBlock, opSubscribe].contains op
  | .rw => op != opCmd
  | .wo => [opWrite, opWriteBlock].contains op
  | .rw1c => [opRead, opReadBlock, opSubscribe, opWrite].contains op
  | .cmd => op == opCmd

/-- In the tinder hold, sessions may use only these entries (R563). -/
def holdServes (key op : Nat) : Bool :=
  if [opWrite, opWriteBlock, opCmd].contains op then [E.OBJ_IMAGE, E.OBJ_INSTALL, E.RESET_MODULE].contains key
  else [E.OBJ_RESULT, E.OBJ_SVN, E.BANK_STATUS, E.BOOT_STATE, E.RESET_CAUSE, E.EVENT_PERSIST, E.IDENT_REV].contains key

/-- The checks that do not depend on the value, in the order of the error codes (log 57): existence, rights, network, access mode, and in the tinder hold the
entries served. The operator may add the first credential of a slot (R497), which the write itself checks. -/
def State.permit (s : State) (x : Session) (op key : Nat) : Nat :=
  let idx := key / 256
  let readish := [opRead, opReadBlock, opSubscribe].contains op
  let net := if !readish && x.net == 0 then networkErr else 0
  let first (l : List Nat) : Nat := (l.find? (fun c => c != 0)).getD 0
  match topSub idx with
  | none => noEntry
  | some _ =>
    if key % 256 = 0 then
      let some1 := (entries.filter (fun e => decide (e.base ≤ idx) && decide (idx < e.base + e.count))).any (fun e => s.who x e.rd (idx - e.base) == 0)
      first [if some1 then 0 else accessErr, net, if readish then 0 else modeErr]
    else
      match entryOf idx (key % 256) with
      | none => noEntry
      | some e =>
        let i := idx - e.base
        let w := if e.wr = .nobody then s.who x e.rd i else s.who x e.wr i
        let rights :=
          if readish then s.who x (if e.acc = .wo ∨ e.acc = .cmd then (if e.rd = .nobody then e.wr else e.rd) else e.rd) i
          else if x.role = 3 then accessErr
          else if op = opStore then (if x.role = 1 then 0 else accessErr)
          else if e.base = 0x8020 ∧ e.sub = 1 ∧ x.role = 1 then 0
          else w
        first [if rights = consentErr then 0 else rights, net, if e.acc.permits op then 0 else modeErr,
               if s.num E.BOOT_STATE = 4 && !holdServes key op then stateErr else 0, if rights = consentErr then consentErr else 0]

/-! Requests (R472, R473) -/

/-- Requests of a session that have no response yet (R473). -/
def State.unanswered (s : State) (ses : Nat) : Nat := (s.waits.filter (fun w => w.ses == ses)).length

/-- TYPE of an entry in a response. -/
def tyOf (key : Nat) : Nat :=
  if key % 256 = 0 then 1 else match entryOf (key / 256) (key % 256) with
  | some e => e.ty.code
  | none => 0

/-- A request: dropped, rejected, answered again from its kept response, turned away beyond 64 unanswered ones, refused by the checks, or executed once
(R471, R473, R478 to R482). `run` answers nothing when the command waits for an eviction copy (R303). -/
def State.request (s : State) (r : Rq) (op key : Nat) (run : Session → State → State × Option Ans) : State :=
  match (s.at r.t).accept r.ses r.seq r.ok with
  | (s1, none) => s1
  | (s1, some x) =>
    match x.kept.find? (fun k => k.1 == r.id) with
    | some k => s1.say k.2
    | none =>
      if s1.waits.any (fun w => w.ses == r.ses && w.id == r.id) then s1
      else if 64 ≤ s1.unanswered r.ses then s1.respond r op key (tyOf key) { status := overload }
      else
        let c := if op = opStore ∧ key = 0xFFFFFF then (if x.role ≠ 1 then accessErr else if x.net = 0 then networkErr else if s1.num E.BOOT_STATE = 4 then stateErr else 0)
                 else s1.permit x op key
        if c ≠ 0 then s1.respond r op key (tyOf key) { status := c }
        else
          match run x s1 with
          | (s2, some a) => s2.respond r op key (tyOf key) a
          | (s2, none) => s2

/-! Reading (R474, R477) -/

/-- Consent and state that a read needs beyond rights (Table 22-1, R637): 0 or the error. -/
def State.readNeeds (s : State) (x : Session) (key : Nat) : Nat :=
  let idx := key / 256
  if 0x9010 ≤ idx ∧ idx < 0x901C ∧ key % 256 = 9 then
    let n := idx % 16
    if s.num (E.TRACE_ENABLE n) = 1 ∧ (s.part n).traceEnded = false then stateErr
    else if s.consents x n 8 then 0 else consentErr
  else if 0x9070 ≤ idx ∧ idx < 0x907C ∧ key % 256 = 0x0A then (if s.consents x (idx % 16) 8 then 0 else consentErr)
  else if 0x9080 ≤ idx ∧ idx < 0x908C ∧ key % 256 = 2 then (if s.consents x (idx % 16) 4 then 0 else consentErr)
  else 0

/-- The bytes of an entry's value for a session, or the error of reading it. -/
def State.readBytes (s : State) (x : Session) (key : Nat) : (Nat ⊕ List Byte) × State :=
  let c := s.readNeeds x key
  if c ≠ 0 then (.inl c, s) else
  match s.view (x.role != 1) key with
  | (none, s1) => (.inl invalid, s1)
  | (some v, s1) => (.inr (v.bytes (if key % 256 = 0 then .u8 else ((entryOf (key / 256) (key % 256)).map Entry.ty).getD .u8)), s1)

/-- DOLLI_READ. -/
def execDolliRead (r : Rq) (idx sub : Nat) (s : State) : Host.Outcome State Fault Refusal :=
  .next (s.request r opRead (idx * 256 + sub) (fun x s => match s.readBytes x (idx * 256 + sub) with
    | (.inl c, s1) => (s1, some { status := c })
    | (.inr b, s1) => (s1, some (if 8192 < b.length then { status := tooLarge, total := b.length } else { total := b.length, data := b }))))

/-- READ_BLOCK: with SNAPSHOT at OFFSET 0 the value is frozen for this session, and later blocks read that copy. -/
def execReadBlock (r : Rq) (idx sub off len : Nat) (snap : Bool) (s : State) : Host.Outcome State Fault Refusal :=
  let key := idx * 256 + sub
  .next (s.request r opReadBlock key (fun x s =>
    if 8192 < len then (s, some { status := tooLarge }) else
    let give (s : State) (b : List Byte) : State × Option Ans := (s, some { off := off, total := b.length, data := (b.drop off).take len })
    let fresh := snap && off == 0
    match s.readNeeds x key, x.snaps.look key with
    | 0, some (_, b) => if fresh then
        match s.readBytes x key with
        | (.inl c, s1) => (s1, some { status := c })
        | (.inr b1, s1) => give (s1.onSession r.ses (fun y => { y with snaps := y.snaps.put key (s.now, b1) })) b1
      else give s b
    | _, _ =>
      match s.readBytes x key with
      | (.inl c, s1) => (s1, some { status := c })
      | (.inr b1, s1) => give (if fresh then s1.onSession r.ses (fun y => { y with snaps := y.snaps.put key (s.now, b1) }) else s1) b1))

/-! Block staging (R474, R475): pieces that do not overlap, ascending. -/

/-- The pieces with a new one laid over them. -/
def layPiece (l : List (Nat × List Byte)) (off : Nat) (v : List Byte) : List (Nat × List Byte) :=
  let fin := off + v.length
  let rest := l.flatMap (fun p =>
    let e := p.1 + p.2.length
    (if p.1 < off then [(p.1, p.2.take (off - p.1))] else []) ++ (if fin < e then [(max p.1 fin, p.2.drop (max p.1 fin - p.1))] else []))
  insertBy (fun a b => decide (a.1 ≤ b.1)) (off, v) (rest.filter (fun p => p.2.length != 0))

/-- The bytes up to a total, when none is missing. -/
def wholeUpTo (total : Nat) : Nat → List (Nat × List Byte) → Option (List Byte)
  | at1, [] => if total ≤ at1 then some [] else none
  | at1, (o, v) :: r =>
    if total ≤ at1 then some []
    else if o ≠ at1 then none
    else (wholeUpTo total (at1 + v.length) r).map (fun t => (v ++ t))

/-- Bytes a session has staged. -/
def Session.staged (x : Session) : Nat := sumOf x.stage (fun e => sumOf e.2.1 (fun p => p.2.length))

/-! Subscriptions (R476) -/

/-- SUBSCRIBE: at most 256 for a session (log 57); with CANCEL the entry is removed. -/
def execSubscribe (r : Rq) (idx sub : Nat) (cancel : Bool) (s : State) : Host.Outcome State Fault Refusal :=
  let key := idx * 256 + sub
  .next (s.request r opSubscribe key (fun x s =>
    let others := x.subs.filter (fun b => b.key != key)
    if cancel then (s.onSession r.ses (fun y => { y with subs := y.subs.filter (fun b => b.key != key) }), some {})
    else
      let c := s.readNeeds x key
      if c = consentErr then (s, some { status := c })
      else if 256 ≤ others.length then (s, some { status := overload })
      else
        let v := s.view (x.role != 1) key
        (v.2.onSession r.ses (fun y => { y with subs := (y.subs.filter (fun b => b.key != key)) ++ [{ key := key, id := r.id, last := v.1 }] }), some {})))

/-- The NOTIFY of a subscription: the value, or no data when it is longer than 8,192 bytes; OFFSET counts the changes. -/
def State.notifyMsg (s : State) (ses : Nat) (x : Session) (b : Sub16) (changes : Nat) : Reply × State :=
  match s.readBytes x b.key with
  | (.inl _, s1) => ({ ses := ses, kind := 0x12, op := opNotify, ty := tyOf b.key, key := b.key, id := b.id, off := changes }, s1)
  | (.inr d, s1) => ({ ses := ses, kind := 0x12, op := opNotify, ty := tyOf b.key, key := b.key, id := b.id, off := changes, data := if 8192 < d.length then [] else d }, s1)

/-- NOTIFY_SEND: NOTIFY_MIN_NS after the previous one. A view of the device's state that differs from the one last seen counts one change. -/
def execNotifySend (ses idx sub t : Nat) (s : State) : Host.Outcome State Fault Refusal :=
  let s1 := s.at t
  let key := idx * 256 + sub
  .next (match Tab.look s1.sessions ses with
    | none => s1
    | some x =>
      match x.subs.find? (fun b => b.key == key) with
      | none => s1
      | some b =>
        let v := s1.view (x.role != 1) key
        let moved := v.1 != b.last
        if x.live && (b.dirty || moved) && (match b.sentAt with | some u => decide (u + s1.num E.NOTIFY_MIN_NS ≤ s1.now) | none => true) then
          let changes := if moved && !b.dirty then b.changes + 1 else b.changes
          let m := v.2.notifyMsg ses x b (changes % 2 ^ 32)
          (m.2.say m.1).onSession ses (fun y => { y with subs := y.subs.map (fun c =>
            if c.key = key then { c with changes := changes, last := v.1, sentAt := some s1.now, acked := false, resends := 0, dirty := false } else c) })
        else s1)

/-- NOTIFY_RESEND: every 100 ms; after 10 resends the subscription is removed. -/
def execNotifyResend (ses idx sub t : Nat) (s : State) : Host.Outcome State Fault Refusal :=
  let s1 := s.at t
  let key := idx * 256 + sub
  .next (match Tab.look s1.sessions ses with
    | none => s1
    | some x =>
      match x.subs.find? (fun b => b.key == key) with
      | none => s1
      | some b =>
        match b.sentAt with
        | none => s1
        | some u =>
          if b.acked || decide (s1.now < u + 100000000) then s1
          else if 10 ≤ b.resends then s1.onSession ses (fun y => { y with subs := y.subs.filter (fun c => c.key != key) })
          else
            let again := match s1.replies.reverse.find? (fun m => m.ses == ses && m.kind == 0x12 && m.key == key) with
              | some m => s1.say m
              | none => s1
            again.onSession ses (fun y => { y with subs := y.subs.map (fun c => if c.key = key then { c with sentAt := some s1.now, resends := c.resends + 1 } else c) }))

/-- NOTIFY_ACK: the same REQ_ID. -/
def execNotifyAck (r : Rq) (s : State) : Host.Outcome State Fault Refusal :=
  .next (match (s.at r.t).accept r.ses r.seq r.ok with
    | (s1, none) => s1
    | (s1, some _) => s1.onSession r.ses (fun y => { y with subs := y.subs.map (fun c => if c.id = r.id then { c with acked := true } else c) }))

/-! Sessions (R467 to R471) -/

/-- The bytes of a credential record: CRED_ID, ROLE (Table 17-4). -/
def crId (c : List Byte) : Nat := fld c 0 8
/-- ROLE of a credential record. -/
def crRole (c : List Byte) : Nat := fld c 8 1
/-- The records of a credential list. -/
def credsIn (b : List Byte) : List (List Byte) := pieces b 2000 (b.length / 2000)
/-- Operator credentials. -/
def State.opCreds (s : State) : List (List Byte) := credsIn (s.blob E.OP_CRED_LIST)
/-- The credentials of a tenant slot. -/
def State.slotCreds (s : State) (t : Nat) : List (List Byte) := credsIn (s.blob (E.CRED_LIST t))
/-- The tenant slot that holds a tenant id. -/
def State.slotOf (s : State) (tenant : Nat) : Option Nat :=
  if tenant = 0 then none else lowestFrom (fun t => leNat (s.blob (E.TENANT_ID t)) == tenant) 0 12
/-- The owner credential is set (R494). -/
def State.owned (s : State) : Bool := s.opCreds.any (fun c => crId c == 0)

/-- A refused session: REJECT with AUTH, event 0xE105, AUTH_FAILS (R469). -/
def State.refuseSession (s : State) (ses : Nat) : State := ((s.reject ses authErr).raise 0xE105 0).bump E.AUTH_FAILS

/-- SESSION of a new session: a free value, but not 0 and of no open session (log 19). -/
def State.newSession (s : State) : Nat × State :=
  let v := s.draw.1.toNat
  let used (i : Nat) : Bool := i == 0 || (Tab.look s.sessions i).isSome
  (if used v then (lowestFrom (fun i => !used i) 1 257).getD 0 else v, s.draw.2)

/-- HELLO: answered by ACCEPT, beyond the limits by REJECT with OVERLOAD, refused for an operator on network A and, in the tinder hold, for any but the owner.
Nothing answers on a port that is not UP. -/
def execHello (m : HelloMsg) (t : Nat) (s : State) : Host.Outcome State Fault Refusal :=
  let s1 := s.at t
  let net := if m.eport.val < 4 then 0 else 1
  let tenant := if m.role = 1 then 0 else m.tenant
  .next (if s1.num (E.ETH_STATE m.eport.val) ≠ 2 ∨ !([2, 3, 4] : List Nat).contains (s1.num E.BOOT_STATE) then s1
    else if 256 ≤ s1.sessions.length ∨ (tenant ≠ 0 ∧ 32 ≤ (s1.sessions.filter (fun x => x.2.tenant == tenant)).length) then s1.reject 0 overload
    else if (m.role = 1 ∧ net = 0) ∨ m.role = 0 ∨ 3 < m.role ∨ (s1.num E.BOOT_STATE = 4 ∧ (m.role ≠ 1 ∨ m.cred ≠ 0)) then s1.refuseSession 0
    else
      let (id, s2) := s1.newSession
      let x : Session := { role := m.role, net := net, tenant := tenant, cred := m.cred, since := s1.now, last := s1.now }
      ({ s2 with sessions := s2.sessions.put id x }).say
        { ses := id, kind := 0x02, data := Config.acceptBody id (m.x25519 ++ m.mlkem ++ m.nonce ++ leBytes 1 m.role ++ zeros 7 ++ leBytes 16 m.tenant ++ leBytes 8 m.cred) })

/-- The credential of a handshake is registered for its role and tenant (R469, R496). -/
def State.credOk (s : State) (x : Session) : Bool :=
  if x.role = 1 then s.opCreds.any (fun c => crId c == x.cred)
  else match s.slotOf x.tenant with
    | some t => (s.slotCreds t).any (fun c => crId c == x.cred && crRole c == x.role)
    | none => false

/-- FINISH: within 1 s of ACCEPT, SEQ 1. While no owner credential is set, CRED_ID 0 with any valid pair of signatures takes ownership: event 0xE001 (R494). -/
def execFinish (ses seq : Nat) (sigsOk : Bool) (t : Nat) (s : State) : Host.Outcome State Fault Refusal :=
  let s1 := s.at t
  .next (match Tab.look s1.sessions ses with
    | none => s1.reject ses sessionErr
    | some x =>
      if x.live then s1.bump E.DOLLI_DROPS
      else if seq ≠ 1 then s1.bump E.DOLLI_DROPS
      else
        let live := { x with live := true, top := 1, seen := [1], last := s1.now }
        let done (s : State) : State := ({ s with sessions := s.sessions.put ses live }).say { ses := ses, kind := 0x11 }
        let dead : State := { s1 with sessions := s1.sessions.del ses }
        if decide (s1.now ≤ x.since + 1000000000) && sigsOk && s1.credOk x then done s1
        else if decide (s1.now ≤ x.since + 1000000000) && sigsOk && x.role == 1 && x.cred == 0 && x.net == 1 && !s1.owned then
          done ((s1.setBlob E.OP_CRED_LIST (zeros 8 ++ leBytes 1 1 ++ zeros 7 ++ bytesAt (Config.finishKeys ses) 0 1984 ++ s1.blob E.OP_CRED_LIST)).raise 0xE001 0)
        else dead.refuseSession ses)

/-- FINISH_TIMEOUT: no FINISH within 1 s of ACCEPT: the handshake ends. -/
def execFinishTimeout (ses t : Nat) (s : State) : Host.Outcome State Fault Refusal :=
  let s1 := s.at t
  .next (match Tab.look s1.sessions ses with
    | some x => if x.live = false ∧ x.since + 1000000000 ≤ s1.now then { s1 with sessions := s1.sessions.del ses } else s1
    | none => s1)

/-- DOLLI_CLOSE: the client closes its session. -/
def execDolliClose (r : Rq) (s : State) : Host.Outcome State Fault Refusal :=
  .next (match (s.at r.t).accept r.ses r.seq r.ok with
    | (s1, none) => s1
    | (s1, some _) => { s1 with sessions := s1.sessions.del r.ses, waits := s1.waits.filter (fun w => w.ses != r.ses) })

/-- SESSION_IDLE_TIMEOUT: SESSION_IDLE_NS without a valid message from the client (R470). -/
def execSessionIdleTimeout (ses t : Nat) (s : State) : Host.Outcome State Fault Refusal :=
  let s1 := s.at t
  .next (match Tab.look s1.sessions ses with
    | some x => if x.live ∧ x.last + s1.num E.SESSION_IDLE_NS ≤ s1.now then s1.closeSession ses else s1
    | none => s1)

/-- STAGING_EXPIRY: 10 s after an incomplete LAST, or after a freeze (R474). -/
def execStagingExpiry (ses idx sub t : Nat) (s : State) : Host.Outcome State Fault Refusal :=
  let s1 := s.at t
  let key := idx * 256 + sub
  let old (u : Nat) : Bool := decide (u + 10000000000 ≤ s1.now)
  .next (s1.onSession ses (fun x =>
    { x with stage := (match x.stage.look key with | some (_, some _, u) => if old u then x.stage.del key else x.stage | _ => x.stage),
             snaps := (match x.snaps.look key with | some (u, _) => if old u then x.snaps.del key else x.snaps | _ => x.snaps) }))

/-- STATUS_PROBE: answered without a session, at most 1,000 in a second on each port; the rest are dropped and counted (R455, R466). A port that is not UP
answers nothing, and a partition answers where it has an endpoint. -/
def execStatusProbe (e : Fin 8) (endpoint : Nat) (t : Nat) (s : State) : Host.Outcome State Fault Refusal :=
  let s1 := s.at t
  let p := (s1.eport e.val).probes
  let w := if s1.now < p.1 + 1000000000 then p else (s1.now, 0)
  .next (if s1.num (E.ETH_STATE e.val) ≠ 2 ∨ !(endpoint == 0xFE || s1.hasEndpoint endpoint e.val) then s1
    else if 1000 ≤ w.2 then s1.bump E.DOLLI_DROPS
    else
      let st := if endpoint = 0xFE then s1.collierStatus else s1.partStatus endpoint
      (s1.onEport e.val (fun x => { x with probes := (w.1, w.2 + 1) })).say
        { ses := 0, kind := 0x21, data := leBytes 8 (s1.num E.IDENT_REV) ++ leBytes 1 endpoint ++ leBytes 1 st ++ zeros 6 })

/-! STORE (R474, R483) -/

/-- The stored copy of an entry takes its value in force. -/
def State.storeOne (s : State) (key : Nat) : State :=
  { s with stored := match Tab.look s.dict key with | some v => s.stored.put key v | none => s.stored.del key }

/-- Every class-S entry's stored copy takes the value in force; the wear records, which the collier stores every hour, keep theirs. -/
def State.storeAll (s : State) : State :=
  let kept := s.stored.filter (fun x => decide (0x7050 ≤ x.1 / 256) && decide (x.1 / 256 < 0x705C))
  { s with stored := (s.dict.filter (fun x => clsOf x.1 == .S)).foldl (fun d x => d.put x.1 x.2) kept }

/-- STORE. -/
def execStore (r : Rq) (idx sub : Nat) (flashOk : Bool) (s : State) : Host.Outcome State Fault Refusal :=
  let key := idx * 256 + sub
  .next (s.request r opStore key (fun _ s =>
    if key ≠ 0xFFFFFF ∧ clsOf key ≠ .S then (s, some { status := invalid })
    else if flashOk = false then (s, some { status := flashErr })
    else (if key = 0xFFFFFF then s.storeAll else s.storeOne key, some {})))

end Sys2Proof.Machine
end

