-- ==== Sys2Proof/Machine/Writes.lean ====
section
/-!
DEFINITION. Writes and commands as every entry shares them (R474, R481, R482), and the writes of the tiers, the KV cache and the queues.
A write answers with the state it leaves and a Dolli code; a code other than 0 changes nothing.
-/
namespace Sys2Proof.Machine

/-! Values -/

/-- The value that the bytes of a WRITE stand for. -/
def Ty.read (ty : Ty) (v : List Byte) : DVal := if ty.size.isSome && ty != .digest384 then .num (leNat v) else .blob v

/-- What the type and the range of an entry ask of a value: 0, TYPE or INVALID. A BLOB whose default has a fixed layout keeps its length (log 59). -/
def Entry.check (e : Entry) (v : List Byte) (blocks : Bool) : Nat :=
  match e.ty.size with
  | some n =>
    if v.length ≠ n then typeErr
    else if e.acc != .rw1c && e.ty != .digest384 && (decide (leNat v < e.lo) || decide (e.hi < leNat v)) then invalid else 0
  | none =>
    if e.ty = .str ∧ 255 < v.length then typeErr
    else if !blocks && decide (8192 < v.length) then typeErr
    else match e.dflt with
      | .blob b => if b.length ≠ 0 ∧ v.length ≠ b.length then invalid else 0
      | .num _ => 0

/-- The same for an entry's key. -/
def checkOf (key : Nat) (v : List Byte) (blocks : Bool) : Nat :=
  match entryOf (key / 256) (key % 256) with
  | some e => e.check v blocks
  | none => noEntry

/-- Each bit written as 1 clears the same bit (Table 16-9). -/
def clearBits (old v : DVal) : DVal :=
  match old, v with
  | .num a, .num b => .num (a &&& (2 ^ 64 - 1 - b % 2 ^ 64))
  | .blob a, .blob b => .blob (List.zipWith (fun x y => x &&& ~~~y) a b)
  | o, _ => o

/-- The value takes its place, or clears bits of an RW1C entry (R482, R483). -/
def State.plainWrite (s : State) (key : Nat) (v : List Byte) : State :=
  match entryOf (key / 256) (key % 256) with
  | some e => if e.acc = .rw1c then s.setVal key (clearBits (s.dval key) (e.ty.read v)) else s.setVal key (e.ty.read v)
  | none => s

/-- What a write or a command did becomes its answer: refused, it changed nothing; done, the power states are chosen anew (R520). -/
def State.settle (s : State) (x : State × Nat) : State × Option Ans :=
  if x.2 = 0 then (x.1.rechoose, some {}) else (s, some { status := x.2 })

/-- A WRITE of an entry: the checks every write shares, then those of its chapter. -/
def State.write (s : State) (r : Rq) (key : Nat) (v : List Byte) (f : Session → State → State × Nat) : State :=
  s.request r opWrite key (fun x s => s.settle (let c := checkOf key v false; if c ≠ 0 then (s, c) else f x s))

/-- A CMD whose argument has `size` bytes; another length does not fit (log 59). -/
def State.command (s : State) (r : Rq) (key : Nat) (arg : List Byte) (size : Nat) (f : Session → State → State × Nat) : State :=
  s.request r opCmd key (fun x s => s.settle (if arg.length ≠ size then (s, typeErr) else f x s))

/-- A command that may wait for an eviction copy (R303): with no code it answers when the copy completes. -/
def State.settleOr (s : State) (w : Waiting) (x : State × Option Nat) : State × Option Ans :=
  match x.2 with
  | none => ({ x.1 with waits := s.waits ++ [w] }, none)
  | some c => s.settle (x.1, c)

/-! Room by eviction (R302, R303) -/

/-- Sets begin to be evicted. -/
def State.evictSets (s : State) (n : Nat) (sets : List Nat) : State := forAll sets (fun w s => s.beginEvict n w) s

/-- Room for spans: their offsets now, a wait for copies, or the error. -/
def State.seekRoom (s : State) (n : Nat) (needs : List (Nat × Nat)) : State × Option (List Nat ⊕ Nat) :=
  match s.room n needs with
  | .now o => (s, some (.inl o))
  | .never q => (s, some (.inr (if q then quotaErr else invalid)))
  | .after sets =>
    let s1 := s.evictSets n sets
    (s1, (s1.fitsRoom n needs).map Sum.inl)

/-- Room in the tier B quota alone: there now, after a wait, or not at all. -/
def State.seekQuota (s : State) (n len : Nat) : State × Option Nat :=
  if s.quotaB n len then (s, some 0)
  else
    let order := s.evictOrder n
    match (List.range (order.length + 1)).find? (fun c => (s.withoutSets n (order.take c)).quotaB n len) with
    | none => (s, some quotaErr)
    | some c =>
      let s1 := s.evictSets n (order.take c)
      (s1, if s1.quotaB n len then some 0 else none)

/-! Regions (R265, R266, R276) -/

/-- A region record as the tenant may write it, but for overlaps and quotas (R265). -/
def State.regionForm (s : State) (n : Nat) (v : List Byte) : Bool :=
  let hasB := rgRick v != 0xFF
  let hasS := rgSoff v != noSoff
  let al (x : Nat) : Bool := x % 4096 == 0
  v.length == 32 && fld v 0 2 == 0 && [0, 3, 6].contains (rgClass v) && decide (fld v 3 1 < 2) && rgJob v == 0xFF && fld v 6 2 == 0 &&
  (hasB || hasS) && al (rgBoff v) && al (rgLen v) && (al (rgSoff v) || !hasS) && rgLen v != 0 &&
  (!hasB || (s.ricksOf n).contains (rgRick v)) && (!rgBacked v || (hasB && hasS && rgClass v == 0))

/-- The spans of a region record are free (R265). -/
def State.regionFree (s : State) (n : Nat) (v : List Byte) : Bool :=
  let hasB := rgRick v != 0xFF
  let hasS := rgSoff v != noSoff
  (!hasB || (decide (rgBoff v + rgLen v ≤ s.kvBase n (rgRick v)) && (s.spansB n (rgRick v)).all (fun x => apart (rgBoff v, rgLen v) x))) &&
  (!hasS || (decide (rgSoff v + rgLen v ≤ s.tierSBytes n) && (s.spansS n).all (fun x => apart (rgSoff v, rgLen v) x)))

/-- REGION_CREATE: `none` while it waits for an eviction copy. -/
def State.regionCreate (s : State) (n : Nat) (v : List Byte) : State × Option Nat :=
  let hasB := rgRick v != 0xFF
  if v.length = 32 ∧ hasB ∧ (s.ricksOf n).contains (rgRick v) ∧ !(s.num E.RICK_READY).testBit (rgRick v) then (s, some stateErr)
  else if !s.regionForm n v || !s.regionFree n v then (s, some invalid)
  else match s.freeRegion n with
    | none => (s, some invalid)
    | some r =>
      if rgSoff v ≠ noSoff ∧ s.quotaS n (rgLen v) = false then (s, some quotaErr)
      else
        match (if hasB then s.seekQuota n (rgLen v) else (s, some 0)) with
        | (s1, none) => (s1, none)
        | (s1, some c) =>
          if c ≠ 0 then (s1, some c)
          else
            let b := setFld (setFld v 0 2 r) 3 1 (fld v 3 1 + if hasB then 2 else 0)
            let s2 := (s1.setRegion n r b).setNum (E.REGION_RESULT n) r
            (if hasB then s2.wakePart n 2 else s2, some 0)

/-- REGION_CREATE. -/
def execRegionCreate (r : Rq) (n : Fin 12) (v : List Byte) (s : State) : Host.Outcome State Fault Refusal :=
  .next (s.request r opWrite (E.REGION_CREATE n) (fun _ s =>
    let c := checkOf (E.REGION_CREATE n) v false
    s.settleOr (.region r opWrite n v) (if c ≠ 0 then (s, some c) else s.regionCreate n v)))

/-- The record of a region goes; the buffers registered in it and the queues that it holds lose it (R266, R431, R655). -/
def State.eraseRegion (s : State) (n g : Nat) : State :=
  let b := s.region n g
  let gone (lo cnt : Nat) (p : Nat) : Bool := decide (lo ≤ p) && decide (p < lo + cnt)
  let pages := rgLen b / 4096
  let inB (p : Nat) : Bool := rgHasB b && rgLive b && gone (pageB (rgRick b) (rgBoff b)) pages p
  let inS (p : Nat) : Bool := rgHasS b && gone (pageS n (rgSoff b)) pages p
  let lost := (s.pagePoison.filter (fun p => inB p.1 || inS p.1)).length
  let map := (List.range 16).flatMap (fun q => leBytes 2 (let x := fld (s.blob (E.QUEUE_MAP n)) (2 * q) 2; if x = g then 0xFFFF else x))
  let s1 := { s with regions := s.regions.del (n * 256 + g), dirty := s.dirty.filter (fun p => !inB p.1), pagePoison := s.pagePoison.filter (fun p => !(inB p.1 || inS p.1)) }
  let s2 := if lost = 0 then s1 else s1.setNum (E.POISONED_TIER_PAGES n) (s1.num (E.POISONED_TIER_PAGES n) - lost)
  let s3 := if (List.range 16).any (fun q => fld (s.blob (E.QUEUE_MAP n)) (2 * q) 2 == g) then s2.setBlob (E.QUEUE_MAP n) map else s2
  forAll ((List.range 16).filter (fun q => fld (s.blob (E.QUEUE_MAP n)) (2 * q) 2 == g)) (fun q s => s.setConsumed n q 0) s3

/-- REGION_DELETE. -/
def State.regionDelete (s : State) (n : Nat) (v : List Byte) : State × Nat :=
  let x := leNat v
  let g := x % 2 ^ 16
  let b := s.region n g
  if s.anyLoaded n then (s, busy)
  else if 2 ^ 17 ≤ x ∨ 256 ≤ g ∨ rgLen b = 0 ∨ !([0, 3, 6] : List Nat).contains (rgClass b) then (s, invalid)
  else
    let s1 := if x.testBit 16 then forAll (pagesOf 0 (rgLen b)) (fun o s => s.writeBack n g o) s else s
    let s2 := { s1 with buffers := s1.buffers.filter (fun y => !(y.1 / 2 ^ 32 == n && y.2.region == g)) }
    (s2.eraseRegion n g, 0)

/-- REGION_DELETE. -/
def execRegionDelete (r : Rq) (n : Fin 12) (v : List Byte) (s : State) : Host.Outcome State Fault Refusal :=
  .next (s.write r (E.REGION_DELETE n) v (fun _ s => s.regionDelete n v))

/-- FLUSH_ALL queues one request over every backed region, behind those taken (R276). -/
def State.flushAll (s : State) (n : Nat) : State :=
  let pages := ((s.regionNums n).filter (fun r => rgBacked (s.region n r) && rgLive (s.region n r))).flatMap (fun r => (pagesOf 0 (rgLen (s.region n r))).map (fun o => (r, o)))
  (s.onPart n (fun p => { p with flush := p.flush ++ [⟨none, pages⟩] })).flushDone n

/-- FLUSH_ALL. -/
def execFlushAll (r : Rq) (n : Fin 12) (s : State) : Host.Outcome State Fault Refusal :=
  .next (s.command r (E.FLUSH_ALL n) [] 0 (fun _ s => (s.flushAll n, 0)))

/-! Quotas (R281) -/

/-- A write of a quota is not below the usage: `used` is that of the slot. -/
def State.quotaWrite (s : State) (key used : Nat) (v : List Byte) : State × Nat :=
  if leNat v < used then (s, invalid) else (s.plainWrite key v, 0)

/-! Queues (R655) -/

/-- A loaded cord of the partition polls a queue or names it as REQQ. -/
def State.queueInUse (s : State) (n q : Nat) : Bool :=
  (s.loadedJobs n).any (fun j => Config.pollReads (cdPoll (s.job n j).img) q || (s.admissions n j).any (fun a => adReqq a == q))

/-- LENGTH of a queue's ring: 256 × 2ⁿ bytes for n from 4 to 16. -/
def ringLength (len : Nat) : Bool := (List.range 13).any (fun i => len == 256 * 2 ^ (i + 4))

/-- QUEUE_MAP. -/
def State.queueMapWrite (s : State) (n : Nat) (v : List Byte) : State × Nat :=
  let old (q : Nat) : Nat := fld (s.blob (E.QUEUE_MAP n)) (2 * q) 2
  let new (q : Nat) : Nat := fld v (2 * q) 2
  let qs := List.range 16
  let ok (q : Nat) : Bool :=
    let b := s.region n (new q)
    new q == 0xFFFF || (decide (new q < 256) && rgLen b != 0 && rgClass b == 3 && rgHasB b && ringLength (rgLen b) && qs.all (fun p => p == q || new p != new q))
  if !qs.all ok then (s, invalid)
  else if qs.any (fun q => new q != old q && s.queueInUse n q) then (s, busy)
  else (forAll (qs.filter (fun q => new q != old q)) (fun q s => s.setConsumed n q 0) (s.setBlob (E.QUEUE_MAP n) v), 0)

/-- QUEUE_MAP. -/
def execQueueMap (r : Rq) (n : Fin 12) (v : List Byte) (s : State) : Host.Outcome State Fault Refusal :=
  .next (s.write r (E.QUEUE_MAP n) v (fun _ s => s.queueMapWrite n v))

/-- QUEUE_MESSAGE_WRITE: a NIC engine writes a message and its stamp into a queue's ring (R82). -/
def execQueueMessageWrite (n : Fin 12) (q : Fin 16) (stamp : Nat) (msg : List Byte) (t : Nat) (s : State) : Host.Outcome State Fault Refusal :=
  .next ((s.at t).queueWrite n q stamp msg)

/-! The KV cache (R227, R228, R233, R245) -/

/-- ENTRY_BYTES of a model record's form and width, when they are legal (R204, R226). -/
def kvEntryBytes (form width : Nat) : Option Nat :=
  let f := form / 16
  let kw := width % 16
  let vw := width / 16
  if !([1, 3, 7] : List Nat).contains f || form.testBit 3 || form % 4 != 0 then none
  else if form.testBit 2 then (if 1 ≤ width ∧ width ≤ 4 then some (2 * partBytes f (64 * width)) else none)
  else if 1 ≤ kw ∧ 1 ≤ vw ∧ kw + vw ≤ 16 then some (partBytes f (64 * kw) + partBytes f (64 * vw)) else none

/-- A model record by itself: its fields, the derived ones, its home ricks (R227, R228). -/
def State.kvModelOk (s : State) (n : Nat) (r : List Byte) : Bool :=
  match kvEntryBytes (fld r 1 1) (fld r 2 1) with
  | none => false
  | some e =>
    decide (fld r 0 1 ≤ 3) && fld r 3 1 == 0 && fld r 6 2 == 0 && allZero (bytesAt r 0x14 12) && decide (1 ≤ kmLayers r) && decide (kmLayers r ≤ 256) &&
    decide (1 ≤ kmMaxctx r) && decide (kmMaxctx r ≤ 2 ^ 20) && kmEntry r == e && kmTpp r == 65536 / e && kmMapw r == ceilDiv (kmMaxctx r) (65536 / e) &&
    (List.range (kmLayers r)).all (fun l => (s.ricksOf n).contains (kmHome r l))

/-- MAPW summed over the (model, layer) pairs homed on a rick. -/
def mapwOn (l : List (List Byte)) (k : Nat) : Nat := sumOf l (fun r => kmMapw r * ((List.range (kmLayers r)).filter (fun i => kmHome r i == k)).length)

/-- KV_MODELS. -/
def State.kvModelsWrite (s : State) (n : Nat) (v : List Byte) : State × Nat :=
  let l := pieces v 160 (v.length / 160)
  let models := l.map (fun r => fld r 0 1)
  if s.anyLoaded n then (s, busy)
  else if v.length % 160 ≠ 0 ∨ 4 < l.length ∨ !l.all (s.kvModelOk n) ∨ models.eraseDups.length ≠ models.length ∨ (List.range 12).any (fun k => decide (3932160 < mapwOn l k)) then (s, invalid)
  else (s.setBlob (E.KV_MODELS n) v, 0)

/-- KV_MODELS. -/
def execKvModels (r : Rq) (n : Fin 12) (v : List Byte) (s : State) : Host.Outcome State Fault Refusal :=
  .next (s.write r (E.KV_MODELS n) v (fun _ s => s.kvModelsWrite n v))

/-- A sub-pool is larger than its highest page that is not free (R233). -/
def State.poolCovers (s : State) (k pages : Nat) : Bool :=
  (Tab.range s.refs (pageKey k 0) (pageKey k (2 ^ 24))).all (fun e => decide (e.1 % 2 ^ 24 < pages))

/-- The pages of a sub-pool that hold something move with KV_BASE, lowest or highest first so that none is overwritten (log 60). -/
def State.movePages (s : State) (n k newBase : Nat) : State :=
  let old := s.kvBase n k
  let qs := (Tab.range s.refs (pageKey k 0) (pageKey k (2 ^ 24))).map (fun e => e.1 % 2 ^ 24)
  forAll (if newBase < old then qs else qs.reverse) (fun q s => s.copyRange (tierB k + old + 65536 * q) (tierB k + newBase + 65536 * q) 65536) s

/-- KV_POOL_PAGES. -/
def State.kvPoolWrite (s : State) (n : Nat) (v : List Byte) : State × Nat :=
  let new (k : Nat) : Nat := fld v (4 * k) 4
  let lists := s.entryCount n + 4096
  let base (k : Nat) : Nat := 0xFF0000000 - kvRange (new k) lists
  let t := s.num (E.PART_TENANT n)
  let ks := s.ricksOf n
  let grown := sumOf ks (fun k => kvRange (new k) lists)
  let held := sumOf ks (fun k => kvRange (s.poolPages n k) lists)
  if s.partReady n = false then (s, stateErr)
  else if s.anyLoaded n then (s, busy)
  else if (List.range 12).any (fun k => new k != 0 && !ks.contains k) || ks.any (fun k => !s.poolCovers k (new k) || decide (0xFF0000000 < kvRange (new k) lists) ||
      (s.spansB n k).any (fun x => decide (base k < x.1 + x.2))) then (s, invalid)
  else if s.num (E.QUOTA_B t) + held < s.usedB t + grown ∨ s.num (E.QUOTA_KV t) + sumOf ks (s.poolPages n) < s.usedKv t + sumOf ks new then (s, quotaErr)
  else (((forAll ks (fun k s => s.movePages n k (base k)) s).setBlob (E.KV_POOL_PAGES n) v).wakePart n 2, 0)

/-- KV_POOL_PAGES. -/
def execKvPoolPages (r : Rq) (n : Fin 12) (v : List Byte) (s : State) : Host.Outcome State Fault Refusal :=
  .next (s.write r (E.KV_POOL_PAGES n) v (fun _ s => s.kvPoolWrite n v))

/-- HANDLE_RELEASE: it takes effect at the next boundary (R245). -/
def State.handleRelease (s : State) (n : Nat) (v : List Byte) : State × Nat :=
  let x := leNat v
  let i := bits x 59 48
  match s.handle n i with
  | some h =>
    if bits x 63 60 = n ∧ h.check = x % 2 ^ 48 ∧ h.releasing = false then ({ s with handles := s.handles.put (n * 4096 + i) { h with releasing := true } }, 0) else (s, invalid)
  | none => (s, invalid)

/-- HANDLE_RELEASE. -/
def execHandleRelease (r : Rq) (n : Fin 12) (v : List Byte) (s : State) : Host.Outcome State Fault Refusal :=
  .next (s.write r (E.HANDLE_RELEASE n) v (fun _ s => s.handleRelease n v))

/-! Entries that a loaded cord keeps busy: token counts, audit, evidence, statistics (R327, R329, R362, R364, R370, R375) -/

/-- A write that a loaded cord makes busy, with a check of its value. -/
def State.idleWrite (s : State) (n key : Nat) (v : List Byte) (ok : Bool) : State × Nat :=
  if s.anyLoaded n then (s, busy) else if ok = false then (s, invalid) else (s.plainWrite key v, 0)

/-- A region number that is 0xFFFF or names a USER region in use that satisfies a condition. -/
def State.userRegionOr (s : State) (n g : Nat) (p : List Byte → Bool) : Bool :=
  g == 0xFFFF || (decide (g < 256) && rgLen (s.region n g) != 0 && rgClass (s.region n g) == 0 && p (s.region n g))

end Sys2Proof.Machine
end

