-- ==== Sys2Proof/Machine/Shares.lean ====
section
/-!
DEFINITION. Shares of the ports and what claims them: slot records, owner codes, connections, ports, buffers, windows, groups, triggers, rings
(R355, R419, R424 to R438, R442, R443, R456, R459, R462).
-/
namespace Sys2Proof.Machine

/-! Slot records (R428) -/

/-- PORT, FIRST, COUNT of a slot record. -/
def slPort (r : Nat) : Nat := bits r 63 56
def slFirst (r : Nat) : Nat := bits r 47 32
def slCount (r : Nat) : Nat := bits r 31 16

/-- The form of a slot record. -/
def slotForm (r : Nat) : Bool :=
  (decide (slPort r < 16) || (decide (0x20 ≤ slPort r) && decide (slPort r < 0x28))) && bits r 55 48 == 0 &&
  decide (1 ≤ slFirst r) && decide (slFirst r ≤ 999) && decide (1 ≤ slCount r) && decide (slFirst r + slCount r ≤ 1000)

/-- Every claimed position is the partition's and is not its control position. -/
def State.slotOwned (s : State) (n r : Nat) : Bool :=
  let xs := (List.range (slCount r)).map (fun i => slFirst r + i)
  if slPort r < 16 then
    let c := s.controlPos n (slPort r)
    let own := s.blob (E.TX_OWNERS (slPort r))
    xs.all (fun x => fld own x 1 == n && c != some x)
  else xs.all (fun x => s.unitOwner (slPort r - 0x20) x == n)

/-- Two slot records hold a position in common. -/
def slotsMeet (a b : Nat) : Bool := slPort a == slPort b && !apart (slFirst a, slCount a) (slFirst b, slCount b)

/-- The lengths of the maximal runs of consecutive numbers in an ascending list: the run that ends at `last` so far has `len`. -/
def runsOf : List Nat → Nat → Nat → List Nat
  | [], _, len => if len = 0 then [] else [len]
  | x :: r, last, len => if len ≠ 0 ∧ x = last + 1 then runsOf r x (len + 1) else (if len = 0 then [] else [len]) ++ runsOf r x 1

/-- No run of a claimant's Ethernet units is shorter than 10 (R459). -/
def runsLong (l : List Nat) : Bool :=
  (List.range 8).all (fun e =>
    let mine := l.filter (fun r => slPort r == 0x20 + e)
    mine.isEmpty || (runsOf ((List.range 1000).filter (fun x => mine.any (fun r => claims r (0x20 + e) x))) 0 0).all (fun c => decide (10 ≤ c)))

/-- A claimant's slot records are in order beside those of other claimants (R428, R434, R459). -/
def State.slotsOk (s : State) (n : Nat) (l : List Nat) (others : List (List Nat)) : Bool :=
  l.all (fun r => slotForm r && s.slotOwned n r && !others.any (fun o => o.any (slotsMeet r))) && runsLong l

/-- The slot records of the enabled groups of a partition but one. -/
def State.groupSlotsBut (s : State) (n g : Nat) : List (List Nat) :=
  ((List.range 64).filter (fun i => i != g && (s.group n i).enabled)).map (fun i => (s.group n i).slotRecs)
/-- The slot records of the armed turn. -/
def State.turnSlots (s : State) (n : Nat) : List (List Nat) := if (s.turn n).active then [tpSlots (s.turn n).img] else []
/-- The slot records of the loaded cords. -/
def State.cordSlots (s : State) (n : Nat) : List (List Nat) := (s.loadedJobs n).map (fun j => cdFabric (s.job n j).img)

/-- Counters and armed operations claimed by loaded cords, enabled groups but one, and the armed turn (R434). -/
def State.trigUsed (s : State) (n but : Nat) : Nat × Nat :=
  let js := s.loadedJobs n
  let gs := (List.range 64).filter (fun g => g != but && (s.group n g).enabled)
  let t := s.turn n
  (sumOf js (fun j => Config.claim (cdSection (s.job n j).img 0x0A) 5) + sumOf gs (fun g => fld (s.group n g).bytes 0x0E 2) + (if t.active then tpCounters t.img else 0),
   sumOf js (fun j => Config.claim (cdSection (s.job n j).img 0x0A) 6) + sumOf gs (fun g => fld (s.group n g).bytes 0x10 2) + (if t.active then tpSendCount t.img + 16 else 0))

/-- A further claim of counters and operations stays within the allocation (R434). -/
def State.trigFits (s : State) (n but ctrs ops : Nat) : Bool :=
  let u := s.trigUsed n but
  let a := s.trigAlloc n
  decide (u.1 + ctrs ≤ a.1) && decide (u.2 + ops ≤ a.2)

/-! Owner codes (R424, R425, R456) -/

/-- A partition with a loaded cord, an armed turn or an enabled group. -/
def State.portBusy (s : State) (n : Nat) : Bool := s.anyLoaded n || (s.turn n).active || (List.range 64).any (fun g => (s.group n g).enabled)

/-- A write changes a position that such a partition owns, or gives it one (log 61). -/
def State.ownersBusy (s : State) (old v : List Byte) : Bool :=
  (List.zip old v).any (fun x => x.1 != x.2 && ((decide (x.1.toNat < 12) && s.portBusy x.1.toNat) || (decide (x.2.toNat < 12) && s.portBusy x.2.toNat)))

/-- An owner code of Table 15-5. -/
def ownerCode (b : Byte) : Bool := decide (b.toNat < 12) || (decide (16 ≤ b.toNat) && decide (b.toNat < 32)) || b == 0xFF

/-- The pairing of R425 between receive and transmit codes holds at every position of every port. -/
def pairedOwners (tx rx : Nat → List Byte) : Bool :=
  (List.range 16).all (fun p => (((rx p).zipIdx).filter (fun b => decide (16 ≤ b.1.toNat) && decide (b.1.toNat < 32))).all (fun b =>
    fld (tx (b.1.toNat - 16)) b.2 1 == 16 + p))

/-- What the peer's receiver grants follows the positions: 4 credits for each (R421). -/
def State.regrant (s : State) (p : Nat) (old : List Byte) : State :=
  let had (c : Nat) : Nat := (old.filter (fun b => b.toNat == c)).length
  s.onFport p (fun f => { f with credits := (List.range 32).foldl (fun t c =>
    if had c = s.positions p c then t else t.put c (t.getD c 0 + 4 * s.positions p c - 4 * had c)) f.credits })

/-- TX_OWNERS. -/
def State.txOwnersWrite (s : State) (p : Nat) (v : List Byte) : State × Nat :=
  let old := s.blob (E.TX_OWNERS p)
  if fld v 0 1 ≠ 0xFF ∨ !v.all ownerCode ∨ !pairedOwners (fun q => if q = p then v else s.blob (E.TX_OWNERS q)) (fun q => s.blob (E.RX_OWNERS q)) then (s, invalid)
  else if s.ownersBusy old v then (s, busy)
  else
    let s1 := s.setBlob (E.TX_OWNERS p) v
    (if s.portState p = 2 then s1.regrant p old else s1, 0)

/-- TX_OWNERS. -/
def execTxOwners (r : Rq) (p : Fin 16) (v : List Byte) (s : State) : Host.Outcome State Fault Refusal :=
  .next (s.write r (E.TX_OWNERS p) v (fun _ s => s.txOwnersWrite p v))

/-- RX_OWNERS. -/
def State.rxOwnersWrite (s : State) (p : Nat) (v : List Byte) : State × Nat :=
  if fld v 0 1 ≠ 0xFF ∨ !v.all ownerCode ∨ !pairedOwners (fun q => s.blob (E.TX_OWNERS q)) (fun q => if q = p then v else s.blob (E.RX_OWNERS q)) then (s, invalid)
  else if s.ownersBusy (s.blob (E.RX_OWNERS p)) v then (s, busy)
  else (s.setBlob (E.RX_OWNERS p) v, 0)

/-- Every run of a partition's general traffic on a port has 10 units or more (R459). -/
def State.generalLong (s : State) (e : Nat) : Bool :=
  (List.range 12).all (fun n =>
    let xs := (List.range 1000).filter (fun u => s.unitOwner e u == n)
    xs.isEmpty || (runsOf (xs.filter (fun u => s.unitClaim n e u == 0)) 0 0).all (fun c => decide (10 ≤ c)))

/-- ETH_OWNERS. -/
def State.ethOwnersWrite (s : State) (e : Nat) (v : List Byte) : State × Nat :=
  let s1 := s.setBlob (E.ETH_OWNERS e) v
  if !(v.take 10).all (fun b => b == 0xFE) || !v.all (fun b => decide (b.toNat < 12) || b == 0xFE || b == 0xFF) || !s1.generalLong e then (s, invalid)
  else if s.ownersBusy (s.blob (E.ETH_OWNERS e)) v then (s, busy)
  else (s1, 0)

/-- ETH_OWNERS. -/
def execEthOwners (r : Rq) (e : Fin 8) (v : List Byte) (s : State) : Host.Outcome State Fault Refusal :=
  .next (s.write r (E.ETH_OWNERS e) v (fun _ s => s.ethOwnersWrite e v))

/-! Connections (R462) -/

/-- A PATH 2 endpoint names a connection on network B. -/
def namesConn (path endp c : Nat) : Bool := path == 2 && endp % 1024 == c

/-- An enabled group names a connection: its stage 3, or a window of its peers. -/
def State.groupNames (s : State) (n g c : Nat) : Bool :=
  let x := s.group n g
  x.enabled && ((List.range 4).any (fun i => let b := x.stage i; decide (1 < x.size i) && (namesConn (fld b 4 1) (fld b 8 8) c || namesConn (fld b 4 1) (fld b 0x10 8) c)) ||
    (List.range x.members).any (fun d => let w := s.window n (fld x.bytes 0x18 2 + d); wnValid w && namesConn (wnPath w) (wnEnd w) c))

/-- A loaded cord names a connection by the windows of its armed operations; a turn by its member table. -/
def State.connNamed (s : State) (n c : Nat) : Bool :=
  (s.loadedJobs n).any (fun j => (s.trigOf n j).ops.any (fun b => aoType b != 6 && namesConn (wnPath (s.window n (aoWindow b))) (wnEnd (s.window n (aoWindow b))) c)) ||
  (List.range 64).any (fun g => s.groupNames n g c) ||
  ((s.turn n).active && (List.range (tpMembers (s.turn n).img)).any (fun m => let e := tpMemberRec (s.turn n).img m; namesConn (fld e 0 1) (fld e 8 8) c))

/-- The form of an enabled connection record (Table 16-2). -/
def connForm (v : List Byte) : Bool :=
  let net := fld v 1 1
  let port := fld v 2 1
  let vlan := fld v 0x28 2
  decide (net ≤ 1) && decide (port < 8) && port / 4 == net && decide (fld v 3 1 < 64) && decide (fld v 4 4 < 2 ^ 24) && decide (fld v 8 4 < 2 ^ 24) &&
  decide (fld v 0xC 4 < 2 ^ 24) && (!(fld v 0 1).testBit 1 || allZero (bytesAt v 0x10 12)) && fld v 0x26 2 == 0 &&
  ((decide (1 ≤ vlan) && decide (vlan ≤ 4094)) || vlan == 0xFFFF) && decide (0xC000 ≤ fld v 0x2A 2) && decide (fld v 0x2C 1 ≤ 7) &&
  decide (1 ≤ fld v 0x2D 1) && decide (fld v 0x2D 1 ≤ 20)

/-- CONN_REC of the connection that CONN_INDEX names. A record written with ENABLE starts the connection (R463). -/
def State.connWrite (s : State) (n : Nat) (v : List Byte) : State × Nat :=
  let c := s.num (E.CONN_INDEX n)
  let x := s.conn n c
  let on := (fld v 0 1).testBit 0
  let port := fld v 2 1
  if 4 ≤ fld v 0 1 ∨ !allZero (bytesAt v 0x2E 18) ∨ (on ∧ !connForm v) then (s, invalid)
  else if on ∧ !(List.range 1000).any (fun u => s.unitOwner port u == n && s.unitClaim n port u == 0) then (s, invalid)
  else if (fld x.bytes 0 1).testBit 0 ∧ s.connNamed n c then (s, busy)
  else
    let s1 := (s.failFlights 2 c (some n)).failFlights 3 c (some n)
    (s1.onConn n c (fun _ => { bytes := v, st := if on then 1 else 0, sq := if on then fld v 8 4 else 0, rq := if on then fld v 0xC 4 else 0 }), 0)

/-- CONN_REC. -/
def execConnRec (r : Rq) (n : Fin 12) (v : List Byte) (s : State) : Host.Outcome State Fault Refusal :=
  .next (s.write r (E.CONN_REC n) v (fun _ s => s.connWrite n v))

/-! Ports (R419, R423) -/

/-- PORT_ENABLE: a port that is disabled goes DOWN and is DISABLED; enabled again, it is DOWN and trains. -/
def State.portEnable (s : State) (p : Nat) (v : List Byte) : State × Nat :=
  let on := leNat v = 1
  let s1 := s.setNum (E.PORT_ENABLE p) (leNat v)
  let st := s.portState p
  (if on then (if st = 3 then (s1.setNum (E.PORT_STATE p) 0).onFport p (fun f => { f with ev := 0, t0 := s.now }) else s1)
   else if st = 1 ∨ st = 2 then s1.portDown p else s1.setNum (E.PORT_STATE p) 3, 0)

/-- PORT_ENABLE. -/
def execPortEnable (r : Rq) (p : Fin 16) (v : List Byte) (s : State) : Host.Outcome State Fault Refusal :=
  .next (s.write r (E.PORT_ENABLE p) v (fun _ s => s.portEnable p v))

/-- PORT_RETRAIN: an UP port goes DOWN; a port that may train begins Table 15-4 at once. -/
def State.portRetrain (s : State) (p : Nat) : State :=
  let s1 := s.onFport p (fun f => { f with blocked := false })
  let s2 := if s1.portState p = 2 then s1.portDown p else s1
  if s2.mayTrain p then s2.train p else s2

/-- PORT_RETRAIN. -/
def execPortRetrain (r : Rq) (p : Fin 16) (s : State) : Host.Outcome State Fault Refusal :=
  .next (s.command r (E.PORT_RETRAIN p) [] 0 (fun _ s => (s.portRetrain p, 0)))

/-- EXPECT_PEER: a port that stands DOWN for a mismatch trains again (Table 15-4). -/
def State.expectPeer (s : State) (p : Nat) (v : List Byte) : State × Nat :=
  ((s.setNum (E.EXPECT_PEER p) (leNat v)).onFport p (fun f => { f with blocked := false }), 0)

/-- ETH_ENABLE: a port that is disabled is DISABLED; enabled again, its link is brought up (R449). -/
def State.ethEnable (s : State) (e : Nat) (v : List Byte) : State × Nat :=
  let s1 := s.setNum (E.ETH_ENABLE e) (leNat v)
  (if leNat v = 0 then s1.ethDown e 3
   else if s.num (E.ETH_STATE e) = 3 then s1.setNum (E.ETH_STATE e) (if s1.ethTrains e then 1 else 0) else s1, 0)

/-! Buffers and windows (R430 to R432) -/

/-- BUFFER_REG: RKEYs count the registrations (log 62). -/
def State.bufferReg (s : State) (n : Nat) (v : List Byte) : State × Nat :=
  let g := fld v 0 2
  let mode := fld v 2 1
  let owner := fld v 3 1
  let off := fld v 8 8
  let len := fld v 0x10 8
  let b := s.region n g
  let classOk := match rgClass b with | 0 => decide (mode < 16) | 3 => mode == 2 | 6 => mode == 1 | _ => false
  if v.length ≠ 32 ∨ 256 ≤ g ∨ rgLen b = 0 ∨ classOk = false ∨ !(decide (owner < 8) || (decide (0x40 ≤ owner) && decide (owner < 0x80)) || owner == 0x80) ∨ fld v 4 4 ≠ 0 ∨
     fld v 0x18 8 ≠ 0 ∨ off % 64 ≠ 0 ∨ len % 64 ≠ 0 ∨ rgLen b < off + len ∨ 256 ≤ (s.buffersOf n).length then (s, invalid)
  else
    let k := ((s.part n).rkeys + 1) % 2 ^ 32
    let s1 := { s with buffers := s.buffers.put (n * 2 ^ 32 + k) { region := g, mode := mode, owner := owner, off := off, len := len } }
    ((s1.onPart n (fun p => { p with rkeys := p.rkeys + 1 })).setNum (E.BUFFER_RESULT n) k, 0)

/-- BUFFER_REG. -/
def execBufferReg (r : Rq) (n : Fin 12) (v : List Byte) (s : State) : Host.Outcome State Fault Refusal :=
  .next (s.write r (E.BUFFER_REG n) v (fun _ s => s.bufferReg n v))

/-- BUFFER_DEREG: new messages are refused at once (R431). -/
def State.bufferDereg (s : State) (n : Nat) (v : List Byte) : State × Nat :=
  match s.buffer n (leNat v) with
  | some b => if b.closed then (s, invalid) else ({ s with buffers := s.buffers.put (n * 2 ^ 32 + leNat v) { b with closed := true } }, 0)
  | none => (s, invalid)

/-- BUFFER_DEREG. -/
def execBufferDereg (r : Rq) (n : Fin 12) (v : List Byte) (s : State) : Host.Outcome State Fault Refusal :=
  .next (s.write r (E.BUFFER_DEREG n) v (fun _ s => s.bufferDereg n v))

/-- WINDOW_REC of the window that WINDOW_INDEX names. -/
def State.windowWrite (s : State) (n : Nat) (v : List Byte) : State × Nat :=
  if 2 ≤ fld v 13 1 ∨ fld v 14 2 ≠ 0 ∨ fld v 24 8 ≠ 0 ∨ (wnValid v ∧ wnPath v ≠ 1 ∧ wnPath v ≠ 2) then (s, invalid)
  else ({ s with windows := s.windows.put (n * 4096 + s.num (E.WINDOW_INDEX n)) v }, 0)

/-! Triggers (R434, R437, R438) -/

/-- TRIG_ALLOC: the partitions share 4,096 counters and 16,384 operations. -/
def State.trigAllocWrite (s : State) (n : Nat) (v : List Byte) : State × Nat :=
  let others (i : Nat) : Nat := sumOf ((List.range 12).filter (fun m => m != n)) (fun m => fld (s.blob (E.TRIG_ALLOC m)) i 2)
  if 4096 < others 0 + fld v 0 2 ∨ 16384 < others 2 + fld v 2 2 then (s, invalid) else (s.setBlob (E.TRIG_ALLOC n) v, 0)

/-- TRIG_RING: a ring that changes starts at SEQ 0 (log 63). -/
def State.trigRingWrite (s : State) (n : Nat) (v : List Byte) : State × Nat :=
  let rec16 (b : List Byte) (j : Nat) : List Byte := bytesAt b (16 * j) 16
  let ok (j : Nat) : Bool := let b := rec16 v j; allZero b || (allZero (bytesAt b 3 5) && decide (4 ≤ fld b 2 1) && decide (fld b 2 1 ≤ 12))
  let moved := (List.range 8).filter (fun j => rec16 v j != rec16 (s.blob (E.TRIG_RING n)) j)
  if !(List.range 8).all ok then (s, invalid)
  else (forAll moved (fun j s => s.onTrig n j (fun t => { t with next := 0 })) (s.setBlob (E.TRIG_RING n) v), 0)

/-- TRIG_OPS: TRIG_RESULT tells how the arming went (R438). -/
def execTrigOps (r : Rq) (n : Fin 12) (v : List Byte) (s : State) : Host.Outcome State Fault Refusal :=
  .next (s.write r (E.TRIG_OPS n) v (fun _ s => (s.armOps n v, 0)))

/-! Groups (R428, R434, R442, R443) -/

/-- A loaded cord names a learning group. -/
def State.groupCord (s : State) (n g : Nat) : Bool :=
  (s.group n g).enabled && (s.loadedJobs n).any (fun j => (s.exchanges n j).any (fun r => fld r 4 2 == fld (s.group n g).bytes 0 2))

/-- The stage records of a group record (Table 15-10): reserved bytes, sizes, positions and paths. -/
def State.stagesOk (s : State) (n : Nat) (x : Group) : Bool :=
  let cls := fld x.bytes 2 1
  (List.range 4).all (fun i =>
    let b := x.stage i
    let size := fld b 0 2
    fld b 5 1 == 0 && allZero (bytesAt b 0x1A 6) && decide (1 ≤ size) && decide (fld b 2 2 < size) &&
    (if i = 0 then size == 1 || (cls == 2 && size == (s.ricksOf n).length) else size == 1 || fld b 4 1 == (if i = 3 then 2 else 1)))

/-- An enabled group record is in order beside the other groups of the partition. -/
def State.groupOk (s : State) (n g : Nat) (x : Group) : Bool :=
  let b := x.bytes
  let cls := fld b 2 1
  let others := (List.range 64).filter (fun i => i != g && (s.group n i).enabled)
  let cq := fld b 8 2
  let cm := fld b 0x0C 2
  let sz (i : Nat) : Nat := fld (x.stage i) 0 2
  let ps (i : Nat) : Nat := fld (x.stage i) 2 2
  let share (o len : Nat) : Bool := others.any (fun i => fld (s.group n i).bytes 2 1 != 2 && fld (s.group n i).bytes o len == fld b o len)
  decide (cls ≤ 2) && decide (1 ≤ x.members) && decide (x.members ≤ 1024) && x.members == sz 1 * sz 2 * sz 3 && x.index == ps 1 + sz 1 * (ps 2 + sz 2 * ps 3) &&
  s.stagesOk n x && others.all (fun i => fld (s.group n i).bytes 0 2 != fld b 0 2) &&
  (if cls = 2 then cq == 0xFFFF
   else decide (4 ≤ fld b 0x0A 1) && decide (fld b 0x0A 1 ≤ 12) && rgClass (s.region n cq) == 3 && decide (64 * x.cqSlots ≤ rgLen (s.region n cq)) &&
     rgClass (s.region n cm) == 0 && decide (4096 < rgLen (s.region n cm)) && !share 8 2 && !share 0x0C 2) &&
  s.trigFits n g (fld b 0x0E 2) (fld b 0x10 2) && s.slotsOk n x.slotRecs (s.cordSlots n ++ s.groupSlotsBut n g ++ s.turnSlots n)

/-- A group record or its slots are being used (R442). -/
def State.groupInUse (s : State) (n g : Nat) : Bool := (s.group n g).cmd.isSome || s.groupCord n g

/-- GROUP_REC of the record that GROUP_INDEX names. A group that is enabled starts anew. -/
def State.groupWrite (s : State) (n : Nat) (v : List Byte) : State × Nat :=
  let g := s.num (E.GROUP_INDEX n)
  let old := s.group n g
  let x : Group := { old with bytes := v }
  if s.groupInUse n g then (s, busy)
  else if 2 ≤ fld v 3 1 ∨ fld v 0x0B 1 ≠ 0 ∨ !allZero (bytesAt v 0x1A 6) ∨ (x.enabled ∧ !s.groupOk n g x) then (s, invalid)
  else if x.enabled ∧ !old.enabled then
    ({ s with trigs := s.trigs.del (n * 256 + 0x40 + g) }.onGroup n g (fun y => { bytes := v, slots := y.slots }), 0)
  else (s.onGroup n g (fun y => { y with bytes := v }), 0)

/-- GROUP_REC. -/
def execGroupRec (r : Rq) (n : Fin 12) (v : List Byte) (s : State) : Host.Outcome State Fault Refusal :=
  .next (s.write r (E.GROUP_REC n) v (fun _ s => s.groupWrite n v))

/-- GROUP_SLOTS of the record that GROUP_INDEX names. -/
def State.groupSlotsWrite (s : State) (n : Nat) (v : List Byte) : State × Nat :=
  let g := s.num (E.GROUP_INDEX n)
  let x : Group := { s.group n g with slots := v }
  if s.groupInUse n g then (s, busy)
  else if v.length % 8 ≠ 0 ∨ 2048 < v.length ∨ !x.slotRecs.all slotForm ∨ (x.enabled ∧ !s.groupOk n g x) then (s, invalid)
  else (s.onGroup n g (fun y => { y with slots := v }), 0)

/-! Subscriber rings (R355) -/

/-- RING_DESC of the ring that RING_INDEX names: in force at the next action 2. -/
def State.ringWrite64 (s : State) (n : Nat) (v : List Byte) : State × Nat :=
  let k := fld v 0x14 1
  if 4 ≤ fld v 0 1 ∨ fld v 1 3 ≠ 0 ∨ fld v 0x15 3 ≠ 0 ∨ !allZero (bytesAt v 0x28 24) ∨ ((fld v 0 1).testBit 0 ∧ (k < 16 ∨ 30 < k ∨ 1024 ≤ fld v 4 4)) then (s, invalid)
  else (s.onRing n (s.num (E.RING_INDEX n)) (fun g => { g with next := some v }), 0)

/-- RING_DESC. -/
def execRingDesc (r : Rq) (n : Fin 12) (v : List Byte) (s : State) : Host.Outcome State Fault Refusal :=
  .next (s.write r (E.RING_DESC n) v (fun _ s => s.ringWrite64 n v))

end Sys2Proof.Machine
end

