-- ==== Sys2Proof/Machine/Bindings.lean ====
section
/-!
DEFINITION. What the tenant binds to a partition's jobs: token counts, audit, evidence and statistics regions, weight sets, epochs, drains, turns
(R287 to R305, R327 to R332, R362, R364, R370, R375, R389, R393 to R397, R412).
-/
namespace Sys2Proof.Machine

/-! Entries under the busy rule of R329 -/

/-- Entries of the request table on a rick: 2,731 on K0 to K7, 2,730 on the others (R34). -/
def rickEntries (k : Nat) : Nat := if k < 8 then 2731 else 2730

/-- The regions named for token counts are USER regions of their ricks' stacks that hold the tables (R327, R329). -/
def State.tctOk (s : State) (n pairs : Nat) (regions : List Byte) : Bool :=
  (s.ricksOf n).all (fun k => s.userRegionOr n (fld regions (2 * k) 2) (fun b => rgHasB b && rgRick b == k && decide (rickEntries k * (64 * ceilDiv (8 * pairs) 64) ≤ rgLen b)))

/-- TCT_PAIRS. -/
def State.tctPairsWrite (s : State) (n : Nat) (v : List Byte) : State × Nat :=
  s.idleWrite n (E.TCT_PAIRS n) v (leNat v % 8 == 0 && s.tctOk n (leNat v) (s.blob (E.TCT_REGIONS n)))
/-- TCT_PAIRS. -/
def execTctPairs (r : Rq) (n : Fin 12) (v : List Byte) (s : State) : Host.Outcome State Fault Refusal :=
  .next (s.write r (E.TCT_PAIRS n) v (fun _ s => s.tctPairsWrite n v))

/-- TCT_REGIONS. -/
def State.tctRegionsWrite (s : State) (n : Nat) (v : List Byte) : State × Nat := s.idleWrite n (E.TCT_REGIONS n) v (s.tctOk n (s.num (E.TCT_PAIRS n)) v)
/-- TCT_REGIONS. -/
def execTctRegions (r : Rq) (n : Fin 12) (v : List Byte) (s : State) : Host.Outcome State Fault Refusal :=
  .next (s.write r (E.TCT_REGIONS n) v (fun _ s => s.tctRegionsWrite n v))

/-- A region with the header of R362 and a body of 1 MiB or more, or none. -/
def State.bodyRegion (s : State) (n : Nat) (v : List Byte) : Bool := s.userRegionOr n (leNat v) (fun b => decide (4096 + 2 ^ 20 ≤ rgLen b))

/-- AUDIT_REGION. -/
def State.auditRegionWrite (s : State) (n : Nat) (v : List Byte) : State × Nat := s.idleWrite n (E.AUDIT_REGION n) v (s.bodyRegion n v)
/-- AUDIT_REGION. -/
def execAuditRegion (r : Rq) (n : Fin 12) (v : List Byte) (s : State) : Host.Outcome State Fault Refusal :=
  .next (s.write r (E.AUDIT_REGION n) v (fun _ s => s.auditRegionWrite n v))

/-- The evidence region holds the records of 4,096 slots (R364, R367). -/
def State.evidOk (s : State) (n g groups : Nat) : Bool := s.userRegionOr n g (fun b => decide (4096 * groups * 9 * 128 ≤ rgLen b))

/-- EVID_REGION. -/
def State.evidRegionWrite (s : State) (n : Nat) (v : List Byte) : State × Nat := s.idleWrite n (E.EVID_REGION n) v (s.evidOk n (leNat v) (s.num (E.EVID_GROUPS n)))
/-- EVID_REGION. -/
def execEvidRegion (r : Rq) (n : Fin 12) (v : List Byte) (s : State) : Host.Outcome State Fault Refusal :=
  .next (s.write r (E.EVID_REGION n) v (fun _ s => s.evidRegionWrite n v))
/-- EVID_GROUPS. -/
def State.evidGroupsWrite (s : State) (n : Nat) (v : List Byte) : State × Nat := s.idleWrite n (E.EVID_GROUPS n) v (s.evidOk n (s.num (E.EVID_REGION n)) (leNat v))

/-- LSTATS_REGION. -/
def State.lstatsRegionWrite (s : State) (n : Nat) (v : List Byte) : State × Nat := s.idleWrite n (E.LSTATS_REGION n) v (s.bodyRegion n v)
/-- LSTATS_REGION. -/
def execLstatsRegion (r : Rq) (n : Fin 12) (v : List Byte) (s : State) : Host.Outcome State Fault Refusal :=
  .next (s.write r (E.LSTATS_REGION n) v (fun _ s => s.lstatsRegionWrite n v))

/-- SLICE_PLAN (R69). -/
def State.slicePlanWrite (s : State) (n : Nat) (v : List Byte) : State × Nat :=
  let ok := v.length % 4 == 0 && decide (v.length ≤ 32) && (pieces v 4 (v.length / 4)).all (fun e => decide (fld e 0 1 < 8) && fld e 1 1 == 0 && decide (10 ≤ fld e 2 2) && decide (fld e 2 2 ≤ 10000))
  if ok then ((s.setBlob (E.SLICE_PLAN n) v).updateGaps n, 0) else (s, invalid)

/-! Drains and stalls -/

/-- JOB_DRAIN takes effect at the next action 8 (R332). -/
def State.jobDrain (s : State) (n : Nat) (v : List Byte) : State × Nat := (s.onJob n (leNat v % 8) (fun x => { x with drainReq := true }), 0)
/-- JOB_DRAIN. -/
def execJobDrain (r : Rq) (n : Fin 12) (v : List Byte) (s : State) : Host.Outcome State Fault Refusal :=
  .next (s.write r (E.JOB_DRAIN n) v (fun _ s => s.jobDrain n v))

/-- LR_RESUME: a stalled job runs again, and its ATTEMPT counts toward a new limit (R389). -/
def State.lrResume (s : State) (n : Nat) (v : List Byte) : State × Nat :=
  let j := leNat v % 8
  (if s.lr n j 10 1 = 2 then (s.onJob n j (fun x => { x with lrBase := s.lrAttempt n j, resumed := true })).setLr n j 10 1 1 else s, 0)
/-- LR_RESUME. -/
def execLrResume (r : Rq) (n : Fin 12) (v : List Byte) (s : State) : Host.Outcome State Fault Refusal :=
  .next (s.write r (E.LR_RESUME n) v (fun _ s => s.lrResume n v))

/-! Weight sets (R285 to R299) -/

/-- The manifest obeys R285 and R286; a template has zero digests (R394). -/
def manifestOk (m : List Byte) (template : Bool) : Bool :=
  let ranks := mfRanks m
  let cnt := mfCount m
  let es := (List.range cnt).map (mfEntry m)
  decide (128 ≤ m.length) && fld m 0 4 == 0x54455357 && fld m 4 2 == 1 && decide (1 ≤ ranks) && decide (ranks ≤ 12) && fld m 7 1 == 0 && decide (1 ≤ cnt) && decide (cnt ≤ 65536) &&
  fld m 0x0C 4 == 0 && fld m 0x18 8 == 0 && allZero (bytesAt m 0x50 48) && (List.range 12).all (fun k => decide (k < ranks) || mfPages m k == 0) && m.length == 128 + 64 * cnt &&
  es.all (fun e => decide (1 ≤ mePages e) && decide (mePages e ≤ 262144) && decide (meRank e < ranks) && fld e 0x35 1 == 0 && meOff e % 4096 == 0 &&
    decide (meOff e + 4096 * mePages e ≤ 4096 * mfPages m (meRank e)) && (!template || allZero (meDigest e))) &&
  es.zipIdx.all (fun a => es.zipIdx.all (fun b => decide (b.2 ≤ a.2) || meRank a.1 != meRank b.1 || apart (meOff a.1, 4096 * mePages a.1) (meOff b.1, 4096 * mePages b.1)))

/-- A slot in state REGISTERED. -/
def registered (m : List Byte) (backed : Bool) (sources : List Byte) : WSet :=
  { st := 1, backed := backed, man := m, digest := Config.sha384 m, shards := List.replicate (mfCount m) 0, sources := sources }

/-- WSET_REGISTER: the busy check comes first (R287). -/
def State.wsetRegister (s : State) (n : Nat) : State × Nat :=
  match s.namedSet n with
  | none => (s, invalid)
  | some w =>
    let m := s.blob (E.WSET_MANIFEST n)
    if (s.wset n w).st ≠ 0 then (s, busy)
    else if !manifestOk m false || mfRanks m != (s.ricksOf n).length || (List.range 8).any (fun v => (s.wset n v).st != 0 && (s.wset n v).digest == Config.sha384 m) then (s, invalid)
    else (s.onWset n w (fun x => registered m ((s.num (E.WSET_SLOT n)).testBit 7) x.sources), 0)
/-- WSET_REGISTER. -/
def execWsetRegister (r : Rq) (n : Fin 12) (s : State) : Host.Outcome State Fault Refusal :=
  .next (s.command r (E.WSET_REGISTER n) [] 0 (fun _ s => s.wsetRegister n))

/-- An armed turn targets a slot (R397). -/
def State.turnTargets (s : State) (n w : Nat) : Bool := (s.turn n).active && tpRecv (s.turn n).img && tpSet (s.turn n).img == w

/-- A set's spans are given, its IN_S shards copied in and its ABSENT shards fetched; `none` while it waits for an eviction copy (R295). -/
def State.fetchSet (s : State) (n w : Nat) : State × Option Nat :=
  let x := s.wset n w
  if x.evicting then (s, none)
  else if !x.shards.any (fun b => b % 16 == 0 || b % 16 == 3) ∧ x.st ≠ 1 then (s, some 0)
  else
    let ok := s.createOk n w
    if ok.1 = false then (s, some quotaErr) else if ok.2 = false then (s, some invalid)
    else match s.seekRoom n (s.spanNeeds n w) with
      | (s1, none) => (s1, none)
      | (_, some (.inr c)) => (s, some c)
      | (s1, some (.inl offs)) =>
        let s2 := s1.giveSpans n w offs
        let s3 := if x.st = 5 ∨ x.st = 6 then s2.copyIn n w else s2
        ((s3.wantAll n w).wakePart n 2, some 0)

/-- WSET_FETCH. -/
def State.wsetFetch (s : State) (n : Nat) : State × Option Nat :=
  match s.namedSet n with
  | none => (s, some invalid)
  | some w =>
    let x := s.wset n w
    if s.partReady n = false then (s, some stateErr)
    else if x.st = 0 ∨ x.st = 7 then (s, some invalid)
    else if s.turnTargets n w then (s, some busy)
    else s.fetchSet n w
/-- WSET_FETCH. -/
def execWsetFetch (r : Rq) (n : Fin 12) (s : State) : Host.Outcome State Fault Refusal :=
  .next (s.request r opCmd (E.WSET_FETCH n) (fun _ s => s.settleOr (.fetch r n) (s.wsetFetch n)))

/-- WSET_RELEASE (R290). -/
def State.wsetRelease (s : State) (n : Nat) : State × Nat :=
  match s.namedSet n with
  | none => (s, invalid)
  | some w =>
    let x := s.wset n w
    if s.wsetBound n w ∨ x.pinned ∨ (List.range 8).any (fun j => (s.job n j).pendSwitch == some w) ∨ s.turnTargets n w then (s, busy)
    else
      let s1 := forAll (x.regions.filter (fun g => decide (g < 256) && rgLen (s.region n g) != 0)) (fun g s => s.eraseRegion n g) s
      ({ s1 with wsets := s1.wsets.del (n * 8 + w), flights := s1.flights.filter (fun f => !(f.2.part == n && match f.2.use with | .shard v _ _ => v == w | _ => false)) }, 0)
/-- WSET_RELEASE. -/
def execWsetRelease (r : Rq) (n : Fin 12) (s : State) : Host.Outcome State Fault Refusal :=
  .next (s.command r (E.WSET_RELEASE n) [] 0 (fun _ s => s.wsetRelease n))

/-- Source records (Table 10-6). -/
def sourcesOk (v : List Byte) : Bool :=
  (pieces v 32 4).all (fun b => decide (fld b 0 1 ≤ 2) && (fld b 0 1 == 0 || (fld b 1 3 == 0 && fld b 0x0E 2 == 0 && fld b 0x18 8 == 0)))

/-- WSET_SOURCES reaches the slot that WSET_SLOT names (R294). -/
def State.wsetSources (s : State) (n : Nat) (v : List Byte) : State × Nat :=
  match s.namedSet n with
  | none => (s, invalid)
  | some w => if sourcesOk v then (s.onWset n w (fun x => { x with sources := v }), 0) else (s, invalid)

/-! Epochs (R304, R305) -/

/-- EPOCH_SWITCH. -/
def State.epochSwitch (s : State) (n : Nat) (v : List Byte) : State × Nat :=
  let x := leNat v
  let j := x % 8
  let w := bits x 10 8
  let cur := s.jobSet n j
  let pend := (List.range 8).filter (fun q => (s.job n q).pendSwitch.isSome)
  if s.kindled ∧ s.kindPart = n then (s, busy)
  else if x ≠ j + 256 * w ∨ (s.wset n w).st = 0 ∨ (cur ≠ 0xFF ∧ mfLayout (s.wset n cur).man ≠ mfLayout (s.wset n w).man) ∨ 2 ^ 32 ≤ s.num (E.EPOCH_COUNTER n) + 1 + pend.length then (s, invalid)
  else if (s.wset n w).st ≠ 3 ∨ (s.wset n w).pinned ∨ (s.job n j).pendSwitch.isSome ∨ ((s.turn n).active ∧ tpRecv (s.turn n).img ∧ tpGen (s.turn n).img = j) then (s, busy)
  else ((s.onJob n j (fun y => { y with pendSwitch := some w })).setNum (E.SWITCH_PENDING n) (s.num (E.SWITCH_PENDING n) ||| 2 ^ j), 0)
/-- EPOCH_SWITCH. -/
def execEpochSwitch (r : Rq) (n : Fin 12) (v : List Byte) (s : State) : Host.Outcome State Fault Refusal :=
  .next (s.write r (E.EPOCH_SWITCH n) v (fun _ s => s.epochSwitch n v))

/-! Turns (R393 to R397, R412) -/

/-- Bytes of the parts of a plan's body. -/
def tpBodyLen (i : List Byte) : Nat :=
  let m := mfCount (tpTail i)
  16 * tpMembers i + 32 * tpSendCount i + 8 * tpSlotCount i + if tpRecv i then 128 + 64 * m + roundUp (2 * m) 8 else 0

/-- Check 1: header, member table, send entries, counts (Tables 14-1 to 14-3). -/
def planForm (i : List Byte) : Bool :=
  let ms := tpMembers i
  let recv := tpRecv i
  let send := tpSend i
  let shards := mfCount (tpTail i)
  let named := ((List.range shards).map (tpSource i)).eraseDups
  decide (144 ≤ i.length) && fld i 0 4 == 0x4E525554 && fld i 4 2 == 1 && decide (1 ≤ ms) && decide (ms ≤ 1024) && decide (tpMember i < ms) &&
  decide (1 ≤ fld i 0x0A 1) && decide (fld i 0x0A 1 < 4) && decide (fld i 0x0B 1 < 4) && fld i 0x0F 1 == 0 &&
  (if send then decide (tpLearn i < 8) else tpLearn i == 0xFF && tpSendCount i == 0) &&
  (if recv then decide (tpGen i < 8) && decide (tpSet i < 8) else tpGen i == 0xFF && tpSet i == 0xFF && tpLayout i == 0 && tpSources i == 0) &&
  decide (tpCounters i ≤ 4096) && fld i 0x38 8 == tpBodyLen i && i.length == 0x90 + tpBodyLen i + 3373 && (!recv || tpSources i == named.length) &&
  (List.range ms).all (fun m => let e := tpMemberRec i m; decide (fld e 0 1 ≤ 2) && decide (1 ≤ fld e 2 1) && decide (fld e 2 1 < 4) && allZero (bytesAt e 3 5) && (fld e 0 1 != 0 || fld e 8 8 == 0)) &&
  (List.range (tpSendCount i)).all (fun k => let e := tpEntry i k; decide (fld e 0 2 < tpCounters i) && decide (fld e 2 2 < ms) && decide (1 ≤ fld e 4 4) && decide (fld e 4 4 ≤ 65535) && fld e 0x18 8 == 0)

/-- The signature block of an image verifies under a signer credential of a tenant (R52, R496). -/
def State.signedBy (s : State) (img : List Byte) (tenant signer body : Nat) : Bool :=
  match s.slotOf tenant with
  | none => false
  | some t => (s.slotCreds t).any (fun c => crRole c == 4 && crId c == signer && Config.signaturesOk c (img.take body) (bytesAt img body 3373))

/-- An exchange attempt of a job runs, or waits for its verdict. -/
def State.attemptRuns (s : State) (n j : Nat) : Bool :=
  (s.part n).job == j && exIs (s.exchange n j (s.part n).kind) && (match (s.part n).phase with | .running => true | .verdict _ _ => true | _ => false)

/-- Check 5, of a sender. -/
def State.planSender (s : State) (n : Nat) (i : List Byte) : Bool :=
  let j := tpLearn i
  cdKind (s.job n j).img == 2 && s.loaded n j && (s.exchanges n j).any (fun r => fld r 4 2 == tpGroup i) && decide (s.lrTstep n j ≤ tpTstep i) &&
  !(s.lrTstep n j == tpTstep i && (s.lrAttempt n j != 0 || s.attemptRuns n j)) &&
  (List.range (tpSendCount i)).all (fun k => let e := tpEntry i k
    match s.rangeRegion n (fld e 0x10 8) (4096 * fld e 0x0C 4) with | some r => rgClass (s.region n r) == 0 | none => false)

/-- Check 6, of a receiver. -/
def State.planReceiver (s : State) (n : Nat) (i : List Byte) : Bool :=
  let j := tpGen i
  let w := s.jobSet n j
  let m := mfCount (tpTail i)
  s.loaded n j && cdKind (s.job n j).img == 1 && (w == 0xFF || mfLayout (s.wset n w).man == tpLayout i) && (s.job n j).pendSwitch.isNone &&
  manifestOk (tpTemplate i) true && (List.range m).all (fun k => decide (tpSource i k < tpMembers i)) && allZero ((tpTail i).drop (128 + 64 * m + 2 * m) |>.take (roundUp (2 * m) 8 - 2 * m)) &&
  mfRanks (tpTemplate i) == (s.ricksOf n).length && !((s.plan n).length != 0 && (s.plan n).all (fun e => e.1 == j))

/-- The code of the first of checks 1 to 8 that fails (Table 14-4). -/
def State.planCode (s : State) (n : Nat) (i : List Byte) : Nat :=
  let body := 0x90 + tpBodyLen i
  if !planForm i then 0x0201
  else if bytesAt i 0x40 48 ≠ Config.sha384 (bytesAt i 0x90 (tpBodyLen i)) then 0x0202
  else if !s.signedBy i (fld i 0x70 16) (fld i 0x80 8) body then 0x0203
  else if fld i 0x70 16 ≠ s.tenantOf n then 0x0204
  else if tpSend i ∧ !s.planSender n i then 0x0205
  else if tpRecv i ∧ !s.planReceiver n i then 0x0206
  else if tpRecv i ∧ (s.wset n (tpSet i)).st ≠ 0 then 0x0207
  else if !s.trigFits n 64 (tpCounters i) (tpSendCount i + 16) ∨ !s.slotsOk n (tpSlots i) (s.cordSlots n ++ s.groupSlotsBut n 64) then 0x0208
  else 0

/-- The turn is ARMED (R396): it claims, its target is FILLING with every shard ABSENT. -/
def State.turnArmed (s : State) (n : Nat) (i : List Byte) (offs : List Nat) : State :=
  let s1 := if tpRecv i then (s.giveSpans n (tpSet i) offs).onWset n (tpSet i) (fun x => { x with st := 2 }) else s
  (((s1.onTurn n (fun t => { img := i, st := 1, armAt := s.now, hist := t.hist, tokCount := t.tokCount })).setNum (E.TURN_RESULT n) 0).raise 0xEE01 (scopeP n)).wakePart n 2

/-- TURN_ARM: `none` while its regions wait for an eviction copy. -/
def State.turnArm (s : State) (n : Nat) : State × Option Nat :=
  let i := s.blob (E.TURN_PLAN n)
  let fails (s : State) (c : Nat) : State × Option Nat := (s.setNum (E.TURN_RESULT n) c, some 0)
  if s.kindled ∧ s.kindPart = n then (s, some busy)
  else
    let c := s.planCode n i
    if c ≠ 0 then fails s c
    else if tpRecv i = false then (if (s.turn n).active then fails s 0x020A else (s.turnArmed n i [], some 0))
    else
      let w := tpSet i
      let s1 := s.onWset n w (fun x => { registered (tpTemplate i) (tpBacked i) x.sources with digest := [] })
      let needs := s1.spanNeeds n w
      let ok := s1.createOk n w
      let never : Bool := match s1.room n needs with | .never _ => true | _ => false
      if ok.1 = false ∨ ok.2 = false ∨ never then fails s 0x0209
      else if (s.turn n).active then fails s 0x020A
      else match s1.seekRoom n needs with
        | (s2, none) => (s2.onWset n w (fun _ => s.wset n w), none)
        | (_, some (.inr _)) => fails s 0x0209
        | (s2, some (.inl offs)) => (s2.turnArmed n i offs, some 0)
/-- TURN_ARM. -/
def execTurnArm (r : Rq) (n : Fin 12) (s : State) : Host.Outcome State Fault Refusal :=
  .next (s.request r opCmd (E.TURN_ARM n) (fun _ s => s.settleOr (.arm r n) (s.turnArm n)))

/-- TURN_DISARM (R412). -/
def execTurnDisarm (r : Rq) (n : Fin 12) (s : State) : Host.Outcome State Fault Refusal :=
  .next (s.command r (E.TURN_DISARM n) [] 0 (fun _ s => (s.turnFail n 3, 0)))

/-! Commands that waited (R303) -/

/-- A waiting command is run again: it answers, or goes on waiting. -/
def State.retry (s : State) (w : Waiting) : State :=
  let s0 := { s with waits := s.waits.filter (fun x => !(x.ses == w.ses && x.id == w.id)) }
  let finish (r : Rq) (op key : Nat) (x : State × Option Nat) : State :=
    match s0.settleOr w x with
    | (s1, some a) => s1.respond r op key (tyOf key) a
    | (s1, none) => s1
  match w with
  | .region r op n v => finish r op (E.REGION_CREATE n) (s0.regionCreate n v)
  | .fetch r n => finish r opCmd (E.WSET_FETCH n) (s0.wsetFetch n)
  | .arm r n => finish r opCmd (E.TURN_ARM n) (s0.turnArm n)

/-- Time that the eviction copies of a set take at least: the lengths over the partition's tier S bandwidth, 256 GB/s for each rick (R303, Table 01-5). -/
def State.evictNs (s : State) (n w : Nat) : Nat :=
  sumOf (s.liveRegions n w) (fun r => rgLen (s.region n r)) / (256 * max 1 (s.ricksOf n).length)

/-- EVICTION_COPY_COMPLETE: the set is EVICTED or PARTIAL, its tier B spans are free, and what waited for them goes on. -/
def execEvictionCopyComplete (n : Fin 12) (w : Fin 8) (t : Nat) (s : State) : Host.Outcome State Fault Refusal :=
  let s1 := s.at t
  let x := s1.wset n w
  .next (if x.evicting ∧ x.evictAt + s1.evictNs n w ≤ s1.now then
      let s2 := s1.finishEvict n w
      s2.waits.foldl State.retry s2
    else s1)

end Sys2Proof.Machine
end

