-- ==== Sys2Proof/Machine/CoreAlu.lean ====
section
/-!
DEFINITION. Arithmetic, FP32, memory and branch instructions of the hearth core (Table 03-3, R96, R97, R193).
-/
namespace Sys2Proof.Machine

/-- ADD (R96). -/
def execAdd (g : Fin 216) (s : State) : Host.Outcome State Fault Refusal :=
  .next (coreRR s g .add 1 (fun b c => b + c))

/-- SUB (R96). -/
def execSub (g : Fin 216) (s : State) : Host.Outcome State Fault Refusal :=
  .next (coreRR s g .sub 1 (fun b c => b - c))

/-- AND (R96). -/
def execAnd (g : Fin 216) (s : State) : Host.Outcome State Fault Refusal :=
  .next (coreRR s g .and 1 (fun b c => b &&& c))

/-- OR (R96). -/
def execOr (g : Fin 216) (s : State) : Host.Outcome State Fault Refusal :=
  .next (coreRR s g .or 1 (fun b c => b ||| c))

/-- XOR (R96). -/
def execXor (g : Fin 216) (s : State) : Host.Outcome State Fault Refusal :=
  .next (coreRR s g .xor 1 (fun b c => b ^^^ c))

/-- SHL by C[5:0] (R96). -/
def execShl (g : Fin 216) (s : State) : Host.Outcome State Fault Refusal :=
  .next (coreRR s g .shl 1 (fun b c => b <<< shAmt c))

/-- SHR, logical, by C[5:0] (R96). -/
def execShr (g : Fin 216) (s : State) : Host.Outcome State Fault Refusal :=
  .next (coreRR s g .shr 1 (fun b c => b >>> shAmt c))

/-- SAR, arithmetic, by C[5:0] (R96). -/
def execSar (g : Fin 216) (s : State) : Host.Outcome State Fault Refusal :=
  .next (coreRR s g .sar 1 (fun b c => b.sshiftRight (shAmt c)))

/-- MUL: the low 64 bits of the signed product (R96). -/
def execMul (g : Fin 216) (s : State) : Host.Outcome State Fault Refusal :=
  .next (coreRR s g .mul 3 (fun b c => b * c))

/-- MULH: the high 64 bits of the signed product (R96). -/
def execMulh (g : Fin 216) (s : State) : Host.Outcome State Fault Refusal :=
  .next (coreRR s g .mulh 3 (fun b c => BitVec.ofInt 64 (b.toInt * c.toInt / 2 ^ 64)))

/-- SLT (R96). -/
def execSlt (g : Fin 216) (s : State) : Host.Outcome State Fault Refusal :=
  .next (coreRR s g .slt 1 (fun b c => if b.slt c then 1 else 0))

/-- SLTU (R96). -/
def execSltu (g : Fin 216) (s : State) : Host.Outcome State Fault Refusal :=
  .next (coreRR s g .sltu 1 (fun b c => if b.ult c then 1 else 0))

/-- MIN, signed (R96). -/
def execMin (g : Fin 216) (s : State) : Host.Outcome State Fault Refusal :=
  .next (coreRR s g .min 1 (fun b c => if c.slt b then c else b))

/-- MAX, signed (R96). -/
def execMax (g : Fin 216) (s : State) : Host.Outcome State Fault Refusal :=
  .next (coreRR s g .max 1 (fun b c => if b.slt c then c else b))

/-- FADD, to nearest even (R193). -/
def execFadd (g : Fin 216) (s : State) : Host.Outcome State Fault Refusal :=
  .next (coreFP s g .fadd (fun b c => f32c (b.add c)))

/-- FSUB (R193). -/
def execFsub (g : Fin 216) (s : State) : Host.Outcome State Fault Refusal :=
  .next (coreFP s g .fsub (fun b c => f32c (b.sub c)))

/-- FMUL (R193). -/
def execFmul (g : Fin 216) (s : State) : Host.Outcome State Fault Refusal :=
  .next (coreFP s g .fmul (fun b c => f32c (b.mul c)))

/-- FMIN (R193). -/
def execFmin (g : Fin 216) (s : State) : Host.Outcome State Fault Refusal :=
  .next (coreFP s g .fmin (fun b c => f32c (b.min c)))

/-- FMAX (R193). -/
def execFmax (g : Fin 216) (s : State) : Host.Outcome State Fault Refusal :=
  .next (coreFP s g .fmax (fun b c => f32c (b.max c)))

/-- FLT: 1 or 0; false when an operand is a NaN (R96). -/
def execFlt (g : Fin 216) (s : State) : Host.Outcome State Fault Refusal :=
  .next (coreRR s g .flt 4 (fun b c => if (fpVal b).lt (fpVal c) then 1 else 0))

/-- FCVTI (R193). -/
def execFcvti (g : Fin 216) (s : State) : Host.Outcome State Fault Refusal :=
  .next (coreRR s g .fcvti 4 (fun b _ => fpRes (f32c (.ofInt b.toInt))))

/-- FCVTF (R193). -/
def execFcvtf (g : Fin 216) (s : State) : Host.Outcome State Fault Refusal :=
  .next (coreRR s g .fcvtf 4 (fun b _ => fcvtf (fpVal b)))

/-- ADDI (R96). -/
def execAddi (g : Fin 216) (s : State) : Host.Outcome State Fault Refusal :=
  .next (coreRI s g .addi (fun b i => b + i))

/-- ANDI (R96). -/
def execAndi (g : Fin 216) (s : State) : Host.Outcome State Fault Refusal :=
  .next (coreRI s g .andi (fun b i => b &&& i))

/-- ORI (R96). -/
def execOri (g : Fin 216) (s : State) : Host.Outcome State Fault Refusal :=
  .next (coreRI s g .ori (fun b i => b ||| i))

/-- XORI (R96). -/
def execXori (g : Fin 216) (s : State) : Host.Outcome State Fault Refusal :=
  .next (coreRI s g .xori (fun b i => b ^^^ i))

/-- SHLI (R96). -/
def execShli (g : Fin 216) (s : State) : Host.Outcome State Fault Refusal :=
  .next (coreRI s g .shli (fun b i => b <<< shAmt i))

/-- SHRI (R96). -/
def execShri (g : Fin 216) (s : State) : Host.Outcome State Fault Refusal :=
  .next (coreRI s g .shri (fun b i => b >>> shAmt i))

/-- SARI (R96). -/
def execSari (g : Fin 216) (s : State) : Host.Outcome State Fault Refusal :=
  .next (coreRI s g .sari (fun b i => b.sshiftRight (shAmt i)))

/-- MOVH: A ← (A shifted left 20) OR IMM20 (R96). -/
def execMovh (g : Fin 216) (s : State) : Host.Outcome State Fault Refusal :=
  .next (coreAlu s g .movh 1 (fun h w => (h.reg (wA w) <<< 20) ||| BitVec.ofNat 64 (wImm20 w)))

/-- LD64 (R97). -/
def execLd64 (g : Fin 216) (s : State) : Host.Outcome State Fault Refusal :=
  .next (coreLoad s g .ld64 8)

/-- LD32 (R97). -/
def execLd32 (g : Fin 216) (s : State) : Host.Outcome State Fault Refusal :=
  .next (coreLoad s g .ld32 4)

/-- LD16 (R97). -/
def execLd16 (g : Fin 216) (s : State) : Host.Outcome State Fault Refusal :=
  .next (coreLoad s g .ld16 2)

/-- LD8 (R97). -/
def execLd8 (g : Fin 216) (s : State) : Host.Outcome State Fault Refusal :=
  .next (coreLoad s g .ld8 1)

/-- ST64 (R92, R97). -/
def execSt64 (g : Fin 216) (s : State) : Host.Outcome State Fault Refusal :=
  .next (coreStore s g .st64 8)

/-- ST32 (R92, R97). -/
def execSt32 (g : Fin 216) (s : State) : Host.Outcome State Fault Refusal :=
  .next (coreStore s g .st32 4)

/-- ST16 (R92, R97). -/
def execSt16 (g : Fin 216) (s : State) : Host.Outcome State Fault Refusal :=
  .next (coreStore s g .st16 2)

/-- ST8 (R92, R97). -/
def execSt8 (g : Fin 216) (s : State) : Host.Outcome State Fault Refusal :=
  .next (coreStore s g .st8 1)

/-- BEQ (R96). -/
def execBeq (g : Fin 216) (s : State) : Host.Outcome State Fault Refusal :=
  .next (coreBranch s g .beq (fun a b => a == b))

/-- BNE (R96). -/
def execBne (g : Fin 216) (s : State) : Host.Outcome State Fault Refusal :=
  .next (coreBranch s g .bne (fun a b => a != b))

/-- BLT (R96). -/
def execBlt (g : Fin 216) (s : State) : Host.Outcome State Fault Refusal :=
  .next (coreBranch s g .blt (fun a b => a.slt b))

/-- BGE (R96). -/
def execBge (g : Fin 216) (s : State) : Host.Outcome State Fault Refusal :=
  .next (coreBranch s g .bge (fun a b => !a.slt b))

/-- BLTU (R96). -/
def execBltu (g : Fin 216) (s : State) : Host.Outcome State Fault Refusal :=
  .next (coreBranch s g .bltu (fun a b => a.ult b))

/-- BGEU (R96). -/
def execBgeu (g : Fin 216) (s : State) : Host.Outcome State Fault Refusal :=
  .next (coreBranch s g .bgeu (fun a b => !a.ult b))

/-- JMP: A ← next address; jump to TGT14 (R96). -/
def execJmp (g : Fin 216) (s : State) : Host.Outcome State Fault Refusal :=
  .next (coreRun s g .jmp (fun s n _ w =>
    let h := s.hearth g
    (s.setHearth g (h.setReg (wA w) (BitVec.ofNat 64 h.nextPc))).jump n g 0x1E (wTgt w) 2))

/-- JR: A ← next address; jump to B[13:0], B read before A is written (R96). -/
def execJr (g : Fin 216) (s : State) : Host.Outcome State Fault Refusal :=
  .next (coreRun s g .jr (fun s n _ w =>
    let h := s.hearth g
    (s.setHearth g (h.setReg (wA w) (BitVec.ofNat 64 h.nextPc))).jump n g 0x1F ((h.reg (wB w)).toNat % 16384) 3))

/-- BSUM (R102). -/
def execBsum (g : Fin 216) (s : State) : Host.Outcome State Fault Refusal :=
  .next (coreSummary s g .bsum wYsb)

/-- SRD (R101). -/
def execSrd (g : Fin 216) (s : State) : Host.Outcome State Fault Refusal :=
  .next (coreSummary s g .srd wYsr)

/-- SFLG (R101). -/
def execSflg (g : Fin 216) (s : State) : Host.Outcome State Fault Refusal :=
  .next (coreSummary s g .sflg wYsr)

end Sys2Proof.Machine
end

