-- ==== Sys2Proof/Machine/CoreSystem.lean ====
section
/-!
DEFINITION. Waiting, barriers, polls, control registers and the end of a step, as the hearth core's instructions
and the events that release it (R83, R104 to R109, R113).
-/
namespace Sys2Proof.Machine

/-- FENCE: stalls until every engine of MASK is idle (Table 03-3). -/
def execFence (g : Fin 216) (s : State) : Host.Outcome State Fault Refusal :=
  .next (coreRun s g .fence (fun s _ _ w =>
    s.onHearth g (fun h =>
      if h.idleMask (wMaskFc w) then h.retire h.nextPc 1 else { h with stall := .fence (wMaskFc w) h.cycle })))

/-- WAITC: a schedule fault when CYCLE already exceeds its operand, a stall below it (R105). -/
def execWaitc (g : Fin 216) (s : State) : Host.Outcome State Fault Refusal :=
  .next (coreRun s g .waitc (fun s n _ w =>
    let h := s.hearth g
    if wCycle w < h.cycle then (s.scheduleFault n (some g)).onHearth g (fun h => h.retire h.nextPc 1)
    else if h.cycle + 1 < wCycle w then s.setHearth g { h with stall := .waitc (wCycle w) h.cycle }
    else s.setHearth g (h.retire h.nextPc 1)))

/-- WAITC_RELEASE: CYCLE reaches the operand of a stalled WAITC (R105). -/
def execWaitcRelease (g : Fin 216) (s : State) : Host.Outcome State Fault Refusal :=
  .next (
    let h := s.hearth g
    match s.partOf (g / 18), h.stall with
    | some n, .waitc c since =>
      if s.haltedNow n then s else
      let iaddr := h.pc
      (s.setHearth g (({ h with stall := .none, pc := h.nextPc, cycle := c }).count 1 1 |>.count 5 (c - since))).coreRecord n g 0x06 0 iaddr (c - since)
    | _, _ => s)

/-- BAR: enters partition barrier C with a combine (R104); a hearth that waits in another barrier makes it a
barrier trap on every hearth. -/
def execBar (g : Fin 216) (s : State) : Host.Outcome State Fault Refusal :=
  .next (coreRun s g .bar (fun s n _ w =>
    let h := s.hearth g
    let clash := (s.hearthsOf n).any (fun l => match (s.hearth (s.phys l)).stall with | .bar c _ _ _ _ => c != wC w | _ => false)
    if clash then s.trapAll n 0x06 (wC w) h.cycle
    else s.setHearth g { h with stall := .bar (wC w) (wFn w) (wA w) (h.reg (wB w)).toNat h.cycle }))

/-- The combination of the values of a barrier (Table 03-3): NONE, AND, OR, MAXU, MINU, ADD. NONE, and hearths that name different
combines, write a value the manual does not name (log 11). -/
def barCombine (fn : Nat) (free : W64) (l : List W64) : W64 :=
  match fn, l with
  | 1, x :: r => r.foldl (fun a b => a &&& b) x
  | 2, x :: r => r.foldl (fun a b => a ||| b) x
  | 3, x :: r => r.foldl (fun a b => if a.ult b then b else a) x
  | 4, x :: r => r.foldl (fun a b => if b.ult a then b else a) x
  | 5, x :: r => r.foldl (fun a b => a + b) x
  | _, _ => free

/-- BAR_COMPLETE: every active hearth waits in the same barrier; the combined value is written to A and every core
goes on at the latest arrival (R104). -/
def execBarComplete (n : Fin 12) (s : State) : Host.Outcome State Fault Refusal :=
  .next (
    let hs := (s.hearthsOf n).map (fun l => s.phys l)
    let waits := hs.filterMap (fun g => match (s.hearth g).stall with | .bar c fn a v since => some (c, fn, a, v, since) | _ => none)
    if hs.isEmpty || waits.length != hs.length || (s.part n).phase != .running || s.haltedNow n then s else
    let cyc := waits.foldl (fun m x => max m x.2.2.2.2) 0
    let fns := waits.map (fun x => x.2.1)
    let fn := if fns.all (fun f => fns.head? == some f) then (fns.head?).getD 0 else 0
    let fd := s.draw
    let r := barCombine fn fd.1 (waits.map (fun x => BitVec.ofNat 64 x.2.2.2.1))
    forAll hs (fun g s =>
      match (s.hearth g).stall with
      | .bar c _ a _ since =>
        let s1 := s.onHearth g (fun h => { h with cycle := cyc })
        (s1.coreRecord n g 0x05 c (s.hearth g).pc r.toNat).onHearth g (fun h =>
          ((({ h with stall := .none }).setReg a r).retire h.nextPc 1).count 6 (cyc - since))
      | _ => s) fd.2)

/-- POLL: takes messages from queue C[3:0], at most FN, at a poll point of the POLL section (R83, Table 03-8). -/
def execPoll (g : Fin 216) (s : State) : Host.Outcome State Fault Refusal :=
  .next (coreRun s g .poll (fun s n l w =>
    let h := s.hearth g
    match Config.pollPoint (cdPoll (s.job n (s.part n).job).img) l h.pc with
    | none => s.coreTrap n l g 0x01 w.toNat
    | some (_, slots, cycles) =>
      let x := s.poll n (wC w % 16) (min (wFn w) slots)
      (x.1.onPart n (fun p => { p with polled := p.polled || !x.2.isEmpty })).onHearth g
        (fun h => (h.setReg (wA w) (BitVec.ofNat 64 x.2.length)).retire h.nextPc cycles)))

/-- The value of a control register (Table 03-7). -/
def State.csr (s : State) (n l g num : Nat) : Option Nat :=
  let h := s.hearth g
  match num with
  | 0 => some h.cycle
  | 1 => some (micro (max s.now (s.cycleTime n h.cycle)))
  | 2 => some (s.num (E.STEP_COUNT n))
  | 3 => some l
  | 4 => some h.kind
  | 5 => some (s.part n).stepEpoch
  | 6 => some ((if h.nan0 then 1 else 0) + (if h.nan1 then 2 else 0))
  | _ => none

/-- CSRR: an unlisted number is an illegal instruction (R109). -/
def execCsrr (g : Fin 216) (s : State) : Host.Outcome State Fault Refusal :=
  .next (coreRun s g .csrr (fun s n l w =>
    match s.csr n l g (bits w.toNat 13 0) with
    | some v => s.onHearth g (fun h => (h.setReg (wA w) (BitVec.ofNat 64 v)).retire h.nextPc 1)
    | none => s.coreTrap n l g 0x01 w.toNat))

/-- CSRW: only NANSTAT is written, a 1 clearing its bit; any other number is an illegal instruction (R109). -/
def execCsrw (g : Fin 216) (s : State) : Host.Outcome State Fault Refusal :=
  .next (coreRun s g .csrw (fun s n l w =>
    if bits w.toNat 13 0 = 6 then
      s.onHearth g (fun h =>
        let v := (h.reg (wB w)).toNat
        ({ h with nan0 := h.nan0 && !v.testBit 0, nan1 := h.nan1 && !v.testBit 1 }).retire h.nextPc 1)
    else s.coreTrap n l g 0x01 w.toNat))

/-- NOTE: one note for each hearth and step; further ones are dropped and counted (R113). -/
def execNote (g : Fin 216) (s : State) : Host.Outcome State Fault Refusal :=
  .next (coreRun s g .note (fun s n l w =>
    let h := s.hearth g
    let s1 := s.setHearth g ({ h with noted := true }.retire h.nextPc 1)
    if h.noted then s1.bump (E.NOTES_DROPPED n)
    else s1.raise 0xE302 (scopeP n) [bits w.toNat 13 0, l, h.pc, s.num (E.STEP_COUNT n)]))

/-- STEPEND: an open attention chain is an engine trap (R212); otherwise the core waits for its engines and enters
the end barrier naming S[B][5:0] (R107). -/
def execStepend (g : Fin 216) (s : State) : Host.Outcome State Fault Refusal :=
  .next (coreRun s g .stepend (fun s n l w =>
    let h := s.hearth g
    let kind := (h.reg (wB w)).toNat % 64
    if h.chainDesc.isSome then s.fatalTrap n l g 0x09 6 h.pc w.toNat 0 h.cycle
    else if h.idleMask 511 then s.enterEnd n l g kind w.toNat
    else s.setHearth g { h with stall := .stepend kind h.cycle }))

/-- RAKING_PIECE_START: at the start cycle of the next piece each core stops once its instruction completes; an
engine still busy is a schedule fault (R108). -/
def execRakingPieceStart (n : Fin 12) (t : Nat) (s : State) : Host.Outcome State Fault Refusal :=
  .next (
    let s0 := s.at t
    let p := s0.part n
    let idx := p.pieces
    match (s0.rakeStarts n)[idx]? with
    | none => s0
    | some c =>
      if p.phase != .running || p.inPiece || s0.haltedNow n then s0 else
      let s1 := s0.onPart n (fun p => { p with inPiece := true })
      forAll ((s1.hearthsOf n).map (fun l => s1.phys l)) (fun g s =>
        let busy := (List.range 9).any (fun e => ((s.hearth g).ops e).any (fun o => o.started && decide (c < o.busyEnd)))
        let s2 := (s.onHearth g (fun h => { h with piece := some idx, cycle := max h.cycle c })).coreRecord n g 0x08 0 0 idx
        if busy then s2.scheduleFault n (some g) else s2) s1)

/-- RAKING_PIECE_END: 5,000 ns later the cores go on; CYCLE kept counting (R108). -/
def execRakingPieceEnd (n : Fin 12) (t : Nat) (s : State) : Host.Outcome State Fault Refusal :=
  .next (
    let s0 := s.at t
    let p := s0.part n
    if !p.inPiece then s0 else
    let d := s0.num E.PIECE_NS * s0.clockMhz n / 1000
    forAll ((s0.hearthsOf n).map (fun l => s0.phys l)) (fun g s =>
      match (s.hearth g).piece with
      | none => s
      | some i =>
        let start := ((s.rakeStarts n)[i]?).getD 0
        (s.onHearth g (fun h => { h with piece := none, cycle := max h.cycle (start + d) })).coreRecord n g 0x08 1 0 i)
      (s0.onPart n (fun p => { p with inPiece := false, pieces := p.pieces + 1 })))

/-- SCHEDULE_FAULT: a hearth, a flue router or a DRAM controller sees an access outside its slot (R49); unit 0 the
hearth's banks, 1 its flue router, 2 its rick's DRAM controller (log 12). -/
def execScheduleFault (g : Fin 216) (unit : Nat) (_slot : Nat) (s : State) : Host.Outcome State Fault Refusal :=
  .next (
    match s.partOf (g / 18) with
    | none => s
    | some n =>
      if (s.part n).phase != .running then s
      else if unit = 0 then s.scheduleFault n (some g)
      else (s.scheduleFault n none).rickSched n (g / 18))

end Sys2Proof.Machine
end

