-- ==== Sys2Proof/Machine/Loads.lean ====
section
/-!
DEFINITION. The loader (R50 to R59, R61, R74, R76, R87, R267, R268, R323, R333, R353, R368, R370, R434, R655): LOAD and UNLOAD.
-/
namespace Sys2Proof.Machine

/-! The images of a cord -/

/-- The member images of a co-cord, first member first (R74). -/
def coMembers (i : List Byte) : List (List Byte) := cdSectionsOf i 0x0B
/-- The images that take job slots: the cord's own, or a co-cord's members. -/
def cordParts (i : List Byte) : List (List Byte) := if cdKind i = 3 then coMembers i else [i]
/-- Every image that the checks read: a co-cord's members are complete images (Table 02-3; log 64). -/
def cordImages (i : List Byte) : List (List Byte) := if cdKind i = 3 then i :: coMembers i else [i]
/-- The job slots that a LOAD fills. -/
def cordSlotsOf (i : List Byte) (j : Nat) : List Nat := if cdKind i = 3 then [(Config.memberSlots i).1, (Config.memberSlots i).2] else [j]
/-- Step kinds of a cord by their WCET records. -/
def cordSteps (i : List Byte) : List (List Byte) := let st := cdSection i 8; pieces st 32 (st.length / 32)
/-- The logical hearths of a cord's ricks. -/
def cordHearths (i : List Byte) : List Nat := (bitList (cdRickMask i) 12).flatMap (fun k => (List.range 16).map (fun h => 16 * k + h))
/-- A claim of Table 02-4 by its number (log 8). -/
def cdClaim (i : List Byte) (k : Nat) : Nat := Config.claim (cdSection i 0x0A) k
/-- Queues that a cord polls or names as REQQ (R655). -/
def cordQueues (i : List Byte) : List Nat :=
  (List.range 16).filter (fun q => Config.pollReads (cdPoll i) q || (Config.pollAdmission (cdPoll i)).any (fun a => adReqq a == q) ||
    (cordSteps i).any (fun r => (Config.pollStart (cdPoll i) (fld r 0 2)).any (fun x => x.1 == q)))

/-! Check 1 -/

/-- The sections that a kind of image must hold (Table 02-3). -/
def requiredSections (kind : Nat) : List Nat :=
  if kind = 1 then [1, 2, 3, 4, 5, 7, 8, 9, 10] else if kind = 2 then [1, 2, 3, 4, 5, 7, 8, 10] else [8, 10, 11]

/-- Header and section table (R50, R51). -/
def cordHeader (i : List Byte) : Bool :=
  let kind := cdKind i
  let fin := 0x80 + cdBody i
  let tys := (cdEntries i).map (fun e => e.1)
  decide (0x80 ≤ i.length) && fld i 0 4 == 0x44524F43 && fld i 4 2 == 1 && decide (1 ≤ kind) && decide (kind ≤ 3) && decide (cdRickMask i < 4096) &&
  decide (1 ≤ cdRickCount i) && decide (cdRickCount i ≤ 12) && cdRickCount i == popcount (cdRickMask i) 12 && decide (500 ≤ cdClock i) && decide (cdClock i ≤ 1100) &&
  decide (1 ≤ cdStepKinds i) && decide (cdStepKinds i ≤ 64) && decide (70000 ≤ cdPrologue i) && decide (cdPrologue i ≤ 2570000) && i.length == fin + 3373 &&
  decide (0x80 ≤ cdTable i) && decide (cdTable i + 16 * cdSections i ≤ fin) &&
  (List.range (cdSections i)).all (fun j => allZero (bytesAt i (cdTable i + 16 * j + 2) 6)) &&
  (cdEntries i).all (fun e => decide (1 ≤ e.1) && decide (e.1 ≤ 0x0B) && decide (0x80 ≤ e.2.1) && decide (e.2.1 + e.2.2 ≤ fin)) &&
  tys.all (fun t => (tys.filter (fun u => u == t)).length == (if t == 0x0B && kind == 3 then 2 else 1)) && (requiredSections kind).all (fun t => tys.contains t)

/-- The WCET records: one for each step kind (Table 02-5). -/
def stepsOk (i : List Byte) : Bool :=
  let l := cordSteps i
  let ids := l.map (fun r => fld r 0 2)
  (cdSection i 8).length == 32 * cdStepKinds i && ids.eraseDups.length == ids.length && l.all (fun r => decide (fld r 0 2 < 64) && fld r 0x14 4 == 0)

/-- The images of streams and scalar data fit their memories (Table 02-3). -/
def imagesOk (i : List Byte) : Bool :=
  cdKind i == 3 || (cordHearths i).all (fun l => decide ((Config.streamOf (cdSection i 1) l).length ≤ 16384) && decide ((Config.sdataOf (cdSection i 2) l).length ≤ 32768))

/-- Every step kind has one record, by its KIND_ID. -/
def onePerKind (i : List Byte) (l : List (List Byte)) : Bool :=
  l.length == (cordSteps i).length && (cordSteps i).all (fun r => (l.filter (fun a => fld a 0 2 == fld r 0 2)).length == 1)

/-- The admission records of a generation cord (R333, R353). -/
def admissionsOk (i : List Byte) : Bool :=
  let p := cdPoll i
  let l := Config.pollAdmission p
  let cap := (l.head?.map adCap).getD 0
  let q := (l.head?.map adReqq).getD 0
  onePerKind i l && l.any (fun a => adChunk a != 0) && decide (1 ≤ cap) && decide (cap ≤ 4096) && decide (q < 16) && !Config.pollReads p q &&
  (cordSteps i).all (fun r => (Config.pollStart p (fld r 0 2)).any (fun x => x.1 == q)) &&
  l.all (fun a => adCap a == cap && adReqq a == q && decide (1 ≤ adUres a) && decide (adUres a ≤ cap) && decide (1 ≤ adSpan a) && decide (adSpan a ≤ 9) && decide (adChunk a ≤ 8192) &&
    adHaddr a % 64 == 0 && decide (adHaddr a + 224 * cap ≤ 2 ^ 23) && allZero (bytesAt a 0x11 7))

/-- A tier B address within a USER region. -/
def State.inUser (s : State) (n ta len : Nat) : Bool :=
  taTier ta == 1 && (match s.rangeRegion n ta len with | some r => rgClass (s.region n r) == 0 | none => false)

/-- The exchange records of a learning cord (R368, Table 13-1). -/
def State.exchangesOk (s : State) (n : Nat) (i : List Byte) : Bool :=
  let l := Config.pollExchange (cdPoll i)
  let lim (v : Nat) : Bool := decide (1000 ≤ v) && decide (v ≤ 10000000)
  let grp := (l.head?.map (fun r => fld r 4 2)).getD 0
  let haddr := (l.head?.map (fun r => fld r 8 4)).getD 0
  l.isEmpty || (onePerKind i l && l.all (fun r =>
    let x := fld r 2 1 == 1
    decide (fld r 2 1 ≤ 1) && fld r 3 1 == 0 && fld r 4 2 == grp && decide (fld r 6 2 ≤ 64) && fld r 8 4 == haddr && haddr % 64 == 0 && decide (haddr + 64 ≤ 2 ^ 23) &&
    fld r 0x1C 4 == 0 && fld r 0x38 8 == 0 && (fld r 6 2 == 0 || s.inUser n (fld r 0x30 8) (512 * fld r 6 2)) &&
    (if x then decide (1 ≤ fld r 0x0C 4) && decide (fld r 0x0C 4 ≤ 65535) && lim (fld r 0x10 4) && lim (fld r 0x14 4) && s.inUser n (fld r 0x20 8) 64 && s.inUser n (fld r 0x28 8) 64
     else allZero (bytesAt r 0x0C 16))))

/-- Check 1 of one image. -/
def State.formOk (s : State) (n : Nat) (i : List Byte) : Bool :=
  cordHeader i && stepsOk i && imagesOk i && (cdSection i 6).length % 8 == 0 &&
  (cdKind i != 1 || admissionsOk i) && (cdKind i != 2 || s.exchangesOk n i)

/-- A co-cord's members: the first of kind 2, two job slots, and co-cord steps of one step of the first and one or more of the second (R74, R75). -/
def coForm (i : List Byte) : Bool :=
  cdKind i != 3 || (let m := Config.memberSlots i
    let ks := (coMembers i).map cdKind
    let st := Config.coSteps i
    decide (m.1 < 8) && decide (m.2 < 8) && m.1 != m.2 && (ks == [2, 1] || ks == [2, 2]) && (st.filter (fun x => x == 0)).length == 1 && st.all (fun x => decide (x ≤ 1)) && st.contains 1)

/-! Checks 10 and 11 (R55, R57, R61): times in units of 1 / (1000 f) ns, so that nothing is rounded -/

/-- Work of a step kind. -/
def workOf (i r : List Byte) : Nat := fld r 8 8 * 1000000 + cdClock i * (fld r 4 4 * cdCrossPs i + fld r 0x10 4 * cdHopPs i)
/-- Pieces that R57 asks for. -/
def piecesOf (i r : List Byte) : Nat := ceilDiv (workOf i r) (245000 * 1000 * cdClock i)
/-- The composed WCET of a step kind is within the declared one (R55). -/
def wcetOk (i r : List Byte) : Bool := decide (workOf i r + (piecesOf i r * 5000 + 1000000) * 1000 * cdClock i ≤ fld r 0x18 8 * 1000 * cdClock i)

/-- The work done before each piece and at the end is never more than 245 µs beyond the one before. -/
def gapsOk (lim : Nat) : Nat → List Nat → Bool
  | _, [] => true
  | at1, w :: r => decide (at1 ≤ w) && decide (w ≤ at1 + lim) && gapsOk lim w r

/-- The raking pieces of a step kind (R61). -/
def rakeOk (i r : List Byte) : Bool :=
  let f := cdClock i
  let st := Config.rakeStarts (cdSection i 7) (fld r 0 2)
  let before := st.mapIdx (fun k c => c * 1000000 - k * 5000 * 1000 * f)
  decide (piecesOf i r ≤ st.length) && fld r 2 2 == st.length && gapsOk (245000 * 1000 * f) 0 (before ++ [max (workOf i r) ((before.getLast?).getD 0)])

/-! Check 13 -/

/-- The state as it would be with the target slots empty, which check 14 sees to. -/
def State.withoutJobs (s : State) (n : Nat) (l : List Nat) : State := forAll l (fun q s => (s.dropSpill n q).onJob n q (fun _ => {})) s

/-- Bytes of a SPILL region (R267). -/
def spillLength (i : List Byte) : Nat := 16 * (roundUp (cdClaim i 0) 4096 + 0x8000)

/-- A SPILL region in each stack of the partition, at the lowest free offset; none where one does not fit. -/
def State.giveSpill (s : State) (n q len : Nat) : Option State :=
  (s.ricksOf n).foldl (fun o k => o.bind (fun s => match s.freeRegion n, s.fitB n k len with
    | some r, some off => some (s.setRegion n r (mkRegion r 2 2 k q off len noSoff))
    | _, _ => none)) (some s)

/-- The SPILL regions of every part. -/
def State.giveSpills (s : State) (n : Nat) (l : List (Nat × List Byte)) : Option State :=
  l.foldl (fun o x => o.bind (fun s => s.giveSpill n x.1 (spillLength x.2))) (some s)

/-- The claims hold beside those of the other loaded slots (R53, R268, R279, R323, R434, R655). -/
def State.claimsOk (s : State) (n : Nat) (l : List (Nat × List Byte)) : Bool :=
  let t := s.num (E.PART_TENANT n)
  let own (k : Nat) : Nat := sumOf l (fun x => cdClaim x.2 k)
  let all1 (k : Nat) : Nat := own k + sumOf (s.loadedJobs n) (fun q => cdClaim (s.job n q).img k)
  let users := ((s.regionNums n).map (s.region n)).filter (fun b => rgClass b == 0)
  let spanB := sumOf users (fun b => if rgHasB b && rgLive b then rgLen b else 0)
  let spanS := sumOf users (fun b => if rgHasS b then rgLen b else 0)
  l.all (fun x => decide (cdClaim x.2 0 ≤ 2 ^ 23)) && decide (s.usedH t + own 0 * (s.hearthsOf n).length ≤ s.num (E.QUOTA_H t)) &&
  decide (all1 1 ≤ spanB) && decide (all1 2 ≤ spanS) && decide (all1 3 ≤ sumOf (s.ricksOf n) (s.poolPages n)) &&
  decide (all1 4 ≤ s.entryCount n) && decide (s.usedEntries t + own 4 ≤ s.num (E.ENTRY_QUOTA t)) && s.trigFits n 64 (own 5) (own 6) &&
  l.all (fun x => s.slotsOk n (cdFabric x.2) (s.groupSlotsBut n 64 ++ s.turnSlots n) &&
    (cordQueues x.2).all (fun q => fld (s.blob (E.QUEUE_MAP n)) (2 * q) 2 != 0xFFFF)) &&
  decide (s.usedB t + sumOf l (fun x => spillLength x.2) * (s.ricksOf n).length ≤ s.num (E.QUOTA_B t)) && (s.giveSpills n l).isSome

/-! LOAD -/

/-- Check 15: a tenant, no ash-out, every rick ready, none degraded (R54, R81). -/
def State.mayLoad (s : State) (n : Nat) : Bool :=
  s.num (E.PART_TENANT n) != 0xFF && (s.part n).ash.isNone && s.partReady n && !(s.part n).degraded

/-- The LOAD_RESULT of an image for a job slot (R54, Table 02-6). -/
def State.loadCode (s : State) (n j : Nat) (i : List Byte) : Nat :=
  let l := cordImages i
  let slots := cordSlotsOf i j
  let s0 := s.withoutJobs n slots
  if !s.mayLoad n then 0x010F
  else if !l.all (s.formOk n) || !coForm i then 0x0101
  else if l.any (fun x => fld x 6 1 != bits (s.num E.IDENT_REV) 15 8 || decide (s.num E.IDENT_REV % 256 < fld x 7 1)) then 0x0102
  else if l.any (fun x => bytesAt x 0x30 48 != Config.sha384 (bytesAt x 0x80 (cdBody x))) then 0x0103
  else if l.any (fun x => !s.signedBy x (cdTenant x) (cdSigner x) (0x80 + cdBody x)) then 0x0104
  else if l.any (fun x => cdTenant x != s.tenantOf n) then 0x0105
  else if l.any (fun x => cdRickMask x != s.maskOf n) then 0x0106
  else if l.any (fun x => decide (s.num (E.PART_CLOCK_MHZ n) < cdClock x)) then 0x0107
  else if l.any (fun x => decide (cdCrossPs x < s.num E.CROSS_BOUND_PS) || decide (cdHopPs x < s.num E.HOP_BOUND_PS)) then 0x0108
  else if l.any (fun x => cdTransit x != s.transitFp) then 0x0109
  else if (cordParts i).any (fun x => (cordSteps x).any (fun r => !rakeOk x r)) then 0x010A
  else if l.any (fun x => (cordSteps x).any (fun r => !wcetOk x r)) then 0x010B
  else if (cordParts i).any (fun x => !Config.slotMapsOk x (s.maskOf n) s.transitFp) then 0x010C
  else if !s0.claimsOk n (slots.zip (cordParts i)) then 0x010D
  else if (j :: slots).any (s.loaded n) then 0x010E
  else 0

/-- A job slot with the image it takes. -/
def jobOf (i : List Byte) (q : Nat) (part : List Byte) (bound : Option Nat) : Job :=
  let m := Config.memberSlots i
  let co := cdKind i == 3
  let one := co && q == m.1
  { img := part, pendSwitch := bound, partner := if co then some (if q = m.1 then m.2 else m.1) else none,
    coImg := if one then i else [], coSteps := if one then Config.coSteps i else [] }

/-- What a boundary record still has to say of the slot's earlier job stays (R359). -/
def loadedOver (old new : Job) : Job :=
  if old.unreported.isSome then { new with unreported := old.unreported, lastStep := old.lastStep, lastHdr := old.lastHdr } else new

/-- LR_STATUS of a job slot at LOAD: TSTEP from LR_TSTEP_INIT, no attempt, no verdict, no commit (R370). -/
def State.lrLoad (s : State) (n q kind : Nat) : State :=
  let t := fld (s.blob (E.LR_TSTEP_INIT n)) (8 * q) 8
  let b := leBytes 8 t ++ leBytes 2 0 ++ leBytes 1 (if kind = 2 then 1 else 0) ++ leBytes 1 0xFF ++ zeros 20
  let old := s.blob (E.LR_STATUS n)
  s.setBlob (E.LR_STATUS n) (old.take (32 * q) ++ b ++ old.drop (32 * q + 32))

/-- The cord takes its slots: SPILL regions, the learning record's starting point, GAP_TABLE. -/
def State.takeCord (s : State) (n j : Nat) (i : List Byte) : State :=
  let l := (cordSlotsOf i j).zip (cordParts i)
  let s1 := (s.giveSpills n l).getD s
  (forAll l (fun x s => (s.onJob n x.1 (fun y => loadedOver y (jobOf i x.1 x.2 y.pendSwitch))).lrLoad n x.1 (cdKind x.2)) s1).updateGaps n

/-- CORD_IMAGE is checked and loaded: LOAD_RESULT, and event 0xE201 for a rejected image. A LOAD that gets past check 15 needs the stacks (R525). -/
def State.loadImage (s : State) (n j : Nat) (i : List Byte) : State :=
  let c := s.loadCode n j i
  let s1 := s.setNum (E.LOAD_RESULT n) c
  let s2 := if c = 0 then s1.takeCord n j i else s1.raise 0xE201 (scopeP n)
  if c = 0x010F then s2 else s2.wakePart n 2

/-- LOAD: while the kindling job is loaded, no other slot takes one (R576). -/
def State.loadCmd (s : State) (n : Nat) : State × Nat :=
  let j := s.num (E.LOAD_SLOT n)
  if 7 < j then (s, invalid)
  else if s.kindled ∧ s.kindPart = n ∧ j ≠ 0 then (s, busy)
  else (s.loadImage n j (s.blob (E.CORD_IMAGE n)), 0)

/-- LOAD. -/
def execLoad (r : Rq) (n : Fin 12) (s : State) : Host.Outcome State Fault Refusal :=
  .next (s.command r (E.LOAD n) [] 0 (fun _ s => s.loadCmd n))

/-- UNLOAD at the next step boundary, which a partition that runs nothing is at. -/
def State.unloadCmd (s : State) (n : Nat) : State × Nat :=
  let j := s.num (E.LOAD_SLOT n)
  if 7 < j ∨ s.loaded n j = false then (s, invalid)
  else if (s.part n).phase = .idle then (unloadJob s n j 0x13, 0)
  else (s.onJob n j (fun x => { x with unloadReq := true }), 0)

/-- UNLOAD. -/
def execUnload (r : Rq) (n : Fin 12) (s : State) : Host.Outcome State Fault Refusal :=
  .next (s.command r (E.UNLOAD n) [] 0 (fun _ s => s.unloadCmd n))

end Sys2Proof.Machine
end

