-- ==== Sys2Proof/Machine/Manage.lean ====
section
/-!
DEFINITION. Tenancy (R489 to R514, R534, R561): signed objects, credentials, set keys, attestation, partitions' masks and tenants, ash-out.
-/
namespace Sys2Proof.Machine

/-! Signed objects (R489 to R494, R561) -/

/-- KIND of a signed object. -/
def obKind (o : List Byte) : Nat := fld o 6 1
/-- SVN of a signed object. -/
def obSvn (o : List Byte) : Nat := fld o 8 4
/-- The body of a signed object. -/
def obBody (o : List Byte) : List Byte := bytesAt o 128 (fld o 0x10 8)
/-- Firmware kinds: 1 collier, 2 retort. -/
def obFirmware (o : List Byte) : Bool := obKind o == 1 || obKind o == 2

/-- The body of a manifest: its length and its reserved bits (R492, R493, Table 17-4; log 66). -/
def obBodyOk (o : List Byte) : Bool :=
  let b := obBody o
  match obKind o with
  | 0x11 => b.length == 192 && (pieces b 16 12).all (fun r => decide (fld r 0 2 < 4096) && decide (fld r 2 1 < 2) && allZero (bytesAt r 3 13))
  | 0x12 => b.length == 64 && (pieces b 4 12).all (fun r => decide (leNat r < 32)) && allZero (bytesAt b 48 16)
  | 0x13 => b.length == 2000 && crId b == 0 && crRole b == 1 && allZero (bytesAt b 9 7)
  | _ => true

/-- The credential record of the owner (R494). -/
def State.owner (s : State) : Option (List Byte) := s.opCreds.find? (fun c => crId c == 0)

/-- The signature block of a signed object verifies: firmware under the keys held in tinder, manifests under the owner credential. With no owner credential an OWNER
manifest has nothing to be verified with, and check 5 refuses it (log 65). -/
def State.objSigned (s : State) (o : List Byte) : Bool :=
  let n := 128 + fld o 0x10 8
  fld o 0x18 8 == 0 &&
  (if obFirmware o then Config.firmwareSigOk (o.take n) (bytesAt o n 3373)
   else match s.owner with
     | some c => Config.signaturesOk c (o.take n) (bytesAt o n 3373)
     | none => obKind o == 0x13)

/-- The code of the first check of Table 17-3 that fails. -/
def State.objCode (s : State) (o : List Byte) : Nat :=
  let kind := obKind o
  if o.length < 128 ∨ fld o 0 4 ≠ 0x4A424F53 ∨ fld o 4 2 ≠ 1 ∨ !([1, 2, 0x11, 0x12, 0x13] : List Nat).contains kind ∨ fld o 7 1 ≠ 0 ∨ fld o 0x0C 4 ≠ 0 ∨ !allZero (bytesAt o 0x50 48) ∨
     o.length ≠ 128 + fld o 0x10 8 + 3373 ∨ !obBodyOk o then 0x0401
  else if bytesAt o 0x20 48 ≠ Config.sha384 (obBody o) then 0x0402
  else if !s.objSigned o then 0x0403
  else if (if obFirmware o then decide (obSvn o < fld (s.blob E.OBJ_SVN) (4 * (kind - 1)) 4) else match Tab.look s.objs kind with | some x => decide (obSvn o ≤ obSvn x) | none => false) then 0x0404
  else if (kind = 0x11 ∧ (List.range 12).any (fun n => s.num (E.RICK_MASK n) &&& fld (obBody o) (16 * n) 2 != s.num (E.RICK_MASK n))) ∨ (kind = 0x13 ∧ s.owned = false) then 0x0405
  else 0

/-- A firmware image goes to the bank that is not running, with the running image of the other kind; that bank is on TRIAL and is tried first (R561). -/
def State.installFirmware (s : State) (o : List Byte) : State :=
  let b := 1 - s.bank
  let kind := obKind o
  let other := s.banks.getD (s.bank * 256 + (3 - kind)) []
  let st := s.blob E.BANK_STATUS
  let st1 := setFld (setFld (setFld st (16 * b) 1 2) (16 * b + 4 * kind) 4 (obSvn o)) (16 * b + 4 * (3 - kind)) 4 (fld st (16 * s.bank + 4 * (3 - kind)) 4)
  (({ s with banks := (s.banks.put (b * 256 + kind) o).put (b * 256 + (3 - kind)) other }).setBoth E.BANK_STATUS (.blob st1)).setBoth E.BOOT_BANK (.num b)

/-- A manifest takes effect: LIMITS and POLICY as the objects in force, OWNER as the owner credential. -/
def State.installManifest (s : State) (o : List Byte) : State :=
  let s1 := { s with objs := s.objs.put (obKind o) o }
  if obKind o = 0x12 then forAll (List.range 12) (fun n s => s.consentSoon n) s1
  else if obKind o = 0x13 then s1.setBlob E.OP_CRED_LIST (obBody o ++ (s1.opCreds.filter (fun c => crId c != 0)).flatten)
  else s1

/-- OBJ_INSTALL: OBJ_RESULT tells how it went; in the tinder hold only firmware is installed (R563). -/
def State.objInstall (s : State) : State × Nat :=
  let o := s.blob E.OBJ_IMAGE
  if s.num E.BOOT_STATE = 4 ∧ obFirmware o = false then (s, stateErr)
  else
    let c := s.objCode o
    let s1 := s.setNum E.OBJ_RESULT c
    (if c ≠ 0 then s1 else if obFirmware o then s1.installFirmware o else s1.installManifest o, 0)

/-- OBJ_INSTALL. -/
def execObjInstall (r : Rq) (s : State) : Host.Outcome State Fault Refusal := .next (s.command r E.OBJ_INSTALL [] 0 (fun _ s => s.objInstall))

/-- FW_SVN_COMMIT: OBJ_SVN rises to the running images' SVNs (R491). -/
def State.svnCommit (s : State) : State :=
  let run (i : Nat) : Nat := fld (s.blob E.BANK_STATUS) (16 * s.bank + 4 + 4 * i) 4
  s.setBlob E.OBJ_SVN (leBytes 4 (max (run 0) (fld (s.blob E.OBJ_SVN) 0 4)) ++ leBytes 4 (max (run 1) (fld (s.blob E.OBJ_SVN) 4 4)))

/-- FW_SVN_COMMIT. -/
def execFwSvnCommit (r : Rq) (s : State) : Host.Outcome State Fault Refusal := .next (s.command r E.FW_SVN_COMMIT [] 0 (fun _ s => (s.svnCommit, 0)))

/-! Credentials (R495 to R497) -/

/-- The form of a credential record. -/
def credForm (v : List Byte) : Bool := v.length == 2000 && allZero (bytesAt v 9 7)

/-- The sessions that a credential opened close. -/
def State.closeCred (s : State) (role tenant cred : Nat) : State :=
  forAll (s.sessions.filter (fun x => x.2.role == role && x.2.tenant == tenant && x.2.cred == cred)) (fun x s => s.closeSession x.1) s

/-- OP_CRED_ADD. -/
def State.opCredAdd (s : State) (v : List Byte) : State × Nat :=
  if !credForm v || crRole v != 1 || crId v == 0 || decide (16 ≤ s.opCreds.length) || s.opCreds.any (fun c => crId c == crId v) then (s, invalid)
  else (s.setBlob E.OP_CRED_LIST (s.blob E.OP_CRED_LIST ++ v), 0)
/-- OP_CRED_ADD. -/
def execOpCredAdd (r : Rq) (v : List Byte) (s : State) : Host.Outcome State Fault Refusal := .next (s.write r E.OP_CRED_ADD v (fun _ s => s.opCredAdd v))

/-- OP_CRED_REMOVE. -/
def State.opCredRemove (s : State) (v : List Byte) : State × Nat :=
  let id := leNat v
  if id = 0 ∨ !s.opCreds.any (fun c => crId c == id) then (s, invalid)
  else ((s.setBlob E.OP_CRED_LIST (s.opCreds.filter (fun c => crId c != id)).flatten).closeCred 1 0 id, 0)
/-- OP_CRED_REMOVE. -/
def execOpCredRemove (r : Rq) (v : List Byte) (s : State) : Host.Outcome State Fault Refusal := .next (s.write r E.OP_CRED_REMOVE v (fun _ s => s.opCredRemove v))

/-- CRED_ADD: the operator may add only the first ROLE 2 credential of a bound slot that holds none. -/
def State.credAdd (s : State) (x : Session) (t : Nat) (v : List Byte) : State × Nat :=
  let l := s.slotCreds t
  if x.role = 1 ∧ (!l.isEmpty ∨ crRole v = 3 ∨ crRole v = 4) then (s, accessErr)
  else if leNat (s.blob (E.TENANT_ID t)) = 0 ∨ !credForm v ∨ !([2, 3, 4] : List Nat).contains (crRole v) ∨ 64 ≤ l.length ∨ l.any (fun c => crId c == crId v) then (s, invalid)
  else (s.setBlob (E.CRED_LIST t) (s.blob (E.CRED_LIST t) ++ v), 0)
/-- CRED_ADD. -/
def execCredAdd (r : Rq) (ts : Fin 12) (v : List Byte) (s : State) : Host.Outcome State Fault Refusal :=
  .next (s.write r (E.CRED_ADD ts) v (fun x s => s.credAdd x ts v))

/-- CRED_REMOVE. -/
def State.credRemove (s : State) (t : Nat) (v : List Byte) : State × Nat :=
  let l := s.slotCreds t
  let id := leNat v
  let left := l.filter (fun c => crId c != id)
  match l.find? (fun c => crId c == id) with
  | none => (s, invalid)
  | some c =>
    if !left.any (fun c => crRole c == 2) then (s, invalid)
    else ((s.setBlob (E.CRED_LIST t) left.flatten).closeCred (crRole c) (leNat (s.blob (E.TENANT_ID t))) id, 0)
/-- CRED_REMOVE. -/
def execCredRemove (r : Rq) (ts : Fin 12) (v : List Byte) (s : State) : Host.Outcome State Fault Refusal :=
  .next (s.write r (E.CRED_REMOVE ts) v (fun _ s => s.credRemove ts v))

/-- TENANT_ID: zero frees the slot, its credentials and set keys; the sessions that those opened close (R495, R497, R502). -/
def State.tenantIdWrite (s : State) (t : Nat) (v : List Byte) : State × Nat :=
  let id := leNat v
  let old := leNat (s.blob (E.TENANT_ID t))
  if v.length ≠ 16 then (s, invalid)
  else if (List.range 12).any (fun n => s.num (E.PART_TENANT n) == t) then (s, busy)
  else if id ≠ 0 ∧ (List.range 12).any (fun u => u != t && leNat (s.blob (E.TENANT_ID u)) == id) then (s, invalid)
  else
    let s1 := s.setBlob (E.TENANT_ID t) v
    if id ≠ 0 then (s1, 0) else
    let s2 := { s1.setBlob (E.CRED_LIST t) [] with setkeys := s1.setkeys.del t }
    (forAll (s2.sessions.filter (fun x => old != 0 && x.2.tenant == old)) (fun x s => s.closeSession x.1) s2, 0)
/-- TENANT_ID. -/
def execTenantId (r : Rq) (ts : Fin 12) (v : List Byte) (s : State) : Host.Outcome State Fault Refusal :=
  .next (s.write r (E.TENANT_ID ts) v (fun _ s => s.tenantIdWrite ts v))

/-! Set keys (R501, R502) -/

/-- A list strictly ascends. -/
def ascends : List Nat → Bool
  | a :: b :: r => decide (a < b) && ascends (b :: r)
  | _ => true

/-- SETKEY_INSTALL. -/
def State.setkeyInstall (s : State) (t : Nat) (v : List Byte) : State × Nat :=
  let m := fld v 8 4
  let ids := pieces (v.drop 0x500) 48 m
  let keys := s.setkeys.getD t []
  let meas := bytesAt (s.measure 1) 0 48
  let ok := decide (1 ≤ m) && decide (m ≤ 1024) && v.length == 1280 + 48 * m && leNat (s.blob (E.TENANT_ID t)) != 0 &&
    ids.contains (bytesAt Config.deviceId 0 48) && ascends (ids.map beNat) && (allZero (bytesAt v 0x10 48) || bytesAt v 0x10 48 == meas) &&
    !keys.any (fun k => fld k 0 8 == fld v 0 8) && decide (keys.length < 64)
  if ok = false then (s, invalid)
  else match Config.openSetKey (s.measure 1 ++ s.measure 2) v with
    | none => (s, invalid)
    | some key => ({ s with setkeys := s.setkeys.put t (keys ++ [bytesAt v 0 12 ++ zeros 4 ++ bytesAt v 0x10 48 ++ key]) }, 0)
/-- SETKEY_INSTALL. -/
def execSetkeyInstall (r : Rq) (ts : Fin 12) (v : List Byte) (s : State) : Host.Outcome State Fault Refusal :=
  .next (s.write r (E.SETKEY_INSTALL ts) v (fun _ s => s.setkeyInstall ts v))

/-- SETKEY_REMOVE. -/
def State.setkeyRemove (s : State) (t : Nat) (v : List Byte) : State × Nat :=
  let keys := s.setkeys.getD t []
  if !keys.any (fun k => fld k 0 8 == leNat v) then (s, invalid)
  else ({ s with setkeys := s.setkeys.put t (keys.filter (fun k => fld k 0 8 != leNat v)) }, 0)
/-- SETKEY_REMOVE. -/
def execSetkeyRemove (r : Rq) (ts : Fin 12) (v : List Byte) (s : State) : Host.Outcome State Fault Refusal :=
  .next (s.write r (E.SETKEY_REMOVE ts) v (fun _ s => s.setkeyRemove ts v))

/-! Attestation (R503) -/

/-- The measurement of an installed manifest. -/
def State.objMeasure (s : State) (kind : Nat) : List Byte :=
  match Tab.look s.objs kind with
  | some o => bytesAt (Config.sha384 o) 0 48
  | none => zeros 48

/-- A report: of a partition, or of the module (Table 17-6). -/
def State.report (s : State) (part : Option Nat) (nonce : List Byte) : List Byte :=
  let meas := s.measure 1 ++ s.measure 2
  let kwk := bytesAt (Config.kwkPublic meas) 0 1216
  let hint := match s.owner with | some c => bytesAt (Config.sha384 c) 0 4 | none => zeros 4
  let own (f : Nat → List Byte) (len : Nat) : List Byte := match part with | some n => f n | none => zeros len
  let count := match part with | some n => s.num (E.ASHOUT_COUNT n) | none => sumOf (List.range 12) (fun n => s.num (E.ASHOUT_COUNT n))
  let body := leBytes 4 0x54535441 ++ leBytes 2 1 ++ leBytes 1 (if part.isSome then 2 else 1) ++ leBytes 1 (part.getD 0xFF) ++ leBytes 8 (s.num E.IDENT_REV) ++
    leBytes 8 (micro s.now) ++ leBytes 8 (Config.powerOnId s.powerOns % 2 ^ 64) ++ bytesAt nonce 0 32 ++ bytesAt Config.deviceId 0 48 ++ bytesAt (s.measure 1) 0 48 ++
    bytesAt (s.measure 2) 0 48 ++ s.objMeasure 0x11 ++ s.objMeasure 0x12 ++ bytesAt (s.blob E.BANK_STATUS) (16 * s.bank + 4) 4 ++ hint ++
    own (fun n => leBytes 16 (s.tenantOf n)) 16 ++ own (fun n => leBytes 2 (s.num (E.RICK_MASK n))) 2 ++
    leBytes 1 (match part with | some n => s.partStatus n | none => s.collierStatus) ++ own (fun n => leBytes 1 (s.num (E.ETH_MODE n))) 1 ++
    own (fun n => leBytes 4 (s.num (E.CONSENT_EFFECTIVE n))) 4 ++ own (fun n => leBytes 4 (s.num (E.CONSENT_SEEN n))) 4 ++ zeros 4 ++ leBytes 8 count ++ zeros 32 ++
    kwk ++ zeros 64
  body ++ bytesAt (Config.aliasSign meas body) 0 3373

/-- ATTEST. -/
def execAttest (r : Rq) (n : Fin 12) (v : List Byte) (s : State) : Host.Outcome State Fault Refusal :=
  .next (s.command r (E.ATTEST n) v 32 (fun _ s => (s.setBlob (E.PART_REPORT n) (s.report (some n) v), 0)))
/-- MODULE_ATTEST. -/
def execModuleAttest (r : Rq) (v : List Byte) (s : State) : Host.Outcome State Fault Refusal :=
  .next (s.command r E.MODULE_ATTEST v 32 (fun _ s => (s.setBlob E.MODULE_REPORT (s.report none v), 0)))

/-- CONSENT (R504). -/
def State.consentWrite (s : State) (n : Nat) (v : List Byte) : State × Nat :=
  if 32 ≤ leNat v then (s, invalid) else ((s.setNum (E.CONSENT n) (leNat v)).consentSoon n, 0)
/-- CONSENT. -/
def execConsent (r : Rq) (n : Fin 12) (v : List Byte) (s : State) : Host.Outcome State Fault Refusal :=
  .next (s.write r (E.CONSENT n) v (fun _ s => s.consentWrite n v))

/-! What a partition holds -/

/-- Everything that regions, weight sets, KV records, lists, handles and request entries of a partition are, on some ricks, is gone (R499, Table 17-9). -/
def State.wipeObjects (s : State) (n : Nat) (ks : List Nat) : State :=
  let on (k : Nat) : Bool := ks.contains k
  let byPage {α : Type} (t : Tab α) : Tab α := t.filter (fun x => !on (x.1 / 2 ^ 24))
  let mine {α : Type} (w : Nat) (t : Tab α) : Tab α := t.filter (fun x => x.1 / w != n)
  let ent (i : Nat) : Bool := s.owns n i
  { s with
    regions := mine 256 s.regions, wsets := mine 8 s.wsets, handles := mine 4096 s.handles, buffers := mine (2 ^ 32) s.buffers,
    dirs := s.dirs.filter (fun x => !on (x.1 / 65536)), maps := byPage s.maps, refs := byPage s.refs, poisoned := s.poisoned.filter (fun x => !on (if x.1 < 2 ^ 28 then x.1 / 2 ^ 24 else (x.1 - 2 ^ 28) / 65536)), dirty := byPage s.dirty,
    pagePoison := s.pagePoison.filter (fun x => !(if x.1 < 2 ^ 40 then on (x.1 / 2 ^ 24) else x.1 / 2 ^ 32 == 256 + n)),
    reqs := s.reqs.filter (fun x => !ent x.1), reqx := s.reqx.filter (fun x => !ent x.1) }

/-- Entries of a partition back to their defaults, in force. -/
def State.unsetAll (s : State) (l : List Nat) : State := l.foldl State.unset s

/-! Masks (R65, R66, R492, R498, R499, R534) -/

/-- ALLOWED_RICKS and FLAGS of a partition (R492). -/
def State.limitsOf (s : State) (n : Nat) : Nat × Nat :=
  match Tab.look s.objs 0x11 with
  | some o => (fld (obBody o) (16 * n) 2, fld (obBody o) (16 * n + 2) 1)
  | none => (0x0FFF, 0)

/-- The budgets are in order under some masks, budgets and module limit (R534). -/
def budgetsOk (mask budget : Nat → Nat) (limit : Nat) : Bool :=
  let l := (List.range 12).filter (fun n => mask n != 0)
  let c (n : Nat) : Nat := popcount (mask n) 12
  l.all (fun n => budget n == 0 || (decide (700 * c n ≤ budget n) && decide (budget n ≤ 1150 * c n))) &&
  decide (sumOf l (fun n => if budget n = 0 then 1150 * c n else budget n) + 428 ≤ limit)

/-- A mask in a partition's place obeys R65, R492 and R534. -/
def State.maskFits (s : State) (n m : Nat) : Bool :=
  let masks (i : Nat) : Nat := if i = n then m else s.num (E.RICK_MASK i)
  edgeConnected m && (List.range 12).all (fun i => i == n || s.num (E.RICK_MASK i) &&& m == 0) && m &&& (s.limitsOf n).1 == m &&
  budgetsOk masks (fun i => s.num (E.PART_BUDGET_W i)) (s.num E.MODULE_LIMIT_W)

/-- The tenant's entries that name what R499 deletes. -/
def cutEntries (n : Nat) : List Nat :=
  [E.KV_MODELS n, E.KV_POOL_PAGES n, E.TCT_REGIONS n, E.QUEUE_MAP n, E.AUDIT_REGION n, E.EVID_REGION n, E.LSTATS_REGION n, E.TRIG_RING n, E.TRACE_BYTES n, E.CONSUMED n,
   E.JOB_EPOCH n, E.SWITCH_PENDING n, E.POISONED_TIER_PAGES n, E.POISONED_PAGES n]

/-- Write-back of a rick that goes to state O is abandoned: the event, and the pages not copied are counted (R277). -/
def State.abandonDirty (s : State) (n k : Nat) : State :=
  let d := (s.dirty.range (pageB k 0) (pageB k (2 ^ 36))).length
  if d = 0 then s else (s.bumpBy (E.FLUSH_FAILED_PAGES n) 32 d).raise 0xE904 (scopeP n)

/-- What precedes a mask that excludes a degraded rick (R499): the removed ricks go to state O, the partition's objects and the contents of its remaining stacks and
channels go, and with them what its entries say of them (log 68). -/
def State.cutRicks (s : State) (n : Nat) (removed : List Nat) : State :=
  let ks := s.ricksOf n
  let s1 := forAll removed (fun k s => s.rickOff k) ((forAll removed (fun k s => s.abandonDirty n k) s).wipeObjects n ks)
  let s2 := forAll (ks.filter (fun k => !removed.contains k)) (fun k s => (List.range 4).foldl (fun s i => s.zeroRange (tierS (4 * k + i)) (2 ^ 37)) (s.zeroRange (tierB k) (2 ^ 36))) s1
  let s3 := (forAll (List.range 8) (fun j s => if (s.job n j).pendSwitch.isSome then s.onJob n j (fun x => { x with pendSwitch := none }) else s) s2).onPart n
    (fun p => { p with flush := [], flushNext := 1, releases := [] })
  (s3.unsetAll (cutEntries n)).raise 0xE006 (scopeP n)

/-- The new mask takes effect: ricks that leave go to the state of UNUSED_RICK_STATE, one that joins from state O is brought up (R520, R521), passes start anew
(R595), and cause 6 of Table 21-9 ends. -/
def State.maskTakes (s : State) (n m : Nat) (removed added : List Nat) : State :=
  let down := ((bitList (s.num (E.RICK_MASK n)) 12).filterMap (fun k => (s.rick k).degradedAt))
  let s1 := s.setNum (E.RICK_MASK n) m
  let target := if s1.num E.UNUSED_RICK_STATE = 4 then 4 else 3
  let s2 := forAll (removed.filter (fun k => decide ((s1.rick k).pst < target) && (s1.rick k).bringup.isNone)) (fun k s =>
    s.onRick k (fun r => { r with move := some (target, s.now), waiting := none })) s1
  let s3 := forAll (added.filter (fun k => (s2.rick k).pst == 4 && (s2.rick k).bringup.isNone && !s2.bringups.contains k)) (fun k s => { s with bringups := s.bringups ++ [k] }) s2
  let still := (bitList m 12).any (fun k => (s3.rick k).degradedAt.isSome)
  let tasks : Tab Task := intervalTasks.foldl (fun x k => x.put k { tp := s3.now }) []
  let s4 := s3.onPart n (fun p => { p with tasks := tasks, degraded := still })
  match down.head? with
  | some t0 => if still || s4.num (E.PART_TENANT n) == 0xFF then s4 else s4.unavailable n 6 t0
  | none => s4

/-- The condition on KINDLING_RICKS for a value of KINDLING_PART (R573). -/
def kindlingRicksOk (part ricks mask : Nat) : Bool :=
  part == 0xFF || (decide (ricks < 4096) && (bitList ricks 12).length == 2 && edgeConnected ricks && ricks &&& mask == ricks)

/-- A mask breaks that condition (R573). -/
def State.breaksKindling (s : State) (n m : Nat) : Bool :=
  s.num E.KINDLING_PART == n && kindlingRicksOk n (s.num E.KINDLING_RICKS) (s.num (E.RICK_MASK n)) && !kindlingRicksOk n (s.num E.KINDLING_RICKS) m

/-- RICK_MASK. -/
def State.rickMaskWrite (s : State) (n : Nat) (v : List Byte) : State × Nat :=
  let m := leNat v
  let old := s.num (E.RICK_MASK n)
  let removed := (bitList old 12).filter (fun k => !m.testBit k)
  let added := (bitList m 12).filter (fun k => !old.testBit k)
  let ten := s.num (E.PART_TENANT n) != 0xFF || (s.part n).ash.isSome
  if 4096 ≤ m then (s, invalid)
  else if ten ∧ (!added.isEmpty ∨ !removed.any (fun k => (s.rick k).degradedAt.isSome) ∨ (s.part n).ash.isSome) then (s, busy)
  else if ten ∧ m = 0 then (s, invalid)
  else if s.anyLoaded n then (s, busy)
  else if !s.maskFits n m || s.breaksKindling n m then (s, invalid)
  else ((if ten then s.cutRicks n removed else s).maskTakes n m removed added, 0)
/-- RICK_MASK. -/
def execRickMask (r : Rq) (n : Fin 12) (v : List Byte) (s : State) : Host.Outcome State Fault Refusal :=
  .next (s.write r (E.RICK_MASK n) v (fun _ s => s.rickMaskWrite n v))

/-- PART_TENANT (R498). -/
def State.partTenantWrite (s : State) (n : Nat) (v : List Byte) : State × Nat :=
  let t := leNat v
  if s.num (E.PART_TENANT n) ≠ 0xFF ∨ (s.part n).ash.isSome then (s, busy)
  else if t = 0xFF then (s, 0)
  else if 12 ≤ t ∨ leNat (s.blob (E.TENANT_ID t)) = 0 ∨ s.exists n = false then (s, invalid)
  else ((s.setNum (E.PART_TENANT n) t).giveFlush n, 0)
/-- PART_TENANT. -/
def execPartTenant (r : Rq) (n : Fin 12) (v : List Byte) (s : State) : Host.Outcome State Fault Refusal :=
  .next (s.write r (E.PART_TENANT n) v (fun _ s => s.partTenantWrite n v))

/-! Ash-out (R508 to R514) -/

/-- The kindling entries return to their defaults, in force and stored (R578). -/
def State.dropKindling (s : State) : State :=
  let l := [E.KINDLING_CORD, E.KINDLING_MANIFEST, E.KINDLING_SOURCES, E.KINDLING_SETUP]
  let s1 := s.unsetAll l
  { s1 with stored := l.foldl (fun d k => d.del k) s1.stored }

/-- Event 1 of Table 17-10: what runs stops without records, the tenant's sessions close, its connections and turns are gone, and the ricks wake as ash-out wakes. -/
def State.ashBegin (s : State) (n : Nat) (a : Ash) : State :=
  let ten := s.tenantOf n
  let s1 := (if (s.part n).phase = .running then s.discardAttempt n else s).turnFail n 4
  let s2 := forAll (s1.sessions.filter (fun x => ten != 0 && x.2.tenant == ten)) (fun x s => s.closeSession x.1) s1
  let s3 := { s2 with conns := s2.conns.filter (fun x => x.1 / 1024 != n), flights := s2.flights.filter (fun x => x.2.part != n), held := s2.held.del n,
                      waits := s2.waits.filter (fun w => match w with | .region _ _ m _ => m != n | .fetch _ m => m != n | .arm _ m => m != n) }
  let s4 := (s3.setNum (E.ACTIVE_SLOT n) 0xFF).onPart n (fun p => { p with phase := .idle, halt := none, ash := some a, again := false, refused := [], sliceAt := none })
  let s5 := if s4.kindPart = n then s4.noKindling.setKindling (if s4.kindled then 4 else 0) 0 else s4
  s5.wakePart n 3

/-- ASH_OUT: the next binding is stored before anything else (R508). -/
def State.ashOut (s : State) (v : List Byte) (flashOk : Bool) : State × Nat :=
  let n := fld v 0 1
  let t := fld v 1 1
  if 12 ≤ n ∨ (12 ≤ t ∧ t ≠ 0xFF) then (s, invalid)
  else if (s.part n).ash.isSome ∨ (t ≠ 0xFF ∧ leNat (s.blob (E.TENANT_ID t)) = 0) then (s, busy)
  else if s.num (E.PART_TENANT n) = 0xFF then (s, invalid)
  else if flashOk = false then (s, flashErr)
  else ({ s with stored := s.stored.put (E.PART_TENANT n) (.num t) }.ashBegin n { t0 := s.now, attempt := 1, event := 1, next := t }, 0)
/-- ASH_OUT. -/
def execAshOut (r : Rq) (v : List Byte) (flashOk : Bool) (s : State) : Host.Outcome State Fault Refusal :=
  .next (s.command r E.ASH_OUT v 2 (fun _ s => s.ashOut v flashOk))

/-- A hearth of which only what is physical remains. -/
def Hearth.ashed (h : Hearth) : Hearth :=
  { defects := h.defects, margin := h.margin, corrected := h.corrected, activeHours := h.activeHours, mismSteps := h.mismSteps, faultSteps := h.faultSteps,
    lowMargins := h.lowMargins, uncorrectable := h.uncorrectable }

/-- A partition of which only what is not the tenant's remains. -/
def Part.ashed (p : Part) : Part :=
  { tasks := p.tasks, trigger := p.trigger, lowMeans := p.lowMeans, clkNext := p.clkNext, clkReady := p.clkReady, floorNow := p.floorNow, overran := p.overran,
    ash := p.ash, cover := p.cover, degraded := p.degraded, idleSince := p.idleSince, wakeDeferred := p.wakeDeferred, rkeys := p.rkeys }

/-- Every entry that Table 17-9 resets: the volatile and the class-B entries of Pn, which only its tenant writes, and EPOCH_COUNTER; the kindling entries of the
partition that KINDLING_PART names (R578). -/
def State.ashDict (s : State) (n : Nat) : State :=
  let s1 := (s.partDefaults n (fun c => c == .V || c == .B)).unset (E.EPOCH_COUNTER n)
  if s1.num E.KINDLING_PART = n then s1.dropKindling else s1

/-- Contents that Table 17-9 zeroes or resets. -/
def State.ashZero (s : State) (n : Nat) : State :=
  let ks := s.ricksOf n
  let mine {α : Type} (w : Nat) (t : Tab α) : Tab α := t.filter (fun x => x.1 / w != n)
  let s1 := forAll ks (fun k s => (forAll ((List.range 18).map (fun h => 18 * k + h)) (fun g s => s.setHearth g (s.hearth g).ashed) (s.zeroRick k)).onRick k (fun r => { r with nic := {} }))
    (s.wipeObjects n ks)
  let s2 : State := { s1 with
    jobs := mine 8 s1.jobs, windows := mine 4096 s1.windows, rings := mine 64 s1.rings, trigs := mine 256 s1.trigs, groups := mine 64 s1.groups, conns := mine 1024 s1.conns,
    turns := s1.turns.del n, partEvents := s1.partEvents.del n, flights := s1.flights.filter (fun x => x.2.part != n), held := s1.held.del n,
    eports := s1.eports.mapV (fun _ e => { e with held := e.held.del n }),
    sessions := s1.sessions.mapV (fun _ x => { x with stage := x.stage.filter (fun e => partScope e.1 != some n) }) }
  (s2.onPart n Part.ashed).ashDict n

/-- ASH_OUT_ZEROING_START: 150 ms after t0 every rick is in state A and zeroing begins; a rick that is not makes the attempt fail. -/
def execAshOutZeroingStart (n : Fin 12) (t : Nat) (s : State) : Host.Outcome State Fault Refusal :=
  let s1 := s.at t
  .next (match (s1.part n).ash with
    | some a =>
      if a.dead ∨ a.event ≠ 1 ∨ s1.now < a.t0 + 150000000 then s1
      else if s1.awake n then (s1.ashZero n).onPart n (fun p => { p with ash := some { a with event := 4 } })
      else s1.onPart n (fun p => { p with ash := some { a with event := 2, bad := true } })
    | none => s1)

/-- ASH_OUT_CHECK: `ok` says that stores are confirmed zero. A failed attempt is repeated as a whole new period (log 69); the third leaves the partition in ash-out. -/
def execAshOutCheck (n : Fin 12) (ok : Bool) (t : Nat) (s : State) : Host.Outcome State Fault Refusal :=
  let s1 := s.at t
  .next (match (s1.part n).ash with
    | some a =>
      if a.dead ∨ a.event = 7 ∨ s1.now < a.t0 + 2950000000 then s1
      else if ok && a.event == 4 && !a.bad then s1.onPart n (fun p => { p with ash := some { a with event := 7 } })
      else if a.attempt < 3 then
        (s1.raise 0xE004 (scopeP n)).ashBegin n { a with t0 := a.t0 + 3000000000, attempt := a.attempt + 1, event := 1, bad := false }
      else (s1.raise 0xE005 (scopeP n)).onPart n (fun p => { p with ash := some { a with dead := true } })
    | none => s1)

/-- Link control resynchronises sequences and credits of a partition's owner codes with each peer. -/
def State.resyncPorts (s : State) (n : Nat) : State :=
  forAll (List.range 16) (fun p s => s.onFport p (fun f =>
    { f with tx := f.tx.del n, acked := f.acked.del n, rx := f.rx.del n,
             credits := if s.portState p = 2 ∧ 0 < s.positions p n then f.credits.put n (4 * s.positions p n) else f.credits.del n })) s

/-- ASH_OUT_END: 3,000 ms after t0 the count rises, the next tenant is bound: event 0xE003. -/
def execAshOutEnd (n : Fin 12) (t : Nat) (s : State) : Host.Outcome State Fault Refusal :=
  let s1 := s.at t
  .next (match (s1.part n).ash with
    | some a =>
      if a.dead ∨ a.event ≠ 7 ∨ s1.now < a.t0 + 3000000000 then s1
      else
        let s2 := ((s1.ashZero n).bumpBy (E.ASHOUT_COUNT n) 64 1).resyncPorts n
        let s3 := (s2.setNum (E.PART_TENANT n) a.next).onPart n (fun p => { p with ash := none })
        let s4 := (if a.next = 0xFF then s3 else s3.giveFlush n).raise 0xE003 (scopeP n)
        (if s4.awake n then s4.idleBoundary n else s4).rechoose
    | none => s1)

end Sys2Proof.Machine
end

