-- ==== Sys2Proof/Machine/Service.lean ====
section
/-!
DEFINITION. Commands and writes of the operator's and the tenant's service entries: clocks and budgets (R534, R548, R558), resets (R579 to R582), the end of
kindling (R577), traces, breakpoints and counters (R622 to R639).
-/
namespace Sys2Proof.Machine

/-! Reports and counters (R199, R638) -/

/-- NAN_CLEAR: NAN_RECORD is emptied at the next step boundary. -/
def execNanClear (r : Rq) (n : Fin 12) (s : State) : Host.Outcome State Fault Refusal :=
  .next (s.command r (E.NAN_CLEAR n) [] 0 (fun _ s => (s.onPart n (fun p => { p with nanClear := true }), 0)))

/-- PERF_CLEAR: the counters of every hearth of the partition are zeroed at the next step boundary. -/
def execPerfClear (r : Rq) (n : Fin 12) (s : State) : Host.Outcome State Fault Refusal :=
  .next (s.command r (E.PERF_CLEAR n) [] 0 (fun _ s => (s.onPart n (fun p => { p with perfClear := true }), 0)))

/-! Power and clocks (R525, R534, R548, R558) -/

/-- WAKE: a tenant trigger now. -/
def execWake (r : Rq) (n : Fin 12) (s : State) : Host.Outcome State Fault Refusal :=
  .next (s.command r (E.WAKE n) [] 0 (fun _ s => (s.wakePart n 1, 0)))

/-- FM_START: the counter counts FM_SOURCE for 2^g reference cycles, unless it serves a COMPARE judgement. -/
def State.fmStart (s : State) (k : Nat) : State × Nat :=
  if s.num E.CLK_JUDGE = 1 ∧ (s.rick k).starting.isSome then (s, busy)
  else (s.onRick k (fun r => { r with measuring := some (s.num (E.FM_SOURCE k), s.now + 2 ^ s.num (E.FM_GATE k) * 10) }), 0)

/-- FM_START. -/
def execFmStart (r : Rq) (k : Fin 12) (s : State) : Host.Outcome State Fault Refusal :=
  .next (s.command r (E.FM_START k) [] 0 (fun _ s => s.fmStart k))

/-- PART_CLOCK_MHZ: a running clock above the new value comes down to it; the damper raises one below it (R535). -/
def State.partClock (s : State) (n : Nat) (v : List Byte) : State × Nat :=
  let f := leNat v
  let key := E.PART_CLOCK_MHZ n
  if f < 500 ∨ 1100 < f ∨ f % 25 ≠ 0 ∨ f < s.floorClock n then (s, invalid)
  else if s.exists n && s.partReady n then
    let s1 := (s.setNum (E.RUN_CLOCK_MHZ n) (s.runClock n)).setNum key f
    (if f < s1.runClock n then s1.requestClock n f else s1, 0)
  else (s.setNum key f, 0)

/-- PART_CLOCK_MHZ. -/
def execPartClockMhz (r : Rq) (n : Fin 12) (v : List Byte) (s : State) : Host.Outcome State Fault Refusal :=
  .next (s.write r (E.PART_CLOCK_MHZ n) v (fun _ s => s.partClock n v))

/-- PART_BUDGET_W: every budget stays in its range, and their sum below the module's limit. -/
def State.partBudget (s : State) (n : Nat) (v : List Byte) : State × Nat :=
  if budgetsOk (fun i => s.num (E.RICK_MASK i)) (fun i => if i = n then leNat v else s.num (E.PART_BUDGET_W i)) (s.num E.MODULE_LIMIT_W) then
    (s.plainWrite (E.PART_BUDGET_W n) v, 0)
  else (s, invalid)

/-- PART_BUDGET_W. -/
def execPartBudgetW (r : Rq) (n : Fin 12) (v : List Byte) (s : State) : Host.Outcome State Fault Refusal :=
  .next (s.write r (E.PART_BUDGET_W n) v (fun _ s => s.partBudget n v))

/-- MODULE_LIMIT_W likewise. -/
def State.moduleLimit (s : State) (v : List Byte) : State × Nat :=
  if budgetsOk (fun i => s.num (E.RICK_MASK i)) (fun i => s.num (E.PART_BUDGET_W i)) (leNat v) then (s.plainWrite E.MODULE_LIMIT_W v, 0) else (s, invalid)

/-! Resets (Table 20-4) -/

/-- RESET_MODULE. -/
def execResetModule (r : Rq) (s : State) : Host.Outcome State Fault Refusal :=
  .next (s.command r E.RESET_MODULE [] 0 (fun _ s => (s.moduleReset 3, 0)))

/-- A rick of the partition is being brought up, or waits for it. -/
def State.comingUp (s : State) (n : Nat) : Bool := (s.ricksOf n).any (fun k => (s.rick k).bringup.isSome || s.bringups.contains k)

/-- RESET_PARTITION: by the operator or the tenant of Pn. -/
def State.resetPart (s : State) (x : Session) (v : List Byte) : State × Nat :=
  let n := leNat v
  if x.role ≠ 1 ∧ (12 ≤ n ∨ s.isTenant x n = false) then (s, accessErr)
  else if 12 ≤ n ∨ s.exists n = false then (s, invalid)
  else if (s.part n).ash.isSome ∨ s.comingUp n then (s, busy)
  else (s.resetPartition n, 0)

/-- RESET_PARTITION. -/
def execResetPartition (r : Rq) (v : List Byte) (s : State) : Host.Outcome State Fault Refusal :=
  .next (s.command r E.RESET_PARTITION v 1 (fun x s => s.resetPart x v))

/-- RESET_RICK: only for a rick in no partition. -/
def State.resetRickCmd (s : State) (v : List Byte) : State × Nat :=
  let k := leNat v
  if 12 ≤ k then (s, invalid) else if (s.partOf k).isSome then (s, busy) else (s.resetRick k, 0)

/-- RESET_RICK. -/
def execResetRick (r : Rq) (v : List Byte) (s : State) : Host.Outcome State Fault Refusal :=
  .next (s.command r E.RESET_RICK v 1 (fun _ s => s.resetRickCmd v))

/-- RESET_HEARTH: only for a hearth that no logical number is bound to. -/
def State.resetHearthCmd (s : State) (v : List Byte) : State × Nat :=
  let k := fld v 1 1
  let hh := fld v 0 1
  if 12 ≤ k ∨ 18 ≤ hh then (s, invalid) else if (s.logical (18 * k + hh)).isSome then (s, busy) else (s.resetHearth (18 * k + hh), 0)

/-- RESET_HEARTH. -/
def execResetHearth (r : Rq) (v : List Byte) (s : State) : Host.Outcome State Fault Refusal :=
  .next (s.command r E.RESET_HEARTH v 2 (fun _ s => s.resetHearthCmd v))

/-! The end of kindling (R577, R578) -/

/-- KINDLING_END: 0 drains the job, 1 unloads it at once. -/
def State.kindlingEnd (s : State) (v : List Byte) : State × Nat :=
  let n := s.kindPart
  let now1 (s : State) : State := unloadJob s n 0 0x13
  if 1 < leNat v then (s, invalid)
  else if s.num E.BOOT_STATE ≠ 3 ∨ s.kindled = false then (s, stateErr)
  else if leNat v = 1 ∨ (s.jobEntries n 0).isEmpty then (now1 s, 0)
  else (({ s with kindEnding := true }).onJob n 0 (fun x => { x with drainReq := true }), 0)

/-- KINDLING_END. -/
def execKindlingEnd (r : Rq) (v : List Byte) (s : State) : Host.Outcome State Fault Refusal :=
  .next (s.command r E.KINDLING_END v 1 (fun _ s => s.kindlingEnd v))

/-- KINDLING_PART: a change empties the kindling entries first, in force and stored (R578). -/
def State.kindlingPart (s : State) (v : List Byte) : State × Nat :=
  let n := leNat v
  if (12 ≤ n ∧ n ≠ 0xFF) ∨ kindlingRicksOk n (s.num E.KINDLING_RICKS) (s.num (E.RICK_MASK n)) = false then (s, invalid)
  else ((if n = s.num E.KINDLING_PART then s else s.dropKindling).setNum E.KINDLING_PART n, 0)

/-- KINDLING_PART. -/
def execKindlingPart (r : Rq) (v : List Byte) (s : State) : Host.Outcome State Fault Refusal :=
  .next (s.write r E.KINDLING_PART v (fun _ s => s.kindlingPart v))

/-- KINDLING_RICKS: only bits [11:0], and the same condition. -/
def State.kindlingRicks (s : State) (v : List Byte) : State × Nat :=
  let p := s.num E.KINDLING_PART
  if 4096 ≤ leNat v ∨ kindlingRicksOk p (leNat v) (s.num (E.RICK_MASK p)) = false then (s, invalid) else (s.plainWrite E.KINDLING_RICKS v, 0)

/-! Traces (R622 to R632) -/

/-- TRACE_TRIGGER: source 4. -/
def execTraceTrigger (r : Rq) (n : Fin 12) (s : State) : Host.Outcome State Fault Refusal :=
  .next (s.command r (E.TRACE_TRIGGER n) [] 0 (fun _ s => (s.trigger n 4 0 0, 0)))

/-- One TRACE region of `len` bytes in each of the partition's stacks; `none` when one does not fit. -/
def State.traceRegions (s : State) (n len : Nat) : Option State :=
  (s.ricksOf n).foldl (fun (a : Option State) k => a.bind (fun s => match s.freeRegion n, s.fitB n k len with
    | some g, some off => some (s.setRegion n g (mkRegion g 4 2 k 0xFF off len noSoff))
    | _, _ => none)) (some s)

/-- TRACE_BYTES: the old regions go, then the new ones are created and charged. -/
def State.traceBytes (s : State) (n : Nat) (v : List Byte) : State × Nat :=
  let len := leNat v
  let c := (s.ricksOf n).length
  if s.num (E.TRACE_ENABLE n) = 1 then (s, busy)
  else if len % (69632 * c) ≠ 0 ∨ 2 ^ 30 < len then (s, invalid)
  else
    let s1 := forAll ((s.regionNums n).filter (fun g => rgClass (s.region n g) == 4)) (fun g s => s.eraseRegion n g) s
    if len = 0 then (s1.setNum (E.TRACE_BYTES n) 0, 0)
    else match s1.traceRegions n (len / c) with
      | none => (s, invalid)
      | some s2 => if s1.quotaB n len then ((s2.setNum (E.TRACE_BYTES n) len).wakePart n 2, 0) else (s, quotaErr)

/-- TRACE_BYTES. -/
def execTraceBytes (r : Rq) (n : Fin 12) (v : List Byte) (s : State) : Host.Outcome State Fault Refusal :=
  .next (s.write r (E.TRACE_BYTES n) v (fun _ s => s.traceBytes n v))

/-- Consent that TRACE_ENABLE needs for TRACE_SELECT (Table 22-1). -/
def State.traceConsent (s : State) (x : Session) (n : Nat) : Bool :=
  let sel := s.num (E.TRACE_SELECT n)
  s.consents x n ((if sel.testBit 0 || sel.testBit 1 then 1 else 0) ||| (if sel.testBit 2 then 4 else 0))

/-- TRACE_ENABLE: from 0 to 1 with consent and with a region, fresh headers before the next step; to 0 the trace has ended. -/
def State.traceEnable (s : State) (x : Session) (n : Nat) (v : List Byte) : State × Nat :=
  let old := s.num (E.TRACE_ENABLE n)
  if leNat v = 0 then ((if old = 1 then s.endTrace n else s).setNum (E.TRACE_ENABLE n) 0, 0)
  else if !(s.exists n && (s.ricksOf n).all (fun k => (s.traceRegion n k).isSome)) then (s, stateErr)
  else if s.traceConsent x n = false then (s, consentErr)
  else if old = 1 then (s, 0)
  else (((s.startTrace n).setNum (E.TRACE_ENABLE n) 1).wakePart n 2, 0)

/-- TRACE_ENABLE. -/
def execTraceEnable (r : Rq) (n : Fin 12) (v : List Byte) (s : State) : Host.Outcome State Fault Refusal :=
  .next (s.write r (E.TRACE_ENABLE n) v (fun x s => s.traceEnable x n v))

/-! Breakpoints (R633 to R636) -/

/-- BP_HALT: a running step halts; a halted one stays so. -/
def State.bpHaltCmd (s : State) (x : Session) (n : Nat) : State × Nat :=
  if (s.part n).phase ≠ .running then (s, stateErr)
  else if s.consents x n 2 = false then (s, consentErr)
  else if s.haltedNow n then (s, 0)
  else (s.bpHalt n, 0)

/-- BP_HALT. -/
def execBpHalt (r : Rq) (n : Fin 12) (s : State) : Host.Outcome State Fault Refusal :=
  .next (s.command r (E.BP_HALT n) [] 0 (fun x s => s.bpHaltCmd x n))

/-- BP_RESUME: of a halted partition. -/
def State.bpResume (s : State) (n : Nat) (v : List Byte) : State × Nat :=
  if s.haltedNow n then (s.resume n (leNat v), 0) else (s, stateErr)

/-- BP_RESUME. -/
def execBpResume (r : Rq) (n : Fin 12) (v : List Byte) (s : State) : Host.Outcome State Fault Refusal :=
  .next (s.command r (E.BP_RESUME n) v 4 (fun _ s => s.bpResume n v))

/-- SNAPSHOT: of a hearth of a halted partition. -/
def State.snapshot (s : State) (x : Session) (n : Nat) (v : List Byte) : State × Nat :=
  if s.haltedNow n = false then (s, stateErr)
  else if s.consents x n 8 = false then (s, consentErr)
  else if !(s.hearthsOf n).contains (leNat v) then (s, invalid)
  else (s.setBlob (E.SNAP_DATA n) (s.snapBytes n (leNat v)), 0)

/-- SNAPSHOT. -/
def execSnapshot (r : Rq) (n : Fin 12) (v : List Byte) (s : State) : Host.Outcome State Fault Refusal :=
  .next (s.command r (E.SNAPSHOT n) v 1 (fun x s => s.snapshot x n v))

/-- A comparator as it may be written (Table 22-7). -/
def compOk (r : Nat) : Bool := decide (bits r 62 61 < 2) && bits r 60 48 == 0 && bits r 31 30 == 0 && bits r 15 14 == 0

/-- A watch as it may be written (Table 22-8). -/
def watchOk (r : Nat) : Bool :=
  decide (bits r 62 61 < 2) && bits r 60 59 == 0 && bits r 55 48 == 0 && !r.testBit 31 && !r.testBit 15 && decide (bits r 14 0 ≤ bits r 30 16)

/-- BP_REC: of the logical hearth that BP_HEARTH names; armed it needs consent. It takes effect at the next boundary, or at resume. -/
def State.bpWrite (s : State) (x : Session) (n : Nat) (v : List Byte) : State × Nat :=
  let l := s.num (E.BP_HEARTH n)
  let w := (pieces v 8 10).map leNat
  if !(s.hearthsOf n).contains l || !(w.take 8).all compOk || !(w.drop 8).all watchOk then (s, invalid)
  else if w.any (fun r => r.testBit 63) && !s.consents x n 2 then (s, consentErr)
  else (s.onPart n (fun p => { p with bpNext := p.bpNext.put l v }), 0)

/-- BP_REC. -/
def execBpRec (r : Rq) (n : Fin 12) (v : List Byte) (s : State) : Host.Outcome State Fault Refusal :=
  .next (s.write r (E.BP_REC n) v (fun x s => s.bpWrite x n v))

/-- BP_HEARTH: a logical hearth of the partition. -/
def State.bpHearth (s : State) (n : Nat) (v : List Byte) : State × Nat :=
  if (s.hearthsOf n).contains (leNat v) then (s.plainWrite (E.BP_HEARTH n) v, 0) else (s, invalid)

/-- HALT_LIMIT_NS: 0, or 1 s to 86,400 s. -/
def State.haltLimit (s : State) (n : Nat) (v : List Byte) : State × Nat :=
  if leNat v = 0 ∨ (1000000000 ≤ leNat v ∧ leNat v ≤ 86400000000000) then (s.plainWrite (E.HALT_LIMIT_NS n) v, 0) else (s, invalid)

end Sys2Proof.Machine
end

