-- ==== Sys2Proof/Machine/Entry.lean ====
section
/-!
DEFINITION. Writes by entry number: what a WRITE does to each entry of the dictionary (R474, R475, R482), and the kindling of a partition, whose setup is such
writes (R572 to R576).
-/
namespace Sys2Proof.Machine

/-! Entries with a rule of their own and no row of their own -/

/-- ETH_MODE: FORCE_ISOLATED refuses 0 (R492). -/
def State.ethMode (s : State) (n : Nat) (v : List Byte) : State × Nat :=
  if leNat v = 0 ∧ (s.limitsOf n).2.testBit 0 then (s, invalid) else (s.plainWrite (E.ETH_MODE n) v, 0)

/-- UNUSED_RICK_STATE: ricks in no partition follow it (R520); one that leaves state O is brought up (R521). -/
def State.unusedRicks (s : State) (v : List Byte) : State × Nat :=
  let free := (List.range 12).filter (fun k => (s.partOf k).isNone)
  let s1 := s.plainWrite E.UNUSED_RICK_STATE v
  if leNat v = 4 then
    (forAll (free.filter (fun k => decide ((s.rick k).pst < 4))) (fun k s => s.onRick k (fun r => { r with move := some (4, s.now), waiting := none })) s1, 0)
  else
    let up := free.filter (fun k => (s.rick k).pst == 4 && (s.rick k).bringup.isNone && !s.bringups.contains k && (s.rick k).degradedAt.isNone)
    ({ s1 with bringups := s1.bringups ++ up }, 0)

/-- REF_ACTIVE selects a reference only while both are healthy; otherwise it goes on naming the one in use (Table 19-5, caution). -/
def State.refActive (s : State) (v : List Byte) : State × Nat := (if s.refsLost = 0 then s.plainWrite E.REF_ACTIVE v else s, 0)

/-- A BLOB of at most so many bytes. -/
def State.blobUpTo (s : State) (key most : Nat) (v : List Byte) : State × Nat := if most < v.length then (s, invalid) else (s.plainWrite key v, 0)

/-! Writes by entry -/

/-- A write of an entry of partition Pn of network, power and memory sections. -/
def State.putPartTiers (s : State) (n base sub : Nat) (v : List Byte) : Option (State × Nat) :=
  match base, sub with
  | 0x1110, 5 => some (s.ethMode n v)
  | 0x1120, 2 => some (s.connWrite n v)
  | 0x2010, 1 => some (s.partBudget n v)
  | 0x2220, 1 => some (s.partClock n v)
  | 0x3030, 2 => some (s.regionDelete n v)
  | 0x3100, 6 => some (s.wsetSources n v)
  | 0x3140, 3 => some (s.epochSwitch n v)
  | 0x3200, 1 => some (s.kvModelsWrite n v)
  | 0x3200, 2 => some (s.kvPoolWrite n v)
  | 0x3200, 5 => some (s.handleRelease n v)
  | _, _ => none

/-- A write of an entry of partition Pn of scheduling, turn and ring sections. -/
def State.putPartWork (s : State) (n base sub : Nat) (v : List Byte) : Option (State × Nat) :=
  match base, sub with
  | 0x4010, 1 => some (s.rickMaskWrite n v)
  | 0x4030, 1 => some (s.partTenantWrite n v)
  | 0x4110, 6 => some (s.slicePlanWrite n v)
  | 0x4110, 13 => some (s.queueMapWrite n v)
  | 0x5000, 4 => some (s.jobDrain n v)
  | 0x5100, 1 => some (s.tctPairsWrite n v)
  | 0x5100, 2 => some (s.tctRegionsWrite n v)
  | 0x5200, 2 => some (s.ringWrite64 n v)
  | 0x5200, 4 => some (s.auditRegionWrite n v)
  | 0x5200, 5 => some (s.evidRegionWrite n v)
  | 0x5200, 6 => some (s.evidGroupsWrite n v)
  | _, _ => none

/-- A write of an entry of partition Pn of fabric and learning sections. -/
def State.putPartFabric (s : State) (n base sub : Nat) (v : List Byte) : Option (State × Nat) :=
  match base, sub with
  | 0x6100, 2 => some (s.groupWrite n v)
  | 0x6100, 3 => some (s.groupSlotsWrite n v)
  | 0x6110, 1 => some (s.bufferReg n v)
  | 0x6110, 3 => some (s.bufferDereg n v)
  | 0x6110, 5 => some (s.windowWrite n v)
  | 0x6210, 1 => some (s.trigAllocWrite n v)
  | 0x6210, 2 => some (s.trigRingWrite n v)
  | 0x6210, 3 => some (s.armOps n v, 0)
  | 0x6800, 2 => some (s.idleWrite n (E.LR_TSTEP_INIT n) v true)
  | 0x6800, 4 => some (s.lrResume n v)
  | 0x6800, 9 => some (s.lstatsRegionWrite n v)
  | _, _ => none

/-- A write of an entry of partition Pn of manage, trace and debug sections. -/
def State.putPartTools (s : State) (x : Session) (n base sub : Nat) (v : List Byte) : Option (State × Nat) :=
  match base, sub with
  | 0x8040, 3 => some (s.consentWrite n v)
  | 0x9010, 1 => some (s.traceBytes n v)
  | 0x9010, 6 => some (s.traceEnable x n v)
  | 0x9070, 1 => some (s.bpHearth n v)
  | 0x9070, 2 => some (s.bpWrite x n v)
  | 0x9070, 7 => some (s.haltLimit n v)
  | _, _ => none

/-- A write of an entry that belongs to one of twelve partitions, by the index of its row. -/
def State.putPart (s : State) (x : Session) (n base sub : Nat) (v : List Byte) : Option (State × Nat) :=
  if base < 0x4000 then s.putPartTiers n base sub v
  else if base < 0x6000 then s.putPartWork n base sub v
  else if base < 0x8000 then s.putPartFabric n base sub v
  else s.putPartTools x n base sub v

/-- A write of an entry of a tenant slot or a port. -/
def State.putUnit (s : State) (x : Session) (k base sub : Nat) (v : List Byte) : Option (State × Nat) :=
  match base, sub with
  | 0x1200, 2 => some (s.ethEnable k v)
  | 0x1200, 4 => some (s.ethOwnersWrite k v)
  | 0x3010, 1 => some (s.quotaWrite (E.QUOTA_H k) (s.usedH k) v)
  | 0x3010, 2 => some (s.quotaWrite (E.QUOTA_B k) (s.usedB k) v)
  | 0x3010, 3 => some (s.quotaWrite (E.QUOTA_S k) (s.usedS k) v)
  | 0x3010, 4 => some (s.quotaWrite (E.QUOTA_KV k) (s.usedKv k) v)
  | 0x4020, 1 => some (s.tenantIdWrite k v)
  | 0x6010, 2 => some (s.portEnable k v)
  | 0x6010, 4 => some (s.expectPeer k v)
  | 0x6010, 6 => some (s.txOwnersWrite k v)
  | 0x6010, 7 => some (s.rxOwnersWrite k v)
  | 0x8020, 1 => some (s.credAdd x k v)
  | 0x8020, 2 => some (s.credRemove k v)
  | 0x8020, 4 => some (s.setkeyInstall k v)
  | 0x8020, 5 => some (s.setkeyRemove k v)
  | _, _ => none

/-- A write of an entry of the module. -/
def State.putModule (s : State) (base sub : Nat) (v : List Byte) : Option (State × Nat) :=
  match base, sub with
  | 0x2000, 4 => some (s.moduleLimit v)
  | 0x2000, 11 => some (s.unusedRicks v)
  | 0x2200, 3 => some (s.refActive v)
  | 0x8010, 1 => some (s.opCredAdd v)
  | 0x8010, 2 => some (s.opCredRemove v)
  | 0xF000, 0x10 => some (s.kindlingPart v)
  | 0xF000, 0x11 => some (s.kindlingRicks v)
  | 0xF000, 0x12 => some (s.blobUpTo E.KINDLING_CORD 268435456 v)
  | 0xF000, 0x15 => some (s.blobUpTo E.KINDLING_SETUP 1048576 v)
  | _, _ => none

/-- A write of any entry, by its key: its own rule, or the value takes its place. With no code the write waits for an eviction copy. -/
def State.putEntry (s : State) (x : Session) (key : Nat) (v : List Byte) : State × Option Nat :=
  match entryOf (key / 256) (key % 256) with
  | none => (s, some noEntry)
  | some e =>
    let i := key / 256 - e.base
    if e.base = 0x3030 ∧ e.sub = 1 then s.regionCreate i v
    else
      let y := ((s.putPart x i e.base e.sub v).orElse (fun _ => s.putUnit x i e.base e.sub v)).orElse (fun _ => s.putModule e.base e.sub v)
      match y with
      | some z => (z.1, some z.2)
      | none => (s.plainWrite key v, some 0)

/-- A whole value reaches an entry, by WRITE or as completed blocks. -/
def State.putChecked (s : State) (x : Session) (key : Nat) (v : List Byte) (blocks : Bool) : State × Option Nat :=
  let c := checkOf key v blocks
  if c ≠ 0 then (s, some c) else s.putEntry x key v

/-- The partition whose REGION_CREATE a key is. -/
def regionPart (key : Nat) : Nat := key / 256 % 16

/-- REGISTER_WRITE. -/
def execRegisterWrite (r : Rq) (idx sub : Nat) (v : List Byte) (s : State) : Host.Outcome State Fault Refusal :=
  let key := idx * 256 + sub
  .next (s.request r opWrite key (fun x s => s.settleOr (.region r opWrite (regionPart key) v) (s.putChecked x key v false)))

/-! Block staging (R474, R475) -/

/-- Bytes staged by every session. -/
def State.stagedAll (s : State) : Nat := sumOf s.sessions (fun y => y.2.staged)

/-- One WRITE_BLOCK: the staging with its bytes, and the value once every byte up to the total is there. A block beyond a limit stages nothing. -/
def State.stageBlock (s : State) (ses : Nat) (x : Session) (key off : Nat) (first last : Bool) (v : List Byte) : State × (Nat ⊕ Option (List Byte)) :=
  let old := match x.stage.look key with
    | some e => if first then ([], none) else (e.1, e.2.1)
    | none => ([], none)
  let l := layPiece old.1 off v
  let total := if last then some (off + v.length) else old.2
  let y : Session := { x with stage := x.stage.put key (l, total, s.now) }
  if 8192 < v.length ∨ 2 ^ 30 < y.staged ∨ 2 ^ 32 < s.stagedAll - x.staged + y.staged then (s, .inl tooLarge)
  else match total.bind (fun t => wholeUpTo t 0 l) with
    | some w => (s.onSession ses (fun z => { z with stage := z.stage.del key }), .inr (some w))
    | none =>
      let s1 := s.onSession ses (fun z => { z with stage := z.stage.put key (l, total, if last then s.now else (match x.stage.look key with | some e => e.2.2 | none => s.now)) })
      (s1, if last then .inl incomplete else .inr none)

/-- WRITE_BLOCK: the staging is kept whatever the write answers; a completed value is written as one WRITE. -/
def execWriteBlock (r : Rq) (idx sub off : Nat) (first last : Bool) (v : List Byte) (s : State) : Host.Outcome State Fault Refusal :=
  let key := idx * 256 + sub
  .next (s.request r opWriteBlock key (fun x s =>
    match s.stageBlock r.ses x key off first last v with
    | (s1, .inl c) => (s1, some { status := c })
    | (s1, .inr none) => (s1, some {})
    | (s1, .inr (some w)) => s1.settleOr (.region r opWriteBlock (regionPart key) w) (s1.putChecked x key w true)))

/-! Kindling (R572 to R576) -/

/-- The records of a KINDLING_SETUP: key and value of each, to the record whose INDEX is 0; none for a sequence that does not end. -/
def setupRecords : Nat → List Byte → Option (List (Nat × List Byte))
  | 0, _ => none
  | f + 1, b =>
    if b.length < 2 then none
    else if fld b 0 2 = 0 then some []
    else
      let len := fld b 4 4
      if b.length < 8 + len ∨ fld b 3 1 ≠ 0 then none
      else (setupRecords f (b.drop (8 + roundUp len 8))).map (fun l => (fld b 0 2 * 256 + fld b 2 1, bytesAt b 8 len) :: l)

/-- A setup record is applied as a write of a tenant session of the partition (R574): the Dolli code. -/
def State.setupWrite (s : State) (x : Session) (key : Nat) (v : List Byte) : State × Nat :=
  let c := s.permit x opWrite key
  if c ≠ 0 then (s, c) else
  match s.putChecked x key v true with
  | (s1, some 0) => (s1.rechoose, 0)
  | (_, some c) => (s, c)
  | (_, none) => (s, quotaErr)

/-- The setup records in order, to the first that is rejected. -/
def State.setupAll (s : State) (x : Session) : List (Nat × List Byte) → State × Nat
  | [] => (s, 0)
  | (key, v) :: r => match s.setupWrite x key v with
    | (s1, 0) => State.setupAll s1 x r
    | (s1, c) => (s1, c)

/-- The manifest keeps to R575: MXFP8 and MXFP4 weights, two ranks, 96 GiB. -/
def kindlingManifest (m : List Byte) : Bool :=
  (List.range (mfCount m)).all (fun i => let f := fld (mfEntry m i) 0x36 2; f &&& 0x38 == f) && mfRanks m == 2 &&
  decide (sumOf (List.range 12) (mfPages m) * 4096 ≤ 103079215104)

/-- The cord keeps to R575. -/
def kindlingCord (i : List Byte) : Bool := cdKind i == 1 && cdRickCount i == 2 && cdClock i == 500

/-- Step 3: weight-set slot 0 is registered with its sources; the Dolli code of what failed. -/
def State.kindleSet (s : State) (n : Nat) : State × Nat :=
  let s1 := (s.setNum (E.WSET_SLOT n) 0).setBlob (E.WSET_MANIFEST n) (s.blob E.KINDLING_MANIFEST)
  if kindlingManifest (s.blob E.KINDLING_MANIFEST) = false then (s, invalid) else
  match s1.wsetRegister n with
  | (s2, 0) => s2.wsetSources n (s.blob E.KINDLING_SOURCES)
  | y => y

/-- Steps 4 and 5: the cord in job slot 0, and its switch to weight-set slot 0. -/
def State.kindleJob (s : State) (n : Nat) : State :=
  let i := s.blob E.KINDLING_CORD
  if s.loadCode n 0 i = 0 ∧ kindlingCord i = false then s.failKindling 5 0 0
  else
    let s1 := s.loadImage n 0 i
    let c := s1.num (E.LOAD_RESULT n)
    if c ≠ 0 then s1.failKindling 4 0 c
    else
      let s2 : State := { s1 with kindled := true }
      let s3 := s1.epochSwitch n (leBytes 2 0)
      if s3.2 ≠ 0 then s2.failKindling 4 s3.2 0
      else
        let s4 : State := { s3.1 with kindled := true }
        if (s4.part n).phase = .idle then s4.idleBoundary n else s4

/-- The partition kindles: its setup, its set, its job (R574). Each failure is told by Table 20-3. -/
def State.kindle (s : State) (n : Nat) : State :=
  let x : Session := { role := 2, net := 1, tenant := s.tenantOf n, live := true }
  match setupRecords 131073 (s.blob E.KINDLING_SETUP) with
  | none => s.failKindling 1 invalid 0
  | some l =>
    let y := s.setupAll x l
    if y.2 ≠ 0 then y.1.failKindling 1 y.2 0
    else
      let z := y.1.kindleSet n
      if z.2 ≠ 0 then z.1.failKindling 2 z.2 0
      else match z.1.wsetFetch n with
        | (s1, some 0) => if s1.kindPart = n then s1.kindleJob n else s1
        | (s1, some c) => s1.failKindling 2 c 0
        | (s1, none) => s1.failKindling 2 quotaErr 0

/-- KINDLING_START: both kindling ricks are ready and the job is not yet loaded. Without a set key for every KEY_ID of the manifest's shards KINDLING_STATUS reads
WAIT_KEY (log 70). -/
def execKindlingStart (t : Nat) (s : State) : Host.Outcome State Fault Refusal :=
  let s1 := s.at t
  let n := s1.kindPart
  let keys := Config.kindlingKeys (s1.blob E.KINDLING_MANIFEST) (s1.blob E.KINDLING_SOURCES)
  .next (if s1.kindMask = 0 ∨ s1.kindled ∨ s1.partReady n = false ∨ s1.num E.BOOT_STATE ≠ 2 then s1
    else
      let s2 := s1.setBlob E.KINDLING_STATUS (setFld (s1.blob E.KINDLING_STATUS) 8 8 (micro s1.now))
      if keys.all (fun k => (s2.setKey (s2.num (E.PART_TENANT n)) k).isSome) then (s2.setKindling 2 0).kindle n else s2.setKindling 1 0)

end Sys2Proof.Machine
end

