-- ==== Sys2Proof/Machine/Kv.lean ====
section
/-!
DEFINITION. The KV engine (R239 to R246, R250, R251, Tables 08-4 to 08-6).
-/
namespace Sys2Proof.Machine

/-! KV operands (Table 08-5) -/

/-- LIST. -/
def kvList (d : List Byte) : Nat := fld d 0x18 2
/-- MODEL. -/
def kvModel (d : List Byte) : Nat := fld d 0x1A 1
/-- FLAGS. -/
def kvFlags (d : List Byte) : Nat := fld d 0x1B 1
/-- LAYER. -/
def kvLayer (d : List Byte) : Nat := fld d 0x1C 2
/-- RATE. -/
def kvRate (d : List Byte) : Nat := fld d 0x1E 2
/-- POS. -/
def kvPos (d : List Byte) : Nat := fld d 0x20 4
/-- COUNT. -/
def kvCount (d : List Byte) : Nat := fld d 0x24 2
/-- KMAX. -/
def kvKmax (d : List Byte) : Nat := fld d 0x26 2
/-- HADDR. -/
def kvH (d : List Byte) : Nat := fld d 0x28 4
/-- VADDR. -/
def kvV (d : List Byte) : Nat := fld d 0x2C 4
/-- HANDLE. -/
def kvHandle (d : List Byte) : Nat := fld d 0x30 8

/-- A padded batch slot: the operation changes nothing and takes its full busy time (R239). -/
def kvPadded (d : List Byte) : Bool := kvList d == 0xFFFF

/-- The model record an operation names. -/
def State.kvRec (s : State) (n : Nat) (d : List Byte) : List Byte := (s.model n (kvModel d)).getD (zeros 160)

/-- The key part's size of an entry of a model (R226). -/
def kmKeyBytes (r : List Byte) : Nat :=
  let f := fld r 1 1
  let w := fld r 2 1
  partSize (f / 16) (if f.testBit 2 then 64 * w else 64 * (w % 16))
where
  /-- Bytes of a stored part of `e` elements (Table 07-2). -/
  partSize (fmt e : Nat) : Nat :=
    if fmt = 0x7 then 64 * ceilDiv (2 * e) 64 else if fmt = 0x3 then 64 * ceilDiv (33 * e) 2048 else 64 * ceilDiv e 64

/-- The request's write span for a model: to LEN of model 0 plus NTOK (R240, R348). -/
def State.writeEnd (s : State) (n k list : Nat) : Nat :=
  match s.entryOfList n list with
  | some i => (s.dir k list).lenOf 0 + (if (s.rx i).placed then (s.rx i).ntok else 0)
  | none => 0

/-- The end of what was appended to a list for a model and layer in this step (R240). -/
def State.appendedEnd (s : State) (n k list m l : Nat) : Nat :=
  ((s.part n).kv.appended.filter (fun a => a.1 == (k, list, m, l))).foldl (fun x a => max x a.2) 0

/-- The entry of one position as GATHER reads it: the bytes; zero bytes when the directory or a page is or
becomes poisoned (R250); none on an invalid reference. -/
def State.kvEntry (s : State) (n k list m l p : Nat) (r : List Byte) : State × Option (List Byte) :=
  let x := s.mapIndex n k m l (kmTpp r) p
  if s.dirBad n k list then (s, some (zeros (kmEntry r))) else
  match Tab.look (s.dir k list).ents x.1 with
  | none => (s, none)
  | some mp =>
    if s.poisoned.getD (pageKey k mp) false || s.uncorrectable (s.pageAddr n k mp + 4 * x.2) 4 then
      ((s.poisonKvPage n k mp).cacheLost n list, some (zeros (kmEntry r)))
    else match Tab.look (s.mapPage k mp) x.2 with
      | none => (s, none)
      | some q =>
        let a := s.pageAddr n k q + p % kmTpp r * kmEntry r
        if s.poisoned.getD (pageKey k q) false || s.uncorrectable a (kmEntry r) then
          ((s.poisonKvPage n k q).cacheLost n list, some (zeros (kmEntry r)))
        else (s, some (s.mem.read a (kmEntry r)))

/-- The entries of `c` positions from p; none when some reference is invalid. -/
def State.kvEntries (s : State) (n k list m l : Nat) (r : List Byte) (p : Nat) : Nat → State × Option (List (List Byte))
  | 0 => (s, some [])
  | c + 1 =>
    match s.kvEntry n k list m l p r with
    | (s1, none) => (s1, none)
    | (s1, some b) =>
      match State.kvEntries s1 n k list m l r (p + 1) c with
      | (s2, some bs) => (s2, some (b :: bs))
      | (s2, none) => (s2, none)

/-- The summary of a refused ATTACH or SNAP (R244, R246). -/
def badHandle : Summary := ⟨2 ^ 64 - 1, sumFlags false true false false false⟩

/-- A summary that is a count or a handle; ZERO when it is 0. -/
def kvSummary (v : Nat) : Summary := ⟨v, sumFlags (v == 0) false false false false⟩

/-- The summary of a padded slot: the manual names no value (log 30). -/
def kvPaddedSummary (s : State) : Summary × State := let x := s.draw; (⟨x.1.toNat, x.1.toNat % 32 + 32⟩, x.2)

/-- An operation of the KV engine starts, reading the directory of its list (R250); one on a padded slot only takes its time. -/
def kvStart (s : State) (g opc : Nat) (busy : List Byte → List Byte → Nat) (lat : Nat)
    (f : State → Nat → Nat → Op → State × Result) : State :=
  engStart s g 7 opc (fun s n l o _ =>
    let d := o.desc
    let b := busy d (s.kvRec n d)
    if kvPadded d then let x := kvPaddedSummary s; { st := x.2, res := { sum := x.1 }, busy := b, lat := lat }
    else let x := f (s.readDir n (l / 16) (kvList d) (kvList d)) n l o; { st := x.1, res := x.2, busy := b, lat := lat })

/-- GATHER: the entries of a run of positions as rows of the hearth store (Table 08-4, R240). -/
def execGather (g : Fin 216) (s : State) : Host.Outcome State Fault Refusal :=
  .next (kvStart s g 0x0701 (fun d r => ceilDiv (kvKmax d * kmEntry r) (kvRate d) + 4 * (ceilDiv (kvKmax d) (kmTpp r) + 1) + 32) 400
    (fun s n l o =>
      let d := o.desc
      let k := l / 16
      let r := s.kvRec n d
      let lim := max ((s.dir k (kvList d)).lenOf (kvModel d)) (s.appendedEnd n k (kvList d) (kvModel d) (kvLayer d))
      if lim < kvPos d + kvCount d then (s, { trap := true }) else
      match s.kvEntries n k (kvList d) (kvModel d) (kvLayer d) r (kvPos d) (kvCount d) with
      | (s1, none) => (s1, { trap := true })
      | (s1, some rows) =>
        let kb := kmKeyBytes r
        let direct := (fld r 1 1).testBit 2
        let writes := if direct then rows.mapIdx (fun j b => (kvH d + j * kb, bytesAt b 0 kb)) ++
            rows.mapIdx (fun j b => (kvV d + j * kb, bytesAt b kb (kmEntry r - kb)))
          else rows.mapIdx (fun j b => (kvH d + j * kmEntry r, b))
        (s1, { writes := writes, sum := kvSummary (kvCount d) })))

/-- The entries of positions from p written page by page (R236). Answers the pages allocated, or none where a rick has
no free page. -/
def State.kvWrite (s : State) (n k list m l : Nat) (r : List Byte) : Nat → Nat → List (List Byte) → Nat → State × Option Nat
  | 0, _, _, a => (s, some a)
  | _, _, [], a => (s, some a)
  | f + 1, p, bs, a =>
    let room := kmTpp r - p % kmTpp r
    match s.privatePage n k list m l p r with
    | (s1, none) => (s1, none)
    | (s1, some (q, x)) =>
      let s2 := s1.store (s1.pageAddr n k q + p % kmTpp r * kmEntry r) ((bs.take room).flatMap id)
      State.kvWrite s2 n k list m l r f (p + room) (bs.drop room) (a + x)

/-- APPEND: entries from the hearth store at positions from POS, allocating and copying under R236 (R240). -/
def execKvAppend (g : Fin 216) (s : State) : Host.Outcome State Fault Refusal :=
  .next (kvStart s g 0x0702
    (fun d r => ceilDiv (458752 + (ceilDiv (kvCount d) (kmTpp r) + 1 - 1) * 65536 + kvCount d * kmEntry r) (kvRate d) + 128) 400
    (fun s n l o =>
      let d := o.desc
      let k := l / 16
      let r := s.kvRec n d
      let p := kvPos d
      let c := kvCount d
      let list := kvList d
      let m := kvModel d
      if p < (s.dir k list).lenOf m ∨ s.writeEnd n k list < p + c then (s, { trap := true }) else
      let g := s.phys l
      let rows := (List.range c).map (fun j => s.hread g (kvH d + j * kmEntry r) (kmEntry r))
      let s0 := s.hreadCheck n g 0xE804 [(kvH d, c * kmEntry r)]
      match s0.kvWrite n k list m (kvLayer d) r (c + 1) p rows 0 with
      | (s1, none) => (s1, { trap := true })
      | (s1, some a) =>
        let j := (s1.part n).kv
        (s1.onPart n (fun pt => { pt with kv := { j with appended := j.appended ++ [((k, list, m, kvLayer d), p + c)] } }),
         { sum := kvSummary a })))

/-- The operand record of ACCEPT, ATTACH and SNAP that the rick fabrics compare (R242). -/
def State.kvNote (s : State) (n l : Nat) (o : Op) : State :=
  let d := o.desc
  let j := (s.part n).kv
  s.onPart n (fun p => { p with kv := { j with seqs := j.seqs ++ [(l / 16, l, o.iaddr, bytesAt d 0 2 ++ bytesAt d 0x18 40)] } })

/-- ACCEPT: PEND of MODEL becomes POS (R240). -/
def execAccept (g : Fin 216) (s : State) : Host.Outcome State Fault Refusal :=
  .next (kvStart s g 0x0703 (fun _ _ => 16) 0 (fun s n l o =>
    let d := o.desc
    let k := l / 16
    let dr := s.dir k (kvList d)
    let m := kvModel d
    if kvPos d < dr.lenOf m ∨ s.writeEnd n k (kvList d) < kvPos d then (s, { trap := true }) else
    ((s.setDir k (kvList d) { dr with pend := dr.pend.set m (some (kvPos d)) }).kvNote n l o, { sum := kvSummary (kvPos d) })))

/-- The handle's epoch lets the list's request attach it (R314). -/
def State.epochAllows (s : State) (n list : Nat) (h : Handle) : Bool :=
  s.num (E.EPOCH_POLICY n) == 2 || (match s.entryOfList n list with
    | some i => s.rqEpoch i == h.epoch
    | none => false)

/-- ATTACH: the handle's directory is copied into the empty list; its map pages gain a reference (Table 08-4, R244). -/
def execAttach (g : Fin 216) (s : State) : Host.Outcome State Fault Refusal :=
  .next (kvStart s g 0x0704 (fun d _ => ceilDiv 2048 (kvRate d) + 240) 400 (fun s n l o =>
    let d := o.desc
    let k := l / 16
    let list := kvList d
    let s0 := s.kvNote n l o
    if !(s.dir k list).isEmpty then (s0, { trap := true }) else
    let v := kvHandle d
    let slot := bits v 59 48
    match s.handle n slot with
    | some h =>
      let s0 := s0.readDir n k (s.handleList n slot) list
      if v / 2 ^ 60 = n ∧ h.check = v % 2 ^ 48 ∧ s.epochAllows n list h then
        let src := s.dir k (s.handleList n slot)
        let s1 := forAll src.ents (fun e s => s.incRef k e.2) s0
        let s2 := (s1.setDir k list { len := src.len, ents := src.ents })
        let j := (s2.part n).kv
        let s3 := s2.onPart n (fun p => { p with kv := { j with attached := if j.attached.contains list then j.attached else j.attached ++ [list] } })
        let h1 : Handle := { h with lastAttach := s.num (E.STEP_COUNT n) }
        ({ s3 with handles := s3.handles.put (n * 4096 + slot) h1 }, { sum := kvSummary (src.lenOf 0) })
      else ((match s.entryOfList n list with
        | some i => s0.onRx i (fun x => { x with attachBad := true })
        | none => s0), { sum := badHandle })
    | none => ((match s.entryOfList n list with
      | some i => s0.onRx i (fun x => { x with attachBad := true })
      | none => s0), { sum := badHandle })))

/-- The value of a handle (Table 08-7). -/
def handleValue (n slot check : Nat) : Nat := n * 2 ^ 60 + slot * 2 ^ 48 + check % 2 ^ 48

/-- The handle slot a SNAP of a list takes on a rick: the one another rick's SNAP made in this attempt, else the
lowest free one (R243). -/
def State.snapSlot (s : State) (n k list : Nat) : Option (Nat × Bool) :=
  match (s.part n).kv.handles.find? (fun h => h.1 == list && !h.2.2.contains k) with
  | some h => some (h.2.1, false)
  | none => (lowestFrom (fun i => (s.handle n i).isNone) 0 4096).map (fun i => (i, true))

/-- SNAP: a handle whose list shares the map pages of LIST (R243, R246). -/
def execSnap (g : Fin 216) (s : State) : Host.Outcome State Fault Refusal :=
  .next (kvStart s g 0x0705 (fun d _ => ceilDiv 2048 (kvRate d) + 240) 400 (fun s n l o =>
    let d := o.desc
    let k := l / 16
    let list := kvList d
    let src := s.dir k list
    let cur (m : Nat) : Nat := (src.pendOf m).getD (src.lenOf m)
    let s0 := s.kvNote n l o
    if cur 0 < kvPos d then (s0, { trap := true }) else
    match s.snapSlot n k list with
    | none => (s0, { sum := badHandle })
    | some (slot, fresh) =>
      let lens := (List.range 4).map (fun m => min (cur m) (kvPos d))
      let step := s.num (E.STEP_COUNT n)
      let check := Config.handleCheck n slot step list % 2 ^ 48
      let ep := match s.entryOfList n list with | some i => s.rqEpoch i | none => (s.part n).stepEpoch
      let h : Handle := { check := check, len := lens, epoch := ep, pinned := (kvFlags d).testBit 0, lastAttach := step }
      let s1 := if fresh then { s0 with handles := s0.handles.put (n * 4096 + slot) h } else s0
      let s2 := forAll src.ents (fun e s => s.incRef k e.2) s1
      let s3 := s2.setDir k (s2.handleList n slot) { len := lens, ents := src.ents }
      let j := (s3.part n).kv
      let hs := if fresh then j.handles ++ [(list, slot, [k])]
        else j.handles.map (fun x => if x.2.1 = slot then (x.1, x.2.1, x.2.2 ++ [k]) else x)
      let s4 := s3.onPart n (fun p => { p with kv := { j with handles := hs } })
      let s5 := match s.entryOfList n list with
        | some i => s4.onRx i (fun x => { x with handle := handleValue n slot check })
        | none => s4
      (s5, { sum := kvSummary (handleValue n slot check) })))

/-- KV_OP_COMPLETE at a cycle: rows are written and the summary is valid (R241); an operation that overran its busy
time is a schedule fault, an error found while it ran an engine trap (Table 08-8). -/
def execKvOpComplete (g : Fin 216) (c : Nat) (s : State) : Host.Outcome State Fault Refusal :=
  .next (
    match s.oldest g 7 with
    | none => s
    | some (n, l, o) =>
      let s1 := s.onHearth g (fun h => h.popOp 7)
      if o.res.trap then s1.fatalTrap n l g 0x09 7 o.iaddr o.word 0 o.done
      else
        let s2 := (s1.hwrites g o.res.writes).onHearth g (fun h => h.writeSummary o)
        let s3 := if o.done < c then s2.scheduleFault n (some g) else s2
        s3.resumeCore n l g (max c o.done))

end Sys2Proof.Machine
end

