-- ==== Sys2Proof/Machine/Sampling.lean ====
section
/-!
DEFINITION. The sampling engine (R173 to R178, Tables 05-10 and 05-11).
-/
namespace Sys2Proof.Machine

/-- PADDR (Table 05-10). -/
def saP (d : List Byte) : Nat := fld d 0x28 4
/-- NPAIRS. -/
def saPairs (d : List Byte) : Nat := fld d 0x2C 2
/-- TBASE. -/
def saTbase (d : List Byte) : Nat := fld d 0x30 4

/-- Token ids in strictly ascending order. -/
def ascending : List Nat → Bool
  | a :: b :: r => decide (a < b) && ascending (b :: r)
  | _ => true

/-- A penalised logit (R174). -/
def penalize (rho beta alpha : FV) (c : Nat) (l : FV) : FV :=
  let l1 := if (FV.zero false).lt l then f32r (l.div rho) else f32mul l rho
  f32r ((f32r (l1.sub (f32mul (FV.ofNat c) alpha))).sub beta)

/-- PENALIZE (R174): pairs of token and count, in strictly ascending order of token, or an engine trap. -/
def execPenalize (g : Fin 216) (s : State) : Host.Outcome State Fault Refusal :=
  .next (engStart s g 5 0x0501 (fun s n _ o _ =>
    let d := o.desc
    let np := saPairs d
    let prs := (pieces (s.hread g (dB d) (8 * np)) 8 np).map (fun b => (fld b 0 4, fld b 4 4))
    let lg := s.hvals g (dA d) 0x9 (dCount d)
    let rho := f32v (dS0 d % 2 ^ 32)
    let beta := f32v (dS0 d / 2 ^ 32)
    let alpha := f32v (dS1 d % 2 ^ 32)
    let out := lg.mapIdx (fun i l =>
      match prs.find? (fun p => p.1 == saTbase d + i) with
      | some p => if p.2 = 0 then l else penalize rho beta alpha p.2 l
      | none => l)
    let sum : Summary := ⟨0, sumFlags true false false false false⟩
    { st := s.hreadCheck n g 0xE501 [(dA d, 4 * dCount d), (dB d, 8 * np)],
      res := { writes := [(dDst d, packCodes 32 (out.map f32c))], sum := sum, trap := !ascending (prs.map Prod.fst),
               nan := nanWhere (out.any FV.isNan) false false d sum },
      busy := ceilDiv (dCount d) 128 + ceilDiv np 64, lat := 12 }))

/-- The values are in the order TOPK writes them (R176). -/
def topkOrder : List (FV × Nat) → Bool
  | a :: b :: r => (ranksBefore a.1 b.1 || (rankEq a.1 b.1 && decide (a.2 < b.2))) && topkOrder (b :: r)
  | _ => true

/-- The count of leading weights that reach `thr`, from the running sum `acc`; `none` when no prefix does. -/
def prefixCount (thr : FV) : FV → Nat → List FV → Option Nat
  | _, _, [] => none
  | acc, k, w :: r =>
    let a := if k = 0 then w else f32add acc w
    if thr.le a then some (k + 1) else prefixCount thr a (k + 1) r

/-- The first index whose running sum exceeds `thr`. -/
def prefixIndex (thr : FV) : FV → Nat → List FV → Option Nat
  | _, _, [] => none
  | acc, k, w :: r =>
    let a := if k = 0 then w else f32add acc w
    if thr.lt a then some k else prefixIndex thr a (k + 1) r

/-- The parameters of a sampling row (Table 05-11) and its candidates. -/
structure SampRow where
  par : List Byte
  vals : List FV
  idx : List Nat

/-- kk (R176). -/
def SampRow.kk (r : SampRow) : Nat :=
  let tk := fld r.par 0x14 2
  if tk = 0 ∨ r.vals.length < tk then r.vals.length else tk

/-- TEMP. -/
def SampRow.temp (r : SampRow) : FV := f32v (fld r.par 0x0C 4)
/-- TOP_P. -/
def SampRow.topP (r : SampRow) : FV := f32v (fld r.par 0x10 4)

/-- STATUS of a row (R178). -/
def SampRow.status (r : SampRow) : Nat :=
  if fld r.par 0x16 1 = 0 then 1
  else if (r.vals.take r.kk).any FV.isNan then 2
  else if r.temp.isNan || r.temp.lt (.zero false) || r.topP.isNan then 3
  else 0

/-- The weights w[0..kk-1] (R176). -/
def SampRow.weights (r : SampRow) : List FV :=
  let v0 := (r.vals.head?).getD .nan
  (r.vals.take r.kk).map (fun v =>
    let x := f32r ((f32r (v.sub v0)).div r.temp)
    transc 0x502 (f32c x) 0 (expV x))

/-- n, t and the weights kept (R176, R177). -/
def SampRow.kept (r : SampRow) : Nat × FV × List FV :=
  if r.temp.isZero then (1, .fin false 1 0, [.fin false 1 0])
  else
    let w := r.weights
    let s := sumAsc w
    let n := (prefixCount (f32mul r.topP s) (.zero false) 0 w).getD r.kk
    (n, sumAsc (w.take n), w.take n)

/-- u: 24 random bits (R176). -/
def SampRow.u (r : SampRow) : FV :=
  .fin false (philox (fld r.par 0 8) (fld r.par 8 4) (fld r.par 0x18 4) 0 0 0 / 2 ^ 8) (-24)

/-- The candidate SELECT chooses and its probability (R176). -/
def SampRow.choose (r : SampRow) : Nat × FV :=
  if r.temp.isZero then (0, .fin false 1 0)
  else
    let k := r.kept
    let i := (prefixIndex (f32mul r.u k.2.1) (.zero false) 0 k.2.2).getD (k.1 - 1)
    (i, f32r (((k.2.2[i]?).getD .nan).div k.2.1))

/-- A 16-byte result (Table 05-11). -/
def sampResult (token prob logp kept status : Nat) : List Byte :=
  leBytes 4 token ++ leBytes 4 prob ++ leBytes 4 logp ++ leBytes 2 kept ++ leBytes 1 status ++ zeros 1

/-- LOGP of a probability. -/
def logP (p : FV) : Nat := within2 0x503 (f32c p) 0 (lnV p)

/-- The result of a row whose STATUS is not 0: PROB, LOGP and KEPT are not stated (log 16). -/
def badResult (free : W64) (status : Nat) : List Byte :=
  sampResult 0xFFFFFFFF (free.toNat % 2 ^ 32) (free.toNat / 2 ^ 32) (free.toNat / 7 % 65536) status

/-- SELECT and PROBOF: `good` gives the result of a row with STATUS 0. -/
def sampOp (s : State) (g opc : Nat) (good : SampRow → List Byte) : State :=
  engStart s g 5 opc (fun s n _ o _ =>
    let d := o.desc
    let k := dCount d
    let rows : List SampRow := (List.range (dRows d)).map (fun r =>
      ⟨s.hread g (saP d + 32 * r) 32, s.hvals g (dA d + r * topkLine k) 0x9 k, s.hcodes g (dB d + r * topkLine k) 0x9 k⟩)
    let f := s.draw
    let out := rows.mapIdx (fun i r => if r.status = 0 then good r else badResult (f.1 + BitVec.ofNat 64 i) r.status)
    let bad := (rows.filter (fun r => decide (2 ≤ r.status))).length
    let any2 := rows.any (fun r => r.status == 2)
    let sum : Summary := ⟨bad, sumFlags (bad == 0) false any2 false false⟩
    let rd := [(saP d, 32 * dRows d), (dA d, dRows d * topkLine k), (dB d, dRows d * topkLine k)]
    { st := f.2.hreadCheck n g 0xE501 rd,
      res := { writes := out.mapIdx (fun r b => (dDst d + 16 * r, b)), sum := sum, bad := bad,
               nan := match nanWhere false false false d sum with
                 | some w => some w
                 | none => if any2 then some 4 else none,
               trap := rows.any (fun r => r.status != 1 && !topkOrder (r.vals.zip r.idx)) },
      busy := dRows d * (k + 8), lat := 48 })

/-- SELECT (R176). -/
def execSelect (g : Fin 216) (s : State) : Host.Outcome State Fault Refusal :=
  .next (sampOp s g 0x0502 (fun r =>
    let c := r.choose
    sampResult ((r.idx[c.1]?).getD 0) (f32c c.2) (logP c.2) r.kept.1 0))

/-- PROBOF (R177). -/
def execProbof (g : Fin 216) (s : State) : Host.Outcome State Fault Refusal :=
  .next (sampOp s g 0x0503 (fun r =>
    let q := fld r.par 0x1C 4
    let k := r.kept
    let p : FV := match (r.idx.take k.1).findIdx? (fun i => i == q) with
      | some j => f32r (((k.2.2[j]?).getD .nan).div k.2.1)
      | none => .zero false
    sampResult q (f32c p) (logP p) k.1 0))

end Sys2Proof.Machine
end

