-- ==== Sys2Proof/Machine/Issue.lean ====
section
/-!
DEFINITION. ISSUE (R98 to R101) and the checks that an engine makes of a descriptor in its issue cycle
(Tables 04-10, 05-12, 07-7, 08-8; R145, R264).
-/
namespace Sys2Proof.Machine

/-- Some byte range of a list lies past the hearth store, or its operand is not aligned. -/
def rowsOk (base stride rows len : Nat) : Bool :=
  al64 base && al64 stride && rangesFit (rowRanges base stride rows len)

/-- A result may lie exactly on an operand: the same base, stride and element size; any other overlap is forbidden
(R151). -/
def overlapOk (dst dstr drow dhalf a astr arow ahalf rows : Nat) : Bool :=
  (dst == a && dstr == astr && dhalf == ahalf) || !rangesMeet (rowRanges dst dstr rows drow) (rowRanges a astr rows arow)

/-- The accumulator buffers an MMUL works on: 2 × array + half. -/
def mmBufs (d : List Byte) : List Nat := (mmArrays d).map (fun a => 2 * a + mmHalf d)

/-- The tile an MMUL names: WADDR, WSADDR and the weight format (R127). -/
def mmKey (d : List Byte) : Nat × Nat × Nat := (mmW d, mmWs d, mmWf d)

/-- The matrix engine accepts a descriptor (Table 04-10, R125 to R127). -/
def mmulOk (h : Hearth) (d : List Byte) : Bool :=
  let m := mmM d
  let js := mmArrays d
  let f := mmFlags d
  let out := if f.testBit 2 then 256 else 512
  dOp d == 0x0010 && dS0 d == 0 && dS1 d == 0 && fld d 0x39 1 == 0 && fld d 0x3C 4 == 0 && f / 32 == 0 &&
  decide (1 ≤ m) && decide (m ≤ 256) && !js.isEmpty && fld d 0x36 1 / 16 == 0 && (mmPair (mmWf d) (mmAf d)).isSome &&
  (f.testBit 4 || (rowsOk (mmW d) 0 1 (128 * mmLw d) && (!isMx (mmWf d) || rowsOk (mmWs d) 0 1 (mmSw d)))) &&
  js.all (fun j => rowsOk (mmA d + j * mmAStr d) 0 1 ((m + 127) * mmLa d) &&
    (!isMx (mmAf d) || rowsOk (mmXs d + j * mmXsStr d) 0 1 (mmSx d)) &&
    (!f.testBit 1 || rowsOk (mmO d + j * mmOStr d) 0 1 (m * out))) &&
  (!f.testBit 4 || h.tileKey == some (mmKey d)) &&
  (!f.testBit 0 || (mmBufs d).all (fun b => decide (m ≤ h.accRows.getD b 0)))

/-- A vector operation has an operand B (Table 05-4). -/
def vecHasB (op : Nat) : Bool := [0x0101, 0x0102, 0x0103, 0x0104, 0x0105, 0x0106, 0x0108, 0x0109].contains op

/-- An OPCODE of Table 05-4 that takes only floating-point types. -/
def vecFpOnly (op : Nat) : Bool := !([0x0101, 0x0102, 0x0104, 0x0105, 0x0109, 0x010A] : List Nat).contains op

/-- A floating-point source of the engines: FP32, BF16, FP16. -/
def fpType (t : Nat) : Bool := t == 0x9 || t == 0x7 || t == 0x8

/-- COUNT and ROWS of the shared layout are in range (R148). -/
def sharedShape (d : List Byte) : Bool :=
  decide (1 ≤ dCount d) && decide (dCount d ≤ 16384) && decide (1 ≤ dRows d) && decide (dRows d ≤ 256)

/-- Every base and stride of the shared layout is a multiple of 64 (R149). -/
def sharedAligned (d : List Byte) : Bool :=
  al64 (dA d) && al64 (dB d) && al64 (dDst d) && al64 (dX d) && al64 (dAStr d) && al64 (dBStr d) && al64 (dDStr d) && al64 (dXStr d)

/-- A slot has been through SINIT in this step, or its SINIT is issued. -/
def Hearth.slotReady (h : Hearth) (slot : Nat) : Bool :=
  (h.stat slot).bound || (h.ops 4).any (fun o => dOp o.desc == 0x0401 && dArg o.desc == slot)

/-- The TAP field is allowed (Table 05-2, R171). -/
def tapOk (h : Hearth) (d : List Byte) : Bool :=
  bits (dTap d) 6 2 == 0 && (!(dTap d).testBit 7 || h.slotReady (dTap d % 4))

/-- The vector engine accepts a descriptor (R154, Table 05-12). -/
def vectorOk (h : Hearth) (d : List Byte) : Bool :=
  let op := dOp d
  let t := dSrc d
  let len := etRow t (dCount d)
  ((decide (0x0101 ≤ op) && decide (op ≤ 0x010A)) || (decide (0x0110 ≤ op) && decide (op ≤ 0x0115))) &&
  dDty d == t && (fpType t || (!vecFpOnly op && (t == 0xA || t == 0x6))) && dCtrl d == 0 && dArg d == 0 && tapOk h d &&
  sharedShape d && sharedAligned d && (vecHasB op || dB d == 0) &&
  rangesFit (rowRanges (dA d) (dAStr d) (dRows d) len) && rangesFit (rowRanges (dDst d) (dDStr d) (dRows d) len) &&
  overlapOk (dDst d) (dDStr d) len (etHalf t) (dA d) (dAStr d) len (etHalf t) (dRows d) &&
  (!vecHasB op || (rangesFit (rowRanges (dB d) (dBStr d) (dRows d) len) &&
    overlapOk (dDst d) (dDStr d) len (etHalf t) (dB d) (dBStr d) len (etHalf t) (dRows d)))

/-- The reduction unit accepts a descriptor (R157, R158, R162). -/
def reduceOk (d : List Byte) : Bool :=
  let op := dOp d
  let t := dSrc d
  let lines := if rdAxis d then dRows d else dCount d
  let line := if rdAxis d then dCount d else dRows d
  let k := dArg d
  let lk := 64 * ceilDiv (4 * k) 64
  let out := if op = 0x0206 then lines * lk else 4 * lines
  let src := rowRanges (dA d) (dAStr d) (dRows d) (etRow t (dCount d))
  decide (0x0201 ≤ op) && decide (op ≤ 0x0206) && fpType t && dDty d == 0x9 && dCtrl d / 8 == 0 && dDStr d == 0 &&
  rdPost d != 3 && (rdPost d == 0 || decide (op ≤ 0x0204)) &&
  (if op = 0x0206 then decide (1 ≤ k) && decide (k ≤ 64) && decide (k ≤ line) else k == 0) &&
  dTap d == 0 && sharedShape d && sharedAligned d && dB d == 0 && rangesFit src &&
  rangesFit [(dDst d, out)] && !rangesMeet [(dDst d, out)] src && (decide (op < 0x0205) || rangesFit [(dX d, out)])

/-- A code of Table 04-2 that is not block-scaled, FP32 or INT32 (Table 05-6). -/
def plainType (t : Nat) : Bool := [0x1, 0x2, 0x6, 0x7, 0x8, 0x9, 0xA].contains t

/-- The conversion engine accepts a descriptor (R163, Table 05-6). -/
def convertOk (h : Hearth) (d : List Byte) : Bool :=
  let op := dOp d
  let src := dSrc d
  let dst := dDty d
  let c := dCount d
  let rows := dRows d
  let ctrl := dCtrl d
  let wide := src == 0x9 || src == 0x7
  let scaled (t : Nat) := isMx t || t == 0xB
  let types := match op with
    | 0x0301 => plainType src && plainType dst
    | 0x0302 => fpType src && isMx dst && c % 32 == 0
    | 0x0303 => wide && dst == 0xB && c % 32 == 0
    | 0x0304 => wide && dst == 0xC && c % 1024 == 0
    | 0x0305 => (scaled src || src == 0xC) && (dst == 0x9 || dst == 0x7) && c % (if src = 0xC then 1024 else 32) == 0
    | 0x0306 => plainType dst
    | _ => false
  let sl := etRow src c
  let dl := etRow dst c
  types && decide (ctrl % 8 < 6) && ctrl / 32 == 0 && dArg d == 0 && tapOk h d && sharedShape d && sharedAligned d &&
  dB d == 0 && rangesFit (rowRanges (dDst d) (dDStr d) rows dl) &&
  (op == 0x0306 || (rangesFit (rowRanges (dA d) (dAStr d) rows sl) &&
    overlapOk (dDst d) (dDStr d) dl (etHalf dst) (dA d) (dAStr d) sl (etHalf src) rows)) &&
  (!(scaled src && op == 0x0305 || scaled dst) || rangesFit (rowRanges (dX d) (dXStr d) rows (ceilDiv c 32)))

/-- The statistics unit accepts a descriptor (R169, R171). -/
def statsOk (h : Hearth) (d : List Byte) : Bool :=
  let op := dOp d
  let t := dSrc d
  decide (0x0401 ≤ op) && decide (op ≤ 0x0403) && decide (dArg d ≤ 3) && dCtrl d == 0 && dTap d == 0 && sharedAligned d &&
  dB d == 0 &&
  (op != 0x0402 || (fpType t && h.slotReady (dArg d) && sharedShape d &&
    rangesFit (rowRanges (dA d) (dAStr d) (dRows d) (etRow t (dCount d))))) &&
  (op != 0x0403 || rangesFit [(dDst d, 512)])

/-- The sampling engine accepts a descriptor (R173, Table 05-10). -/
def sampleOk (d : List Byte) : Bool :=
  let op := dOp d
  let c := dCount d
  let rows := dRows d
  let lk := 64 * ceilDiv (4 * c) 64
  fld d 0x2E 2 == 0 && allZero (bytesAt d 0x34 12) && al64 (dA d) && al64 (dB d) && al64 (dDst d) && al64 (saP d) &&
  (if op = 0x0501 then
    rows == 1 && decide (1 ≤ c) && decide (c ≤ 16384) && rangesFit [(dA d, 4 * c), (dB d, 8 * saPairs d), (dDst d, 4 * c)] &&
    (dDst d == dA d || !rangesMeet [(dDst d, 4 * c)] [(dA d, 4 * c)])
  else
    (op == 0x0502 || op == 0x0503) && decide (1 ≤ rows) && decide (rows ≤ 256) && decide (1 ≤ c) && decide (c ≤ 64) &&
    rangesFit [(dA d, rows * lk), (dB d, rows * lk), (dDst d, 16 * rows), (saP d, 32 * rows)])

/-- The fields that every operation of a chain carries as its first (R211). -/
def chainFields (d : List Byte) : List Nat :=
  [fld d 0x3C 1, atWidth d, fld d 0x3E 1, atQpos d, dS0 d % 2 ^ 32, atWin d, atGroup d, atMask d] ++
  [atEvid d, atOutBf d, atScBf d].map (fun b => if b then 1 else 0)

/-- The attention pipeline accepts a descriptor (Table 07-7, R203 to R212). -/
def attnOk (h : Hearth) (d : List Byte) : Bool :=
  let kw := atWidth d % 16
  let vw := atWidth d / 16
  let reads := [(atK d, atKmax d * atRr d)] ++ (if atFirst d then [(atQ d, atRows d * atRq d)] else []) ++
    (if atDirect d then [(atV d, atKmax d * atRv d)] else if atFirst d then [(atV d, 64)] else [])
  let outs := if atLast d then [(atO d, atRows d * atRo d)] else []
  let scores := if atScores d then [(atS d, atRows d * atRs d)] else []
  let recs := if atLast d && atEvid d then [(atE d, 128 * atT d)] else []
  dOp d == 0x0601 && dS0 d / 2 ^ 32 == 0 && bits (dS1 d) 63 48 == 0 &&
  decide (1 ≤ atT d) && decide (atT d ≤ 9) && (fld d 0x3E 1).testBit 3 == false && fld d 0x3E 1 % 4 == 0 &&
  [0x1, 0x3, 0x7].contains (atFmt d) &&
  (if atDirect d then decide (1 ≤ atWidth d) && decide (atWidth d ≤ 4)
   else decide (1 ≤ kw) && decide (1 ≤ vw) && decide (kw + vw ≤ 16)) &&
  atMask d != 3 && (atMask d != 2 || atWin d != 0) &&
  atKmax d % 32 == 0 && decide (32 ≤ atKmax d) && decide (atKmax d ≤ 8192) && decide (atKlen d ≤ atKmax d) &&
  (atScores d || atS d == 0) && (atEvid d || atE d == 0) &&
  (reads ++ outs ++ scores ++ recs).all (fun x => al64 x.1) && rangesFit (reads ++ outs ++ scores ++ recs) &&
  !rangesMeet (outs ++ scores ++ recs) reads && !rangesMeet outs (scores ++ recs) && !rangesMeet scores recs &&
  (match h.chainDesc with
   | none => atFirst d
   | some c => !atFirst d && chainFields c == chainFields d && atKpos d == (atKpos c + atKlen c) % 2 ^ 32)

/-- The KV engine accepts a descriptor in its issue cycle (Table 08-8); what depends on the directories is found when
the operation runs. -/
def State.kvOk (s : State) (n l : Nat) (d : List Byte) : Bool :=
  let op := dOp d
  let rate := kvRate d
  let lists := s.entryCount n + 4096
  match s.model n (kvModel d) with
  | none => false
  | some r =>
    let direct := (fld r 1 1).testBit 2
    let kb := kmKeyBytes r
    let rows := if direct then [(kvH d, kvKmax d * kb), (kvV d, kvKmax d * (kmEntry r - kb))] else [(kvH d, kvKmax d * kmEntry r)]
    decide (0x0701 ≤ op) && decide (op ≤ 0x0705) && dS0 d == 0 && dS1 d == 0 && allZero (bytesAt d 0x38 8) &&
    kvFlags d / 2 == 0 && (op == 0x0705 || kvFlags d == 0) && decide (kvLayer d < kmLayers r) && kmHome r (kvLayer d) == l / 16 &&
    rate % 64 == 0 && decide (64 ≤ rate) && decide (rate ≤ 512) && (kvPadded d || decide (kvList d < lists)) &&
    (direct || kvV d == 0) && (op != 0x0703 || decide (kvPos d ≤ kmMaxctx r)) &&
    ((op != 0x0701 && op != 0x0702) || decide (kvPos d + kvCount d ≤ kmMaxctx r)) &&
    (op != 0x0701 || (decide (kvCount d ≤ kvKmax d) && kvKmax d % 32 == 0 && decide (32 ≤ kvKmax d) && decide (kvKmax d ≤ 8192) &&
      rows.all (fun x => al64 x.1) && rangesFit rows)) &&
    (op != 0x0702 || (decide (1 ≤ kvCount d) && decide (kvCount d ≤ 8192) && al64 (kvH d) && rangesFit [(kvH d, kvCount d * kmEntry r)]))

/-- The layout engine may move `len` bytes from or to a tier address (R257, R264, R432). -/
def State.tierOk (s : State) (n ta len : Nat) (write : Bool) : Bool :=
  if taTier ta = 3 then
    let w := s.window n (taWindow ta)
    wnValid w && decide (taPoff ta + len ≤ wnLen w)
  else match s.rangeRegion n ta len with
    | some r => if write then classWrite (rgClass (s.region n r)) else classRead (rgClass (s.region n r))
    | none => false

/-- The layout engine accepts a descriptor (R143, R145). -/
def State.layoutOk (s : State) (n : Nat) (d : List Byte) : Bool :=
  let op := dOp d
  let rows := laRows d
  let linear := op == 0x0001 || op == 0x0002 || op == 0x0006
  let pair := (mmPair (laWf d) (laAf d)).isSome
  let span (len : Nat) := (rows - 1) * laTStr d + len
  let hlen := if linear then laRB d else if op = 0x0005 then laTile d else (rows + 127) * laLine d
  let hrows := if op = 0x0003 ∨ op = 0x0004 then 1 else rows
  decide (1 ≤ op) && decide (op ≤ 6) && allZero (bytesAt d 0x35 3) && allZero (bytesAt d 0x38 8) &&
  decide (1 ≤ rows) && decide (rows ≤ 65536) && (linear || pair) &&
  (!linear || (laRB d % 64 == 0 && decide (rows * laRB d ≤ 2 ^ 23))) &&
  al64 (laH d) && al64 (laHStr d) && rangesFit (rowRanges (laH d) (laHStr d) hrows hlen) &&
  (match op with
   | 1 => s.tierOk n (laT d) (span (laRB d)) false
   | 2 => s.tierOk n (laT d) (span (laRB d)) true
   | 3 => s.tierOk n (laT d) (span (laLine d)) false
   | 4 => rangesFit [(laT d % 2 ^ 23, span (laLine d))]
   | _ => true)

/-- The engine accepts a descriptor in its issue cycle; SUMDEST bits [6:3] and byte 3 are zero (Table 03-4). -/
def State.descOk (s : State) (n l g e : Nat) (d : List Byte) : Bool :=
  let h := s.hearth g
  bits (fld d 2 1) 6 3 == 0 && fld d 3 1 == 0 &&
  (match e with
   | 0 => mmulOk h d
   | 1 => vectorOk h d
   | 2 => reduceOk d
   | 3 => convertOk h d
   | 4 => statsOk h d
   | 5 => sampleOk d
   | 6 => attnOk h d
   | 7 => s.kvOk n l d
   | _ => s.layoutOk n d)

/-- What the hearth remembers of an issued descriptor for the checks of later ones: the tile in the active buffer
(R127), the accumulator rows written (Table 04-10), the open chain (R212). -/
def Hearth.noteIssue (h : Hearth) (e : Nat) (d : List Byte) : Hearth :=
  if e = 0 then
    { h with tileKey := some (mmKey d),
             accRows := (mmBufs d).foldl (fun t b => t.put b (max (mmM d) (t.getD b 0))) h.accRows }
  else if e = 6 then { h with chainDesc := if atLast d then none else some d }
  else h

/-- The descriptor as the engine receives it (R98). -/
def State.descriptor (s : State) (g : Nat) (w : W32) (a : Nat) : List Byte :=
  let h := s.hearth g
  let d := s.mem.read (sdWork g + a) 64
  let d1 := if wC w = 0 then d else setFld d 8 8 (h.reg (wC w)).toNat
  if wD w = 0 then d1 else setFld d1 0x10 8 (h.reg (wD w)).toNat

/-- ISSUE to an engine with a free queue entry: the descriptor is copied and the operation queued (R98, R100, R101). -/
def State.issueOp (s : State) (n g e : Nat) (w : W32) (d : List Byte) : State :=
  let h := s.hearth g
  let o : Op := { desc := d, seq := h.opSeq, iaddr := h.pc, word := w.toNat, issued := h.cycle }
  let h1 := { h.setOps e (h.ops e ++ [o]) with opSeq := h.opSeq + 1 }
  let h2 := if dSumOn d then { h1 with ys := h1.ys.put (dSumY d) { value := (h1.y (dSumY d)).value, writer := some o.seq } } else h1
  let s1 := s.coreRecord n g 0x04 e h.pc (dOp d + 2 ^ 16 * fld d 2 1 + 2 ^ 32 * dTensor d)
  s1.onHearth g (fun b => { ((h2.noteIssue e d).retire h.nextPc 1).count 3 1 with trace := b.trace })

/-- ISSUE: passes the descriptor at S[B] to engine ENG (R98 to R101). -/
def execIssue (g : Fin 216) (s : State) : Host.Outcome State Fault Refusal :=
  .next (coreRun s g .issue (fun s n l w =>
    let h := s.hearth g
    let a := (h.reg (wB w)).toNat
    let e := wEng w
    if a % 64 ≠ 0 then s.coreTrap n l g 0x02 w.toNat (a % 2 ^ 32)
    else if 0x8000 < a + 64 then s.coreTrap n l g 0x03 w.toNat (a % 2 ^ 32)
    else if s.uncorrectable (sdWork g + a) 64 then s.coreTrap n l g 0x08 w.toNat
    else
      let s1 := s.watch n l 2 a 64
      if 4 ≤ ((h.ops e).filter (fun o => !o.started)).length then
        (s1.scheduleFault n (some g)).onHearth g (fun h => h.retire h.nextPc 1)
      else
        let d := s1.descriptor g w a
        if s1.descOk n l g e d then s1.issueOp n g e w d
        else s1.fatalTrap n l g 0x09 e h.pc w.toNat 0 h.cycle))

end Sys2Proof.Machine
end

