-- ==== Sys2Proof/Machine/Dispatch.lean ====
section
/-!
DEFINITION. One arm for each command: the direct call of its meaning, or a refusal by its mnemonic.
-/
namespace Sys2Proof.Machine

def exec (i : Instr) (s : State) : Host.Outcome State Fault Refusal :=
  match i with
  | .add g => Sys2Proof.Machine.execAdd g s
  | .sub g => Sys2Proof.Machine.execSub g s
  | .and g => Sys2Proof.Machine.execAnd g s
  | .or g => Sys2Proof.Machine.execOr g s
  | .xor g => Sys2Proof.Machine.execXor g s
  | .shl g => Sys2Proof.Machine.execShl g s
  | .shr g => Sys2Proof.Machine.execShr g s
  | .sar g => Sys2Proof.Machine.execSar g s
  | .mul g => Sys2Proof.Machine.execMul g s
  | .mulh g => Sys2Proof.Machine.execMulh g s
  | .slt g => Sys2Proof.Machine.execSlt g s
  | .sltu g => Sys2Proof.Machine.execSltu g s
  | .min g => Sys2Proof.Machine.execMin g s
  | .max g => Sys2Proof.Machine.execMax g s
  | .fadd g => Sys2Proof.Machine.execFadd g s
  | .fsub g => Sys2Proof.Machine.execFsub g s
  | .fmul g => Sys2Proof.Machine.execFmul g s
  | .fmin g => Sys2Proof.Machine.execFmin g s
  | .fmax g => Sys2Proof.Machine.execFmax g s
  | .flt g => Sys2Proof.Machine.execFlt g s
  | .fcvti g => Sys2Proof.Machine.execFcvti g s
  | .fcvtf g => Sys2Proof.Machine.execFcvtf g s
  | .addi g => Sys2Proof.Machine.execAddi g s
  | .andi g => Sys2Proof.Machine.execAndi g s
  | .ori g => Sys2Proof.Machine.execOri g s
  | .xori g => Sys2Proof.Machine.execXori g s
  | .shli g => Sys2Proof.Machine.execShli g s
  | .shri g => Sys2Proof.Machine.execShri g s
  | .sari g => Sys2Proof.Machine.execSari g s
  | .movh g => Sys2Proof.Machine.execMovh g s
  | .ld64 g => Sys2Proof.Machine.execLd64 g s
  | .ld32 g => Sys2Proof.Machine.execLd32 g s
  | .ld16 g => Sys2Proof.Machine.execLd16 g s
  | .ld8 g => Sys2Proof.Machine.execLd8 g s
  | .st64 g => Sys2Proof.Machine.execSt64 g s
  | .st32 g => Sys2Proof.Machine.execSt32 g s
  | .st16 g => Sys2Proof.Machine.execSt16 g s
  | .st8 g => Sys2Proof.Machine.execSt8 g s
  | .beq g => Sys2Proof.Machine.execBeq g s
  | .bne g => Sys2Proof.Machine.execBne g s
  | .blt g => Sys2Proof.Machine.execBlt g s
  | .bge g => Sys2Proof.Machine.execBge g s
  | .bltu g => Sys2Proof.Machine.execBltu g s
  | .bgeu g => Sys2Proof.Machine.execBgeu g s
  | .jmp g => Sys2Proof.Machine.execJmp g s
  | .jr g => Sys2Proof.Machine.execJr g s
  | .bsum g => Sys2Proof.Machine.execBsum g s
  | .srd g => Sys2Proof.Machine.execSrd g s
  | .sflg g => Sys2Proof.Machine.execSflg g s
  | .issue g => Sys2Proof.Machine.execIssue g s
  | .fence g => Sys2Proof.Machine.execFence g s
  | .waitc g => Sys2Proof.Machine.execWaitc g s
  | .waitcRelease g => Sys2Proof.Machine.execWaitcRelease g s
  | .bar g => Sys2Proof.Machine.execBar g s
  | .barComplete n => Sys2Proof.Machine.execBarComplete n s
  | .poll g => Sys2Proof.Machine.execPoll g s
  | .csrr g => Sys2Proof.Machine.execCsrr g s
  | .csrw g => Sys2Proof.Machine.execCsrw g s
  | .note g => Sys2Proof.Machine.execNote g s
  | .stepend g => Sys2Proof.Machine.execStepend g s
  | .haltStop n t => Sys2Proof.Machine.execHaltStop n t s
  | .rakingPieceStart n t => Sys2Proof.Machine.execRakingPieceStart n t s
  | .rakingPieceEnd n t => Sys2Proof.Machine.execRakingPieceEnd n t s
  | .scheduleFault g unit slot => Sys2Proof.Machine.execScheduleFault g unit slot s
  | .mmul g => Sys2Proof.Machine.execMmul g s
  | .mmulComplete g => Sys2Proof.Machine.execMmulComplete g s
  | .mmulWritebackEnd g => Sys2Proof.Machine.execMmulWritebackEnd g s
  | .linIn g => Sys2Proof.Machine.execLinIn g s
  | .linOut g => Sys2Proof.Machine.execLinOut g s
  | .skewIn g => Sys2Proof.Machine.execSkewIn g s
  | .skewLocal g => Sys2Proof.Machine.execSkewLocal g s
  | .weightIn g => Sys2Proof.Machine.execWeightIn g s
  | .fill g => Sys2Proof.Machine.execFill g s
  | .layoutOpComplete g c => Sys2Proof.Machine.execLayoutOpComplete g c s
  | .vectorAdd g => Sys2Proof.Machine.execVectorAdd g s
  | .vectorSub g => Sys2Proof.Machine.execVectorSub g s
  | .vectorMul g => Sys2Proof.Machine.execVectorMul g s
  | .vectorMax g => Sys2Proof.Machine.execVectorMax g s
  | .vectorMin g => Sys2Proof.Machine.execVectorMin g s
  | .axpy g => Sys2Proof.Machine.execAxpy g s
  | .affine g => Sys2Proof.Machine.execAffine g s
  | .muls g => Sys2Proof.Machine.execMuls g s
  | .sel g => Sys2Proof.Machine.execSel g s
  | .abs g => Sys2Proof.Machine.execAbs g s
  | .exp g => Sys2Proof.Machine.execExp g s
  | .log g => Sys2Proof.Machine.execLog g s
  | .recip g => Sys2Proof.Machine.execRecip g s
  | .rsqrt g => Sys2Proof.Machine.execRsqrt g s
  | .sigm g => Sys2Proof.Machine.execSigm g s
  | .silu g => Sys2Proof.Machine.execSilu g s
  | .reduceSum g => Sys2Proof.Machine.execReduceSum g s
  | .sumsq g => Sys2Proof.Machine.execSumsq g s
  | .reduceMax g => Sys2Proof.Machine.execReduceMax g s
  | .reduceMin g => Sys2Proof.Machine.execReduceMin g s
  | .argmax g => Sys2Proof.Machine.execArgmax g s
  | .topk g => Sys2Proof.Machine.execTopk g s
  | .cast g => Sys2Proof.Machine.execCast g s
  | .quantMx g => Sys2Proof.Machine.execQuantMx g s
  | .quantG16 g => Sys2Proof.Machine.execQuantG16 g s
  | .compress g => Sys2Proof.Machine.execCompress g s
  | .expand g => Sys2Proof.Machine.execExpand g s
  | .constFill g => Sys2Proof.Machine.execConstFill g s
  | .sinit g => Sys2Proof.Machine.execSinit g s
  | .sacc g => Sys2Proof.Machine.execSacc g s
  | .sout g => Sys2Proof.Machine.execSout g s
  | .penalize g => Sys2Proof.Machine.execPenalize g s
  | .select g => Sys2Proof.Machine.execSelect g s
  | .probof g => Sys2Proof.Machine.execProbof g s
  | .attn g => Sys2Proof.Machine.execAttn g s
  | .attnComplete g => Sys2Proof.Machine.execAttnComplete g s
  | .gather g => Sys2Proof.Machine.execGather g s
  | .kvAppend g => Sys2Proof.Machine.execKvAppend g s
  | .accept g => Sys2Proof.Machine.execAccept g s
  | .attach g => Sys2Proof.Machine.execAttach g s
  | .snap g => Sys2Proof.Machine.execSnap g s
  | .kvOpComplete g c => Sys2Proof.Machine.execKvOpComplete g c s
  | .engineOpComplete g e => Sys2Proof.Machine.execEngineOpComplete g e s
  | .stepBoundary n t => Sys2Proof.Machine.execStepBoundary n t s
  | .rakePauseEnd n t => Sys2Proof.Machine.execRakePauseEnd n t s
  | .switchWritebackDone n t => Sys2Proof.Machine.execSwitchWritebackDone n t s
  | .slotMapsInForce n t => Sys2Proof.Machine.execSlotMapsInForce n t s
  | .tierSCopyDone n t => Sys2Proof.Machine.execTierSCopyDone n t s
  | .switchPrologueDone n t => Sys2Proof.Machine.execSwitchPrologueDone n t s
  | .stepRecordDelivery n t => Sys2Proof.Machine.execStepRecordDelivery n t s
  | .boundaryRecord n t => Sys2Proof.Machine.execBoundaryRecord n t s
  | .queueMessageWrite n q stamp msg t => Sys2Proof.Machine.execQueueMessageWrite n q stamp msg t s
  | .writeBackPage n t => Sys2Proof.Machine.execWriteBackPage n t s
  | .kvReleaseUnit n t => Sys2Proof.Machine.execKvReleaseUnit n t s
  | .scrubUnit n t => Sys2Proof.Machine.execScrubUnit n t s
  | .arrayCheckUnit n t => Sys2Proof.Machine.execArrayCheckUnit n t s
  | .calibrationUnit n t => Sys2Proof.Machine.execCalibrationUnit n t s
  | .agingMonitorUnit n t => Sys2Proof.Machine.execAgingMonitorUnit n t s
  | .telemetryUnit n t => Sys2Proof.Machine.execTelemetryUnit n t s
  | .digestRecheck n t => Sys2Proof.Machine.execDigestRecheck n t s
  | .passOverdue n task t => Sys2Proof.Machine.execPassOverdue n task t s
  | .backgroundWakeDue n t => Sys2Proof.Machine.execBackgroundWakeDue n t s
  | .channelMigrationUnit n t => Sys2Proof.Machine.execChannelMigrationUnit n t s
  | .rowRepair k t => Sys2Proof.Machine.execRowRepair k t s
  | .spareManifestStore ok t => Sys2Proof.Machine.execSpareManifestStore ok t s
  | .channelFailure k ch t => Sys2Proof.Machine.execChannelFailure k ch t s
  | .substrateChannelFailure k ch t => Sys2Proof.Machine.execSubstrateChannelFailure k ch t s
  | .shardArrival n w shard data t => Sys2Proof.Machine.execShardArrival n w shard data t s
  | .refetchComplete n w shard ok t => Sys2Proof.Machine.execRefetchComplete n w shard ok t s
  | .holdLimitExpiry n w t => Sys2Proof.Machine.execHoldLimitExpiry n w t s
  | .evictionCopyComplete n w t => Sys2Proof.Machine.execEvictionCopyComplete n w t s
  | .load r n => Sys2Proof.Machine.execLoad r n s
  | .unload r n => Sys2Proof.Machine.execUnload r n s
  | .nanClear r n => Sys2Proof.Machine.execNanClear r n s
  | .handleRelease r n v => Sys2Proof.Machine.execHandleRelease r n v s
  | .regionCreate r n v => Sys2Proof.Machine.execRegionCreate r n v s
  | .regionDelete r n v => Sys2Proof.Machine.execRegionDelete r n v s
  | .flushAll r n => Sys2Proof.Machine.execFlushAll r n s
  | .wsetRegister r n => Sys2Proof.Machine.execWsetRegister r n s
  | .wsetFetch r n => Sys2Proof.Machine.execWsetFetch r n s
  | .wsetRelease r n => Sys2Proof.Machine.execWsetRelease r n s
  | .epochSwitch r n v => Sys2Proof.Machine.execEpochSwitch r n v s
  | .jobDrain r n v => Sys2Proof.Machine.execJobDrain r n v s
  | .lrResume r n v => Sys2Proof.Machine.execLrResume r n v s
  | .turnArm r n => Sys2Proof.Machine.execTurnArm r n s
  | .turnDisarm r n => Sys2Proof.Machine.execTurnDisarm r n s
  | .bufferReg r n v => Sys2Proof.Machine.execBufferReg r n v s
  | .bufferDereg r n v => Sys2Proof.Machine.execBufferDereg r n v s
  | .bufferFreed n rkey t => Sys2Proof.Machine.execBufferFreed n rkey t s
  | .trigOps r n v => Sys2Proof.Machine.execTrigOps r n v s
  | .objInstall r => Sys2Proof.Machine.execObjInstall r s
  | .fwSvnCommit r => Sys2Proof.Machine.execFwSvnCommit r s
  | .opCredAdd r v => Sys2Proof.Machine.execOpCredAdd r v s
  | .opCredRemove r v => Sys2Proof.Machine.execOpCredRemove r v s
  | .credAdd r ts v => Sys2Proof.Machine.execCredAdd r ts v s
  | .credRemove r ts v => Sys2Proof.Machine.execCredRemove r ts v s
  | .setkeyInstall r ts v => Sys2Proof.Machine.execSetkeyInstall r ts v s
  | .setkeyRemove r ts v => Sys2Proof.Machine.execSetkeyRemove r ts v s
  | .attest r n v => Sys2Proof.Machine.execAttest r n v s
  | .moduleAttest r v => Sys2Proof.Machine.execModuleAttest r v s
  | .ashOut r v flashOk => Sys2Proof.Machine.execAshOut r v flashOk s
  | .ashOutZeroingStart n t => Sys2Proof.Machine.execAshOutZeroingStart n t s
  | .ashOutCheck n ok t => Sys2Proof.Machine.execAshOutCheck n ok t s
  | .ashOutEnd n t => Sys2Proof.Machine.execAshOutEnd n t s
  | .wake r n => Sys2Proof.Machine.execWake r n s
  | .wakeAtReached n t => Sys2Proof.Machine.execWakeAtReached n t s
  | .fmStart r k => Sys2Proof.Machine.execFmStart r k s
  | .fmDone k count t => Sys2Proof.Machine.execFmDone k count t s
  | .resetModule r => Sys2Proof.Machine.execResetModule r s
  | .resetPartition r v => Sys2Proof.Machine.execResetPartition r v s
  | .resetRick r v => Sys2Proof.Machine.execResetRick r v s
  | .resetHearth r v => Sys2Proof.Machine.execResetHearth r v s
  | .kindlingEnd r v => Sys2Proof.Machine.execKindlingEnd r v s
  | .traceTrigger r n => Sys2Proof.Machine.execTraceTrigger r n s
  | .bpHalt r n => Sys2Proof.Machine.execBpHalt r n s
  | .bpResume r n v => Sys2Proof.Machine.execBpResume r n v s
  | .haltLimitExpiry n t => Sys2Proof.Machine.execHaltLimitExpiry n t s
  | .snapshot r n v => Sys2Proof.Machine.execSnapshot r n v s
  | .perfClear r n => Sys2Proof.Machine.execPerfClear r n s
  | .traceSweep n t => Sys2Proof.Machine.execTraceSweep n t s
  | .rickMask r n v => Sys2Proof.Machine.execRickMask r n v s
  | .queueMap r n v => Sys2Proof.Machine.execQueueMap r n v s
  | .kvModels r n v => Sys2Proof.Machine.execKvModels r n v s
  | .kvPoolPages r n v => Sys2Proof.Machine.execKvPoolPages r n v s
  | .tctPairs r n v => Sys2Proof.Machine.execTctPairs r n v s
  | .tctRegions r n v => Sys2Proof.Machine.execTctRegions r n v s
  | .auditRegion r n v => Sys2Proof.Machine.execAuditRegion r n v s
  | .evidRegion r n v => Sys2Proof.Machine.execEvidRegion r n v s
  | .lstatsRegion r n v => Sys2Proof.Machine.execLstatsRegion r n v s
  | .tenantId r ts v => Sys2Proof.Machine.execTenantId r ts v s
  | .partTenant r n v => Sys2Proof.Machine.execPartTenant r n v s
  | .consent r n v => Sys2Proof.Machine.execConsent r n v s
  | .partClockMhz r n v => Sys2Proof.Machine.execPartClockMhz r n v s
  | .partBudgetW r n v => Sys2Proof.Machine.execPartBudgetW r n v s
  | .txOwners r p v => Sys2Proof.Machine.execTxOwners r p v s
  | .ethOwners r e v => Sys2Proof.Machine.execEthOwners r e v s
  | .connRec r n v => Sys2Proof.Machine.execConnRec r n v s
  | .groupRec r n v => Sys2Proof.Machine.execGroupRec r n v s
  | .ringDesc r n v => Sys2Proof.Machine.execRingDesc r n v s
  | .traceBytes r n v => Sys2Proof.Machine.execTraceBytes r n v s
  | .traceEnable r n v => Sys2Proof.Machine.execTraceEnable r n v s
  | .bpRec r n v => Sys2Proof.Machine.execBpRec r n v s
  | .kindlingPart r v => Sys2Proof.Machine.execKindlingPart r v s
  | .portEnable r p v => Sys2Proof.Machine.execPortEnable r p v s
  | .registerWrite r idx sub v => Sys2Proof.Machine.execRegisterWrite r idx sub v s
  | .hello m t => Sys2Proof.Machine.execHello m t s
  | .finish ses seq sigsOk t => Sys2Proof.Machine.execFinish ses seq sigsOk t s
  | .finishTimeout ses t => Sys2Proof.Machine.execFinishTimeout ses t s
  | .dolliRead r idx sub => Sys2Proof.Machine.execDolliRead r idx sub s
  | .readBlock r idx sub off len snap => Sys2Proof.Machine.execReadBlock r idx sub off len snap s
  | .writeBlock r idx sub off first last v => Sys2Proof.Machine.execWriteBlock r idx sub off first last v s
  | .subscribe r idx sub cancel => Sys2Proof.Machine.execSubscribe r idx sub cancel s
  | .store r idx sub flashOk => Sys2Proof.Machine.execStore r idx sub flashOk s
  | .notifySend ses idx sub t => Sys2Proof.Machine.execNotifySend ses idx sub t s
  | .notifyResend ses idx sub t => Sys2Proof.Machine.execNotifyResend ses idx sub t s
  | .notifyAck r => Sys2Proof.Machine.execNotifyAck r s
  | .dolliClose r => Sys2Proof.Machine.execDolliClose r s
  | .sessionIdleTimeout ses t => Sys2Proof.Machine.execSessionIdleTimeout ses t s
  | .stagingExpiry ses idx sub t => Sys2Proof.Machine.execStagingExpiry ses idx sub t s
  | .statusProbe e endpoint t => Sys2Proof.Machine.execStatusProbe e endpoint t s
  | .ethernetFrameReceive e frame fcsOk t => Sys2Proof.Machine.execEthernetFrameReceive e frame fcsOk t s
  | .neighbourDiscovery e target t => Sys2Proof.Machine.execNeighbourDiscovery e target t s
  | .echoRequest e dst payload t => Sys2Proof.Machine.execEchoRequest e dst payload t s
  | .rdmaWrite m t => Sys2Proof.Machine.execRdmaWrite m t s
  | .rdmaWriteImm m rcounter addv t => Sys2Proof.Machine.execRdmaWriteImm m rcounter addv t s
  | .rdmaRead m t => Sys2Proof.Machine.execRdmaRead m t s
  | .roceAckTimeout n c t => Sys2Proof.Machine.execRoceAckTimeout n c t s
  | .runStart e unit ready t => Sys2Proof.Machine.execRunStart e unit ready t s
  | .ethLinkUp e t => Sys2Proof.Machine.execEthLinkUp e t s
  | .ethLinkDown e t => Sys2Proof.Machine.execEthLinkDown e t s
  | .put m t => Sys2Proof.Machine.execPut m t s
  | .getRequest m t => Sys2Proof.Machine.execGetRequest m t s
  | .getResponse m t => Sys2Proof.Machine.execGetResponse m t s
  | .reduceF32 m t => Sys2Proof.Machine.execReduceF32 m t s
  | .reduceI32 m t => Sys2Proof.Machine.execReduceI32 m t s
  | .counterAdd m t => Sys2Proof.Machine.execCounterAdd m t s
  | .token m t => Sys2Proof.Machine.execToken m t s
  | .ack m t => Sys2Proof.Machine.execAck m t s
  | .maintFlit p payload t => Sys2Proof.Machine.execMaintFlit p payload t s
  | .transitFlit p pos flit t => Sys2Proof.Machine.execTransitFlit p pos flit t s
  | .opTimeout n owner op t => Sys2Proof.Machine.execOpTimeout n owner op t s
  | .triggerRingRecord n job t => Sys2Proof.Machine.execTriggerRingRecord n job t s
  | .allreduce n gr t => Sys2Proof.Machine.execAllreduce n gr t s
  | .reduceScatter n gr t => Sys2Proof.Machine.execReduceScatter n gr t s
  | .allgather n gr t => Sys2Proof.Machine.execAllgather n gr t s
  | .alltoallv n gr t => Sys2Proof.Machine.execAlltoallv n gr t s
  | .barrier n gr t => Sys2Proof.Machine.execBarrier n gr t s
  | .linkTrainingStart p t => Sys2Proof.Machine.execLinkTrainingStart p t s
  | .portRetrain r p => Sys2Proof.Machine.execPortRetrain r p s
  | .equalisationComplete p locked t => Sys2Proof.Machine.execEqualisationComplete p locked t s
  | .peerIdentityExchange p peer t => Sys2Proof.Machine.execPeerIdentityExchange p peer t s
  | .linkUp p t => Sys2Proof.Machine.execLinkUp p t s
  | .trainingTimeout p t => Sys2Proof.Machine.execTrainingTimeout p t s
  | .laneSwap p lane t => Sys2Proof.Machine.execLaneSwap p lane t s
  | .laneSwapResume p t => Sys2Proof.Machine.execLaneSwapResume p t s
  | .portDown p t => Sys2Proof.Machine.execPortDown p t s
  | .cablePresent p present t => Sys2Proof.Machine.execCablePresent p present t s
  | .gateToken m t => Sys2Proof.Machine.execGateToken m t s
  | .gateTimeout n t => Sys2Proof.Machine.execGateTimeout n t s
  | .voteRound m t => Sys2Proof.Machine.execVoteRound m t s
  | .verdictTimeout n t => Sys2Proof.Machine.execVerdictTimeout n t s
  | .verdictQuery m t => Sys2Proof.Machine.execVerdictQuery m t s
  | .turnWrite m t => Sys2Proof.Machine.execTurnWrite m t s
  | .turnWriteRetry n entry t => Sys2Proof.Machine.execTurnWriteRetry n entry t s
  | .turnFinal m t => Sys2Proof.Machine.execTurnFinal m t s
  | .turnParked m t => Sys2Proof.Machine.execTurnParked m t s
  | .turnFail m t => Sys2Proof.Machine.execTurnFail m t s
  | .turnSwitch m t => Sys2Proof.Machine.execTurnSwitch m t s
  | .turnAbort m t => Sys2Proof.Machine.execTurnAbort m t s
  | .turnUnpark m t => Sys2Proof.Machine.execTurnUnpark m t s
  | .turnQuery m t => Sys2Proof.Machine.execTurnQuery m t s
  | .turnTokenResend n t => Sys2Proof.Machine.execTurnTokenResend n t s
  | .turnLimitExpiry n t => Sys2Proof.Machine.execTurnLimitExpiry n t s
  | .turnParkExpiry n t => Sys2Proof.Machine.execTurnParkExpiry n t s
  | .slotBoundary t => Sys2Proof.Machine.execSlotBoundary t s
  | .staggerExpiry n t => Sys2Proof.Machine.execStaggerExpiry n t s
  | .rickWakeComplete k t => Sys2Proof.Machine.execRickWakeComplete k t s
  | .wakeBoundReached n t => Sys2Proof.Machine.execWakeBoundReached n t s
  | .idleHoldExpiry n t => Sys2Proof.Machine.execIdleHoldExpiry n t s
  | .stateEntryComplete k t => Sys2Proof.Machine.execStateEntryComplete k t s
  | .budgetWindow n meanW t => Sys2Proof.Machine.execBudgetWindow n meanW t s
  | .overrunWindow n meanW t => Sys2Proof.Machine.execOverrunWindow n meanW t s
  | .emergencyRaise cause t => Sys2Proof.Machine.execEmergencyRaise cause t s
  | .emergencyEnd t => Sys2Proof.Machine.execEmergencyEnd t s
  | .phaseFailure k t => Sys2Proof.Machine.execPhaseFailure k t s
  | .inputOutOfRange mv t => Sys2Proof.Machine.execInputOutOfRange mv t s
  | .powerValid t => Sys2Proof.Machine.execPowerValid t s
  | .presenceOpen t => Sys2Proof.Machine.execPresenceOpen t s
  | .alertAssert t => Sys2Proof.Machine.execAlertAssert t s
  | .alertRelease t => Sys2Proof.Machine.execAlertRelease t s
  | .thermalCondition on t => Sys2Proof.Machine.execThermalCondition on t s
  | .thermalShutdown t => Sys2Proof.Machine.execThermalShutdown t s
  | .thermalRestart t => Sys2Proof.Machine.execThermalRestart t s
  | .referenceLoss ref t => Sys2Proof.Machine.execReferenceLoss ref t s
  | .referenceCompare ppm t => Sys2Proof.Machine.execReferenceCompare ppm t s
  | .bothReferencesLost t => Sys2Proof.Machine.execBothReferencesLost t s
  | .referenceRestored ref t => Sys2Proof.Machine.execReferenceRestored ref t s
  | .sourceStable k t => Sys2Proof.Machine.execSourceStable k t s
  | .sourceTimeout k t => Sys2Proof.Machine.execSourceTimeout k t s
  | .monitorWindow k count t => Sys2Proof.Machine.execMonitorWindow k count t s
  | .sourceFailure k t => Sys2Proof.Machine.execSourceFailure k t s
  | .controllerClockFailure k t => Sys2Proof.Machine.execControllerClockFailure k t s
  | .tinderStart okA okB t => Sys2Proof.Machine.execTinderStart okA okB t s
  | .collierReady t => Sys2Proof.Machine.execCollierReady t s
  | .rickBringupStart k t => Sys2Proof.Machine.execRickBringupStart k t s
  | .rickReady k ok t => Sys2Proof.Machine.execRickReady k ok t s
  | .fullService t => Sys2Proof.Machine.execFullService t s
  | .trialTimeout t => Sys2Proof.Machine.execTrialTimeout t s
  | .watchdogExpiry t => Sys2Proof.Machine.execWatchdogExpiry t s
  | .lockstepMismatch t => Sys2Proof.Machine.execLockstepMismatch t s
  | .kindlingStart t => Sys2Proof.Machine.execKindlingStart t s
  | .presenceClose bulkmV inmV t => Sys2Proof.Machine.execPresenceClose bulkmV inmV t s
  | .pluggableModuleInsert e watts t => Sys2Proof.Machine.execPluggableModuleInsert e watts t s
  | .roceAcknowledgement n c psn nak data t => Sys2Proof.Machine.execRoceAcknowledgement n c psn nak data t s
  | .traceSample n t => Sys2Proof.Machine.execTraceSample n t s
  | .hearthWearStore t => Sys2Proof.Machine.execHearthWearStore t s

end Sys2Proof.Machine
end

