-- ==== Sys2Proof/Safety.lean ====
section
/-!
DEFINITION. The terms in which the statements speak: what a run keeps, where a command is served, and what it changes.
-/
namespace Sys2Proof.Machine

/-! Invariants -/

/-- The byte memory is in its canonical form. -/
def State.canonical (s : State) : Prop := s.mem.wf = true


/-! The hearth core -/

/-- The core of hearth `g` is about to start word `w`, an instruction `m`, as logical hearth `l` of partition `n`. -/
structure CoreAt (s : State) (g n l : Nat) (w : W32) (m : Mn) : Prop where
  ready : s.coreReady g = some (n, l)
  word : (s.hearth g).fetch = some w
  sound : s.uncorrectable (imBase g + 4 * (s.hearth g).pc) 4 = false
  names : mnOf w = some m

/-- The state in which the instruction runs: the comparators have seen its address (R633). -/
def State.seen (s : State) (g n l : Nat) : State := s.compare n l (s.hearth g).pc

/-- The state in which a load (mode 0), a store (1) or the copy of a descriptor (2) of `len` bytes from `a` runs: the watches have
seen its bytes too (R633). -/
def State.watched (s : State) (g n l mode a len : Nat) : State := (s.seen g n l).watch n l mode a len

/-- From `s` to `t` hearth `g` retires an instruction: register `a` takes `v` (S0 discards it), the program counter
and the cycle move, and nothing else changes but the hearth's own counters. -/
def Retires (s t : State) (g a : Nat) (v : W64) (pc cycles : Nat) : Prop :=
  ∃ regs perf, t = s.setHearth g { s.hearth g with regs := regs, pc := pc, cycle := (s.hearth g).cycle + cycles, perfRun := perf } ∧
    ∀ i, (t.hearth g).reg i = if i = a ∧ i ≠ 0 then v else (s.hearth g).reg i

/-- The two states differ at most in trace buffers, in dictionary values, events and sessions that follow from a trace, and in
the halts, triggers and comparators of partitions: every hearth is as it was but for its trace, and memory, its
uncorrectable words, ricks, jobs, bindings, time, free values and queue are untouched. -/
structure OnlyTraces (s t : State) : Prop where
  hearth : ∀ i, ∃ tr, t.hearth i = { s.hearth i with trace := tr }
  mem : t.mem = s.mem
  bad : t.bad = s.bad
  ricks : t.ricks = s.ricks
  jobs : t.jobs = s.jobs
  remap : t.remap = s.remap
  now : t.now = s.now
  free : t.free = s.free
  pending : t.pending = s.pending

/-- From `s` to `t` hearth `g` jumps: register `a` takes `v`, the program counter is `pc`, the cycle moves, its counters and its
trace move, and beyond that only traces changed. -/
structure Jumps (s t : State) (g a : Nat) (v : W64) (pc cycles : Nat) : Prop where
  own : ∃ regs perf tr, t.hearth g = { s.hearth g with regs := regs, pc := pc, cycle := (s.hearth g).cycle + cycles, perfRun := perf, trace := tr }
  reg : ∀ i, (t.hearth g).reg i = if i = a ∧ i ≠ 0 then v else (s.hearth g).reg i
  others : ∀ i, i ≠ g → ∃ tr, t.hearth i = { s.hearth i with trace := tr }
  mem : t.mem = s.mem
  ricks : t.ricks = s.ricks
  jobs : t.jobs = s.jobs
  remap : t.remap = s.remap
  now : t.now = s.now
  pending : t.pending = s.pending

/-- Register A of a word. -/
def State.opA (s : State) (g : Nat) (w : W32) : W64 := (s.hearth g).reg (wA w)
/-- Register B of a word. -/
def State.opB (s : State) (g : Nat) (w : W32) : W64 := (s.hearth g).reg (wB w)
/-- Register C of a word. -/
def State.opC (s : State) (g : Nat) (w : W32) : W64 := (s.hearth g).reg (wC w)

/-- The word address after the current one, in the 14 bits of a word address. -/
def State.pcNext (s : State) (g : Nat) : Nat := ((s.hearth g).pc + 1) % 16384

/-- Every row of Table 03-3 with the instruction it runs. -/
def coreRows (g : Fin 216) : List (Mn × Instr) :=
  [(.add, .add g), (.sub, .sub g), (.and, .and g), (.or, .or g), (.xor, .xor g), (.shl, .shl g), (.shr, .shr g), (.sar, .sar g),
   (.mul, .mul g), (.mulh, .mulh g), (.slt, .slt g), (.sltu, .sltu g), (.min, .min g), (.max, .max g)] ++
  [(.fadd, .fadd g), (.fsub, .fsub g), (.fmul, .fmul g), (.fmin, .fmin g), (.fmax, .fmax g), (.flt, .flt g), (.fcvti, .fcvti g),
   (.fcvtf, .fcvtf g), (.addi, .addi g), (.andi, .andi g), (.ori, .ori g), (.xori, .xori g), (.shli, .shli g), (.shri, .shri g),
   (.sari, .sari g), (.movh, .movh g)] ++
  [(.ld64, .ld64 g), (.ld32, .ld32 g), (.ld16, .ld16 g), (.ld8, .ld8 g), (.st64, .st64 g), (.st32, .st32 g), (.st16, .st16 g),
   (.st8, .st8 g), (.beq, .beq g), (.bne, .bne g), (.blt, .blt g), (.bge, .bge g), (.bltu, .bltu g), (.bgeu, .bgeu g)] ++
  [(.jmp, .jmp g), (.jr, .jr g), (.bsum, .bsum g), (.srd, .srd g), (.sflg, .sflg g), (.issue, .issue g), (.fence, .fence g),
   (.waitc, .waitc g), (.bar, .bar g), (.poll, .poll g), (.csrr, .csrr g), (.csrw, .csrw g), (.note, .note g), (.stepend, .stepend g)]

/-! The engines -/

/-- Operation `o` is the next to start on engine `e` of hearth `g`, bound as logical hearth `l` of partition `n`. -/
structure Waits (s : State) (g e n l : Nat) (before : List Op) (o : Op) (rest : List Op) : Prop where
  part : s.partOf (g / 18) = some n
  bound : s.logical g = some l
  queue : (s.hearth g).ops e = before ++ o :: rest
  ahead : ∀ b ∈ before, b.started = true
  fresh : o.started = false

/-- The cycle at which it starts: 2 cycles after its ISSUE, not before the engine's busy cycles end (R100, R153). -/
def State.startCycle (s : State) (g e : Nat) (o : Op) : Nat := max (o.issued + 2) ((s.hearth g).busy.getD e 0)

/-- The state `base` in which the operation has started at a cycle, with what it will do, its busy cycles and its latencies. -/
def State.startedAs (base : State) (g e : Nat) (before : List Op) (o : Op) (rest : List Op) (start busy lat slat : Nat) (res : Result) : State :=
  base.onHearth g (fun h =>
    { (h.setOps e (before ++ { o with started := true, start := start, busyEnd := start + busy, done := start + busy + lat,
                                      sumAt := start + busy + slat, res := res } :: rest)).count (8 + e) busy with
      busy := h.busy.put e (start + busy) })

/-- Nothing a core or an engine queue holds has changed. -/
def SameCores (s t : State) : Prop :=
  ∀ i, (t.hearth i).pc = (s.hearth i).pc ∧ (t.hearth i).cycle = (s.hearth i).cycle ∧ (t.hearth i).regs = (s.hearth i).regs ∧
    (t.hearth i).ys = (s.hearth i).ys ∧ (t.hearth i).stall = (s.hearth i).stall ∧ (t.hearth i).engs = (s.hearth i).engs ∧
    (t.hearth i).busy = (s.hearth i).busy

/-- The rows that start an operation of an engine 1 to 8 with its OPCODE (Tables 04-12, 05-4 to 05-10, 07-3, 08-4). -/
def startRows (g : Fin 216) : List (Instr × Nat × Nat) :=
  [(.vectorAdd g, 1, 0x0101), (.vectorSub g, 1, 0x0102), (.vectorMul g, 1, 0x0103), (.vectorMax g, 1, 0x0104), (.vectorMin g, 1, 0x0105),
   (.axpy g, 1, 0x0106), (.affine g, 1, 0x0107), (.muls g, 1, 0x0108), (.sel g, 1, 0x0109), (.abs g, 1, 0x010A)] ++
  [(.exp g, 1, 0x0110), (.log g, 1, 0x0111), (.recip g, 1, 0x0112), (.rsqrt g, 1, 0x0113), (.sigm g, 1, 0x0114), (.silu g, 1, 0x0115)] ++
  [(.reduceSum g, 2, 0x0201), (.sumsq g, 2, 0x0202), (.reduceMax g, 2, 0x0203), (.reduceMin g, 2, 0x0204), (.argmax g, 2, 0x0205),
   (.topk g, 2, 0x0206), (.cast g, 3, 0x0301), (.quantMx g, 3, 0x0302), (.quantG16 g, 3, 0x0303), (.compress g, 3, 0x0304),
   (.expand g, 3, 0x0305), (.constFill g, 3, 0x0306)] ++
  [(.sinit g, 4, 0x0401), (.sacc g, 4, 0x0402), (.sout g, 4, 0x0403), (.penalize g, 5, 0x0501), (.select g, 5, 0x0502),
   (.probof g, 5, 0x0503), (.attn g, 6, 0x0601)] ++
  [(.gather g, 7, 0x0701), (.kvAppend g, 7, 0x0702), (.accept g, 7, 0x0703), (.attach g, 7, 0x0704), (.snap g, 7, 0x0705),
   (.linIn g, 8, 0x0001), (.linOut g, 8, 0x0002), (.skewIn g, 8, 0x0003), (.skewLocal g, 8, 0x0004), (.weightIn g, 8, 0x0005),
   (.fill g, 8, 0x0006)]

/-- Element `i` of a row of `count` elements of type `t` at an address of a hearth store. -/
def State.elem (s : State) (g a t count i : Nat) : FV := ((s.hvals g a t count)[i]?).getD .nan

/-- The bytes of a result of ROWS × COUNT elements in the shared layout, as the engine writes them: at DST + r × DSTRIDE the codes of
row r, packed at the width of the destination type. -/
def rowWrites (d : List Byte) (code : Nat → Nat → Nat) : List (Nat × List Byte) :=
  (List.range (dRows d)).map (fun r => (dDst d + r * dDStr d, packCodes (etBits (dDty d)) ((List.range (dCount d)).map (code r))))

/-! Dolli requests -/

/-- The state in which the message of a request has been accepted, dropped or rejected (R471). -/
def State.arrived (s : State) (r : Rq) : State := ((s.at r.t).accept r.ses r.seq r.ok).1

/-- The rows that are requests of a session, with the operation of Table 16-5 and the entry they name. -/
def requestOf : Instr → Option (Rq × Nat × Nat)
  | .load r n => some (r, opCmd, E.LOAD n) | .unload r n => some (r, opCmd, E.UNLOAD n) | .nanClear r n => some (r, opCmd, E.NAN_CLEAR n)
  | .handleRelease r n _ => some (r, opWrite, E.HANDLE_RELEASE n) | .regionCreate r n _ => some (r, opWrite, E.REGION_CREATE n)
  | .regionDelete r n _ => some (r, opWrite, E.REGION_DELETE n) | .flushAll r n => some (r, opCmd, E.FLUSH_ALL n)
  | .wsetRegister r n => some (r, opCmd, E.WSET_REGISTER n) | .wsetFetch r n => some (r, opCmd, E.WSET_FETCH n)
  | .wsetRelease r n => some (r, opCmd, E.WSET_RELEASE n) | .epochSwitch r n _ => some (r, opWrite, E.EPOCH_SWITCH n)
  | .jobDrain r n _ => some (r, opWrite, E.JOB_DRAIN n) | .lrResume r n _ => some (r, opWrite, E.LR_RESUME n)
  | .turnArm r n => some (r, opCmd, E.TURN_ARM n) | .turnDisarm r n => some (r, opCmd, E.TURN_DISARM n)
  | .bufferReg r n _ => some (r, opWrite, E.BUFFER_REG n) | .bufferDereg r n _ => some (r, opWrite, E.BUFFER_DEREG n)
  | .trigOps r n _ => some (r, opWrite, E.TRIG_OPS n) | .objInstall r => some (r, opCmd, E.OBJ_INSTALL)
  | .fwSvnCommit r => some (r, opCmd, E.FW_SVN_COMMIT) | .opCredAdd r _ => some (r, opWrite, E.OP_CRED_ADD)
  | .opCredRemove r _ => some (r, opWrite, E.OP_CRED_REMOVE) | .credAdd r t _ => some (r, opWrite, E.CRED_ADD t)
  | .credRemove r t _ => some (r, opWrite, E.CRED_REMOVE t) | .setkeyInstall r t _ => some (r, opWrite, E.SETKEY_INSTALL t)
  | .setkeyRemove r t _ => some (r, opWrite, E.SETKEY_REMOVE t) | .attest r n _ => some (r, opCmd, E.ATTEST n)
  | .moduleAttest r _ => some (r, opCmd, E.MODULE_ATTEST) | .ashOut r _ _ => some (r, opCmd, E.ASH_OUT) | .wake r n => some (r, opCmd, E.WAKE n)
  | .fmStart r k => some (r, opCmd, E.FM_START k) | .resetModule r => some (r, opCmd, E.RESET_MODULE)
  | .resetPartition r _ => some (r, opCmd, E.RESET_PARTITION) | .resetRick r _ => some (r, opCmd, E.RESET_RICK)
  | .resetHearth r _ => some (r, opCmd, E.RESET_HEARTH) | .kindlingEnd r _ => some (r, opCmd, E.KINDLING_END)
  | .traceTrigger r n => some (r, opCmd, E.TRACE_TRIGGER n) | .bpHalt r n => some (r, opCmd, E.BP_HALT n)
  | .bpResume r n _ => some (r, opCmd, E.BP_RESUME n) | .snapshot r n _ => some (r, opCmd, E.SNAPSHOT n)
  | .perfClear r n => some (r, opCmd, E.PERF_CLEAR n) | .rickMask r n _ => some (r, opWrite, E.RICK_MASK n)
  | .queueMap r n _ => some (r, opWrite, E.QUEUE_MAP n) | .kvModels r n _ => some (r, opWrite, E.KV_MODELS n)
  | .kvPoolPages r n _ => some (r, opWrite, E.KV_POOL_PAGES n) | .tctPairs r n _ => some (r, opWrite, E.TCT_PAIRS n)
  | .tctRegions r n _ => some (r, opWrite, E.TCT_REGIONS n) | .auditRegion r n _ => some (r, opWrite, E.AUDIT_REGION n)
  | .evidRegion r n _ => some (r, opWrite, E.EVID_REGION n) | .lstatsRegion r n _ => some (r, opWrite, E.LSTATS_REGION n)
  | .tenantId r t _ => some (r, opWrite, E.TENANT_ID t) | .partTenant r n _ => some (r, opWrite, E.PART_TENANT n)
  | .consent r n _ => some (r, opWrite, E.CONSENT n) | .partClockMhz r n _ => some (r, opWrite, E.PART_CLOCK_MHZ n)
  | .partBudgetW r n _ => some (r, opWrite, E.PART_BUDGET_W n) | .txOwners r p _ => some (r, opWrite, E.TX_OWNERS p)
  | .ethOwners r e _ => some (r, opWrite, E.ETH_OWNERS e) | .connRec r n _ => some (r, opWrite, E.CONN_REC n)
  | .groupRec r n _ => some (r, opWrite, E.GROUP_REC n) | .ringDesc r n _ => some (r, opWrite, E.RING_DESC n)
  | .traceBytes r n _ => some (r, opWrite, E.TRACE_BYTES n) | .traceEnable r n _ => some (r, opWrite, E.TRACE_ENABLE n)
  | .bpRec r n _ => some (r, opWrite, E.BP_REC n) | .kindlingPart r _ => some (r, opWrite, E.KINDLING_PART)
  | .portEnable r p _ => some (r, opWrite, E.PORT_ENABLE p) | .portRetrain r p => some (r, opCmd, E.PORT_RETRAIN p)
  | .registerWrite r idx sub _ => some (r, opWrite, idx * 256 + sub) | .dolliRead r idx sub => some (r, opRead, idx * 256 + sub)
  | .readBlock r idx sub _ _ _ => some (r, opReadBlock, idx * 256 + sub) | .writeBlock r idx sub _ _ _ _ => some (r, opWriteBlock, idx * 256 + sub)
  | .subscribe r idx sub _ => some (r, opSubscribe, idx * 256 + sub) | .store r idx sub _ => some (r, opStore, idx * 256 + sub)
  | _ => none

/-- The rows that are messages of a session. -/
def messageOf (c : Instr) : Option Rq :=
  match c with
  | .dolliClose r => some r
  | .notifyAck r => some r
  | c => (requestOf c).map (fun x => x.1)

/-- A request that is executed: its message is accepted, its REQ_ID is new, fewer than 64 requests of the session wait, and the checks that do not depend on the
value let it pass (R471, R473, R478 to R482). -/
structure Admitted (s : State) (r : Rq) (op key : Nat) (x : Session) : Prop where
  accepted : ((s.at r.t).accept r.ses r.seq r.ok).2 = some x
  fresh : x.kept.find? (fun k => k.1 == r.id) = none
  alone : (s.arrived r).waits.any (fun w => w.ses == r.ses && w.id == r.id) = false
  room : (s.arrived r).unanswered r.ses < 64
  rights : (s.arrived r).permit x op key = 0

/-- A request was executed: the power states are chosen anew (R524) and the response is OK. -/
def State.answered (s : State) (r : Rq) (op key : Nat) : State := s.rechoose.respond r op key (tyOf key) {}

/-- A request was turned away with a code: it left nothing but its response. -/
def State.turnedAway (s : State) (r : Rq) (op key code : Nat) : State := s.respond r op key (tyOf key) { status := code }

/-- What a request with an effect `y` and a code does to state `s`: with code 0 the effect and the answer OK, else the answer alone. -/
def State.outcome (s : State) (r : Rq) (op key : Nat) (y : State × Nat) : State :=
  if y.2 = 0 then y.1.answered r op key else s.turnedAway r op key y.2

/-! Fabric messages -/

/-- A message reaches partition `n`: its port is UP (or it travelled on no position), its position is the partition's, which exists and is not in ash-out. -/
structure Reaches (s : State) (m : FabMsg) (n : Nat) : Prop where
  up : m.pos = 0 ∨ s.num (E.PORT_STATE m.port) = 2
  code : s.rxCode m = n
  part : n < 12
  live : s.exists n = true
  ash : (s.part n).ash = none

/-- The state after its flits were received: their sequence numbers counted (R421), and a trigger for the partition (R525). -/
def State.woken (s : State) (m : FabMsg) (n : Nat) : State :=
  let s1 := if m.pos = 0 then s else s.onFport m.port (fun p => { p with rx := p.rx.put n ((p.rx.getD n 0 + msgFlits m) % 4096) })
  if s1.cold then s1 else s1.wakePart n 1

/-- The state in which an awake partition takes the message: the trace has its record too (R625). -/
def State.received (s : State) (m : FabMsg) (n kind : Nat) : State :=
  (s.woken m n).nicRecord n (fportRick m.port) 0x11 kind (bits m.src 47 32) (m.msgid % 2 ^ 32)

/-- A row of a fabric message, with its number in the order of the table and its KIND (Table 15-3). -/
def FabricRow (m : FabMsg) (t : Nat) (y : Instr × Nat × Nat) : Prop :=
  y ∈ [(Instr.put m t, 1, 1), (.getRequest m t, 2, 2), (.getResponse m t, 3, 3), (.reduceF32 m t, 4, 4), (.reduceI32 m t, 5, 5), (.counterAdd m t, 6, 6),
    (.token m t, 7, 7), (.ack m t, 8, 8), (.gateToken m t, 9, 7), (.voteRound m t, 10, 7), (.verdictQuery m t, 11, 7), (.turnWrite m t, 12, 1),
    (.turnFinal m t, 13, 7), (.turnParked m t, 14, 7), (.turnFail m t, 15, 7), (.turnSwitch m t, 16, 7), (.turnAbort m t, 17, 7), (.turnUnpark m t, 18, 7),
    (.turnQuery m t, 19, 7)]

end Sys2Proof.Machine
end

