-- ==== Sys2Proof/Certificates/Slice0/Obligations.lean ====
section
/-!
DEFINITION. The statements for the provers, chapter by chapter.
-/
open Sys2Proof Sys2Proof.Machine

/-! The queue, reset, and what holds of every command -/

/-- For every command c, queue rest and state s: a step of s with c at the front of its queue is exec of c on s with the queue's rest. -/
def Obligations.StepRunsTheFrontCommand : Prop :=
  ∀ (c : Instr) (rest : List Instr) (s : State), step { s with pending := c :: rest } = exec c { s with pending := rest }

/-- On an empty queue a step moves device time by one tick of 10 ns and changes nothing else. The tick's length is the rule's; that it is what an idle step does is the model's choice (log 2). -/
def Obligations.EmptyQueueTicks : Prop :=
  ∀ s : State, s.pending = [] → step s = .next { s with now := s.now + 10 }

/-- At State.reset the queue is empty, device time is 0, no memory byte is listed, no event is logged, no session is open, no rick is in power state A (each is in state O), no core may start an instruction and no partition runs a step. That a rick is in state O before its bring-up is the model's reading (log 89). -/
def Obligations.ResetLeavesTheDeviceOff : Prop :=
  State.reset.pending = [] ∧ State.reset.now = 0 ∧ (∀ a, State.reset.mem.look a = 0) ∧ State.reset.events = [] ∧
  State.reset.sessions = [] ∧ (∀ k, (State.reset.rick k).pst = 4 ∧ (State.reset.rick k).on = false) ∧
  (∀ g, State.reset.coreReady g = none) ∧ ∀ n, (State.reset.part n).phase = .idle ∧ (State.reset.part n).trapAt = none

/-- The memory of State.reset is in its canonical form, so the invariant of StepKeepsTheMemoryForm holds at reset. The form itself is the model's (log 3). -/
def Obligations.ResetMemoryIsCanonical : Prop := State.reset.canonical

/-- For every state whose memory is in canonical form (addresses strictly rising, no cell equal to what an unlisted address reads as): if a step answers a next state, its memory is in canonical form and its queue is the old queue without its front command. Over all commands. -/
def Obligations.StepKeepsTheMemoryForm : Prop :=
  ∀ s t : State, s.canonical → step s = .next t → t.canonical ∧ t.pending = s.pending.tail

/-- A command whose execution does not answer a next state is INPUT_OUT_OF_RANGE beyond 60,000 mV (the absolute maximum of Table 23-4), and it faults by that name; no command is refused. -/
def Obligations.OnlyInputBeyondMaximumStops : Prop :=
  ∀ (c : Instr) (s : State), (∃ t, exec c s = .next t) ∨ (exec c s = .fault .beyondAbsoluteMaximum ∧ ∃ mv t, c = .inputOutOfRange mv t ∧ 60000 < mv)

/-! The hearth core -/

/-- ADD to MAX: where the core of a hearth is about to start a word that is one of them, the row runs it: register A takes the result of Table 03-3 (in signed or unsigned arithmetic on the 64-bit registers B and C, shifts by C[5:0]), S0 discards it, the program counter moves to the next word, the cycle by the table's count, and nothing else changes but what the comparators of R633 record. -/
def Obligations.CoreIntegerResult : Prop :=
  ∀ (s : State) (g : Fin 216) (n l : Nat) (w : W32),
  ∀ x ∈ ([ (Mn.add, Instr.add g, 1, fun b c => BitVec.ofInt 64 (b.toInt + c.toInt)),
           (Mn.sub, Instr.sub g, 1, fun b c => BitVec.ofInt 64 (b.toInt - c.toInt)),
           (Mn.and, Instr.and g, 1, fun b c => b &&& c),
           (Mn.or, Instr.or g, 1, fun b c => b ||| c),
           (Mn.xor, Instr.xor g, 1, fun b c => b ^^^ c),
           (Mn.shl, Instr.shl g, 1, fun b c => BitVec.ofNat 64 (b.toNat * 2 ^ (c.toNat % 64))),
           (Mn.shr, Instr.shr g, 1, fun b c => BitVec.ofNat 64 (b.toNat / 2 ^ (c.toNat % 64))),
           (Mn.sar, Instr.sar g, 1, fun b c => BitVec.ofInt 64 (b.toInt / 2 ^ (c.toNat % 64))),
           (Mn.mul, Instr.mul g, 3, fun b c => BitVec.ofInt 64 (b.toInt * c.toInt)),
           (Mn.mulh, Instr.mulh g, 3, fun b c => BitVec.ofInt 64 (b.toInt * c.toInt / 2 ^ 64)),
           (Mn.slt, Instr.slt g, 1, fun b c => if b.toInt < c.toInt then 1 else 0),
           (Mn.sltu, Instr.sltu g, 1, fun b c => if b.toNat < c.toNat then 1 else 0),
           (Mn.min, Instr.min g, 1, fun b c => BitVec.ofInt 64 (min b.toInt c.toInt)),
           (Mn.max, Instr.max g, 1, fun b c => BitVec.ofInt 64 (max b.toInt c.toInt)) ] : List (Mn × Instr × Nat × (W64 → W64 → W64))),
    CoreAt s g n l w x.1 →
    ∃ t, exec x.2.1 s = .next t ∧ Retires (s.seen g n l) t g (wA w) (x.2.2.2 (s.opB g w) (s.opC g w)) (s.pcNext g) x.2.2.1

/-- ADDI to SARI and MOVH: register A takes B op IMM14 (sign-extended; a shift by its low 6 bits), or (A shifted left 20) OR IMM20; one cycle, the next word, nothing else. -/
def Obligations.CoreImmediateResult : Prop :=
  ∀ (s : State) (g : Fin 216) (n l : Nat) (w : W32),
  ∀ x ∈ ([ (Mn.addi, Instr.addi g, fun _ b i => BitVec.ofInt 64 (b.toInt + i.toInt)),
           (Mn.andi, Instr.andi g, fun _ b i => b &&& i),
           (Mn.ori, Instr.ori g, fun _ b i => b ||| i),
           (Mn.xori, Instr.xori g, fun _ b i => b ^^^ i),
           (Mn.shli, Instr.shli g, fun _ b i => BitVec.ofNat 64 (b.toNat * 2 ^ (i.toNat % 64))),
           (Mn.shri, Instr.shri g, fun _ b i => BitVec.ofNat 64 (b.toNat / 2 ^ (i.toNat % 64))),
           (Mn.sari, Instr.sari g, fun _ b i => BitVec.ofInt 64 (b.toInt / 2 ^ (i.toNat % 64))),
           (Mn.movh, Instr.movh g, fun a _ _ => BitVec.ofNat 64 (a.toNat * 2 ^ 20) ||| BitVec.ofNat 64 (w.toNat % 2 ^ 20)) ] :
           List (Mn × Instr × (W64 → W64 → W64 → W64))),
    CoreAt s g n l w x.1 →
    ∃ t, exec x.2.1 s = .next t ∧
      Retires (s.seen g n l) t g (wA w) (x.2.2 (s.opA g w) (s.opB g w) ((w.extractLsb' 0 14).signExtend 64)) (s.pcNext g) 1

/-- FADD, FSUB, FMUL, FMIN, FMAX write the FP32 code of the exact result, rounded, to bits [31:0] with bits [63:32] zero, in 4 cycles; a NaN result is also reported (R114) at the cycle the instruction ends. FLT gives 1 or 0, FCVTI converts the signed 64-bit integer, FCVTF truncates toward zero; these report nothing. -/
def Obligations.CoreFloatResult : Prop :=
  ∀ (s : State) (g : Fin 216) (n l : Nat) (w : W32),
  (∀ x ∈ ([ (Mn.fadd, Instr.fadd g, fun a b => f32c (a.add b)), (Mn.fsub, Instr.fsub g, fun a b => f32c (a.sub b)),
            (Mn.fmul, Instr.fmul g, fun a b => f32c (a.mul b)), (Mn.fmin, Instr.fmin g, fun a b => f32c (a.min b)),
            (Mn.fmax, Instr.fmax g, fun a b => f32c (a.max b)) ] : List (Mn × Instr × (FV → FV → Nat))),
    CoreAt s g n l w x.1 →
    let r := x.2.2 (f32v ((s.opB g w).toNat % 2 ^ 32)) (f32v ((s.opC g w).toNat % 2 ^ 32))
    ∃ u, Retires (s.seen g n l) u g (wA w) (BitVec.ofNat 64 (r % 2 ^ 32)) (s.pcNext g) 4 ∧
      exec x.2.1 s = .next (if (f32v r).isNan then u.nanReport n l g 0xFF (s.hearth g).pc 0 5 ((s.hearth g).cycle + 4) else u)) ∧
  (∀ x ∈ ([ (Mn.flt, Instr.flt g, fun b c => if (f32v (b.toNat % 2 ^ 32)).lt (f32v (c.toNat % 2 ^ 32)) then 1 else 0),
            (Mn.fcvti, Instr.fcvti g, fun b _ => BitVec.ofNat 64 (f32c (.ofInt b.toInt) % 2 ^ 32)),
            (Mn.fcvtf, Instr.fcvtf g, fun b _ => fcvtf (f32v (b.toNat % 2 ^ 32))) ] : List (Mn × Instr × (W64 → W64 → W64))),
    CoreAt s g n l w x.1 →
    ∃ t, exec x.2.1 s = .next t ∧ Retires (s.seen g n l) t g (wA w) (x.2.2 (s.opB g w) (s.opC g w)) (s.pcNext g) 4)

/-- LD64 to LD8 at an address that is aligned, below 0x8000 and without an uncorrectable word: register A takes the little-endian number of the working copy of the hearth's scalar data, zero-extended, in 2 cycles; nothing else changes but what comparators and watches record. -/
def Obligations.CoreLoadResult : Prop :=
  ∀ (s : State) (g : Fin 216) (n l : Nat) (w : W32),
  ∀ x ∈ ([(Mn.ld64, Instr.ld64 g, 8), (Mn.ld32, Instr.ld32 g, 4), (Mn.ld16, Instr.ld16 g, 2), (Mn.ld8, Instr.ld8 g, 1)] : List (Mn × Instr × Nat)),
    CoreAt s g n l w x.1 →
    let a := (s.opB g w + wImm w).toNat
    a % x.2.2 = 0 → a + x.2.2 ≤ 0x8000 → s.uncorrectable (sdWork g + a) x.2.2 = false →
    ∃ t, exec x.2.1 s = .next t ∧
      Retires (s.watched g n l 0 a x.2.2) t g (wA w) (BitVec.ofNat 64 (leNat (s.mem.read (sdWork g + a) x.2.2))) (s.pcNext g) 2

/-- ST64 to ST8 at an address that is aligned and below 0x8000: the low bytes of A land in the working copy of the hearth's scalar data at B + IMM14, every other byte of memory reads as before, and beyond the store nothing changes but the program counter, the cycle and what comparators and watches record. -/
def Obligations.CoreStoreResult : Prop :=
  ∀ (s : State) (g : Fin 216) (n l : Nat) (w : W32),
  ∀ x ∈ ([(Mn.st64, Instr.st64 g, 8), (Mn.st32, Instr.st32 g, 4), (Mn.st16, Instr.st16 g, 2), (Mn.st8, Instr.st8 g, 1)] : List (Mn × Instr × Nat)),
    CoreAt s g n l w x.1 →
    let a := (s.opB g w + wImm w).toNat
    a % x.2.2 = 0 → a + x.2.2 ≤ 0x8000 →
    ∃ t, exec x.2.1 s = .next t ∧
      Retires ((s.watched g n l 1 a x.2.2).store (sdWork g + a) (leBytes x.2.2 (s.opA g w).toNat)) t g 0 0 (s.pcNext g) 1 ∧
      ∀ b, t.mem.look b = if sdWork g + a ≤ b ∧ b < sdWork g + a + x.2.2 then BitVec.ofNat 8 ((s.opA g w).toNat / 256 ^ (b - (sdWork g + a)))
        else s.mem.look b

/-- Every load and store: at an address that is not a multiple of its size it takes the misalignment trap (cause 0x02, the address in DETAIL), at an aligned one any byte of which lies at or above 0x8000 the address trap (0x03), and a load of a word with an uncorrectable error the memory trap (0x08); the core's registers and memory keep what they held until the trap. A fetch beyond the image takes the fetch trap (0x04). -/
def Obligations.AccessTraps : Prop :=
  ∀ (s : State) (g : Fin 216) (n l : Nat) (w : W32),
  (∀ x ∈ ([(Mn.ld64, Instr.ld64 g, 8), (Mn.ld32, Instr.ld32 g, 4), (Mn.ld16, Instr.ld16 g, 2), (Mn.ld8, Instr.ld8 g, 1),
          (Mn.st64, Instr.st64 g, 8), (Mn.st32, Instr.st32 g, 4), (Mn.st16, Instr.st16 g, 2), (Mn.st8, Instr.st8 g, 1)] : List (Mn × Instr × Nat)),
    CoreAt s g n l w x.1 →
    let a := (s.opB g w + wImm w).toNat
    (a % x.2.2 ≠ 0 → exec x.2.1 s = .next ((s.seen g n l).coreTrap n l g 0x02 w.toNat (a % 2 ^ 32))) ∧
    (a % x.2.2 = 0 → 0x8000 < a + x.2.2 → exec x.2.1 s = .next ((s.seen g n l).coreTrap n l g 0x03 w.toNat (a % 2 ^ 32))) ∧
    (a % x.2.2 = 0 → a + x.2.2 ≤ 0x8000 → s.uncorrectable (sdWork g + a) x.2.2 = true → x.1 ∈ [Mn.ld64, .ld32, .ld16, .ld8] →
      exec x.2.1 s = .next ((s.seen g n l).coreTrap n l g 0x08 w.toNat))) ∧
  ∀ x ∈ coreRows g, s.coreReady g = some (n, l) → (s.hearth g).fetch = none → exec x.2 s = .next (s.coreTrap n l g 0x04 0)

/-- BEQ to BGEU compare A with B: a true condition jumps by the signed OFF14 from the branch's own address (in the 14 bits of a word address) in 3 cycles, a false one goes to the next word in 1. JMP writes the next word address to A and jumps to TGT14 in 2; JR does so with B[13:0], read before A is written, in 3. No memory and no other hearth changes. -/
def Obligations.CoreBranchResult : Prop :=
  ∀ (s : State) (g : Fin 216) (n l : Nat) (w : W32),
  (∀ x ∈ ([ (Mn.beq, Instr.beq g, fun a b => decide (a = b)), (Mn.bne, Instr.bne g, fun a b => decide (a ≠ b)),
            (Mn.blt, Instr.blt g, fun a b => decide (a.toInt < b.toInt)), (Mn.bge, Instr.bge g, fun a b => decide (b.toInt ≤ a.toInt)),
            (Mn.bltu, Instr.bltu g, fun a b => decide (a.toNat < b.toNat)), (Mn.bgeu, Instr.bgeu g, fun a b => decide (b.toNat ≤ a.toNat)) ] :
            List (Mn × Instr × (W64 → W64 → Bool))),
    CoreAt s g n l w x.1 →
    (x.2.2 (s.opA g w) (s.opB g w) = true → ∃ t, exec x.2.1 s = .next t ∧
      Jumps s t g 0 0 ((((s.hearth g).pc : Int) + (w.extractLsb' 0 14).toInt) % 16384).toNat 3) ∧
    (x.2.2 (s.opA g w) (s.opB g w) = false → ∃ t, exec x.2.1 s = .next t ∧ Retires (s.seen g n l) t g 0 0 (s.pcNext g) 1)) ∧
  (CoreAt s g n l w .jmp → ∃ t, exec (.jmp g) s = .next t ∧ Jumps s t g (wA w) (BitVec.ofNat 64 (s.pcNext g)) (w.toNat % 2 ^ 14) 2) ∧
  (CoreAt s g n l w .jr → ∃ t, exec (.jr g) s = .next t ∧ Jumps s t g (wA w) (BitVec.ofNat 64 (s.pcNext g)) ((s.opB g w).toNat % 2 ^ 14) 3)

/-- On a valid Y register SRD writes its value and SFLG its flags to A, and BSUM branches when SENSE is 1 and a flag of MASK is set, or SENSE is 0 and every flag of MASK is clear; on an invalid one with a pending writer the core stalls, and without a pending writer it takes the summary trap. -/
def Obligations.SummaryRead : Prop :=
  ∀ (s : State) (g : Fin 216) (n l : Nat) (w : W32),
  (CoreAt s g n l w .srd → ((s.hearth g).y (wYsr w)).valid = true → ∃ t, exec (.srd g) s = .next t ∧
    Retires (s.seen g n l) t g (wA w) (BitVec.ofNat 64 ((s.hearth g).y (wYsr w)).value) (s.pcNext g) 1) ∧
  (CoreAt s g n l w .sflg → ((s.hearth g).y (wYsr w)).valid = true → ∃ t, exec (.sflg g) s = .next t ∧
    Retires (s.seen g n l) t g (wA w) (BitVec.ofNat 64 ((s.hearth g).y (wYsr w)).flags) (s.pcNext g) 1) ∧
  (CoreAt s g n l w .bsum → ((s.hearth g).y (wYsb w)).valid = true →
    let met := wMaskSb w &&& ((s.hearth g).y (wYsb w)).flags
    (((wSense w = true ∧ met ≠ 0) ∨ (wSense w = false ∧ met = 0)) → ∃ t, exec (.bsum g) s = .next t ∧
      Jumps s t g 0 0 ((((s.hearth g).pc : Int) + (w.extractLsb' 0 14).toInt) % 16384).toNat 3) ∧
    (((wSense w = true ∧ met = 0) ∨ (wSense w = false ∧ met ≠ 0)) → ∃ t, exec (.bsum g) s = .next t ∧
      Retires (s.seen g n l) t g 0 0 (s.pcNext g) 1)) ∧
  ∀ x ∈ ([(Mn.srd, Instr.srd g, wYsr w), (Mn.sflg, Instr.sflg g, wYsr w), (Mn.bsum, Instr.bsum g, wYsb w)] : List (Mn × Instr × Nat)),
    CoreAt s g n l w x.1 → ((s.hearth g).y x.2.2).valid = false →
    let u := s.seen g n l
    (((s.hearth g).y x.2.2).writer.isSome = true →
      exec x.2.1 s = .next (u.setHearth g { u.hearth g with stall := .summary x.2.2 (s.hearth g).cycle })) ∧
    (((s.hearth g).y x.2.2).writer = none → exec x.2.1 s = .next (u.coreTrap n l g 0x05 w.toNat))

/-- FENCE goes on when every engine of its mask is idle and stalls otherwise. WAITC stalls below its cycle, is a schedule fault above it; WAITC_RELEASE lets it go on at exactly its cycle. BAR enters the barrier, or is the barrier trap on every hearth when another hearth waits in another one. STEPEND waits for the engines and then enters the end barrier naming S[B][5:0]; a kind that another hearth did not name, or at or above STEP_KINDS, is a kind trap. -/
def Obligations.CoreWaiting : Prop :=
  ∀ (s : State) (g : Fin 216) (n l : Nat) (w : W32),
  let u := s.seen g n l
  let h := s.hearth g
  (CoreAt s g n l w .fence →
    (h.idleMask (wMaskFc w) = true → ∃ t, exec (.fence g) s = .next t ∧ Retires u t g 0 0 (s.pcNext g) 1) ∧
    (h.idleMask (wMaskFc w) = false → exec (.fence g) s = .next (u.setHearth g { u.hearth g with stall := .fence (wMaskFc w) h.cycle }))) ∧
  (CoreAt s g n l w .waitc →
    (h.cycle + 1 < wCycle w → exec (.waitc g) s = .next (u.setHearth g { u.hearth g with stall := .waitc (wCycle w) h.cycle })) ∧
    (h.cycle = wCycle w ∨ h.cycle + 1 = wCycle w → ∃ t, exec (.waitc g) s = .next t ∧ Retires u t g 0 0 (s.pcNext g) 1) ∧
    (wCycle w < h.cycle → ∃ t, exec (.waitc g) s = .next t ∧ Retires (u.scheduleFault n (some g)) t g 0 0 (s.pcNext g) 1)) ∧
  (∀ c since, s.partOf (g / 18) = some n → s.haltedNow n = false → h.stall = .waitc c since →
    ∃ t perf, exec (.waitcRelease g) s = .next t ∧ OnlyTraces (s.setHearth g { h with stall := .none, pc := s.pcNext g, cycle := c, perfRun := perf }) t) ∧
  (CoreAt s g n l w .bar →
    let clash := (u.hearthsOf n).any (fun m => match (u.hearth (u.phys m)).stall with | .bar c _ _ _ _ => c != wC w | _ => false)
    (clash = false → exec (.bar g) s = .next (u.setHearth g { u.hearth g with stall := .bar (wC w) (wFn w) (wA w) (s.opB g w).toNat h.cycle })) ∧
    (clash = true → exec (.bar g) s = .next (u.trapAll n 0x06 (wC w) h.cycle))) ∧
  (CoreAt s g n l w .stepend → h.chainDesc = none →
    let kind := (s.opB g w).toNat % 64
    (h.idleMask 511 = false → exec (.stepend g) s = .next (u.setHearth g { u.hearth g with stall := .stepend kind h.cycle })) ∧
    (h.idleMask 511 = true → cdStepKinds (u.job n (u.part n).job).img ≤ kind → exec (.stepend g) s = .next (u.coreTrap n l g 0x07 w.toNat kind)) ∧
    (h.idleMask 511 = true → kind < cdStepKinds (u.job n (u.part n).job).img →
      (∀ m ∈ u.hearthsOf n, ∀ k, (u.hearth (u.phys m)).stall = .ended k → k = kind) →
      exec (.stepend g) s = .next (u.onHearth g (fun h => ({ h with stall := .ended kind }).count 1 1))) ∧
    (h.idleMask 511 = true → kind < cdStepKinds (u.job n (u.part n).job).img →
      (∃ m ∈ u.hearthsOf n, ∃ k, (u.hearth (u.phys m)).stall = .ended k ∧ k ≠ kind) →
      exec (.stepend g) s = .next (u.trapAll n 0x07 kind h.cycle)))

/-- When every active hearth of a running partition waits in the same barrier with one combine AND, OR, MAXU, MINU or ADD, BAR_COMPLETE lets every core go on at the latest arrival, and every hearth receives in its own register A the combination of all S[B] values. -/
def Obligations.BarrierCompletes : Prop :=
  ∀ (s : State) (n : Fin 12) (c fn : Nat) (a v since : Nat → Nat),
  let hs := (s.hearthsOf n).map (fun l => s.phys l)
  hs ≠ [] → 1 ≤ fn → fn ≤ 5 → (s.part n).phase = .running → s.haltedNow n = false →
  (∀ g ∈ hs, (s.hearth g).stall = .bar c fn (a g) (v g) (since g)) →
  let r := barCombine fn 0 (hs.map (fun g => BitVec.ofNat 64 (v g)))
  ∃ t, exec (.barComplete n) s = .next t ∧ ∀ g ∈ hs, (t.hearth g).stall = .none ∧ (t.hearth g).pc = s.pcNext g ∧
    (t.hearth g).cycle = (hs.map since).foldl max 0 + 1 ∧
    ∀ i, (t.hearth g).reg i = if i = a g ∧ i ≠ 0 then r else (s.hearth g).reg i

/-- CSRR reads each register of Table 03-7 and CSRW clears the bits of NANSTAT written as 1; any other number is an illegal instruction. NOTE posts the first note of a hearth and step as event 0xE302 and only counts a later one. POLL at a poll point takes at most FN messages and writes their number to A; elsewhere it is an illegal instruction. -/
def Obligations.CoreRegisters : Prop :=
  ∀ (s : State) (g : Fin 216) (n l : Nat) (w : W32),
  let u := s.seen g n l
  let h := s.hearth g
  let num := w.toNat % 2 ^ 14
  (CoreAt s g n l w .csrr →
    (∀ x ∈ ([(0, h.cycle), (1, micro (max u.now (u.cycleTime n h.cycle))), (2, u.num (E.STEP_COUNT n)), (3, l), (4, h.kind),
             (5, (u.part n).stepEpoch), (6, (if h.nan0 then 1 else 0) + (if h.nan1 then 2 else 0))] : List (Nat × Nat)),
      num = x.1 → ∃ t, exec (.csrr g) s = .next t ∧ Retires u t g (wA w) (BitVec.ofNat 64 x.2) (s.pcNext g) 1) ∧
    (7 ≤ num → exec (.csrr g) s = .next (u.coreTrap n l g 0x01 w.toNat))) ∧
  (CoreAt s g n l w .csrw →
    (num = 6 → ∃ perf, exec (.csrw g) s = .next (u.setHearth g { u.hearth g with
      nan0 := h.nan0 && !(s.opB g w).getLsbD 0, nan1 := h.nan1 && !(s.opB g w).getLsbD 1,
      pc := s.pcNext g, cycle := h.cycle + 1, perfRun := perf })) ∧
    (num ≠ 6 → exec (.csrw g) s = .next (u.coreTrap n l g 0x01 w.toNat))) ∧
  (CoreAt s g n l w .note → ∃ perf,
    let v := u.setHearth g { u.hearth g with noted := true, pc := s.pcNext g, cycle := h.cycle + 1, perfRun := perf }
    (h.noted = false → exec (.note g) s = .next (v.raise 0xE302 (scopeP n) [num, l, h.pc, v.num (E.STEP_COUNT n)])) ∧
    (h.noted = true → exec (.note g) s = .next (v.bump (E.NOTES_DROPPED n)))) ∧
  (CoreAt s g n l w .poll →
    (∀ p slots cycles, Config.pollPoint (cdPoll (u.job n (u.part n).job).img) l h.pc = some (p, slots, cycles) →
      let x := u.poll n (wC w % 16) (min (wFn w) slots)
      let b := x.1.onPart n (fun p => { p with polled := p.polled || !x.2.isEmpty })
      ∃ t, exec (.poll g) s = .next t ∧ x.2.length ≤ wFn w ∧ Retires b t g (wA w) (BitVec.ofNat 64 x.2.length) (b.pcNext g) cycles) ∧
    (Config.pollPoint (cdPoll (u.job n (u.part n).job).img) l h.pc = none → exec (.poll g) s = .next (u.coreTrap n l g 0x01 w.toNat)))

/-- ISSUE of an aligned descriptor within scalar data to an engine with a free queue entry: the engine's queue gains the 64-byte descriptor as it stands now (SCALAR0 and SCALAR1 replaced by S[C] and S[D] where C and D are not 0) if the engine accepts it, its Y register becomes invalid with this pending writer, and memory does not change. A full queue is a schedule fault that moves no descriptor, a descriptor the engine rejects an engine trap, a descriptor address that is not 64-byte aligned a misalignment trap. -/
def Obligations.IssueResult : Prop :=
  ∀ (s : State) (g : Fin 216) (n l : Nat) (w : W32), CoreAt s g n l w .issue →
  let a := (s.opB g w).toNat
  let e := wEng w
  let u := s.watched g n l 2 a 64
  let d := u.descriptor g w a
  let free := ((s.hearth g).ops e).filter (fun o => !o.started)
  (a % 64 ≠ 0 → exec (.issue g) s = .next ((s.seen g n l).coreTrap n l g 0x02 w.toNat (a % 2 ^ 32))) ∧
  (a % 64 = 0 → 0x8000 < a + 64 → exec (.issue g) s = .next ((s.seen g n l).coreTrap n l g 0x03 w.toNat (a % 2 ^ 32))) ∧
  (a % 64 = 0 → a + 64 ≤ 0x8000 → s.uncorrectable (sdWork g + a) 64 = false →
    (free.length < 4 → u.descOk n l g e d = true → ∃ t o, exec (.issue g) s = .next t ∧
      o.desc = d ∧ o.started = false ∧ o.issued = (s.hearth g).cycle ∧ o.iaddr = (s.hearth g).pc ∧ o.seq = (s.hearth g).opSeq ∧
      (t.hearth g).ops e = (s.hearth g).ops e ++ [o] ∧ (∀ e', e' ≠ e → (t.hearth g).ops e' = (s.hearth g).ops e') ∧
      (∀ y, (t.hearth g).y y = if dSumOn d = true ∧ y = dSumY d then { value := ((s.hearth g).y y).value, writer := some o.seq } else (s.hearth g).y y) ∧
      (t.hearth g).pc = s.pcNext g ∧ (t.hearth g).cycle = (s.hearth g).cycle + 1 ∧ (∀ i, (t.hearth g).reg i = (s.hearth g).reg i) ∧
      t.mem = s.mem ∧ ∀ i, i ≠ g.val → ∃ tr, t.hearth i = { s.hearth i with trace := tr }) ∧
    (4 ≤ free.length → ∃ t, exec (.issue g) s = .next t ∧ Retires (u.scheduleFault n (some g)) t g 0 0 (s.pcNext g) 1) ∧
    (free.length < 4 → u.descOk n l g e d = false → exec (.issue g) s = .next (u.fatalTrap n l g 0x09 e (s.hearth g).pc w.toNat 0 (s.hearth g).cycle)))

/-- Every row of Table 03-3: where nothing lets the core start an instruction the row changes nothing; a fetch beyond the image, an uncorrectable instruction word and a word that Table 03-3 does not list take their traps whichever row is commanded; a word that is another instruction is not run by this row. (That a row runs only its own word is the model's choice, log 10.) -/
def Obligations.CoreRowsStart : Prop :=
  ∀ (s : State) (g : Fin 216), ∀ x ∈ coreRows g,
  (s.coreReady g = none → exec x.2 s = .next s) ∧
  ∀ n l w, s.coreReady g = some (n, l) → (s.hearth g).fetch = some w →
    (s.uncorrectable (imBase g + 4 * (s.hearth g).pc) 4 = true → exec x.2 s = .next (s.coreTrap n l g 0x08 w.toNat)) ∧
    (s.uncorrectable (imBase g + 4 * (s.hearth g).pc) 4 = false →
      (mnOf w = none → exec x.2 s = .next (s.coreTrap n l g 0x01 w.toNat)) ∧
      (∀ m, mnOf w = some m → m ≠ x.1 → exec x.2 s = .next s))

/-- The comparators that see an instruction start and the watches that see an access leave every hearth as it was but for its trace, and memory, ricks, jobs, bindings, device time and the queue untouched; with none enabled for the hearth they change nothing at all. -/
def Obligations.ComparatorsChangeNoRegister : Prop :=
  ∀ (s : State) (n l pc mode a len : Nat),
  OnlyTraces s (s.compare n l pc) ∧ OnlyTraces s (s.watch n l mode a len) ∧
  ((∀ i < 10, (fld (s.bpRec n l) (8 * i) 8).testBit 63 = false) → s.compare n l pc = s ∧ s.watch n l mode a len = s)

/-- A fatal trap of hearth l of partition n at a cycle. The first of a step stops the partition there and ends its step. CORE_TRAP keeps the earlier of two traps of one step, at equal cycles the one of the lower logical hearth, and CORE_TRAPS counts the second too (for causes other than the memory trap, which also marks the hearth). -/
def Obligations.FatalTrapStops : Prop :=
  ∀ (s : State) (n : Fin 12) (l g cause engine iaddr w detail cyc : Nat),
  let t := s.fatalTrap n l g cause engine iaddr w detail cyc
  ((s.part n).trapAt = none → (t.part n).trapAt = some cyc ∧ (t.part n).phase = .idle) ∧
  (∀ c, (s.part n).trapAt = some c → cause ≠ 8 → (t.part n).trapAt = some (min c cyc) ∧
    t.blob (E.CORE_TRAP n) = (if c < cyc ∨ (c = cyc ∧ fld (s.blob (E.CORE_TRAP n)) 2 2 ≤ l) then s.blob (E.CORE_TRAP n)
      else trapRecord s n l g cause engine iaddr w detail cyc) ∧
    (s.num (E.CORE_TRAPS n) + 1 < 2 ^ 32 → t.num (E.CORE_TRAPS n) = s.num (E.CORE_TRAPS n) + 1))

/-- At a piece's start cycle every core of the running partition stops with its piece named and its cycle not before the start; at the piece's end every core goes on with CYCLE counted on by the piece's length. SCHEDULE_FAULT marks the running attempt. HALT_STOP halts a partition once every core has reached the halt's stop cycle. -/
def Obligations.RakingAndHaltEvents : Prop :=
  ∀ (s : State) (n : Fin 12) (time : Nat),
  let s0 := s.at time
  let hs := (s0.hearthsOf n).map (fun l => s0.phys l)
  (∀ c, (s0.rakeStarts n)[(s0.part n).pieces]? = some c → (s0.part n).phase = .running → (s0.part n).inPiece = false → s0.haltedNow n = false →
    ∃ t, exec (.rakingPieceStart n time) s = .next t ∧ (t.part n).inPiece = true ∧
      ∀ g ∈ hs, (t.hearth g).piece = some (s0.part n).pieces ∧ (t.hearth g).cycle = max (s0.hearth g).cycle c) ∧
  ((s0.part n).inPiece = true → ∃ t, exec (.rakingPieceEnd n time) s = .next t ∧ (t.part n).inPiece = false ∧ (t.part n).pieces = (s0.part n).pieces + 1 ∧
      ∀ g ∈ hs, (t.hearth g).piece = none ∧ ∀ i, (s0.hearth g).piece = some i →
        (t.hearth g).cycle = max (s0.hearth g).cycle (((s0.rakeStarts n)[i]?).getD 0 + s0.num E.PIECE_NS * s0.clockMhz n / 1000)) ∧
  (∀ (g : Fin 216) (unit slot m : Nat), s.partOf (g / 18) = some m → (s.part m).phase = .running →
    ∃ t, exec (.scheduleFault g unit slot) s = .next t ∧ (t.part m).schedFault = true) ∧
  (∀ x, (s0.part n).halt = some x → x.since = none → (s0.part n).phase = .running → (s0.part n).inPiece = false → s0.allStopped n x.stop = true →
    exec (.haltStop n time) s = .next (s0.haltNow n) ∧ (s0.haltNow n).haltedNow n = true)

/-! Engines -/

/-- For each of the 46 rows that start an operation of an engine 1 to 8: when the next operation of the engine is of the row's OPCODE, it starts 2 cycles after its ISSUE or when the engine stops being busy, its place in the queue is kept, the engine is busy from then on, and no core, register, summary or other queue changes (a SOUT also needs its slot free of pending feeds, R172); when nothing waits, or the next operation is another one, the row changes nothing. -/
def Obligations.EngineOperationStarts : Prop :=
  ∀ (s : State) (g : Fin 216), ∀ x ∈ startRows g,
  (∀ n l before o rest, Waits s g x.2.1 n l before o rest → dOp o.desc = x.2.2 →
    (x.2.2 = 0x0403 → (s.hearth g).slotPending (dArg o.desc) o.seq = false) →
    ∃ base busy lat slat res, SameCores s base ∧ base.pending = s.pending ∧
      exec x.1 s = .next (base.startedAs g x.2.1 before o rest (s.startCycle g x.2.1 o) busy lat slat res)) ∧
  ((∀ o ∈ (s.hearth g).ops x.2.1, o.started = true) → exec x.1 s = .next s) ∧
  (∀ n l before o rest, Waits s g x.2.1 n l before o rest → dOp o.desc ≠ x.2.2 → exec x.1 s = .next s)

/-- Every operation of the vector engine: element i of row r of the result is the operation of Table 05-4 on the elements of A and B (and the scalars s0, s1), rounded to FP32 and then to the element type (INT8 saturates, INT32 wraps); the summary counts the results that are NaN or infinite; the operation is busy by its rows and completes 8 cycles later, 20 for a transcendental one, whose value lies within 2 units in the last place of the exact one (an open value of the model's configuration). -/
def Obligations.VectorResult : Prop :=
  ∀ (s : State) (g : Fin 216) (n l : Nat) (before : List Op) (o : Op) (rest : List Op),
  let d := o.desc
  let t := dSrc d
  let w0 := dS0 d % 2 ^ 32
  let w1 := dS1 d % 2 ^ 32
  let x := scalarV t w0
  let y := scalarV t w1
  Waits s g 1 n l before o rest → dDty d = t →
  ∀ z ∈ ([ (.vectorAdd g, 0x0101, false, true, fun a b => a.add b), (.vectorSub g, 0x0102, false, true, fun a b => a.sub b),
           (.vectorMul g, 0x0103, false, true, fun a b => a.mul b), (.vectorMax g, 0x0104, false, true, fun a b => a.max b),
           (.vectorMin g, 0x0105, false, true, fun a b => a.min b), (.axpy g, 0x0106, false, true, fun a b => (x.mul a).add b),
           (.affine g, 0x0107, false, false, fun a _ => (x.mul a).add y), (.muls g, 0x0108, false, true, fun a b => (f32mul x a).mul b),
           (.sel g, 0x0109, false, true, fun a b => if x.lt a then b else y), (.abs g, 0x010A, false, false, fun a _ => a.abs),
           (.exp g, 0x0110, true, false, fun a _ => f32v (within2 0x110 (f32c a) (w0 + 2 ^ 32 * w1) (expV (x.mul (a.sub y))))),
           (.log g, 0x0111, true, false, fun a _ => f32v (within2 0x111 (f32c a) 0 (lnV a))),
           (.recip g, 0x0112, true, false, fun a _ => f32v (within2 0x112 (f32c a) 0 ((FV.ofNat 1).div a))),
           (.rsqrt g, 0x0113, true, false, fun a _ => f32v (within2 0x113 (f32c a) 0 (rsqrtV a))),
           (.sigm g, 0x0114, true, false, fun a _ => f32v (within2 0x114 (f32c a) 0 (sigmV a))),
           (.silu g, 0x0115, true, false, fun a _ => f32v (within2 0x115 (f32c a) 0 (a.mul (sigmV a)))) ] :
           List (Instr × Nat × Bool × Bool × (FV → FV → FV))),
    dOp d = z.2.1 →
    let a (r i : Nat) := s.elem g (dA d + r * dAStr d) t (dCount d) i
    let b (r i : Nat) := if z.2.2.2.1 then s.elem g (dB d + r * dBStr d) t (dCount d) i else a r i
    let v (r i : Nat) := z.2.2.2.2 (a r i) (b r i)
    let code (r i : Nat) := vecEncode t (if etInt t then v r i else f32r (v r i))
    let reads := rowRanges (dA d) (dAStr d) (dRows d) (etRow t (dCount d)) ++
      (if z.2.2.2.1 then rowRanges (dB d) (dBStr d) (dRows d) (etRow t (dCount d)) else [])
    let lat := if z.2.2.1 then 20 else 8
    ∃ res, exec z.1 s = .next ((s.hreadCheck n g 0xE501 reads).startedAs g 1 before o rest (s.startCycle g 1 o)
        (dRows d * ceilDiv (dCount d * etHalf t) (if z.2.2.1 then 4096 else 8192)) lat lat res) ∧
      res.writes = rowWrites d code ∧
      res.sum.value = (((List.range (dRows d)).flatMap (fun r => (List.range (dCount d)).map (fun i => etValue t (code r i)))).filter
        (fun v => v.isNan || v.isInf)).length

/-- SUM, SUMSQ, MAX and MIN write the FP32 result of each line at DST and sum them up in the summary, transformed by POST (12 cycles later). ARGMAX writes for each line the position (plus SCALAR1) of the element that no other ranks before (a NaN above +∞, then the larger value), the lowest such position, at DST, and its value at XADDR. TOPK writes the first k elements in rank order and their indices. -/
def Obligations.ReductionResult : Prop :=
  ∀ (s : State) (g : Fin 216) (n l : Nat) (before : List Op) (o : Op) (rest : List Op),
  let d := o.desc
  let ls := s.lines g d
  let base := s.hreadCheck n g 0xE501 (rowRanges (dA d) (dAStr d) (dRows d) (etRow (dSrc d) (dCount d)))
  Waits s g 2 n l before o rest →
  (∀ z ∈ ([ (.reduceSum g, 0x0201, lineSum (rdAxis d), sumAsc),
            (.sumsq g, 0x0202, (fun l => lineSum (rdAxis d) (l.map (fun x => f32r (x.mul x)))), sumAsc),
            (.reduceMax g, 0x0203, extreme FV.max, extreme FV.max), (.reduceMin g, 0x0204, extreme FV.min, extreme FV.min) ] :
            List (Instr × Nat × (List FV → FV) × (List FV → FV))),
    dOp d = z.2.1 → ∃ res,
      exec z.1 s = .next (base.startedAs g 2 before o rest (s.startCycle g 2 o) (dRows d * ceilDiv (dCount d * etHalf (dSrc d)) 8192) 24
        (if rdPost d = 0 then 24 else 36) res) ∧
      res.writes = [(dDst d, packCodes 32 (ls.map (fun l => f32c (z.2.2.1 l))))] ∧
      res.sum.value = f32c (postValue (rdPost d) (dS0 d % 2 ^ 32) (dS1 d % 2 ^ 32) (z.2.2.2 (ls.map z.2.2.1)))) ∧
  (dOp d = 0x0205 → 1 ≤ dRows d → 1 ≤ dCount d → ∃ (res : Result) (pos : Nat → Nat),
    exec (.argmax g) s = .next (base.startedAs g 2 before o rest (s.startCycle g 2 o) (dRows d * ceilDiv (dCount d * etHalf (dSrc d)) 8192) 24 24 res) ∧
    res.writes = [(dDst d, packCodes 32 ((List.range ls.length).map (fun j => (pos j + dS1 d) % 2 ^ 32))),
                  (dX d, packCodes 32 ((List.range ls.length).map (fun j => f32c ((((ls[j]?).getD [])[pos j]?).getD .nan))))] ∧
    ∀ j ln, ls[j]? = some ln → pos j < ln.length ∧ ∀ q < ln.length,
      ranksBefore ((ln[q]?).getD .nan) ((ln[pos j]?).getD .nan) = false ∧
      (q < pos j → ranksBefore ((ln[pos j]?).getD .nan) ((ln[q]?).getD .nan) = true)) ∧
  (dOp d = 0x0206 → ∃ res,
    exec (.topk g) s = .next (base.startedAs g 2 before o rest (s.startCycle g 2 o) (dRows d * ceilDiv (dCount d * etHalf (dSrc d)) 4096)
      (40 + 2 * dArg d) (40 + 2 * dArg d) res) ∧
    res.writes = ls.mapIdx (fun j line => (dDst d + j * topkLine (dArg d), packCodes 32 (((ranked line).take (dArg d)).map (fun x => f32c x.1)))) ++
      ls.mapIdx (fun j line => (dX d + j * topkLine (dArg d), packCodes 32 (((ranked line).take (dArg d)).map (fun x => (x.2 + dS1 d) % 2 ^ 32)))))

/-- CAST, EXPAND and CONST write each element as the code of one rounding under RM of its source (multiplied by SCALAR0 under PRESCALE; the value under its block scale for EXPAND; s0 for CONST). QUANT_MX, QUANT_G16 and COMPRESS write each row as the bytes of its blocks at DST and, for the first two, one scale byte per block at XADDR. -/
def Obligations.ConversionResult : Prop :=
  ∀ (s : State) (g : Fin 216) (n l : Nat) (before : List Op) (o : Op) (rest : List Op),
  let d := o.desc
  let pre (v : FV) : FV := if cvPre d then v.mul (f32v (dS0 d % 2 ^ 32)) else v
  let rm := rmOf (cvRm d) (s.rndWord n l d)
  let a (r i : Nat) : FV := pre (s.elem g (dA d + r * dAStr d) (dSrc d) (dCount d) i)
  let code (v : FV) (r i : Nat) : Nat := (convEncode (dDty d) (rm (r * dCount d + i)) (cvSat d) v).1
  let reads := rowRanges (dA d) (dAStr d) (dRows d) (etRow (dSrc d) (dCount d))
  let busy := dRows d * ceilDiv (dCount d * cvHalf d) 8192
  Waits s g 3 n l before o rest →
  (dOp d = 0x0301 → ∃ res, exec (.cast g) s = .next ((s.hreadCheck n g 0xE501 reads).startedAs g 3 before o rest (s.startCycle g 3 o) busy 12 12 res) ∧
    res.writes = rowWrites d (fun r i => code (a r i) r i)) ∧
  (dOp d = 0x0305 → (∀ r, (s.expandRow g d r).length = dCount d) → ∃ base res,
    exec (.expand g) s = .next (State.startedAs base g 3 before o rest (s.startCycle g 3 o) busy 16 16 res) ∧
    res.writes = rowWrites d (fun r i => code (pre (((s.expandRow g d r)[i]?).getD .nan)) r i)) ∧
  (dOp d = 0x0306 → ∃ res, exec (.constFill g) s = .next (s.startedAs g 3 before o rest (s.startCycle g 3 o)
      (dRows d * ceilDiv (dCount d * etHalf (dDty d)) 8192) 12 12 res) ∧
    res.writes = rowWrites d (fun r i => code (f32v (dS0 d % 2 ^ 32)) r i)) ∧
  ∀ z ∈ ([(.quantMx g, 0x0302, mxRow), (.quantG16 g, 0x0303, g16Row), (.compress g, 0x0304, compressRow)] :
      List (Instr × Nat × (List Byte → (Nat → RM) → Nat → List FV → RowOut))),
    dOp d = z.2.1 →
    let out (r : Nat) := z.2.2 d rm (r * dCount d) ((List.range (dCount d)).map (a r))
    ∃ res, exec z.1 s = .next ((s.hreadCheck n g 0xE501 reads).startedAs g 3 before o rest (s.startCycle g 3 o) busy 16 16 res) ∧
      res.writes = (List.range (dRows d)).map (fun r => (dDst d + r * dDStr d, (out r).dst)) ++
        ((List.range (dRows d)).map (fun r => (dX d + r * dXStr d, (out r).x))).filter (fun w => !w.2.isEmpty)

/-- SACC feeds the rows of A to its slot and SOUT writes its slot and then clears its counts, the unit busy until the slot's last feed is added; SINIT takes 4 cycles. PENALIZE replaces the logits of the listed tokens with nonzero count and traps when the tokens do not ascend. SELECT and PROBOF write one 16-byte result for each row: the chosen candidate or the probability of the queried one where the row's STATUS is 0 (elsewhere the model's free values, log 16), and count the rows with STATUS 2 or 3. -/
def Obligations.StatisticsAndSampling : Prop :=
  ∀ (s : State) (g : Fin 216) (n l e : Nat) (before : List Op) (o : Op) (rest : List Op),
  let d := o.desc
  let start := s.startCycle g e o
  Waits s g e n l before o rest →
  (e = 4 → dOp d = 0x0401 → ∃ res, exec (.sinit g) s = .next (s.draw.2.startedAs g 4 before o rest start 4 0 0 res) ∧ res.writes = [] ∧ res.feed = none) ∧
  (e = 4 → dOp d = 0x0402 → ∃ res, exec (.sacc g) s = .next ((s.draw.2.hreadCheck n g 0xE501 (rowRanges (dA d) (dAStr d) (dRows d) (etRow (dSrc d) (dCount d)))).startedAs
      g 4 before o rest start (dRows d * ceilDiv (dCount d * etHalf (dSrc d)) 8192) 16 16 res) ∧
    res.feed = some (dArg d, (List.range (dRows d)).map (fun r => s.hvals g (dA d + r * dAStr d) (dSrc d) (dCount d)))) ∧
  (e = 4 → dOp d = 0x0403 → (s.hearth g).slotPending (dArg d) o.seq = false → ∃ res,
    exec (.sout g) s = .next (s.draw.2.startedAs g 4 before o rest start (max start ((s.hearth g).stat (dArg d)).added - start + 32) 0 0 res) ∧
    res.sout = some (dArg d)) ∧
  (e = 5 → dOp d = 0x0501 →
    let prs := (pieces (s.hread g (dB d) (8 * saPairs d)) 8 (saPairs d)).map (fun b => (fld b 0 4, fld b 4 4))
    let out (i : Nat) : FV := let l := s.elem g (dA d) 0x9 (dCount d) i
      match prs.find? (fun p => p.1 == saTbase d + i) with
      | some p => if p.2 = 0 then l else penalize (f32v (dS0 d % 2 ^ 32)) (f32v (dS0 d / 2 ^ 32)) (f32v (dS1 d % 2 ^ 32)) p.2 l
      | none => l
    ∃ res, exec (.penalize g) s = .next ((s.hreadCheck n g 0xE501 [(dA d, 4 * dCount d), (dB d, 8 * saPairs d)]).startedAs g 5 before o rest start
        (ceilDiv (dCount d) 128 + ceilDiv (saPairs d) 64) 12 12 res) ∧
      res.writes = [(dDst d, packCodes 32 ((List.range (dCount d)).map (fun i => f32c (out i))))] ∧
      (res.trap = true ↔ ¬ (prs.map Prod.fst).Pairwise (· < ·))) ∧
  (e = 5 → ∀ z ∈ ([(.select g, 0x0502, fun r => sampResult ((r.idx[r.choose.1]?).getD 0) (f32c r.choose.2) (logP r.choose.2) r.kept.1 0),
      (.probof g, 0x0503, fun r =>
        let q := fld r.par 0x1C 4
        let p : FV := match (r.idx.take r.kept.1).findIdx? (fun i => i == q) with
          | some j => f32r (((r.kept.2.2[j]?).getD .nan).div r.kept.2.1)
          | none => .zero false
        sampResult q (f32c p) (logP p) r.kept.1 0)] : List (Instr × Nat × (SampRow → List Byte))),
    dOp d = z.2.1 →
    let k := dCount d
    let row (i : Nat) : SampRow := ⟨s.hread g (saP d + 32 * i) 32, s.hvals g (dA d + i * topkLine k) 0x9 k, s.hcodes g (dB d + i * topkLine k) 0x9 k⟩
    ∃ base res, exec z.1 s = .next (State.startedAs base g 5 before o rest start (dRows d * (k + 8)) 48 48 res) ∧
      res.bad = ((List.range (dRows d)).filter (fun i => decide (2 ≤ (row i).status))).length ∧
      res.writes.length = dRows d ∧
      ∀ i < dRows d, ∃ b, res.writes[i]? = some (dDst d + 16 * i, b) ∧ ((row i).status = 0 → b = z.2.2 (row i)) ∧
        ((row i).status ≠ 0 → (fld b 0 4 = 0xFFFFFFFF ∧ fld b 14 1 = (row i).status)))

/-- MMUL: the weight load begins 2 cycles after ISSUE, or when the engine's load and compute stages of the operation ahead are free; the compute phase follows the load and the stream ahead, the operation completes 268 cycles after its stream, and its write-back of 512 bytes a cycle follows the completion and the half's earlier write-back. At MMUL_COMPLETE the outputs reach the accumulator, the summary counts outputs that are NaN or infinite, and an operation without write-back leaves the queue; at MMUL_WRITEBACK_END its rows reach the hearth store and it leaves the queue. -/
def Obligations.MatrixOperation : Prop :=
  ∀ (s : State) (g : Fin 216) (n l : Nat) (before : List Op) (o : Op) (rest : List Op),
  let d := o.desc
  let h := s.hearth g
  let keep := (mmFlags d).testBit 4
  let wb := (mmFlags d).testBit 1
  let a := (mmArrays d).length
  let start := if keep then o.issued + 2 else max (o.issued + 2) (max h.mm.load h.mm.comp)
  let loadEnd := if keep then start else start + ceilDiv (128 * mmLw d + mmSw d + (if isMx (mmAf d) then a * mmSx d else 0)) 256
  let comp := max loadEnd h.mm.stream
  let stream := comp + mmC d * mmM d + 6
  (Waits s g 0 n l before o rest → ∃ t o1, exec (.mmul g) s = .next t ∧ (t.hearth g).ops 0 = before ++ o1 :: rest ∧
    o1.desc = d ∧ o1.seq = o.seq ∧ o1.started = true ∧ o1.start = start ∧ o1.busyEnd = stream ∧ o1.done = stream + 268 ∧
    o1.res.wbEnd = (if wb then max (stream + 268) (if mmHalf d = 0 then h.mm.wb0 else h.mm.wb1) +
      ceilDiv (a * mmM d * (if (mmFlags d).testBit 2 then 256 else 512)) 512 else stream + 268) ∧
    (t.hearth g).mm.load = loadEnd ∧ (t.hearth g).mm.comp = comp ∧ (t.hearth g).mm.stream = stream ∧
    (t.hearth g).tile = (if keep then h.tile else (s.hread g (mmW d) (128 * mmLw d), s.hread g (mmWs d) (mmSw d))) ∧
    t.mem = s.mem ∧ (t.hearth g).acc = h.acc) ∧
  (s.partOf (g / 18) = some n → s.logical g = some l → h.ops 0 = before ++ o :: rest → (∀ b ∈ before, b.complete = true) → o.complete = false →
    o.started = true → (∀ k c, h.stall ≠ .stepend k c) →
    let vals := (mmArrays d).flatMap (fun j => (List.range (mmM d)).flatMap (fun m => ((h.accumulate d o.res.yop).accRow j (mmHalf d) m).map f32v))
    ∃ t o1, exec (.mmulComplete g) s = .next t ∧ (t.hearth g).acc = (h.accumulate d o.res.yop).acc ∧ t.mem = s.mem ∧
      (t.hearth g).ops 0 = (if wb then before ++ o1 :: rest else before ++ rest) ∧
      (wb = true → o1.complete = true ∧ o1.res.writes = (h.accumulate d o.res.yop).writeBack d) ∧
      (dSumOn d = true → (h.y (dSumY d)).writer = some o.seq → ((t.hearth g).y (dSumY d)).valid = true ∧
        ((t.hearth g).y (dSumY d)).value = (vals.filter (fun v => v.isNan || v.isInf)).length % 2 ^ 64)) ∧
  (s.partOf (g / 18) = some n → s.logical g = some l → h.ops 0 = o :: rest → o.complete = true → (∀ k c, h.stall ≠ .stepend k c) →
    ∃ t, exec (.mmulWritebackEnd g) s = .next t ∧ (t.hearth g).ops 0 = rest ∧
      t.mem = o.res.writes.foldl (fun m w => m.store (hearthBase g + w.1) w.2) s.mem)

/-- When the oldest operation of an engine 1 to 8 has started (and, for the layout engine, its messages have been answered), its completion takes it off the queue, writes its bytes to the hearth store (the layout engine's also to the tier), and makes its summary register valid when it is the register's pending writer, and a core stalled on that register goes on. An operation that found an error while it ran is an engine trap instead. (The core is not waiting at STEPEND: there the last completion also enters the end barrier.) -/
def Obligations.EngineOperationCompletes : Prop :=
  ∀ (s : State) (g : Fin 216) (n l c : Nat) (o : Op),
  ∀ x ∈ ([(.engineOpComplete g 1, 1), (.engineOpComplete g 2, 2), (.engineOpComplete g 3, 3), (.engineOpComplete g 4, 4), (.engineOpComplete g 5, 5),
      (.attnComplete g, 6), (.kvOpComplete g c, 7), (.layoutOpComplete g c, 8)] : List (Instr × Nat)),
  s.oldest g x.2 = some (n, l, o) → (∀ k c, (s.hearth g).stall ≠ .stepend k c) → o.res.sout = none → o.res.tier = [] →
  (∀ i ∈ o.res.msgs, Tab.look s.flights i = none) →
  (o.res.trap = false → ∃ t, exec x.1 s = .next t ∧ (t.hearth g).ops x.2 = ((s.hearth g).ops x.2).tail ∧
    (∀ e, e ≠ x.2 → (t.hearth g).ops e = (s.hearth g).ops e) ∧
    t.mem = o.res.writes.foldl (fun m w => m.store (hearthBase g + w.1) w.2) s.mem ∧
    (∀ y, (t.hearth g).y y = if dSumOn o.desc = true ∧ y = dSumY o.desc ∧ ((s.hearth g).y y).writer = some o.seq then
      ⟨o.res.sum.value % 2 ^ 64, o.res.sum.flags, true, none⟩ else (s.hearth g).y y) ∧
    (∀ since, (s.hearth g).stall = .summary (dSumY o.desc) since → dSumOn o.desc = true → ((s.hearth g).y (dSumY o.desc)).writer = some o.seq →
      (t.hearth g).stall = .none)) ∧
  (o.res.trap = true → x.2 ≠ 6 → x.2 ≠ 8 →
    exec x.1 s = .next ((s.onHearth g (fun h => h.popOp x.2)).fatalTrap n l g 0x09 x.2 o.iaddr o.word 0 o.done))

/-- ATTN extends the open chain by its keys and values and closes it on its last operation. A KV operation on a padded batch slot only takes its time. With a sound directory: GATHER brings the entries of its positions, or traps beyond what the list holds; ACCEPT makes PEND of the model POS; ATTACH copies a live handle's directory into the empty list and answers its length, a bad handle answers all ones; SNAP of a list makes a handle whose list shares the map pages. -/
def Obligations.AttentionAndKv : Prop :=
  ∀ (s : State) (g : Fin 216) (n l e : Nat) (before : List Op) (o : Op) (rest : List Op),
  let d := o.desc
  let k := l / 16
  let list := kvList d
  let m := kvModel d
  let start := s.startCycle g e o
  let dr := s.dir k list
  Waits s g e n l before o rest →
  (e = 6 → dOp d = 0x0601 →
    let c0 := s.openChain g d
    let c1 := c0.advance d (s.scoreRows g d c0) ((List.range (atKlen d)).map (s.valueRow g d))
    ∃ t res, exec (.attn g) s = .next t ∧ (t.hearth g).chain = (if atLast d then none else some c1) ∧ t.mem = s.mem ∧
      ∃ base, t = State.startedAs base g 6 before o rest start (atBusy d) 40 40 res) ∧
  (e = 7 → kvPadded d = true → ∀ x ∈ ([(.gather g, 0x0701), (.kvAppend g, 0x0702), (.accept g, 0x0703), (.attach g, 0x0704), (.snap g, 0x0705)] : List (Instr × Nat)),
    dOp d = x.2 → ∃ busy lat res, exec x.1 s = .next (s.draw.2.startedAs g 7 before o rest start busy lat lat res) ∧ res.writes = []) ∧
  (e = 7 → kvPadded d = false → s.dirBad n k list = false →
    (dOp d = 0x0701 → max (dr.lenOf m) (s.appendedEnd n k list m (kvLayer d)) < kvPos d + kvCount d →
      ∃ base busy res, exec (.gather g) s = .next (State.startedAs base g 7 before o rest start busy 400 400 res) ∧ res.trap = true) ∧
    (dOp d = 0x0701 → kvPos d + kvCount d ≤ max (dr.lenOf m) (s.appendedEnd n k list m (kvLayer d)) → (fld (s.kvRec n d) 1 1).testBit 2 = false →
      ∀ s1 rows, s.kvEntries n k list m (kvLayer d) (s.kvRec n d) (kvPos d) (kvCount d) = (s1, some rows) →
      ∃ busy res, exec (.gather g) s = .next (s1.startedAs g 7 before o rest start busy 400 400 res) ∧ res.trap = false ∧
        res.writes = rows.mapIdx (fun j b => (kvH d + j * kmEntry (s.kvRec n d), b))) ∧
    (dOp d = 0x0702 → (kvPos d < dr.lenOf m ∨ s.writeEnd n k list < kvPos d + kvCount d) →
      ∃ busy res, exec (.kvAppend g) s = .next (s.startedAs g 7 before o rest start busy 400 400 res) ∧ res.trap = true) ∧
    (dOp d = 0x0703 → dr.lenOf m ≤ kvPos d → kvPos d ≤ s.writeEnd n k list →
      ∃ res, exec (.accept g) s = .next (((s.setDir k list { dr with pend := dr.pend.set m (some (kvPos d)) }).kvNote n l o).startedAs
        g 7 before o rest start 16 0 0 res) ∧ res.sum.value = kvPos d) ∧
    (dOp d = 0x0704 → dr.isEmpty = true → ∀ h, s.handle n (bits (kvHandle d) 59 48) = some h → s.dirBad n k (s.handleList n (bits (kvHandle d) 59 48)) = false →
      kvHandle d / 2 ^ 60 = n → h.check = kvHandle d % 2 ^ 48 → s.epochAllows n list h = true →
      let src := s.dir k (s.handleList n (bits (kvHandle d) 59 48))
      ∃ t, exec (.attach g) s = .next t ∧ (t.dir k list).len = src.len ∧ (t.dir k list).ents = src.ents) ∧
    (dOp d = 0x0704 → dr.isEmpty = true → s.handle n (bits (kvHandle d) 59 48) = none →
      ∃ base busy res, exec (.attach g) s = .next (State.startedAs base g 7 before o rest start busy 400 400 res) ∧ res.sum.value = 2 ^ 64 - 1) ∧
    (dOp d = 0x0705 → kvPos d ≤ (dr.pendOf 0).getD (dr.lenOf 0) → ∀ slot, s.snapSlot n k list = some (slot, true) →
      ∃ t h, exec (.snap g) s = .next t ∧ t.handle n slot = some h ∧ (t.dir k (s.handleList n slot)).ents = dr.ents ∧
        h.pinned = (kvFlags d).testBit 0 ∧ h.lastAttach = s.num (E.STEP_COUNT n)))

/-- SKEW_LOCAL writes the skewed tile of its row-major vectors, FILL zero rows, LIN_OUT to a tier reads its rows and keeps them for the tier, LIN_IN from a tier brings each row of the range, SKEW_IN the skewed tile of them, WEIGHT_IN its tiles from the weight stream of the step's epoch; the summary counts the bytes. A LIN_IN from tier P sends one GET for each row, a LIN_OUT one PUT, and completes on their answers. -/
def Obligations.LayoutResult : Prop :=
  ∀ (s : State) (g : Fin 216) (n l : Nat) (before : List Op) (o : Op) (rest : List Op),
  let d := o.desc
  let start := s.startCycle g 8 o
  Waits s g 8 n l before o rest →
  (dOp d = 0x0004 →
    let t := skewTile d ((List.range (laRows d)).map (fun r => s.hread g (laT d % 2 ^ 23 + r * laTStr d) (laLine d)))
    ∃ base res, exec (.skewLocal g) s = .next (State.startedAs base g 8 before o rest start 0 0 0 res) ∧ res.writes = [(laH d, t)] ∧ res.sum.value = t.length) ∧
  (dOp d = 0x0006 → ∃ res, exec (.fill g) s = .next (s.startedAs g 8 before o rest start 0 0 0 res) ∧
    res.writes = (List.range (laRows d)).map (fun r => (laH d + r * laHStr d, zeros (laRB d))) ∧ res.sum.value = laRows d * laRB d) ∧
  (dOp d = 0x0001 → taTier (laT d) ≠ 3 → ∃ res,
    exec (.linIn g) s = .next ((s.readRows n (laT d) (laTStr d) (laRB d) (laRows d)).1.startedAs g 8 before o rest start 0 0 0 res) ∧
    res.writes = (s.readRows n (laT d) (laTStr d) (laRB d) (laRows d)).2.mapIdx (fun r b => (laH d + r * laHStr d, b)) ∧ res.sum.value = laRows d * laRB d) ∧
  (dOp d = 0x0002 → taTier (laT d) ≠ 3 → ∃ res,
    exec (.linOut g) s = .next ((s.hreadCheck n g 0xE404 (rowRanges (laH d) (laHStr d) (laRows d) (laRB d))).startedAs g 8 before o rest start 0 0 0 res) ∧
    res.tier = (List.range (laRows d)).map (fun r => (laT d + r * laTStr d, s.hread g (laH d + r * laHStr d) (laRB d))) ∧ res.writes = []) ∧
  (∀ x ∈ ([(.linIn g, 0x0001), (.linOut g, 0x0002)] : List (Instr × Nat)), dOp d = x.2 → taTier (laT d) = 3 → ∃ base res,
    exec x.1 s = .next (State.startedAs base g 8 before o rest start 0 0 0 res) ∧ res.msgs.length = laRows d ∧ res.writes = [] ∧ res.tier = []) ∧
  (dOp d = 0x0003 → ∃ res,
    exec (.skewIn g) s = .next ((s.readRows n (laT d) (laTStr d) (laLine d) (laRows d)).1.startedAs g 8 before o rest start 0 0 0 res) ∧
    res.writes = [(laH d, skewTile d (s.readRows n (laT d) (laTStr d) (laLine d) (laRows d)).2)]) ∧
  (dOp d = 0x0005 → ∃ res,
    exec (.weightIn g) s = .next ((s.streamBytes n l start (laRows d * laTile d)).1.startedAs g 8 before o rest start 0 0 0 res) ∧
    res.writes = (pieces (s.streamBytes n l start (laRows d * laTile d)).2 (laTile d) (laRows d)).mapIdx (fun r b => (laH d + r * laHStr d, b)) ∧
    res.sum.value = laRows d * laTile d)

/-- For FP32, BF16, FP16, E4M3 and E5M2: every code that is not a NaN denotes a value whose rounding to nearest in that format is that code again, so decoding drops no bit of a code. -/
def Obligations.FormatCodesRoundTrip : Prop :=
  ∀ f ∈ [fmtFP32, fmtBF16, fmtFP16, fmtE4M3, fmtE5M2], ∀ c < 2 ^ (1 + f.eb + f.fb), (f.decode c).isNan = false →
    f.encode .nearest .inf (f.decode c) = c

/-! Steps, queues, background work and repairs -/

/-- Once a step of a job slot has started, the partition runs, and on every hearth of it the core stands at word address k, the step kind, with CYCLE 0, no stall, every scalar register zero, every Y register invalid with no pending writer, every engine queue empty, and NANSTAT bit 0 clear; memory is as it was. -/
def Obligations.StepStartsClean : Prop :=
  ∀ (s : State) (n j : Nat),
  let t := s.startStep n j
  (t.part n).phase = .running ∧ t.mem = s.mem ∧
  ∀ l ∈ s.hearthsOf n, let h := t.hearth (s.phys l)
    h.pc = (s.job n j).kind ∧ h.kind = (s.job n j).kind ∧ h.cycle = 0 ∧ h.stall = .none ∧ h.nan0 = false ∧ h.noted = false ∧
    (∀ i, h.reg i = 0) ∧ (∀ y, (h.y y).valid = false ∧ (h.y y).writer = none) ∧ ∀ e, h.ops e = []

/-- When an attempt is discarded, the working copy of every hearth of the partition holds what the committed copy held, the committed copy and every other byte of memory are as the undoing of the KV effects left them, and the NaN reports, mismatches and staged counts of the attempt are gone. -/
def Obligations.DiscardRestoresScalarData : Prop :=
  ∀ (s : State) (n : Nat),
  let u := s.kvDiscard n
  let t := s.discardAttempt n
  (∀ l ∈ u.hearthsOf n, u.phys l < 216) →
  (∀ l ∈ u.hearthsOf n, ∀ i < 0x8000, t.mem.look (sdWork (u.phys l) + i) = u.mem.look (sdComm (u.phys l) + i)) ∧
  (∀ a, (∀ l ∈ u.hearthsOf n, a < sdWork (u.phys l) ∨ sdWork (u.phys l) + 0x8000 ≤ a) → t.mem.look a = u.mem.look a) ∧
  (∀ l ∈ u.hearthsOf n, (t.hearth (u.phys l)).nanRep = none ∧ (t.hearth (u.phys l)).mism = []) ∧
  (t.part n).emptyRows = 0 ∧ (t.part n).evidence = 0 ∧ (t.part n).badRows = 0

/-- STEP_BOUNDARY acts when every core of a running step has entered the end barrier (the attempt then ends), unless the partition is halted, a raking piece runs, or a halt fell due, which it then enters; a partition that runs nothing looks for work. RAKE_PAUSE_END ends a pause once no task is urgent or 1,000 µs have passed, GATE_TIMEOUT and VERDICT_TIMEOUT act at their limits and not before, BOUNDARY_RECORD reports nothing before 1 ms, STEP_RECORD_DELIVERY delivers while the stacks are active. -/
def Obligations.BoundaryEvents : Prop :=
  ∀ (s : State) (n : Fin 12) (time : Nat),
  let s1 := s.at time
  let p := s1.part n
  let j := p.job
  (p.phase = .running → ∀ k, s1.allEnded n = some k → s1.haltedNow n = false → p.inPiece = false →
    (p.halt = none → exec (.stepBoundary n time) s = .next (s1.beginBoundary n k)) ∧
    (∀ x, p.halt = some x → x.cause ≠ 0x0D → exec (.stepBoundary n time) s = .next (s1.haltNow n))) ∧
  (p.phase = .running → (s1.allEnded n = none ∨ s1.haltedNow n = true ∨ p.inPiece = true) → exec (.stepBoundary n time) s = .next s1) ∧
  (p.phase = .idle → exec (.stepBoundary n time) s = .next (s1.idleBoundary n)) ∧
  (s1.exists n = false → s1.idleBoundary n = s1) ∧
  (∀ since remap, p.phase = .pause since remap →
    ((s1.urgents n = [] ∨ since + 1000000 ≤ s1.now) → exec (.rakePauseEnd n time) s = .next (s1.endPause n since)) ∧
    (s1.urgents n ≠ [] → s1.now < since + 1000000 → exec (.rakePauseEnd n time) s = .next s1)) ∧
  (∀ since x, p.phase = .gate since → s1.exchange n j (s1.job n j).kind = some x →
    (since + fld x 0x14 4 ≤ s1.now → exec (.gateTimeout n time) s = .next (((s1.bump (E.LR_GATE_MISSES n)).raise 0xED07 (scopeP n)).passGate n j since)) ∧
    (s1.now < since + fld x 0x14 4 → exec (.gateTimeout n time) s = .next s1)) ∧
  (∀ since x, p.phase = .verdict since true → s1.exchange n j p.kind = some x →
    (since + fld x 0x18 4 ≤ s1.now → exec (.verdictTimeout n time) s = .next (s1.finishAttempt n)) ∧
    (s1.now < since + fld x 0x18 4 → exec (.verdictTimeout n time) s = .next s1)) ∧
  (∀ since x, p.phase = .verdict since false → s1.exchange n j p.kind = some x → since + fld x 0x18 4 ≤ s1.now →
    ∃ t, exec (.verdictTimeout n time) s = .next t ∧ (t.part n).phase = .verdict s1.now true) ∧
  (s1.stacksActive n = true → exec (.stepRecordDelivery n time) s = .next (s1.deliverAll n)) ∧
  ((∀ i < 8, ∀ u, (s1.job n i).unreported = some u → s1.now < u + 1000000) → exec (.boundaryRecord n time) s = .next s1)

/-- The five events of a switch in their order, each not before its time: the write-back ends 30,000 ns after the switch began and leaves no active slot; the slot maps come into force 400,000 ns later with the incoming cord's streams and scalar data; with nothing to copy from tier S the prologue begins; and after the prologue of the cord the incoming job is active and its first step is kind 0 (a repeated exchange its own kind). -/
def Obligations.SwitchEvents : Prop :=
  ∀ (s : State) (n : Fin 12) (j t0 time : Nat),
  let s1 := s.at time
  let ph := (s1.part n).phase
  (ph = .switchOut j t0 → s1.now < t0 + 30000 → exec (.switchWritebackDone n time) s = .next s1) ∧
  (ph = .switchOut j t0 → t0 + 30000 ≤ s1.now → ∃ t, exec (.switchWritebackDone n time) s = .next t ∧
    t.num (E.ACTIVE_SLOT n) = 0xFF ∧ (t.part n).phase = .switchMaps j (t0 + 30000)) ∧
  (ph = .switchMaps j t0 → s1.now < t0 + 400000 → exec (.slotMapsInForce n time) s = .next s1) ∧
  (ph = .switchMaps j t0 → t0 + 400000 ≤ s1.now → s1.loaded n j = true → (s1.job n j).saved = false →
    exec (.slotMapsInForce n time) s = .next (((s1.loadStreams n j).loadSdata n j).switchWeights n j)) ∧
  (ph = .switchCopy j t0 → (∀ m ∈ s1.members n j, (s1.chooseEpoch n m).isSome = true) → ∃ t, exec (.tierSCopyDone n time) s = .next t ∧
    (t.part n).phase = .switchPrologue j s1.now) ∧
  (ph = .switchPrologue j t0 → s1.now < t0 + cdPrologue (s1.job n j).image → exec (.switchPrologueDone n time) s = .next s1) ∧
  (ph = .switchPrologue j t0 → t0 + cdPrologue (s1.job n j).image ≤ s1.now → s1.loaded n j = true → (s1.part n).fromIdle = false →
    exec (.switchPrologueDone n time) s = .next ((forAll (s1.members n j) (fun m s => s.onJob n m (fun x => { x with kind := if x.repeatX then x.kind else 0 }))
      ((s1.setNum (E.ACTIVE_SLOT n) j).onPart n (fun p => { p with phase := .idle }))).runResident n j))

/-- QUEUE_MESSAGE_WRITE puts the message and its stamp into slot (stamp mod slots) of the queue's ring and changes no other byte. When the stamp is the number the queue expects and the slot can be read, the next poll takes exactly this message and expects the next number; a slot of zeros, which the model takes to hold no message (its choice, log 174), stays where it is. -/
def Obligations.QueueMessageIsPolled : Prop :=
  ∀ (s : State) (n : Fin 12) (q : Fin 16) (stamp : Nat) (msg : List Byte) (time r : Nat),
  let s1 := s.at time
  let slot := tierB (rgRick (s1.region n r)) + rgBoff (s1.region n r) + stamp % s1.queueSlots n r * 256
  let m := bytesAt msg 0 248 ++ leBytes 8 stamp
  s1.queueRegion n q = some r → 0 < s1.queueSlots n r →
  ∃ t, exec (.queueMessageWrite n q stamp msg time) s = .next t ∧
    (∀ a, a < slot ∨ slot + 256 ≤ a → t.mem.look a = s.mem.look a) ∧ t.mem.read slot 256 = m ∧
    (stamp < 2 ^ 64 → s1.consumed n q = stamp → t.uncorrectable slot 256 = false →
      t.poisonedRange n (2 ^ 60 + rgRick (s1.region n r) * 2 ^ 36 + rgBoff (s1.region n r) + stamp % s1.queueSlots n r * 256) 256 = false →
      t.poll n q 1 = if allZero m then (t, []) else (t.setConsumed n q (stamp + 1), [m]))

/-- A scrub, array check, calibration, aging monitor, digest re-check, KV release or channel migration unit runs only in a raking piece, a halt, a rake pause or a quiet partition; elsewhere it changes nothing. Where it may run and its pass has units left, the pass advances by one unit, and at the last it is complete at that instant. Telemetry of a sleeping rick needs no wake. A pass that is not complete at T_p + I is overdue, once. A due pass wakes a sleeping partition. A write-back clears a page's dirty bit before it copies the page to tier S. -/
def Obligations.BackgroundUnits : Prop :=
  ∀ (s : State) (n : Fin 12) (time : Nat),
  let s1 := s.at time
  let next (k : Nat) : Task := { s1.task n k with done := (s1.task n k).done + 1, fin := if s1.units n k ≤ (s1.task n k).done + 1 then some s1.now else none }
  (s1.mayRake n = false → ∀ c ∈ ([.scrubUnit n time, .arrayCheckUnit n time, .calibrationUnit n time, .agingMonitorUnit n time, .digestRecheck n time,
    .kvReleaseUnit n time, .channelMigrationUnit n time] : List Instr), exec c s = .next s1) ∧
  (∀ x ∈ ([(.arrayCheckUnit n time, 4), (.calibrationUnit n time, 5), (.agingMonitorUnit n time, 6), (.telemetryUnit n time, 7)] : List (Instr × Nat)),
    s1.mayRake n = true → s1.hasUnit n x.2 = true → ∃ t, exec x.1 s = .next t ∧ (t.part n).tasks.getD x.2 {} = next x.2) ∧
  (s1.mayRake n = true → s1.hasUnit n 1 = true → s1.hasUnit n 2 = false → s1.hasUnit n 3 = false → ∃ t, exec (.scrubUnit n time) s = .next t ∧
    (t.part n).tasks.getD 1 {} = next 1) ∧
  (s1.mayRake n = true → (∀ w < 8, (s1.wset n w).urgent = []) → s1.hasUnit n 8 = true → s1.hasUnit n 11 = false → ∃ t, exec (.digestRecheck n time) s = .next t ∧
    (t.part n).tasks.getD 8 {} = next 8) ∧
  (s1.mayRake n = true → exec (.kvReleaseUnit n time) s = .next (s1.releaseOne n)) ∧
  (∀ (task : Nat), task ∈ intervalTasks → s1.exists n = true → (s1.task n task).fin = none → (s1.task n task).late = false →
    (s1.task n task).tp + s1.interval n task ≤ s1.now → exec (.passOverdue n task time) s =
      .next (((s1.setTask n task { s1.task n task with late := true }).bump E.TASKS_OVERDUE).raise 0xE058 0 [if task = 11 then 8 else task, n])) ∧
  (1 ≤ s1.pstate n → s1.pstate n ≤ 3 → s1.passesDue n (s1.pstate n) ≠ [] → exec (.backgroundWakeDue n time) s = .next (s1.wakePart n 2)) ∧
  (s1.mayRake n = true → ∀ k m, (s1.ricksOf n).find? (fun k => ((s1.rick k).mig.map (fun m => m.st)) == some 1) = some k → (s1.rick k).mig = some m → m.done + 1 < 1678 →
    ∃ t, exec (.channelMigrationUnit n time) s = .next t ∧ (t.rick k).mig = some { m with done := m.done + 1, st := 1 }) ∧
  (∀ r off, (s1.part n).flush ≠ [] → s1.flushPage n = some (r, off) →
    let b := s1.region n r
    rgLive b = true → rgBacked b = true → s1.dirty.getD (pageB (rgRick b) (rgBoff b + off)) false = true →
    ∃ t, exec (.writeBackPage n time) s = .next t ∧ t.dirty.getD (pageB (rgRick b) (rgBoff b + off)) false = false)

/-- SPARE_MANIFEST_STORE puts the manifest being stored in force with its SVN, or on a failure keeps storing it. ROW_REPAIR adds the first row that is due to the manifest to be stored. A failed spare channel is marked, a failed channel without a free spare degrades its rick. A failed substrate channel reads as uncorrectable from then on. -/
def Obligations.SparesAndRepairs : Prop :=
  ∀ (s : State) (k : Fin 12) (time : Nat),
  let s1 := s.at time
  (∀ m t0, s1.spareNext = some (m, t0) → (∃ t, exec (.spareManifestStore true time) s = .next t ∧ t.spare = m ∧ t.spareNext = none ∧ t.num E.SPARE_SVN = m.svn ∧ t.mem = s.mem) ∧
    (∃ t, exec (.spareManifestStore false time) s = .next t ∧ t.spare = s.spare ∧ t.spareNext = some (m, s1.now) ∧ t.mem = s.mem)) ∧
  (∀ row, (s1.rick k).rowsDue.find? (fun row => !s1.draft.rows.contains row) = some row → ∃ t m, exec (.rowRepair k time) s = .next t ∧
    t.spareNext = some (m, s1.now) ∧ m.rows = s1.draft.rows ++ [row] ∧ m.remap = s1.draft.remap ∧ m.retired = s1.draft.retired ∧ t.mem = s.mem) ∧
  (∀ j < 8, s1.spare.chans.getD (8 * k + j) 0xFF = 0xFF → ∃ t m, exec (.channelFailure k (128 + j) time) s = .next t ∧ t.spareNext = some (m, s1.now) ∧
    m.chans.getD (8 * k + j) 0xFF = 0xFE ∧ t.mem = s.mem) ∧
  (∀ ch < 128, s1.freeChan k = none → exec (.channelFailure k ch time) s = .next ((s1.raise 0xE053 (scopeK k) [k, ch, 0xFF]).degrade k)) ∧
  (∀ ch < 4, (s1.rick k).schan.contains (4 * k + ch) = false → ∃ t, exec (.substrateChannelFailure k ch time) s = .next t ∧
    (t.rick k).schan = (s1.rick k).schan ++ [4 * k.val + ch] ∧ (∀ i, i < 2 ^ 37 → t.deadAt (tierS (4 * k + ch) + i) = true) ∧ t.mem = s.mem)

/-- A shard that nothing fetches changes nothing. A shard that a source delivers well is written to its place and is RESIDENT, a delivery that fails its checks moves on to the next source. A local source of a refetch is checked by its digest. A set still HELD after HOLD_LIMIT_NS fails its requests once. An eviction whose copies are complete frees the set's tier B spans and serves the commands that waited for it. -/
def Obligations.ShardEvents : Prop :=
  ∀ (s : State) (n : Fin 12) (w : Fin 8) (shard : Nat) (data : List Byte) (time : Nat),
  let s1 := s.at time
  let x := s1.wset n w
  let landed (src : Nat) : State := { s1 with flights := s1.flights.filter (fun f => !(f.2.use == Use.shard w shard src && f.2.part == n.val)) }
  (Tab.look x.trying shard = none → exec (.shardArrival n w shard data time) s = .next s1) ∧
  (∀ k plain, Tab.look x.trying shard = some k → x.shard shard ≠ 5 → x.backed = false → (landed k).openFrom n w shard k data = .inl plain →
    let p := (landed k).shardPlace n w shard
    exec (.shardArrival n w shard data time) s =
      .next (((((landed k).writeRegion n p.1 p.2.1 plain).shardResident n w shard).setReady n w).fetchSome n)) ∧
  (∀ k code, Tab.look x.trying shard = some k → x.shard shard ≠ 5 → (landed k).openFrom n w shard k data = .inr code →
    exec (.shardArrival n w shard data time) s = .next ((((landed k).sourceFails n w shard code).fetchFrom n w shard (x.sourcesFrom (k + 1))).fetchSome n)) ∧
  (let u := s1.refetches n
   let y := u.wset n w
   (y.shard shard ≠ 5 → ∀ ok, exec (.refetchComplete n w shard ok time) s = .next u) ∧
   (∀ k, y.shard shard = 5 → Tab.look y.trying shard = some k → k < 2 →
      exec (.refetchComplete n w shard true time) s = .next (if Config.sha384 (u.refetchLocal n w shard k) = meDigest (mfEntry y.man shard)
        then u.refetched n w shard (u.refetchLocal n w shard k) else u.refetchFails n w shard 4))) ∧
  (∀ h, x.heldSince = some h →
    (x.st = 4 → x.expired = false → h + s1.num (E.HOLD_LIMIT_NS n) ≤ s1.now → ∃ t, exec (.holdLimitExpiry n w time) s = .next t ∧ (t.wset n w).expired = true) ∧
    (s1.now < h + s1.num (E.HOLD_LIMIT_NS n) → exec (.holdLimitExpiry n w time) s = .next s1)) ∧
  (x.evicting = true → x.evictAt + s1.evictNs n w ≤ s1.now → exec (.evictionCopyComplete n w time) s =
    .next ((s1.finishEvict n w).waits.foldl State.retry (s1.finishEvict n w)) ∧ ((s1.finishEvict n w).wset n w).evicting = false) ∧
  (s1.now < x.evictAt + s1.evictNs n w → exec (.evictionCopyComplete n w time) s = .next s1)

/-! Dolli: sessions, requests and the entries -/

/-- Every row that is a message of a session: naming no live session it receives REJECT, whose body is the code SESSION (0x11) and 7 zero bytes; of a live session, with a tag that fails, or a SEQ that is not above the highest accepted one minus 1,024 or was already accepted, it is dropped, counted in DOLLI_DROPS, and nothing is sent. -/
def Obligations.MessagesDroppedOrRejected : Prop :=
  ∀ (c : Instr) (r : Rq) (s : State), messageOf c = some r →
  let s1 := s.at r.t
  ((∀ x, Tab.look s1.sessions r.ses = some x → x.live = false) →
    exec c s = .next { s1 with replies := s1.replies ++ [{ ses := r.ses, kind := 0x04, status := 0x11, data := [0x11, 0, 0, 0, 0, 0, 0, 0] }] }) ∧
  (∀ x, Tab.look s1.sessions r.ses = some x → x.live = true → (r.ok = false ∨ r.seq + 1024 ≤ x.top ∨ r.seq ∈ x.seen) →
    exec c s = .next (s1.bump E.DOLLI_DROPS) ∧ (s1.bump E.DOLLI_DROPS).replies = s.replies)

/-- A request of a live session, whatever its row: one whose REQ_ID is among the kept responses receives that response again and is not executed; one that already waits for an eviction copy changes nothing; beyond 64 unanswered ones it receives OVERLOAD; one the rights, the network, the access mode or the tinder hold forbid receives that code. A request that is turned away leaves only its response, which is sent and kept among the last 64. -/
def Obligations.RequestGate : Prop :=
  ∀ (c : Instr) (r : Rq) (op key : Nat) (s : State) (x : Session),
  requestOf c = some (r, op, key) → ((s.at r.t).accept r.ses r.seq r.ok).2 = some x →
  let s1 := s.arrived r
  let again := x.kept.find? (fun k => k.1 == r.id)
  let waits := s1.waits.any (fun w => w.ses == r.ses && w.id == r.id)
  (∀ k, again = some k → exec c s = .next { s1 with replies := s1.replies ++ [k.2] }) ∧
  (again = none → waits = true → exec c s = .next s1) ∧
  (again = none → waits = false → 64 ≤ s1.unanswered r.ses → exec c s = .next (s1.turnedAway r op key 0x0E)) ∧
  (again = none → waits = false → s1.unanswered r.ses < 64 → (op ≠ opStore ∨ key ≠ 0xFFFFFF) → s1.permit x op key ≠ 0 →
    exec c s = .next (s1.turnedAway r op key (s1.permit x op key))) ∧
  ∀ code, let m : Reply := { ses := r.ses, kind := 0x11, op := op, status := code, ty := tyOf key, key := key, id := r.id }
    s1.turnedAway r op key code = { s1 with replies := s1.replies ++ [m], sessions := s1.sessions.put r.ses { x with kept := pushCap 64 x.kept (r.id, m) } }

/-- The CMD rows of a partition (LOAD, UNLOAD, NAN_CLEAR, PERF_CLEAR, FLUSH_ALL, WSET_REGISTER, WSET_RELEASE, TURN_DISARM, WAKE, TRACE_TRIGGER, BP_HALT, BP_RESUME, SNAPSHOT, ATTEST): an admitted one is executed and answers OK, or is turned away with its code and changes nothing else; an argument of another length is TYPE. LOAD of a slot up to 7 is executed; a rejected image leaves its code in LOAD_RESULT and no job slot or region changed, an accepted one that is no co-cord stands in its slot. A slot in use, a set in use, a partition not halted are refused. WAKE of a partition in state A starts nothing. -/
def Obligations.PartitionCommands : Prop :=
  ∀ (s : State) (r : Rq) (n : Fin 12) (v : List Byte) (x : Session),
  let s1 := s.arrived r
  let sized (k : Nat) (y : State × Nat) : State × Nat := if v.length = k then y else (s1, typeErr)
  (∀ y ∈ ([(.load r n, E.LOAD n, s1.loadCmd n), (.unload r n, E.UNLOAD n, s1.unloadCmd n),
      (.nanClear r n, E.NAN_CLEAR n, (s1.onPart n (fun p => { p with nanClear := true }), 0)),
      (.perfClear r n, E.PERF_CLEAR n, (s1.onPart n (fun p => { p with perfClear := true }), 0)), (.flushAll r n, E.FLUSH_ALL n, (s1.flushAll n, 0)),
      (.wsetRegister r n, E.WSET_REGISTER n, s1.wsetRegister n), (.wsetRelease r n, E.WSET_RELEASE n, s1.wsetRelease n),
      (.turnDisarm r n, E.TURN_DISARM n, (s1.turnFail n 3, 0)), (.wake r n, E.WAKE n, (s1.wakePart n 1, 0)),
      (.traceTrigger r n, E.TRACE_TRIGGER n, (s1.trigger n 4 0 0, 0)), (.bpHalt r n, E.BP_HALT n, s1.bpHaltCmd x n),
      (.bpResume r n v, E.BP_RESUME n, sized 4 (s1.bpResume n v)), (.snapshot r n v, E.SNAPSHOT n, sized 1 (s1.snapshot x n v)),
      (.attest r n v, E.ATTEST n, sized 32 (s1.setBlob (E.PART_REPORT n) (s1.report (some n.val) v), 0))] : List (Instr × Nat × State × Nat)),
    Admitted s r opCmd y.2.1 x → exec y.1 s = .next (s1.outcome r opCmd y.2.1 y.2.2)) ∧
  (s1.num (E.LOAD_SLOT n) ≤ 7 → s1.kindled = false →
    let j := s1.num (E.LOAD_SLOT n)
    let i := s1.blob (E.CORD_IMAGE n)
    (s1.loadCmd n).2 = 0 ∧
    (s1.loadCode n j i ≠ 0 → (s1.loadCmd n).1.jobs = s1.jobs ∧ (s1.loadCmd n).1.regions = s1.regions ∧ (s1.loadCmd n).1.num (E.LOAD_RESULT n) = s1.loadCode n j i) ∧
    (s1.loadCode n j i = 0 → cdKind i ≠ 3 → ((s1.loadCmd n).1.job n j).img = i)) ∧
  (∀ w, s1.namedSet n = some w → ((s1.wset n w).st ≠ 0 → s1.wsetRegister n = (s1, 0x07)) ∧
    ((s1.wsetBound n w = true ∨ (s1.wset n w).pinned = true ∨ s1.turnTargets n w = true) → s1.wsetRelease n = (s1, 0x07))) ∧
  (s1.haltedNow n = false → s1.bpResume n v = (s1, 0x0B) ∧ s1.snapshot x n v = (s1, 0x0B)) ∧
  (s1.pstate n = 0 → s1.wakePart n 1 = s1)

/-- The CMD rows of the module and its units (OBJ_INSTALL, FW_SVN_COMMIT, MODULE_ATTEST, ASH_OUT, FM_START, RESET_MODULE, RESET_PARTITION, RESET_RICK, RESET_HEARTH, KINDLING_END, PORT_RETRAIN): an admitted one is executed and answers OK, or is turned away with its code and changes nothing else. An object that fails a check of Table 17-3 changes only OBJ_RESULT. An accepted ASH_OUT has stored the next binding, and the partition is in its first attempt. A rick in a partition, a bound hearth, a counter that judges a source are busy. RESET_MODULE leaves no session. -/
def Obligations.ModuleCommands : Prop :=
  ∀ (s : State) (r : Rq) (k : Fin 12) (p : Fin 16) (v : List Byte) (ok : Bool) (x : Session),
  let s1 := s.arrived r
  let sized (k : Nat) (y : State × Nat) : State × Nat := if v.length = k then y else (s1, typeErr)
  (∀ y ∈ ([(.objInstall r, E.OBJ_INSTALL, s1.objInstall), (.fwSvnCommit r, E.FW_SVN_COMMIT, (s1.svnCommit, 0)),
      (.moduleAttest r v, E.MODULE_ATTEST, sized 32 (s1.setBlob E.MODULE_REPORT (s1.report none v), 0)), (.ashOut r v ok, E.ASH_OUT, sized 2 (s1.ashOut v ok)),
      (.fmStart r k, E.FM_START k, s1.fmStart k), (.resetModule r, E.RESET_MODULE, (s1.moduleReset 3, 0)),
      (.resetPartition r v, E.RESET_PARTITION, sized 1 (s1.resetPart x v)), (.resetRick r v, E.RESET_RICK, sized 1 (s1.resetRickCmd v)),
      (.resetHearth r v, E.RESET_HEARTH, sized 2 (s1.resetHearthCmd v)), (.kindlingEnd r v, E.KINDLING_END, sized 1 (s1.kindlingEnd v)),
      (.portRetrain r p, E.PORT_RETRAIN p, (s1.portRetrain p, 0))] : List (Instr × Nat × State × Nat)),
    Admitted s r opCmd y.2.1 x → exec y.1 s = .next (s1.outcome r opCmd y.2.1 y.2.2)) ∧
  (s1.num E.BOOT_STATE ≠ 4 → ∀ c, s1.objCode (s1.blob E.OBJ_IMAGE) = c → c ≠ 0 → s1.objInstall = (s1.setNum E.OBJ_RESULT c, 0)) ∧
  ((s1.ashOut v ok).2 = 0 → let t := (s1.ashOut v ok).1
    t.stored = s1.stored.put (E.PART_TENANT (fld v 0 1)) (.num (fld v 1 1)) ∧
    (t.part (fld v 0 1)).ash = some { t0 := s1.now, attempt := 1, event := 1, next := fld v 1 1 } ∧ (t.part (fld v 0 1)).phase = .idle) ∧
  (leNat v < 12 → (s1.partOf (leNat v)).isSome = true → s1.resetRickCmd v = (s1, 0x07)) ∧
  (fld v 1 1 < 12 → fld v 0 1 < 18 → (s1.logical (18 * fld v 1 1 + fld v 0 1)).isSome = true → s1.resetHearthCmd v = (s1, 0x07)) ∧
  (s1.num E.CLK_JUDGE = 1 → (s1.rick k).starting.isSome = true → s1.fmStart k = (s1, 0x07)) ∧
  (s1.moduleReset 3).sessions = []

/-- The WRITE rows of tiers, KV cache, request table, audit, evidence, statistics, learning and epochs: an admitted write whose value fits the entry's type and range is executed and answers OK, or is turned away with its code and changes nothing else; a value that does not fit is turned away with the code of its type or range. While a cord of the partition is loaded, TCT_PAIRS, TCT_REGIONS, AUDIT_REGION, EVID_REGION, LSTATS_REGION, KV_MODELS, KV_POOL_PAGES (of a ready partition) and REGION_DELETE are busy; without one, the five entries take a value in order as their value. JOB_DRAIN marks the job, HANDLE_RELEASE of no live handle is invalid, EPOCH_SWITCH under kindling is busy. -/
def Obligations.WorkWrites : Prop :=
  ∀ (s : State) (r : Rq) (n : Fin 12) (v : List Byte) (x : Session),
  let s1 := s.arrived r
  let idle : List (Instr × Nat × Bool) :=
    [(.tctPairs r n v, E.TCT_PAIRS n, leNat v % 8 == 0 && s1.tctOk n (leNat v) (s1.blob (E.TCT_REGIONS n))),
     (.tctRegions r n v, E.TCT_REGIONS n, s1.tctOk n (s1.num (E.TCT_PAIRS n)) v), (.auditRegion r n v, E.AUDIT_REGION n, s1.bodyRegion n v),
     (.evidRegion r n v, E.EVID_REGION n, s1.evidOk n (leNat v) (s1.num (E.EVID_GROUPS n))), (.lstatsRegion r n v, E.LSTATS_REGION n, s1.bodyRegion n v)]
  let rows : List (Instr × Nat × State × Nat) :=
    [(.regionDelete r n v, E.REGION_DELETE n, s1.regionDelete n v), (.queueMap r n v, E.QUEUE_MAP n, s1.queueMapWrite n v),
     (.kvModels r n v, E.KV_MODELS n, s1.kvModelsWrite n v), (.kvPoolPages r n v, E.KV_POOL_PAGES n, s1.kvPoolWrite n v),
     (.handleRelease r n v, E.HANDLE_RELEASE n, s1.handleRelease n v),
     (.jobDrain r n v, E.JOB_DRAIN n, (s1.onJob n (leNat v % 8) (fun j => { j with drainReq := true }), 0)),
     (.lrResume r n v, E.LR_RESUME n, s1.lrResume n v), (.epochSwitch r n v, E.EPOCH_SWITCH n, s1.epochSwitch n v)]
  (∀ y ∈ idle, Admitted s r opWrite y.2.1 x → checkOf y.2.1 v false = 0 → exec y.1 s = .next (s1.outcome r opWrite y.2.1
    (if s1.anyLoaded n then (s1, 0x07) else if y.2.2 then (s1.plainWrite y.2.1 v, 0) else (s1, 0x06)))) ∧
  (∀ y ∈ rows, Admitted s r opWrite y.2.1 x → checkOf y.2.1 v false = 0 → exec y.1 s = .next (s1.outcome r opWrite y.2.1 y.2.2)) ∧
  (∀ y ∈ idle.map (fun y => (y.1, y.2.1)) ++ rows.map (fun y => (y.1, y.2.1)), Admitted s r opWrite y.2 x → checkOf y.2 v false ≠ 0 →
    exec y.1 s = .next (s1.turnedAway r opWrite y.2 (checkOf y.2 v false))) ∧
  (s1.anyLoaded n = true → s1.regionDelete n v = (s1, 0x07) ∧ s1.kvModelsWrite n v = (s1, 0x07) ∧ (s1.partReady n = true → s1.kvPoolWrite n v = (s1, 0x07))) ∧
  (s1.handle n (bits (leNat v) 59 48) = none → s1.handleRelease n v = (s1, 0x06)) ∧
  (s1.kindled = true → s1.kindPart = n.val → s1.epochSwitch n v = (s1, 0x07)) ∧
  ((s1.queueMapWrite n v).2 = 0 → (s1.queueMapWrite n v).1.blob (E.QUEUE_MAP n) = v)

/-- The WRITE rows of credentials, tenant slots, set keys, consent, masks, bindings, clock, budget and kindling: an admitted write whose value fits is executed and answers OK, or is turned away with its code and changes nothing else. No second credential takes the number of one that exists, the owner credential cannot be removed, the last ROLE 2 credential of a slot stays. A tenant slot bound to a partition is busy, so is the tenant of a bound partition. Consent bits above [4:0] are invalid; while a step runs CONSENT alone changes. A mask of more than 12 bits, a clock outside 500 to 1,100 MHz or not a multiple of 25 are invalid. -/
def Obligations.TenancyWrites : Prop :=
  ∀ (s : State) (r : Rq) (n ts : Fin 12) (v : List Byte) (x : Session),
  let s1 := s.arrived r
  (∀ y ∈ ([(.opCredAdd r v, E.OP_CRED_ADD, s1.opCredAdd v), (.opCredRemove r v, E.OP_CRED_REMOVE, s1.opCredRemove v),
      (.credAdd r ts v, E.CRED_ADD ts, s1.credAdd x ts v), (.credRemove r ts v, E.CRED_REMOVE ts, s1.credRemove ts v),
      (.tenantId r ts v, E.TENANT_ID ts, s1.tenantIdWrite ts v), (.setkeyInstall r ts v, E.SETKEY_INSTALL ts, s1.setkeyInstall ts v),
      (.setkeyRemove r ts v, E.SETKEY_REMOVE ts, s1.setkeyRemove ts v), (.consent r n v, E.CONSENT n, s1.consentWrite n v),
      (.rickMask r n v, E.RICK_MASK n, s1.rickMaskWrite n v), (.partTenant r n v, E.PART_TENANT n, s1.partTenantWrite n v),
      (.partClockMhz r n v, E.PART_CLOCK_MHZ n, s1.partClock n v), (.partBudgetW r n v, E.PART_BUDGET_W n, s1.partBudget n v),
      (.kindlingPart r v, E.KINDLING_PART, s1.kindlingPart v)] : List (Instr × Nat × State × Nat)),
    Admitted s r opWrite y.2.1 x →
    exec y.1 s = .next (s1.outcome r opWrite y.2.1 (if checkOf y.2.1 v false = 0 then y.2.2 else (s1, checkOf y.2.1 v false)))) ∧
  ((∃ c ∈ s1.opCreds, crId c = crId v) → s1.opCredAdd v = (s1, 0x06)) ∧
  (leNat v = 0 → s1.opCredRemove v = (s1, 0x06)) ∧
  ((∀ c ∈ s1.slotCreds ts, crId c ≠ leNat v → crRole c ≠ 2) → s1.credRemove ts v = (s1, 0x06)) ∧
  ((∃ m < 12, s1.num (E.PART_TENANT m) = ts.val) → v.length = 16 → s1.tenantIdWrite ts v = (s1, 0x07)) ∧
  (s1.num (E.PART_TENANT n) ≠ 0xFF → s1.partTenantWrite n v = (s1, 0x07)) ∧
  (32 ≤ leNat v → s1.consentWrite n v = (s1, 0x06)) ∧
  (leNat v < 32 → (s1.part n).phase = .running → s1.haltedNow n = false → s1.consentWrite n v = (s1.setNum (E.CONSENT n) (leNat v), 0)) ∧
  (4096 ≤ leNat v → s1.rickMaskWrite n v = (s1, 0x06)) ∧
  ((leNat v < 500 ∨ 1100 < leNat v ∨ leNat v % 25 ≠ 0) → s1.partClock n v = (s1, 0x06))

/-- The WRITE rows of port shares, ports, connections, groups, rings, buffers, armed operations, traces and breakpoints: an admitted write whose value fits is executed and answers OK, or is turned away with its code and changes nothing else. Position 0 of a fabric port stays unassigned, the first ten units of an Ethernet port stay the collier's. A registration takes the next RKEY into BUFFER_RESULT; a deregistration closes the buffer, once. A ring descriptor waits for action 2. A group whose command runs, a trace that records are busy. A disabled port is DISABLED. -/
def Obligations.PortAndToolWrites : Prop :=
  ∀ (s : State) (r : Rq) (n : Fin 12) (p : Fin 16) (e : Fin 8) (v : List Byte) (x : Session),
  let s1 := s.arrived r
  (∀ y ∈ ([(.bufferReg r n v, E.BUFFER_REG n, s1.bufferReg n v), (.bufferDereg r n v, E.BUFFER_DEREG n, s1.bufferDereg n v),
      (.trigOps r n v, E.TRIG_OPS n, (s1.armOps n v, 0)), (.txOwners r p v, E.TX_OWNERS p, s1.txOwnersWrite p v),
      (.ethOwners r e v, E.ETH_OWNERS e, s1.ethOwnersWrite e v), (.connRec r n v, E.CONN_REC n, s1.connWrite n v),
      (.groupRec r n v, E.GROUP_REC n, s1.groupWrite n v), (.ringDesc r n v, E.RING_DESC n, s1.ringWrite64 n v),
      (.portEnable r p v, E.PORT_ENABLE p, s1.portEnable p v), (.traceBytes r n v, E.TRACE_BYTES n, s1.traceBytes n v),
      (.traceEnable r n v, E.TRACE_ENABLE n, s1.traceEnable x n v), (.bpRec r n v, E.BP_REC n, s1.bpWrite x n v)] : List (Instr × Nat × State × Nat)),
    Admitted s r opWrite y.2.1 x →
    exec y.1 s = .next (s1.outcome r opWrite y.2.1 (if checkOf y.2.1 v false = 0 then y.2.2 else (s1, checkOf y.2.1 v false)))) ∧
  (fld v 0 1 ≠ 0xFF → s1.txOwnersWrite p v = (s1, 0x06)) ∧
  ((∃ b ∈ v.take 10, b ≠ 0xFE) → s1.ethOwnersWrite e v = (s1, 0x06)) ∧
  ((s1.bufferReg n v).2 = 0 → let t := (s1.bufferReg n v).1
    let k := ((s1.part n).rkeys + 1) % 2 ^ 32
    t.num (E.BUFFER_RESULT n) = k ∧ t.buffer n k = some { region := fld v 0 2, mode := fld v 2 1, owner := fld v 3 1, off := fld v 8 8, len := fld v 0x10 8 }) ∧
  (∀ b, s1.buffer n (leNat v) = some b → (b.closed = true → s1.bufferDereg n v = (s1, 0x06)) ∧
    (b.closed = false → (s1.bufferDereg n v).2 = 0 ∧ (s1.bufferDereg n v).1.buffer n (leNat v) = some { b with closed := true })) ∧
  ((s1.ringWrite64 n v).2 = 0 → let ri := s1.num (E.RING_INDEX n)
    ((s1.ringWrite64 n v).1.ring n ri) = { s1.ring n ri with next := some v }) ∧
  ((s1.group n (s1.num (E.GROUP_INDEX n))).cmd.isSome = true → s1.groupWrite n v = (s1, 0x07)) ∧
  (s1.num (E.TRACE_ENABLE n) = 1 → s1.traceBytes n v = (s1, 0x07)) ∧
  (leNat v = 0 → s1.portState p = 0 → (s1.portEnable p v).1.num (E.PORT_STATE p) = 3)

/-- REGION_CREATE, WSET_FETCH, TURN_ARM, REGISTER_WRITE and a completed WRITE_BLOCK: with a code the request answers as any other; with none it waits: its request is put behind those that wait, and no response is sent. REGION_CREATE on a rick that is not ready is STATE, a record that is not in order is INVALID. WSET_FETCH of an empty slot is INVALID, of one that an armed turn targets busy. TURN_ARM with a plan that fails a check is executed, leaves the code of the first one in TURN_RESULT and nothing else. REGISTER_WRITE of an entry without a rule of its own replaces the value. -/
def Obligations.CommandsThatWait : Prop :=
  ∀ (s : State) (r : Rq) (n : Fin 12) (v : List Byte) (idx sub : Nat) (x : Session),
  let s1 := s.arrived r
  let key := idx * 256 + sub
  let lift (y : State × Nat) : State × Option Nat := (y.1, some y.2)
  (∀ y ∈ ([(.regionCreate r n v, opWrite, E.REGION_CREATE n, .region r opWrite n v,
        if checkOf (E.REGION_CREATE n) v false = 0 then s1.regionCreate n v else lift (s1, checkOf (E.REGION_CREATE n) v false)),
      (.wsetFetch r n, opCmd, E.WSET_FETCH n, .fetch r n, s1.wsetFetch n), (.turnArm r n, opCmd, E.TURN_ARM n, .arm r n, s1.turnArm n),
      (.registerWrite r idx sub v, opWrite, key, .region r opWrite (key / 256 % 16) v,
        if checkOf key v false = 0 then s1.putEntry x key v else lift (s1, checkOf key v false))] : List (Instr × Nat × Nat × Waiting × State × Option Nat)),
    Admitted s r y.2.1 y.2.2.1 x →
    (∀ c, y.2.2.2.2.2 = some c → exec y.1 s = .next (s1.outcome r y.2.1 y.2.2.1 (y.2.2.2.2.1, c))) ∧
    (y.2.2.2.2.2 = none → exec y.1 s = .next { y.2.2.2.2.1 with waits := s1.waits ++ [y.2.2.2.1] })) ∧
  (v.length = 32 → rgRick v ≠ 0xFF → (s1.ricksOf n).contains (rgRick v) = true → (s1.num E.RICK_READY).testBit (rgRick v) = false →
    s1.regionCreate n v = (s1, some 0x0B)) ∧
  (∀ w, s1.namedSet n = some w → s1.partReady n = true → ((s1.wset n w).st = 0 → s1.wsetFetch n = (s1, some 0x06)) ∧
    ((s1.wset n w).st = 1 → s1.turnTargets n w = true → s1.wsetFetch n = (s1, some 0x07))) ∧
  (s1.kindled = false → ∀ c, s1.planCode n (s1.blob (E.TURN_PLAN n)) = c → c ≠ 0 → s1.turnArm n = (s1.setNum (E.TURN_RESULT n) c, some 0)) ∧
  (∀ k ∈ [E.LOAD_SLOT n, E.WSET_SLOT n, E.REQ_INDEX n], s1.putEntry x k v = (s1.setNum k (leNat v), some 0))

/-! Reads, blocks and sessions -/

/-- DOLLI_READ answers the value, TOO_LARGE with its length beyond 8,192 bytes, or the code of what it needs; reading changes nothing but what free values it draws. READ_BLOCK answers the bytes at OFFSET, of the frozen copy where there is one, and SNAPSHOT at OFFSET 0 freezes the value. WRITE_BLOCK stages its bytes; beyond 8,192 it stages nothing; completed, the value is written as by WRITE. SUBSCRIBE with CANCEL removes the subscription, without it adds one, to 256 of the session. STORE of an entry of class S copies its value in force to module flash; of another class it is INVALID, on a failed write FLASH; of 0xFFFF/FF it stores every such entry. -/
def Obligations.ReadsBlocksAndStores : Prop :=
  ∀ (s : State) (r : Rq) (idx sub off len : Nat) (snap first last cancel ok : Bool) (v : List Byte) (x : Session),
  let s1 := s.arrived r
  let key := idx * 256 + sub
  let y := s1.readBytes x key
  let say (op : Nat) (t : State) (a : Ans) : Host.Outcome State Fault Refusal := .next (t.respond r op key (tyOf key) a)
  (∃ k, y.2 = { s1 with free := k }) ∧
  (Admitted s r opRead key x → (∀ c, y.1 = .inl c → exec (.dolliRead r idx sub) s = say opRead y.2 { status := c }) ∧
    (∀ b, y.1 = .inr b → exec (.dolliRead r idx sub) s = say opRead y.2 (if 8192 < b.length then { status := 0x0A, total := b.length } else { total := b.length, data := b }))) ∧
  (Admitted s r opReadBlock key x →
    (8192 < len → exec (.readBlock r idx sub off len snap) s = say opReadBlock s1 { status := 0x0A }) ∧
    (∀ u b, len ≤ 8192 → s1.readNeeds x key = 0 → Tab.look x.snaps key = some (u, b) → (snap = false ∨ off ≠ 0) →
      exec (.readBlock r idx sub off len snap) s = say opReadBlock s1 { off := off, total := b.length, data := (b.drop off).take len }) ∧
    (∀ b, len ≤ 8192 → y.1 = .inr b → Tab.look x.snaps key = none → snap = false →
      exec (.readBlock r idx sub off len snap) s = say opReadBlock y.2 { off := off, total := b.length, data := (b.drop off).take len }) ∧
    (∀ b, len ≤ 8192 → y.1 = .inr b → exec (.readBlock r idx sub 0 len true) s =
      say opReadBlock (y.2.onSession r.ses (fun z => { z with snaps := z.snaps.put key (s1.now, b) })) { total := b.length, data := b.take len })) ∧
  (Admitted s r opWriteBlock key x → let z := s1.stageBlock r.ses x key off first last v
    (∀ c, z.2 = .inl c → exec (.writeBlock r idx sub off first last v) s = say opWriteBlock z.1 { status := c }) ∧
    (z.2 = .inr none → exec (.writeBlock r idx sub off first last v) s = say opWriteBlock z.1 {}) ∧
    (∀ w, z.2 = .inr (some w) → let q := if checkOf key w true = 0 then z.1.putEntry x key w else (z.1, some (checkOf key w true))
      (∀ c, q.2 = some c → exec (.writeBlock r idx sub off first last v) s = .next (z.1.outcome r opWriteBlock key (q.1, c))) ∧
      (q.2 = none → exec (.writeBlock r idx sub off first last v) s = .next { q.1 with waits := z.1.waits ++ [.region r opWriteBlock (key / 256 % 16) w] }))) ∧
  (8192 < v.length → s1.stageBlock r.ses x key off first last v = (s1, .inl 0x0A)) ∧
  (v ≠ [] → v.length ≤ 8192 → x.stage = [] → s1.stagedAll + v.length ≤ 2 ^ 32 → (s1.stageBlock r.ses x key 0 true true v).2 = .inr (some v)) ∧
  (Admitted s r opSubscribe key x →
    (cancel = true → exec (.subscribe r idx sub cancel) s = say opSubscribe (s1.onSession r.ses (fun z => { z with subs := z.subs.filter (fun b => b.key != key) })) {}) ∧
    (cancel = false → s1.readNeeds x key ≠ 0x0C → (x.subs.filter (fun b => b.key != key)).length < 256 → ∃ u val, exec (.subscribe r idx sub cancel) s =
      say opSubscribe (({ s1 with free := u } : State).onSession r.ses (fun z => { z with subs := (z.subs.filter (fun b => b.key != key)) ++ [{ key := key, id := r.id, last := val }] })) {})) ∧
  (Admitted s r opStore key x → key ≠ 0xFFFFFF →
    (clsOf key ≠ .S → exec (.store r idx sub ok) s = .next (s1.turnedAway r opStore key 0x06)) ∧
    (clsOf key = .S → ok = false → exec (.store r idx sub ok) s = .next (s1.turnedAway r opStore key 0x0D)) ∧
    (clsOf key = .S → ok = true → exec (.store r idx sub ok) s = say opStore (s1.storeOne key) {} ∧ Tab.look (s1.storeOne key).stored key = Tab.look s1.dict key)) ∧
  (((s.at r.t).accept r.ses r.seq r.ok).2 = some x → x.kept.find? (fun k => k.1 == r.id) = none → s1.waits.any (fun w => w.ses == r.ses && w.id == r.id) = false →
    s1.unanswered r.ses < 64 → key = 0xFFFFFF → x.role = 1 → x.net ≠ 0 → s1.num E.BOOT_STATE ≠ 4 → ok = true → exec (.store r idx sub ok) s = say opStore s1.storeAll {})

/-- HELLO: answered with ACCEPT and a session of a new, unused number; beyond 256 sessions OVERLOAD; an operator on network A is refused (AUTH, event 0xE105); nothing on a port that is not UP. FINISH within 1 s with SEQ 1, valid signatures and a registered credential makes the session live; with CRED_ID 0 it takes ownership while no owner is set; late or with a bad signature it ends it. FINISH_TIMEOUT, CLOSE, idleness end a session and what waits for it. Staging expires 10 s after an incomplete LAST. A status probe is answered, 1,000 times a second. NOTIFY is sent no sooner than NOTIFY_MIN_NS after the last, acknowledged by its REQ_ID, sent again after 100 ms, given up after 10 resends. -/
def Obligations.SessionLife : Prop :=
  ∀ (s : State) (m : HelloMsg) (r : Rq) (ses seq idx sub endpoint t : Nat) (sigs : Bool) (e : Fin 8) (x : Session),
  let s1 := s.at t
  let key := idx * 256 + sub
  let up : Prop := s1.num (E.ETH_STATE m.eport) = 2 ∧ s1.num E.BOOT_STATE ∈ [2, 3]
  (s1.num (E.ETH_STATE m.eport) ≠ 2 → exec (.hello m t) s = .next s1) ∧
  (up → 256 ≤ s1.sessions.length → exec (.hello m t) s = .next (s1.reject 0 0x0E)) ∧
  (up → s1.sessions.length < 256 → m.role = 1 → m.eport.val < 4 → exec (.hello m t) s = .next (s1.refuseSession 0)) ∧
  (up → s1.sessions.length < 256 → m.role ∈ [2, 3] → (s1.sessions.filter (fun y => y.2.tenant == m.tenant)).length < 32 → ∃ u id, exec (.hello m t) s = .next u ∧
    id ≠ 0 ∧ Tab.look s1.sessions id = none ∧ Tab.look u.sessions id = some { role := m.role, net := if m.eport.val < 4 then 0 else 1, tenant := m.tenant, cred := m.cred, since := s1.now, last := s1.now } ∧
    ∃ a, u.replies = s1.replies ++ [{ ses := id, kind := 0x02, data := a }]) ∧
  (Tab.look s1.sessions ses = some x → x.live = false → seq = 1 → s1.now ≤ x.since + 1000000000 → sigs = true →
    let live : Session := { x with live := true, top := 1, seen := [1], last := s1.now }
    (s1.credOk x = true → exec (.finish ses seq sigs t) s = .next { s1 with sessions := s1.sessions.put ses live, replies := s1.replies ++ [{ ses := ses, kind := 0x11 }] }) ∧
    (s1.credOk x = false → x.role = 1 → x.cred = 0 → x.net = 1 → s1.owned = false → ∃ u, exec (.finish ses seq sigs t) s = .next u ∧ u.owned = true ∧ Tab.look u.sessions ses = some live)) ∧
  (Tab.look s1.sessions ses = some x → x.live = false → seq = 1 → (x.since + 1000000000 < s1.now ∨ sigs = false) →
    exec (.finish ses seq sigs t) s = .next (({ s1 with sessions := s1.sessions.del ses } : State).refuseSession ses)) ∧
  (Tab.look s1.sessions ses = some x →
    (x.live = false → x.since + 1000000000 ≤ s1.now → exec (.finishTimeout ses t) s = .next { s1 with sessions := s1.sessions.del ses }) ∧
    ((x.live = true ∨ s1.now < x.since + 1000000000) → exec (.finishTimeout ses t) s = .next s1) ∧
    (x.live = true → x.last + s1.num E.SESSION_IDLE_NS ≤ s1.now → exec (.sessionIdleTimeout ses t) s = .next
      { s1 with replies := s1.replies ++ [{ ses := ses, kind := 0x1F }], sessions := s1.sessions.del ses, waits := s1.waits.filter (fun w => w.ses != ses) }) ∧
    (s1.now < x.last + s1.num E.SESSION_IDLE_NS → exec (.sessionIdleTimeout ses t) s = .next s1) ∧
    (∀ l tot u, Tab.look x.stage key = some (l, some tot, u) → ∃ v z, exec (.stagingExpiry ses idx sub t) s = .next v ∧ Tab.look v.sessions ses = some z ∧ z.subs = x.subs ∧
      (u + 10000000000 ≤ s1.now → Tab.look z.stage key = none) ∧ (s1.now < u + 10000000000 → z.stage = x.stage))) ∧
  (((s.at r.t).accept r.ses r.seq r.ok).2 = some x → let u := s.arrived r
    exec (.dolliClose r) s = .next { u with sessions := u.sessions.del r.ses, waits := u.waits.filter (fun w => w.ses != r.ses) } ∧
    exec (.notifyAck r) s = .next (u.onSession r.ses (fun y => { y with subs := y.subs.map (fun c => if c.id = r.id then { c with acked := true } else c) }))) ∧
  (let p := (s1.eport e).probes
   let c := if s1.now < p.1 + 1000000000 then p.2 else 0
   s1.num (E.ETH_STATE e) = 2 → endpoint = 0xFE ∨ s1.hasEndpoint endpoint e = true →
   (1000 ≤ c → exec (.statusProbe e endpoint t) s = .next (s1.bump E.DOLLI_DROPS)) ∧
   let st := if endpoint = 0xFE then s1.collierStatus else s1.partStatus endpoint
   (c < 1000 → ∃ u, exec (.statusProbe e endpoint t) s = .next u ∧
     u.replies = s1.replies ++ [{ ses := 0, kind := 0x21, data := leBytes 8 (s1.num E.IDENT_REV) ++ leBytes 1 endpoint ++ leBytes 1 st ++ zeros 6 }])) ∧
  (∀ b, Tab.look s1.sessions ses = some x → x.subs.find? (fun b => b.key == key) = some b →
    (∀ u, b.sentAt = some u → s1.now < u + s1.num E.NOTIFY_MIN_NS → exec (.notifySend ses idx sub t) s = .next s1) ∧
    (x.live = true → b.dirty = true → b.sentAt = none → ∃ u n, exec (.notifySend ses idx sub t) s = .next u ∧ u.replies = s1.replies ++ [n] ∧
      n.ses = ses ∧ n.kind = 0x12 ∧ n.key = key ∧ n.id = b.id ∧ n.off = b.changes % 2 ^ 32) ∧
    (∀ u, b.sentAt = some u → (b.acked = true ∨ s1.now < u + 100000000) → exec (.notifyResend ses idx sub t) s = .next s1) ∧
    (∀ u, b.sentAt = some u → b.acked = false → u + 100000000 ≤ s1.now →
      (10 ≤ b.resends → exec (.notifyResend ses idx sub t) s = .next { s1 with sessions := s1.sessions.put ses { x with subs := x.subs.filter (fun c => c.key != key) } }) ∧
      (b.resends < 10 → ∃ v, exec (.notifyResend ses idx sub t) s = .next v ∧
        Tab.look v.sessions ses = some { x with subs := x.subs.map (fun c => if c.key = key then { c with sentAt := some s1.now, resends := c.resends + 1 } else c) })))

/-! Ports and messages -/

/-- A frame on a port that is not UP is lost; one with a bad check sequence is counted; a good one is counted, and for a sleeping partition its RoCE frame waits in the port's buffer, or is dropped beyond 8 MiB. Neighbour discovery and echo are answered for an endpoint's address. A run is lent only where it is unassigned or a SHARED partition has no frame, to a SHARED partition with one. Links come up and go down with their events; a module above 15 W leaves its port DOWN. A transfer of a connection that is READY reaches its partition, or is held while it sleeps: in sequence its packet number is taken, before it acknowledged again, after it refused. Acknowledged transfers leave the connection; it is retried RETRY times, then in ERROR. -/
def Obligations.EthernetAndConnections : Prop :=
  ∀ (s : State) (e : Fin 8) (n : Fin 12) (frame target pay data : List Byte) (fcs nak : Bool) (unit ready watts c psn rc ad t : Nat) (m : RoceMsg),
  let s1 := s.at t
  let s2 := (s1.ethCount e 1 1).ethCount e 3 frame.length
  let kind := frameKind frame
  (s1.num (E.ETH_STATE e) ≠ 2 → ∀ row ∈ ([.ethernetFrameReceive e frame fcs t, .neighbourDiscovery e target t, .echoRequest e target pay t, .runStart e unit ready t,
    .ethLinkDown e t] : List Instr), exec row s = .next s1) ∧
  (s1.num (E.ETH_STATE e) = 2 →
    (fcs = false → exec (.ethernetFrameReceive e frame fcs t) s = .next (s1.ethCount e 4 1)) ∧
    (fcs = true → (9022 < frame.length ∨ frame.length < 18 ∨ frameFlow frame = true) → exec (.ethernetFrameReceive e frame fcs t) s = .next s2) ∧
    (fcs = true → 18 ≤ frame.length → frame.length ≤ 9022 → frameFlow frame = false → s2.endpointOf e (beNat (bytesAt frame 0 6)) = some (n.val + 1) → s2.cold = false → kind = 1 →
      (s2.part n).ash = none → let s3 := s2.wakePart n 1
      let held := (s3.eport e).held.getD n []
      (s3.stacksActive n = true → exec (.ethernetFrameReceive e frame fcs t) s = .next s3) ∧
      (s3.stacksActive n = false → sumOf held List.length + frame.length ≤ 2 ^ 23 → ∃ u, exec (.ethernetFrameReceive e frame fcs t) s = .next u ∧ (u.eport e).held.getD n [] = held ++ [frame]) ∧
      (s3.stacksActive n = false → 2 ^ 23 < sumOf held List.length + frame.length → exec (.ethernetFrameReceive e frame fcs t) s = .next (s3.rxDrop n e))) ∧
    (∀ k, s1.endpointAt e target = some k → exec (.neighbourDiscovery e target t) s = .next (s1.ethAnswer e ((leBytes 6 (macOf e k)).reverse ++ target)) ∧
      exec (.echoRequest e target pay t) s = .next (s1.ethAnswer e (target ++ pay))) ∧
    (s1.endpointAt e target = none → exec (.neighbourDiscovery e target t) s = .next (s1.ethCount e 7 1) ∧ exec (.echoRequest e target pay t) s = .next (s1.ethCount e 7 1)) ∧
    (unit < 1000 → s1.runStarts e unit = true → let k := s1.runKey e unit
      (∀ b, s1.borrower e ready = some b → (k.1 = 0xFF ∨ (k.1 < 12 ∧ k.2 = 0 ∧ s1.num (E.ETH_MODE k.1) = 0 ∧ ready.testBit k.1 = false)) →
        exec (.runStart e unit ready t) s = .next (s1.onEport e (fun x => { x with run := some (unit, k.1, some b), robin := (b + 1) % 12 })) ∧
        s1.num (E.ETH_MODE b) = 0 ∧ ready.testBit b = true) ∧
      (k.1 ≠ 0xFF → (12 ≤ k.1 ∨ k.2 ≠ 0 ∨ s1.num (E.ETH_MODE k.1) ≠ 0 ∨ ready.testBit k.1 = true) →
        exec (.runStart e unit ready t) s = .next (s1.onEport e (fun x => { x with run := some (unit, k.1, none) })))) ∧
    exec (.ethLinkDown e t) s = .next ((s1.setNum (E.ETH_STATE e) 0).raise 0xE102 (scopeE e))) ∧
  (s1.ethTrains e = true → s1.num (E.ETH_STATE e) ≠ 2 → exec (.ethLinkUp e t) s = .next ((s1.setNum (E.ETH_STATE e) 2).raise 0xE101 (scopeE e))) ∧
  (s1.ethTrains e = false → exec (.ethLinkUp e t) s = .next s1) ∧
  (∃ u, exec (.pluggableModuleInsert e watts t) s = .next u ∧ u.num (E.ETH_PMD e) = 2 ∧ (u.eport e).starved = decide (15 < watts) ∧ (15 < watts → u.num (E.ETH_STATE e) = 0)) ∧
  (let q := m.part.val
   let x := s1.conn q (m.conn % 1024)
   let last (len : Nat) : Nat := (m.psn + packets len - 1) % 2 ^ 24
   let ok : Prop := s1.num (E.ETH_STATE m.eport) = 2 ∧ s1.exists q = true ∧ (s1.part q).ash = none ∧ x.st = 1 ∧ fld x.bytes 2 1 = m.eport.val ∧ s1.cold = false
   let u := s1.wakePart q 1
   (∀ y ∈ ([(.rdmaWrite m t, 0, 0xFFFF, 0), (.rdmaWriteImm m rc ad t, 1, rc, ad), (.rdmaRead m t, 2, 0xFFFF, 0)] : List (Instr × Nat × Nat × Nat)),
     (¬ ok → exec y.1 s = .next s1) ∧ (ok → u.stacksActive q = true → exec y.1 s = .next (roceIn y.2.1 m y.2.2.1 y.2.2.2 u)) ∧
     (ok → u.stacksActive q = false → exec y.1 s = .next { u with held := u.held.put q (u.held.getD q [] ++ [.roce y.2.1 m y.2.2.1 y.2.2.2]) })) ∧
   (x.st = 1 → m.psn % 2 ^ 24 = x.rq → ((roceIn 0 m 0xFFFF 0 s1).conn q (m.conn % 1024)).rq = (last m.data.length + 1) % 2 ^ 24) ∧
   (x.st = 1 → m.psn % 2 ^ 24 ≠ x.rq → x.rq < 2 ^ 24 → let back := (x.rq + 2 ^ 24 - m.psn % 2 ^ 24) % 2 ^ 24
     (back < 2 ^ 23 → roceIn 0 m 0xFFFF 0 s1 = s1.roceAnswer q (m.conn % 1024) (last m.data.length) 0 []) ∧
     (2 ^ 23 ≤ back → roceIn 0 m 0xFFFF 0 s1 = s1.roceAnswer q (m.conn % 1024) x.rq 4 []))) ∧
  (let x := s1.conn n (c % 1024)
   let due : Prop := x.st = 1 ∧ x.out ≠ [] ∧ x.since + 4096 * 2 ^ fld x.bytes 0x2D 1 ≤ s1.now
   (due → exec (.roceAckTimeout n c t) s = .next (s1.retransmit n (c % 1024))) ∧ (¬ due → exec (.roceAckTimeout n c t) s = .next s1) ∧
   (x.out ≠ [] → fld x.bytes 0x2C 1 ≤ x.tries → s1.retransmit n (c % 1024) = s1.connError n (c % 1024)) ∧
   (x.out ≠ [] → x.tries < fld x.bytes 0x2C 1 → ((s1.retransmit n (c % 1024)).conn n (c % 1024)) = { x with tries := x.tries + 1, since := s1.now }) ∧
   (x.st ≠ 1 → exec (.roceAcknowledgement n c psn nak data t) s = .next s1) ∧
   (x.st = 1 → nak = true → exec (.roceAcknowledgement n c psn nak data t) s = .next (s1.retransmit n (c % 1024))) ∧
   (x.st = 1 → nak = false → (∀ o ∈ x.out, psnUpTo o.1 (psn % 2 ^ 24) = false) →
     exec (.roceAcknowledgement n c psn nak data t) s = .next (s1.onConn n (c % 1024) (fun x => { x with since := s1.now }))) ∧
   (∀ o, x.st = 1 → nak = false → x.out = [o] → psnUpTo o.1 (psn % 2 ^ 24) = true → exec (.roceAcknowledgement n c psn nak data t) s =
     .next ((s1.onConn n (c % 1024) (fun x => { x with out := [], tries := 0, since := s1.now })).roceDone n o.2 (if o.1 = psn % 2 ^ 24 then data else []))))

/-! Fabric messages, triggers, groups, links -/

/-- A message on a port that is not UP is lost; on an unassigned position its flits are counted as dropped; for no partition, or one in ash-out, it changes nothing; a sleeping partition is woken and holds it. An awake one takes it: PUT, the reductions, COUNTER_ADD and GET are refused where no live buffer accepts them, and a refused one changes no byte of memory; an accepted PUT is written, a reduction added, both acknowledged and then notified; COUNTER_ADD raises its counter; a GET answers its bytes, or STATUS 2 when they cannot be read. An ACK or a response reaches the operation that waits for it. A token addressed elsewhere is refused; a barrier token is acknowledged and reaches its group. BUFFER_FREED deletes a buffer that was deregistered, and no other. -/
def Obligations.FabricMessages : Prop :=
  ∀ (s : State) (m : FabMsg) (n : Nat) (p : Fin 12) (rkey t : Nat),
  let s1 := s.at t
  (∀ y, FabricRow m t y →
    (m.pos ≠ 0 → s1.num (E.PORT_STATE m.port) ≠ 2 → exec y.1 s = .next s1) ∧
    ((m.pos = 0 ∨ s1.num (E.PORT_STATE m.port) = 2) → s1.rxCode m = 0xFF → exec y.1 s = .next (s1.bumpBy (E.UNASSIGNED_DROPS m.port) 32 (msgFlits m))) ∧
    (s1.rxCode m ≠ 0xFF → (12 ≤ s1.rxCode m ∨ s1.exists (s1.rxCode m) = false ∨ (s1.part (s1.rxCode m)).ash.isSome = true) → exec y.1 s = .next s1) ∧
    (Reaches s1 m n → s1.stacksActive n = false → let u := s1.woken m n
      exec y.1 s = .next { u with held := u.held.put n (u.held.getD n [] ++ [.fab y.2.1 m]) })) ∧
  (∀ kind, ((s1.received m n kind).refuseMsg n m).mem = s.mem) ∧
  (Reaches s1 m n → s1.stacksActive n = true →
    let told (v : State) (b : Buf) : State := if m.notify then (v.ackTo n m 0).notify n b m.rcounter m.addv else v.ackTo n m 0
    (∀ y ∈ [(Instr.put m t, 1, 1), (.reduceF32 m t, 4, 2), (.reduceI32 m t, 5, 2), (.counterAdd m t, 6, 3)], let u := s1.received m n y.2.1
      u.accepts n m y.2.2 = none → exec y.1 s = .next (u.refuseMsg n m)) ∧
    (∀ b, let u := s1.received m n 1
      u.accepts n m 1 = some b → isPiece (payload m) = false → exec (.put m t) s = .next (told (u.writeTier n (u.bufTaddr n b m.roff) (payload m)) b)) ∧
    (∀ b, let u := s1.received m n 4
      u.accepts n m 2 = some b → exec (.reduceF32 m t) s = .next (told (u.reduceTier n (u.bufTaddr n b m.roff) true (payload m)) b)) ∧
    (∀ b, let u := s1.received m n 5
      u.accepts n m 2 = some b → exec (.reduceI32 m t) s = .next (told (u.reduceTier n (u.bufTaddr n b m.roff) false (payload m)) b)) ∧
    (∀ b, let u := s1.received m n 6
      u.accepts n m 3 = some b → exec (.counterAdd m t) s = .next ((u.ackTo n m 0).notify n b m.rcounter m.addv)) ∧
    (let u := s1.received m n 2
     (u.addressed n m = false → exec (.getRequest m t) s = .next (u.refuseMsg n m)) ∧
     (∀ b, u.addressed n m = true → u.target n m.rkey m.roff m.len 0 false = some b → let x := u.nicRead n (u.bufTaddr n b m.roff) m.len
       (∀ d, x.2 = some d → exec (.getRequest m t) s =
         .next (x.1.sendOnly { path := 1, part := n, tag := 0, msgid := 0, kind := 3, dest := m.src, len := m.len, aux := m.msgid % 2 ^ 32, data := d })) ∧
       (x.2 = none → exec (.getRequest m t) s = .next (x.1.ackTo n m 2)))) ∧
    (let u := s1.received m n 3
     let mine := (Tab.look u.flights (bits m.aux 31 0)).map Flight.part
     (u.addressed n m = false → exec (.getResponse m t) s = .next (u.refuseOnly n)) ∧
     (u.addressed n m = true → mine ≠ some n → exec (.getResponse m t) s = .next u) ∧
     (u.addressed n m = true → mine = some n → exec (.getResponse m t) s =
       .next (if bits m.aux 39 32 = 0 then u.flightData (bits m.aux 31 0) (payload m) else u.flightAck (bits m.aux 31 0) (bits m.aux 39 32)))) ∧
    (let u := s1.received m n 8
     let mine := (Tab.look u.flights (bits m.aux 31 0)).map Flight.part
     (u.addressed n m = false → exec (.ack m t) s = .next (u.refuseOnly n)) ∧
     (u.addressed n m = true → exec (.ack m t) s = .next (if mine = some n then u.flightAck (bits m.aux 31 0) (bits m.aux 39 32) else u))) ∧
    (let u := s1.received m n 7
     (u.addressed n m = false → ∀ c ∈ [Instr.token m t, .gateToken m t, .voteRound m t, .verdictQuery m t, .turnFinal m t, .turnParked m t, .turnFail m t, .turnSwitch m t,
       .turnAbort m t, .turnUnpark m t, .turnQuery m t], exec c s = .next (u.refuseMsg n m)) ∧
     (∀ g, u.addressed n m = true → (List.range 64).find? (fun g => (u.group n g).enabled && fld (u.group n g).bytes 0 2 == Config.barrierGroup m.body) = some g →
       exec (.token m t) s = .next ((u.ackTo n m 0).barrierIn n g (Config.barrierSeq m.body) (Config.barrierMember m.body))))) ∧
  (∀ b, s1.buffer p rkey = some b → (b.closed = false → exec (.bufferFreed p rkey t) s = .next s1) ∧
    (b.closed = true → ∃ u, exec (.bufferFreed p rkey t) s = .next u ∧ u.buffer p rkey = none ∧ u.mem = s.mem))

/-- OP_TIMEOUT fails an operation that was sent OP_TIMEOUT_NS ago and is not answered, and no other. TRIGGER_RING_RECORD takes the next record unless the partition is halted. A counter of a job slot whose slice does not run is raised and fires nothing. ALLREDUCE, REDUCE_SCATTER, ALLGATHER, ALLTOALLV and BARRIER take the next command of a group's ring when it is of their kind, or of none; numbers that were skipped are counted and raise event 0xE205. A command that is malformed ends at once with INVALID and event 0xEF0A. A command that has ended leaves its group without one. -/
def Obligations.TriggersAndGroups : Prop :=
  ∀ (s : State) (n : Fin 12) (job : Fin 8) (gr : Fin 64) (owner op c d time : Nat),
  let s1 := s.at time
  let mine := s1.flights.filter (fun f => f.2.use == Use.armed owner op && f.2.part == n.val)
  ((∀ f ∈ mine, s1.now < f.2.sent + s1.num (E.OP_TIMEOUT_NS n)) → exec (.opTimeout n owner op time) s = .next s1) ∧
  ((∃ f ∈ mine, f.2.sent + s1.num (E.OP_TIMEOUT_NS n) ≤ s1.now) → exec (.opTimeout n owner op time) s =
    .next (({ s1 with flights := s1.flights.filter (fun f => !(f.2.use == Use.armed owner op && f.2.part == n.val)) } : State).opFail n owner op 4)) ∧
  (owner < 0x40 → (s1.trigOf n owner).fired.getD op 0 = 1 → s1.opFail n owner op 4 =
    ((s1.onTrig n owner (fun t => { t with fired := t.fired.put op 3 })).bump (E.OP_FAILS n)).raise 0xEF06 (scopeP n)) ∧
  ((s1.trigNext n job = none ∨ s1.haltedNow n = true) → exec (.triggerRingRecord n job time) s = .next s1) ∧
  (∀ b, s1.trigNext n job = some b → s1.haltedNow n = false → exec (.triggerRingRecord n job time) s = .next (s1.trigTake n job b)) ∧
  (owner < 8 → s1.sliceRuns n owner = false → s1.raiseCounter n owner c d = s1.onTrig n owner (fun t => { t with ctrs := t.ctrs.put c (addU32 owner (t.ctrs.getD c 0) d) })) ∧
  (∀ y ∈ [(Instr.allreduce n gr time, 1), (.reduceScatter n gr time, 2), (.allgather n gr time, 3), (.alltoallv n gr time, 4), (.barrier n gr time, 5)],
    (s1.cmdNext n gr = none → exec y.1 s = .next s1) ∧
    (∀ b, s1.cmdNext n gr = some b → 1 ≤ fld b 0 1 → fld b 0 1 ≤ 5 → fld b 0 1 ≠ y.2 → exec y.1 s = .next s1) ∧
    (∀ b, s1.cmdNext n gr = some b → (fld b 0 1 = y.2 ∨ fld b 0 1 = 0 ∨ 5 < fld b 0 1) →
      (fld b 0x38 8 = (s1.group n gr).next → exec y.1 s = .next (s1.cmdStart n gr b)) ∧
      ((s1.group n gr).next < fld b 0x38 8 → exec y.1 s =
        .next (((s1.bumpBy (E.QUEUE_OVERRUNS n) 32 (fld b 0x38 8 - (s1.group n gr).next)).raise 0xE205 (scopeP n)).cmdStart n gr b)))) ∧
  (∀ b, s1.cmdOk n (s1.group n gr) b = false → s1.cmdStart n gr b =
    ((s1.onGroup n gr (fun y => { y with cmd := some b, next := fld b 0x38 8 + 1, dropped := 0 })).groupEnd n gr 1).raise 0xEF0A (scopeP n)) ∧
  (∀ st, ((s1.groupEnd n gr st).group n gr).cmd = none)

/-- The events of Table 15-4 in their order and not before their times: a port that may train begins, two failed lanes put it DOWN, one is replaced by lane 8 (LANE_MAP), a mismatch of peers puts it DOWN and blocks it, link-up sets it UP with sequences zero and 4 credits for each position; an overdue training waits 1 s. A lane of a port whose lane 8 is free is swapped after 5,120 ns with event 0xEF03; with lane 8 in use the port goes DOWN. A lost link or cable puts a port DOWN. A MAINT flit's entries set what is acknowledged and return credits, owner by owner. A transit flit leaves, unchanged and in its position, the port its code names; an unassigned one is dropped and counted. -/
def Obligations.FabricPorts : Prop :=
  ∀ (s : State) (p : Fin 16) (peer lane pos time : Nat) (locked : Nat) (pay flit : List Byte),
  let s1 := s.at time
  let f := s1.fport p
  let failed := (List.range 9).filter (fun l => !locked.testBit l)
  (s1.mayTrain p = true → (s1.portState p = 0 ∨ (s1.portState p = 1 ∧ f.ev = 0)) → f.t0 ≤ s1.now → ∃ t, exec (.linkTrainingStart p time) s = .next t ∧
    t.portState p = 1 ∧ (t.fport p).ev = 1 ∧ (t.fport p).t0 = s1.now) ∧
  ((s1.mayTrain p = false ∨ 2 ≤ s1.portState p ∨ s1.now < f.t0) → exec (.linkTrainingStart p time) s = .next s1) ∧
  (s1.portState p = 1 → f.ev = 1 → f.t0 + 8000000 ≤ s1.now →
    (2 ≤ failed.length → exec (.equalisationComplete p locked time) s = .next (s1.portDown p)) ∧
    (failed.length ≤ 1 → ∃ t, exec (.equalisationComplete p locked time) s = .next t ∧ (t.fport p).ev = 2 ∧ t.portState p = 1 ∧
      t.num (E.LANE_MAP p) = match failed with | [l] => if l < 8 then l else 0xFF | _ => 0xFF)) ∧
  (s1.now < f.t0 + 8000000 → exec (.equalisationComplete p locked time) s = .next s1) ∧
  (s1.portState p = 1 → f.ev = 2 → f.t0 + 8300000 ≤ s1.now →
    ((s1.num (E.EXPECT_PEER p) = 0 ∨ s1.num (E.EXPECT_PEER p) = peer) → ∃ t, exec (.peerIdentityExchange p peer time) s = .next t ∧
      t.num (E.PEER p) = peer % 2 ^ 64 ∧ (t.fport p).ev = 4 ∧ t.portState p = 1) ∧
    (s1.num (E.EXPECT_PEER p) ≠ 0 → s1.num (E.EXPECT_PEER p) ≠ peer → exec (.peerIdentityExchange p peer time) s =
      .next ((((s1.setNum (E.PEER p) (peer % 2 ^ 64)).raise 0xEF04 (scopeF p)).onFport p (fun f => { f with blocked := true })).portDown p))) ∧
  (s1.portState p = 1 → f.ev = 4 → f.t0 + 8400000 ≤ s1.now → ∃ t, exec (.linkUp p time) s = .next t ∧ t.portState p = 2 ∧ (t.fport p).tx = [] ∧ (t.fport p).acked = [] ∧
    (t.fport p).rx = [] ∧ ∀ c < 32, (t.fport p).credits.getD c 0 = 4 * s1.positions p c) ∧
  ((s1.portState p ≠ 1 ∨ f.ev ≠ 4 ∨ s1.now < f.t0 + 8400000) → exec (.linkUp p time) s = .next s1) ∧
  (s1.portState p = 1 → f.ev ≠ 0 → f.t0 + 100000000 ≤ s1.now → exec (.trainingTimeout p time) s = .next (s1.onFport p (fun f => { f with ev := 0, t0 := s1.now + 1000000000 }))) ∧
  ((f.ev = 0 ∨ s1.now < f.t0 + 100000000) → exec (.trainingTimeout p time) s = .next s1) ∧
  (s1.portState p = 2 → f.swap = none → lane < 8 → (s1.num (E.LANE_MAP p) = 0xFF → exec (.laneSwap p lane time) s = .next (s1.onFport p (fun f => { f with swap := some (lane, s1.now) }))) ∧
    (s1.num (E.LANE_MAP p) ≠ 0xFF → s1.num (E.LANE_MAP p) ≠ lane → exec (.laneSwap p lane time) s = .next (s1.portDown p))) ∧
  (∀ l t0, s1.portState p = 2 → f.swap = some (l, t0) →
    (s1.now < t0 + 5120 → exec (.laneSwapResume p time) s = .next s1) ∧
    (t0 + 5120 ≤ s1.now → ∃ t, exec (.laneSwapResume p time) s = .next t ∧ t.num (E.LANE_MAP p) = l ∧ (t.fport p).swap = none)) ∧
  ((s1.portState p = 1 ∨ s1.portState p = 2) → exec (.portDown p time) s = .next (s1.portDown p) ∧
    exec (.cablePresent p false time) s = .next ((s1.onFport p (fun f => { f with present := false })).portDown p)) ∧
  (exec (.cablePresent p true time) s = .next (s1.onFport p (fun f => { f with present := true }))) ∧
  (s1.portState p ≠ 2 → exec (.maintFlit p pay time) s = .next s1 ∧ exec (.transitFlit p pos flit time) s = .next s1) ∧
  (s1.portState p = 2 → ∃ t, exec (.maintFlit p pay time) s = .next t ∧ t.mem = s.mem ∧ (t.fport p).tx = f.tx ∧ ∀ i < 28, let e := fld pay (6 * i) 6
    let c := returnCode i
    (f.tx.any (fun x => x.1 == c) = true → (t.fport p).acked.getD c 0 = bits e 11 0 ∧ (t.fport p).credits.getD c 0 = f.credits.getD c 0 + bits e 31 16) ∧
    (f.tx.any (fun x => x.1 == c) = false → (t.fport p).acked.getD c 0 = f.acked.getD c 0 ∧ (t.fport p).credits.getD c 0 = f.credits.getD c 0)) ∧
  (s1.portState p = 2 → 1 ≤ pos → pos ≤ 999 → let c := s1.rxOwner p pos
    (c = 0xFF → exec (.transitFlit p pos flit time) s = .next (s1.bump (E.UNASSIGNED_DROPS p))) ∧
    (0x10 ≤ c → c < 0x20 → c ≠ 0x10 + p.val → s1.portState (c - 0x10) = 2 → s1.txOwner (c - 0x10) pos = 0x10 + p.val → ∃ t, exec (.transitFlit p pos flit time) s = .next t ∧
      (t.fport (c - 0x10)).out = (s1.fport (c - 0x10)).out ++ [(pos, flit)] ∧ t.mem = s.mem))

/-! Learning groups and turns -/

/-- A learning token of a group whose job the partition does not hold, and a token of another turn, are acknowledged and change nothing else. A ready token is held; with every member's, the waiting step starts. A vote or a verdict goes its round and may end the wait of action 1; a query is answered or passed on. A turn write that does not belong to the turn is refused and counted; ABORT fails an active member with its code; SWITCH ends a sender; UNPARK lifts the hold of a parked receiver; FAIL makes only the coordinator decide, and it decides once. A refused write is sent again while the turn lasts; TURN_LIMIT_NS fails the member and, at the coordinator, decides ABORT. -/
def Obligations.TokensAndTurns : Prop :=
  ∀ (s : State) (m : FabMsg) (n : Nat) (k : Fin 12) (entry time : Nat),
  let s1 := s.at time
  (Reaches s1 m n → s1.stacksActive n = true → (s1.received m n 7).addressed n m = true →
    let w := (s1.received m n 7).ackTo n m 0
    let grp := Config.lrGroup m.body
    (w.lrJob n grp = none → ∀ c ∈ [Instr.gateToken m time, .voteRound m time, .verdictQuery m time], exec c s = .next w) ∧
    (∀ j, w.lrJob n grp = some j →
      (let z := w.lrReady n j grp (Config.lrTstep m.body) (Config.lrAttempt m.body) (Config.lrMember m.body)
       (Config.lrTstep m.body, Config.lrAttempt m.body, Config.lrMember m.body) ∈ (z.job n j).lrTokens ∧
       (∀ since, (z.part n).phase = .gate since → (z.part n).job = j → z.lrAllReady n j grp = true → exec (.gateToken m time) s = .next (z.passGate n j since)) ∧
       ((z.part n).job ≠ j ∨ z.lrAllReady n j grp = false → exec (.gateToken m time) s = .next z)) ∧
      (let z := if Config.lrIsVerdict m.body then w.lrVerdictIn n j grp (Config.lrTstep m.body) (Config.lrAttempt m.body) (Config.lrMember m.body) (Config.lrValue m.body)
                else w.lrVoteRound n j grp (Config.lrTstep m.body) (Config.lrAttempt m.body) (Config.lrValue m.body)
       (∀ since q, (z.part n).phase = .verdict since q → (z.part n).job = j → (z.job n j).lrVerdict.isSome = true → exec (.voteRound m time) s = .next (z.finishAttempt n)) ∧
       ((z.part n).job ≠ j → exec (.voteRound m time) s = .next z)) ∧
      exec (.verdictQuery m time) s = .next (w.lrQueryIn n j grp (Config.lrTstep m.body) (Config.lrAttempt m.body) (Config.lrMember m.body))) ∧
    (let tn := w.turn n
     let mine : Prop := tn.img.length ≠ 0 ∧ Config.turnId m.body = tpId tn.img
     (¬ mine → ∀ c ∈ [Instr.turnFinal m time, .turnParked m time, .turnFail m time, .turnSwitch m time, .turnAbort m time, .turnUnpark m time], exec c s = .next w) ∧
     (mine →
       exec (.turnFinal m time) s = .next ((w.onTurn n (fun t => { t with finals := if t.finals.contains (Config.turnMember m.body) then t.finals else t.finals ++ [Config.turnMember m.body] })).turnSettle n) ∧
       exec (.turnParked m time) s = .next (w.turnParkedIn n (Config.turnMember m.body)) ∧
       (tpMember tn.img ≠ 0 → exec (.turnFail m time) s = .next w) ∧ (tpMember tn.img = 0 → exec (.turnFail m time) s = .next (w.turnDecide n false)) ∧
       (tn.decision.isSome = true → ∀ d, w.turnDecide n d = w) ∧
       (tn.active = true → tpRecv tn.img = false → ∃ t, exec (.turnSwitch m time) s = .next t ∧ (t.turn n).st = 5) ∧
       (tn.st = 4 → tpRecv tn.img = true → ∃ t, exec (.turnSwitch m time) s = .next t ∧ (t.turn n).hold = false ∧ (t.job n (tpGen tn.img)).pendSwitch = some (tpSet tn.img)) ∧
       (tn.active = true → ∃ t, exec (.turnAbort m time) s = .next t ∧ (t.turn n).st = 6 ∧ (t.turn n).fail = 2 ∧ (t.turn n).hold = false) ∧
       (tn.st = 4 → tpRecv tn.img = true → ∃ t, exec (.turnUnpark m time) s = .next t ∧ (t.turn n).st = 3 ∧ (t.turn n).hold = false ∧ (t.job n (tpGen tn.img)).unparked = true) ∧
       (tpRecv tn.img = false → exec (.turnUnpark m time) s = .next w))) ∧
    exec (.turnQuery m time) s = .next (w.turnQueryIn n (Config.turnId m.body) (Config.turnMember m.body))) ∧
  (Reaches s1 m n → s1.stacksActive n = true → let u := s1.received m n 1
    (u.addressed n m = false → exec (.turnWrite m time) s = .next (u.refuseMsg n m)) ∧
    (u.addressed n m = true → u.turnWriteOk n m.body m.len = true → exec (.turnWrite m time) s = .next ((u.turnLand n (Config.turnShard m.body) (payload m)).ackTo n m 0)) ∧
    (u.addressed n m = true → u.turnWriteOk n m.body m.len = false → exec (.turnWrite m time) s =
      .next (((u.ackTo n m 1).bump (E.TURN_BAD_WRITES n)).raise 0xEE06 (scopeP n))) ∧
    (((u.turn n).st = 0 ∨ 4 ≤ (u.turn n).st) → u.turnWriteOk n m.body m.len = false)) ∧
  (let tn := s1.turn k
   let again : Prop := tn.active = true ∧ entry ∈ tn.retry ∧ entry ∉ tn.acked ∧ (s1.part k).ash = none
   (again → exec (.turnWriteRetry k entry time) s = .next (s1.turnWriteOut k entry)) ∧ (¬ again → exec (.turnWriteRetry k entry time) s = .next s1) ∧
   (tn.active = true → tn.armAt + s1.num (E.TURN_LIMIT_NS k) ≤ s1.now → exec (.turnLimitExpiry k time) s =
     .next ((if tpMember tn.img = 0 then s1.turnDecide k false else s1).turnFail k 1)) ∧
   ((tn.active = false ∨ s1.now < tn.armAt + s1.num (E.TURN_LIMIT_NS k)) → exec (.turnLimitExpiry k time) s = .next s1) ∧
   ((s1.part k).ash.isSome = true ∨ tn.tokens = [] → exec (.turnTokenResend k time) s = .next s1) ∧
   (∀ c tok to_, (s1.part k).ash = none → tn.tokens = [(c, tok, to_)] → (∀ f ∈ s1.flights, f.2.use = .turnTok c → f.2.part = k.val → f.2.sent + 1000000 ≤ s1.now) →
     let s2 : State := { s1 with flights := s1.flights.filter (fun f => !(f.2.use == Use.turnTok c && f.2.part == k.val)) }
     exec (.turnTokenResend k time) s = .next (s2.send [] (s2.turnMsg k to_ 7 (Config.turnBody tok (tpId tn.img) (tpMember tn.img) 0) []) (.turnTok c))) ∧
   (let lim := s1.num (E.TURN_PARK_NS k)
    (tpMember tn.img ≠ 0 → (tn.st ≠ 4 ∨ tn.decision.isSome = true ∨ tn.hold = false) → exec (.turnParkExpiry k time) s = .next s1) ∧
    (∀ p, tpMember tn.img ≠ 0 → tn.st = 4 → tn.decision = none → tn.hold = true → tn.ownPark = some p → p + lim ≤ s1.now → exec (.turnParkExpiry k time) s =
      .next ((s1.turnToken k ((tpMember tn.img + 1) % max 1 (tpMembers tn.img)) tkQuery).onTurn k (fun t => { t with ownPark := some s1.now }))) ∧
    (∀ p, tpMember tn.img = 0 → tn.decision = none → tn.parkAt = some p → p + lim ≤ s1.now → tn.st ≠ 4 → exec (.turnParkExpiry k time) s =
      .next (forAll (tpReceivers tn.img) (fun r s => s.turnToken k r tkUnpark) ((s1.onTurn k (fun t => { t with parked := [], parkAt := none })).raise 0xEE05 (scopeP k))))))

/-! Power, input, clocks, boot -/

/-- Wakes start at slot boundaries alone, within the slew limit, and only of ricks that wait; the first of them starts when its step fits. STAGGER_NS after its trigger a partition's sleeping ricks wait. A rick is awake when its wake time has passed and in its new state when its entry time has; in the last of a module reset's descents the reset begins anew. WAKE_AT is cleared when device time reaches it and is a tenant trigger. An idle partition enters its chosen state after IDLE_HOLD_NS, and none with WAKE_LATENCY_NS 0. Nothing happens before its time. -/
def Obligations.PowerAndWakes : Prop :=
  ∀ (s : State) (n k : Fin 12) (time : Nat),
  let s1 := s.at time
  let win := max 1 (s1.num E.SLEW_WINDOW_NS)
  (s1.now % win ≠ 0 → exec (.slotBoundary time) s = .next s1) ∧
  (s1.now % win = 0 → s1.descending = false → ∃ t, exec (.slotBoundary time) s = .next t ∧ t.now = s1.now ∧
    (∀ j, j ∉ s1.waiters → t.rick j = s1.rick j) ∧ (∀ j ∈ s1.waiters, t.rick j = s1.rick j ∨ (t.rick j).move = some (0, s1.now)) ∧
    (t.slew = s1.slew ∨ (t.slew.1 = s1.now ∧ t.slew.2 ≤ s1.slewLimit)) ∧
    (∀ j, s1.waiters.head? = some j → s1.charged + s1.rickStep j ≤ s1.slewLimit → (t.rick j).move = some (0, s1.now))) ∧
  (∀ t0 x y, (s1.part n).trigger = some (t0, x, y) →
    (s1.now < t0 + s1.num E.STAGGER_NS → exec (.staggerExpiry n time) s = .next s1) ∧
    (t0 + s1.num E.STAGGER_NS ≤ s1.now → ∃ t, exec (.staggerExpiry n time) s = .next t ∧
      ∀ j ∈ s1.ricksOf n, 2 ≤ (s1.rick j).pst → (s1.rick j).pst ≤ 3 → (s1.rick j).move = none → (s1.rick j).waiting = none → (t.rick j).waiting = some s1.now)) ∧
  ((s1.part n).trigger = none → exec (.staggerExpiry n time) s = .next s1) ∧
  (∀ st t0, (s1.rick k).move = some (st, t0) →
    (st = 0 → s1.now < t0 + wakeNs (s1.rick k).pst → exec (.rickWakeComplete k time) s = .next s1) ∧
    (st = 0 → (s1.rick k).pst ≤ 2 → t0 + wakeNs (s1.rick k).pst ≤ s1.now →
      (s1.partOf k = none ∨ ∃ m, s1.partOf k = some m ∧ ∃ j ∈ s1.ricksOf m, j ≠ k.val ∧ (s1.rick j).on = false) →
      exec (.rickWakeComplete k time) s = .next (s1.onRick k (fun r => { r with pst := 0, move := none, waiting := none }))) ∧
    ((st = 0 ∨ s1.now < t0 + entryNs st) → exec (.stateEntryComplete k time) s = .next s1) ∧
    (st = 1 → t0 + 2000 ≤ s1.now → (∀ m, s1.partOf k = some m → (s1.part m).trigger = none) →
      exec (.stateEntryComplete k time) s = .next (s1.onRick k (fun r => { r with pst := 1, move := none }))) ∧
    (st = 4 → t0 + 5000000 ≤ s1.now → s1.descending = true → (∀ j < 12, j ≠ k.val → (s1.rick j).pst = 4) →
      ∃ t, exec (.stateEntryComplete k time) s = .next t ∧ (t.rick k).pst = 4 ∧ t.descending = false ∧ t.bootT0 = s1.now)) ∧
  ((s1.rick k).move = none → exec (.rickWakeComplete k time) s = .next s1 ∧ exec (.stateEntryComplete k time) s = .next s1) ∧
  (∀ f, (s1.part n).firstStep = some f → (s1.now < f → exec (.wakeBoundReached n time) s = .next s1) ∧
    (f ≤ s1.now → (s1.part n).phase = .idle → exec (.wakeBoundReached n time) s = .next (s1.idleBoundary n))) ∧
  (let w := s1.num (E.WAKE_AT n)
   ((w = 0 ∨ s1.now < w) → exec (.wakeAtReached n time) s = .next s1) ∧
   (w ≠ 0 → w ≤ s1.now → ∃ t, exec (.wakeAtReached n time) s = .next t ∧ t.num (E.WAKE_AT n) = 0 ∧
     (1 ≤ s1.pstate n → s1.pstate n ≤ 3 → (s1.part n).trigger = none → (t.part n).trigger = some (s1.now, 1, s1.pstate n)))) ∧
  (∀ t0, (s1.part n).idleSince = some t0 →
    (s1.now < t0 + s1.num (E.IDLE_HOLD_NS n) → exec (.idleHoldExpiry n time) s = .next s1) ∧
    (t0 + s1.num (E.IDLE_HOLD_NS n) ≤ s1.now → s1.exists n = true → (s1.part n).phase = .idle → (s1.part n).trigger = none → (s1.part n).ash = none →
      2 ≤ s1.chosen n → s1.pstate n < s1.chosen n → (∀ j ∈ s1.ricksOf n, (s1.rick j).move = none ∧ (s1.rick j).waiting = none ∧ (s1.rick j).pst ≤ 1) →
      ∃ t, exec (.idleHoldExpiry n time) s = .next t ∧ ∀ j ∈ s1.ricksOf n, (t.rick j).move = some (s1.chosen n, s1.now))) ∧
  (s1.num (E.WAKE_LATENCY_NS n) = 0 → exec (.idleHoldExpiry n time) s = .next s1)

/-- Over its budget a partition's clock falls by 25 MHz, not below the floor; after ten means below 95 % it rises by as much, not above the configured clock and not in a throttle. Over budget at the floor an overrun is counted, its event raised once a run. A cause of Table 18-4 raises the throttle, every clock to its floor; it ends 100 ms after the last is clear. The third failed phase is a cause, and a hot rick. An input out of range, an open switch and a shutdown take every rick toward state O and hold the module; beyond 60 V the part may be damaged and the command stops by name. It starts as from power-on when the input is valid, or the heat gone. The switch closes only with all three conditions of R643. -/
def Obligations.BudgetsAndInput : Prop :=
  ∀ (s : State) (n k : Fin 12) (c : Fin 8) (w mv bulk time : Nat),
  let s1 := s.at time
  let b := s1.budget n
  let f := s1.runClock n
  let low := (s1.part n).lowMeans
  let top := s1.num (E.PART_CLOCK_MHZ n)
  ((s1.exists n = false ∨ s1.awake n = false) → exec (.budgetWindow n w time) s = .next s1) ∧
  (s1.exists n = true → s1.awake n = true → s1.kindlesHere n = false → ∃ t, exec (.budgetWindow n w time) s = .next t ∧
    (b < w → s1.floorClock n < f → (t.part n).clkNext = some (max (s1.floorClock n) (f - 25)) ∧ (t.part n).lowMeans = 0) ∧
    (b < w → f ≤ s1.floorClock n → (t.part n).clkNext = (s1.part n).clkNext ∧ (t.part n).lowMeans = 0) ∧
    (w ≤ b → 95 * b ≤ 100 * w → (t.part n).clkNext = (s1.part n).clkNext ∧ (t.part n).lowMeans = 0) ∧
    (w ≤ b → 100 * w < 95 * b → low < 9 → (t.part n).clkNext = (s1.part n).clkNext ∧ (t.part n).lowMeans = low + 1) ∧
    (w ≤ b → 100 * w < 95 * b → 9 ≤ low → (t.part n).lowMeans = 0 ∧
      (f < top → s1.throttleAt = none → (t.part n).clkNext = some (min top (f + 25))) ∧
      ((top ≤ f ∨ s1.throttleAt.isSome = true) → (t.part n).clkNext = (s1.part n).clkNext))) ∧
  (∃ t, exec (.overrunWindow n w time) s = .next t ∧ t.num (E.PART_POWER_W n) = w % 2 ^ 32 ∧
    (let isOver := s1.exists n && decide (s1.clockMhz n ≤ s1.floorClock n) && decide (b < w)
     (t.part n).overran = isOver ∧ (isOver = false → t.num (E.BUDGET_OVERRUNS n) = s1.num (E.BUDGET_OVERRUNS n) ∧ t.events = s1.events) ∧
     (isOver = true → s1.num (E.BUDGET_OVERRUNS n) + 1 < 2 ^ 32 → t.num (E.BUDGET_OVERRUNS n) = s1.num (E.BUDGET_OVERRUNS n) + 1) ∧
     (isOver = true → t.num E.EVENT_SEQ = s1.num E.EVENT_SEQ + if (s1.part n).overran then 0 else 1))) ∧
  (c.val < 6 → ∃ t, exec (.emergencyRaise c time) s = .next t ∧ t.causes = s1.causes ||| 2 ^ c.val ∧ t.num E.EMERGENCY = t.causes ∧ t.throttleAt = some (s1.throttleAt.getD s1.now) ∧
    (s1.throttleAt = none → ∀ j < 12, (t.part j).floorNow = true ∧ (t.part j).clkNext = none)) ∧
  (6 ≤ c.val → exec (.emergencyRaise c time) s = .next s1) ∧
  ((s1.throttleAt = none ∨ 8 ≤ s1.causes ∨ s1.now < s1.clearAt + 100000000) → exec (.emergencyEnd time) s = .next s1) ∧
  (s1.throttleAt.isSome = true → s1.causes < 8 → s1.clearAt + 100000000 ≤ s1.now → ∃ t, exec (.emergencyEnd time) s = .next t ∧ t.throttleAt = none ∧ t.causes = 0 ∧ t.num E.EMERGENCY = 0) ∧
  (∃ t, exec (.phaseFailure k time) s = .next t ∧ (s1.num E.PHASES_FAILED < 255 → t.num E.PHASES_FAILED = s1.num E.PHASES_FAILED + 1) ∧
    (s1.num E.PHASES_FAILED < 2 → t.causes = s1.causes) ∧ (s1.num E.PHASES_FAILED = 2 → t.causes = s1.causes ||| 8 ∧ t.throttleAt.isSome = true)) ∧
  (∃ t, exec (.thermalCondition true time) s = .next t ∧ t.causes = s1.causes ||| 16 ∧ t.throttleAt.isSome = true) ∧
  (∃ t, exec (.thermalCondition false time) s = .next t ∧ t.causes.testBit 4 = false ∧ t.throttleAt = s1.throttleAt) ∧
  (32000 ≤ mv → mv ≤ 46000 → exec (.inputOutOfRange mv time) s = .next s1) ∧
  ((mv < 32000 ∨ 46000 < mv) → mv ≤ 60000 → ∃ t, exec (.inputOutOfRange mv time) s = .next t ∧ t.heldInput = true ∧ t.powered = false ∧ t.sessions = [] ∧
    ∀ j < 12, (s1.rick j).pst ≠ 4 → (t.rick j).move = some (4, s1.now)) ∧
  (60000 < mv → exec (.inputOutOfRange mv time) s = .fault .beyondAbsoluteMaximum) ∧
  (∃ t, exec (.thermalShutdown time) s = .next t ∧ t.heldHeat = true ∧ t.powered = false ∧ ∀ j < 12, (s1.rick j).pst ≠ 4 → (t.rick j).move = some (4, s1.now)) ∧
  ((s1.heldHeat = false ∨ s1.heldInput = true ∨ s1.switchOn = false) → exec (.thermalRestart time) s = .next { s1 with heldHeat := false }) ∧
  (s1.heldHeat = true → s1.heldInput = false → s1.switchOn = true → ∃ t, exec (.thermalRestart time) s = .next t ∧ t.powered = true ∧ t.heldHeat = false ∧ t.now = 0 ∧ t.blob E.RESET_CAUSE = causeBytes 1 0) ∧
  ((s1.switchOn = false ∨ s1.heldHeat = true ∨ (s1.heldInput = false ∧ (s1.powered = true ∨ s1.now < s1.bootT0 + 100000000))) → exec (.powerValid time) s = .next s1) ∧
  (s1.switchOn = true → s1.heldHeat = false → (s1.heldInput = true ∨ (s1.powered = false ∧ s1.bootT0 + 100000000 ≤ s1.now)) → ∃ t, exec (.powerValid time) s = .next t ∧
    t.powered = true ∧ t.heldInput = false ∧ t.now = 0 ∧ t.blob E.RESET_CAUSE = causeBytes (if s1.heldInput then 2 else 1) 0) ∧
  (∃ t, exec (.presenceOpen time) s = .next t ∧ t.switchOn = false ∧ t.powered = false ∧ ∀ j < 12, (t.rick j).pst = 4) ∧
  (s1.switchOn = false → bulk ≤ mv + 1000 → mv ≤ bulk + 1000 → 36000 ≤ mv → mv ≤ 44000 → exec (.presenceClose bulk mv time) s =
    .next { s1 with switchOn := true, powered := false, bootT0 := s1.now }) ∧
  ((s1.switchOn = true ∨ mv + 1000 < bulk ∨ bulk + 1000 < mv ∨ mv < 36000 ∨ 44000 < mv) → exec (.presenceClose bulk mv time) s = .next s1)

/-- ALERT_N asserted low for 10 us sets cause ALERT of Table 18-4, bit 5 of EMERGENCY. The cause clears when ALERT_N has been released for 100 us. The throttle is raised with the cause; the release alone does not end it: R539 governs its end. -/
def Obligations.AlertPin : Prop :=
  ∀ (s : State) (time : Nat),
  let s1 := s.at time
  (∃ t, exec (.alertAssert time) s = .next t ∧ t.num E.ALERT_PIN = 1 ∧ t.causes.testBit 5 = true ∧ (t.num E.EMERGENCY).testBit 5 = true ∧ t.throttleAt.isSome = true ∧
    ∀ i, i ≠ 5 → t.causes.testBit i = s1.causes.testBit i) ∧
  (∃ t, exec (.alertRelease time) s = .next t ∧ t.num E.ALERT_PIN = 0 ∧ t.causes.testBit 5 = false ∧ t.throttleAt = s1.throttleAt ∧
    (s1.causes.testBit 5 = true → (t.num E.EMERGENCY).testBit 5 = false ∧ t.clearAt = s1.now) ∧
    ∀ i, i ≠ 5 → t.causes.testBit i = s1.causes.testBit i)

/-- The loss of the active reference selects the other and discards no step; with both lost the clock quality is 1 and every awake rick stops; a reference found again restarts the module. A disagreement beyond REF_TOL_PPM degrades the references. A PLL is judged stable not before its time, and its partition's change waits for the boundary when every rick's is; one not judged in time has failed, and so is a live one whose monitor window deviates by more than 1,000 ppm: the idle PLL takes over when it is stable at that clock, else the floor clock. A controller clock's failure discards the running step; after the timeout its rick is degraded. The counter gives its edges at the gate's end, and 0 for a source the rick has not. -/
def Obligations.Clocks : Prop :=
  ∀ (s : State) (r : Fin 2) (k : Fin 12) (ppm : Int) (count time : Nat),
  let s1 := s.at time
  let rk := s1.rick k
  (s1.refsLost.testBit r = true → exec (.referenceLoss r time) s = .next s1) ∧
  (s1.refsLost = 0 → s1.num E.REF_ACTIVE ≠ r.val → exec (.referenceLoss r time) s = .next { s1 with refsLost := 2 ^ r.val }) ∧
  (s1.refsLost = 0 → s1.num E.REF_ACTIVE = r.val → ∃ t, exec (.referenceLoss r time) s = .next t ∧ t.refsLost = 2 ^ r.val ∧ t.num E.REF_ACTIVE = 1 - r.val ∧ t.parts = s.parts ∧ t.ricks = s.ricks) ∧
  (s1.refsLost ≠ 0 → s1.refsLost.testBit r = false → exec (.referenceLoss r time) s = exec (.bothReferencesLost time) s) ∧
  ((∀ p < 16, s1.num (E.PORT_STATE p) ≠ 1 ∧ s1.num (E.PORT_STATE p) ≠ 2) → (∀ e < 8, s1.num (E.ETH_STATE e) ≠ 1 ∧ s1.num (E.ETH_STATE e) ≠ 2) →
    ∃ t, exec (.bothReferencesLost time) s = .next t ∧ t.refsLost = 3 ∧ t.num E.TIME_QUALITY = 1 ∧ ∀ j < 12, (t.rick j).stopped = decide ((s1.rick j).pst = 0) ∧ (t.rick j).starting = none) ∧
  (∃ t, exec (.bothReferencesLost time) s = .next t) ∧
  ((s1.refsLost ≠ 0 ∨ ppm.natAbs ≤ s1.num E.REF_TOL_PPM) → exec (.referenceCompare ppm time) s = .next s1) ∧
  (s1.refsLost = 0 → s1.num E.REF_TOL_PPM < ppm.natAbs → ∃ t, exec (.referenceCompare ppm time) s = .next t ∧ t.num E.REF_DEGRADED = 1 ∧ t.parts = s.parts ∧
    (t.num E.REF_ACTIVE = s1.num E.REF_ACTIVE ∨ t.num E.REF_ACTIVE = 1 - s1.num E.REF_ACTIVE)) ∧
  (s1.refsLost = 3 → ∃ t, exec (.referenceRestored r time) s = .next t ∧ t.refsLost = 3 - 2 ^ r.val ∧ t.num E.REF_ACTIVE = r.val ∧ t.sessions = [] ∧ t.blob E.RESET_CAUSE = causeBytes 5 s1.now) ∧
  (s1.refsLost = 2 ^ r.val → exec (.referenceRestored r time) s = .next { s1 with refsLost := 0 }) ∧
  (∀ p t0 f, rk.starting = some (p, t0, f) →
    (s1.now < t0 + s1.judgeNs f → exec (.sourceStable k time) s = .next s1) ∧
    (t0 + s1.judgeNs f ≤ s1.now → ∃ t, exec (.sourceStable k time) s = .next t ∧ (t.rick k).starting = none ∧ p ∈ (t.rick k).stable ∧ (t.rick k).freq.getD p 0 = f ∧
      t.num (E.LIVE_SOURCE k) = s1.num (E.LIVE_SOURCE k)) ∧
    (s1.now < t0 + s1.num E.STABLE_TIMEOUT_NS → exec (.sourceTimeout k time) s = .next s1) ∧
    (t0 + s1.num E.STABLE_TIMEOUT_NS ≤ s1.now → ∃ t, exec (.sourceTimeout k time) s = .next t ∧ t = (((s1.pllFails k p).onRick k (fun r => { r with starting := none })).raise 0xE034 0).noPll k ∧
      (s1.pllFails k p).pllWorks k p = false)) ∧
  (rk.starting = none → exec (.sourceStable k time) s = .next (s1.onRick k (fun r => { r with ctrlDead := none })) ∧
    (rk.ctrlDead = none → exec (.sourceTimeout k time) s = .next s1) ∧
    (∀ t0, rk.ctrlDead = some t0 → (s1.now < t0 + s1.num E.STABLE_TIMEOUT_NS → exec (.sourceTimeout k time) s = .next s1) ∧
      (t0 + s1.num E.STABLE_TIMEOUT_NS ≤ s1.now → exec (.sourceTimeout k time) s = .next ((s1.raise 0xE034 0).degrade k)))) ∧
  (let x := (match s1.partOf k with | some n => s1.runClock n | none => 500) * 65536
   let free : Prop := rk.measuring = none ∧ (s1.num E.CLK_JUDGE ≠ 1 ∨ rk.starting = none)
   (¬ free → exec (.monitorWindow k count time) s = .next s1) ∧
   (1000 * (100 * count - x) ≤ x → 1000 * (x - 100 * count) ≤ x → exec (.monitorWindow k count time) s = .next s1) ∧
   (free → (x < 1000 * (100 * count - x) ∨ x < 1000 * (x - 100 * count)) → exec (.monitorWindow k count time) s = exec (.sourceFailure k time) s)) ∧
  (s1.num (E.LIVE_SOURCE k) ≠ 2 → s1.num (E.LIVE_SOURCE k) ≠ 3 → exec (.sourceFailure k time) s = .next s1) ∧
  (∀ live, (live = 2 ∨ live = 3) → s1.num (E.LIVE_SOURCE k) = live → s1.partOf k = none → let idle := 5 - live
    ∃ t, exec (.sourceFailure k time) s = .next t ∧ t.num (E.LIVE_SOURCE k) = (if idle ∈ rk.stable ∧ rk.freq.getD idle 0 = 500 then idle else 4) ∧
      t.num (E.PLL_FAILED k) = s1.num (E.PLL_FAILED k) ||| 2 ^ (live - 2)) ∧
  (∃ t, exec (.controllerClockFailure k time) s = .next t ∧ (t.rick k).ctrlDead = some (rk.ctrlDead.getD s1.now) ∧
    ∀ n, s1.partOf k = some n → (s1.part n).phase = .running → (t.part n).ueDiscard = true) ∧
  (∀ src fin, rk.measuring = some (src, fin) → (s1.now < fin → exec (.fmDone k count time) s = .next s1) ∧
    (fin ≤ s1.now → ∃ t, exec (.fmDone k count time) s = .next t ∧ (t.rick k).measuring = none ∧ t.num (E.FM_RESULT k) = if fmExists k src then count % 2 ^ 64 else 0)) ∧
  (rk.measuring = none → exec (.fmDone k count time) s = .next s1)

/-- Tinder starts the first bank it admits, else the tinder hold. The collier is ready once, a TRIAL bank then VALID; one not up in 10 s fails and resets the module. The next rick of the order starts alone, is ready not before 2,700 ms or is degraded; full service begins 3,000 ms after the last. The standby takes over once; its own expiry resets the module. The kindling start waits for its keys. An ash-out zeroes not before 150 ms, is checked not before 2,950 ms, ends not before 3,000 ms with the next tenant bound and one count more; a failed check begins it anew, and the third leaves it. A halt ends at its limit. A sweep moves records while the stacks are active; a sample is taken of a running step alone. Every hour HEARTH_WEAR is stored. -/
def Obligations.BootAshOutAndDebug : Prop :=
  ∀ (s : State) (n k : Fin 12) (okA okB ok : Bool) (time : Nat),
  let s1 := s.at time
  let own := s1.num E.BOOT_BANK
  let good (b : Nat) : Bool := s1.bankOk b (if b = 0 then okA else okB)
  (s1.atStart = false → exec (.tinderStart okA okB time) s = .next s1) ∧
  (s1.atStart = true → own ≤ 1 → ∃ t, exec (.tinderStart okA okB time) s = .next t ∧
    (good own = true → t.bank = own ∧ t.num E.BOOT_STATE = 1 ∧ t.trialT0 = s1.now ∧ t.events = s1.events) ∧
    (good own = false → good (1 - own) = true → t.bank = 1 - own ∧ t.num E.BOOT_STATE = 1 ∧ t.trialT0 = s1.now) ∧
    (good own = false → good (1 - own) = false → t.tinderHold = true ∧ t.num E.BOOT_STATE = 4 ∧ t.num (E.ETH_STATE 4) = 1)) ∧
  (s1.num E.BOOT_STATE ≠ 1 → exec (.collierReady time) s = .next s1) ∧
  (s1.num E.BOOT_STATE = 1 → ∃ t, exec (.collierReady time) s = .next t ∧ t.num E.BOOT_STATE = 2 ∧ t.lastReady = s1.now ∧ ∀ e < 8, s1.num (E.ETH_ENABLE e) = 0 → t.num (E.ETH_STATE e) = 3) ∧
  (let due : Prop := s1.num E.BOOT_STATE = 1 ∧ s1.bankState s1.bank = 2 ∧ s1.trialT0 + 10000000000 ≤ s1.now
   (¬ due → exec (.trialTimeout time) s = .next s1) ∧ (due → ∃ t, exec (.trialTimeout time) s = .next t ∧ t.blob E.RESET_CAUSE = causeBytes 6 s1.now ∧ t.sessions = [] ∧ t.bank = s1.bank)) ∧
  (let start : Prop := s1.bringups.head? = some k.val ∧ (s1.rick k).pst = 4 ∧ (s1.rick k).bringup = none ∧ s1.throttleAt = none ∧
     s1.now % max 1 (s1.num E.SLEW_WINDOW_NS) = 0 ∧ s1.charged + 28500 * 27720 ≤ s1.slewLimit ∧ 2 ≤ s1.num E.BOOT_STATE ∧ s1.num E.BOOT_STATE ≤ 3
   (¬ start → exec (.rickBringupStart k time) s = .next s1) ∧
   (start → ∃ t, exec (.rickBringupStart k time) s = .next t ∧ (t.rick k).bringup = some s1.now ∧ t.slew = (s1.now, s1.charged + 28500 * 27720))) ∧
  (∀ r0, (s1.rick k).bringup = some r0 → (s1.now < r0 + 2700000000 → exec (.rickReady k ok time) s = .next s1) ∧
    (r0 + 2700000000 ≤ s1.now → (s1.rick k).degradedAt = none → s1.partOf k = none → ∃ t, exec (.rickReady k false time) s = .next t ∧
      (t.rick k).pst = 4 ∧ (t.rick k).bringup = none ∧ (t.rick k).degradedAt = some s1.now ∧ k.val ∉ t.bringups ∧ t.lastReady = s1.now) ∧
    (r0 + 2700000000 ≤ s1.now → ∃ t, exec (.rickReady k true time) s = .next t)) ∧
  ((s1.rick k).bringup = none → exec (.rickReady k ok time) s = .next s1) ∧
  ((s1.num E.BOOT_STATE ≠ 2 ∨ s1.bringups ≠ [] ∨ s1.now < s1.lastReady + 3000000000) → exec (.fullService time) s = .next s1) ∧
  (s1.num E.BOOT_STATE = 2 → s1.bringups = [] → s1.lastReady + 3000000000 ≤ s1.now → (∀ m ∈ s1.liveParts, (s1.part m).phase ≠ .idle) → ∃ t, exec (.fullService time) s = .next t ∧ t.num E.BOOT_STATE = 3 ∧ t.unplanned = none) ∧
  (s1.standby = true → exec (.lockstepMismatch time) s = .next s1 ∧ ∃ t, exec (.watchdogExpiry time) s = .next t ∧ t.blob E.RESET_CAUSE = causeBytes 4 s1.now ∧ t.standby = false) ∧
  (s1.standby = false → ∃ t, exec (.watchdogExpiry time) s = .next t ∧ exec (.lockstepMismatch time) s = .next t ∧ t.standby = true ∧ t.num E.COLLIER_STATE = 1 ∧
    t.parts = s.parts ∧ t.mem = s.mem ∧ (s1.num E.FAILOVERS + 1 < 2 ^ 32 → t.num E.FAILOVERS = s1.num E.FAILOVERS + 1)) ∧
  ((s1.kindMask = 0 ∨ s1.kindled = true ∨ s1.partReady s1.kindPart = false ∨ s1.num E.BOOT_STATE ≠ 2) → exec (.kindlingStart time) s = .next s1) ∧
  (s1.kindMask ≠ 0 → s1.kindled = false → s1.partReady s1.kindPart = true → s1.num E.BOOT_STATE = 2 →
    (∃ id ∈ Config.kindlingKeys (s1.blob E.KINDLING_MANIFEST) (s1.blob E.KINDLING_SOURCES), s1.setKey (s1.num (E.PART_TENANT s1.kindPart)) id = none) →
    ∃ t, exec (.kindlingStart time) s = .next t ∧ fld (t.blob E.KINDLING_STATUS) 0 1 = 1 ∧ t.kindled = false) ∧
  (∀ a, (s1.part n).ash = some a →
    (a.dead = true → exec (.ashOutZeroingStart n time) s = .next s1 ∧ exec (.ashOutCheck n ok time) s = .next s1 ∧ exec (.ashOutEnd n time) s = .next s1) ∧
    (s1.now < a.t0 + 150000000 → exec (.ashOutZeroingStart n time) s = .next s1) ∧
    (a.dead = false → a.event = 1 → a.t0 + 150000000 ≤ s1.now →
      (s1.awake n = true → exec (.ashOutZeroingStart n time) s = .next ((s1.ashZero n).onPart n (fun p => { p with ash := some { a with event := 4 } }))) ∧
      (s1.awake n = false → exec (.ashOutZeroingStart n time) s = .next (s1.onPart n (fun p => { p with ash := some { a with event := 2, bad := true } })))) ∧
    (s1.now < a.t0 + 2950000000 → exec (.ashOutCheck n ok time) s = .next s1) ∧
    (a.dead = false → a.event ≠ 7 → a.t0 + 2950000000 ≤ s1.now →
      (ok = true → a.event = 4 → a.bad = false → exec (.ashOutCheck n ok time) s = .next (s1.onPart n (fun p => { p with ash := some { a with event := 7 } }))) ∧
      ((ok = false ∨ a.event ≠ 4 ∨ a.bad = true) →
        (a.attempt < 3 → exec (.ashOutCheck n ok time) s = .next ((s1.raise 0xE004 (scopeP n)).ashBegin n { a with t0 := a.t0 + 3000000000, attempt := a.attempt + 1, event := 1, bad := false })) ∧
        (3 ≤ a.attempt → ∃ t, exec (.ashOutCheck n ok time) s = .next t ∧ (t.part n).ash = some { a with dead := true }))) ∧
    ((a.event ≠ 7 ∨ s1.now < a.t0 + 3000000000) → exec (.ashOutEnd n time) s = .next s1) ∧
    (a.dead = false → a.event = 7 → a.t0 + 3000000000 ≤ s1.now →
      let s2 := (((((s1.ashZero n).bumpBy (E.ASHOUT_COUNT n) 64 1).resyncPorts n).setNum (E.PART_TENANT n) a.next).onPart n (fun p => { p with ash := none }))
      let s3 := (if a.next = 0xFF then s2 else s2.giveFlush n).raise 0xE003 (scopeP n)
      exec (.ashOutEnd n time) s = .next (if s3.awake n then s3.idleBoundary n else s3).rechoose)) ∧
  ((s1.part n).ash = none → exec (.ashOutZeroingStart n time) s = .next s1 ∧ exec (.ashOutCheck n ok time) s = .next s1 ∧ exec (.ashOutEnd n time) s = .next s1) ∧
  (∀ h t0, (s1.part n).halt = some h → h.since = some t0 → let lim := s1.num (E.HALT_LIMIT_NS n)
    ((lim = 0 ∨ s1.now < t0 + lim) → exec (.haltLimitExpiry n time) s = .next s1) ∧
    (lim ≠ 0 → t0 + lim ≤ s1.now → ∃ t, exec (.haltLimitExpiry n time) s = .next t ∧ (t.part n).halt = none)) ∧
  ((s1.exists n = false ∨ s1.stacksActive n = false ∨ (s1.part n).ash.isSome = true) → exec (.traceSweep n time) s = .next s1) ∧
  (s1.exists n = true → s1.stacksActive n = true → (s1.part n).ash = none → exec (.traceSweep n time) s = .next (s1.sweepPart n)) ∧
  (((s1.part n).phase ≠ .running ∨ s1.haltedNow n = true ∨ (s1.num (E.TRACE_SELECT n)).testBit 2 = false) → exec (.traceSample n time) s = .next s1) ∧
  (∃ t, exec (.traceSample n time) s = .next t ∧ t.mem = s.mem) ∧
  (∃ t, exec (.hearthWearStore time) s = .next t ∧ t.dict = s.dict ∧ t.mem = s.mem ∧ ∀ j < 12, Tab.look t.stored (E.HEARTH_WEAR j) = some (.blob (s1.wearBytes j)))
end

