-- ==== Sys2Proof/Laws/Arms.lean ====
section
/-!
SUPPORT. One equation per arm of the dispatch, so that no proof unfolds it.
-/
namespace Sys2Proof.Laws
open Sys2Proof.Machine

theorem exec_add (g : Fin 216) (s : State) : exec (.add g) s = execAdd g s := rfl
theorem exec_sub (g : Fin 216) (s : State) : exec (.sub g) s = execSub g s := rfl
theorem exec_and (g : Fin 216) (s : State) : exec (.and g) s = execAnd g s := rfl
theorem exec_or (g : Fin 216) (s : State) : exec (.or g) s = execOr g s := rfl
theorem exec_xor (g : Fin 216) (s : State) : exec (.xor g) s = execXor g s := rfl
theorem exec_shl (g : Fin 216) (s : State) : exec (.shl g) s = execShl g s := rfl
theorem exec_shr (g : Fin 216) (s : State) : exec (.shr g) s = execShr g s := rfl
theorem exec_sar (g : Fin 216) (s : State) : exec (.sar g) s = execSar g s := rfl
theorem exec_mul (g : Fin 216) (s : State) : exec (.mul g) s = execMul g s := rfl
theorem exec_mulh (g : Fin 216) (s : State) : exec (.mulh g) s = execMulh g s := rfl
theorem exec_slt (g : Fin 216) (s : State) : exec (.slt g) s = execSlt g s := rfl
theorem exec_sltu (g : Fin 216) (s : State) : exec (.sltu g) s = execSltu g s := rfl
theorem exec_min (g : Fin 216) (s : State) : exec (.min g) s = execMin g s := rfl
theorem exec_max (g : Fin 216) (s : State) : exec (.max g) s = execMax g s := rfl
theorem exec_fadd (g : Fin 216) (s : State) : exec (.fadd g) s = execFadd g s := rfl
theorem exec_fsub (g : Fin 216) (s : State) : exec (.fsub g) s = execFsub g s := rfl
theorem exec_fmul (g : Fin 216) (s : State) : exec (.fmul g) s = execFmul g s := rfl
theorem exec_fmin (g : Fin 216) (s : State) : exec (.fmin g) s = execFmin g s := rfl
theorem exec_fmax (g : Fin 216) (s : State) : exec (.fmax g) s = execFmax g s := rfl
theorem exec_flt (g : Fin 216) (s : State) : exec (.flt g) s = execFlt g s := rfl
theorem exec_fcvti (g : Fin 216) (s : State) : exec (.fcvti g) s = execFcvti g s := rfl
theorem exec_fcvtf (g : Fin 216) (s : State) : exec (.fcvtf g) s = execFcvtf g s := rfl
theorem exec_addi (g : Fin 216) (s : State) : exec (.addi g) s = execAddi g s := rfl
theorem exec_andi (g : Fin 216) (s : State) : exec (.andi g) s = execAndi g s := rfl
theorem exec_ori (g : Fin 216) (s : State) : exec (.ori g) s = execOri g s := rfl
theorem exec_xori (g : Fin 216) (s : State) : exec (.xori g) s = execXori g s := rfl
theorem exec_shli (g : Fin 216) (s : State) : exec (.shli g) s = execShli g s := rfl
theorem exec_shri (g : Fin 216) (s : State) : exec (.shri g) s = execShri g s := rfl
theorem exec_sari (g : Fin 216) (s : State) : exec (.sari g) s = execSari g s := rfl
theorem exec_movh (g : Fin 216) (s : State) : exec (.movh g) s = execMovh g s := rfl
theorem exec_ld64 (g : Fin 216) (s : State) : exec (.ld64 g) s = execLd64 g s := rfl
theorem exec_ld32 (g : Fin 216) (s : State) : exec (.ld32 g) s = execLd32 g s := rfl
theorem exec_ld16 (g : Fin 216) (s : State) : exec (.ld16 g) s = execLd16 g s := rfl
theorem exec_ld8 (g : Fin 216) (s : State) : exec (.ld8 g) s = execLd8 g s := rfl
theorem exec_st64 (g : Fin 216) (s : State) : exec (.st64 g) s = execSt64 g s := rfl
theorem exec_st32 (g : Fin 216) (s : State) : exec (.st32 g) s = execSt32 g s := rfl
theorem exec_st16 (g : Fin 216) (s : State) : exec (.st16 g) s = execSt16 g s := rfl
theorem exec_st8 (g : Fin 216) (s : State) : exec (.st8 g) s = execSt8 g s := rfl
theorem exec_beq (g : Fin 216) (s : State) : exec (.beq g) s = execBeq g s := rfl
theorem exec_bne (g : Fin 216) (s : State) : exec (.bne g) s = execBne g s := rfl
theorem exec_blt (g : Fin 216) (s : State) : exec (.blt g) s = execBlt g s := rfl
theorem exec_bge (g : Fin 216) (s : State) : exec (.bge g) s = execBge g s := rfl
theorem exec_bltu (g : Fin 216) (s : State) : exec (.bltu g) s = execBltu g s := rfl
theorem exec_bgeu (g : Fin 216) (s : State) : exec (.bgeu g) s = execBgeu g s := rfl
theorem exec_jmp (g : Fin 216) (s : State) : exec (.jmp g) s = execJmp g s := rfl
theorem exec_jr (g : Fin 216) (s : State) : exec (.jr g) s = execJr g s := rfl
theorem exec_bsum (g : Fin 216) (s : State) : exec (.bsum g) s = execBsum g s := rfl
theorem exec_srd (g : Fin 216) (s : State) : exec (.srd g) s = execSrd g s := rfl
theorem exec_sflg (g : Fin 216) (s : State) : exec (.sflg g) s = execSflg g s := rfl
theorem exec_issue (g : Fin 216) (s : State) : exec (.issue g) s = execIssue g s := rfl
theorem exec_fence (g : Fin 216) (s : State) : exec (.fence g) s = execFence g s := rfl
theorem exec_waitc (g : Fin 216) (s : State) : exec (.waitc g) s = execWaitc g s := rfl
theorem exec_waitcRelease (g : Fin 216) (s : State) : exec (.waitcRelease g) s = execWaitcRelease g s := rfl
theorem exec_bar (g : Fin 216) (s : State) : exec (.bar g) s = execBar g s := rfl
theorem exec_barComplete (n : Fin 12) (s : State) : exec (.barComplete n) s = execBarComplete n s := rfl
theorem exec_poll (g : Fin 216) (s : State) : exec (.poll g) s = execPoll g s := rfl
theorem exec_csrr (g : Fin 216) (s : State) : exec (.csrr g) s = execCsrr g s := rfl
theorem exec_csrw (g : Fin 216) (s : State) : exec (.csrw g) s = execCsrw g s := rfl
theorem exec_note (g : Fin 216) (s : State) : exec (.note g) s = execNote g s := rfl
theorem exec_stepend (g : Fin 216) (s : State) : exec (.stepend g) s = execStepend g s := rfl
theorem exec_haltStop (n : Fin 12) (t : Nat) (s : State) : exec (.haltStop n t) s = execHaltStop n t s := rfl
theorem exec_rakingPieceStart (n : Fin 12) (t : Nat) (s : State) : exec (.rakingPieceStart n t) s = execRakingPieceStart n t s := rfl
theorem exec_rakingPieceEnd (n : Fin 12) (t : Nat) (s : State) : exec (.rakingPieceEnd n t) s = execRakingPieceEnd n t s := rfl
theorem exec_scheduleFault (g : Fin 216) (unit : Nat) (slot : Nat) (s : State) : exec (.scheduleFault g unit slot) s = execScheduleFault g unit slot s := rfl
theorem exec_mmul (g : Fin 216) (s : State) : exec (.mmul g) s = execMmul g s := rfl
theorem exec_mmulComplete (g : Fin 216) (s : State) : exec (.mmulComplete g) s = execMmulComplete g s := rfl
theorem exec_mmulWritebackEnd (g : Fin 216) (s : State) : exec (.mmulWritebackEnd g) s = execMmulWritebackEnd g s := rfl
theorem exec_linIn (g : Fin 216) (s : State) : exec (.linIn g) s = execLinIn g s := rfl
theorem exec_linOut (g : Fin 216) (s : State) : exec (.linOut g) s = execLinOut g s := rfl
theorem exec_skewIn (g : Fin 216) (s : State) : exec (.skewIn g) s = execSkewIn g s := rfl
theorem exec_skewLocal (g : Fin 216) (s : State) : exec (.skewLocal g) s = execSkewLocal g s := rfl
theorem exec_weightIn (g : Fin 216) (s : State) : exec (.weightIn g) s = execWeightIn g s := rfl
theorem exec_fill (g : Fin 216) (s : State) : exec (.fill g) s = execFill g s := rfl
theorem exec_layoutOpComplete (g : Fin 216) (c : Nat) (s : State) : exec (.layoutOpComplete g c) s = execLayoutOpComplete g c s := rfl
theorem exec_vectorAdd (g : Fin 216) (s : State) : exec (.vectorAdd g) s = execVectorAdd g s := rfl
theorem exec_vectorSub (g : Fin 216) (s : State) : exec (.vectorSub g) s = execVectorSub g s := rfl
theorem exec_vectorMul (g : Fin 216) (s : State) : exec (.vectorMul g) s = execVectorMul g s := rfl
theorem exec_vectorMax (g : Fin 216) (s : State) : exec (.vectorMax g) s = execVectorMax g s := rfl
theorem exec_vectorMin (g : Fin 216) (s : State) : exec (.vectorMin g) s = execVectorMin g s := rfl
theorem exec_axpy (g : Fin 216) (s : State) : exec (.axpy g) s = execAxpy g s := rfl
theorem exec_affine (g : Fin 216) (s : State) : exec (.affine g) s = execAffine g s := rfl
theorem exec_muls (g : Fin 216) (s : State) : exec (.muls g) s = execMuls g s := rfl
theorem exec_sel (g : Fin 216) (s : State) : exec (.sel g) s = execSel g s := rfl
theorem exec_abs (g : Fin 216) (s : State) : exec (.abs g) s = execAbs g s := rfl
theorem exec_exp (g : Fin 216) (s : State) : exec (.exp g) s = execExp g s := rfl
theorem exec_log (g : Fin 216) (s : State) : exec (.log g) s = execLog g s := rfl
theorem exec_recip (g : Fin 216) (s : State) : exec (.recip g) s = execRecip g s := rfl
theorem exec_rsqrt (g : Fin 216) (s : State) : exec (.rsqrt g) s = execRsqrt g s := rfl
theorem exec_sigm (g : Fin 216) (s : State) : exec (.sigm g) s = execSigm g s := rfl
theorem exec_silu (g : Fin 216) (s : State) : exec (.silu g) s = execSilu g s := rfl
theorem exec_reduceSum (g : Fin 216) (s : State) : exec (.reduceSum g) s = execReduceSum g s := rfl
theorem exec_sumsq (g : Fin 216) (s : State) : exec (.sumsq g) s = execSumsq g s := rfl
theorem exec_reduceMax (g : Fin 216) (s : State) : exec (.reduceMax g) s = execReduceMax g s := rfl
theorem exec_reduceMin (g : Fin 216) (s : State) : exec (.reduceMin g) s = execReduceMin g s := rfl
theorem exec_argmax (g : Fin 216) (s : State) : exec (.argmax g) s = execArgmax g s := rfl
theorem exec_topk (g : Fin 216) (s : State) : exec (.topk g) s = execTopk g s := rfl
theorem exec_cast (g : Fin 216) (s : State) : exec (.cast g) s = execCast g s := rfl
theorem exec_quantMx (g : Fin 216) (s : State) : exec (.quantMx g) s = execQuantMx g s := rfl
theorem exec_quantG16 (g : Fin 216) (s : State) : exec (.quantG16 g) s = execQuantG16 g s := rfl
theorem exec_compress (g : Fin 216) (s : State) : exec (.compress g) s = execCompress g s := rfl
theorem exec_expand (g : Fin 216) (s : State) : exec (.expand g) s = execExpand g s := rfl
theorem exec_constFill (g : Fin 216) (s : State) : exec (.constFill g) s = execConstFill g s := rfl
theorem exec_sinit (g : Fin 216) (s : State) : exec (.sinit g) s = execSinit g s := rfl
theorem exec_sacc (g : Fin 216) (s : State) : exec (.sacc g) s = execSacc g s := rfl
theorem exec_sout (g : Fin 216) (s : State) : exec (.sout g) s = execSout g s := rfl
theorem exec_penalize (g : Fin 216) (s : State) : exec (.penalize g) s = execPenalize g s := rfl
theorem exec_select (g : Fin 216) (s : State) : exec (.select g) s = execSelect g s := rfl
theorem exec_probof (g : Fin 216) (s : State) : exec (.probof g) s = execProbof g s := rfl
theorem exec_attn (g : Fin 216) (s : State) : exec (.attn g) s = execAttn g s := rfl
theorem exec_attnComplete (g : Fin 216) (s : State) : exec (.attnComplete g) s = execAttnComplete g s := rfl
theorem exec_gather (g : Fin 216) (s : State) : exec (.gather g) s = execGather g s := rfl
theorem exec_kvAppend (g : Fin 216) (s : State) : exec (.kvAppend g) s = execKvAppend g s := rfl
theorem exec_accept (g : Fin 216) (s : State) : exec (.accept g) s = execAccept g s := rfl
theorem exec_attach (g : Fin 216) (s : State) : exec (.attach g) s = execAttach g s := rfl
theorem exec_snap (g : Fin 216) (s : State) : exec (.snap g) s = execSnap g s := rfl
theorem exec_kvOpComplete (g : Fin 216) (c : Nat) (s : State) : exec (.kvOpComplete g c) s = execKvOpComplete g c s := rfl
theorem exec_engineOpComplete (g : Fin 216) (e : Fin 8) (s : State) : exec (.engineOpComplete g e) s = execEngineOpComplete g e s := rfl
theorem exec_stepBoundary (n : Fin 12) (t : Nat) (s : State) : exec (.stepBoundary n t) s = execStepBoundary n t s := rfl
theorem exec_rakePauseEnd (n : Fin 12) (t : Nat) (s : State) : exec (.rakePauseEnd n t) s = execRakePauseEnd n t s := rfl
theorem exec_switchWritebackDone (n : Fin 12) (t : Nat) (s : State) : exec (.switchWritebackDone n t) s = execSwitchWritebackDone n t s := rfl
theorem exec_slotMapsInForce (n : Fin 12) (t : Nat) (s : State) : exec (.slotMapsInForce n t) s = execSlotMapsInForce n t s := rfl
theorem exec_tierSCopyDone (n : Fin 12) (t : Nat) (s : State) : exec (.tierSCopyDone n t) s = execTierSCopyDone n t s := rfl
theorem exec_switchPrologueDone (n : Fin 12) (t : Nat) (s : State) : exec (.switchPrologueDone n t) s = execSwitchPrologueDone n t s := rfl
theorem exec_stepRecordDelivery (n : Fin 12) (t : Nat) (s : State) : exec (.stepRecordDelivery n t) s = execStepRecordDelivery n t s := rfl
theorem exec_boundaryRecord (n : Fin 12) (t : Nat) (s : State) : exec (.boundaryRecord n t) s = execBoundaryRecord n t s := rfl
theorem exec_queueMessageWrite (n : Fin 12) (q : Fin 16) (stamp : Nat) (msg : List Byte) (t : Nat) (s : State) : exec (.queueMessageWrite n q stamp msg t) s = execQueueMessageWrite n q stamp msg t s := rfl
theorem exec_writeBackPage (n : Fin 12) (t : Nat) (s : State) : exec (.writeBackPage n t) s = execWriteBackPage n t s := rfl
theorem exec_kvReleaseUnit (n : Fin 12) (t : Nat) (s : State) : exec (.kvReleaseUnit n t) s = execKvReleaseUnit n t s := rfl
theorem exec_scrubUnit (n : Fin 12) (t : Nat) (s : State) : exec (.scrubUnit n t) s = execScrubUnit n t s := rfl
theorem exec_arrayCheckUnit (n : Fin 12) (t : Nat) (s : State) : exec (.arrayCheckUnit n t) s = execArrayCheckUnit n t s := rfl
theorem exec_calibrationUnit (n : Fin 12) (t : Nat) (s : State) : exec (.calibrationUnit n t) s = execCalibrationUnit n t s := rfl
theorem exec_agingMonitorUnit (n : Fin 12) (t : Nat) (s : State) : exec (.agingMonitorUnit n t) s = execAgingMonitorUnit n t s := rfl
theorem exec_telemetryUnit (n : Fin 12) (t : Nat) (s : State) : exec (.telemetryUnit n t) s = execTelemetryUnit n t s := rfl
theorem exec_digestRecheck (n : Fin 12) (t : Nat) (s : State) : exec (.digestRecheck n t) s = execDigestRecheck n t s := rfl
theorem exec_passOverdue (n : Fin 12) (task : Nat) (t : Nat) (s : State) : exec (.passOverdue n task t) s = execPassOverdue n task t s := rfl
theorem exec_backgroundWakeDue (n : Fin 12) (t : Nat) (s : State) : exec (.backgroundWakeDue n t) s = execBackgroundWakeDue n t s := rfl
theorem exec_channelMigrationUnit (n : Fin 12) (t : Nat) (s : State) : exec (.channelMigrationUnit n t) s = execChannelMigrationUnit n t s := rfl
theorem exec_rowRepair (k : Fin 12) (t : Nat) (s : State) : exec (.rowRepair k t) s = execRowRepair k t s := rfl
theorem exec_spareManifestStore (ok : Bool) (t : Nat) (s : State) : exec (.spareManifestStore ok t) s = execSpareManifestStore ok t s := rfl
theorem exec_channelFailure (k : Fin 12) (ch : Nat) (t : Nat) (s : State) : exec (.channelFailure k ch t) s = execChannelFailure k ch t s := rfl
theorem exec_substrateChannelFailure (k : Fin 12) (ch : Nat) (t : Nat) (s : State) : exec (.substrateChannelFailure k ch t) s = execSubstrateChannelFailure k ch t s := rfl
theorem exec_shardArrival (n : Fin 12) (w : Fin 8) (shard : Nat) (data : List Byte) (t : Nat) (s : State) : exec (.shardArrival n w shard data t) s = execShardArrival n w shard data t s := rfl
theorem exec_refetchComplete (n : Fin 12) (w : Fin 8) (shard : Nat) (ok : Bool) (t : Nat) (s : State) : exec (.refetchComplete n w shard ok t) s = execRefetchComplete n w shard ok t s := rfl
theorem exec_holdLimitExpiry (n : Fin 12) (w : Fin 8) (t : Nat) (s : State) : exec (.holdLimitExpiry n w t) s = execHoldLimitExpiry n w t s := rfl
theorem exec_evictionCopyComplete (n : Fin 12) (w : Fin 8) (t : Nat) (s : State) : exec (.evictionCopyComplete n w t) s = execEvictionCopyComplete n w t s := rfl
theorem exec_load (r : Rq) (n : Fin 12) (s : State) : exec (.load r n) s = execLoad r n s := rfl
theorem exec_unload (r : Rq) (n : Fin 12) (s : State) : exec (.unload r n) s = execUnload r n s := rfl
theorem exec_nanClear (r : Rq) (n : Fin 12) (s : State) : exec (.nanClear r n) s = execNanClear r n s := rfl
theorem exec_handleRelease (r : Rq) (n : Fin 12) (v : List Byte) (s : State) : exec (.handleRelease r n v) s = execHandleRelease r n v s := rfl
theorem exec_regionCreate (r : Rq) (n : Fin 12) (v : List Byte) (s : State) : exec (.regionCreate r n v) s = execRegionCreate r n v s := rfl
theorem exec_regionDelete (r : Rq) (n : Fin 12) (v : List Byte) (s : State) : exec (.regionDelete r n v) s = execRegionDelete r n v s := rfl
theorem exec_flushAll (r : Rq) (n : Fin 12) (s : State) : exec (.flushAll r n) s = execFlushAll r n s := rfl
theorem exec_wsetRegister (r : Rq) (n : Fin 12) (s : State) : exec (.wsetRegister r n) s = execWsetRegister r n s := rfl
theorem exec_wsetFetch (r : Rq) (n : Fin 12) (s : State) : exec (.wsetFetch r n) s = execWsetFetch r n s := rfl
theorem exec_wsetRelease (r : Rq) (n : Fin 12) (s : State) : exec (.wsetRelease r n) s = execWsetRelease r n s := rfl
theorem exec_epochSwitch (r : Rq) (n : Fin 12) (v : List Byte) (s : State) : exec (.epochSwitch r n v) s = execEpochSwitch r n v s := rfl
theorem exec_jobDrain (r : Rq) (n : Fin 12) (v : List Byte) (s : State) : exec (.jobDrain r n v) s = execJobDrain r n v s := rfl
theorem exec_lrResume (r : Rq) (n : Fin 12) (v : List Byte) (s : State) : exec (.lrResume r n v) s = execLrResume r n v s := rfl
theorem exec_turnArm (r : Rq) (n : Fin 12) (s : State) : exec (.turnArm r n) s = execTurnArm r n s := rfl
theorem exec_turnDisarm (r : Rq) (n : Fin 12) (s : State) : exec (.turnDisarm r n) s = execTurnDisarm r n s := rfl
theorem exec_bufferReg (r : Rq) (n : Fin 12) (v : List Byte) (s : State) : exec (.bufferReg r n v) s = execBufferReg r n v s := rfl
theorem exec_bufferDereg (r : Rq) (n : Fin 12) (v : List Byte) (s : State) : exec (.bufferDereg r n v) s = execBufferDereg r n v s := rfl
theorem exec_bufferFreed (n : Fin 12) (rkey : Nat) (t : Nat) (s : State) : exec (.bufferFreed n rkey t) s = execBufferFreed n rkey t s := rfl
theorem exec_trigOps (r : Rq) (n : Fin 12) (v : List Byte) (s : State) : exec (.trigOps r n v) s = execTrigOps r n v s := rfl
theorem exec_objInstall (r : Rq) (s : State) : exec (.objInstall r) s = execObjInstall r s := rfl
theorem exec_fwSvnCommit (r : Rq) (s : State) : exec (.fwSvnCommit r) s = execFwSvnCommit r s := rfl
theorem exec_opCredAdd (r : Rq) (v : List Byte) (s : State) : exec (.opCredAdd r v) s = execOpCredAdd r v s := rfl
theorem exec_opCredRemove (r : Rq) (v : List Byte) (s : State) : exec (.opCredRemove r v) s = execOpCredRemove r v s := rfl
theorem exec_credAdd (r : Rq) (ts : Fin 12) (v : List Byte) (s : State) : exec (.credAdd r ts v) s = execCredAdd r ts v s := rfl
theorem exec_credRemove (r : Rq) (ts : Fin 12) (v : List Byte) (s : State) : exec (.credRemove r ts v) s = execCredRemove r ts v s := rfl
theorem exec_setkeyInstall (r : Rq) (ts : Fin 12) (v : List Byte) (s : State) : exec (.setkeyInstall r ts v) s = execSetkeyInstall r ts v s := rfl
theorem exec_setkeyRemove (r : Rq) (ts : Fin 12) (v : List Byte) (s : State) : exec (.setkeyRemove r ts v) s = execSetkeyRemove r ts v s := rfl
theorem exec_attest (r : Rq) (n : Fin 12) (v : List Byte) (s : State) : exec (.attest r n v) s = execAttest r n v s := rfl
theorem exec_moduleAttest (r : Rq) (v : List Byte) (s : State) : exec (.moduleAttest r v) s = execModuleAttest r v s := rfl
theorem exec_ashOut (r : Rq) (v : List Byte) (flashOk : Bool) (s : State) : exec (.ashOut r v flashOk) s = execAshOut r v flashOk s := rfl
theorem exec_ashOutZeroingStart (n : Fin 12) (t : Nat) (s : State) : exec (.ashOutZeroingStart n t) s = execAshOutZeroingStart n t s := rfl
theorem exec_ashOutCheck (n : Fin 12) (ok : Bool) (t : Nat) (s : State) : exec (.ashOutCheck n ok t) s = execAshOutCheck n ok t s := rfl
theorem exec_ashOutEnd (n : Fin 12) (t : Nat) (s : State) : exec (.ashOutEnd n t) s = execAshOutEnd n t s := rfl
theorem exec_wake (r : Rq) (n : Fin 12) (s : State) : exec (.wake r n) s = execWake r n s := rfl
theorem exec_wakeAtReached (n : Fin 12) (t : Nat) (s : State) : exec (.wakeAtReached n t) s = execWakeAtReached n t s := rfl
theorem exec_fmStart (r : Rq) (k : Fin 12) (s : State) : exec (.fmStart r k) s = execFmStart r k s := rfl
theorem exec_fmDone (k : Fin 12) (count : Nat) (t : Nat) (s : State) : exec (.fmDone k count t) s = execFmDone k count t s := rfl
theorem exec_resetModule (r : Rq) (s : State) : exec (.resetModule r) s = execResetModule r s := rfl
theorem exec_resetPartition (r : Rq) (v : List Byte) (s : State) : exec (.resetPartition r v) s = execResetPartition r v s := rfl
theorem exec_resetRick (r : Rq) (v : List Byte) (s : State) : exec (.resetRick r v) s = execResetRick r v s := rfl
theorem exec_resetHearth (r : Rq) (v : List Byte) (s : State) : exec (.resetHearth r v) s = execResetHearth r v s := rfl
theorem exec_kindlingEnd (r : Rq) (v : List Byte) (s : State) : exec (.kindlingEnd r v) s = execKindlingEnd r v s := rfl
theorem exec_traceTrigger (r : Rq) (n : Fin 12) (s : State) : exec (.traceTrigger r n) s = execTraceTrigger r n s := rfl
theorem exec_bpHalt (r : Rq) (n : Fin 12) (s : State) : exec (.bpHalt r n) s = execBpHalt r n s := rfl
theorem exec_bpResume (r : Rq) (n : Fin 12) (v : List Byte) (s : State) : exec (.bpResume r n v) s = execBpResume r n v s := rfl
theorem exec_haltLimitExpiry (n : Fin 12) (t : Nat) (s : State) : exec (.haltLimitExpiry n t) s = execHaltLimitExpiry n t s := rfl
theorem exec_snapshot (r : Rq) (n : Fin 12) (v : List Byte) (s : State) : exec (.snapshot r n v) s = execSnapshot r n v s := rfl
theorem exec_perfClear (r : Rq) (n : Fin 12) (s : State) : exec (.perfClear r n) s = execPerfClear r n s := rfl
theorem exec_traceSweep (n : Fin 12) (t : Nat) (s : State) : exec (.traceSweep n t) s = execTraceSweep n t s := rfl
theorem exec_rickMask (r : Rq) (n : Fin 12) (v : List Byte) (s : State) : exec (.rickMask r n v) s = execRickMask r n v s := rfl
theorem exec_queueMap (r : Rq) (n : Fin 12) (v : List Byte) (s : State) : exec (.queueMap r n v) s = execQueueMap r n v s := rfl
theorem exec_kvModels (r : Rq) (n : Fin 12) (v : List Byte) (s : State) : exec (.kvModels r n v) s = execKvModels r n v s := rfl
theorem exec_kvPoolPages (r : Rq) (n : Fin 12) (v : List Byte) (s : State) : exec (.kvPoolPages r n v) s = execKvPoolPages r n v s := rfl
theorem exec_tctPairs (r : Rq) (n : Fin 12) (v : List Byte) (s : State) : exec (.tctPairs r n v) s = execTctPairs r n v s := rfl
theorem exec_tctRegions (r : Rq) (n : Fin 12) (v : List Byte) (s : State) : exec (.tctRegions r n v) s = execTctRegions r n v s := rfl
theorem exec_auditRegion (r : Rq) (n : Fin 12) (v : List Byte) (s : State) : exec (.auditRegion r n v) s = execAuditRegion r n v s := rfl
theorem exec_evidRegion (r : Rq) (n : Fin 12) (v : List Byte) (s : State) : exec (.evidRegion r n v) s = execEvidRegion r n v s := rfl
theorem exec_lstatsRegion (r : Rq) (n : Fin 12) (v : List Byte) (s : State) : exec (.lstatsRegion r n v) s = execLstatsRegion r n v s := rfl
theorem exec_tenantId (r : Rq) (ts : Fin 12) (v : List Byte) (s : State) : exec (.tenantId r ts v) s = execTenantId r ts v s := rfl
theorem exec_partTenant (r : Rq) (n : Fin 12) (v : List Byte) (s : State) : exec (.partTenant r n v) s = execPartTenant r n v s := rfl
theorem exec_consent (r : Rq) (n : Fin 12) (v : List Byte) (s : State) : exec (.consent r n v) s = execConsent r n v s := rfl
theorem exec_partClockMhz (r : Rq) (n : Fin 12) (v : List Byte) (s : State) : exec (.partClockMhz r n v) s = execPartClockMhz r n v s := rfl
theorem exec_partBudgetW (r : Rq) (n : Fin 12) (v : List Byte) (s : State) : exec (.partBudgetW r n v) s = execPartBudgetW r n v s := rfl
theorem exec_txOwners (r : Rq) (p : Fin 16) (v : List Byte) (s : State) : exec (.txOwners r p v) s = execTxOwners r p v s := rfl
theorem exec_ethOwners (r : Rq) (e : Fin 8) (v : List Byte) (s : State) : exec (.ethOwners r e v) s = execEthOwners r e v s := rfl
theorem exec_connRec (r : Rq) (n : Fin 12) (v : List Byte) (s : State) : exec (.connRec r n v) s = execConnRec r n v s := rfl
theorem exec_groupRec (r : Rq) (n : Fin 12) (v : List Byte) (s : State) : exec (.groupRec r n v) s = execGroupRec r n v s := rfl
theorem exec_ringDesc (r : Rq) (n : Fin 12) (v : List Byte) (s : State) : exec (.ringDesc r n v) s = execRingDesc r n v s := rfl
theorem exec_traceBytes (r : Rq) (n : Fin 12) (v : List Byte) (s : State) : exec (.traceBytes r n v) s = execTraceBytes r n v s := rfl
theorem exec_traceEnable (r : Rq) (n : Fin 12) (v : List Byte) (s : State) : exec (.traceEnable r n v) s = execTraceEnable r n v s := rfl
theorem exec_bpRec (r : Rq) (n : Fin 12) (v : List Byte) (s : State) : exec (.bpRec r n v) s = execBpRec r n v s := rfl
theorem exec_kindlingPart (r : Rq) (v : List Byte) (s : State) : exec (.kindlingPart r v) s = execKindlingPart r v s := rfl
theorem exec_portEnable (r : Rq) (p : Fin 16) (v : List Byte) (s : State) : exec (.portEnable r p v) s = execPortEnable r p v s := rfl
theorem exec_registerWrite (r : Rq) (idx sub : Nat) (v : List Byte) (s : State) : exec (.registerWrite r idx sub v) s = execRegisterWrite r idx sub v s := rfl
theorem exec_hello (m : HelloMsg) (t : Nat) (s : State) : exec (.hello m t) s = execHello m t s := rfl
theorem exec_finish (ses seq : Nat) (sigsOk : Bool) (t : Nat) (s : State) : exec (.finish ses seq sigsOk t) s = execFinish ses seq sigsOk t s := rfl
theorem exec_finishTimeout (ses t : Nat) (s : State) : exec (.finishTimeout ses t) s = execFinishTimeout ses t s := rfl
theorem exec_dolliRead (r : Rq) (idx sub : Nat) (s : State) : exec (.dolliRead r idx sub) s = execDolliRead r idx sub s := rfl
theorem exec_readBlock (r : Rq) (idx sub off len : Nat) (snap : Bool) (s : State) : exec (.readBlock r idx sub off len snap) s = execReadBlock r idx sub off len snap s := rfl
theorem exec_writeBlock (r : Rq) (idx sub off : Nat) (first last : Bool) (v : List Byte) (s : State) : exec (.writeBlock r idx sub off first last v) s = execWriteBlock r idx sub off first last v s := rfl
theorem exec_subscribe (r : Rq) (idx sub : Nat) (cancel : Bool) (s : State) : exec (.subscribe r idx sub cancel) s = execSubscribe r idx sub cancel s := rfl
theorem exec_store (r : Rq) (idx sub : Nat) (flashOk : Bool) (s : State) : exec (.store r idx sub flashOk) s = execStore r idx sub flashOk s := rfl
theorem exec_notifySend (ses idx sub t : Nat) (s : State) : exec (.notifySend ses idx sub t) s = execNotifySend ses idx sub t s := rfl
theorem exec_notifyResend (ses idx sub t : Nat) (s : State) : exec (.notifyResend ses idx sub t) s = execNotifyResend ses idx sub t s := rfl
theorem exec_notifyAck (r : Rq) (s : State) : exec (.notifyAck r) s = execNotifyAck r s := rfl
theorem exec_dolliClose (r : Rq) (s : State) : exec (.dolliClose r) s = execDolliClose r s := rfl
theorem exec_sessionIdleTimeout (ses t : Nat) (s : State) : exec (.sessionIdleTimeout ses t) s = execSessionIdleTimeout ses t s := rfl
theorem exec_stagingExpiry (ses idx sub t : Nat) (s : State) : exec (.stagingExpiry ses idx sub t) s = execStagingExpiry ses idx sub t s := rfl
theorem exec_statusProbe (e : Fin 8) (endpoint : Nat) (t : Nat) (s : State) : exec (.statusProbe e endpoint t) s = execStatusProbe e endpoint t s := rfl
theorem exec_ethernetFrameReceive (e : Fin 8) (frame : List Byte) (fcsOk : Bool) (t : Nat) (s : State) : exec (.ethernetFrameReceive e frame fcsOk t) s = execEthernetFrameReceive e frame fcsOk t s := rfl
theorem exec_neighbourDiscovery (e : Fin 8) (target : List Byte) (t : Nat) (s : State) : exec (.neighbourDiscovery e target t) s = execNeighbourDiscovery e target t s := rfl
theorem exec_echoRequest (e : Fin 8) (dst : List Byte) (payload : List Byte) (t : Nat) (s : State) : exec (.echoRequest e dst payload t) s = execEchoRequest e dst payload t s := rfl
theorem exec_rdmaWrite (m : RoceMsg) (t : Nat) (s : State) : exec (.rdmaWrite m t) s = execRdmaWrite m t s := rfl
theorem exec_rdmaWriteImm (m : RoceMsg) (rcounter addv : Nat) (t : Nat) (s : State) : exec (.rdmaWriteImm m rcounter addv t) s = execRdmaWriteImm m rcounter addv t s := rfl
theorem exec_rdmaRead (m : RoceMsg) (t : Nat) (s : State) : exec (.rdmaRead m t) s = execRdmaRead m t s := rfl
theorem exec_roceAckTimeout (n : Fin 12) (c t : Nat) (s : State) : exec (.roceAckTimeout n c t) s = execRoceAckTimeout n c t s := rfl
theorem exec_runStart (e : Fin 8) (unit : Nat) (ready : Nat) (t : Nat) (s : State) : exec (.runStart e unit ready t) s = execRunStart e unit ready t s := rfl
theorem exec_ethLinkUp (e : Fin 8) (t : Nat) (s : State) : exec (.ethLinkUp e t) s = execEthLinkUp e t s := rfl
theorem exec_ethLinkDown (e : Fin 8) (t : Nat) (s : State) : exec (.ethLinkDown e t) s = execEthLinkDown e t s := rfl
theorem exec_put (m : FabMsg) (t : Nat) (s : State) : exec (.put m t) s = execPut m t s := rfl
theorem exec_getRequest (m : FabMsg) (t : Nat) (s : State) : exec (.getRequest m t) s = execGetRequest m t s := rfl
theorem exec_getResponse (m : FabMsg) (t : Nat) (s : State) : exec (.getResponse m t) s = execGetResponse m t s := rfl
theorem exec_reduceF32 (m : FabMsg) (t : Nat) (s : State) : exec (.reduceF32 m t) s = execReduceF32 m t s := rfl
theorem exec_reduceI32 (m : FabMsg) (t : Nat) (s : State) : exec (.reduceI32 m t) s = execReduceI32 m t s := rfl
theorem exec_counterAdd (m : FabMsg) (t : Nat) (s : State) : exec (.counterAdd m t) s = execCounterAdd m t s := rfl
theorem exec_token (m : FabMsg) (t : Nat) (s : State) : exec (.token m t) s = execToken m t s := rfl
theorem exec_ack (m : FabMsg) (t : Nat) (s : State) : exec (.ack m t) s = execAck m t s := rfl
theorem exec_maintFlit (p : Fin 16) (payload : List Byte) (t : Nat) (s : State) : exec (.maintFlit p payload t) s = execMaintFlit p payload t s := rfl
theorem exec_transitFlit (p : Fin 16) (pos : Nat) (flit : List Byte) (t : Nat) (s : State) : exec (.transitFlit p pos flit t) s = execTransitFlit p pos flit t s := rfl
theorem exec_opTimeout (n : Fin 12) (owner op t : Nat) (s : State) : exec (.opTimeout n owner op t) s = execOpTimeout n owner op t s := rfl
theorem exec_triggerRingRecord (n : Fin 12) (job : Fin 8) (t : Nat) (s : State) : exec (.triggerRingRecord n job t) s = execTriggerRingRecord n job t s := rfl
theorem exec_allreduce (n : Fin 12) (gr : Fin 64) (t : Nat) (s : State) : exec (.allreduce n gr t) s = execAllreduce n gr t s := rfl
theorem exec_reduceScatter (n : Fin 12) (gr : Fin 64) (t : Nat) (s : State) : exec (.reduceScatter n gr t) s = execReduceScatter n gr t s := rfl
theorem exec_allgather (n : Fin 12) (gr : Fin 64) (t : Nat) (s : State) : exec (.allgather n gr t) s = execAllgather n gr t s := rfl
theorem exec_alltoallv (n : Fin 12) (gr : Fin 64) (t : Nat) (s : State) : exec (.alltoallv n gr t) s = execAlltoallv n gr t s := rfl
theorem exec_barrier (n : Fin 12) (gr : Fin 64) (t : Nat) (s : State) : exec (.barrier n gr t) s = execBarrier n gr t s := rfl
theorem exec_linkTrainingStart (p : Fin 16) (t : Nat) (s : State) : exec (.linkTrainingStart p t) s = execLinkTrainingStart p t s := rfl
theorem exec_portRetrain (r : Rq) (p : Fin 16) (s : State) : exec (.portRetrain r p) s = execPortRetrain r p s := rfl
theorem exec_equalisationComplete (p : Fin 16) (locked : Nat) (t : Nat) (s : State) : exec (.equalisationComplete p locked t) s = execEqualisationComplete p locked t s := rfl
theorem exec_peerIdentityExchange (p : Fin 16) (peer : Nat) (t : Nat) (s : State) : exec (.peerIdentityExchange p peer t) s = execPeerIdentityExchange p peer t s := rfl
theorem exec_linkUp (p : Fin 16) (t : Nat) (s : State) : exec (.linkUp p t) s = execLinkUp p t s := rfl
theorem exec_trainingTimeout (p : Fin 16) (t : Nat) (s : State) : exec (.trainingTimeout p t) s = execTrainingTimeout p t s := rfl
theorem exec_laneSwap (p : Fin 16) (lane : Nat) (t : Nat) (s : State) : exec (.laneSwap p lane t) s = execLaneSwap p lane t s := rfl
theorem exec_laneSwapResume (p : Fin 16) (t : Nat) (s : State) : exec (.laneSwapResume p t) s = execLaneSwapResume p t s := rfl
theorem exec_portDown (p : Fin 16) (t : Nat) (s : State) : exec (.portDown p t) s = execPortDown p t s := rfl
theorem exec_cablePresent (p : Fin 16) (present : Bool) (t : Nat) (s : State) : exec (.cablePresent p present t) s = execCablePresent p present t s := rfl
theorem exec_gateToken (m : FabMsg) (t : Nat) (s : State) : exec (.gateToken m t) s = execGateToken m t s := rfl
theorem exec_gateTimeout (n : Fin 12) (t : Nat) (s : State) : exec (.gateTimeout n t) s = execGateTimeout n t s := rfl
theorem exec_voteRound (m : FabMsg) (t : Nat) (s : State) : exec (.voteRound m t) s = execVoteRound m t s := rfl
theorem exec_verdictTimeout (n : Fin 12) (t : Nat) (s : State) : exec (.verdictTimeout n t) s = execVerdictTimeout n t s := rfl
theorem exec_verdictQuery (m : FabMsg) (t : Nat) (s : State) : exec (.verdictQuery m t) s = execVerdictQuery m t s := rfl
theorem exec_turnWrite (m : FabMsg) (t : Nat) (s : State) : exec (.turnWrite m t) s = execTurnWrite m t s := rfl
theorem exec_turnWriteRetry (n : Fin 12) (entry t : Nat) (s : State) : exec (.turnWriteRetry n entry t) s = execTurnWriteRetry n entry t s := rfl
theorem exec_turnFinal (m : FabMsg) (t : Nat) (s : State) : exec (.turnFinal m t) s = execTurnFinal m t s := rfl
theorem exec_turnParked (m : FabMsg) (t : Nat) (s : State) : exec (.turnParked m t) s = execTurnParked m t s := rfl
theorem exec_turnFail (m : FabMsg) (t : Nat) (s : State) : exec (.turnFail m t) s = execTurnFail m t s := rfl
theorem exec_turnSwitch (m : FabMsg) (t : Nat) (s : State) : exec (.turnSwitch m t) s = execTurnSwitch m t s := rfl
theorem exec_turnAbort (m : FabMsg) (t : Nat) (s : State) : exec (.turnAbort m t) s = execTurnAbort m t s := rfl
theorem exec_turnUnpark (m : FabMsg) (t : Nat) (s : State) : exec (.turnUnpark m t) s = execTurnUnpark m t s := rfl
theorem exec_turnQuery (m : FabMsg) (t : Nat) (s : State) : exec (.turnQuery m t) s = execTurnQuery m t s := rfl
theorem exec_turnTokenResend (n : Fin 12) (t : Nat) (s : State) : exec (.turnTokenResend n t) s = execTurnTokenResend n t s := rfl
theorem exec_turnLimitExpiry (n : Fin 12) (t : Nat) (s : State) : exec (.turnLimitExpiry n t) s = execTurnLimitExpiry n t s := rfl
theorem exec_turnParkExpiry (n : Fin 12) (t : Nat) (s : State) : exec (.turnParkExpiry n t) s = execTurnParkExpiry n t s := rfl
theorem exec_slotBoundary (t : Nat) (s : State) : exec (.slotBoundary t) s = execSlotBoundary t s := rfl
theorem exec_staggerExpiry (n : Fin 12) (t : Nat) (s : State) : exec (.staggerExpiry n t) s = execStaggerExpiry n t s := rfl
theorem exec_rickWakeComplete (k : Fin 12) (t : Nat) (s : State) : exec (.rickWakeComplete k t) s = execRickWakeComplete k t s := rfl
theorem exec_wakeBoundReached (n : Fin 12) (t : Nat) (s : State) : exec (.wakeBoundReached n t) s = execWakeBoundReached n t s := rfl
theorem exec_idleHoldExpiry (n : Fin 12) (t : Nat) (s : State) : exec (.idleHoldExpiry n t) s = execIdleHoldExpiry n t s := rfl
theorem exec_stateEntryComplete (k : Fin 12) (t : Nat) (s : State) : exec (.stateEntryComplete k t) s = execStateEntryComplete k t s := rfl
theorem exec_budgetWindow (n : Fin 12) (meanW : Nat) (t : Nat) (s : State) : exec (.budgetWindow n meanW t) s = execBudgetWindow n meanW t s := rfl
theorem exec_overrunWindow (n : Fin 12) (meanW : Nat) (t : Nat) (s : State) : exec (.overrunWindow n meanW t) s = execOverrunWindow n meanW t s := rfl
theorem exec_emergencyRaise (cause : Fin 8) (t : Nat) (s : State) : exec (.emergencyRaise cause t) s = execEmergencyRaise cause t s := rfl
theorem exec_emergencyEnd (t : Nat) (s : State) : exec (.emergencyEnd t) s = execEmergencyEnd t s := rfl
theorem exec_phaseFailure (k : Fin 12) (t : Nat) (s : State) : exec (.phaseFailure k t) s = execPhaseFailure k t s := rfl
theorem exec_inputOutOfRange (mv : Nat) (t : Nat) (s : State) : exec (.inputOutOfRange mv t) s = execInputOutOfRange mv t s := rfl
theorem exec_powerValid (t : Nat) (s : State) : exec (.powerValid t) s = execPowerValid t s := rfl
theorem exec_presenceOpen (t : Nat) (s : State) : exec (.presenceOpen t) s = execPresenceOpen t s := rfl
theorem exec_alertAssert (t : Nat) (s : State) : exec (.alertAssert t) s = execAlertAssert t s := rfl
theorem exec_alertRelease (t : Nat) (s : State) : exec (.alertRelease t) s = execAlertRelease t s := rfl
theorem exec_thermalCondition (on : Bool) (t : Nat) (s : State) : exec (.thermalCondition on t) s = execThermalCondition on t s := rfl
theorem exec_thermalShutdown (t : Nat) (s : State) : exec (.thermalShutdown t) s = execThermalShutdown t s := rfl
theorem exec_thermalRestart (t : Nat) (s : State) : exec (.thermalRestart t) s = execThermalRestart t s := rfl
theorem exec_referenceLoss (ref : Fin 2) (t : Nat) (s : State) : exec (.referenceLoss ref t) s = execReferenceLoss ref t s := rfl
theorem exec_referenceCompare (ppm : Int) (t : Nat) (s : State) : exec (.referenceCompare ppm t) s = execReferenceCompare ppm t s := rfl
theorem exec_bothReferencesLost (t : Nat) (s : State) : exec (.bothReferencesLost t) s = execBothReferencesLost t s := rfl
theorem exec_referenceRestored (ref : Fin 2) (t : Nat) (s : State) : exec (.referenceRestored ref t) s = execReferenceRestored ref t s := rfl
theorem exec_sourceStable (k : Fin 12) (t : Nat) (s : State) : exec (.sourceStable k t) s = execSourceStable k t s := rfl
theorem exec_sourceTimeout (k : Fin 12) (t : Nat) (s : State) : exec (.sourceTimeout k t) s = execSourceTimeout k t s := rfl
theorem exec_monitorWindow (k : Fin 12) (count : Nat) (t : Nat) (s : State) : exec (.monitorWindow k count t) s = execMonitorWindow k count t s := rfl
theorem exec_sourceFailure (k : Fin 12) (t : Nat) (s : State) : exec (.sourceFailure k t) s = execSourceFailure k t s := rfl
theorem exec_controllerClockFailure (k : Fin 12) (t : Nat) (s : State) : exec (.controllerClockFailure k t) s = execControllerClockFailure k t s := rfl
theorem exec_tinderStart (okA okB : Bool) (t : Nat) (s : State) : exec (.tinderStart okA okB t) s = execTinderStart okA okB t s := rfl
theorem exec_collierReady (t : Nat) (s : State) : exec (.collierReady t) s = execCollierReady t s := rfl
theorem exec_rickBringupStart (k : Fin 12) (t : Nat) (s : State) : exec (.rickBringupStart k t) s = execRickBringupStart k t s := rfl
theorem exec_rickReady (k : Fin 12) (ok : Bool) (t : Nat) (s : State) : exec (.rickReady k ok t) s = execRickReady k ok t s := rfl
theorem exec_fullService (t : Nat) (s : State) : exec (.fullService t) s = execFullService t s := rfl
theorem exec_trialTimeout (t : Nat) (s : State) : exec (.trialTimeout t) s = execTrialTimeout t s := rfl
theorem exec_watchdogExpiry (t : Nat) (s : State) : exec (.watchdogExpiry t) s = execWatchdogExpiry t s := rfl
theorem exec_lockstepMismatch (t : Nat) (s : State) : exec (.lockstepMismatch t) s = execLockstepMismatch t s := rfl
theorem exec_kindlingStart (t : Nat) (s : State) : exec (.kindlingStart t) s = execKindlingStart t s := rfl
theorem exec_presenceClose (bulkmV inmV : Nat) (t : Nat) (s : State) : exec (.presenceClose bulkmV inmV t) s = execPresenceClose bulkmV inmV t s := rfl
theorem exec_pluggableModuleInsert (e : Fin 8) (watts : Nat) (t : Nat) (s : State) : exec (.pluggableModuleInsert e watts t) s = execPluggableModuleInsert e watts t s := rfl
theorem exec_roceAcknowledgement (n : Fin 12) (c : Nat) (psn : Nat) (nak : Bool) (data : List Byte) (t : Nat) (s : State) : exec (.roceAcknowledgement n c psn nak data t) s = execRoceAcknowledgement n c psn nak data t s := rfl
theorem exec_traceSample (n : Fin 12) (t : Nat) (s : State) : exec (.traceSample n t) s = execTraceSample n t s := rfl
theorem exec_hearthWearStore (t : Nat) (s : State) : exec (.hearthWearStore t) s = execHearthWearStore t s := rfl

end Sys2Proof.Laws
end

