-- ==== Sys2Proof/Laws/State.lean ====
section
/-!
SUPPORT. Tables and updates of the state: what a read gives after an update, one lemma for each field that an update leaves alone.
-/
namespace Sys2Proof.Laws
open Sys2Proof.Machine

/-! Tables -/

@[simp] theorem look_put {α : Type} (m : Tab α) (k : Nat) (v : α) (i : Nat) : Tab.look (Tab.put m k v) i = if i = k then some v else Tab.look m i := by
  induction m with
  | nil => simp only [Tab.put, Tab.look]; repeat' (split <;> try (first | rfl | omega))
  | cons x r ih =>
    obtain ⟨a, b⟩ := x
    simp only [Tab.put]
    split
    · simp only [Tab.look]; repeat' (split <;> try (first | rfl | omega))
    · split
      · subst_vars; simp only [Tab.look]; repeat' (split <;> try (first | rfl | omega))
      · simp only [Tab.look, ih]; repeat' (split <;> try (first | rfl | omega))

@[simp] theorem getD_put {α : Type} (m : Tab α) (k : Nat) (v : α) (i : Nat) (d : α) : Tab.getD (Tab.put m k v) i d = if i = k then v else Tab.getD m i d := by
  simp only [Tab.getD, look_put]; split <;> rfl

/-! Objects after an update -/

@[simp] theorem hearth_setHearth (s : State) (g : Nat) (h : Hearth) (i : Nat) : (s.setHearth g h).hearth i = if i = g then h else s.hearth i := getD_put ..
@[simp] theorem hearth_onHearth (s : State) (g : Nat) (f : Hearth → Hearth) (i : Nat) : (s.onHearth g f).hearth i = if i = g then f (s.hearth g) else s.hearth i := getD_put ..
@[simp] theorem part_setPart (s : State) (n : Nat) (p : Part) (i : Nat) : (s.setPart n p).part i = if i = n then p else s.part i := getD_put ..
@[simp] theorem part_onPart (s : State) (n : Nat) (f : Part → Part) (i : Nat) : (s.onPart n f).part i = if i = n then f (s.part n) else s.part i := getD_put ..
@[simp] theorem rick_onRick (s : State) (k : Nat) (f : Rick → Rick) (i : Nat) : (s.onRick k f).rick i = if i = k then f (s.rick k) else s.rick i := getD_put ..

/-! Dictionary values after an update -/

@[simp] theorem dval_setVal (s : State) (k : Nat) (v : DVal) (i : Nat) : (s.setVal k v).dval i = if i = k then v else s.dval i := by
  simp only [State.dval, State.setVal, look_put]
  by_cases h : i = k <;> simp [h]
@[simp] theorem num_setNum (s : State) (k v i : Nat) : (s.setNum k v).num i = if i = k then v else s.num i := by
  simp only [State.num, State.setNum, dval_setVal]
  by_cases h : i = k <;> simp [h]
@[simp] theorem blob_setBlob (s : State) (k : Nat) (v : List Byte) (i : Nat) : (s.setBlob k v).blob i = if i = k then v else s.blob i := by
  simp only [State.blob, State.setBlob, dval_setVal]
  by_cases h : i = k <;> simp [h]

@[simp] theorem job_onJob (s : State) (n j : Nat) (f : Job → Job) (m i : Nat) :
    (s.onJob n j f).job m i = if m * 8 + i = n * 8 + j then f (s.job n j) else s.job m i := getD_put ..

/-! Scalar registers of a hearth -/

@[simp] theorem reg_zero (h : Hearth) : h.reg 0 = 0 := rfl
@[simp] theorem reg_setReg (h : Hearth) (a : Nat) (v : W64) (i : Nat) : (h.setReg a v).reg i = if i = a ∧ i ≠ 0 then v else h.reg i := by
  unfold Hearth.setReg Hearth.reg
  by_cases hi : i = 0
  · simp [hi]
  · by_cases ha : a = 0
    · simp [hi, ha]
    · simp [hi, ha]

/-! Fields that an update leaves alone -/

@[simp] theorem setHearth_pending (s : State) (g : Nat) (h : Hearth) : (s.setHearth g h).pending = s.pending := rfl
@[simp] theorem setHearth_waits (s : State) (g : Nat) (h : Hearth) : (s.setHearth g h).waits = s.waits := rfl
@[simp] theorem setHearth_held (s : State) (g : Nat) (h : Hearth) : (s.setHearth g h).held = s.held := rfl
@[simp] theorem setHearth_now (s : State) (g : Nat) (h : Hearth) : (s.setHearth g h).now = s.now := rfl
@[simp] theorem setHearth_free (s : State) (g : Nat) (h : Hearth) : (s.setHearth g h).free = s.free := rfl
@[simp] theorem setHearth_mem (s : State) (g : Nat) (h : Hearth) : (s.setHearth g h).mem = s.mem := rfl
@[simp] theorem setHearth_dict (s : State) (g : Nat) (h : Hearth) : (s.setHearth g h).dict = s.dict := rfl
@[simp] theorem setHearth_stored (s : State) (g : Nat) (h : Hearth) : (s.setHearth g h).stored = s.stored := rfl
@[simp] theorem setHearth_parts (s : State) (g : Nat) (h : Hearth) : (s.setHearth g h).parts = s.parts := rfl
@[simp] theorem setHearth_events (s : State) (g : Nat) (h : Hearth) : (s.setHearth g h).events = s.events := rfl
@[simp] theorem setHearth_persisted (s : State) (g : Nat) (h : Hearth) : (s.setHearth g h).persisted = s.persisted := rfl
@[simp] theorem setHearth_partEvents (s : State) (g : Nat) (h : Hearth) : (s.setHearth g h).partEvents = s.partEvents := rfl
@[simp] theorem setHearth_bad (s : State) (g : Nat) (h : Hearth) : (s.setHearth g h).bad = s.bad := rfl
@[simp] theorem setHearth_ce (s : State) (g : Nat) (h : Hearth) : (s.setHearth g h).ce = s.ce := rfl
@[simp] theorem setHearth_ricks (s : State) (g : Nat) (h : Hearth) : (s.setHearth g h).ricks = s.ricks := rfl
@[simp] theorem setHearth_jobs (s : State) (g : Nat) (h : Hearth) : (s.setHearth g h).jobs = s.jobs := rfl
@[simp] theorem setHearth_regions (s : State) (g : Nat) (h : Hearth) : (s.setHearth g h).regions = s.regions := rfl
@[simp] theorem setHearth_dirty (s : State) (g : Nat) (h : Hearth) : (s.setHearth g h).dirty = s.dirty := rfl
@[simp] theorem setHearth_pagePoison (s : State) (g : Nat) (h : Hearth) : (s.setHearth g h).pagePoison = s.pagePoison := rfl
@[simp] theorem setHearth_remap (s : State) (g : Nat) (h : Hearth) : (s.setHearth g h).remap = s.remap := rfl
@[simp] theorem setHearth_reqs (s : State) (g : Nat) (h : Hearth) : (s.setHearth g h).reqs = s.reqs := rfl
@[simp] theorem setHearth_reqx (s : State) (g : Nat) (h : Hearth) : (s.setHearth g h).reqx = s.reqx := rfl
@[simp] theorem setHearth_dirs (s : State) (g : Nat) (h : Hearth) : (s.setHearth g h).dirs = s.dirs := rfl
@[simp] theorem setHearth_maps (s : State) (g : Nat) (h : Hearth) : (s.setHearth g h).maps = s.maps := rfl
@[simp] theorem setHearth_refs (s : State) (g : Nat) (h : Hearth) : (s.setHearth g h).refs = s.refs := rfl
@[simp] theorem setHearth_poisoned (s : State) (g : Nat) (h : Hearth) : (s.setHearth g h).poisoned = s.poisoned := rfl
@[simp] theorem setHearth_handles (s : State) (g : Nat) (h : Hearth) : (s.setHearth g h).handles = s.handles := rfl
@[simp] theorem setHearth_wsets (s : State) (g : Nat) (h : Hearth) : (s.setHearth g h).wsets = s.wsets := rfl
@[simp] theorem setHearth_windows (s : State) (g : Nat) (h : Hearth) : (s.setHearth g h).windows = s.windows := rfl
@[simp] theorem setHearth_rings (s : State) (g : Nat) (h : Hearth) : (s.setHearth g h).rings = s.rings := rfl
@[simp] theorem setHearth_sent (s : State) (g : Nat) (h : Hearth) : (s.setHearth g h).sent = s.sent := rfl
@[simp] theorem setHearth_msgid (s : State) (g : Nat) (h : Hearth) : (s.setHearth g h).msgid = s.msgid := rfl
@[simp] theorem setHearth_flights (s : State) (g : Nat) (h : Hearth) : (s.setHearth g h).flights = s.flights := rfl
@[simp] theorem setHearth_buffers (s : State) (g : Nat) (h : Hearth) : (s.setHearth g h).buffers = s.buffers := rfl
@[simp] theorem setHearth_trigs (s : State) (g : Nat) (h : Hearth) : (s.setHearth g h).trigs = s.trigs := rfl
@[simp] theorem setHearth_groups (s : State) (g : Nat) (h : Hearth) : (s.setHearth g h).groups = s.groups := rfl
@[simp] theorem setHearth_conns (s : State) (g : Nat) (h : Hearth) : (s.setHearth g h).conns = s.conns := rfl
@[simp] theorem setHearth_turns (s : State) (g : Nat) (h : Hearth) : (s.setHearth g h).turns = s.turns := rfl
@[simp] theorem setHearth_fports (s : State) (g : Nat) (h : Hearth) : (s.setHearth g h).fports = s.fports := rfl
@[simp] theorem setHearth_eports (s : State) (g : Nat) (h : Hearth) : (s.setHearth g h).eports = s.eports := rfl
@[simp] theorem setHearth_spare (s : State) (g : Nat) (h : Hearth) : (s.setHearth g h).spare = s.spare := rfl
@[simp] theorem setHearth_spareNext (s : State) (g : Nat) (h : Hearth) : (s.setHearth g h).spareNext = s.spareNext := rfl
@[simp] theorem setHearth_due (s : State) (g : Nat) (h : Hearth) : (s.setHearth g h).due = s.due := rfl
@[simp] theorem setHearth_sessions (s : State) (g : Nat) (h : Hearth) : (s.setHearth g h).sessions = s.sessions := rfl
@[simp] theorem setHearth_replies (s : State) (g : Nat) (h : Hearth) : (s.setHearth g h).replies = s.replies := rfl
@[simp] theorem setHearth_objs (s : State) (g : Nat) (h : Hearth) : (s.setHearth g h).objs = s.objs := rfl
@[simp] theorem setHearth_banks (s : State) (g : Nat) (h : Hearth) : (s.setHearth g h).banks = s.banks := rfl
@[simp] theorem setHearth_bank (s : State) (g : Nat) (h : Hearth) : (s.setHearth g h).bank = s.bank := rfl
@[simp] theorem setHearth_setkeys (s : State) (g : Nat) (h : Hearth) : (s.setHearth g h).setkeys = s.setkeys := rfl
@[simp] theorem setHearth_causes (s : State) (g : Nat) (h : Hearth) : (s.setHearth g h).causes = s.causes := rfl
@[simp] theorem setHearth_clearAt (s : State) (g : Nat) (h : Hearth) : (s.setHearth g h).clearAt = s.clearAt := rfl
@[simp] theorem setHearth_throttleAt (s : State) (g : Nat) (h : Hearth) : (s.setHearth g h).throttleAt = s.throttleAt := rfl
@[simp] theorem setHearth_powered (s : State) (g : Nat) (h : Hearth) : (s.setHearth g h).powered = s.powered := rfl
@[simp] theorem setHearth_heldInput (s : State) (g : Nat) (h : Hearth) : (s.setHearth g h).heldInput = s.heldInput := rfl
@[simp] theorem setHearth_heldHeat (s : State) (g : Nat) (h : Hearth) : (s.setHearth g h).heldHeat = s.heldHeat := rfl
@[simp] theorem setHearth_tinderHold (s : State) (g : Nat) (h : Hearth) : (s.setHearth g h).tinderHold = s.tinderHold := rfl
@[simp] theorem setHearth_bootT0 (s : State) (g : Nat) (h : Hearth) : (s.setHearth g h).bootT0 = s.bootT0 := rfl
@[simp] theorem setHearth_bringups (s : State) (g : Nat) (h : Hearth) : (s.setHearth g h).bringups = s.bringups := rfl
@[simp] theorem setHearth_trialT0 (s : State) (g : Nat) (h : Hearth) : (s.setHearth g h).trialT0 = s.trialT0 := rfl
@[simp] theorem setHearth_standby (s : State) (g : Nat) (h : Hearth) : (s.setHearth g h).standby = s.standby := rfl
@[simp] theorem setHearth_refsLost (s : State) (g : Nat) (h : Hearth) : (s.setHearth g h).refsLost = s.refsLost := rfl
@[simp] theorem setHearth_slew (s : State) (g : Nat) (h : Hearth) : (s.setHearth g h).slew = s.slew := rfl
@[simp] theorem setHearth_descending (s : State) (g : Nat) (h : Hearth) : (s.setHearth g h).descending = s.descending := rfl
@[simp] theorem setHearth_powerOns (s : State) (g : Nat) (h : Hearth) : (s.setHearth g h).powerOns = s.powerOns := rfl
@[simp] theorem setHearth_lastReady (s : State) (g : Nat) (h : Hearth) : (s.setHearth g h).lastReady = s.lastReady := rfl
@[simp] theorem setHearth_unplanned (s : State) (g : Nat) (h : Hearth) : (s.setHearth g h).unplanned = s.unplanned := rfl
@[simp] theorem setHearth_switchOn (s : State) (g : Nat) (h : Hearth) : (s.setHearth g h).switchOn = s.switchOn := rfl
@[simp] theorem setHearth_kindPart (s : State) (g : Nat) (h : Hearth) : (s.setHearth g h).kindPart = s.kindPart := rfl
@[simp] theorem setHearth_kindMask (s : State) (g : Nat) (h : Hearth) : (s.setHearth g h).kindMask = s.kindMask := rfl
@[simp] theorem setHearth_kindled (s : State) (g : Nat) (h : Hearth) : (s.setHearth g h).kindled = s.kindled := rfl
@[simp] theorem setHearth_kindEnding (s : State) (g : Nat) (h : Hearth) : (s.setHearth g h).kindEnding = s.kindEnding := rfl
@[simp] theorem onHearth_pending (s : State) (g : Nat) (f : Hearth → Hearth) : (s.onHearth g f).pending = s.pending := rfl
@[simp] theorem onHearth_waits (s : State) (g : Nat) (f : Hearth → Hearth) : (s.onHearth g f).waits = s.waits := rfl
@[simp] theorem onHearth_held (s : State) (g : Nat) (f : Hearth → Hearth) : (s.onHearth g f).held = s.held := rfl
@[simp] theorem onHearth_now (s : State) (g : Nat) (f : Hearth → Hearth) : (s.onHearth g f).now = s.now := rfl
@[simp] theorem onHearth_free (s : State) (g : Nat) (f : Hearth → Hearth) : (s.onHearth g f).free = s.free := rfl
@[simp] theorem onHearth_mem (s : State) (g : Nat) (f : Hearth → Hearth) : (s.onHearth g f).mem = s.mem := rfl
@[simp] theorem onHearth_dict (s : State) (g : Nat) (f : Hearth → Hearth) : (s.onHearth g f).dict = s.dict := rfl
@[simp] theorem onHearth_stored (s : State) (g : Nat) (f : Hearth → Hearth) : (s.onHearth g f).stored = s.stored := rfl
@[simp] theorem onHearth_parts (s : State) (g : Nat) (f : Hearth → Hearth) : (s.onHearth g f).parts = s.parts := rfl
@[simp] theorem onHearth_events (s : State) (g : Nat) (f : Hearth → Hearth) : (s.onHearth g f).events = s.events := rfl
@[simp] theorem onHearth_persisted (s : State) (g : Nat) (f : Hearth → Hearth) : (s.onHearth g f).persisted = s.persisted := rfl
@[simp] theorem onHearth_partEvents (s : State) (g : Nat) (f : Hearth → Hearth) : (s.onHearth g f).partEvents = s.partEvents := rfl
@[simp] theorem onHearth_bad (s : State) (g : Nat) (f : Hearth → Hearth) : (s.onHearth g f).bad = s.bad := rfl
@[simp] theorem onHearth_ce (s : State) (g : Nat) (f : Hearth → Hearth) : (s.onHearth g f).ce = s.ce := rfl
@[simp] theorem onHearth_ricks (s : State) (g : Nat) (f : Hearth → Hearth) : (s.onHearth g f).ricks = s.ricks := rfl
@[simp] theorem onHearth_jobs (s : State) (g : Nat) (f : Hearth → Hearth) : (s.onHearth g f).jobs = s.jobs := rfl
@[simp] theorem onHearth_regions (s : State) (g : Nat) (f : Hearth → Hearth) : (s.onHearth g f).regions = s.regions := rfl
@[simp] theorem onHearth_dirty (s : State) (g : Nat) (f : Hearth → Hearth) : (s.onHearth g f).dirty = s.dirty := rfl
@[simp] theorem onHearth_pagePoison (s : State) (g : Nat) (f : Hearth → Hearth) : (s.onHearth g f).pagePoison = s.pagePoison := rfl
@[simp] theorem onHearth_remap (s : State) (g : Nat) (f : Hearth → Hearth) : (s.onHearth g f).remap = s.remap := rfl
@[simp] theorem onHearth_reqs (s : State) (g : Nat) (f : Hearth → Hearth) : (s.onHearth g f).reqs = s.reqs := rfl
@[simp] theorem onHearth_reqx (s : State) (g : Nat) (f : Hearth → Hearth) : (s.onHearth g f).reqx = s.reqx := rfl
@[simp] theorem onHearth_dirs (s : State) (g : Nat) (f : Hearth → Hearth) : (s.onHearth g f).dirs = s.dirs := rfl
@[simp] theorem onHearth_maps (s : State) (g : Nat) (f : Hearth → Hearth) : (s.onHearth g f).maps = s.maps := rfl
@[simp] theorem onHearth_refs (s : State) (g : Nat) (f : Hearth → Hearth) : (s.onHearth g f).refs = s.refs := rfl
@[simp] theorem onHearth_poisoned (s : State) (g : Nat) (f : Hearth → Hearth) : (s.onHearth g f).poisoned = s.poisoned := rfl
@[simp] theorem onHearth_handles (s : State) (g : Nat) (f : Hearth → Hearth) : (s.onHearth g f).handles = s.handles := rfl
@[simp] theorem onHearth_wsets (s : State) (g : Nat) (f : Hearth → Hearth) : (s.onHearth g f).wsets = s.wsets := rfl
@[simp] theorem onHearth_windows (s : State) (g : Nat) (f : Hearth → Hearth) : (s.onHearth g f).windows = s.windows := rfl
@[simp] theorem onHearth_rings (s : State) (g : Nat) (f : Hearth → Hearth) : (s.onHearth g f).rings = s.rings := rfl
@[simp] theorem onHearth_sent (s : State) (g : Nat) (f : Hearth → Hearth) : (s.onHearth g f).sent = s.sent := rfl
@[simp] theorem onHearth_msgid (s : State) (g : Nat) (f : Hearth → Hearth) : (s.onHearth g f).msgid = s.msgid := rfl
@[simp] theorem onHearth_flights (s : State) (g : Nat) (f : Hearth → Hearth) : (s.onHearth g f).flights = s.flights := rfl
@[simp] theorem onHearth_buffers (s : State) (g : Nat) (f : Hearth → Hearth) : (s.onHearth g f).buffers = s.buffers := rfl
@[simp] theorem onHearth_trigs (s : State) (g : Nat) (f : Hearth → Hearth) : (s.onHearth g f).trigs = s.trigs := rfl
@[simp] theorem onHearth_groups (s : State) (g : Nat) (f : Hearth → Hearth) : (s.onHearth g f).groups = s.groups := rfl
@[simp] theorem onHearth_conns (s : State) (g : Nat) (f : Hearth → Hearth) : (s.onHearth g f).conns = s.conns := rfl
@[simp] theorem onHearth_turns (s : State) (g : Nat) (f : Hearth → Hearth) : (s.onHearth g f).turns = s.turns := rfl
@[simp] theorem onHearth_fports (s : State) (g : Nat) (f : Hearth → Hearth) : (s.onHearth g f).fports = s.fports := rfl
@[simp] theorem onHearth_eports (s : State) (g : Nat) (f : Hearth → Hearth) : (s.onHearth g f).eports = s.eports := rfl
@[simp] theorem onHearth_spare (s : State) (g : Nat) (f : Hearth → Hearth) : (s.onHearth g f).spare = s.spare := rfl
@[simp] theorem onHearth_spareNext (s : State) (g : Nat) (f : Hearth → Hearth) : (s.onHearth g f).spareNext = s.spareNext := rfl
@[simp] theorem onHearth_due (s : State) (g : Nat) (f : Hearth → Hearth) : (s.onHearth g f).due = s.due := rfl
@[simp] theorem onHearth_sessions (s : State) (g : Nat) (f : Hearth → Hearth) : (s.onHearth g f).sessions = s.sessions := rfl
@[simp] theorem onHearth_replies (s : State) (g : Nat) (f : Hearth → Hearth) : (s.onHearth g f).replies = s.replies := rfl
@[simp] theorem onHearth_objs (s : State) (g : Nat) (f : Hearth → Hearth) : (s.onHearth g f).objs = s.objs := rfl
@[simp] theorem onHearth_banks (s : State) (g : Nat) (f : Hearth → Hearth) : (s.onHearth g f).banks = s.banks := rfl
@[simp] theorem onHearth_bank (s : State) (g : Nat) (f : Hearth → Hearth) : (s.onHearth g f).bank = s.bank := rfl
@[simp] theorem onHearth_setkeys (s : State) (g : Nat) (f : Hearth → Hearth) : (s.onHearth g f).setkeys = s.setkeys := rfl
@[simp] theorem onHearth_causes (s : State) (g : Nat) (f : Hearth → Hearth) : (s.onHearth g f).causes = s.causes := rfl
@[simp] theorem onHearth_clearAt (s : State) (g : Nat) (f : Hearth → Hearth) : (s.onHearth g f).clearAt = s.clearAt := rfl
@[simp] theorem onHearth_throttleAt (s : State) (g : Nat) (f : Hearth → Hearth) : (s.onHearth g f).throttleAt = s.throttleAt := rfl
@[simp] theorem onHearth_powered (s : State) (g : Nat) (f : Hearth → Hearth) : (s.onHearth g f).powered = s.powered := rfl
@[simp] theorem onHearth_heldInput (s : State) (g : Nat) (f : Hearth → Hearth) : (s.onHearth g f).heldInput = s.heldInput := rfl
@[simp] theorem onHearth_heldHeat (s : State) (g : Nat) (f : Hearth → Hearth) : (s.onHearth g f).heldHeat = s.heldHeat := rfl
@[simp] theorem onHearth_tinderHold (s : State) (g : Nat) (f : Hearth → Hearth) : (s.onHearth g f).tinderHold = s.tinderHold := rfl
@[simp] theorem onHearth_bootT0 (s : State) (g : Nat) (f : Hearth → Hearth) : (s.onHearth g f).bootT0 = s.bootT0 := rfl
@[simp] theorem onHearth_bringups (s : State) (g : Nat) (f : Hearth → Hearth) : (s.onHearth g f).bringups = s.bringups := rfl
@[simp] theorem onHearth_trialT0 (s : State) (g : Nat) (f : Hearth → Hearth) : (s.onHearth g f).trialT0 = s.trialT0 := rfl
@[simp] theorem onHearth_standby (s : State) (g : Nat) (f : Hearth → Hearth) : (s.onHearth g f).standby = s.standby := rfl
@[simp] theorem onHearth_refsLost (s : State) (g : Nat) (f : Hearth → Hearth) : (s.onHearth g f).refsLost = s.refsLost := rfl
@[simp] theorem onHearth_slew (s : State) (g : Nat) (f : Hearth → Hearth) : (s.onHearth g f).slew = s.slew := rfl
@[simp] theorem onHearth_descending (s : State) (g : Nat) (f : Hearth → Hearth) : (s.onHearth g f).descending = s.descending := rfl
@[simp] theorem onHearth_powerOns (s : State) (g : Nat) (f : Hearth → Hearth) : (s.onHearth g f).powerOns = s.powerOns := rfl
@[simp] theorem onHearth_lastReady (s : State) (g : Nat) (f : Hearth → Hearth) : (s.onHearth g f).lastReady = s.lastReady := rfl
@[simp] theorem onHearth_unplanned (s : State) (g : Nat) (f : Hearth → Hearth) : (s.onHearth g f).unplanned = s.unplanned := rfl
@[simp] theorem onHearth_switchOn (s : State) (g : Nat) (f : Hearth → Hearth) : (s.onHearth g f).switchOn = s.switchOn := rfl
@[simp] theorem onHearth_kindPart (s : State) (g : Nat) (f : Hearth → Hearth) : (s.onHearth g f).kindPart = s.kindPart := rfl
@[simp] theorem onHearth_kindMask (s : State) (g : Nat) (f : Hearth → Hearth) : (s.onHearth g f).kindMask = s.kindMask := rfl
@[simp] theorem onHearth_kindled (s : State) (g : Nat) (f : Hearth → Hearth) : (s.onHearth g f).kindled = s.kindled := rfl
@[simp] theorem onHearth_kindEnding (s : State) (g : Nat) (f : Hearth → Hearth) : (s.onHearth g f).kindEnding = s.kindEnding := rfl
@[simp] theorem setPart_pending (s : State) (n : Nat) (p : Part) : (s.setPart n p).pending = s.pending := rfl
@[simp] theorem setPart_waits (s : State) (n : Nat) (p : Part) : (s.setPart n p).waits = s.waits := rfl
@[simp] theorem setPart_held (s : State) (n : Nat) (p : Part) : (s.setPart n p).held = s.held := rfl
@[simp] theorem setPart_now (s : State) (n : Nat) (p : Part) : (s.setPart n p).now = s.now := rfl
@[simp] theorem setPart_free (s : State) (n : Nat) (p : Part) : (s.setPart n p).free = s.free := rfl
@[simp] theorem setPart_mem (s : State) (n : Nat) (p : Part) : (s.setPart n p).mem = s.mem := rfl
@[simp] theorem setPart_dict (s : State) (n : Nat) (p : Part) : (s.setPart n p).dict = s.dict := rfl
@[simp] theorem setPart_stored (s : State) (n : Nat) (p : Part) : (s.setPart n p).stored = s.stored := rfl
@[simp] theorem setPart_hearths (s : State) (n : Nat) (p : Part) : (s.setPart n p).hearths = s.hearths := rfl
@[simp] theorem setPart_events (s : State) (n : Nat) (p : Part) : (s.setPart n p).events = s.events := rfl
@[simp] theorem setPart_persisted (s : State) (n : Nat) (p : Part) : (s.setPart n p).persisted = s.persisted := rfl
@[simp] theorem setPart_partEvents (s : State) (n : Nat) (p : Part) : (s.setPart n p).partEvents = s.partEvents := rfl
@[simp] theorem setPart_bad (s : State) (n : Nat) (p : Part) : (s.setPart n p).bad = s.bad := rfl
@[simp] theorem setPart_ce (s : State) (n : Nat) (p : Part) : (s.setPart n p).ce = s.ce := rfl
@[simp] theorem setPart_ricks (s : State) (n : Nat) (p : Part) : (s.setPart n p).ricks = s.ricks := rfl
@[simp] theorem setPart_jobs (s : State) (n : Nat) (p : Part) : (s.setPart n p).jobs = s.jobs := rfl
@[simp] theorem setPart_regions (s : State) (n : Nat) (p : Part) : (s.setPart n p).regions = s.regions := rfl
@[simp] theorem setPart_dirty (s : State) (n : Nat) (p : Part) : (s.setPart n p).dirty = s.dirty := rfl
@[simp] theorem setPart_pagePoison (s : State) (n : Nat) (p : Part) : (s.setPart n p).pagePoison = s.pagePoison := rfl
@[simp] theorem setPart_remap (s : State) (n : Nat) (p : Part) : (s.setPart n p).remap = s.remap := rfl
@[simp] theorem setPart_reqs (s : State) (n : Nat) (p : Part) : (s.setPart n p).reqs = s.reqs := rfl
@[simp] theorem setPart_reqx (s : State) (n : Nat) (p : Part) : (s.setPart n p).reqx = s.reqx := rfl
@[simp] theorem setPart_dirs (s : State) (n : Nat) (p : Part) : (s.setPart n p).dirs = s.dirs := rfl
@[simp] theorem setPart_maps (s : State) (n : Nat) (p : Part) : (s.setPart n p).maps = s.maps := rfl
@[simp] theorem setPart_refs (s : State) (n : Nat) (p : Part) : (s.setPart n p).refs = s.refs := rfl
@[simp] theorem setPart_poisoned (s : State) (n : Nat) (p : Part) : (s.setPart n p).poisoned = s.poisoned := rfl
@[simp] theorem setPart_handles (s : State) (n : Nat) (p : Part) : (s.setPart n p).handles = s.handles := rfl
@[simp] theorem setPart_wsets (s : State) (n : Nat) (p : Part) : (s.setPart n p).wsets = s.wsets := rfl
@[simp] theorem setPart_windows (s : State) (n : Nat) (p : Part) : (s.setPart n p).windows = s.windows := rfl
@[simp] theorem setPart_rings (s : State) (n : Nat) (p : Part) : (s.setPart n p).rings = s.rings := rfl
@[simp] theorem setPart_sent (s : State) (n : Nat) (p : Part) : (s.setPart n p).sent = s.sent := rfl
@[simp] theorem setPart_msgid (s : State) (n : Nat) (p : Part) : (s.setPart n p).msgid = s.msgid := rfl
@[simp] theorem setPart_flights (s : State) (n : Nat) (p : Part) : (s.setPart n p).flights = s.flights := rfl
@[simp] theorem setPart_buffers (s : State) (n : Nat) (p : Part) : (s.setPart n p).buffers = s.buffers := rfl
@[simp] theorem setPart_trigs (s : State) (n : Nat) (p : Part) : (s.setPart n p).trigs = s.trigs := rfl
@[simp] theorem setPart_groups (s : State) (n : Nat) (p : Part) : (s.setPart n p).groups = s.groups := rfl
@[simp] theorem setPart_conns (s : State) (n : Nat) (p : Part) : (s.setPart n p).conns = s.conns := rfl
@[simp] theorem setPart_turns (s : State) (n : Nat) (p : Part) : (s.setPart n p).turns = s.turns := rfl
@[simp] theorem setPart_fports (s : State) (n : Nat) (p : Part) : (s.setPart n p).fports = s.fports := rfl
@[simp] theorem setPart_eports (s : State) (n : Nat) (p : Part) : (s.setPart n p).eports = s.eports := rfl
@[simp] theorem setPart_spare (s : State) (n : Nat) (p : Part) : (s.setPart n p).spare = s.spare := rfl
@[simp] theorem setPart_spareNext (s : State) (n : Nat) (p : Part) : (s.setPart n p).spareNext = s.spareNext := rfl
@[simp] theorem setPart_due (s : State) (n : Nat) (p : Part) : (s.setPart n p).due = s.due := rfl
@[simp] theorem setPart_sessions (s : State) (n : Nat) (p : Part) : (s.setPart n p).sessions = s.sessions := rfl
@[simp] theorem setPart_replies (s : State) (n : Nat) (p : Part) : (s.setPart n p).replies = s.replies := rfl
@[simp] theorem setPart_objs (s : State) (n : Nat) (p : Part) : (s.setPart n p).objs = s.objs := rfl
@[simp] theorem setPart_banks (s : State) (n : Nat) (p : Part) : (s.setPart n p).banks = s.banks := rfl
@[simp] theorem setPart_bank (s : State) (n : Nat) (p : Part) : (s.setPart n p).bank = s.bank := rfl
@[simp] theorem setPart_setkeys (s : State) (n : Nat) (p : Part) : (s.setPart n p).setkeys = s.setkeys := rfl
@[simp] theorem setPart_causes (s : State) (n : Nat) (p : Part) : (s.setPart n p).causes = s.causes := rfl
@[simp] theorem setPart_clearAt (s : State) (n : Nat) (p : Part) : (s.setPart n p).clearAt = s.clearAt := rfl
@[simp] theorem setPart_throttleAt (s : State) (n : Nat) (p : Part) : (s.setPart n p).throttleAt = s.throttleAt := rfl
@[simp] theorem setPart_powered (s : State) (n : Nat) (p : Part) : (s.setPart n p).powered = s.powered := rfl
@[simp] theorem setPart_heldInput (s : State) (n : Nat) (p : Part) : (s.setPart n p).heldInput = s.heldInput := rfl
@[simp] theorem setPart_heldHeat (s : State) (n : Nat) (p : Part) : (s.setPart n p).heldHeat = s.heldHeat := rfl
@[simp] theorem setPart_tinderHold (s : State) (n : Nat) (p : Part) : (s.setPart n p).tinderHold = s.tinderHold := rfl
@[simp] theorem setPart_bootT0 (s : State) (n : Nat) (p : Part) : (s.setPart n p).bootT0 = s.bootT0 := rfl
@[simp] theorem setPart_bringups (s : State) (n : Nat) (p : Part) : (s.setPart n p).bringups = s.bringups := rfl
@[simp] theorem setPart_trialT0 (s : State) (n : Nat) (p : Part) : (s.setPart n p).trialT0 = s.trialT0 := rfl
@[simp] theorem setPart_standby (s : State) (n : Nat) (p : Part) : (s.setPart n p).standby = s.standby := rfl
@[simp] theorem setPart_refsLost (s : State) (n : Nat) (p : Part) : (s.setPart n p).refsLost = s.refsLost := rfl
@[simp] theorem setPart_slew (s : State) (n : Nat) (p : Part) : (s.setPart n p).slew = s.slew := rfl
@[simp] theorem setPart_descending (s : State) (n : Nat) (p : Part) : (s.setPart n p).descending = s.descending := rfl
@[simp] theorem setPart_powerOns (s : State) (n : Nat) (p : Part) : (s.setPart n p).powerOns = s.powerOns := rfl
@[simp] theorem setPart_lastReady (s : State) (n : Nat) (p : Part) : (s.setPart n p).lastReady = s.lastReady := rfl
@[simp] theorem setPart_unplanned (s : State) (n : Nat) (p : Part) : (s.setPart n p).unplanned = s.unplanned := rfl
@[simp] theorem setPart_switchOn (s : State) (n : Nat) (p : Part) : (s.setPart n p).switchOn = s.switchOn := rfl
@[simp] theorem setPart_kindPart (s : State) (n : Nat) (p : Part) : (s.setPart n p).kindPart = s.kindPart := rfl
@[simp] theorem setPart_kindMask (s : State) (n : Nat) (p : Part) : (s.setPart n p).kindMask = s.kindMask := rfl
@[simp] theorem setPart_kindled (s : State) (n : Nat) (p : Part) : (s.setPart n p).kindled = s.kindled := rfl
@[simp] theorem setPart_kindEnding (s : State) (n : Nat) (p : Part) : (s.setPart n p).kindEnding = s.kindEnding := rfl
@[simp] theorem onPart_pending (s : State) (n : Nat) (f : Part → Part) : (s.onPart n f).pending = s.pending := rfl
@[simp] theorem onPart_waits (s : State) (n : Nat) (f : Part → Part) : (s.onPart n f).waits = s.waits := rfl
@[simp] theorem onPart_held (s : State) (n : Nat) (f : Part → Part) : (s.onPart n f).held = s.held := rfl
@[simp] theorem onPart_now (s : State) (n : Nat) (f : Part → Part) : (s.onPart n f).now = s.now := rfl
@[simp] theorem onPart_free (s : State) (n : Nat) (f : Part → Part) : (s.onPart n f).free = s.free := rfl
@[simp] theorem onPart_mem (s : State) (n : Nat) (f : Part → Part) : (s.onPart n f).mem = s.mem := rfl
@[simp] theorem onPart_dict (s : State) (n : Nat) (f : Part → Part) : (s.onPart n f).dict = s.dict := rfl
@[simp] theorem onPart_stored (s : State) (n : Nat) (f : Part → Part) : (s.onPart n f).stored = s.stored := rfl
@[simp] theorem onPart_hearths (s : State) (n : Nat) (f : Part → Part) : (s.onPart n f).hearths = s.hearths := rfl
@[simp] theorem onPart_events (s : State) (n : Nat) (f : Part → Part) : (s.onPart n f).events = s.events := rfl
@[simp] theorem onPart_persisted (s : State) (n : Nat) (f : Part → Part) : (s.onPart n f).persisted = s.persisted := rfl
@[simp] theorem onPart_partEvents (s : State) (n : Nat) (f : Part → Part) : (s.onPart n f).partEvents = s.partEvents := rfl
@[simp] theorem onPart_bad (s : State) (n : Nat) (f : Part → Part) : (s.onPart n f).bad = s.bad := rfl
@[simp] theorem onPart_ce (s : State) (n : Nat) (f : Part → Part) : (s.onPart n f).ce = s.ce := rfl
@[simp] theorem onPart_ricks (s : State) (n : Nat) (f : Part → Part) : (s.onPart n f).ricks = s.ricks := rfl
@[simp] theorem onPart_jobs (s : State) (n : Nat) (f : Part → Part) : (s.onPart n f).jobs = s.jobs := rfl
@[simp] theorem onPart_regions (s : State) (n : Nat) (f : Part → Part) : (s.onPart n f).regions = s.regions := rfl
@[simp] theorem onPart_dirty (s : State) (n : Nat) (f : Part → Part) : (s.onPart n f).dirty = s.dirty := rfl
@[simp] theorem onPart_pagePoison (s : State) (n : Nat) (f : Part → Part) : (s.onPart n f).pagePoison = s.pagePoison := rfl
@[simp] theorem onPart_remap (s : State) (n : Nat) (f : Part → Part) : (s.onPart n f).remap = s.remap := rfl
@[simp] theorem onPart_reqs (s : State) (n : Nat) (f : Part → Part) : (s.onPart n f).reqs = s.reqs := rfl
@[simp] theorem onPart_reqx (s : State) (n : Nat) (f : Part → Part) : (s.onPart n f).reqx = s.reqx := rfl
@[simp] theorem onPart_dirs (s : State) (n : Nat) (f : Part → Part) : (s.onPart n f).dirs = s.dirs := rfl
@[simp] theorem onPart_maps (s : State) (n : Nat) (f : Part → Part) : (s.onPart n f).maps = s.maps := rfl
@[simp] theorem onPart_refs (s : State) (n : Nat) (f : Part → Part) : (s.onPart n f).refs = s.refs := rfl
@[simp] theorem onPart_poisoned (s : State) (n : Nat) (f : Part → Part) : (s.onPart n f).poisoned = s.poisoned := rfl
@[simp] theorem onPart_handles (s : State) (n : Nat) (f : Part → Part) : (s.onPart n f).handles = s.handles := rfl
@[simp] theorem onPart_wsets (s : State) (n : Nat) (f : Part → Part) : (s.onPart n f).wsets = s.wsets := rfl
@[simp] theorem onPart_windows (s : State) (n : Nat) (f : Part → Part) : (s.onPart n f).windows = s.windows := rfl
@[simp] theorem onPart_rings (s : State) (n : Nat) (f : Part → Part) : (s.onPart n f).rings = s.rings := rfl
@[simp] theorem onPart_sent (s : State) (n : Nat) (f : Part → Part) : (s.onPart n f).sent = s.sent := rfl
@[simp] theorem onPart_msgid (s : State) (n : Nat) (f : Part → Part) : (s.onPart n f).msgid = s.msgid := rfl
@[simp] theorem onPart_flights (s : State) (n : Nat) (f : Part → Part) : (s.onPart n f).flights = s.flights := rfl
@[simp] theorem onPart_buffers (s : State) (n : Nat) (f : Part → Part) : (s.onPart n f).buffers = s.buffers := rfl
@[simp] theorem onPart_trigs (s : State) (n : Nat) (f : Part → Part) : (s.onPart n f).trigs = s.trigs := rfl
@[simp] theorem onPart_groups (s : State) (n : Nat) (f : Part → Part) : (s.onPart n f).groups = s.groups := rfl
@[simp] theorem onPart_conns (s : State) (n : Nat) (f : Part → Part) : (s.onPart n f).conns = s.conns := rfl
@[simp] theorem onPart_turns (s : State) (n : Nat) (f : Part → Part) : (s.onPart n f).turns = s.turns := rfl
@[simp] theorem onPart_fports (s : State) (n : Nat) (f : Part → Part) : (s.onPart n f).fports = s.fports := rfl
@[simp] theorem onPart_eports (s : State) (n : Nat) (f : Part → Part) : (s.onPart n f).eports = s.eports := rfl
@[simp] theorem onPart_spare (s : State) (n : Nat) (f : Part → Part) : (s.onPart n f).spare = s.spare := rfl
@[simp] theorem onPart_spareNext (s : State) (n : Nat) (f : Part → Part) : (s.onPart n f).spareNext = s.spareNext := rfl
@[simp] theorem onPart_due (s : State) (n : Nat) (f : Part → Part) : (s.onPart n f).due = s.due := rfl
@[simp] theorem onPart_sessions (s : State) (n : Nat) (f : Part → Part) : (s.onPart n f).sessions = s.sessions := rfl
@[simp] theorem onPart_replies (s : State) (n : Nat) (f : Part → Part) : (s.onPart n f).replies = s.replies := rfl
@[simp] theorem onPart_objs (s : State) (n : Nat) (f : Part → Part) : (s.onPart n f).objs = s.objs := rfl
@[simp] theorem onPart_banks (s : State) (n : Nat) (f : Part → Part) : (s.onPart n f).banks = s.banks := rfl
@[simp] theorem onPart_bank (s : State) (n : Nat) (f : Part → Part) : (s.onPart n f).bank = s.bank := rfl
@[simp] theorem onPart_setkeys (s : State) (n : Nat) (f : Part → Part) : (s.onPart n f).setkeys = s.setkeys := rfl
@[simp] theorem onPart_causes (s : State) (n : Nat) (f : Part → Part) : (s.onPart n f).causes = s.causes := rfl
@[simp] theorem onPart_clearAt (s : State) (n : Nat) (f : Part → Part) : (s.onPart n f).clearAt = s.clearAt := rfl
@[simp] theorem onPart_throttleAt (s : State) (n : Nat) (f : Part → Part) : (s.onPart n f).throttleAt = s.throttleAt := rfl
@[simp] theorem onPart_powered (s : State) (n : Nat) (f : Part → Part) : (s.onPart n f).powered = s.powered := rfl
@[simp] theorem onPart_heldInput (s : State) (n : Nat) (f : Part → Part) : (s.onPart n f).heldInput = s.heldInput := rfl
@[simp] theorem onPart_heldHeat (s : State) (n : Nat) (f : Part → Part) : (s.onPart n f).heldHeat = s.heldHeat := rfl
@[simp] theorem onPart_tinderHold (s : State) (n : Nat) (f : Part → Part) : (s.onPart n f).tinderHold = s.tinderHold := rfl
@[simp] theorem onPart_bootT0 (s : State) (n : Nat) (f : Part → Part) : (s.onPart n f).bootT0 = s.bootT0 := rfl
@[simp] theorem onPart_bringups (s : State) (n : Nat) (f : Part → Part) : (s.onPart n f).bringups = s.bringups := rfl
@[simp] theorem onPart_trialT0 (s : State) (n : Nat) (f : Part → Part) : (s.onPart n f).trialT0 = s.trialT0 := rfl
@[simp] theorem onPart_standby (s : State) (n : Nat) (f : Part → Part) : (s.onPart n f).standby = s.standby := rfl
@[simp] theorem onPart_refsLost (s : State) (n : Nat) (f : Part → Part) : (s.onPart n f).refsLost = s.refsLost := rfl
@[simp] theorem onPart_slew (s : State) (n : Nat) (f : Part → Part) : (s.onPart n f).slew = s.slew := rfl
@[simp] theorem onPart_descending (s : State) (n : Nat) (f : Part → Part) : (s.onPart n f).descending = s.descending := rfl
@[simp] theorem onPart_powerOns (s : State) (n : Nat) (f : Part → Part) : (s.onPart n f).powerOns = s.powerOns := rfl
@[simp] theorem onPart_lastReady (s : State) (n : Nat) (f : Part → Part) : (s.onPart n f).lastReady = s.lastReady := rfl
@[simp] theorem onPart_unplanned (s : State) (n : Nat) (f : Part → Part) : (s.onPart n f).unplanned = s.unplanned := rfl
@[simp] theorem onPart_switchOn (s : State) (n : Nat) (f : Part → Part) : (s.onPart n f).switchOn = s.switchOn := rfl
@[simp] theorem onPart_kindPart (s : State) (n : Nat) (f : Part → Part) : (s.onPart n f).kindPart = s.kindPart := rfl
@[simp] theorem onPart_kindMask (s : State) (n : Nat) (f : Part → Part) : (s.onPart n f).kindMask = s.kindMask := rfl
@[simp] theorem onPart_kindled (s : State) (n : Nat) (f : Part → Part) : (s.onPart n f).kindled = s.kindled := rfl
@[simp] theorem onPart_kindEnding (s : State) (n : Nat) (f : Part → Part) : (s.onPart n f).kindEnding = s.kindEnding := rfl
@[simp] theorem onRick_pending (s : State) (k : Nat) (f : Rick → Rick) : (s.onRick k f).pending = s.pending := rfl
@[simp] theorem onRick_waits (s : State) (k : Nat) (f : Rick → Rick) : (s.onRick k f).waits = s.waits := rfl
@[simp] theorem onRick_held (s : State) (k : Nat) (f : Rick → Rick) : (s.onRick k f).held = s.held := rfl
@[simp] theorem onRick_now (s : State) (k : Nat) (f : Rick → Rick) : (s.onRick k f).now = s.now := rfl
@[simp] theorem onRick_free (s : State) (k : Nat) (f : Rick → Rick) : (s.onRick k f).free = s.free := rfl
@[simp] theorem onRick_mem (s : State) (k : Nat) (f : Rick → Rick) : (s.onRick k f).mem = s.mem := rfl
@[simp] theorem onRick_dict (s : State) (k : Nat) (f : Rick → Rick) : (s.onRick k f).dict = s.dict := rfl
@[simp] theorem onRick_stored (s : State) (k : Nat) (f : Rick → Rick) : (s.onRick k f).stored = s.stored := rfl
@[simp] theorem onRick_hearths (s : State) (k : Nat) (f : Rick → Rick) : (s.onRick k f).hearths = s.hearths := rfl
@[simp] theorem onRick_parts (s : State) (k : Nat) (f : Rick → Rick) : (s.onRick k f).parts = s.parts := rfl
@[simp] theorem onRick_events (s : State) (k : Nat) (f : Rick → Rick) : (s.onRick k f).events = s.events := rfl
@[simp] theorem onRick_persisted (s : State) (k : Nat) (f : Rick → Rick) : (s.onRick k f).persisted = s.persisted := rfl
@[simp] theorem onRick_partEvents (s : State) (k : Nat) (f : Rick → Rick) : (s.onRick k f).partEvents = s.partEvents := rfl
@[simp] theorem onRick_bad (s : State) (k : Nat) (f : Rick → Rick) : (s.onRick k f).bad = s.bad := rfl
@[simp] theorem onRick_ce (s : State) (k : Nat) (f : Rick → Rick) : (s.onRick k f).ce = s.ce := rfl
@[simp] theorem onRick_jobs (s : State) (k : Nat) (f : Rick → Rick) : (s.onRick k f).jobs = s.jobs := rfl
@[simp] theorem onRick_regions (s : State) (k : Nat) (f : Rick → Rick) : (s.onRick k f).regions = s.regions := rfl
@[simp] theorem onRick_dirty (s : State) (k : Nat) (f : Rick → Rick) : (s.onRick k f).dirty = s.dirty := rfl
@[simp] theorem onRick_pagePoison (s : State) (k : Nat) (f : Rick → Rick) : (s.onRick k f).pagePoison = s.pagePoison := rfl
@[simp] theorem onRick_remap (s : State) (k : Nat) (f : Rick → Rick) : (s.onRick k f).remap = s.remap := rfl
@[simp] theorem onRick_reqs (s : State) (k : Nat) (f : Rick → Rick) : (s.onRick k f).reqs = s.reqs := rfl
@[simp] theorem onRick_reqx (s : State) (k : Nat) (f : Rick → Rick) : (s.onRick k f).reqx = s.reqx := rfl
@[simp] theorem onRick_dirs (s : State) (k : Nat) (f : Rick → Rick) : (s.onRick k f).dirs = s.dirs := rfl
@[simp] theorem onRick_maps (s : State) (k : Nat) (f : Rick → Rick) : (s.onRick k f).maps = s.maps := rfl
@[simp] theorem onRick_refs (s : State) (k : Nat) (f : Rick → Rick) : (s.onRick k f).refs = s.refs := rfl
@[simp] theorem onRick_poisoned (s : State) (k : Nat) (f : Rick → Rick) : (s.onRick k f).poisoned = s.poisoned := rfl
@[simp] theorem onRick_handles (s : State) (k : Nat) (f : Rick → Rick) : (s.onRick k f).handles = s.handles := rfl
@[simp] theorem onRick_wsets (s : State) (k : Nat) (f : Rick → Rick) : (s.onRick k f).wsets = s.wsets := rfl
@[simp] theorem onRick_windows (s : State) (k : Nat) (f : Rick → Rick) : (s.onRick k f).windows = s.windows := rfl
@[simp] theorem onRick_rings (s : State) (k : Nat) (f : Rick → Rick) : (s.onRick k f).rings = s.rings := rfl
@[simp] theorem onRick_sent (s : State) (k : Nat) (f : Rick → Rick) : (s.onRick k f).sent = s.sent := rfl
@[simp] theorem onRick_msgid (s : State) (k : Nat) (f : Rick → Rick) : (s.onRick k f).msgid = s.msgid := rfl
@[simp] theorem onRick_flights (s : State) (k : Nat) (f : Rick → Rick) : (s.onRick k f).flights = s.flights := rfl
@[simp] theorem onRick_buffers (s : State) (k : Nat) (f : Rick → Rick) : (s.onRick k f).buffers = s.buffers := rfl
@[simp] theorem onRick_trigs (s : State) (k : Nat) (f : Rick → Rick) : (s.onRick k f).trigs = s.trigs := rfl
@[simp] theorem onRick_groups (s : State) (k : Nat) (f : Rick → Rick) : (s.onRick k f).groups = s.groups := rfl
@[simp] theorem onRick_conns (s : State) (k : Nat) (f : Rick → Rick) : (s.onRick k f).conns = s.conns := rfl
@[simp] theorem onRick_turns (s : State) (k : Nat) (f : Rick → Rick) : (s.onRick k f).turns = s.turns := rfl
@[simp] theorem onRick_fports (s : State) (k : Nat) (f : Rick → Rick) : (s.onRick k f).fports = s.fports := rfl
@[simp] theorem onRick_eports (s : State) (k : Nat) (f : Rick → Rick) : (s.onRick k f).eports = s.eports := rfl
@[simp] theorem onRick_spare (s : State) (k : Nat) (f : Rick → Rick) : (s.onRick k f).spare = s.spare := rfl
@[simp] theorem onRick_spareNext (s : State) (k : Nat) (f : Rick → Rick) : (s.onRick k f).spareNext = s.spareNext := rfl
@[simp] theorem onRick_due (s : State) (k : Nat) (f : Rick → Rick) : (s.onRick k f).due = s.due := rfl
@[simp] theorem onRick_sessions (s : State) (k : Nat) (f : Rick → Rick) : (s.onRick k f).sessions = s.sessions := rfl
@[simp] theorem onRick_replies (s : State) (k : Nat) (f : Rick → Rick) : (s.onRick k f).replies = s.replies := rfl
@[simp] theorem onRick_objs (s : State) (k : Nat) (f : Rick → Rick) : (s.onRick k f).objs = s.objs := rfl
@[simp] theorem onRick_banks (s : State) (k : Nat) (f : Rick → Rick) : (s.onRick k f).banks = s.banks := rfl
@[simp] theorem onRick_bank (s : State) (k : Nat) (f : Rick → Rick) : (s.onRick k f).bank = s.bank := rfl
@[simp] theorem onRick_setkeys (s : State) (k : Nat) (f : Rick → Rick) : (s.onRick k f).setkeys = s.setkeys := rfl
@[simp] theorem onRick_causes (s : State) (k : Nat) (f : Rick → Rick) : (s.onRick k f).causes = s.causes := rfl
@[simp] theorem onRick_clearAt (s : State) (k : Nat) (f : Rick → Rick) : (s.onRick k f).clearAt = s.clearAt := rfl
@[simp] theorem onRick_throttleAt (s : State) (k : Nat) (f : Rick → Rick) : (s.onRick k f).throttleAt = s.throttleAt := rfl
@[simp] theorem onRick_powered (s : State) (k : Nat) (f : Rick → Rick) : (s.onRick k f).powered = s.powered := rfl
@[simp] theorem onRick_heldInput (s : State) (k : Nat) (f : Rick → Rick) : (s.onRick k f).heldInput = s.heldInput := rfl
@[simp] theorem onRick_heldHeat (s : State) (k : Nat) (f : Rick → Rick) : (s.onRick k f).heldHeat = s.heldHeat := rfl
@[simp] theorem onRick_tinderHold (s : State) (k : Nat) (f : Rick → Rick) : (s.onRick k f).tinderHold = s.tinderHold := rfl
@[simp] theorem onRick_bootT0 (s : State) (k : Nat) (f : Rick → Rick) : (s.onRick k f).bootT0 = s.bootT0 := rfl
@[simp] theorem onRick_bringups (s : State) (k : Nat) (f : Rick → Rick) : (s.onRick k f).bringups = s.bringups := rfl
@[simp] theorem onRick_trialT0 (s : State) (k : Nat) (f : Rick → Rick) : (s.onRick k f).trialT0 = s.trialT0 := rfl
@[simp] theorem onRick_standby (s : State) (k : Nat) (f : Rick → Rick) : (s.onRick k f).standby = s.standby := rfl
@[simp] theorem onRick_refsLost (s : State) (k : Nat) (f : Rick → Rick) : (s.onRick k f).refsLost = s.refsLost := rfl
@[simp] theorem onRick_slew (s : State) (k : Nat) (f : Rick → Rick) : (s.onRick k f).slew = s.slew := rfl
@[simp] theorem onRick_descending (s : State) (k : Nat) (f : Rick → Rick) : (s.onRick k f).descending = s.descending := rfl
@[simp] theorem onRick_powerOns (s : State) (k : Nat) (f : Rick → Rick) : (s.onRick k f).powerOns = s.powerOns := rfl
@[simp] theorem onRick_lastReady (s : State) (k : Nat) (f : Rick → Rick) : (s.onRick k f).lastReady = s.lastReady := rfl
@[simp] theorem onRick_unplanned (s : State) (k : Nat) (f : Rick → Rick) : (s.onRick k f).unplanned = s.unplanned := rfl
@[simp] theorem onRick_switchOn (s : State) (k : Nat) (f : Rick → Rick) : (s.onRick k f).switchOn = s.switchOn := rfl
@[simp] theorem onRick_kindPart (s : State) (k : Nat) (f : Rick → Rick) : (s.onRick k f).kindPart = s.kindPart := rfl
@[simp] theorem onRick_kindMask (s : State) (k : Nat) (f : Rick → Rick) : (s.onRick k f).kindMask = s.kindMask := rfl
@[simp] theorem onRick_kindled (s : State) (k : Nat) (f : Rick → Rick) : (s.onRick k f).kindled = s.kindled := rfl
@[simp] theorem onRick_kindEnding (s : State) (k : Nat) (f : Rick → Rick) : (s.onRick k f).kindEnding = s.kindEnding := rfl
@[simp] theorem setVal_pending (s : State) (k : Nat) (v : DVal) : (s.setVal k v).pending = s.pending := rfl
@[simp] theorem setVal_waits (s : State) (k : Nat) (v : DVal) : (s.setVal k v).waits = s.waits := rfl
@[simp] theorem setVal_held (s : State) (k : Nat) (v : DVal) : (s.setVal k v).held = s.held := rfl
@[simp] theorem setVal_now (s : State) (k : Nat) (v : DVal) : (s.setVal k v).now = s.now := rfl
@[simp] theorem setVal_free (s : State) (k : Nat) (v : DVal) : (s.setVal k v).free = s.free := rfl
@[simp] theorem setVal_mem (s : State) (k : Nat) (v : DVal) : (s.setVal k v).mem = s.mem := rfl
@[simp] theorem setVal_stored (s : State) (k : Nat) (v : DVal) : (s.setVal k v).stored = s.stored := rfl
@[simp] theorem setVal_hearths (s : State) (k : Nat) (v : DVal) : (s.setVal k v).hearths = s.hearths := rfl
@[simp] theorem setVal_parts (s : State) (k : Nat) (v : DVal) : (s.setVal k v).parts = s.parts := rfl
@[simp] theorem setVal_events (s : State) (k : Nat) (v : DVal) : (s.setVal k v).events = s.events := rfl
@[simp] theorem setVal_persisted (s : State) (k : Nat) (v : DVal) : (s.setVal k v).persisted = s.persisted := rfl
@[simp] theorem setVal_partEvents (s : State) (k : Nat) (v : DVal) : (s.setVal k v).partEvents = s.partEvents := rfl
@[simp] theorem setVal_bad (s : State) (k : Nat) (v : DVal) : (s.setVal k v).bad = s.bad := rfl
@[simp] theorem setVal_ce (s : State) (k : Nat) (v : DVal) : (s.setVal k v).ce = s.ce := rfl
@[simp] theorem setVal_ricks (s : State) (k : Nat) (v : DVal) : (s.setVal k v).ricks = s.ricks := rfl
@[simp] theorem setVal_jobs (s : State) (k : Nat) (v : DVal) : (s.setVal k v).jobs = s.jobs := rfl
@[simp] theorem setVal_regions (s : State) (k : Nat) (v : DVal) : (s.setVal k v).regions = s.regions := rfl
@[simp] theorem setVal_dirty (s : State) (k : Nat) (v : DVal) : (s.setVal k v).dirty = s.dirty := rfl
@[simp] theorem setVal_pagePoison (s : State) (k : Nat) (v : DVal) : (s.setVal k v).pagePoison = s.pagePoison := rfl
@[simp] theorem setVal_remap (s : State) (k : Nat) (v : DVal) : (s.setVal k v).remap = s.remap := rfl
@[simp] theorem setVal_reqs (s : State) (k : Nat) (v : DVal) : (s.setVal k v).reqs = s.reqs := rfl
@[simp] theorem setVal_reqx (s : State) (k : Nat) (v : DVal) : (s.setVal k v).reqx = s.reqx := rfl
@[simp] theorem setVal_dirs (s : State) (k : Nat) (v : DVal) : (s.setVal k v).dirs = s.dirs := rfl
@[simp] theorem setVal_maps (s : State) (k : Nat) (v : DVal) : (s.setVal k v).maps = s.maps := rfl
@[simp] theorem setVal_refs (s : State) (k : Nat) (v : DVal) : (s.setVal k v).refs = s.refs := rfl
@[simp] theorem setVal_poisoned (s : State) (k : Nat) (v : DVal) : (s.setVal k v).poisoned = s.poisoned := rfl
@[simp] theorem setVal_handles (s : State) (k : Nat) (v : DVal) : (s.setVal k v).handles = s.handles := rfl
@[simp] theorem setVal_wsets (s : State) (k : Nat) (v : DVal) : (s.setVal k v).wsets = s.wsets := rfl
@[simp] theorem setVal_windows (s : State) (k : Nat) (v : DVal) : (s.setVal k v).windows = s.windows := rfl
@[simp] theorem setVal_rings (s : State) (k : Nat) (v : DVal) : (s.setVal k v).rings = s.rings := rfl
@[simp] theorem setVal_sent (s : State) (k : Nat) (v : DVal) : (s.setVal k v).sent = s.sent := rfl
@[simp] theorem setVal_msgid (s : State) (k : Nat) (v : DVal) : (s.setVal k v).msgid = s.msgid := rfl
@[simp] theorem setVal_flights (s : State) (k : Nat) (v : DVal) : (s.setVal k v).flights = s.flights := rfl
@[simp] theorem setVal_buffers (s : State) (k : Nat) (v : DVal) : (s.setVal k v).buffers = s.buffers := rfl
@[simp] theorem setVal_trigs (s : State) (k : Nat) (v : DVal) : (s.setVal k v).trigs = s.trigs := rfl
@[simp] theorem setVal_groups (s : State) (k : Nat) (v : DVal) : (s.setVal k v).groups = s.groups := rfl
@[simp] theorem setVal_conns (s : State) (k : Nat) (v : DVal) : (s.setVal k v).conns = s.conns := rfl
@[simp] theorem setVal_turns (s : State) (k : Nat) (v : DVal) : (s.setVal k v).turns = s.turns := rfl
@[simp] theorem setVal_fports (s : State) (k : Nat) (v : DVal) : (s.setVal k v).fports = s.fports := rfl
@[simp] theorem setVal_eports (s : State) (k : Nat) (v : DVal) : (s.setVal k v).eports = s.eports := rfl
@[simp] theorem setVal_spare (s : State) (k : Nat) (v : DVal) : (s.setVal k v).spare = s.spare := rfl
@[simp] theorem setVal_spareNext (s : State) (k : Nat) (v : DVal) : (s.setVal k v).spareNext = s.spareNext := rfl
@[simp] theorem setVal_due (s : State) (k : Nat) (v : DVal) : (s.setVal k v).due = s.due := rfl
@[simp] theorem setVal_replies (s : State) (k : Nat) (v : DVal) : (s.setVal k v).replies = s.replies := rfl
@[simp] theorem setVal_objs (s : State) (k : Nat) (v : DVal) : (s.setVal k v).objs = s.objs := rfl
@[simp] theorem setVal_banks (s : State) (k : Nat) (v : DVal) : (s.setVal k v).banks = s.banks := rfl
@[simp] theorem setVal_bank (s : State) (k : Nat) (v : DVal) : (s.setVal k v).bank = s.bank := rfl
@[simp] theorem setVal_setkeys (s : State) (k : Nat) (v : DVal) : (s.setVal k v).setkeys = s.setkeys := rfl
@[simp] theorem setVal_causes (s : State) (k : Nat) (v : DVal) : (s.setVal k v).causes = s.causes := rfl
@[simp] theorem setVal_clearAt (s : State) (k : Nat) (v : DVal) : (s.setVal k v).clearAt = s.clearAt := rfl
@[simp] theorem setVal_throttleAt (s : State) (k : Nat) (v : DVal) : (s.setVal k v).throttleAt = s.throttleAt := rfl
@[simp] theorem setVal_powered (s : State) (k : Nat) (v : DVal) : (s.setVal k v).powered = s.powered := rfl
@[simp] theorem setVal_heldInput (s : State) (k : Nat) (v : DVal) : (s.setVal k v).heldInput = s.heldInput := rfl
@[simp] theorem setVal_heldHeat (s : State) (k : Nat) (v : DVal) : (s.setVal k v).heldHeat = s.heldHeat := rfl
@[simp] theorem setVal_tinderHold (s : State) (k : Nat) (v : DVal) : (s.setVal k v).tinderHold = s.tinderHold := rfl
@[simp] theorem setVal_bootT0 (s : State) (k : Nat) (v : DVal) : (s.setVal k v).bootT0 = s.bootT0 := rfl
@[simp] theorem setVal_bringups (s : State) (k : Nat) (v : DVal) : (s.setVal k v).bringups = s.bringups := rfl
@[simp] theorem setVal_trialT0 (s : State) (k : Nat) (v : DVal) : (s.setVal k v).trialT0 = s.trialT0 := rfl
@[simp] theorem setVal_standby (s : State) (k : Nat) (v : DVal) : (s.setVal k v).standby = s.standby := rfl
@[simp] theorem setVal_refsLost (s : State) (k : Nat) (v : DVal) : (s.setVal k v).refsLost = s.refsLost := rfl
@[simp] theorem setVal_slew (s : State) (k : Nat) (v : DVal) : (s.setVal k v).slew = s.slew := rfl
@[simp] theorem setVal_descending (s : State) (k : Nat) (v : DVal) : (s.setVal k v).descending = s.descending := rfl
@[simp] theorem setVal_powerOns (s : State) (k : Nat) (v : DVal) : (s.setVal k v).powerOns = s.powerOns := rfl
@[simp] theorem setVal_lastReady (s : State) (k : Nat) (v : DVal) : (s.setVal k v).lastReady = s.lastReady := rfl
@[simp] theorem setVal_unplanned (s : State) (k : Nat) (v : DVal) : (s.setVal k v).unplanned = s.unplanned := rfl
@[simp] theorem setVal_switchOn (s : State) (k : Nat) (v : DVal) : (s.setVal k v).switchOn = s.switchOn := rfl
@[simp] theorem setVal_kindPart (s : State) (k : Nat) (v : DVal) : (s.setVal k v).kindPart = s.kindPart := rfl
@[simp] theorem setVal_kindMask (s : State) (k : Nat) (v : DVal) : (s.setVal k v).kindMask = s.kindMask := rfl
@[simp] theorem setVal_kindled (s : State) (k : Nat) (v : DVal) : (s.setVal k v).kindled = s.kindled := rfl
@[simp] theorem setVal_kindEnding (s : State) (k : Nat) (v : DVal) : (s.setVal k v).kindEnding = s.kindEnding := rfl
@[simp] theorem setNum_pending (s : State) (k v : Nat) : (s.setNum k v).pending = s.pending := rfl
@[simp] theorem setNum_waits (s : State) (k v : Nat) : (s.setNum k v).waits = s.waits := rfl
@[simp] theorem setNum_held (s : State) (k v : Nat) : (s.setNum k v).held = s.held := rfl
@[simp] theorem setNum_now (s : State) (k v : Nat) : (s.setNum k v).now = s.now := rfl
@[simp] theorem setNum_free (s : State) (k v : Nat) : (s.setNum k v).free = s.free := rfl
@[simp] theorem setNum_mem (s : State) (k v : Nat) : (s.setNum k v).mem = s.mem := rfl
@[simp] theorem setNum_stored (s : State) (k v : Nat) : (s.setNum k v).stored = s.stored := rfl
@[simp] theorem setNum_hearths (s : State) (k v : Nat) : (s.setNum k v).hearths = s.hearths := rfl
@[simp] theorem setNum_parts (s : State) (k v : Nat) : (s.setNum k v).parts = s.parts := rfl
@[simp] theorem setNum_events (s : State) (k v : Nat) : (s.setNum k v).events = s.events := rfl
@[simp] theorem setNum_persisted (s : State) (k v : Nat) : (s.setNum k v).persisted = s.persisted := rfl
@[simp] theorem setNum_partEvents (s : State) (k v : Nat) : (s.setNum k v).partEvents = s.partEvents := rfl
@[simp] theorem setNum_bad (s : State) (k v : Nat) : (s.setNum k v).bad = s.bad := rfl
@[simp] theorem setNum_ce (s : State) (k v : Nat) : (s.setNum k v).ce = s.ce := rfl
@[simp] theorem setNum_ricks (s : State) (k v : Nat) : (s.setNum k v).ricks = s.ricks := rfl
@[simp] theorem setNum_jobs (s : State) (k v : Nat) : (s.setNum k v).jobs = s.jobs := rfl
@[simp] theorem setNum_regions (s : State) (k v : Nat) : (s.setNum k v).regions = s.regions := rfl
@[simp] theorem setNum_dirty (s : State) (k v : Nat) : (s.setNum k v).dirty = s.dirty := rfl
@[simp] theorem setNum_pagePoison (s : State) (k v : Nat) : (s.setNum k v).pagePoison = s.pagePoison := rfl
@[simp] theorem setNum_remap (s : State) (k v : Nat) : (s.setNum k v).remap = s.remap := rfl
@[simp] theorem setNum_reqs (s : State) (k v : Nat) : (s.setNum k v).reqs = s.reqs := rfl
@[simp] theorem setNum_reqx (s : State) (k v : Nat) : (s.setNum k v).reqx = s.reqx := rfl
@[simp] theorem setNum_dirs (s : State) (k v : Nat) : (s.setNum k v).dirs = s.dirs := rfl
@[simp] theorem setNum_maps (s : State) (k v : Nat) : (s.setNum k v).maps = s.maps := rfl
@[simp] theorem setNum_refs (s : State) (k v : Nat) : (s.setNum k v).refs = s.refs := rfl
@[simp] theorem setNum_poisoned (s : State) (k v : Nat) : (s.setNum k v).poisoned = s.poisoned := rfl
@[simp] theorem setNum_handles (s : State) (k v : Nat) : (s.setNum k v).handles = s.handles := rfl
@[simp] theorem setNum_wsets (s : State) (k v : Nat) : (s.setNum k v).wsets = s.wsets := rfl
@[simp] theorem setNum_windows (s : State) (k v : Nat) : (s.setNum k v).windows = s.windows := rfl
@[simp] theorem setNum_rings (s : State) (k v : Nat) : (s.setNum k v).rings = s.rings := rfl
@[simp] theorem setNum_sent (s : State) (k v : Nat) : (s.setNum k v).sent = s.sent := rfl
@[simp] theorem setNum_msgid (s : State) (k v : Nat) : (s.setNum k v).msgid = s.msgid := rfl
@[simp] theorem setNum_flights (s : State) (k v : Nat) : (s.setNum k v).flights = s.flights := rfl
@[simp] theorem setNum_buffers (s : State) (k v : Nat) : (s.setNum k v).buffers = s.buffers := rfl
@[simp] theorem setNum_trigs (s : State) (k v : Nat) : (s.setNum k v).trigs = s.trigs := rfl
@[simp] theorem setNum_groups (s : State) (k v : Nat) : (s.setNum k v).groups = s.groups := rfl
@[simp] theorem setNum_conns (s : State) (k v : Nat) : (s.setNum k v).conns = s.conns := rfl
@[simp] theorem setNum_turns (s : State) (k v : Nat) : (s.setNum k v).turns = s.turns := rfl
@[simp] theorem setNum_fports (s : State) (k v : Nat) : (s.setNum k v).fports = s.fports := rfl
@[simp] theorem setNum_eports (s : State) (k v : Nat) : (s.setNum k v).eports = s.eports := rfl
@[simp] theorem setNum_spare (s : State) (k v : Nat) : (s.setNum k v).spare = s.spare := rfl
@[simp] theorem setNum_spareNext (s : State) (k v : Nat) : (s.setNum k v).spareNext = s.spareNext := rfl
@[simp] theorem setNum_due (s : State) (k v : Nat) : (s.setNum k v).due = s.due := rfl
@[simp] theorem setNum_replies (s : State) (k v : Nat) : (s.setNum k v).replies = s.replies := rfl
@[simp] theorem setNum_objs (s : State) (k v : Nat) : (s.setNum k v).objs = s.objs := rfl
@[simp] theorem setNum_banks (s : State) (k v : Nat) : (s.setNum k v).banks = s.banks := rfl
@[simp] theorem setNum_bank (s : State) (k v : Nat) : (s.setNum k v).bank = s.bank := rfl
@[simp] theorem setNum_setkeys (s : State) (k v : Nat) : (s.setNum k v).setkeys = s.setkeys := rfl
@[simp] theorem setNum_causes (s : State) (k v : Nat) : (s.setNum k v).causes = s.causes := rfl
@[simp] theorem setNum_clearAt (s : State) (k v : Nat) : (s.setNum k v).clearAt = s.clearAt := rfl
@[simp] theorem setNum_throttleAt (s : State) (k v : Nat) : (s.setNum k v).throttleAt = s.throttleAt := rfl
@[simp] theorem setNum_powered (s : State) (k v : Nat) : (s.setNum k v).powered = s.powered := rfl
@[simp] theorem setNum_heldInput (s : State) (k v : Nat) : (s.setNum k v).heldInput = s.heldInput := rfl
@[simp] theorem setNum_heldHeat (s : State) (k v : Nat) : (s.setNum k v).heldHeat = s.heldHeat := rfl
@[simp] theorem setNum_tinderHold (s : State) (k v : Nat) : (s.setNum k v).tinderHold = s.tinderHold := rfl
@[simp] theorem setNum_bootT0 (s : State) (k v : Nat) : (s.setNum k v).bootT0 = s.bootT0 := rfl
@[simp] theorem setNum_bringups (s : State) (k v : Nat) : (s.setNum k v).bringups = s.bringups := rfl
@[simp] theorem setNum_trialT0 (s : State) (k v : Nat) : (s.setNum k v).trialT0 = s.trialT0 := rfl
@[simp] theorem setNum_standby (s : State) (k v : Nat) : (s.setNum k v).standby = s.standby := rfl
@[simp] theorem setNum_refsLost (s : State) (k v : Nat) : (s.setNum k v).refsLost = s.refsLost := rfl
@[simp] theorem setNum_slew (s : State) (k v : Nat) : (s.setNum k v).slew = s.slew := rfl
@[simp] theorem setNum_descending (s : State) (k v : Nat) : (s.setNum k v).descending = s.descending := rfl
@[simp] theorem setNum_powerOns (s : State) (k v : Nat) : (s.setNum k v).powerOns = s.powerOns := rfl
@[simp] theorem setNum_lastReady (s : State) (k v : Nat) : (s.setNum k v).lastReady = s.lastReady := rfl
@[simp] theorem setNum_unplanned (s : State) (k v : Nat) : (s.setNum k v).unplanned = s.unplanned := rfl
@[simp] theorem setNum_switchOn (s : State) (k v : Nat) : (s.setNum k v).switchOn = s.switchOn := rfl
@[simp] theorem setNum_kindPart (s : State) (k v : Nat) : (s.setNum k v).kindPart = s.kindPart := rfl
@[simp] theorem setNum_kindMask (s : State) (k v : Nat) : (s.setNum k v).kindMask = s.kindMask := rfl
@[simp] theorem setNum_kindled (s : State) (k v : Nat) : (s.setNum k v).kindled = s.kindled := rfl
@[simp] theorem setNum_kindEnding (s : State) (k v : Nat) : (s.setNum k v).kindEnding = s.kindEnding := rfl
@[simp] theorem setBlob_pending (s : State) (k : Nat) (v : List Byte) : (s.setBlob k v).pending = s.pending := rfl
@[simp] theorem setBlob_waits (s : State) (k : Nat) (v : List Byte) : (s.setBlob k v).waits = s.waits := rfl
@[simp] theorem setBlob_held (s : State) (k : Nat) (v : List Byte) : (s.setBlob k v).held = s.held := rfl
@[simp] theorem setBlob_now (s : State) (k : Nat) (v : List Byte) : (s.setBlob k v).now = s.now := rfl
@[simp] theorem setBlob_free (s : State) (k : Nat) (v : List Byte) : (s.setBlob k v).free = s.free := rfl
@[simp] theorem setBlob_mem (s : State) (k : Nat) (v : List Byte) : (s.setBlob k v).mem = s.mem := rfl
@[simp] theorem setBlob_stored (s : State) (k : Nat) (v : List Byte) : (s.setBlob k v).stored = s.stored := rfl
@[simp] theorem setBlob_hearths (s : State) (k : Nat) (v : List Byte) : (s.setBlob k v).hearths = s.hearths := rfl
@[simp] theorem setBlob_parts (s : State) (k : Nat) (v : List Byte) : (s.setBlob k v).parts = s.parts := rfl
@[simp] theorem setBlob_events (s : State) (k : Nat) (v : List Byte) : (s.setBlob k v).events = s.events := rfl
@[simp] theorem setBlob_persisted (s : State) (k : Nat) (v : List Byte) : (s.setBlob k v).persisted = s.persisted := rfl
@[simp] theorem setBlob_partEvents (s : State) (k : Nat) (v : List Byte) : (s.setBlob k v).partEvents = s.partEvents := rfl
@[simp] theorem setBlob_bad (s : State) (k : Nat) (v : List Byte) : (s.setBlob k v).bad = s.bad := rfl
@[simp] theorem setBlob_ce (s : State) (k : Nat) (v : List Byte) : (s.setBlob k v).ce = s.ce := rfl
@[simp] theorem setBlob_ricks (s : State) (k : Nat) (v : List Byte) : (s.setBlob k v).ricks = s.ricks := rfl
@[simp] theorem setBlob_jobs (s : State) (k : Nat) (v : List Byte) : (s.setBlob k v).jobs = s.jobs := rfl
@[simp] theorem setBlob_regions (s : State) (k : Nat) (v : List Byte) : (s.setBlob k v).regions = s.regions := rfl
@[simp] theorem setBlob_dirty (s : State) (k : Nat) (v : List Byte) : (s.setBlob k v).dirty = s.dirty := rfl
@[simp] theorem setBlob_pagePoison (s : State) (k : Nat) (v : List Byte) : (s.setBlob k v).pagePoison = s.pagePoison := rfl
@[simp] theorem setBlob_remap (s : State) (k : Nat) (v : List Byte) : (s.setBlob k v).remap = s.remap := rfl
@[simp] theorem setBlob_reqs (s : State) (k : Nat) (v : List Byte) : (s.setBlob k v).reqs = s.reqs := rfl
@[simp] theorem setBlob_reqx (s : State) (k : Nat) (v : List Byte) : (s.setBlob k v).reqx = s.reqx := rfl
@[simp] theorem setBlob_dirs (s : State) (k : Nat) (v : List Byte) : (s.setBlob k v).dirs = s.dirs := rfl
@[simp] theorem setBlob_maps (s : State) (k : Nat) (v : List Byte) : (s.setBlob k v).maps = s.maps := rfl
@[simp] theorem setBlob_refs (s : State) (k : Nat) (v : List Byte) : (s.setBlob k v).refs = s.refs := rfl
@[simp] theorem setBlob_poisoned (s : State) (k : Nat) (v : List Byte) : (s.setBlob k v).poisoned = s.poisoned := rfl
@[simp] theorem setBlob_handles (s : State) (k : Nat) (v : List Byte) : (s.setBlob k v).handles = s.handles := rfl
@[simp] theorem setBlob_wsets (s : State) (k : Nat) (v : List Byte) : (s.setBlob k v).wsets = s.wsets := rfl
@[simp] theorem setBlob_windows (s : State) (k : Nat) (v : List Byte) : (s.setBlob k v).windows = s.windows := rfl
@[simp] theorem setBlob_rings (s : State) (k : Nat) (v : List Byte) : (s.setBlob k v).rings = s.rings := rfl
@[simp] theorem setBlob_sent (s : State) (k : Nat) (v : List Byte) : (s.setBlob k v).sent = s.sent := rfl
@[simp] theorem setBlob_msgid (s : State) (k : Nat) (v : List Byte) : (s.setBlob k v).msgid = s.msgid := rfl
@[simp] theorem setBlob_flights (s : State) (k : Nat) (v : List Byte) : (s.setBlob k v).flights = s.flights := rfl
@[simp] theorem setBlob_buffers (s : State) (k : Nat) (v : List Byte) : (s.setBlob k v).buffers = s.buffers := rfl
@[simp] theorem setBlob_trigs (s : State) (k : Nat) (v : List Byte) : (s.setBlob k v).trigs = s.trigs := rfl
@[simp] theorem setBlob_groups (s : State) (k : Nat) (v : List Byte) : (s.setBlob k v).groups = s.groups := rfl
@[simp] theorem setBlob_conns (s : State) (k : Nat) (v : List Byte) : (s.setBlob k v).conns = s.conns := rfl
@[simp] theorem setBlob_turns (s : State) (k : Nat) (v : List Byte) : (s.setBlob k v).turns = s.turns := rfl
@[simp] theorem setBlob_fports (s : State) (k : Nat) (v : List Byte) : (s.setBlob k v).fports = s.fports := rfl
@[simp] theorem setBlob_eports (s : State) (k : Nat) (v : List Byte) : (s.setBlob k v).eports = s.eports := rfl
@[simp] theorem setBlob_spare (s : State) (k : Nat) (v : List Byte) : (s.setBlob k v).spare = s.spare := rfl
@[simp] theorem setBlob_spareNext (s : State) (k : Nat) (v : List Byte) : (s.setBlob k v).spareNext = s.spareNext := rfl
@[simp] theorem setBlob_due (s : State) (k : Nat) (v : List Byte) : (s.setBlob k v).due = s.due := rfl
@[simp] theorem setBlob_replies (s : State) (k : Nat) (v : List Byte) : (s.setBlob k v).replies = s.replies := rfl
@[simp] theorem setBlob_objs (s : State) (k : Nat) (v : List Byte) : (s.setBlob k v).objs = s.objs := rfl
@[simp] theorem setBlob_banks (s : State) (k : Nat) (v : List Byte) : (s.setBlob k v).banks = s.banks := rfl
@[simp] theorem setBlob_bank (s : State) (k : Nat) (v : List Byte) : (s.setBlob k v).bank = s.bank := rfl
@[simp] theorem setBlob_setkeys (s : State) (k : Nat) (v : List Byte) : (s.setBlob k v).setkeys = s.setkeys := rfl
@[simp] theorem setBlob_causes (s : State) (k : Nat) (v : List Byte) : (s.setBlob k v).causes = s.causes := rfl
@[simp] theorem setBlob_clearAt (s : State) (k : Nat) (v : List Byte) : (s.setBlob k v).clearAt = s.clearAt := rfl
@[simp] theorem setBlob_throttleAt (s : State) (k : Nat) (v : List Byte) : (s.setBlob k v).throttleAt = s.throttleAt := rfl
@[simp] theorem setBlob_powered (s : State) (k : Nat) (v : List Byte) : (s.setBlob k v).powered = s.powered := rfl
@[simp] theorem setBlob_heldInput (s : State) (k : Nat) (v : List Byte) : (s.setBlob k v).heldInput = s.heldInput := rfl
@[simp] theorem setBlob_heldHeat (s : State) (k : Nat) (v : List Byte) : (s.setBlob k v).heldHeat = s.heldHeat := rfl
@[simp] theorem setBlob_tinderHold (s : State) (k : Nat) (v : List Byte) : (s.setBlob k v).tinderHold = s.tinderHold := rfl
@[simp] theorem setBlob_bootT0 (s : State) (k : Nat) (v : List Byte) : (s.setBlob k v).bootT0 = s.bootT0 := rfl
@[simp] theorem setBlob_bringups (s : State) (k : Nat) (v : List Byte) : (s.setBlob k v).bringups = s.bringups := rfl
@[simp] theorem setBlob_trialT0 (s : State) (k : Nat) (v : List Byte) : (s.setBlob k v).trialT0 = s.trialT0 := rfl
@[simp] theorem setBlob_standby (s : State) (k : Nat) (v : List Byte) : (s.setBlob k v).standby = s.standby := rfl
@[simp] theorem setBlob_refsLost (s : State) (k : Nat) (v : List Byte) : (s.setBlob k v).refsLost = s.refsLost := rfl
@[simp] theorem setBlob_slew (s : State) (k : Nat) (v : List Byte) : (s.setBlob k v).slew = s.slew := rfl
@[simp] theorem setBlob_descending (s : State) (k : Nat) (v : List Byte) : (s.setBlob k v).descending = s.descending := rfl
@[simp] theorem setBlob_powerOns (s : State) (k : Nat) (v : List Byte) : (s.setBlob k v).powerOns = s.powerOns := rfl
@[simp] theorem setBlob_lastReady (s : State) (k : Nat) (v : List Byte) : (s.setBlob k v).lastReady = s.lastReady := rfl
@[simp] theorem setBlob_unplanned (s : State) (k : Nat) (v : List Byte) : (s.setBlob k v).unplanned = s.unplanned := rfl
@[simp] theorem setBlob_switchOn (s : State) (k : Nat) (v : List Byte) : (s.setBlob k v).switchOn = s.switchOn := rfl
@[simp] theorem setBlob_kindPart (s : State) (k : Nat) (v : List Byte) : (s.setBlob k v).kindPart = s.kindPart := rfl
@[simp] theorem setBlob_kindMask (s : State) (k : Nat) (v : List Byte) : (s.setBlob k v).kindMask = s.kindMask := rfl
@[simp] theorem setBlob_kindled (s : State) (k : Nat) (v : List Byte) : (s.setBlob k v).kindled = s.kindled := rfl
@[simp] theorem setBlob_kindEnding (s : State) (k : Nat) (v : List Byte) : (s.setBlob k v).kindEnding = s.kindEnding := rfl
@[simp] theorem bumpBy_pending (s : State) (k w d : Nat) : (s.bumpBy k w d).pending = s.pending := rfl
@[simp] theorem bumpBy_waits (s : State) (k w d : Nat) : (s.bumpBy k w d).waits = s.waits := rfl
@[simp] theorem bumpBy_held (s : State) (k w d : Nat) : (s.bumpBy k w d).held = s.held := rfl
@[simp] theorem bumpBy_now (s : State) (k w d : Nat) : (s.bumpBy k w d).now = s.now := rfl
@[simp] theorem bumpBy_free (s : State) (k w d : Nat) : (s.bumpBy k w d).free = s.free := rfl
@[simp] theorem bumpBy_mem (s : State) (k w d : Nat) : (s.bumpBy k w d).mem = s.mem := rfl
@[simp] theorem bumpBy_stored (s : State) (k w d : Nat) : (s.bumpBy k w d).stored = s.stored := rfl
@[simp] theorem bumpBy_hearths (s : State) (k w d : Nat) : (s.bumpBy k w d).hearths = s.hearths := rfl
@[simp] theorem bumpBy_parts (s : State) (k w d : Nat) : (s.bumpBy k w d).parts = s.parts := rfl
@[simp] theorem bumpBy_events (s : State) (k w d : Nat) : (s.bumpBy k w d).events = s.events := rfl
@[simp] theorem bumpBy_persisted (s : State) (k w d : Nat) : (s.bumpBy k w d).persisted = s.persisted := rfl
@[simp] theorem bumpBy_partEvents (s : State) (k w d : Nat) : (s.bumpBy k w d).partEvents = s.partEvents := rfl
@[simp] theorem bumpBy_bad (s : State) (k w d : Nat) : (s.bumpBy k w d).bad = s.bad := rfl
@[simp] theorem bumpBy_ce (s : State) (k w d : Nat) : (s.bumpBy k w d).ce = s.ce := rfl
@[simp] theorem bumpBy_ricks (s : State) (k w d : Nat) : (s.bumpBy k w d).ricks = s.ricks := rfl
@[simp] theorem bumpBy_jobs (s : State) (k w d : Nat) : (s.bumpBy k w d).jobs = s.jobs := rfl
@[simp] theorem bumpBy_regions (s : State) (k w d : Nat) : (s.bumpBy k w d).regions = s.regions := rfl
@[simp] theorem bumpBy_dirty (s : State) (k w d : Nat) : (s.bumpBy k w d).dirty = s.dirty := rfl
@[simp] theorem bumpBy_pagePoison (s : State) (k w d : Nat) : (s.bumpBy k w d).pagePoison = s.pagePoison := rfl
@[simp] theorem bumpBy_remap (s : State) (k w d : Nat) : (s.bumpBy k w d).remap = s.remap := rfl
@[simp] theorem bumpBy_reqs (s : State) (k w d : Nat) : (s.bumpBy k w d).reqs = s.reqs := rfl
@[simp] theorem bumpBy_reqx (s : State) (k w d : Nat) : (s.bumpBy k w d).reqx = s.reqx := rfl
@[simp] theorem bumpBy_dirs (s : State) (k w d : Nat) : (s.bumpBy k w d).dirs = s.dirs := rfl
@[simp] theorem bumpBy_maps (s : State) (k w d : Nat) : (s.bumpBy k w d).maps = s.maps := rfl
@[simp] theorem bumpBy_refs (s : State) (k w d : Nat) : (s.bumpBy k w d).refs = s.refs := rfl
@[simp] theorem bumpBy_poisoned (s : State) (k w d : Nat) : (s.bumpBy k w d).poisoned = s.poisoned := rfl
@[simp] theorem bumpBy_handles (s : State) (k w d : Nat) : (s.bumpBy k w d).handles = s.handles := rfl
@[simp] theorem bumpBy_wsets (s : State) (k w d : Nat) : (s.bumpBy k w d).wsets = s.wsets := rfl
@[simp] theorem bumpBy_windows (s : State) (k w d : Nat) : (s.bumpBy k w d).windows = s.windows := rfl
@[simp] theorem bumpBy_rings (s : State) (k w d : Nat) : (s.bumpBy k w d).rings = s.rings := rfl
@[simp] theorem bumpBy_sent (s : State) (k w d : Nat) : (s.bumpBy k w d).sent = s.sent := rfl
@[simp] theorem bumpBy_msgid (s : State) (k w d : Nat) : (s.bumpBy k w d).msgid = s.msgid := rfl
@[simp] theorem bumpBy_flights (s : State) (k w d : Nat) : (s.bumpBy k w d).flights = s.flights := rfl
@[simp] theorem bumpBy_buffers (s : State) (k w d : Nat) : (s.bumpBy k w d).buffers = s.buffers := rfl
@[simp] theorem bumpBy_trigs (s : State) (k w d : Nat) : (s.bumpBy k w d).trigs = s.trigs := rfl
@[simp] theorem bumpBy_groups (s : State) (k w d : Nat) : (s.bumpBy k w d).groups = s.groups := rfl
@[simp] theorem bumpBy_conns (s : State) (k w d : Nat) : (s.bumpBy k w d).conns = s.conns := rfl
@[simp] theorem bumpBy_turns (s : State) (k w d : Nat) : (s.bumpBy k w d).turns = s.turns := rfl
@[simp] theorem bumpBy_fports (s : State) (k w d : Nat) : (s.bumpBy k w d).fports = s.fports := rfl
@[simp] theorem bumpBy_eports (s : State) (k w d : Nat) : (s.bumpBy k w d).eports = s.eports := rfl
@[simp] theorem bumpBy_spare (s : State) (k w d : Nat) : (s.bumpBy k w d).spare = s.spare := rfl
@[simp] theorem bumpBy_spareNext (s : State) (k w d : Nat) : (s.bumpBy k w d).spareNext = s.spareNext := rfl
@[simp] theorem bumpBy_due (s : State) (k w d : Nat) : (s.bumpBy k w d).due = s.due := rfl
@[simp] theorem bumpBy_replies (s : State) (k w d : Nat) : (s.bumpBy k w d).replies = s.replies := rfl
@[simp] theorem bumpBy_objs (s : State) (k w d : Nat) : (s.bumpBy k w d).objs = s.objs := rfl
@[simp] theorem bumpBy_banks (s : State) (k w d : Nat) : (s.bumpBy k w d).banks = s.banks := rfl
@[simp] theorem bumpBy_bank (s : State) (k w d : Nat) : (s.bumpBy k w d).bank = s.bank := rfl
@[simp] theorem bumpBy_setkeys (s : State) (k w d : Nat) : (s.bumpBy k w d).setkeys = s.setkeys := rfl
@[simp] theorem bumpBy_causes (s : State) (k w d : Nat) : (s.bumpBy k w d).causes = s.causes := rfl
@[simp] theorem bumpBy_clearAt (s : State) (k w d : Nat) : (s.bumpBy k w d).clearAt = s.clearAt := rfl
@[simp] theorem bumpBy_throttleAt (s : State) (k w d : Nat) : (s.bumpBy k w d).throttleAt = s.throttleAt := rfl
@[simp] theorem bumpBy_powered (s : State) (k w d : Nat) : (s.bumpBy k w d).powered = s.powered := rfl
@[simp] theorem bumpBy_heldInput (s : State) (k w d : Nat) : (s.bumpBy k w d).heldInput = s.heldInput := rfl
@[simp] theorem bumpBy_heldHeat (s : State) (k w d : Nat) : (s.bumpBy k w d).heldHeat = s.heldHeat := rfl
@[simp] theorem bumpBy_tinderHold (s : State) (k w d : Nat) : (s.bumpBy k w d).tinderHold = s.tinderHold := rfl
@[simp] theorem bumpBy_bootT0 (s : State) (k w d : Nat) : (s.bumpBy k w d).bootT0 = s.bootT0 := rfl
@[simp] theorem bumpBy_bringups (s : State) (k w d : Nat) : (s.bumpBy k w d).bringups = s.bringups := rfl
@[simp] theorem bumpBy_trialT0 (s : State) (k w d : Nat) : (s.bumpBy k w d).trialT0 = s.trialT0 := rfl
@[simp] theorem bumpBy_standby (s : State) (k w d : Nat) : (s.bumpBy k w d).standby = s.standby := rfl
@[simp] theorem bumpBy_refsLost (s : State) (k w d : Nat) : (s.bumpBy k w d).refsLost = s.refsLost := rfl
@[simp] theorem bumpBy_slew (s : State) (k w d : Nat) : (s.bumpBy k w d).slew = s.slew := rfl
@[simp] theorem bumpBy_descending (s : State) (k w d : Nat) : (s.bumpBy k w d).descending = s.descending := rfl
@[simp] theorem bumpBy_powerOns (s : State) (k w d : Nat) : (s.bumpBy k w d).powerOns = s.powerOns := rfl
@[simp] theorem bumpBy_lastReady (s : State) (k w d : Nat) : (s.bumpBy k w d).lastReady = s.lastReady := rfl
@[simp] theorem bumpBy_unplanned (s : State) (k w d : Nat) : (s.bumpBy k w d).unplanned = s.unplanned := rfl
@[simp] theorem bumpBy_switchOn (s : State) (k w d : Nat) : (s.bumpBy k w d).switchOn = s.switchOn := rfl
@[simp] theorem bumpBy_kindPart (s : State) (k w d : Nat) : (s.bumpBy k w d).kindPart = s.kindPart := rfl
@[simp] theorem bumpBy_kindMask (s : State) (k w d : Nat) : (s.bumpBy k w d).kindMask = s.kindMask := rfl
@[simp] theorem bumpBy_kindled (s : State) (k w d : Nat) : (s.bumpBy k w d).kindled = s.kindled := rfl
@[simp] theorem bumpBy_kindEnding (s : State) (k w d : Nat) : (s.bumpBy k w d).kindEnding = s.kindEnding := rfl
@[simp] theorem bump_pending (s : State) (k : Nat) : (s.bump k).pending = s.pending := rfl
@[simp] theorem bump_waits (s : State) (k : Nat) : (s.bump k).waits = s.waits := rfl
@[simp] theorem bump_held (s : State) (k : Nat) : (s.bump k).held = s.held := rfl
@[simp] theorem bump_now (s : State) (k : Nat) : (s.bump k).now = s.now := rfl
@[simp] theorem bump_free (s : State) (k : Nat) : (s.bump k).free = s.free := rfl
@[simp] theorem bump_mem (s : State) (k : Nat) : (s.bump k).mem = s.mem := rfl
@[simp] theorem bump_stored (s : State) (k : Nat) : (s.bump k).stored = s.stored := rfl
@[simp] theorem bump_hearths (s : State) (k : Nat) : (s.bump k).hearths = s.hearths := rfl
@[simp] theorem bump_parts (s : State) (k : Nat) : (s.bump k).parts = s.parts := rfl
@[simp] theorem bump_events (s : State) (k : Nat) : (s.bump k).events = s.events := rfl
@[simp] theorem bump_persisted (s : State) (k : Nat) : (s.bump k).persisted = s.persisted := rfl
@[simp] theorem bump_partEvents (s : State) (k : Nat) : (s.bump k).partEvents = s.partEvents := rfl
@[simp] theorem bump_bad (s : State) (k : Nat) : (s.bump k).bad = s.bad := rfl
@[simp] theorem bump_ce (s : State) (k : Nat) : (s.bump k).ce = s.ce := rfl
@[simp] theorem bump_ricks (s : State) (k : Nat) : (s.bump k).ricks = s.ricks := rfl
@[simp] theorem bump_jobs (s : State) (k : Nat) : (s.bump k).jobs = s.jobs := rfl
@[simp] theorem bump_regions (s : State) (k : Nat) : (s.bump k).regions = s.regions := rfl
@[simp] theorem bump_dirty (s : State) (k : Nat) : (s.bump k).dirty = s.dirty := rfl
@[simp] theorem bump_pagePoison (s : State) (k : Nat) : (s.bump k).pagePoison = s.pagePoison := rfl
@[simp] theorem bump_remap (s : State) (k : Nat) : (s.bump k).remap = s.remap := rfl
@[simp] theorem bump_reqs (s : State) (k : Nat) : (s.bump k).reqs = s.reqs := rfl
@[simp] theorem bump_reqx (s : State) (k : Nat) : (s.bump k).reqx = s.reqx := rfl
@[simp] theorem bump_dirs (s : State) (k : Nat) : (s.bump k).dirs = s.dirs := rfl
@[simp] theorem bump_maps (s : State) (k : Nat) : (s.bump k).maps = s.maps := rfl
@[simp] theorem bump_refs (s : State) (k : Nat) : (s.bump k).refs = s.refs := rfl
@[simp] theorem bump_poisoned (s : State) (k : Nat) : (s.bump k).poisoned = s.poisoned := rfl
@[simp] theorem bump_handles (s : State) (k : Nat) : (s.bump k).handles = s.handles := rfl
@[simp] theorem bump_wsets (s : State) (k : Nat) : (s.bump k).wsets = s.wsets := rfl
@[simp] theorem bump_windows (s : State) (k : Nat) : (s.bump k).windows = s.windows := rfl
@[simp] theorem bump_rings (s : State) (k : Nat) : (s.bump k).rings = s.rings := rfl
@[simp] theorem bump_sent (s : State) (k : Nat) : (s.bump k).sent = s.sent := rfl
@[simp] theorem bump_msgid (s : State) (k : Nat) : (s.bump k).msgid = s.msgid := rfl
@[simp] theorem bump_flights (s : State) (k : Nat) : (s.bump k).flights = s.flights := rfl
@[simp] theorem bump_buffers (s : State) (k : Nat) : (s.bump k).buffers = s.buffers := rfl
@[simp] theorem bump_trigs (s : State) (k : Nat) : (s.bump k).trigs = s.trigs := rfl
@[simp] theorem bump_groups (s : State) (k : Nat) : (s.bump k).groups = s.groups := rfl
@[simp] theorem bump_conns (s : State) (k : Nat) : (s.bump k).conns = s.conns := rfl
@[simp] theorem bump_turns (s : State) (k : Nat) : (s.bump k).turns = s.turns := rfl
@[simp] theorem bump_fports (s : State) (k : Nat) : (s.bump k).fports = s.fports := rfl
@[simp] theorem bump_eports (s : State) (k : Nat) : (s.bump k).eports = s.eports := rfl
@[simp] theorem bump_spare (s : State) (k : Nat) : (s.bump k).spare = s.spare := rfl
@[simp] theorem bump_spareNext (s : State) (k : Nat) : (s.bump k).spareNext = s.spareNext := rfl
@[simp] theorem bump_due (s : State) (k : Nat) : (s.bump k).due = s.due := rfl
@[simp] theorem bump_replies (s : State) (k : Nat) : (s.bump k).replies = s.replies := rfl
@[simp] theorem bump_objs (s : State) (k : Nat) : (s.bump k).objs = s.objs := rfl
@[simp] theorem bump_banks (s : State) (k : Nat) : (s.bump k).banks = s.banks := rfl
@[simp] theorem bump_bank (s : State) (k : Nat) : (s.bump k).bank = s.bank := rfl
@[simp] theorem bump_setkeys (s : State) (k : Nat) : (s.bump k).setkeys = s.setkeys := rfl
@[simp] theorem bump_causes (s : State) (k : Nat) : (s.bump k).causes = s.causes := rfl
@[simp] theorem bump_clearAt (s : State) (k : Nat) : (s.bump k).clearAt = s.clearAt := rfl
@[simp] theorem bump_throttleAt (s : State) (k : Nat) : (s.bump k).throttleAt = s.throttleAt := rfl
@[simp] theorem bump_powered (s : State) (k : Nat) : (s.bump k).powered = s.powered := rfl
@[simp] theorem bump_heldInput (s : State) (k : Nat) : (s.bump k).heldInput = s.heldInput := rfl
@[simp] theorem bump_heldHeat (s : State) (k : Nat) : (s.bump k).heldHeat = s.heldHeat := rfl
@[simp] theorem bump_tinderHold (s : State) (k : Nat) : (s.bump k).tinderHold = s.tinderHold := rfl
@[simp] theorem bump_bootT0 (s : State) (k : Nat) : (s.bump k).bootT0 = s.bootT0 := rfl
@[simp] theorem bump_bringups (s : State) (k : Nat) : (s.bump k).bringups = s.bringups := rfl
@[simp] theorem bump_trialT0 (s : State) (k : Nat) : (s.bump k).trialT0 = s.trialT0 := rfl
@[simp] theorem bump_standby (s : State) (k : Nat) : (s.bump k).standby = s.standby := rfl
@[simp] theorem bump_refsLost (s : State) (k : Nat) : (s.bump k).refsLost = s.refsLost := rfl
@[simp] theorem bump_slew (s : State) (k : Nat) : (s.bump k).slew = s.slew := rfl
@[simp] theorem bump_descending (s : State) (k : Nat) : (s.bump k).descending = s.descending := rfl
@[simp] theorem bump_powerOns (s : State) (k : Nat) : (s.bump k).powerOns = s.powerOns := rfl
@[simp] theorem bump_lastReady (s : State) (k : Nat) : (s.bump k).lastReady = s.lastReady := rfl
@[simp] theorem bump_unplanned (s : State) (k : Nat) : (s.bump k).unplanned = s.unplanned := rfl
@[simp] theorem bump_switchOn (s : State) (k : Nat) : (s.bump k).switchOn = s.switchOn := rfl
@[simp] theorem bump_kindPart (s : State) (k : Nat) : (s.bump k).kindPart = s.kindPart := rfl
@[simp] theorem bump_kindMask (s : State) (k : Nat) : (s.bump k).kindMask = s.kindMask := rfl
@[simp] theorem bump_kindled (s : State) (k : Nat) : (s.bump k).kindled = s.kindled := rfl
@[simp] theorem bump_kindEnding (s : State) (k : Nat) : (s.bump k).kindEnding = s.kindEnding := rfl
@[simp] theorem at_pending (s : State) (t : Nat) : (State.at s t).pending = s.pending := rfl
@[simp] theorem at_waits (s : State) (t : Nat) : (State.at s t).waits = s.waits := rfl
@[simp] theorem at_held (s : State) (t : Nat) : (State.at s t).held = s.held := rfl
@[simp] theorem at_free (s : State) (t : Nat) : (State.at s t).free = s.free := rfl
@[simp] theorem at_mem (s : State) (t : Nat) : (State.at s t).mem = s.mem := rfl
@[simp] theorem at_dict (s : State) (t : Nat) : (State.at s t).dict = s.dict := rfl
@[simp] theorem at_stored (s : State) (t : Nat) : (State.at s t).stored = s.stored := rfl
@[simp] theorem at_hearths (s : State) (t : Nat) : (State.at s t).hearths = s.hearths := rfl
@[simp] theorem at_parts (s : State) (t : Nat) : (State.at s t).parts = s.parts := rfl
@[simp] theorem at_events (s : State) (t : Nat) : (State.at s t).events = s.events := rfl
@[simp] theorem at_persisted (s : State) (t : Nat) : (State.at s t).persisted = s.persisted := rfl
@[simp] theorem at_partEvents (s : State) (t : Nat) : (State.at s t).partEvents = s.partEvents := rfl
@[simp] theorem at_bad (s : State) (t : Nat) : (State.at s t).bad = s.bad := rfl
@[simp] theorem at_ce (s : State) (t : Nat) : (State.at s t).ce = s.ce := rfl
@[simp] theorem at_ricks (s : State) (t : Nat) : (State.at s t).ricks = s.ricks := rfl
@[simp] theorem at_jobs (s : State) (t : Nat) : (State.at s t).jobs = s.jobs := rfl
@[simp] theorem at_regions (s : State) (t : Nat) : (State.at s t).regions = s.regions := rfl
@[simp] theorem at_dirty (s : State) (t : Nat) : (State.at s t).dirty = s.dirty := rfl
@[simp] theorem at_pagePoison (s : State) (t : Nat) : (State.at s t).pagePoison = s.pagePoison := rfl
@[simp] theorem at_remap (s : State) (t : Nat) : (State.at s t).remap = s.remap := rfl
@[simp] theorem at_reqs (s : State) (t : Nat) : (State.at s t).reqs = s.reqs := rfl
@[simp] theorem at_reqx (s : State) (t : Nat) : (State.at s t).reqx = s.reqx := rfl
@[simp] theorem at_dirs (s : State) (t : Nat) : (State.at s t).dirs = s.dirs := rfl
@[simp] theorem at_maps (s : State) (t : Nat) : (State.at s t).maps = s.maps := rfl
@[simp] theorem at_refs (s : State) (t : Nat) : (State.at s t).refs = s.refs := rfl
@[simp] theorem at_poisoned (s : State) (t : Nat) : (State.at s t).poisoned = s.poisoned := rfl
@[simp] theorem at_handles (s : State) (t : Nat) : (State.at s t).handles = s.handles := rfl
@[simp] theorem at_wsets (s : State) (t : Nat) : (State.at s t).wsets = s.wsets := rfl
@[simp] theorem at_windows (s : State) (t : Nat) : (State.at s t).windows = s.windows := rfl
@[simp] theorem at_rings (s : State) (t : Nat) : (State.at s t).rings = s.rings := rfl
@[simp] theorem at_sent (s : State) (t : Nat) : (State.at s t).sent = s.sent := rfl
@[simp] theorem at_msgid (s : State) (t : Nat) : (State.at s t).msgid = s.msgid := rfl
@[simp] theorem at_flights (s : State) (t : Nat) : (State.at s t).flights = s.flights := rfl
@[simp] theorem at_buffers (s : State) (t : Nat) : (State.at s t).buffers = s.buffers := rfl
@[simp] theorem at_trigs (s : State) (t : Nat) : (State.at s t).trigs = s.trigs := rfl
@[simp] theorem at_groups (s : State) (t : Nat) : (State.at s t).groups = s.groups := rfl
@[simp] theorem at_conns (s : State) (t : Nat) : (State.at s t).conns = s.conns := rfl
@[simp] theorem at_turns (s : State) (t : Nat) : (State.at s t).turns = s.turns := rfl
@[simp] theorem at_fports (s : State) (t : Nat) : (State.at s t).fports = s.fports := rfl
@[simp] theorem at_eports (s : State) (t : Nat) : (State.at s t).eports = s.eports := rfl
@[simp] theorem at_spare (s : State) (t : Nat) : (State.at s t).spare = s.spare := rfl
@[simp] theorem at_spareNext (s : State) (t : Nat) : (State.at s t).spareNext = s.spareNext := rfl
@[simp] theorem at_due (s : State) (t : Nat) : (State.at s t).due = s.due := rfl
@[simp] theorem at_sessions (s : State) (t : Nat) : (State.at s t).sessions = s.sessions := rfl
@[simp] theorem at_replies (s : State) (t : Nat) : (State.at s t).replies = s.replies := rfl
@[simp] theorem at_objs (s : State) (t : Nat) : (State.at s t).objs = s.objs := rfl
@[simp] theorem at_banks (s : State) (t : Nat) : (State.at s t).banks = s.banks := rfl
@[simp] theorem at_bank (s : State) (t : Nat) : (State.at s t).bank = s.bank := rfl
@[simp] theorem at_setkeys (s : State) (t : Nat) : (State.at s t).setkeys = s.setkeys := rfl
@[simp] theorem at_causes (s : State) (t : Nat) : (State.at s t).causes = s.causes := rfl
@[simp] theorem at_clearAt (s : State) (t : Nat) : (State.at s t).clearAt = s.clearAt := rfl
@[simp] theorem at_throttleAt (s : State) (t : Nat) : (State.at s t).throttleAt = s.throttleAt := rfl
@[simp] theorem at_powered (s : State) (t : Nat) : (State.at s t).powered = s.powered := rfl
@[simp] theorem at_heldInput (s : State) (t : Nat) : (State.at s t).heldInput = s.heldInput := rfl
@[simp] theorem at_heldHeat (s : State) (t : Nat) : (State.at s t).heldHeat = s.heldHeat := rfl
@[simp] theorem at_tinderHold (s : State) (t : Nat) : (State.at s t).tinderHold = s.tinderHold := rfl
@[simp] theorem at_bootT0 (s : State) (t : Nat) : (State.at s t).bootT0 = s.bootT0 := rfl
@[simp] theorem at_bringups (s : State) (t : Nat) : (State.at s t).bringups = s.bringups := rfl
@[simp] theorem at_trialT0 (s : State) (t : Nat) : (State.at s t).trialT0 = s.trialT0 := rfl
@[simp] theorem at_standby (s : State) (t : Nat) : (State.at s t).standby = s.standby := rfl
@[simp] theorem at_refsLost (s : State) (t : Nat) : (State.at s t).refsLost = s.refsLost := rfl
@[simp] theorem at_slew (s : State) (t : Nat) : (State.at s t).slew = s.slew := rfl
@[simp] theorem at_descending (s : State) (t : Nat) : (State.at s t).descending = s.descending := rfl
@[simp] theorem at_powerOns (s : State) (t : Nat) : (State.at s t).powerOns = s.powerOns := rfl
@[simp] theorem at_lastReady (s : State) (t : Nat) : (State.at s t).lastReady = s.lastReady := rfl
@[simp] theorem at_unplanned (s : State) (t : Nat) : (State.at s t).unplanned = s.unplanned := rfl
@[simp] theorem at_switchOn (s : State) (t : Nat) : (State.at s t).switchOn = s.switchOn := rfl
@[simp] theorem at_kindPart (s : State) (t : Nat) : (State.at s t).kindPart = s.kindPart := rfl
@[simp] theorem at_kindMask (s : State) (t : Nat) : (State.at s t).kindMask = s.kindMask := rfl
@[simp] theorem at_kindled (s : State) (t : Nat) : (State.at s t).kindled = s.kindled := rfl
@[simp] theorem at_kindEnding (s : State) (t : Nat) : (State.at s t).kindEnding = s.kindEnding := rfl
@[simp] theorem store_pending (s : State) (a : Nat) (l : List Byte) : (s.store a l).pending = s.pending := rfl
@[simp] theorem store_waits (s : State) (a : Nat) (l : List Byte) : (s.store a l).waits = s.waits := rfl
@[simp] theorem store_held (s : State) (a : Nat) (l : List Byte) : (s.store a l).held = s.held := rfl
@[simp] theorem store_now (s : State) (a : Nat) (l : List Byte) : (s.store a l).now = s.now := rfl
@[simp] theorem store_free (s : State) (a : Nat) (l : List Byte) : (s.store a l).free = s.free := rfl
@[simp] theorem store_dict (s : State) (a : Nat) (l : List Byte) : (s.store a l).dict = s.dict := rfl
@[simp] theorem store_stored (s : State) (a : Nat) (l : List Byte) : (s.store a l).stored = s.stored := rfl
@[simp] theorem store_hearths (s : State) (a : Nat) (l : List Byte) : (s.store a l).hearths = s.hearths := rfl
@[simp] theorem store_parts (s : State) (a : Nat) (l : List Byte) : (s.store a l).parts = s.parts := rfl
@[simp] theorem store_events (s : State) (a : Nat) (l : List Byte) : (s.store a l).events = s.events := rfl
@[simp] theorem store_persisted (s : State) (a : Nat) (l : List Byte) : (s.store a l).persisted = s.persisted := rfl
@[simp] theorem store_partEvents (s : State) (a : Nat) (l : List Byte) : (s.store a l).partEvents = s.partEvents := rfl
@[simp] theorem store_ricks (s : State) (a : Nat) (l : List Byte) : (s.store a l).ricks = s.ricks := rfl
@[simp] theorem store_jobs (s : State) (a : Nat) (l : List Byte) : (s.store a l).jobs = s.jobs := rfl
@[simp] theorem store_regions (s : State) (a : Nat) (l : List Byte) : (s.store a l).regions = s.regions := rfl
@[simp] theorem store_dirty (s : State) (a : Nat) (l : List Byte) : (s.store a l).dirty = s.dirty := rfl
@[simp] theorem store_pagePoison (s : State) (a : Nat) (l : List Byte) : (s.store a l).pagePoison = s.pagePoison := rfl
@[simp] theorem store_remap (s : State) (a : Nat) (l : List Byte) : (s.store a l).remap = s.remap := rfl
@[simp] theorem store_reqs (s : State) (a : Nat) (l : List Byte) : (s.store a l).reqs = s.reqs := rfl
@[simp] theorem store_reqx (s : State) (a : Nat) (l : List Byte) : (s.store a l).reqx = s.reqx := rfl
@[simp] theorem store_dirs (s : State) (a : Nat) (l : List Byte) : (s.store a l).dirs = s.dirs := rfl
@[simp] theorem store_maps (s : State) (a : Nat) (l : List Byte) : (s.store a l).maps = s.maps := rfl
@[simp] theorem store_refs (s : State) (a : Nat) (l : List Byte) : (s.store a l).refs = s.refs := rfl
@[simp] theorem store_poisoned (s : State) (a : Nat) (l : List Byte) : (s.store a l).poisoned = s.poisoned := rfl
@[simp] theorem store_handles (s : State) (a : Nat) (l : List Byte) : (s.store a l).handles = s.handles := rfl
@[simp] theorem store_wsets (s : State) (a : Nat) (l : List Byte) : (s.store a l).wsets = s.wsets := rfl
@[simp] theorem store_windows (s : State) (a : Nat) (l : List Byte) : (s.store a l).windows = s.windows := rfl
@[simp] theorem store_rings (s : State) (a : Nat) (l : List Byte) : (s.store a l).rings = s.rings := rfl
@[simp] theorem store_sent (s : State) (a : Nat) (l : List Byte) : (s.store a l).sent = s.sent := rfl
@[simp] theorem store_msgid (s : State) (a : Nat) (l : List Byte) : (s.store a l).msgid = s.msgid := rfl
@[simp] theorem store_flights (s : State) (a : Nat) (l : List Byte) : (s.store a l).flights = s.flights := rfl
@[simp] theorem store_buffers (s : State) (a : Nat) (l : List Byte) : (s.store a l).buffers = s.buffers := rfl
@[simp] theorem store_trigs (s : State) (a : Nat) (l : List Byte) : (s.store a l).trigs = s.trigs := rfl
@[simp] theorem store_groups (s : State) (a : Nat) (l : List Byte) : (s.store a l).groups = s.groups := rfl
@[simp] theorem store_conns (s : State) (a : Nat) (l : List Byte) : (s.store a l).conns = s.conns := rfl
@[simp] theorem store_turns (s : State) (a : Nat) (l : List Byte) : (s.store a l).turns = s.turns := rfl
@[simp] theorem store_fports (s : State) (a : Nat) (l : List Byte) : (s.store a l).fports = s.fports := rfl
@[simp] theorem store_eports (s : State) (a : Nat) (l : List Byte) : (s.store a l).eports = s.eports := rfl
@[simp] theorem store_spare (s : State) (a : Nat) (l : List Byte) : (s.store a l).spare = s.spare := rfl
@[simp] theorem store_spareNext (s : State) (a : Nat) (l : List Byte) : (s.store a l).spareNext = s.spareNext := rfl
@[simp] theorem store_due (s : State) (a : Nat) (l : List Byte) : (s.store a l).due = s.due := rfl
@[simp] theorem store_sessions (s : State) (a : Nat) (l : List Byte) : (s.store a l).sessions = s.sessions := rfl
@[simp] theorem store_replies (s : State) (a : Nat) (l : List Byte) : (s.store a l).replies = s.replies := rfl
@[simp] theorem store_objs (s : State) (a : Nat) (l : List Byte) : (s.store a l).objs = s.objs := rfl
@[simp] theorem store_banks (s : State) (a : Nat) (l : List Byte) : (s.store a l).banks = s.banks := rfl
@[simp] theorem store_bank (s : State) (a : Nat) (l : List Byte) : (s.store a l).bank = s.bank := rfl
@[simp] theorem store_setkeys (s : State) (a : Nat) (l : List Byte) : (s.store a l).setkeys = s.setkeys := rfl
@[simp] theorem store_causes (s : State) (a : Nat) (l : List Byte) : (s.store a l).causes = s.causes := rfl
@[simp] theorem store_clearAt (s : State) (a : Nat) (l : List Byte) : (s.store a l).clearAt = s.clearAt := rfl
@[simp] theorem store_throttleAt (s : State) (a : Nat) (l : List Byte) : (s.store a l).throttleAt = s.throttleAt := rfl
@[simp] theorem store_powered (s : State) (a : Nat) (l : List Byte) : (s.store a l).powered = s.powered := rfl
@[simp] theorem store_heldInput (s : State) (a : Nat) (l : List Byte) : (s.store a l).heldInput = s.heldInput := rfl
@[simp] theorem store_heldHeat (s : State) (a : Nat) (l : List Byte) : (s.store a l).heldHeat = s.heldHeat := rfl
@[simp] theorem store_tinderHold (s : State) (a : Nat) (l : List Byte) : (s.store a l).tinderHold = s.tinderHold := rfl
@[simp] theorem store_bootT0 (s : State) (a : Nat) (l : List Byte) : (s.store a l).bootT0 = s.bootT0 := rfl
@[simp] theorem store_bringups (s : State) (a : Nat) (l : List Byte) : (s.store a l).bringups = s.bringups := rfl
@[simp] theorem store_trialT0 (s : State) (a : Nat) (l : List Byte) : (s.store a l).trialT0 = s.trialT0 := rfl
@[simp] theorem store_standby (s : State) (a : Nat) (l : List Byte) : (s.store a l).standby = s.standby := rfl
@[simp] theorem store_refsLost (s : State) (a : Nat) (l : List Byte) : (s.store a l).refsLost = s.refsLost := rfl
@[simp] theorem store_slew (s : State) (a : Nat) (l : List Byte) : (s.store a l).slew = s.slew := rfl
@[simp] theorem store_descending (s : State) (a : Nat) (l : List Byte) : (s.store a l).descending = s.descending := rfl
@[simp] theorem store_powerOns (s : State) (a : Nat) (l : List Byte) : (s.store a l).powerOns = s.powerOns := rfl
@[simp] theorem store_lastReady (s : State) (a : Nat) (l : List Byte) : (s.store a l).lastReady = s.lastReady := rfl
@[simp] theorem store_unplanned (s : State) (a : Nat) (l : List Byte) : (s.store a l).unplanned = s.unplanned := rfl
@[simp] theorem store_switchOn (s : State) (a : Nat) (l : List Byte) : (s.store a l).switchOn = s.switchOn := rfl
@[simp] theorem store_kindPart (s : State) (a : Nat) (l : List Byte) : (s.store a l).kindPart = s.kindPart := rfl
@[simp] theorem store_kindMask (s : State) (a : Nat) (l : List Byte) : (s.store a l).kindMask = s.kindMask := rfl
@[simp] theorem store_kindled (s : State) (a : Nat) (l : List Byte) : (s.store a l).kindled = s.kindled := rfl
@[simp] theorem store_kindEnding (s : State) (a : Nat) (l : List Byte) : (s.store a l).kindEnding = s.kindEnding := rfl
@[simp] theorem zeroRange_pending (s : State) (a n : Nat) : (s.zeroRange a n).pending = s.pending := rfl
@[simp] theorem zeroRange_waits (s : State) (a n : Nat) : (s.zeroRange a n).waits = s.waits := rfl
@[simp] theorem zeroRange_held (s : State) (a n : Nat) : (s.zeroRange a n).held = s.held := rfl
@[simp] theorem zeroRange_now (s : State) (a n : Nat) : (s.zeroRange a n).now = s.now := rfl
@[simp] theorem zeroRange_free (s : State) (a n : Nat) : (s.zeroRange a n).free = s.free := rfl
@[simp] theorem zeroRange_dict (s : State) (a n : Nat) : (s.zeroRange a n).dict = s.dict := rfl
@[simp] theorem zeroRange_stored (s : State) (a n : Nat) : (s.zeroRange a n).stored = s.stored := rfl
@[simp] theorem zeroRange_hearths (s : State) (a n : Nat) : (s.zeroRange a n).hearths = s.hearths := rfl
@[simp] theorem zeroRange_parts (s : State) (a n : Nat) : (s.zeroRange a n).parts = s.parts := rfl
@[simp] theorem zeroRange_events (s : State) (a n : Nat) : (s.zeroRange a n).events = s.events := rfl
@[simp] theorem zeroRange_persisted (s : State) (a n : Nat) : (s.zeroRange a n).persisted = s.persisted := rfl
@[simp] theorem zeroRange_partEvents (s : State) (a n : Nat) : (s.zeroRange a n).partEvents = s.partEvents := rfl
@[simp] theorem zeroRange_ricks (s : State) (a n : Nat) : (s.zeroRange a n).ricks = s.ricks := rfl
@[simp] theorem zeroRange_jobs (s : State) (a n : Nat) : (s.zeroRange a n).jobs = s.jobs := rfl
@[simp] theorem zeroRange_regions (s : State) (a n : Nat) : (s.zeroRange a n).regions = s.regions := rfl
@[simp] theorem zeroRange_dirty (s : State) (a n : Nat) : (s.zeroRange a n).dirty = s.dirty := rfl
@[simp] theorem zeroRange_pagePoison (s : State) (a n : Nat) : (s.zeroRange a n).pagePoison = s.pagePoison := rfl
@[simp] theorem zeroRange_remap (s : State) (a n : Nat) : (s.zeroRange a n).remap = s.remap := rfl
@[simp] theorem zeroRange_reqs (s : State) (a n : Nat) : (s.zeroRange a n).reqs = s.reqs := rfl
@[simp] theorem zeroRange_reqx (s : State) (a n : Nat) : (s.zeroRange a n).reqx = s.reqx := rfl
@[simp] theorem zeroRange_dirs (s : State) (a n : Nat) : (s.zeroRange a n).dirs = s.dirs := rfl
@[simp] theorem zeroRange_maps (s : State) (a n : Nat) : (s.zeroRange a n).maps = s.maps := rfl
@[simp] theorem zeroRange_refs (s : State) (a n : Nat) : (s.zeroRange a n).refs = s.refs := rfl
@[simp] theorem zeroRange_poisoned (s : State) (a n : Nat) : (s.zeroRange a n).poisoned = s.poisoned := rfl
@[simp] theorem zeroRange_handles (s : State) (a n : Nat) : (s.zeroRange a n).handles = s.handles := rfl
@[simp] theorem zeroRange_wsets (s : State) (a n : Nat) : (s.zeroRange a n).wsets = s.wsets := rfl
@[simp] theorem zeroRange_windows (s : State) (a n : Nat) : (s.zeroRange a n).windows = s.windows := rfl
@[simp] theorem zeroRange_rings (s : State) (a n : Nat) : (s.zeroRange a n).rings = s.rings := rfl
@[simp] theorem zeroRange_sent (s : State) (a n : Nat) : (s.zeroRange a n).sent = s.sent := rfl
@[simp] theorem zeroRange_msgid (s : State) (a n : Nat) : (s.zeroRange a n).msgid = s.msgid := rfl
@[simp] theorem zeroRange_flights (s : State) (a n : Nat) : (s.zeroRange a n).flights = s.flights := rfl
@[simp] theorem zeroRange_buffers (s : State) (a n : Nat) : (s.zeroRange a n).buffers = s.buffers := rfl
@[simp] theorem zeroRange_trigs (s : State) (a n : Nat) : (s.zeroRange a n).trigs = s.trigs := rfl
@[simp] theorem zeroRange_groups (s : State) (a n : Nat) : (s.zeroRange a n).groups = s.groups := rfl
@[simp] theorem zeroRange_conns (s : State) (a n : Nat) : (s.zeroRange a n).conns = s.conns := rfl
@[simp] theorem zeroRange_turns (s : State) (a n : Nat) : (s.zeroRange a n).turns = s.turns := rfl
@[simp] theorem zeroRange_fports (s : State) (a n : Nat) : (s.zeroRange a n).fports = s.fports := rfl
@[simp] theorem zeroRange_eports (s : State) (a n : Nat) : (s.zeroRange a n).eports = s.eports := rfl
@[simp] theorem zeroRange_spare (s : State) (a n : Nat) : (s.zeroRange a n).spare = s.spare := rfl
@[simp] theorem zeroRange_spareNext (s : State) (a n : Nat) : (s.zeroRange a n).spareNext = s.spareNext := rfl
@[simp] theorem zeroRange_due (s : State) (a n : Nat) : (s.zeroRange a n).due = s.due := rfl
@[simp] theorem zeroRange_sessions (s : State) (a n : Nat) : (s.zeroRange a n).sessions = s.sessions := rfl
@[simp] theorem zeroRange_replies (s : State) (a n : Nat) : (s.zeroRange a n).replies = s.replies := rfl
@[simp] theorem zeroRange_objs (s : State) (a n : Nat) : (s.zeroRange a n).objs = s.objs := rfl
@[simp] theorem zeroRange_banks (s : State) (a n : Nat) : (s.zeroRange a n).banks = s.banks := rfl
@[simp] theorem zeroRange_bank (s : State) (a n : Nat) : (s.zeroRange a n).bank = s.bank := rfl
@[simp] theorem zeroRange_setkeys (s : State) (a n : Nat) : (s.zeroRange a n).setkeys = s.setkeys := rfl
@[simp] theorem zeroRange_causes (s : State) (a n : Nat) : (s.zeroRange a n).causes = s.causes := rfl
@[simp] theorem zeroRange_clearAt (s : State) (a n : Nat) : (s.zeroRange a n).clearAt = s.clearAt := rfl
@[simp] theorem zeroRange_throttleAt (s : State) (a n : Nat) : (s.zeroRange a n).throttleAt = s.throttleAt := rfl
@[simp] theorem zeroRange_powered (s : State) (a n : Nat) : (s.zeroRange a n).powered = s.powered := rfl
@[simp] theorem zeroRange_heldInput (s : State) (a n : Nat) : (s.zeroRange a n).heldInput = s.heldInput := rfl
@[simp] theorem zeroRange_heldHeat (s : State) (a n : Nat) : (s.zeroRange a n).heldHeat = s.heldHeat := rfl
@[simp] theorem zeroRange_tinderHold (s : State) (a n : Nat) : (s.zeroRange a n).tinderHold = s.tinderHold := rfl
@[simp] theorem zeroRange_bootT0 (s : State) (a n : Nat) : (s.zeroRange a n).bootT0 = s.bootT0 := rfl
@[simp] theorem zeroRange_bringups (s : State) (a n : Nat) : (s.zeroRange a n).bringups = s.bringups := rfl
@[simp] theorem zeroRange_trialT0 (s : State) (a n : Nat) : (s.zeroRange a n).trialT0 = s.trialT0 := rfl
@[simp] theorem zeroRange_standby (s : State) (a n : Nat) : (s.zeroRange a n).standby = s.standby := rfl
@[simp] theorem zeroRange_refsLost (s : State) (a n : Nat) : (s.zeroRange a n).refsLost = s.refsLost := rfl
@[simp] theorem zeroRange_slew (s : State) (a n : Nat) : (s.zeroRange a n).slew = s.slew := rfl
@[simp] theorem zeroRange_descending (s : State) (a n : Nat) : (s.zeroRange a n).descending = s.descending := rfl
@[simp] theorem zeroRange_powerOns (s : State) (a n : Nat) : (s.zeroRange a n).powerOns = s.powerOns := rfl
@[simp] theorem zeroRange_lastReady (s : State) (a n : Nat) : (s.zeroRange a n).lastReady = s.lastReady := rfl
@[simp] theorem zeroRange_unplanned (s : State) (a n : Nat) : (s.zeroRange a n).unplanned = s.unplanned := rfl
@[simp] theorem zeroRange_switchOn (s : State) (a n : Nat) : (s.zeroRange a n).switchOn = s.switchOn := rfl
@[simp] theorem zeroRange_kindPart (s : State) (a n : Nat) : (s.zeroRange a n).kindPart = s.kindPart := rfl
@[simp] theorem zeroRange_kindMask (s : State) (a n : Nat) : (s.zeroRange a n).kindMask = s.kindMask := rfl
@[simp] theorem zeroRange_kindled (s : State) (a n : Nat) : (s.zeroRange a n).kindled = s.kindled := rfl
@[simp] theorem zeroRange_kindEnding (s : State) (a n : Nat) : (s.zeroRange a n).kindEnding = s.kindEnding := rfl
@[simp] theorem onJob_pending (s : State) (n j : Nat) (f : Job → Job) : (s.onJob n j f).pending = s.pending := rfl
@[simp] theorem onJob_waits (s : State) (n j : Nat) (f : Job → Job) : (s.onJob n j f).waits = s.waits := rfl
@[simp] theorem onJob_held (s : State) (n j : Nat) (f : Job → Job) : (s.onJob n j f).held = s.held := rfl
@[simp] theorem onJob_now (s : State) (n j : Nat) (f : Job → Job) : (s.onJob n j f).now = s.now := rfl
@[simp] theorem onJob_free (s : State) (n j : Nat) (f : Job → Job) : (s.onJob n j f).free = s.free := rfl
@[simp] theorem onJob_mem (s : State) (n j : Nat) (f : Job → Job) : (s.onJob n j f).mem = s.mem := rfl
@[simp] theorem onJob_dict (s : State) (n j : Nat) (f : Job → Job) : (s.onJob n j f).dict = s.dict := rfl
@[simp] theorem onJob_stored (s : State) (n j : Nat) (f : Job → Job) : (s.onJob n j f).stored = s.stored := rfl
@[simp] theorem onJob_hearths (s : State) (n j : Nat) (f : Job → Job) : (s.onJob n j f).hearths = s.hearths := rfl
@[simp] theorem onJob_parts (s : State) (n j : Nat) (f : Job → Job) : (s.onJob n j f).parts = s.parts := rfl
@[simp] theorem onJob_events (s : State) (n j : Nat) (f : Job → Job) : (s.onJob n j f).events = s.events := rfl
@[simp] theorem onJob_persisted (s : State) (n j : Nat) (f : Job → Job) : (s.onJob n j f).persisted = s.persisted := rfl
@[simp] theorem onJob_partEvents (s : State) (n j : Nat) (f : Job → Job) : (s.onJob n j f).partEvents = s.partEvents := rfl
@[simp] theorem onJob_bad (s : State) (n j : Nat) (f : Job → Job) : (s.onJob n j f).bad = s.bad := rfl
@[simp] theorem onJob_ce (s : State) (n j : Nat) (f : Job → Job) : (s.onJob n j f).ce = s.ce := rfl
@[simp] theorem onJob_ricks (s : State) (n j : Nat) (f : Job → Job) : (s.onJob n j f).ricks = s.ricks := rfl
@[simp] theorem onJob_regions (s : State) (n j : Nat) (f : Job → Job) : (s.onJob n j f).regions = s.regions := rfl
@[simp] theorem onJob_dirty (s : State) (n j : Nat) (f : Job → Job) : (s.onJob n j f).dirty = s.dirty := rfl
@[simp] theorem onJob_pagePoison (s : State) (n j : Nat) (f : Job → Job) : (s.onJob n j f).pagePoison = s.pagePoison := rfl
@[simp] theorem onJob_remap (s : State) (n j : Nat) (f : Job → Job) : (s.onJob n j f).remap = s.remap := rfl
@[simp] theorem onJob_reqs (s : State) (n j : Nat) (f : Job → Job) : (s.onJob n j f).reqs = s.reqs := rfl
@[simp] theorem onJob_reqx (s : State) (n j : Nat) (f : Job → Job) : (s.onJob n j f).reqx = s.reqx := rfl
@[simp] theorem onJob_dirs (s : State) (n j : Nat) (f : Job → Job) : (s.onJob n j f).dirs = s.dirs := rfl
@[simp] theorem onJob_maps (s : State) (n j : Nat) (f : Job → Job) : (s.onJob n j f).maps = s.maps := rfl
@[simp] theorem onJob_refs (s : State) (n j : Nat) (f : Job → Job) : (s.onJob n j f).refs = s.refs := rfl
@[simp] theorem onJob_poisoned (s : State) (n j : Nat) (f : Job → Job) : (s.onJob n j f).poisoned = s.poisoned := rfl
@[simp] theorem onJob_handles (s : State) (n j : Nat) (f : Job → Job) : (s.onJob n j f).handles = s.handles := rfl
@[simp] theorem onJob_wsets (s : State) (n j : Nat) (f : Job → Job) : (s.onJob n j f).wsets = s.wsets := rfl
@[simp] theorem onJob_windows (s : State) (n j : Nat) (f : Job → Job) : (s.onJob n j f).windows = s.windows := rfl
@[simp] theorem onJob_rings (s : State) (n j : Nat) (f : Job → Job) : (s.onJob n j f).rings = s.rings := rfl
@[simp] theorem onJob_sent (s : State) (n j : Nat) (f : Job → Job) : (s.onJob n j f).sent = s.sent := rfl
@[simp] theorem onJob_msgid (s : State) (n j : Nat) (f : Job → Job) : (s.onJob n j f).msgid = s.msgid := rfl
@[simp] theorem onJob_flights (s : State) (n j : Nat) (f : Job → Job) : (s.onJob n j f).flights = s.flights := rfl
@[simp] theorem onJob_buffers (s : State) (n j : Nat) (f : Job → Job) : (s.onJob n j f).buffers = s.buffers := rfl
@[simp] theorem onJob_trigs (s : State) (n j : Nat) (f : Job → Job) : (s.onJob n j f).trigs = s.trigs := rfl
@[simp] theorem onJob_groups (s : State) (n j : Nat) (f : Job → Job) : (s.onJob n j f).groups = s.groups := rfl
@[simp] theorem onJob_conns (s : State) (n j : Nat) (f : Job → Job) : (s.onJob n j f).conns = s.conns := rfl
@[simp] theorem onJob_turns (s : State) (n j : Nat) (f : Job → Job) : (s.onJob n j f).turns = s.turns := rfl
@[simp] theorem onJob_fports (s : State) (n j : Nat) (f : Job → Job) : (s.onJob n j f).fports = s.fports := rfl
@[simp] theorem onJob_eports (s : State) (n j : Nat) (f : Job → Job) : (s.onJob n j f).eports = s.eports := rfl
@[simp] theorem onJob_spare (s : State) (n j : Nat) (f : Job → Job) : (s.onJob n j f).spare = s.spare := rfl
@[simp] theorem onJob_spareNext (s : State) (n j : Nat) (f : Job → Job) : (s.onJob n j f).spareNext = s.spareNext := rfl
@[simp] theorem onJob_due (s : State) (n j : Nat) (f : Job → Job) : (s.onJob n j f).due = s.due := rfl
@[simp] theorem onJob_sessions (s : State) (n j : Nat) (f : Job → Job) : (s.onJob n j f).sessions = s.sessions := rfl
@[simp] theorem onJob_replies (s : State) (n j : Nat) (f : Job → Job) : (s.onJob n j f).replies = s.replies := rfl
@[simp] theorem onJob_objs (s : State) (n j : Nat) (f : Job → Job) : (s.onJob n j f).objs = s.objs := rfl
@[simp] theorem onJob_banks (s : State) (n j : Nat) (f : Job → Job) : (s.onJob n j f).banks = s.banks := rfl
@[simp] theorem onJob_bank (s : State) (n j : Nat) (f : Job → Job) : (s.onJob n j f).bank = s.bank := rfl
@[simp] theorem onJob_setkeys (s : State) (n j : Nat) (f : Job → Job) : (s.onJob n j f).setkeys = s.setkeys := rfl
@[simp] theorem onJob_causes (s : State) (n j : Nat) (f : Job → Job) : (s.onJob n j f).causes = s.causes := rfl
@[simp] theorem onJob_clearAt (s : State) (n j : Nat) (f : Job → Job) : (s.onJob n j f).clearAt = s.clearAt := rfl
@[simp] theorem onJob_throttleAt (s : State) (n j : Nat) (f : Job → Job) : (s.onJob n j f).throttleAt = s.throttleAt := rfl
@[simp] theorem onJob_powered (s : State) (n j : Nat) (f : Job → Job) : (s.onJob n j f).powered = s.powered := rfl
@[simp] theorem onJob_heldInput (s : State) (n j : Nat) (f : Job → Job) : (s.onJob n j f).heldInput = s.heldInput := rfl
@[simp] theorem onJob_heldHeat (s : State) (n j : Nat) (f : Job → Job) : (s.onJob n j f).heldHeat = s.heldHeat := rfl
@[simp] theorem onJob_tinderHold (s : State) (n j : Nat) (f : Job → Job) : (s.onJob n j f).tinderHold = s.tinderHold := rfl
@[simp] theorem onJob_bootT0 (s : State) (n j : Nat) (f : Job → Job) : (s.onJob n j f).bootT0 = s.bootT0 := rfl
@[simp] theorem onJob_bringups (s : State) (n j : Nat) (f : Job → Job) : (s.onJob n j f).bringups = s.bringups := rfl
@[simp] theorem onJob_trialT0 (s : State) (n j : Nat) (f : Job → Job) : (s.onJob n j f).trialT0 = s.trialT0 := rfl
@[simp] theorem onJob_standby (s : State) (n j : Nat) (f : Job → Job) : (s.onJob n j f).standby = s.standby := rfl
@[simp] theorem onJob_refsLost (s : State) (n j : Nat) (f : Job → Job) : (s.onJob n j f).refsLost = s.refsLost := rfl
@[simp] theorem onJob_slew (s : State) (n j : Nat) (f : Job → Job) : (s.onJob n j f).slew = s.slew := rfl
@[simp] theorem onJob_descending (s : State) (n j : Nat) (f : Job → Job) : (s.onJob n j f).descending = s.descending := rfl
@[simp] theorem onJob_powerOns (s : State) (n j : Nat) (f : Job → Job) : (s.onJob n j f).powerOns = s.powerOns := rfl
@[simp] theorem onJob_lastReady (s : State) (n j : Nat) (f : Job → Job) : (s.onJob n j f).lastReady = s.lastReady := rfl
@[simp] theorem onJob_unplanned (s : State) (n j : Nat) (f : Job → Job) : (s.onJob n j f).unplanned = s.unplanned := rfl
@[simp] theorem onJob_switchOn (s : State) (n j : Nat) (f : Job → Job) : (s.onJob n j f).switchOn = s.switchOn := rfl
@[simp] theorem onJob_kindPart (s : State) (n j : Nat) (f : Job → Job) : (s.onJob n j f).kindPart = s.kindPart := rfl
@[simp] theorem onJob_kindMask (s : State) (n j : Nat) (f : Job → Job) : (s.onJob n j f).kindMask = s.kindMask := rfl
@[simp] theorem onJob_kindled (s : State) (n j : Nat) (f : Job → Job) : (s.onJob n j f).kindled = s.kindled := rfl
@[simp] theorem onJob_kindEnding (s : State) (n j : Nat) (f : Job → Job) : (s.onJob n j f).kindEnding = s.kindEnding := rfl

end Sys2Proof.Laws
end

