-- ==== Sys2Proof/Laws/Core.lean ====
section
/-!
SUPPORT. What the operations that every core instruction shares can do: the comparators and the trace touch no register, the retirement of
an instruction touches only its hearth.
-/
namespace Sys2Proof.Laws
open Sys2Proof.Machine

/-- Between the two states every hearth is the same but for its trace buffer, and memory, ricks, jobs and the remap table are the same. -/
structure TraceOnly (s t : State) : Prop where
  hearth : ∀ g, ∃ tr, t.hearth g = { s.hearth g with trace := tr }
  mem : t.mem = s.mem
  bad : t.bad = s.bad
  ricks : t.ricks = s.ricks
  jobs : t.jobs = s.jobs
  remap : t.remap = s.remap
  now : t.now = s.now
  free : t.free = s.free
  pending : t.pending = s.pending

theorem TraceOnly.refl (s : State) : TraceOnly s s := ⟨fun g => ⟨(s.hearth g).trace, rfl⟩, rfl, rfl, rfl, rfl, rfl, rfl, rfl, rfl⟩

theorem TraceOnly.trans {a b c : State} (h : TraceOnly a b) (k : TraceOnly b c) : TraceOnly a c :=
  ⟨fun g => by obtain ⟨x, e⟩ := h.hearth g; obtain ⟨y, f⟩ := k.hearth g; exact ⟨y, by rw [f, e]⟩,
   k.mem.trans h.mem, k.bad.trans h.bad, k.ricks.trans h.ricks, k.jobs.trans h.jobs, k.remap.trans h.remap, k.now.trans h.now,
   k.free.trans h.free, k.pending.trans h.pending⟩

theorem TraceOnly.of_hearths {s t : State} (h : t.hearths = s.hearths) (m : t.mem = s.mem) (b : t.bad = s.bad) (r : t.ricks = s.ricks) (j : t.jobs = s.jobs)
    (p : t.remap = s.remap) (n : t.now = s.now) (f : t.free = s.free) (q : t.pending = s.pending) : TraceOnly s t :=
  ⟨fun g => ⟨(s.hearth g).trace, by unfold State.hearth; rw [h]⟩, m, b, r, j, p, n, f, q⟩

theorem traceOnly_setNum (s : State) (k v : Nat) : TraceOnly s (s.setNum k v) := .of_hearths rfl rfl rfl rfl rfl rfl rfl rfl rfl
theorem traceOnly_bumpBy (s : State) (k w d : Nat) : TraceOnly s (s.bumpBy k w d) := .of_hearths rfl rfl rfl rfl rfl rfl rfl rfl rfl
theorem traceOnly_onPart (s : State) (n : Nat) (f : Part → Part) : TraceOnly s (s.onPart n f) := .of_hearths rfl rfl rfl rfl rfl rfl rfl rfl rfl
theorem traceOnly_raise (s : State) (c x : Nat) (d : List Nat) : TraceOnly s (s.raise c x d) := by
  unfold State.raise
  dsimp only
  split <;> exact .of_hearths rfl rfl rfl rfl rfl rfl rfl rfl rfl
theorem traceOnly_setTrace (s : State) (g : Nat) (b : TraceBuf) : TraceOnly s (s.setHearth g { s.hearth g with trace := b }) :=
  ⟨fun i => by
    rw [hearth_setHearth]
    split
    · next e => exact ⟨b, by rw [e]⟩
    · exact ⟨(s.hearth i).trace, rfl⟩, rfl, rfl, rfl, rfl, rfl, rfl, rfl, rfl⟩
theorem traceOnly_countLoss (s : State) (n d : Nat) : TraceOnly s (s.countLoss n d) := by
  unfold State.countLoss
  split
  · exact .refl s
  · have h := (traceOnly_bumpBy s (E.TRACE_LOST n) 64 d).trans (traceOnly_onPart _ n (fun p => { p with lossEvent := true, perfLost := p.perfLost + d }))
    dsimp only
    split
    · exact h
    · exact h.trans (traceOnly_raise _ _ _ _)
theorem traceOnly_hearthRecord (s : State) (n g : Nat) (r : List Byte) : TraceOnly s (s.hearthRecord n g r) := by
  unfold State.hearthRecord
  split
  · exact .refl s
  · exact (traceOnly_setTrace s g _).trans (traceOnly_countLoss _ _ _)
theorem traceOnly_coreRecord (s : State) (n g a b c d : Nat) : TraceOnly s (s.coreRecord n g a b c d) := by
  unfold State.coreRecord
  split
  · exact traceOnly_hearthRecord _ _ _ _
  · exact .refl s
theorem traceOnly_trigger (s : State) (n a b c : Nat) : TraceOnly s (s.trigger n a b c) := by
  unfold State.trigger
  split
  · exact (traceOnly_onPart _ _ _).trans (traceOnly_raise _ _ _ _)
  · exact .refl s
theorem traceOnly_bpAct (s : State) (n l i d a : Nat) : TraceOnly s (s.bpAct n l i d a) := by
  unfold State.bpAct
  dsimp only
  split
  · exact traceOnly_trigger _ _ _ _ _
  · have k (f : Part → Part) (c p : Nat) : TraceOnly s ((s.coreRecord n (s.phys l) 0x07 c p 0).onPart n f) :=
      (traceOnly_coreRecord _ _ _ _ _ _ _).trans (traceOnly_onPart _ _ _)
    split
    · exact k _ _ _
    · split <;> exact k _ _ _
theorem traceOnly_bpHit (s : State) (n l i d : Nat) : TraceOnly s (s.bpHit n l i d) := by
  unfold State.bpHit
  dsimp only
  split
  · exact traceOnly_bpAct _ _ _ _ _ _
  · exact traceOnly_onPart _ _ _

theorem traceOnly_forAll {α : Type} (l : List α) (f : α → State → State) (h : ∀ x s, TraceOnly s (f x s)) (s : State) : TraceOnly s (forAll l f s) := by
  unfold forAll
  induction l generalizing s with
  | nil => exact .refl s
  | cons x r ih => exact (h x s).trans (ih _)

/-- The comparators change no hearth but for its trace, and no memory (R633). -/
theorem traceOnly_compare (s : State) (n l pc : Nat) : TraceOnly s (s.compare n l pc) :=
  traceOnly_forAll _ _ (fun i s => by dsimp only; split; exact traceOnly_bpHit _ _ _ _ _; exact .refl s) s

/-- The watches change no hearth but for its trace, and no memory (R633). -/
theorem traceOnly_watch (s : State) (n l m a k : Nat) : TraceOnly s (s.watch n l m a k) :=
  traceOnly_forAll _ _ (fun i s => by dsimp only; split; exact traceOnly_bpHit _ _ _ _ _; exact .refl s) s

theorem TraceOnly.reg {s t : State} (h : TraceOnly s t) (g i : Nat) : (t.hearth g).reg i = (s.hearth g).reg i := by
  obtain ⟨tr, e⟩ := h.hearth g
  rw [e]; rfl
theorem TraceOnly.pc {s t : State} (h : TraceOnly s t) (g : Nat) : (t.hearth g).pc = (s.hearth g).pc := by
  obtain ⟨tr, e⟩ := h.hearth g
  rw [e]
theorem TraceOnly.cycle {s t : State} (h : TraceOnly s t) (g : Nat) : (t.hearth g).cycle = (s.hearth g).cycle := by
  obtain ⟨tr, e⟩ := h.hearth g
  rw [e]

/-- What a core row does where its hearth may start the word. -/
theorem coreRun_at {s : State} {g n l : Nat} {w : W32} {m : Mn} (hr : s.coreReady g = some (n, l)) (hw : (s.hearth g).fetch = some w)
    (hs : s.uncorrectable (imBase g + 4 * (s.hearth g).pc) 4 = false) (hm : mnOf w = some m) (body : State → Nat → Nat → W32 → State) :
    coreRun s g m body = body (s.compare n l (s.hearth g).pc) n l w := by
  unfold coreRun
  simp only [hr, hw, hs, hm]
  simp

end Sys2Proof.Laws
end

