-- ==== Sys2Proof/Laws/Mem.lean ====
section
/-!
SUPPORT. The byte memory: what a store leaves at each address, and that every operation keeps the canonical form.
-/
namespace Sys2Proof.Laws
open Sys2Proof.Machine

/-! The canonical form -/

theorem wfFrom_mono {lo hi : Nat} {m : Memory} (h : lo ≤ hi) (w : m.wfFrom hi = true) : m.wfFrom lo = true := by
  cases m with
  | nil => rfl
  | cons c r => simp only [Memory.wfFrom, Bool.and_eq_true, decide_eq_true_eq] at w ⊢; exact ⟨⟨by omega, w.1.2⟩, w.2⟩

theorem wfFrom_append {lo mid : Nat} {a b : Memory} (wa : a.wfFrom lo = true) (le : lo ≤ mid) (lt : ∀ c ∈ a, c.1 < mid) (wb : b.wfFrom mid = true) :
    Memory.wfFrom lo (a ++ b) = true := by
  induction a generalizing lo with
  | nil => exact wfFrom_mono le wb
  | cons c r ih =>
    simp only [Memory.wfFrom, Bool.and_eq_true, decide_eq_true_eq, List.cons_append] at wa ⊢
    have := lt c (by simp)
    exact ⟨wa.1, ih wa.2 (by omega) (fun d hd => lt d (by simp [hd]))⟩

theorem wfFrom_filter {lo : Nat} {m : Memory} (p : Host.Cell → Bool) (w : m.wfFrom lo = true) : Memory.wfFrom lo (m.filter p) = true := by
  induction m generalizing lo with
  | nil => rfl
  | cons c r ih =>
    simp only [Memory.wfFrom, Bool.and_eq_true, decide_eq_true_eq] at w
    by_cases hp : p c = true
    · rw [List.filter_cons_of_pos hp]; simp only [Memory.wfFrom, Bool.and_eq_true, decide_eq_true_eq]; exact ⟨w.1, ih w.2⟩
    · rw [List.filter_cons_of_neg hp]; exact wfFrom_mono (by omega) (ih w.2)

theorem wfFrom_above {lo b : Nat} {m : Memory} (w : m.wfFrom lo = true) (all : ∀ c ∈ m, b ≤ c.1) : m.wfFrom b = true := by
  cases m with
  | nil => rfl
  | cons c r =>
    simp only [Memory.wfFrom, Bool.and_eq_true, decide_eq_true_eq] at w ⊢
    exact ⟨⟨all c (by simp), w.1.2⟩, w.2⟩

theorem wfFrom_le {lo : Nat} {m : Memory} (w : m.wfFrom lo = true) : ∀ c ∈ m, lo ≤ c.1 ∧ c.2 ≠ 0 := by
  induction m generalizing lo with
  | nil => simp
  | cons d r ih =>
    simp only [Memory.wfFrom, Bool.and_eq_true, decide_eq_true_eq, bne_iff_ne, Memory.unlisted] at w
    intro c hc
    rcases List.mem_cons.1 hc with rfl | hc
    · exact ⟨w.1.1, w.1.2⟩
    · have := ih w.2 c hc; exact ⟨by omega, this.2⟩

theorem cellsFrom_wf (a : Nat) (l : List Byte) : (cellsFrom a l).wfFrom a = true ∧ ∀ c ∈ cellsFrom a l, c.1 < a + l.length := by
  induction l generalizing a with
  | nil => simp [cellsFrom, Memory.wfFrom]
  | cons b r ih =>
    have := ih (a + 1)
    unfold cellsFrom
    split
    · refine ⟨wfFrom_mono (by omega) this.1, fun c hc => ?_⟩
      have := this.2 c hc; simp; omega
    · next hb =>
      refine ⟨by simpa [Memory.wfFrom, hb] using this.1, fun c hc => ?_⟩
      rcases List.mem_cons.1 hc with rfl | hc
      · simp
      · have := this.2 c hc; simp; omega

/-- Cells that lie among the replaced bytes keep the form. -/
theorem splice_wf {m mid : Memory} {a n : Nat} (w : m.wf = true) (wm : mid.wfFrom a = true) (lt : ∀ c ∈ mid, c.1 < a + n) :
    (m.splice a n mid).wf = true := by
  unfold Memory.splice Memory.wf
  rw [List.append_assoc]
  refine wfFrom_append (wfFrom_filter _ w) (Nat.zero_le a) (by simp) ?_
  exact wfFrom_append wm (Nat.le_add_right a n) lt (wfFrom_above (wfFrom_filter _ w) (by simp))

theorem store_wf {m : Memory} (a : Nat) (l : List Byte) (w : m.wf = true) : (m.store a l).wf = true :=
  splice_wf w (cellsFrom_wf a l).1 (cellsFrom_wf a l).2

theorem zero_wf {m : Memory} (a n : Nat) (w : m.wf = true) : (m.zero a n).wf = true := splice_wf w rfl (by simp)

theorem shift_wf {m : Memory} {lo src dst : Nat} (w : m.wfFrom lo = true) (h : src ≤ lo) :
    Memory.wfFrom (lo - src + dst) (m.map (fun c => (c.1 - src + dst, c.2))) = true := by
  induction m generalizing lo with
  | nil => rfl
  | cons c r ih =>
    simp only [Memory.wfFrom, Bool.and_eq_true, decide_eq_true_eq, List.map_cons] at w ⊢
    refine ⟨⟨by omega, w.1.2⟩, ?_⟩
    have := ih w.2 (by omega)
    have e : c.1 + 1 - src + dst = c.1 - src + dst + 1 := by omega
    rwa [e] at this

theorem copy_wf {m : Memory} (src dst n : Nat) (w : m.wf = true) : (m.copy src dst n).wf = true := by
  unfold Memory.copy
  refine splice_wf w ?_ ?_
  · have := shift_wf (dst := dst) (wfFrom_above (b := src) (wfFrom_filter (fun c => decide (src ≤ c.1 ∧ c.1 < src + n)) w) (by simp; intros; omega)) (Nat.le_refl src)
    simpa using this
  · simp only [List.mem_map, List.mem_filter, decide_eq_true_eq]
    rintro _ ⟨c, ⟨_, h⟩, rfl⟩
    simp only; omega

/-! What an address reads as -/

theorem look_append {a b : Memory} (x : Nat) : Memory.look (a ++ b) x = if a.any (fun c => c.1 == x) then a.look x else b.look x := by
  induction a with
  | nil => simp
  | cons c r ih =>
    simp only [List.cons_append, Memory.look, List.any_cons, ih]
    by_cases h : c.1 = x <;> simp [h]

theorem look_filter {m : Memory} (p : Nat → Bool) (x : Nat) :
    Memory.look (m.filter (fun c => p c.1)) x = if p x then m.look x else Memory.unlisted := by
  induction m with
  | nil => simp [Memory.look]
  | cons c r ih =>
    simp only [List.filter_cons, Memory.look]
    by_cases h : c.1 = x
    · subst h; by_cases hp : p c.1 = true <;> simp_all [Memory.look]
    · by_cases hp : p c.1 = true <;> simp_all [Memory.look]

theorem any_filter_key {m : Memory} (p : Nat → Bool) (x : Nat) (h : p x = false) : (m.filter (fun c => p c.1)).any (fun c => c.1 == x) = false := by
  simp only [List.any_eq_false, List.mem_filter, beq_iff_eq]
  rintro c ⟨_, hc⟩ rfl
  simp_all

theorem look_of_not_any {m : Memory} {x : Nat} (h : m.any (fun c => c.1 == x) = false) : m.look x = Memory.unlisted := by
  induction m with
  | nil => rfl
  | cons c r ih => simp only [List.any_cons, Bool.or_eq_false_iff, beq_eq_false_iff_ne] at h; simp [Memory.look, h.1, ih h.2]

/-- A splice reads as its own cells inside the replaced bytes and as before outside. -/
theorem look_splice {m mid : Memory} {a n x : Nat} (inside : ∀ c ∈ mid, a ≤ c.1 ∧ c.1 < a + n) :
    (m.splice a n mid).look x = if a ≤ x ∧ x < a + n then mid.look x else m.look x := by
  have hm : ¬ (a ≤ x ∧ x < a + n) → mid.any (fun c => c.1 == x) = false := by
    intro h
    simp only [List.any_eq_false, beq_iff_eq]
    rintro c hc rfl
    exact h (inside c hc)
  unfold Memory.splice
  rw [List.append_assoc, look_append, look_append]
  by_cases lt : x < a
  · have e1 := look_filter (m := m) (fun k => decide (k < a)) x
    have e2 := look_filter (m := m) (fun k => decide (a + n ≤ k)) x
    simp only [lt, decide_true, if_true] at e1
    rw [hm (by omega)]
    have : ¬ (a ≤ x ∧ x < a + n) := by omega
    simp only [this, if_false, e1, e2]
    split
    · rfl
    · next h =>
      have := look_of_not_any (Bool.eq_false_iff.2 h)
      rw [e1] at this
      have h3 : ¬ (a + n ≤ x) := by omega
      simp [h3, this]
  · rw [any_filter_key (fun k => decide (k < a)) x (by simpa using lt)]
    have e2 := look_filter (m := m) (fun k => decide (a + n ≤ k)) x
    simp only [Bool.false_eq_true, if_false, e2]
    by_cases hi : a + n ≤ x
    · rw [hm (by omega)]
      have : ¬ (a ≤ x ∧ x < a + n) := by omega
      simp [hi, this]
    · have : a ≤ x ∧ x < a + n := by omega
      simp only [this, and_self, if_true, hi, decide_false, Bool.false_eq_true, if_false]
      split
      · rfl
      · next h => exact (look_of_not_any (Bool.eq_false_iff.2 h)).symm

theorem look_cellsFrom (a : Nat) (l : List Byte) (x : Nat) :
    (cellsFrom a l).look x = if a ≤ x then (l[x - a]?).getD Memory.unlisted else Memory.unlisted := by
  induction l generalizing a with
  | nil => simp [cellsFrom, Memory.look]
  | cons b r ih =>
    have hlt (h : ¬ (a + 1 ≤ x)) : Memory.look (cellsFrom (a + 1) r) x = Memory.unlisted := by rw [ih]; simp [h]
    unfold cellsFrom
    rcases Nat.lt_trichotomy x a with h | rfl | h
    · split
      · rw [hlt (by omega)]; simp [show ¬ a ≤ x by omega]
      · simp [Memory.look, show ¬ a = x by omega, hlt (by omega), show ¬ a ≤ x by omega]
    · split
      · next hb => rw [hlt (by omega)]; simp [hb]
      · simp [Memory.look]
    · have e : x - a = (x - (a + 1)) + 1 := by omega
      split
      · rw [ih]; simp [show a + 1 ≤ x by omega, show a ≤ x by omega, e]
      · simp only [Memory.look, show ¬ a = x by omega, if_false]; rw [ih]; simp [show a + 1 ≤ x by omega, show a ≤ x by omega, e]

/-- A stored byte string reads back; every other address reads as before. -/
theorem look_store (m : Memory) (a : Nat) (l : List Byte) (x : Nat) :
    (m.store a l).look x = if a ≤ x ∧ x < a + l.length then (l[x - a]?).getD 0 else m.look x := by
  unfold Memory.store
  rw [look_splice (fun c hc => ⟨(wfFrom_le (cellsFrom_wf a l).1 c hc).1, (cellsFrom_wf a l).2 c hc⟩)]
  split
  · next h => rw [look_cellsFrom]; simp [h.1, Memory.unlisted]
  · rfl

/-- Cleared bytes read as zero; every other address reads as before. -/
theorem look_zero (m : Memory) (a n x : Nat) : (m.zero a n).look x = if a ≤ x ∧ x < a + n then 0 else m.look x := by
  unfold Memory.zero
  rw [look_splice (by simp)]
  rfl

/-- A read of bytes that a store does not touch is unchanged. -/
theorem read_store_apart (m : Memory) (a : Nat) (l : List Byte) (b n : Nat) (h : b + n ≤ a ∨ a + l.length ≤ b) :
    (m.store a l).read b n = m.read b n := by
  unfold Memory.read
  refine List.map_congr_left fun i hi => ?_
  rw [look_store]
  have := List.mem_range.1 hi
  simp [show ¬ (a ≤ b + i ∧ b + i < a + l.length) by omega]

/-- The bytes stored read back. -/
theorem read_store_same (m : Memory) (a : Nat) (l : List Byte) : (m.store a l).read a l.length = l := by
  apply List.ext_getElem
  · simp [Memory.read]
  · intro i h1 h2
    simp [Memory.read, look_store, h2]

end Sys2Proof.Laws
end

