-- ==== Sys2Proof/Laws/Keeps.lean ====
section
/-!
SUPPORT. What every operation of the machine keeps: the queue of waiting commands as it is, and the canonical form of the memory. One
lemma for each operation says so (this file and the Keeps files beside it), so that a statement about a step unfolds none of them.
-/
namespace Sys2Proof.Laws
open Sys2Proof.Machine

/-- From `s0` to `s` no operation has touched the queue, and a canonical memory is canonical still. -/
structure Keeps (s0 s : State) : Prop where
  pending : s.pending = s0.pending
  wf : s0.mem.wf = true → s.mem.wf = true

/-- An outcome whose next state keeps them. -/
def KeepsOut (s0 : State) (o : Host.Outcome State Fault Refusal) : Prop := ∀ t, o = .next t → Keeps s0 t

theorem keeps_refl (s : State) : Keeps s s := ⟨rfl, id⟩
theorem keeps_trans {a b c : State} (h : Keeps a b) (k : Keeps b c) : Keeps a c := ⟨k.pending.trans h.pending, k.wf ∘ h.wf⟩
theorem keepsOut_next {s0 s : State} (h : Keeps s0 s) : KeepsOut s0 (.next s) := by intro t e; cases e; exact h
theorem keepsOut_fault {s0 : State} (f : Fault) : KeepsOut s0 (.fault f) := by intro t e; cases e

/-- A record update of any field but the queue and the memory. -/
theorem keeps_mk {s0 s : State} {waits' : List Waiting} {held' : Tab (List Held)} {now' free' msgid' bank' causes' clearAt' bootT0' trialT0'
    refsLost' powerOns' lastReady' kindPart' kindMask' : Nat} {dict' stored' : Tab DVal} {hearths' : Tab Hearth} {parts' : Tab Part} {events'
    persisted' : List Ev} {partEvents' : Tab (List Ev)} {bad' ce' bringups' : List Nat} {ricks' : Tab Rick} {jobs' : Tab Job} {regions' reqs' windows'
    objs' banks' : Tab (List Byte)} {dirty' pagePoison' poisoned' : Tab Bool} {remap' refs' : Tab Nat} {reqx' : Tab ReqX} {dirs' : Tab Dir} {maps' :
    Tab (Tab Nat)} {handles' : Tab Handle} {wsets' : Tab WSet} {rings' : Tab Ring} {sent' : List Msg} {flights' : Tab Flight} {buffers' : Tab Buf}
    {trigs' : Tab Trig} {groups' : Tab Group} {conns' : Tab Conn} {turns' : Tab Turn} {fports' : Tab FPort} {eports' : Tab EPort} {spare' : Spare}
    {spareNext' : Option (Spare × Nat)} {due' : List (Nat × Bool)} {sessions' : Tab Session} {replies' : List Reply} {setkeys' : Tab (List (List
    Byte))} {throttleAt' unplanned' : Option Nat} {powered' heldInput' heldHeat' tinderHold' standby' descending' switchOn' kindled' kindEnding' :
    Bool} {slew' : Nat × Nat} (h : Keeps s0 s) : Keeps s0 ⟨s.pending, waits', held', now', free', s.mem, dict', stored', hearths', parts', events',
    persisted', partEvents', bad', ce', ricks', jobs', regions', dirty', pagePoison', remap', reqs', reqx', dirs', maps', refs', poisoned', handles',
    wsets', windows', rings', sent', msgid', flights', buffers', trigs', groups', conns', turns', fports', eports', spare', spareNext', due',
    sessions', replies', objs', banks', bank', setkeys', causes', clearAt', throttleAt', powered', heldInput', heldHeat', tinderHold',
    bootT0', bringups', trialT0', standby', refsLost', slew', descending', powerOns', lastReady', unplanned', switchOn', kindPart', kindMask',
    kindled', kindEnding'⟩ := ⟨h.pending, h.wf⟩

/-- The memory takes a canonical value. -/
theorem keeps_mem {s0 s : State} {m : Memory} {waits' : List Waiting} {held' : Tab (List Held)} {now' free' msgid' bank' causes' clearAt'
    bootT0' trialT0' refsLost' powerOns' lastReady' kindPart' kindMask' : Nat} {dict' stored' : Tab DVal} {hearths' : Tab Hearth} {parts' : Tab Part}
    {events' persisted' : List Ev} {partEvents' : Tab (List Ev)} {bad' ce' bringups' : List Nat} {ricks' : Tab Rick} {jobs' : Tab Job} {regions' reqs'
    windows' objs' banks' : Tab (List Byte)} {dirty' pagePoison' poisoned' : Tab Bool} {remap' refs' : Tab Nat} {reqx' : Tab ReqX} {dirs' : Tab Dir}
    {maps' : Tab (Tab Nat)} {handles' : Tab Handle} {wsets' : Tab WSet} {rings' : Tab Ring} {sent' : List Msg} {flights' : Tab Flight} {buffers' : Tab
    Buf} {trigs' : Tab Trig} {groups' : Tab Group} {conns' : Tab Conn} {turns' : Tab Turn} {fports' : Tab FPort} {eports' : Tab EPort} {spare' :
    Spare} {spareNext' : Option (Spare × Nat)} {due' : List (Nat × Bool)} {sessions' : Tab Session} {replies' : List Reply} {setkeys' : Tab (List
    (List Byte))} {throttleAt' unplanned' : Option Nat} {powered' heldInput' heldHeat' tinderHold' standby' descending' switchOn' kindled' kindEnding'
    : Bool} {slew' : Nat × Nat} (hm : s.mem.wf = true → m.wf = true) (h : Keeps s0 s) : Keeps s0 ⟨s.pending, waits', held', now', free', m, dict',
    stored', hearths', parts', events', persisted', partEvents', bad', ce', ricks', jobs', regions', dirty', pagePoison', remap', reqs', reqx', dirs',
    maps', refs', poisoned', handles', wsets', windows', rings', sent', msgid', flights', buffers', trigs', groups', conns', turns', fports', eports',
    spare', spareNext', due', sessions', replies', objs', banks', bank', setkeys', causes', clearAt', throttleAt', powered', heldInput',
    heldHeat', tinderHold', bootT0', bringups', trialT0', standby', refsLost', slew', descending', powerOns', lastReady', unplanned', switchOn',
    kindPart', kindMask', kindled', kindEnding'⟩ := ⟨h.pending, hm ∘ h.wf⟩

/-! Control flow -/

theorem keeps_ite {s0 a b : State} {c : Prop} [Decidable c] (ha : Keeps s0 a) (hb : Keeps s0 b) : Keeps s0 (if c then a else b) := by
  split <;> assumption

theorem keeps_ite_fst {α : Type} {s0 : State} {a b : State × α} {c : Prop} [Decidable c] (ha : Keeps s0 a.1) (hb : Keeps s0 b.1) :
    Keeps s0 (if c then a else b).1 := by
  split <;> assumption

theorem keeps_of_fst {α : Type} {s0 s : State} {p : State × α} {x : α} (e : p = (s, x)) (h : Keeps s0 p.1) : Keeps s0 s := by subst e; exact h
theorem keeps_of_snd {α : Type} {s0 s : State} {p : α × State} {x : α} (e : p = (x, s)) (h : Keeps s0 p.2) : Keeps s0 s := by subst e; exact h

theorem keeps_foldl {α : Type} {s0 : State} (f : State → α → State) (l : List α) {s : State} (hf : ∀ s x, Keeps s0 s → Keeps s0 (f s x)) (h : Keeps s0 s) :
    Keeps s0 (l.foldl f s) := by
  induction l generalizing s with
  | nil => exact h
  | cons x r ih => exact ih (hf s x h)

theorem keeps_foldl_fst {α β : Type} {s0 : State} (f : State × β → α → State × β) (l : List α) {p : State × β}
    (hf : ∀ p x, Keeps s0 p.1 → Keeps s0 (f p x).1) (h : Keeps s0 p.1) : Keeps s0 (l.foldl f p).1 := by
  induction l generalizing p with
  | nil => exact h
  | cons x r ih => exact ih (hf p x h)

theorem keeps_forAll {α : Type} {s0 s : State} (l : List α) (f : α → State → State) (hf : ∀ x s, Keeps s0 s → Keeps s0 (f x s)) (h : Keeps s0 s) :
    Keeps s0 (forAll l f s) := keeps_foldl _ l (fun s x => hf x s) h

theorem keeps_foldl_bind {α : Type} {s0 : State} (f : State → α → Option State) (hf : ∀ s x t, Keeps s0 s → f s x = some t → Keeps s0 t) (l : List α)
    (o : Option State) (h : ∀ t, o = some t → Keeps s0 t) : ∀ t, l.foldl (fun o x => o.bind (fun s => f s x)) o = some t → Keeps s0 t := by
  induction l generalizing o with
  | nil => exact h
  | cons x r ih =>
    refine ih _ fun t e => ?_
    cases o with
    | none => cases e
    | some s => exact hf s x t (h s rfl) e

theorem keeps_getD {s0 s : State} {o : Option State} (ho : ∀ t, o = some t → Keeps s0 t) (h : Keeps s0 s) : Keeps s0 (o.getD s) := by
  cases o with
  | none => exact h
  | some t => exact ho t rfl

/-! The operations on memory -/

theorem keeps_State_store {s0 s : State} (a : Nat) (l : List Byte) (h : Keeps s0 s) : Keeps s0 (s.store a l) := keeps_mem (store_wf a l) h
theorem keeps_State_zeroRange {s0 s : State} (a n : Nat) (h : Keeps s0 s) : Keeps s0 (s.zeroRange a n) := keeps_mem (zero_wf a n) h
theorem keeps_State_copyRange {s0 s : State} (src dst n : Nat) (h : Keeps s0 s) : Keeps s0 (s.copyRange src dst n) := keeps_mem (copy_wf src dst n) h
theorem keeps_State_poisonWords {s0 s : State} (a n : Nat) (h : Keeps s0 s) : Keeps s0 (s.poisonWords a n) := keeps_mem (zero_wf _ _) h

end Sys2Proof.Laws
end

