-- ==== Sys2Proof/Laws/KeepsOps.lean ====
section
/-!
SUPPORT. Every operation of Machine/Ops.lean keeps the queue and the canonical memory.
-/
namespace Sys2Proof.Laws
open Sys2Proof.Machine

theorem keeps_State_at {s0 s : State} (y1 : Nat) (h : Keeps s0 s) :
    Keeps s0 (State.at s y1) := by
  unfold State.at
  with_reducible repeat' (first | assumption | intro _ | apply keeps_ite | apply keeps_ite_fst | apply keeps_forAll | apply keeps_foldl | apply keeps_foldl_fst | (apply keeps_of_fst; assumption) | (apply keeps_of_snd; assumption) | dsimp only | split | (apply keeps_mk; first | assumption | apply keeps_ite | apply keeps_forAll | apply keeps_foldl))

theorem keeps_State_setVal {s0 s : State} (key : Nat) (v : DVal) (h : Keeps s0 s) :
    Keeps s0 (State.setVal s key v) := by
  unfold State.setVal
  with_reducible repeat' (first | assumption | intro _ | apply keeps_ite | apply keeps_ite_fst | apply keeps_forAll | apply keeps_foldl | apply keeps_foldl_fst | (apply keeps_of_fst; assumption) | (apply keeps_of_snd; assumption) | dsimp only | split | (apply keeps_mk; first | assumption | apply keeps_ite | apply keeps_forAll | apply keeps_foldl))

theorem keeps_State_setNum {s0 s : State} (key : Nat) (v : Nat) (h : Keeps s0 s) :
    Keeps s0 (State.setNum s key v) := by
  unfold State.setNum
  with_reducible repeat' (first | assumption | intro _ | apply keeps_State_setVal)

theorem keeps_State_bumpBy {s0 s : State} (key : Nat) (w : Nat) (d : Nat) (h : Keeps s0 s) :
    Keeps s0 (State.bumpBy s key w d) := by
  unfold State.bumpBy
  with_reducible repeat' (first | assumption | intro _ | apply keeps_State_setNum)

theorem keeps_State_bump {s0 s : State} (key : Nat) (h : Keeps s0 s) :
    Keeps s0 (State.bump s key) := by
  unfold State.bump
  with_reducible repeat' (first | assumption | intro _ | apply keeps_State_bumpBy)

theorem keeps_State_draw {s0 s : State}  (h : Keeps s0 s) :
    Keeps s0 (State.draw s).2 := by
  unfold State.draw
  with_reducible repeat' (first | assumption | intro _ | apply keeps_ite | apply keeps_ite_fst | apply keeps_forAll | apply keeps_foldl | apply keeps_foldl_fst | (apply keeps_of_fst; assumption) | (apply keeps_of_snd; assumption) | dsimp only | split | (apply keeps_mk; first | assumption | apply keeps_ite | apply keeps_forAll | apply keeps_foldl))

theorem keeps_State_setHearth {s0 s : State} (g : Nat) (y2 : Hearth) (h : Keeps s0 s) :
    Keeps s0 (State.setHearth s g y2) := by
  unfold State.setHearth
  with_reducible repeat' (first | assumption | intro _ | apply keeps_ite | apply keeps_ite_fst | apply keeps_forAll | apply keeps_foldl | apply keeps_foldl_fst | (apply keeps_of_fst; assumption) | (apply keeps_of_snd; assumption) | dsimp only | split | (apply keeps_mk; first | assumption | apply keeps_ite | apply keeps_forAll | apply keeps_foldl))

theorem keeps_State_onHearth {s0 s : State} (g : Nat) (f : Hearth → Hearth) (h : Keeps s0 s) :
    Keeps s0 (State.onHearth s g f) := by
  unfold State.onHearth
  with_reducible repeat' (first | assumption | intro _ | apply keeps_State_setHearth)

theorem keeps_State_setPart {s0 s : State} (n : Nat) (p : Part) (h : Keeps s0 s) :
    Keeps s0 (State.setPart s n p) := by
  unfold State.setPart
  with_reducible repeat' (first | assumption | intro _ | apply keeps_ite | apply keeps_ite_fst | apply keeps_forAll | apply keeps_foldl | apply keeps_foldl_fst | (apply keeps_of_fst; assumption) | (apply keeps_of_snd; assumption) | dsimp only | split | (apply keeps_mk; first | assumption | apply keeps_ite | apply keeps_forAll | apply keeps_foldl))

theorem keeps_State_onPart {s0 s : State} (n : Nat) (f : Part → Part) (h : Keeps s0 s) :
    Keeps s0 (State.onPart s n f) := by
  unfold State.onPart
  with_reducible repeat' (first | assumption | intro _ | apply keeps_State_setPart)

theorem keeps_State_onRick {s0 s : State} (k : Nat) (f : Rick → Rick) (h : Keeps s0 s) :
    Keeps s0 (State.onRick s k f) := by
  unfold State.onRick
  with_reducible repeat' (first | assumption | intro _ | apply keeps_ite | apply keeps_ite_fst | apply keeps_forAll | apply keeps_foldl | apply keeps_foldl_fst | (apply keeps_of_fst; assumption) | (apply keeps_of_snd; assumption) | dsimp only | split | (apply keeps_mk; first | assumption | apply keeps_ite | apply keeps_forAll | apply keeps_foldl))

theorem keeps_State_onRx {s0 s : State} (i : Nat) (f : ReqX → ReqX) (h : Keeps s0 s) :
    Keeps s0 (State.onRx s i f) := by
  unfold State.onRx
  with_reducible repeat' (first | assumption | intro _ | apply keeps_ite | apply keeps_ite_fst | apply keeps_forAll | apply keeps_foldl | apply keeps_foldl_fst | (apply keeps_of_fst; assumption) | (apply keeps_of_snd; assumption) | dsimp only | split | (apply keeps_mk; first | assumption | apply keeps_ite | apply keeps_forAll | apply keeps_foldl))

theorem keeps_State_raise {s0 s : State} (code : Nat) (scope : Nat) (detail : optParam (List Nat) []) (h : Keeps s0 s) :
    Keeps s0 (State.raise s code scope detail) := by
  unfold State.raise
  with_reducible repeat' (first | assumption | intro _ | apply keeps_State_setNum | apply keeps_State_bumpBy | apply keeps_ite | apply keeps_ite_fst | apply keeps_forAll | apply keeps_foldl | apply keeps_foldl_fst | (apply keeps_of_fst; assumption) | (apply keeps_of_snd; assumption) | dsimp only | split | (apply keeps_mk; first | assumption | apply keeps_State_setNum | apply keeps_State_bumpBy | apply keeps_ite | apply keeps_forAll | apply keeps_foldl))

theorem keeps_State_setBlob {s0 s : State} (key : Nat) (b : List Sys2Proof.Byte) (h : Keeps s0 s) :
    Keeps s0 (State.setBlob s key b) := by
  unfold State.setBlob
  with_reducible repeat' (first | assumption | intro _ | apply keeps_State_setVal)

theorem keeps_State_unset {s0 s : State} (key : Nat) (h : Keeps s0 s) :
    Keeps s0 (State.unset s key) := by
  unfold State.unset
  with_reducible repeat' (first | assumption | intro _ | apply keeps_ite | apply keeps_ite_fst | apply keeps_forAll | apply keeps_foldl | apply keeps_foldl_fst | (apply keeps_of_fst; assumption) | (apply keeps_of_snd; assumption) | dsimp only | split | (apply keeps_mk; first | assumption | apply keeps_ite | apply keeps_forAll | apply keeps_foldl))

end Sys2Proof.Laws
end

