-- ==== Sys2Proof/Laws/KeepsTrace.lean ====
section
/-!
SUPPORT. Every operation of Machine/Trace.lean keeps the queue and the canonical memory.
-/
namespace Sys2Proof.Laws
open Sys2Proof.Machine

theorem keeps_State_countLoss {s0 s : State} (n : Nat) (d : Nat) (h : Keeps s0 s) :
    Keeps s0 (State.countLoss s n d) := by
  unfold State.countLoss
  with_reducible repeat' (first | assumption | intro _ | apply keeps_State_onPart | apply keeps_State_bumpBy | apply keeps_State_raise | apply keeps_ite)

theorem keeps_State_hearthRecord {s0 s : State} (n : Nat) (g : Nat) (rec : List Sys2Proof.Byte) (h : Keeps s0 s) :
    Keeps s0 (State.hearthRecord s n g rec) := by
  unfold State.hearthRecord
  with_reducible repeat' (first | assumption | intro _ | apply keeps_State_countLoss | apply keeps_State_setHearth | apply keeps_ite)

theorem keeps_State_coreRecord {s0 s : State} (n : Nat) (g : Nat) (typ : Nat) (info : Nat) (iaddr : Nat) (data : Nat) (h : Keeps s0 s) :
    Keeps s0 (State.coreRecord s n g typ info iaddr data) := by
  unfold State.coreRecord
  with_reducible repeat' (first | assumption | intro _ | apply keeps_State_hearthRecord | apply keeps_ite)

theorem keeps_State_markAll {s0 s : State} (n : Nat) (typ : Nat) (info : Nat) (data : Nat) (h : Keeps s0 s) :
    Keeps s0 (State.markAll s n typ info data) := by
  unfold State.markAll
  with_reducible repeat' (first | assumption | intro _ | apply keeps_forAll | apply keeps_State_hearthRecord)

theorem keeps_State_nicRecord {s0 s : State} (n : Nat) (k : Nat) (typ : Nat) (kind : Nat) (peer : Nat) (msgid : Nat) (h : Keeps s0 s) :
    Keeps s0 (State.nicRecord s n k typ kind peer msgid) := by
  unfold State.nicRecord
  with_reducible repeat' (first | assumption | intro _ | apply keeps_State_countLoss | apply keeps_State_onRick | apply keeps_ite)

theorem keeps_State_trigger {s0 s : State} (n : Nat) (source : Nat) (data : Nat) (cycle : Nat) (h : Keeps s0 s) :
    Keeps s0 (State.trigger s n source data cycle) := by
  unfold State.trigger
  with_reducible repeat' (first | assumption | intro _ | apply keeps_State_raise | apply keeps_State_onPart | apply keeps_ite)

end Sys2Proof.Laws
end

