-- ==== Sys2Proof/Laws/KeepsTiers.lean ====
section
/-!
SUPPORT. Every operation of Machine/Tiers.lean keeps the queue and the canonical memory.
-/
namespace Sys2Proof.Laws
open Sys2Proof.Machine

theorem keeps_State_setRegion {s0 s : State} (n : Nat) (r : Nat) (b : List Sys2Proof.Byte) (h : Keeps s0 s) :
    Keeps s0 (State.setRegion s n r b) := by
  unfold State.setRegion
  with_reducible repeat' (first | assumption | intro _ | apply keeps_ite | apply keeps_ite_fst | apply keeps_forAll | apply keeps_foldl | apply keeps_foldl_fst | (apply keeps_of_fst; assumption) | (apply keeps_of_snd; assumption) | dsimp only | split | (apply keeps_mk; first | assumption | apply keeps_ite | apply keeps_forAll | apply keeps_foldl))

theorem keeps_State_regionFlag {s0 s : State} (n : Nat) (r : Nat) (bitno : Nat) (on : Bool) (h : Keeps s0 s) :
    Keeps s0 (State.regionFlag s n r bitno on) := by
  unfold State.regionFlag
  with_reducible repeat' (first | assumption | intro _ | apply keeps_State_setRegion)

theorem keeps_State_poisonPage {s0 s : State} (n : Nat) (r : Nat) (key : Nat) (tier : Nat) (off : Nat) (h : Keeps s0 s) :
    Keeps s0 (State.poisonPage s n r key tier off) := by
  unfold State.poisonPage
  with_reducible repeat' (first | assumption | intro _ | apply keeps_State_bump | apply keeps_State_raise | apply keeps_State_regionFlag | apply keeps_ite | apply keeps_ite_fst | apply keeps_forAll | apply keeps_foldl | apply keeps_foldl_fst | (apply keeps_of_fst; assumption) | (apply keeps_of_snd; assumption) | dsimp only | split | (apply keeps_mk; first | assumption | apply keeps_State_bump | apply keeps_State_raise | apply keeps_State_regionFlag | apply keeps_ite | apply keeps_forAll | apply keeps_foldl))

theorem keeps_State_writeB {s0 s : State} (n : Nat) (k : Nat) (off : Nat) (l : List Sys2Proof.Byte) (h : Keeps s0 s) :
    Keeps s0 (State.writeB s n k off l) := by
  unfold State.writeB
  with_reducible repeat' (first | assumption | intro _ | apply keeps_State_store | apply keeps_ite | apply keeps_ite_fst | apply keeps_forAll | apply keeps_foldl | apply keeps_foldl_fst | (apply keeps_of_fst; assumption) | (apply keeps_of_snd; assumption) | dsimp only | split | (apply keeps_mk; first | assumption | apply keeps_State_store | apply keeps_ite | apply keeps_forAll | apply keeps_foldl))

theorem keeps_State_writeRegion {s0 s : State} (n : Nat) (r : Nat) (off : Nat) (l : List Sys2Proof.Byte) (h : Keeps s0 s) :
    Keeps s0 (State.writeRegion s n r off l) := by
  unfold State.writeRegion
  with_reducible repeat' (first | assumption | intro _ | apply keeps_State_writeB)

theorem keeps_State_writeSegs {s0 sa : State} (y1 : List (Nat × Nat)) (y2 : List Sys2Proof.Byte) (h : Keeps s0 sa) :
    Keeps s0 (State.writeSegs sa y1 y2) := by
  induction y1 generalizing sa y2 with
  | nil => rw [State.writeSegs]; with_reducible repeat' assumption
  | cons x r ih =>
    rw [State.writeSegs]
    with_reducible repeat' (first | assumption | intro _ | apply ih | apply keeps_State_store | apply keeps_ite)


theorem keeps_State_writeS {s0 s : State} (n : Nat) (off : Nat) (l : List Sys2Proof.Byte) (h : Keeps s0 s) :
    Keeps s0 (State.writeS s n off l) := by
  unfold State.writeS
  with_reducible repeat' (first | assumption | intro _ | apply keeps_State_writeSegs | apply keeps_forAll | apply keeps_State_poisonPage | apply keeps_ite | apply keeps_ite_fst | apply keeps_foldl | apply keeps_foldl_fst | (apply keeps_of_fst; assumption) | (apply keeps_of_snd; assumption) | dsimp only | split | (apply keeps_mk; first | assumption | apply keeps_State_writeSegs | apply keeps_forAll | apply keeps_State_poisonPage | apply keeps_ite | apply keeps_foldl))

theorem keeps_State_writeTier {s0 s : State} (n : Nat) (ta : Nat) (l : List Sys2Proof.Byte) (h : Keeps s0 s) :
    Keeps s0 (State.writeTier s n ta l) := by
  unfold State.writeTier
  with_reducible repeat' (first | assumption | intro _ | apply keeps_State_writeB | apply keeps_State_writeS | apply keeps_ite)

end Sys2Proof.Laws
end

