-- ==== Sys2Proof/Laws/KeepsCords.lean ====
section
/-!
SUPPORT. Every operation of Machine/Cords.lean keeps the queue and the canonical memory.
-/
namespace Sys2Proof.Laws
open Sys2Proof.Machine

theorem keeps_State_onJob {s0 s : State} (n : Nat) (j : Nat) (f : Job → Job) (h : Keeps s0 s) :
    Keeps s0 (State.onJob s n j f) := by
  unfold State.onJob
  with_reducible repeat' (first | assumption | intro _ | apply keeps_ite | apply keeps_ite_fst | apply keeps_forAll | apply keeps_foldl | apply keeps_foldl_fst | (apply keeps_of_fst; assumption) | (apply keeps_of_snd; assumption) | dsimp only | split | (apply keeps_mk; first | assumption | apply keeps_ite | apply keeps_forAll | apply keeps_foldl))

end Sys2Proof.Laws
end

