-- ==== Sys2Proof/Laws/KeepsFabric.lean ====
section
/-!
SUPPORT. Every operation of Machine/Fabric.lean keeps the queue and the canonical memory.
-/
namespace Sys2Proof.Laws
open Sys2Proof.Machine

theorem keeps_State_emit {s0 s : State} (m : Msg) (h : Keeps s0 s) :
    Keeps s0 (State.emit s m) := by
  unfold State.emit
  with_reducible repeat' (first | assumption | intro _ | apply keeps_ite | apply keeps_ite_fst | apply keeps_forAll | apply keeps_foldl | apply keeps_foldl_fst | (apply keeps_of_fst; assumption) | (apply keeps_of_snd; assumption) | dsimp only | split | (apply keeps_mk; first | assumption | apply keeps_ite | apply keeps_forAll | apply keeps_foldl))

theorem keeps_State_onConn {s0 s : State} (n : Nat) (c : Nat) (f : Conn → Conn) (h : Keeps s0 s) :
    Keeps s0 (State.onConn s n c f) := by
  unfold State.onConn
  with_reducible repeat' (first | assumption | intro _ | apply keeps_ite | apply keeps_ite_fst | apply keeps_forAll | apply keeps_foldl | apply keeps_foldl_fst | (apply keeps_of_fst; assumption) | (apply keeps_of_snd; assumption) | dsimp only | split | (apply keeps_mk; first | assumption | apply keeps_ite | apply keeps_forAll | apply keeps_foldl))

theorem keeps_State_onFport {s0 s : State} (p : Nat) (f : FPort → FPort) (h : Keeps s0 s) :
    Keeps s0 (State.onFport s p f) := by
  unfold State.onFport
  with_reducible repeat' (first | assumption | intro _ | apply keeps_ite | apply keeps_ite_fst | apply keeps_forAll | apply keeps_foldl | apply keeps_foldl_fst | (apply keeps_of_fst; assumption) | (apply keeps_of_snd; assumption) | dsimp only | split | (apply keeps_mk; first | assumption | apply keeps_ite | apply keeps_forAll | apply keeps_foldl))

theorem keeps_State_sendBy {s0 s : State} (slots : List Nat) (m : Msg) (use : Option Use) (h : Keeps s0 s) :
    Keeps s0 (State.sendBy s slots m use) := by
  unfold State.sendBy
  with_reducible repeat' (first | assumption | intro _ | apply keeps_State_nicRecord | apply keeps_State_onFport | apply keeps_State_onConn | apply keeps_ite | apply keeps_ite_fst | apply keeps_forAll | apply keeps_foldl | apply keeps_foldl_fst | (apply keeps_of_fst; assumption) | (apply keeps_of_snd; assumption) | dsimp only | split | (apply keeps_mk; first | assumption | apply keeps_State_nicRecord | apply keeps_State_onFport | apply keeps_State_onConn | apply keeps_ite | apply keeps_forAll | apply keeps_foldl))

theorem keeps_State_send {s0 s : State} (slots : List Nat) (m : Msg) (use : Use) (h : Keeps s0 s) :
    Keeps s0 (State.send s slots m use) := by
  unfold State.send
  with_reducible repeat' (first | assumption | intro _ | apply keeps_State_sendBy)

theorem keeps_State_sendOnly {s0 s : State} (m : Msg) (h : Keeps s0 s) :
    Keeps s0 (State.sendOnly s m) := by
  unfold State.sendOnly
  with_reducible repeat' (first | assumption | intro _ | apply keeps_State_sendBy)

end Sys2Proof.Laws
end

