-- ==== Sys2Proof/Laws/KeepsWeights.lean ====
section
/-!
SUPPORT. Every operation of Machine/Weights.lean keeps the queue and the canonical memory.
-/
namespace Sys2Proof.Laws
open Sys2Proof.Machine

theorem keeps_State_onWset {s0 s : State} (n : Nat) (w : Nat) (f : WSet → WSet) (h : Keeps s0 s) :
    Keeps s0 (State.onWset s n w f) := by
  unfold State.onWset
  with_reducible repeat' (first | assumption | intro _ | apply keeps_ite | apply keeps_ite_fst | apply keeps_forAll | apply keeps_foldl | apply keeps_foldl_fst | (apply keeps_of_fst; assumption) | (apply keeps_of_snd; assumption) | dsimp only | split | (apply keeps_mk; first | assumption | apply keeps_ite | apply keeps_forAll | apply keeps_foldl))

theorem keeps_State_hold {s0 s : State} (n : Nat) (w : Nat) (h : Keeps s0 s) :
    Keeps s0 (State.hold s n w) := by
  unfold State.hold
  with_reducible repeat' (first | assumption | intro _ | apply keeps_State_bump | apply keeps_State_onWset | apply keeps_ite)

theorem keeps_State_poisonShard {s0 s : State} (n : Nat) (w : Nat) (i : Nat) (tier : Nat) (h : Keeps s0 s) :
    Keeps s0 (State.poisonShard s n w i tier) := by
  unfold State.poisonShard
  with_reducible repeat' (first | assumption | intro _ | apply keeps_State_raise | apply keeps_State_onWset | apply keeps_State_hold | apply keeps_State_onPart | apply keeps_ite)

theorem keeps_State_tierPageError {s0 s : State} (n : Nat) (r : Nat) (tier : Nat) (off : Nat) (h : Keeps s0 s) :
    Keeps s0 (State.tierPageError s n r tier off) := by
  unfold State.tierPageError
  with_reducible repeat' (first | assumption | intro _ | apply keeps_State_poisonPage | apply keeps_State_onPart | apply keeps_State_poisonShard | apply keeps_ite | apply keeps_ite_fst | apply keeps_forAll | apply keeps_foldl | apply keeps_foldl_fst | (apply keeps_of_fst; assumption) | (apply keeps_of_snd; assumption) | dsimp only | split)

theorem keeps_State_readTier {s0 s : State} (n : Nat) (ta : Nat) (len : Nat) (h : Keeps s0 s) :
    Keeps s0 (State.readTier s n ta len).1 := by
  unfold State.readTier
  with_reducible repeat' (first | assumption | intro _ | apply keeps_forAll | apply keeps_State_tierPageError | apply keeps_ite | apply keeps_ite_fst | apply keeps_foldl | apply keeps_foldl_fst | (apply keeps_of_fst; assumption) | (apply keeps_of_snd; assumption) | dsimp only | split)

theorem keeps_State_setJobEpoch {s0 s : State} (n : Nat) (j : Nat) (e : Nat) (w : Nat) (h : Keeps s0 s) :
    Keeps s0 (State.setJobEpoch s n j e w) := by
  unfold State.setJobEpoch
  with_reducible repeat' (first | assumption | intro _ | apply keeps_State_setBlob)

end Sys2Proof.Laws
end

