-- ==== Sys2Proof/Laws/KeepsKvPages.lean ====
section
/-!
SUPPORT. Every operation of Machine/KvPages.lean keeps the queue and the canonical memory.
-/
namespace Sys2Proof.Laws
open Sys2Proof.Machine

theorem keeps_State_cacheLost {s0 s : State} (n : Nat) (list : Nat) (h : Keeps s0 s) :
    Keeps s0 (State.cacheLost s n list) := by
  unfold State.cacheLost
  with_reducible repeat' (first | assumption | intro _ | apply keeps_State_onRx | apply keeps_ite | apply keeps_ite_fst | apply keeps_forAll | apply keeps_foldl | apply keeps_foldl_fst | (apply keeps_of_fst; assumption) | (apply keeps_of_snd; assumption) | dsimp only | split)

theorem keeps_State_setRefs {s0 s : State} (k : Nat) (q : Nat) (v : Nat) (h : Keeps s0 s) :
    Keeps s0 (State.setRefs s k q v) := by
  unfold State.setRefs
  with_reducible repeat' (first | assumption | intro _ | apply keeps_ite | apply keeps_ite_fst | apply keeps_forAll | apply keeps_foldl | apply keeps_foldl_fst | (apply keeps_of_fst; assumption) | (apply keeps_of_snd; assumption) | dsimp only | split | (apply keeps_mk; first | assumption | apply keeps_ite | apply keeps_forAll | apply keeps_foldl))

theorem keeps_State_decRef {s0 s : State} (k : Nat) (q : Nat) (h : Keeps s0 s) :
    Keeps s0 (State.decRef s k q) := by
  unfold State.decRef
  with_reducible repeat' (first | assumption | intro _ | apply keeps_State_setRefs)

theorem keeps_State_setMap {s0 s : State} (k : Nat) (q : Nat) (m : Tab Nat) (h : Keeps s0 s) :
    Keeps s0 (State.setMap s k q m) := by
  unfold State.setMap
  with_reducible repeat' (first | assumption | intro _ | apply keeps_ite | apply keeps_ite_fst | apply keeps_forAll | apply keeps_foldl | apply keeps_foldl_fst | (apply keeps_of_fst; assumption) | (apply keeps_of_snd; assumption) | dsimp only | split | (apply keeps_mk; first | assumption | apply keeps_ite | apply keeps_forAll | apply keeps_foldl))

theorem keeps_State_dropAlloc {s0 s : State} (k : Nat) (q : Nat) (at65536 : Nat) (h : Keeps s0 s) :
    Keeps s0 (State.dropAlloc s k q at65536) := by
  unfold State.dropAlloc
  with_reducible repeat' (first | assumption | intro _ | apply keeps_State_decRef | apply keeps_State_setMap | apply keeps_ite)

theorem keeps_State_releaseList {s0 s : State} (n : Nat) (l : Nat) (h : Keeps s0 s) :
    Keeps s0 (State.releaseList s n l) := by
  unfold State.releaseList
  with_reducible repeat' (first | assumption | intro _ | apply keeps_forAll | apply keeps_State_onPart | apply keeps_ite | apply keeps_ite_fst | apply keeps_foldl | apply keeps_foldl_fst | (apply keeps_of_fst; assumption) | (apply keeps_of_snd; assumption) | dsimp only | split | (apply keeps_mk; first | assumption | apply keeps_forAll | apply keeps_State_onPart | apply keeps_ite | apply keeps_foldl))

theorem keeps_State_dropHandle {s0 s : State} (n : Nat) (i : Nat) (h : Keeps s0 s) :
    Keeps s0 (State.dropHandle s n i) := by
  unfold State.dropHandle
  with_reducible repeat' (first | assumption | intro _ | apply keeps_State_releaseList | apply keeps_ite | apply keeps_ite_fst | apply keeps_forAll | apply keeps_foldl | apply keeps_foldl_fst | (apply keeps_of_fst; assumption) | (apply keeps_of_snd; assumption) | dsimp only | split | (apply keeps_mk; first | assumption | apply keeps_State_releaseList | apply keeps_ite | apply keeps_forAll | apply keeps_foldl))

theorem keeps_State_incRef {s0 s : State} (k : Nat) (q : Nat) (h : Keeps s0 s) :
    Keeps s0 (State.incRef s k q) := by
  unfold State.incRef
  with_reducible repeat' (first | assumption | intro _ | apply keeps_State_setRefs)

theorem keeps_State_setDir {s0 s : State} (k : Nat) (l : Nat) (d : Dir) (h : Keeps s0 s) :
    Keeps s0 (State.setDir s k l d) := by
  unfold State.setDir
  with_reducible repeat' (first | assumption | intro _ | apply keeps_ite | apply keeps_ite_fst | apply keeps_forAll | apply keeps_foldl | apply keeps_foldl_fst | (apply keeps_of_fst; assumption) | (apply keeps_of_snd; assumption) | dsimp only | split | (apply keeps_mk; first | assumption | apply keeps_ite | apply keeps_forAll | apply keeps_foldl))

theorem keeps_State_kvCommit {s0 s : State} (n : Nat) (h : Keeps s0 s) :
    Keeps s0 (State.kvCommit s n) := by
  unfold State.kvCommit
  with_reducible repeat' (first | assumption | intro _ | apply keeps_forAll | apply keeps_State_setDir | apply keeps_State_dropAlloc | apply keeps_State_onPart | apply keeps_ite)

theorem keeps_State_kvDiscard {s0 s : State} (n : Nat) (h : Keeps s0 s) :
    Keeps s0 (State.kvDiscard s n) := by
  unfold State.kvDiscard
  with_reducible repeat' (first | assumption | intro _ | apply keeps_forAll | apply keeps_State_setDir | apply keeps_State_dropAlloc | apply keeps_State_dropHandle | apply keeps_State_releaseList | apply keeps_State_onPart | apply keeps_ite)

theorem keeps_State_poisonKvPage {s0 s : State} (n : Nat) (k : Nat) (q : Nat) (h : Keeps s0 s) :
    Keeps s0 (State.poisonKvPage s n k q) := by
  unfold State.poisonKvPage
  with_reducible repeat' (first | assumption | intro _ | apply keeps_State_raise | apply keeps_State_bump | apply keeps_ite | apply keeps_ite_fst | apply keeps_forAll | apply keeps_foldl | apply keeps_foldl_fst | (apply keeps_of_fst; assumption) | (apply keeps_of_snd; assumption) | dsimp only | split | (apply keeps_mk; first | assumption | apply keeps_State_raise | apply keeps_State_bump | apply keeps_ite | apply keeps_forAll | apply keeps_foldl))

theorem keeps_State_privateMap {s0 s : State} (n : Nat) (k : Nat) (list : Nat) (di : Nat) (h : Keeps s0 s) :
    Keeps s0 (State.privateMap s n k list di).1 := by
  unfold State.privateMap
  with_reducible repeat' (first | assumption | intro _ | apply keeps_State_setDir | apply keeps_State_setMap | apply keeps_State_setRefs | apply keeps_forAll | apply keeps_State_incRef | apply keeps_State_decRef | apply keeps_ite | apply keeps_ite_fst | apply keeps_foldl | apply keeps_foldl_fst | (apply keeps_of_fst; assumption) | (apply keeps_of_snd; assumption) | dsimp only | split)

theorem keeps_State_readPage {s0 s : State} (n : Nat) (k : Nat) (q : Nat) (off : Nat) (len : Nat) (list : Nat) (h : Keeps s0 s) :
    Keeps s0 (State.readPage s n k q off len list) := by
  unfold State.readPage
  with_reducible repeat' (first | assumption | intro _ | apply keeps_State_cacheLost | apply keeps_State_poisonKvPage | apply keeps_ite)

theorem keeps_State_privatePage {s0 sa : State} (n : Nat) (k : Nat) (list : Nat) (m : Nat) (l : Nat) (p : Nat) (r : List Sys2Proof.Byte) (h : Keeps s0 sa) :
    Keeps s0 (State.privatePage sa n k list m l p r).1 := by
  unfold State.privatePage
  with_reducible repeat' (first | assumption | intro _ | apply keeps_State_readPage | apply keeps_State_privateMap | apply keeps_State_setMap | apply keeps_State_setRefs | apply keeps_State_store | apply keeps_State_onPart | apply keeps_State_decRef | apply keeps_ite | apply keeps_ite_fst | apply keeps_forAll | apply keeps_foldl | apply keeps_foldl_fst | (apply keeps_of_fst; assumption) | (apply keeps_of_snd; assumption) | dsimp only | split)

theorem keeps_State_readDir {s0 s : State} (n : Nat) (k : Nat) (src : Nat) (list : Nat) (h : Keeps s0 s) :
    Keeps s0 (State.readDir s n k src list) := by
  unfold State.readDir
  with_reducible repeat' (first | assumption | intro _ | apply keeps_State_cacheLost | apply keeps_State_raise | apply keeps_State_bump | apply keeps_ite | apply keeps_ite_fst | apply keeps_forAll | apply keeps_foldl | apply keeps_foldl_fst | (apply keeps_of_fst; assumption) | (apply keeps_of_snd; assumption) | dsimp only | split | (apply keeps_mk; first | assumption | apply keeps_State_cacheLost | apply keeps_State_raise | apply keeps_State_bump | apply keeps_ite | apply keeps_forAll | apply keeps_foldl))

theorem keeps_State_releaseOne {s0 s : State} (n : Nat) (h : Keeps s0 s) :
    Keeps s0 (State.releaseOne s n) := by
  unfold State.releaseOne
  with_reducible repeat' (first | assumption | intro _ | apply keeps_State_onPart | apply keeps_State_decRef | apply keeps_ite | apply keeps_ite_fst | apply keeps_forAll | apply keeps_foldl | apply keeps_foldl_fst | (apply keeps_of_fst; assumption) | (apply keeps_of_snd; assumption) | dsimp only | split)

end Sys2Proof.Laws
end

