-- ==== Sys2Proof/Laws/KeepsQueues.lean ====
section
/-!
SUPPORT. Every operation of Machine/Queues.lean keeps the queue and the canonical memory.
-/
namespace Sys2Proof.Laws
open Sys2Proof.Machine

theorem keeps_pollNext {s0 : State} (n q c : Nat) (l : List (List Byte)) {y : State × Option (List Byte)} (h : Keeps s0 y.1) :
    Keeps s0 (pollNext n q c l y).1 := by
  unfold pollNext
  split <;> exact h


theorem keeps_State_setConsumed {s0 s : State} (n : Nat) (q : Nat) (v : Nat) (h : Keeps s0 s) :
    Keeps s0 (State.setConsumed s n q v) := by
  unfold State.setConsumed
  with_reducible repeat' (first | assumption | intro _ | apply keeps_State_setBlob)

theorem keeps_State_pollSlot {s0 s : State} (n : Nat) (q : Nat) (r : Nat) (h : Keeps s0 s) :
    Keeps s0 (State.pollSlot s n q r).1 := by
  unfold State.pollSlot
  with_reducible repeat' (first | assumption | intro _ | apply keeps_State_raise | apply keeps_State_bump | apply keeps_State_setConsumed | apply keeps_State_bumpBy | apply keeps_ite | apply keeps_ite_fst)

theorem keeps_State_pollOnce {s0 : State} (n q : Nat) {a : State × List (List Byte) × Bool} (h : Keeps s0 a.1) :
    Keeps s0 (State.pollOnce n q a).1 := by
  unfold State.pollOnce
  split
  · exact h
  · split
    · exact h
    · next r e =>
      split
      · exact h
      · exact keeps_pollNext _ _ _ _ (keeps_State_pollSlot n q r h)


theorem keeps_State_poll {s0 s : State} (n : Nat) (q : Nat) (k : Nat) (h : Keeps s0 s) :
    Keeps s0 (State.poll s n q k).1 := by
  unfold State.poll
  dsimp only
  exact keeps_foldl_fst _ _ (fun p x hp => keeps_State_pollOnce _ _ hp) h


theorem keeps_State_queueWrite {s0 s : State} (n : Nat) (q : Nat) (stamp : Nat) (msg : List Sys2Proof.Byte) (h : Keeps s0 s) :
    Keeps s0 (State.queueWrite s n q stamp msg) := by
  unfold State.queueWrite
  with_reducible repeat' (first | assumption | intro _ | apply keeps_State_writeRegion | apply keeps_ite | apply keeps_ite_fst | apply keeps_forAll | apply keeps_foldl | apply keeps_foldl_fst | (apply keeps_of_fst; assumption) | (apply keeps_of_snd; assumption) | dsimp only | split)

end Sys2Proof.Laws
end

