-- ==== Sys2Proof/Laws/KeepsNic.lean ====
section
/-!
SUPPORT. Every operation of Machine/Nic.lean keeps the queue and the canonical memory.
-/
namespace Sys2Proof.Laws
open Sys2Proof.Machine

theorem keeps_State_nicRead {s0 s : State} (n : Nat) (ta : Nat) (len : Nat) (h : Keeps s0 s) :
    Keeps s0 (State.nicRead s n ta len).1 := by
  unfold State.nicRead
  with_reducible repeat' (first | assumption | intro _ | apply keeps_State_readTier | apply keeps_forAll | apply keeps_State_poisonPage | apply keeps_ite | apply keeps_ite_fst | apply keeps_foldl | apply keeps_foldl_fst | (apply keeps_of_fst; assumption) | (apply keeps_of_snd; assumption) | dsimp only | split)

theorem keeps_State_reduceTier {s0 s : State} (n : Nat) (ta : Nat) (f32 : Bool) (l : List Sys2Proof.Byte) (h : Keeps s0 s) :
    Keeps s0 (State.reduceTier s n ta f32 l) := by
  unfold State.reduceTier
  with_reducible repeat' (first | assumption | intro _ | apply keeps_State_writeTier)

end Sys2Proof.Laws
end

