-- ==== Sys2Proof/Laws/KeepsTurnState.lean ====
section
/-!
SUPPORT. Every operation of Machine/TurnState.lean keeps the queue and the canonical memory.
-/
namespace Sys2Proof.Laws
open Sys2Proof.Machine

theorem keeps_State_onTurn {s0 s : State} (n : Nat) (f : Turn → Turn) (h : Keeps s0 s) :
    Keeps s0 (State.onTurn s n f) := by
  unfold State.onTurn
  with_reducible repeat' (first | assumption | intro _ | apply keeps_ite | apply keeps_ite_fst | apply keeps_forAll | apply keeps_foldl | apply keeps_foldl_fst | (apply keeps_of_fst; assumption) | (apply keeps_of_snd; assumption) | dsimp only | split | (apply keeps_mk; first | assumption | apply keeps_ite | apply keeps_forAll | apply keeps_foldl))

theorem keeps_State_turnTokenFrom {s0 s : State} (n : Nat) (origin : Nat) (to_ : Nat) (tok : Nat) (id : Nat) (h : Keeps s0 s) :
    Keeps s0 (State.turnTokenFrom s n origin to_ tok id) := by
  unfold State.turnTokenFrom
  with_reducible repeat' (first | assumption | intro _ | apply keeps_State_send | apply keeps_State_onTurn)

theorem keeps_State_turnToken {s0 s : State} (n : Nat) (to_ : Nat) (tok : Nat) (h : Keeps s0 s) :
    Keeps s0 (State.turnToken s n to_ tok) := by
  unfold State.turnToken
  with_reducible repeat' (first | assumption | intro _ | apply keeps_State_turnTokenFrom)

theorem keeps_State_turnRemember {s0 s : State} (n : Nat) (id : Nat) (sw : Bool) (h : Keeps s0 s) :
    Keeps s0 (State.turnRemember s n id sw) := by
  unfold State.turnRemember
  with_reducible repeat' (first | assumption | intro _ | apply keeps_State_onTurn)

theorem keeps_State_turnDecide {s0 s : State} (n : Nat) (sw : Bool) (h : Keeps s0 s) :
    Keeps s0 (State.turnDecide s n sw) := by
  unfold State.turnDecide
  with_reducible repeat' (first | assumption | intro _ | apply keeps_forAll | apply keeps_State_turnToken | apply keeps_State_turnRemember | apply keeps_State_onTurn | apply keeps_ite)

theorem keeps_State_turnFail {s0 s : State} (n : Nat) (code : Nat) (h : Keeps s0 s) :
    Keeps s0 (State.turnFail s n code) := by
  unfold State.turnFail
  with_reducible repeat' (first | assumption | intro _ | apply keeps_State_onTurn | apply keeps_State_onWset | apply keeps_State_raise | apply keeps_State_bump | apply keeps_State_turnDecide | apply keeps_State_turnToken | apply keeps_ite)

theorem keeps_State_turnWriteOut {s0 s : State} (n : Nat) (e : Nat) (h : Keeps s0 s) :
    Keeps s0 (State.turnWriteOut s n e) := by
  unfold State.turnWriteOut
  with_reducible repeat' (first | assumption | intro _ | apply keeps_State_nicRead | apply keeps_State_onTurn | apply keeps_State_send | apply keeps_ite | apply keeps_ite_fst | apply keeps_forAll | apply keeps_foldl | apply keeps_foldl_fst | (apply keeps_of_fst; assumption) | (apply keeps_of_snd; assumption) | dsimp only | split)

theorem keeps_State_turnRaise {s0 s : State} (n : Nat) (c : Nat) (d : Nat) (h : Keeps s0 s) :
    Keeps s0 (State.turnRaise s n c d) := by
  unfold State.turnRaise
  with_reducible repeat' (first | assumption | intro _ | apply keeps_State_onTurn | apply keeps_forAll | apply keeps_State_turnWriteOut | apply keeps_ite)

theorem keeps_State_turnUnload {s0 s : State} (n : Nat) (j : Nat) (h : Keeps s0 s) :
    Keeps s0 (State.turnUnload s n j) := by
  unfold State.turnUnload
  with_reducible repeat' (first | assumption | intro _ | apply keeps_State_turnFail | apply keeps_ite)

end Sys2Proof.Laws
end

