-- ==== Sys2Proof/Laws/KeepsRequests.lean ====
section
/-!
SUPPORT. Every operation of Machine/Requests.lean keeps the queue and the canonical memory.
-/
namespace Sys2Proof.Laws
open Sys2Proof.Machine

theorem keeps_State_audit {s0 s : State} (n : Nat) (i : Nat) (ty : Nat) (body : List Sys2Proof.Byte) (h : Keeps s0 s) :
    Keeps s0 (State.audit s n i ty body).1 := by
  unfold State.audit
  with_reducible repeat' (first | assumption | intro _ | apply keeps_State_writeRegion | apply keeps_State_setNum | apply keeps_State_onRx | apply keeps_ite | apply keeps_ite_fst | apply keeps_forAll | apply keeps_foldl | apply keeps_foldl_fst | (apply keeps_of_fst; assumption) | (apply keeps_of_snd; assumption) | dsimp only | split)

theorem keeps_State_discardAttempt {s0 s : State} (n : Nat) (h : Keeps s0 s) :
    Keeps s0 (State.discardAttempt s n) := by
  unfold State.discardAttempt
  with_reducible repeat' (first | assumption | intro _ | apply keeps_State_kvDiscard | apply keeps_forAll | apply keeps_State_onHearth | apply keeps_State_copyRange | apply keeps_State_onPart | apply keeps_State_onRx)

theorem keeps_State_dropSpill {s0 s : State} (n : Nat) (j : Nat) (h : Keeps s0 s) :
    Keeps s0 (State.dropSpill s n j) := by
  unfold State.dropSpill
  with_reducible repeat' (first | assumption | intro _ | apply keeps_forAll | apply keeps_ite | apply keeps_ite_fst | apply keeps_foldl | apply keeps_foldl_fst | (apply keeps_of_fst; assumption) | (apply keeps_of_snd; assumption) | dsimp only | split | (apply keeps_mk; first | assumption | apply keeps_forAll | apply keeps_ite | apply keeps_foldl))

theorem keeps_State_endDrain {s0 s : State} (n : Nat) (j : Nat) (h : Keeps s0 s) :
    Keeps s0 (State.endDrain s n j) := by
  unfold State.endDrain
  with_reducible repeat' (first | assumption | intro _ | apply keeps_State_onJob | apply keeps_State_onWset | apply keeps_ite | apply keeps_ite_fst | apply keeps_forAll | apply keeps_foldl | apply keeps_foldl_fst | (apply keeps_of_fst; assumption) | (apply keeps_of_snd; assumption) | dsimp only | split)

theorem keeps_State_setRf {s0 s : State} (i : Nat) (o : Nat) (n : Nat) (v : Nat) (h : Keeps s0 s) :
    Keeps s0 (State.setRf s i o n v) := by
  unfold State.setRf
  with_reducible repeat' (first | assumption | intro _ | apply keeps_ite | apply keeps_ite_fst | apply keeps_forAll | apply keeps_foldl | apply keeps_foldl_fst | (apply keeps_of_fst; assumption) | (apply keeps_of_snd; assumption) | dsimp only | split | (apply keeps_mk; first | assumption | apply keeps_ite | apply keeps_forAll | apply keeps_foldl))

theorem keeps_State_endRequest {s0 s : State} (n : Nat) (i : Nat) (st : Nat) (code : Nat) (h : Keeps s0 s) :
    Keeps s0 (State.endRequest s n i st code) := by
  unfold State.endRequest
  with_reducible repeat' (first | assumption | intro _ | apply keeps_State_setRf | apply keeps_State_onJob | apply keeps_State_onRx | apply keeps_State_releaseList | apply keeps_State_audit | apply keeps_ite)

theorem keeps_State_failJob {s0 s : State} (n : Nat) (j : Nat) (code : Nat) (h : Keeps s0 s) :
    Keeps s0 (State.failJob s n j code) := by
  unfold State.failJob
  with_reducible repeat' (first | assumption | intro _ | apply keeps_forAll | apply keeps_State_endRequest)

theorem keeps_State_emptySlot {s0 s : State} (n : Nat) (j : Nat) (code : Nat) (h : Keeps s0 s) :
    Keeps s0 (State.emptySlot s n j code) := by
  unfold State.emptySlot
  with_reducible repeat' (first | assumption | intro _ | apply keeps_State_turnUnload | apply keeps_State_dropSpill | apply keeps_State_endDrain | apply keeps_State_failJob | apply keeps_State_onJob | apply keeps_State_setBlob | apply keeps_ite | apply keeps_ite_fst | apply keeps_forAll | apply keeps_foldl | apply keeps_foldl_fst | (apply keeps_of_fst; assumption) | (apply keeps_of_snd; assumption) | dsimp only | split | (apply keeps_mk; first | assumption | apply keeps_State_turnUnload | apply keeps_State_dropSpill | apply keeps_State_endDrain | apply keeps_State_failJob | apply keeps_State_onJob | apply keeps_State_setBlob | apply keeps_ite | apply keeps_forAll | apply keeps_foldl))

theorem keeps_State_setKindling {s0 s : State} (st : Nat) (code : Nat) (h : Keeps s0 s) :
    Keeps s0 (State.setKindling s st code) := by
  unfold State.setKindling
  with_reducible repeat' (first | assumption | intro _ | apply keeps_State_setBlob)

theorem keeps_State_noKindling {s0 s : State}  (h : Keeps s0 s) :
    Keeps s0 (State.noKindling s) := by
  unfold State.noKindling
  with_reducible repeat' (first | assumption | intro _ | apply keeps_ite | apply keeps_ite_fst | apply keeps_forAll | apply keeps_foldl | apply keeps_foldl_fst | (apply keeps_of_fst; assumption) | (apply keeps_of_snd; assumption) | dsimp only | split | (apply keeps_mk; first | assumption | apply keeps_ite | apply keeps_forAll | apply keeps_foldl))

theorem keeps_State_endKindling {s0 s : State} (n : Nat) (slots : List Nat) (h : Keeps s0 s) :
    Keeps s0 (State.endKindling s n slots) := by
  unfold State.endKindling
  with_reducible repeat' (first | assumption | intro _ | apply keeps_State_raise | apply keeps_State_setKindling | apply keeps_State_noKindling | apply keeps_ite)

theorem keeps_State_updateGaps {s0 s : State} (n : Nat) (h : Keeps s0 s) :
    Keeps s0 (State.updateGaps s n) := by
  unfold State.updateGaps
  with_reducible repeat' (first | assumption | intro _ | apply keeps_State_setBlob)

theorem keeps_unloadJob {s0 s : State} (n : Nat) (j : Nat) (code : Nat) (h : Keeps s0 s) :
    Keeps s0 (unloadJob s n j code) := by
  unfold unloadJob
  with_reducible repeat' (first | assumption | intro _ | apply keeps_forAll | apply keeps_State_emptySlot | apply keeps_State_onPart | apply keeps_State_setNum | apply keeps_State_endKindling | apply keeps_State_updateGaps | apply keeps_ite)

theorem keeps_State_failKindling {s0 s : State} (code : Nat) (detail : Nat) (load : Nat) (h : Keeps s0 s) :
    Keeps s0 (State.failKindling s code detail load) := by
  unfold State.failKindling
  with_reducible repeat' (first | assumption | intro _ | apply keeps_State_raise | apply keeps_State_setKindling | apply keeps_State_setBlob | apply keeps_State_noKindling | apply keeps_unloadJob | apply keeps_ite | apply keeps_ite_fst | apply keeps_forAll | apply keeps_foldl | apply keeps_foldl_fst | (apply keeps_of_fst; assumption) | (apply keeps_of_snd; assumption) | dsimp only | split | (apply keeps_mk; first | assumption | apply keeps_State_raise | apply keeps_State_setKindling | apply keeps_State_setBlob | apply keeps_State_noKindling | apply keeps_unloadJob | apply keeps_ite | apply keeps_forAll | apply keeps_foldl))

theorem keeps_State_freeEntry {s0 s : State} (i : Nat) (h : Keeps s0 s) :
    Keeps s0 (State.freeEntry s i) := by
  unfold State.freeEntry
  with_reducible repeat' (first | assumption | intro _ | apply keeps_ite | apply keeps_ite_fst | apply keeps_forAll | apply keeps_foldl | apply keeps_foldl_fst | (apply keeps_of_fst; assumption) | (apply keeps_of_snd; assumption) | dsimp only | split | (apply keeps_mk; first | assumption | apply keeps_ite | apply keeps_forAll | apply keeps_foldl))

theorem keeps_State_kindledStep {s0 s : State} (n : Nat) (j : Nat) (h : Keeps s0 s) :
    Keeps s0 (State.kindledStep s n j) := by
  unfold State.kindledStep
  with_reducible repeat' (first | assumption | intro _ | apply keeps_State_raise | apply keeps_State_setBlob | apply keeps_ite)

theorem keeps_State_setRqFlag {s0 s : State} (i : Nat) (b : Nat) (h : Keeps s0 s) :
    Keeps s0 (State.setRqFlag s i b) := by
  unfold State.setRqFlag
  with_reducible repeat' (first | assumption | intro _ | apply keeps_State_setRf)

end Sys2Proof.Laws
end

