-- ==== Sys2Proof/Laws/KeepsGenStep.lean ====
section
/-!
SUPPORT. Every operation of Machine/GenStep.lean keeps the queue and the canonical memory.
-/
namespace Sys2Proof.Laws
open Sys2Proof.Machine

theorem keeps_State_onRing {s0 s : State} (n : Nat) (r : Nat) (f : Ring → Ring) (h : Keeps s0 s) :
    Keeps s0 (State.onRing s n r f) := by
  unfold State.onRing
  with_reducible repeat' (first | assumption | intro _ | apply keeps_ite | apply keeps_ite_fst | apply keeps_forAll | apply keeps_foldl | apply keeps_foldl_fst | (apply keeps_of_fst; assumption) | (apply keeps_of_snd; assumption) | dsimp only | split | (apply keeps_mk; first | assumption | apply keeps_ite | apply keeps_forAll | apply keeps_foldl))

theorem keeps_State_applyRings {s0 s : State} (n : Nat) (h : Keeps s0 s) :
    Keeps s0 (State.applyRings s n) := by
  unfold State.applyRings
  with_reducible repeat' (first | assumption | intro _ | apply keeps_forAll | apply keeps_State_onRing | apply keeps_ite | apply keeps_ite_fst | apply keeps_foldl | apply keeps_foldl_fst | (apply keeps_of_fst; assumption) | (apply keeps_of_snd; assumption) | dsimp only | split)

theorem keeps_State_countTokens {s0 s : State} (n : Nat) (i : Nat) (toks : List Nat) (h : Keeps s0 s) :
    Keeps s0 (State.countTokens s n i toks) := by
  unfold State.countTokens
  with_reducible repeat' (first | assumption | intro _ | apply keeps_State_setRf | apply keeps_State_writeRegion | apply keeps_State_raise | apply keeps_State_onRx | apply keeps_State_setRqFlag | apply keeps_ite | apply keeps_ite_fst | apply keeps_forAll | apply keeps_foldl | apply keeps_foldl_fst | (apply keeps_of_fst; assumption) | (apply keeps_of_snd; assumption) | dsimp only | split)

theorem keeps_State_commitSlot {s0 s : State} (n : Nat) (i : Nat) (ad : List Sys2Proof.Byte) (l0 : Nat) (h : Keeps s0 s) :
    Keeps s0 (State.commitSlot s n i ad l0).1 := by
  unfold State.commitSlot
  with_reducible repeat' (first | assumption | intro _ | apply keeps_State_onRx | apply keeps_State_audit | apply keeps_State_endRequest | apply keeps_State_setRf | apply keeps_State_countTokens | apply keeps_State_setRqFlag | apply keeps_ite | apply keeps_ite_fst)

theorem keeps_State_drainCheck {s0 s : State} (n : Nat) (j : Nat) (h : Keeps s0 s) :
    Keeps s0 (State.drainCheck s n j) := by
  unfold State.drainCheck
  with_reducible repeat' (first | assumption | intro _ | apply keeps_State_raise | apply keeps_State_onJob | apply keeps_unloadJob | apply keeps_ite)

theorem keeps_State_freeReported {s0 s : State} (n : Nat) (h : Keeps s0 s) :
    Keeps s0 (State.freeReported s n) := by
  unfold State.freeReported
  with_reducible repeat' (first | assumption | intro _ | apply keeps_forAll | apply keeps_State_freeEntry | apply keeps_State_drainCheck)

theorem keeps_State_publish {s0 s : State} (n : Nat) (j : Nat) (stepno : Nat) (epoch : Nat) (kind : Nat) (attempts : Nat) (tstart : Nat) (tend : Nat) (fl : Nat) (subs : List (Nat × Sub)) (refs : List (Nat × Nat × Nat × Nat)) (h : Keeps s0 s) :
    Keeps s0 (State.publish s n j stepno epoch kind attempts tstart tend fl subs refs) := by
  unfold State.publish
  with_reducible repeat' (first | assumption | intro _ | apply keeps_forAll | apply keeps_State_onRing | apply keeps_ite)

theorem keeps_State_takeRefused {s0 s : State} (n : Nat) (j : Nat) (h : Keeps s0 s) :
    Keeps s0 (State.takeRefused s n j).1 := by
  unfold State.takeRefused
  with_reducible repeat' (first | assumption | intro _ | apply keeps_State_onPart)

theorem keeps_State_takeTerminals {s0 s : State} (n : Nat) (j : Nat) (except : List Nat) (h : Keeps s0 s) :
    Keeps s0 (State.takeTerminals s n j except).1 := by
  unfold State.takeTerminals
  with_reducible repeat' (first | assumption | intro _ | apply keeps_State_onJob | apply keeps_forAll | apply keeps_State_onRx)

end Sys2Proof.Laws
end

