-- ==== Sys2Proof/Laws/KeepsAdmission.lean ====
section
/-!
SUPPORT. Every operation of Machine/Admission.lean keeps the queue and the canonical memory.
-/
namespace Sys2Proof.Laws
open Sys2Proof.Machine

theorem keeps_State_evictHandles {s0 s : State} (n : Nat) (l : List (Nat × Nat)) (h : Keeps s0 s) :
    Keeps s0 (State.evictHandles s n l) := by
  unfold State.evictHandles
  with_reducible repeat' (first | assumption | intro _ | apply keeps_forAll | apply keeps_State_raise | apply keeps_State_bump | apply keeps_State_dropHandle | apply keeps_ite)

theorem keeps_State_withhold {s0 s : State} (n : Nat) (i : Nat) (h : Keeps s0 s) :
    Keeps s0 (State.withhold s n i) := by
  unfold State.withhold
  with_reducible repeat' (first | assumption | intro _ | apply keeps_State_onPart | apply keeps_State_onRx | apply keeps_State_setRf | apply keeps_State_raise | apply keeps_State_bump | apply keeps_ite)

theorem keeps_State_withholdAll {s0 s : State} (n : Nat) (y2 : List (Nat × Nat)) (y3 : List (Nat × Nat)) (h : Keeps s0 s) :
    Keeps s0 (State.withholdAll s n y2 y3).1 := by
  induction y3 generalizing s n y2 with
  | nil => rw [State.withholdAll]; with_reducible repeat' assumption
  | cons x r ih =>
    rw [State.withholdAll]
    with_reducible repeat' (first | assumption | intro _ | apply ih | apply keeps_State_withhold | apply keeps_ite | apply keeps_ite_fst)


theorem keeps_State_admitPaused {s0 s : State} (n : Nat) (ad : List Sys2Proof.Byte) (y3 : List Nat) (y4 : List (Nat × Nat)) (h : Keeps s0 s) :
    Keeps s0 (State.admitPaused s n ad y3 y4).1 := by
  induction y3 generalizing s n ad y4 with
  | nil => rw [State.admitPaused]; with_reducible repeat' assumption
  | cons x r ih =>
    rw [State.admitPaused]
    with_reducible repeat' (first | assumption | intro _ | apply ih | apply keeps_State_setRf | apply keeps_ite | apply keeps_ite_fst)


theorem keeps_State_admitQueued {s0 s : State} (n : Nat) (j : Nat) (e : Nat) (ad : List Sys2Proof.Byte) (y5 : List Nat) (y6 : List (Nat × Nat)) (h : Keeps s0 s) :
    Keeps s0 (State.admitQueued s n j e ad y5 y6).1 := by
  induction y5 generalizing s n j e ad y6 with
  | nil => rw [State.admitQueued]; with_reducible repeat' assumption
  | cons x r ih =>
    rw [State.admitQueued]
    with_reducible repeat' (first | assumption | intro _ | apply ih | apply keeps_State_endRequest | apply keeps_State_setRf | apply keeps_State_onRx | apply keeps_ite | apply keeps_ite_fst)


theorem keeps_State_writeBatch {s0 s : State} (n : Nat) (ad : List Sys2Proof.Byte) (b : List (Nat × Nat)) (h : Keeps s0 s) :
    Keeps s0 (State.writeBatch s n ad b) := by
  unfold State.writeBatch
  with_reducible repeat' (first | assumption | intro _ | apply keeps_forAll | apply keeps_State_store)

theorem keeps_State_admit {s0 s : State} (n : Nat) (j : Nat) (e : Nat) (ad : List Sys2Proof.Byte) (h : Keeps s0 s) :
    Keeps s0 (State.admitRequests s n j e ad) := by
  unfold State.admitRequests
  with_reducible repeat' (first | assumption | intro _ | apply keeps_forAll | apply keeps_State_onRx | apply keeps_State_raise | apply keeps_State_bump | apply keeps_State_evictHandles | apply keeps_State_withholdAll | apply keeps_State_admitPaused | apply keeps_State_admitQueued | apply keeps_State_setRf | apply keeps_State_onPart | apply keeps_State_writeBatch | apply keeps_ite | apply keeps_ite_fst)

theorem keeps_State_applyDrain {s0 s : State} (n : Nat) (j : Nat) (h : Keeps s0 s) :
    Keeps s0 (State.applyDrain s n j) := by
  unfold State.applyDrain
  with_reducible repeat' (first | assumption | intro _ | apply keeps_State_onJob | apply keeps_forAll | apply keeps_State_endRequest | apply keeps_State_setRf | apply keeps_State_drainCheck | apply keeps_ite)

theorem keeps_State_applyDrains {s0 s : State} (n : Nat) (h : Keeps s0 s) :
    Keeps s0 (State.applyDrains s n) := by
  unfold State.applyDrains
  with_reducible repeat' (first | assumption | intro _ | apply keeps_forAll | apply keeps_State_applyDrain)

theorem keeps_State_drainReleases {s0 sa : State} (y0 : Nat) (y2 : Nat) (h : Keeps s0 sa) :
    Keeps s0 (State.drainReleases y0 sa y2) := by
  induction y0 generalizing sa y2 with
  | zero => rw [State.drainReleases]; with_reducible repeat' assumption
  | succ f ih =>
    rw [State.drainReleases]
    with_reducible repeat' (first | assumption | intro _ | apply ih | apply keeps_State_releaseOne | apply keeps_ite)


theorem keeps_State_takeEntry {s0 s : State} (n : Nat) (j : Nat) (i : Nat) (m : List Sys2Proof.Byte) (h : Keeps s0 s) :
    Keeps s0 (State.takeEntry s n j i m) := by
  unfold State.takeEntry
  with_reducible repeat' (first | assumption | intro _ | apply keeps_ite | apply keeps_ite_fst | apply keeps_forAll | apply keeps_foldl | apply keeps_foldl_fst | (apply keeps_of_fst; assumption) | (apply keeps_of_snd; assumption) | dsimp only | split | (apply keeps_mk; first | assumption | apply keeps_ite | apply keeps_forAll | apply keeps_foldl))

theorem keeps_State_refuse {s0 s : State} (n : Nat) (j : Nat) (tag : Nat) (code : Nat) (ring : Nat) (h : Keeps s0 s) :
    Keeps s0 (State.refuse s n j tag code ring) := by
  unfold State.refuse
  with_reducible repeat' (first | assumption | intro _ | apply keeps_State_raise | apply keeps_State_bump | apply keeps_State_onJob | apply keeps_State_onPart)

theorem keeps_State_message {s0 s : State} (n : Nat) (j : Nat) (m : List Sys2Proof.Byte) (h : Keeps s0 s) :
    Keeps s0 (State.message s n j m) := by
  unfold State.message
  with_reducible repeat' (first | assumption | intro _ | apply keeps_State_endRequest | apply keeps_State_bump | apply keeps_State_takeEntry | apply keeps_State_refuse | apply keeps_ite | apply keeps_ite_fst | apply keeps_forAll | apply keeps_foldl | apply keeps_foldl_fst | (apply keeps_of_fst; assumption) | (apply keeps_of_snd; assumption) | dsimp only | split)

theorem keeps_State_setLr {s0 s : State} (n : Nat) (j : Nat) (o : Nat) (w : Nat) (v : Nat) (h : Keeps s0 s) :
    Keeps s0 (State.setLr s n j o w v) := by
  unfold State.setLr
  with_reducible repeat' (first | assumption | intro _ | apply keeps_State_setBlob)

theorem keeps_State_takeMessages {s0 s : State} (n : Nat) (j : Nat) (ad : List Sys2Proof.Byte) (h : Keeps s0 s) :
    Keeps s0 (State.takeMessages s n j ad) := by
  unfold State.takeMessages
  with_reducible repeat' (first | assumption | intro _ | apply keeps_State_poll | apply keeps_forAll | apply keeps_State_message | apply keeps_State_onPart)

theorem keeps_State_without {s0 s : State} (n : Nat) (slots : List Nat) (h : Keeps s0 s) :
    Keeps s0 (State.without s n slots) := by
  unfold State.without
  with_reducible repeat' (first | assumption | intro _ | apply keeps_forAll | apply keeps_State_dropHandle | apply keeps_State_onPart | apply keeps_State_drainReleases)

theorem keeps_State_writeLearning {s0 s : State} (n : Nat) (j : Nat) (kind : Nat) (h : Keeps s0 s) :
    Keeps s0 (State.writeLearning s n j kind) := by
  unfold State.writeLearning
  with_reducible repeat' (first | assumption | intro _ | apply keeps_State_onJob | apply keeps_forAll | apply keeps_State_store | apply keeps_ite | apply keeps_ite_fst | apply keeps_foldl | apply keeps_foldl_fst | (apply keeps_of_fst; assumption) | (apply keeps_of_snd; assumption) | dsimp only | split)

end Sys2Proof.Laws
end

