-- ==== Sys2Proof/Laws/KeepsTriggers.lean ====
section
/-!
SUPPORT. Every operation of Machine/Triggers.lean keeps the queue and the canonical memory.
-/
namespace Sys2Proof.Laws
open Sys2Proof.Machine

theorem keeps_State_aoRead {s0 s : State} (n : Nat) (o : Nat) (b : List Sys2Proof.Byte) (h : Keeps s0 s) :
    Keeps s0 (State.aoRead s n o b).1 := by
  unfold State.aoRead
  with_reducible repeat' (first | assumption | intro _ | apply keeps_State_nicRead | apply keeps_ite | apply keeps_ite_fst | apply keeps_forAll | apply keeps_foldl | apply keeps_foldl_fst | (apply keeps_of_fst; assumption) | (apply keeps_of_snd; assumption) | dsimp only | split)

theorem keeps_State_onTrig {s0 s : State} (n : Nat) (o : Nat) (f : Trig → Trig) (h : Keeps s0 s) :
    Keeps s0 (State.onTrig s n o f) := by
  unfold State.onTrig
  with_reducible repeat' (first | assumption | intro _ | apply keeps_ite | apply keeps_ite_fst | apply keeps_forAll | apply keeps_foldl | apply keeps_foldl_fst | (apply keeps_of_fst; assumption) | (apply keeps_of_snd; assumption) | dsimp only | split | (apply keeps_mk; first | assumption | apply keeps_ite | apply keeps_forAll | apply keeps_foldl))

theorem keeps_State_armOps {s0 s : State} (n : Nat) (v : List Sys2Proof.Byte) (h : Keeps s0 s) :
    Keeps s0 (State.armOps s n v) := by
  unfold State.armOps
  with_reducible repeat' (first | assumption | intro _ | apply keeps_State_setNum | apply keeps_State_onTrig | apply keeps_ite)

theorem keeps_State_onGroup {s0 s : State} (n : Nat) (g : Nat) (f : Group → Group) (h : Keeps s0 s) :
    Keeps s0 (State.onGroup s n g f) := by
  unfold State.onGroup
  with_reducible repeat' (first | assumption | intro _ | apply keeps_ite | apply keeps_ite_fst | apply keeps_forAll | apply keeps_foldl | apply keeps_foldl_fst | (apply keeps_of_fst; assumption) | (apply keeps_of_snd; assumption) | dsimp only | split | (apply keeps_mk; first | assumption | apply keeps_ite | apply keeps_forAll | apply keeps_foldl))

theorem keeps_State_groupEnd {s0 s : State} (n : Nat) (g : Nat) (status : Nat) (h : Keeps s0 s) :
    Keeps s0 (State.groupEnd s n g status) := by
  unfold State.groupEnd
  with_reducible repeat' (first | assumption | intro _ | apply keeps_State_writeRegion | apply keeps_State_onTrig | apply keeps_State_onGroup | apply keeps_State_raise | apply keeps_ite | apply keeps_ite_fst | apply keeps_forAll | apply keeps_foldl | apply keeps_foldl_fst | (apply keeps_of_fst; assumption) | (apply keeps_of_snd; assumption) | dsimp only | split)

theorem keeps_State_opFail {s0 s : State} (n : Nat) (o : Nat) (i : Nat) (status : Nat) (h : Keeps s0 s) :
    Keeps s0 (State.opFail s n o i status) := by
  unfold State.opFail
  with_reducible repeat' (first | assumption | intro _ | apply keeps_State_raise | apply keeps_State_bump | apply keeps_State_onTrig | apply keeps_State_groupEnd | apply keeps_ite)

theorem keeps_State_fireOp {s0 s : State} (raise : State → Nat → Nat → State) (n : Nat) (o : Nat) (i : Nat) (kraise : ∀ z0 z1 z2, Keeps s0 z0 → Keeps s0 (raise z0 z1 z2)) (h : Keeps s0 s) :
    Keeps s0 (State.fireOp raise s n o i) := by
  unfold State.fireOp
  with_reducible repeat' (first | assumption | intro _ | apply keeps_State_onTrig | apply keeps_State_opFail | apply keeps_State_aoRead | apply keeps_State_send | apply kraise | apply keeps_ite | apply keeps_ite_fst | apply keeps_forAll | apply keeps_foldl | apply keeps_foldl_fst | (apply keeps_of_fst; assumption) | (apply keeps_of_snd; assumption) | dsimp only | split)

theorem keeps_State_groupCheck {s0 s : State} (n : Nat) (g : Nat) (h : Keeps s0 s) :
    Keeps s0 (State.groupCheck s n g) := by
  unfold State.groupCheck
  with_reducible repeat' (first | assumption | intro _ | apply keeps_State_groupEnd | apply keeps_State_onGroup | apply keeps_ite | apply keeps_ite_fst | apply keeps_forAll | apply keeps_foldl | apply keeps_foldl_fst | (apply keeps_of_fst; assumption) | (apply keeps_of_snd; assumption) | dsimp only | split)

theorem keeps_State_raiseCtr {s0 sa : State} (y0 : Nat) (y2 : Nat) (y3 : Nat) (y4 : Nat) (y5 : Nat) (h : Keeps s0 sa) :
    Keeps s0 (State.raiseCtr y0 sa y2 y3 y4 y5) := by
  induction y0 generalizing sa y2 y3 y4 y5 with
  | zero => rw [State.raiseCtr]; with_reducible repeat' assumption
  | succ f ih =>
    rw [State.raiseCtr]
    with_reducible repeat' (first | assumption | intro _ | apply ih | apply keeps_State_onTrig | apply keeps_forAll | apply keeps_State_fireOp | apply keeps_ite)


theorem keeps_State_raiseCounter {s0 s : State} (n : Nat) (o : Nat) (c : Nat) (d : Nat) (h : Keeps s0 s) :
    Keeps s0 (State.raiseCounter s n o c d) := by
  unfold State.raiseCounter
  with_reducible repeat' (first | assumption | intro _ | apply keeps_State_turnRaise | apply keeps_State_raiseCtr | apply keeps_State_groupCheck | apply keeps_ite)

theorem keeps_State_opDone {s0 s : State} (n : Nat) (o : Nat) (i : Nat) (h : Keeps s0 s) :
    Keeps s0 (State.opDone s n o i) := by
  unfold State.opDone
  with_reducible repeat' (first | assumption | intro _ | apply keeps_State_onTrig | apply keeps_State_raiseCounter | apply keeps_State_groupCheck | apply keeps_ite)

theorem keeps_State_rearm {s0 s : State} (n : Nat) (j : Nat) (h : Keeps s0 s) :
    Keeps s0 (State.rearm s n j) := by
  unfold State.rearm
  with_reducible repeat' (first | assumption | intro _ | apply keeps_State_onTrig)

theorem keeps_State_trigTake {s0 s : State} (n : Nat) (j : Nat) (b : List Sys2Proof.Byte) (h : Keeps s0 s) :
    Keeps s0 (State.trigTake s n j b) := by
  unfold State.trigTake
  with_reducible repeat' (first | assumption | intro _ | apply keeps_State_onTrig | apply keeps_State_raise | apply keeps_State_bump | apply keeps_State_raiseCounter | apply keeps_ite)

theorem keeps_execOpTimeout {s0 s : State} (n : Fin 12) (owner : Nat) (op : Nat) (y3 : Nat) (h : Keeps s0 s) :
    KeepsOut s0 (execOpTimeout n owner op y3 s) := by
  unfold execOpTimeout
  with_reducible repeat' (first | assumption | intro _ | apply keepsOut_next | apply keeps_State_at | apply keeps_State_opFail | apply keeps_ite | apply keeps_ite_fst | apply keeps_forAll | apply keeps_foldl | apply keeps_foldl_fst | (apply keeps_of_fst; assumption) | (apply keeps_of_snd; assumption) | dsimp only | split | (apply keeps_mk; first | assumption | apply keeps_State_at | apply keeps_State_opFail | apply keeps_ite | apply keeps_forAll | apply keeps_foldl))

theorem keeps_execTriggerRingRecord {s0 s : State} (n : Fin 12) (job : Fin 8) (y2 : Nat) (h : Keeps s0 s) :
    KeepsOut s0 (execTriggerRingRecord n job y2 s) := by
  unfold execTriggerRingRecord
  with_reducible repeat' (first | assumption | intro _ | apply keepsOut_next | apply keeps_State_at | apply keeps_State_trigTake | apply keeps_ite | apply keeps_ite_fst | apply keeps_forAll | apply keeps_foldl | apply keeps_foldl_fst | (apply keeps_of_fst; assumption) | (apply keeps_of_snd; assumption) | dsimp only | split)

end Sys2Proof.Laws
end

