-- ==== Sys2Proof/Laws/KeepsTurnLogic.lean ====
section
/-!
SUPPORT. Every operation of Machine/TurnLogic.lean keeps the queue and the canonical memory.
-/
namespace Sys2Proof.Laws
open Sys2Proof.Machine

theorem keeps_State_copyShardToB {s0 s : State} (n : Nat) (w : Nat) (i : Nat) (h : Keeps s0 s) :
    Keeps s0 (State.copyShardToB s n w i) := by
  unfold State.copyShardToB
  with_reducible repeat' (first | assumption | intro _ | apply keeps_State_writeRegion | apply keeps_ite | apply keeps_ite_fst | apply keeps_forAll | apply keeps_foldl | apply keeps_foldl_fst | (apply keeps_of_fst; assumption) | (apply keeps_of_snd; assumption) | dsimp only | split | (apply keeps_mk; first | assumption | apply keeps_State_writeRegion | apply keeps_ite | apply keeps_forAll | apply keeps_foldl))

theorem keeps_State_copyShardToS {s0 s : State} (n : Nat) (w : Nat) (i : Nat) (h : Keeps s0 s) :
    Keeps s0 (State.copyShardToS s n w i) := by
  unfold State.copyShardToS
  with_reducible repeat' (first | assumption | intro _ | apply keeps_State_writeS | apply keeps_ite | apply keeps_ite_fst | apply keeps_forAll | apply keeps_foldl | apply keeps_foldl_fst | (apply keeps_of_fst; assumption) | (apply keeps_of_snd; assumption) | dsimp only | split | (apply keeps_mk; first | assumption | apply keeps_State_writeS | apply keeps_ite | apply keeps_forAll | apply keeps_foldl))

theorem keeps_State_setReady {s0 s : State} (n : Nat) (w : Nat) (h : Keeps s0 s) :
    Keeps s0 (State.setReady s n w) := by
  unfold State.setReady
  with_reducible repeat' (first | assumption | intro _ | apply keeps_State_raise | apply keeps_State_onWset | apply keeps_ite)

theorem keeps_State_shardResident {s0 s : State} (n : Nat) (w : Nat) (i : Nat) (h : Keeps s0 s) :
    Keeps s0 (State.shardResident s n w i) := by
  unfold State.shardResident
  with_reducible repeat' (first | assumption | intro _ | apply keeps_State_onWset)

theorem keeps_State_turnAbortIn {s0 s : State} (n : Nat) (h : Keeps s0 s) :
    Keeps s0 (State.turnAbortIn s n) := by
  unfold State.turnAbortIn
  with_reducible repeat' (first | assumption | intro _ | apply keeps_State_turnFail | apply keeps_State_turnRemember)

theorem keeps_State_turnFinals {s0 s : State} (n : Nat) (h : Keeps s0 s) :
    Keeps s0 (State.turnFinals s n) := by
  unfold State.turnFinals
  with_reducible repeat' (first | assumption | intro _ | apply keeps_forAll | apply keeps_State_turnToken | apply keeps_State_onTurn | apply keeps_ite)

theorem keeps_State_turnAcked {s0 s : State} (n : Nat) (e : Nat) (status : Nat) (h : Keeps s0 s) :
    Keeps s0 (State.turnAcked s n e status) := by
  unfold State.turnAcked
  with_reducible repeat' (first | assumption | intro _ | apply keeps_State_turnFinals | apply keeps_State_onTurn | apply keeps_ite)

theorem keeps_State_turnAttempt {s0 s : State} (n : Nat) (j : Nat) (tstep : Nat) (h : Keeps s0 s) :
    Keeps s0 (State.turnAttempt s n j tstep) := by
  unfold State.turnAttempt
  with_reducible repeat' (first | assumption | intro _ | apply keeps_State_onTurn | apply keeps_ite)

theorem keeps_State_turnCommitted {s0 s : State} (n : Nat) (j : Nat) (tstep : Nat) (h : Keeps s0 s) :
    Keeps s0 (State.turnCommitted s n j tstep) := by
  unfold State.turnCommitted
  with_reducible repeat' (first | assumption | intro _ | apply keeps_State_turnFinals | apply keeps_State_onTurn | apply keeps_ite)

theorem keeps_State_turnDone {s0 s : State} (n : Nat) (j : Nat) (w : Nat) (e : Nat) (h : Keeps s0 s) :
    Keeps s0 (State.turnDone s n j w e) := by
  unfold State.turnDone
  with_reducible repeat' (first | assumption | intro _ | apply keeps_State_raise | apply keeps_State_setBlob | apply keeps_State_onTurn | apply keeps_ite)

theorem keeps_State_turnPark {s0 s : State} (n : Nat) (h : Keeps s0 s) :
    Keeps s0 (State.turnPark s n) := by
  unfold State.turnPark
  with_reducible repeat' (first | assumption | intro _ | apply keeps_State_turnToken | apply keeps_State_onTurn | apply keeps_ite)

theorem keeps_State_turnSettle {s0 s : State} (n : Nat) (h : Keeps s0 s) :
    Keeps s0 (State.turnSettle s n) := by
  unfold State.turnSettle
  with_reducible repeat' (first | assumption | intro _ | apply keeps_State_turnFail | apply keeps_forAll | apply keeps_State_shardResident | apply keeps_State_copyShardToS | apply keeps_State_setReady | apply keeps_State_onWset | apply keeps_State_turnPark | apply keeps_State_onTurn | apply keeps_ite)

theorem keeps_State_turnLand {s0 s : State} (n : Nat) (i : Nat) (d : List Sys2Proof.Byte) (h : Keeps s0 s) :
    Keeps s0 (State.turnLand s n i d) := by
  unfold State.turnLand
  with_reducible repeat' (first | assumption | intro _ | apply keeps_State_writeRegion | apply keeps_State_onWset | apply keeps_State_onTurn | apply keeps_State_turnFail | apply keeps_State_turnSettle | apply keeps_ite | apply keeps_ite_fst | apply keeps_forAll | apply keeps_foldl | apply keeps_foldl_fst | (apply keeps_of_fst; assumption) | (apply keeps_of_snd; assumption) | dsimp only | split)

theorem keeps_State_turnParkedIn {s0 s : State} (n : Nat) (m : Nat) (h : Keeps s0 s) :
    Keeps s0 (State.turnParkedIn s n m) := by
  unfold State.turnParkedIn
  with_reducible repeat' (first | assumption | intro _ | apply keeps_State_onTurn | apply keeps_State_turnDecide | apply keeps_ite)

theorem keeps_State_turnQueryIn {s0 s : State} (n : Nat) (id : Nat) (origin : Nat) (h : Keeps s0 s) :
    Keeps s0 (State.turnQueryIn s n id origin) := by
  unfold State.turnQueryIn
  with_reducible repeat' (first | assumption | intro _ | apply keeps_State_turnTokenFrom | apply keeps_ite | apply keeps_ite_fst | apply keeps_forAll | apply keeps_foldl | apply keeps_foldl_fst | (apply keeps_of_fst; assumption) | (apply keeps_of_snd; assumption) | dsimp only | split)

theorem keeps_State_turnSliceEnded {s0 s : State} (n : Nat) (j : Nat) (h : Keeps s0 s) :
    Keeps s0 (State.turnSliceEnded s n j) := by
  unfold State.turnSliceEnded
  with_reducible repeat' (first | assumption | intro _ | apply keeps_State_onTurn | apply keeps_State_onJob | apply keeps_State_turnPark | apply keeps_ite)

theorem keeps_State_turnSwitchIn {s0 s : State} (n : Nat) (h : Keeps s0 s) :
    Keeps s0 (State.turnSwitchIn s n) := by
  unfold State.turnSwitchIn
  with_reducible repeat' (first | assumption | intro _ | apply keeps_State_turnRemember | apply keeps_State_onTurn | apply keeps_State_onPart | apply keeps_State_setNum | apply keeps_State_onJob | apply keeps_ite)

theorem keeps_State_turnUnparkIn {s0 s : State} (n : Nat) (h : Keeps s0 s) :
    Keeps s0 (State.turnUnparkIn s n) := by
  unfold State.turnUnparkIn
  with_reducible repeat' (first | assumption | intro _ | apply keeps_State_onJob | apply keeps_State_onTurn | apply keeps_ite)

end Sys2Proof.Laws
end

