-- ==== Sys2Proof/Laws/KeepsAlloc.lean ====
section
/-!
SUPPORT. Every operation of Machine/Alloc.lean keeps the queue and the canonical memory.
-/
namespace Sys2Proof.Laws
open Sys2Proof.Machine

theorem keeps_State_giveFlush {s0 s : State} (n : Nat) (h : Keeps s0 s) :
    Keeps s0 (State.giveFlush s n) := by
  unfold State.giveFlush
  with_reducible repeat' (first | assumption | intro _ | apply keeps_State_setRegion | apply keeps_ite | apply keeps_ite_fst | apply keeps_forAll | apply keeps_foldl | apply keeps_foldl_fst | (apply keeps_of_fst; assumption) | (apply keeps_of_snd; assumption) | dsimp only | split)

end Sys2Proof.Laws
end

