-- ==== Sys2Proof/Laws/KeepsLimits.lean ====
section
/-!
SUPPORT. Every operation of Machine/Limits.lean keeps the queue and the canonical memory.
-/
namespace Sys2Proof.Laws
open Sys2Proof.Machine

theorem keeps_State_unloadAll {s0 s : State} (n : Nat) (code : Nat) (h : Keeps s0 s) :
    Keeps s0 (State.unloadAll s n code) := by
  unfold State.unloadAll
  with_reducible repeat' (first | assumption | intro _ | apply keeps_forAll | apply keeps_unloadJob | apply keeps_ite)

theorem keeps_State_degrade {s0 s : State} (k : Nat) (h : Keeps s0 s) :
    Keeps s0 (State.degrade s k) := by
  unfold State.degrade
  with_reducible repeat' (first | assumption | intro _ | apply keeps_State_raise | apply keeps_State_onRick | apply keeps_State_onPart | apply keeps_State_unloadAll | apply keeps_ite | apply keeps_ite_fst | apply keeps_forAll | apply keeps_foldl | apply keeps_foldl_fst | (apply keeps_of_fst; assumption) | (apply keeps_of_snd; assumption) | dsimp only | split)

theorem keeps_State_limitEvent {s0 s : State} (order : Nat) (k : Nat) (index : Nat) (count : Nat) (h : Keeps s0 s) :
    Keeps s0 (State.limitEvent s order k index count) := by
  unfold State.limitEvent
  with_reducible repeat' (first | assumption | intro _ | apply keeps_State_raise)

theorem keeps_State_hearthDue {s0 s : State} (order : Nat) (g : Nat) (count : Nat) (faulted : Bool) (h : Keeps s0 s) :
    Keeps s0 (State.hearthDue s order g count faulted) := by
  unfold State.hearthDue
  with_reducible repeat' (first | assumption | intro _ | apply keeps_State_limitEvent | apply keeps_ite | apply keeps_ite_fst | apply keeps_forAll | apply keeps_foldl | apply keeps_foldl_fst | (apply keeps_of_fst; assumption) | (apply keeps_of_snd; assumption) | dsimp only | split | (apply keeps_mk; first | assumption | apply keeps_State_limitEvent | apply keeps_ite | apply keeps_forAll | apply keeps_foldl))

theorem keeps_State_hearthCe {s0 s : State} (g : Nat) (d : Nat) (h : Keeps s0 s) :
    Keeps s0 (State.hearthCe s g d) := by
  unfold State.hearthCe
  with_reducible repeat' (first | assumption | intro _ | apply keeps_State_onHearth | apply keeps_State_hearthDue | apply keeps_ite)

theorem keeps_State_hearthMism {s0 s : State} (g : Nat) (array : Nat) (h : Keeps s0 s) :
    Keeps s0 (State.hearthMism s g array) := by
  unfold State.hearthMism
  with_reducible repeat' (first | assumption | intro _ | apply keeps_State_onHearth | apply keeps_State_hearthDue | apply keeps_ite)

theorem keeps_State_hearthSched {s0 s : State} (n : Nat) (g : Nat) (h : Keeps s0 s) :
    Keeps s0 (State.hearthSched s n g) := by
  unfold State.hearthSched
  with_reducible repeat' (first | assumption | intro _ | apply keeps_State_onHearth | apply keeps_State_hearthDue | apply keeps_ite)

theorem keeps_State_hearthUe {s0 s : State} (g : Nat) (h : Keeps s0 s) :
    Keeps s0 (State.hearthUe s g) := by
  unfold State.hearthUe
  with_reducible repeat' (first | assumption | intro _ | apply keeps_State_hearthDue | apply keeps_State_onHearth)

theorem keeps_State_rickSched {s0 s : State} (n : Nat) (k : Nat) (h : Keeps s0 s) :
    Keeps s0 (State.rickSched s n k) := by
  unfold State.rickSched
  with_reducible repeat' (first | assumption | intro _ | apply keeps_State_onRick | apply keeps_State_degrade | apply keeps_State_limitEvent | apply keeps_ite)

theorem keeps_State_unavailableTo {s0 s : State} (n : Nat) (cause : Nat) (start : Nat) (fin : Nat) (h : Keeps s0 s) :
    Keeps s0 (State.unavailableTo s n cause start fin) := by
  unfold State.unavailableTo
  with_reducible repeat' (first | assumption | intro _ | apply keeps_State_raise | apply keeps_State_onPart | apply keeps_State_bumpBy)

theorem keeps_State_unavailable {s0 s : State} (n : Nat) (cause : Nat) (start : Nat) (h : Keeps s0 s) :
    Keeps s0 (State.unavailable s n cause start) := by
  unfold State.unavailable
  with_reducible repeat' (first | assumption | intro _ | apply keeps_State_unavailableTo)

end Sys2Proof.Laws
end

