-- ==== Sys2Proof/Laws/KeepsHearthCore.lean ====
section
/-!
SUPPORT. Every operation of Machine/HearthCore.lean keeps the queue and the canonical memory.
-/
namespace Sys2Proof.Laws
open Sys2Proof.Machine

theorem keeps_State_bpAct {s0 s : State} (n : Nat) (l : Nat) (idx : Nat) (daddr : Nat) (action : Nat) (h : Keeps s0 s) :
    Keeps s0 (State.bpAct s n l idx daddr action) := by
  unfold State.bpAct
  with_reducible repeat' (first | assumption | intro _ | apply keeps_State_trigger | apply keeps_State_coreRecord | apply keeps_State_onPart | apply keeps_ite | apply keeps_ite_fst | apply keeps_forAll | apply keeps_foldl | apply keeps_foldl_fst | (apply keeps_of_fst; assumption) | (apply keeps_of_snd; assumption) | dsimp only | split)

theorem keeps_State_bpHit {s0 s : State} (n : Nat) (l : Nat) (idx : Nat) (daddr : Nat) (h : Keeps s0 s) :
    Keeps s0 (State.bpHit s n l idx daddr) := by
  unfold State.bpHit
  with_reducible repeat' (first | assumption | intro _ | apply keeps_State_bpAct | apply keeps_State_onPart | apply keeps_ite)

theorem keeps_State_compare {s0 s : State} (n : Nat) (l : Nat) (pc : Nat) (h : Keeps s0 s) :
    Keeps s0 (State.compare s n l pc) := by
  unfold State.compare
  with_reducible repeat' (first | assumption | intro _ | apply keeps_forAll | apply keeps_State_bpHit | apply keeps_ite)

theorem keeps_State_fatalTrap {s0 s : State} (n : Nat) (l : Nat) (g : Nat) (cause : Nat) (engine : Nat) (iaddr : Nat) (word : Nat) (detail : Nat) (cyc : Nat) (h : Keeps s0 s) :
    Keeps s0 (State.fatalTrap s n l g cause engine iaddr word detail cyc) := by
  unfold State.fatalTrap
  with_reducible repeat' (first | assumption | intro _ | apply keeps_State_setBlob | apply keeps_State_coreRecord | apply keeps_State_raise | apply keeps_State_bump | apply keeps_State_trigger | apply keeps_State_unavailable | apply keeps_State_hearthUe | apply keeps_State_onPart | apply keeps_unloadJob | apply keeps_State_discardAttempt | apply keeps_ite | apply keeps_ite_fst | apply keeps_forAll | apply keeps_foldl | apply keeps_foldl_fst | (apply keeps_of_fst; assumption) | (apply keeps_of_snd; assumption) | dsimp only | split)

theorem keeps_State_coreTrap {s0 s : State} (n : Nat) (l : Nat) (g : Nat) (cause : Nat) (w : Nat) (detail : optParam Nat 0) (h : Keeps s0 s) :
    Keeps s0 (State.coreTrap s n l g cause w detail) := by
  unfold State.coreTrap
  with_reducible repeat' (first | assumption | intro _ | apply keeps_State_fatalTrap)

theorem keeps_State_trapAll {s0 s : State} (n : Nat) (cause : Nat) (detail : Nat) (cyc : Nat) (h : Keeps s0 s) :
    Keeps s0 (State.trapAll s n cause detail cyc) := by
  unfold State.trapAll
  with_reducible repeat' (first | assumption | intro _ | apply keeps_forAll | apply keeps_State_fatalTrap)

theorem keeps_State_enterEnd {s0 s : State} (n : Nat) (l : Nat) (g : Nat) (kind : Nat) (w : Nat) (h : Keeps s0 s) :
    Keeps s0 (State.enterEnd s n l g kind w) := by
  unfold State.enterEnd
  with_reducible repeat' (first | assumption | intro _ | apply keeps_State_coreTrap | apply keeps_State_trapAll | apply keeps_State_onHearth | apply keeps_ite)

theorem keeps_State_jump {s0 s : State} (n : Nat) (g : Nat) (op : Nat) (target : Nat) (cycles : Nat) (h : Keeps s0 s) :
    Keeps s0 (State.jump s n g op target cycles) := by
  unfold State.jump
  with_reducible repeat' (first | assumption | intro _ | apply keeps_State_onHearth | apply keeps_State_coreRecord)

theorem keeps_State_nanReport {s0 s : State} (n : Nat) (l : Nat) (g : Nat) (engine : Nat) (iaddr : Nat) (tensor : Nat) (wher : Nat) (cyc : Nat) (h : Keeps s0 s) :
    Keeps s0 (State.nanReport s n l g engine iaddr tensor wher cyc) := by
  unfold State.nanReport
  with_reducible repeat' (first | assumption | intro _ | apply keeps_State_setHearth | apply keeps_State_trigger | apply keeps_ite)

theorem keeps_State_readSummary {s0 s : State} (n : Nat) (g : Nat) (w : Sys2Proof.W32) (h : Keeps s0 s) :
    Keeps s0 (State.readSummary s n g w) := by
  unfold State.readSummary
  with_reducible repeat' (first | assumption | intro _ | apply keeps_State_jump | apply keeps_State_onHearth | apply keeps_State_setHearth | apply keeps_ite)

theorem keeps_State_resumeCore {s0 s : State} (n : Nat) (l : Nat) (g : Nat) (cyc : Nat) (scyc : optParam Nat cyc) (h : Keeps s0 s) :
    Keeps s0 (State.resumeCore s n l g cyc scyc) := by
  unfold State.resumeCore
  with_reducible repeat' (first | assumption | intro _ | apply keeps_State_setHearth | apply keeps_State_readSummary | apply keeps_State_enterEnd | apply keeps_ite | apply keeps_ite_fst | apply keeps_forAll | apply keeps_foldl | apply keeps_foldl_fst | (apply keeps_of_fst; assumption) | (apply keeps_of_snd; assumption) | dsimp only | split)

theorem keeps_State_scheduleFault {s0 s : State} (n : Nat) (g : Option Nat) (h : Keeps s0 s) :
    Keeps s0 (State.scheduleFault s n g) := by
  unfold State.scheduleFault
  with_reducible repeat' (first | assumption | intro _ | apply keeps_State_hearthSched | apply keeps_State_raise | apply keeps_State_onPart | apply keeps_ite | apply keeps_ite_fst | apply keeps_forAll | apply keeps_foldl | apply keeps_foldl_fst | (apply keeps_of_fst; assumption) | (apply keeps_of_snd; assumption) | dsimp only | split)

theorem keeps_State_watch {s0 s : State} (n : Nat) (l : Nat) (mode : Nat) (a : Nat) (len : Nat) (h : Keeps s0 s) :
    Keeps s0 (State.watch s n l mode a len) := by
  unfold State.watch
  with_reducible repeat' (first | assumption | intro _ | apply keeps_forAll | apply keeps_State_bpHit | apply keeps_ite)

theorem keeps_coreRun {s0 s : State} (g : Nat) (mn : Mn) (body : State → Nat → Nat → Sys2Proof.W32 → State) (kbody : ∀ z0 z1 z2 z3, Keeps s0 z0 → Keeps s0 (body z0 z1 z2 z3)) (h : Keeps s0 s) :
    Keeps s0 (coreRun s g mn body) := by
  unfold coreRun
  with_reducible repeat' (first | assumption | intro _ | apply keeps_State_coreTrap | apply keeps_State_compare | apply kbody | apply keeps_ite | apply keeps_ite_fst | apply keeps_forAll | apply keeps_foldl | apply keeps_foldl_fst | (apply keeps_of_fst; assumption) | (apply keeps_of_snd; assumption) | dsimp only | split)

theorem keeps_coreAlu {s0 s : State} (g : Nat) (mn : Mn) (cycles : Nat) (f : Hearth → Sys2Proof.W32 → Sys2Proof.W64) (h : Keeps s0 s) :
    Keeps s0 (coreAlu s g mn cycles f) := by
  unfold coreAlu
  with_reducible repeat' (first | assumption | intro _ | apply keeps_coreRun | apply keeps_State_onHearth)

theorem keeps_coreBranch {s0 s : State} (g : Nat) (mn : Mn) (c : Sys2Proof.W64 → Sys2Proof.W64 → Bool) (h : Keeps s0 s) :
    Keeps s0 (coreBranch s g mn c) := by
  unfold coreBranch
  with_reducible repeat' (first | assumption | intro _ | apply keeps_coreRun | apply keeps_State_jump | apply keeps_State_onHearth | apply keeps_ite)

theorem keeps_coreFP {s0 s : State} (g : Nat) (mn : Mn) (f : FV → FV → Nat) (h : Keeps s0 s) :
    Keeps s0 (coreFP s g mn f) := by
  unfold coreFP
  with_reducible repeat' (first | assumption | intro _ | apply keeps_coreRun | apply keeps_State_setHearth | apply keeps_State_nanReport | apply keeps_ite)

theorem keeps_coreLoad {s0 s : State} (g : Nat) (mn : Mn) (size : Nat) (h : Keeps s0 s) :
    Keeps s0 (coreLoad s g mn size) := by
  unfold coreLoad
  with_reducible repeat' (first | assumption | intro _ | apply keeps_coreRun | apply keeps_State_coreTrap | apply keeps_State_watch | apply keeps_State_onHearth | apply keeps_ite)

theorem keeps_coreRI {s0 s : State} (g : Nat) (mn : Mn) (f : Sys2Proof.W64 → Sys2Proof.W64 → Sys2Proof.W64) (h : Keeps s0 s) :
    Keeps s0 (coreRI s g mn f) := by
  unfold coreRI
  with_reducible repeat' (first | assumption | intro _ | apply keeps_coreAlu)

theorem keeps_coreRR {s0 s : State} (g : Nat) (mn : Mn) (cycles : Nat) (f : Sys2Proof.W64 → Sys2Proof.W64 → Sys2Proof.W64) (h : Keeps s0 s) :
    Keeps s0 (coreRR s g mn cycles f) := by
  unfold coreRR
  with_reducible repeat' (first | assumption | intro _ | apply keeps_coreAlu)

theorem keeps_coreStore {s0 s : State} (g : Nat) (mn : Mn) (size : Nat) (h : Keeps s0 s) :
    Keeps s0 (coreStore s g mn size) := by
  unfold coreStore
  with_reducible repeat' (first | assumption | intro _ | apply keeps_coreRun | apply keeps_State_coreTrap | apply keeps_State_watch | apply keeps_State_onHearth | apply keeps_State_store | apply keeps_ite)

theorem keeps_coreSummary {s0 s : State} (g : Nat) (mn : Mn) (yOf : Sys2Proof.W32 → Nat) (h : Keeps s0 s) :
    Keeps s0 (coreSummary s g mn yOf) := by
  unfold coreSummary
  with_reducible repeat' (first | assumption | intro _ | apply keeps_coreRun | apply keeps_State_readSummary | apply keeps_State_setHearth | apply keeps_State_coreTrap | apply keeps_ite)

end Sys2Proof.Laws
end

