-- ==== Sys2Proof/Laws/KeepsEngines.lean ====
section
/-!
SUPPORT. Every operation of Machine/Engines.lean keeps the queue and the canonical memory.
-/
namespace Sys2Proof.Laws
open Sys2Proof.Machine

theorem keeps_State_hreadCheck {s0 s : State} (n : Nat) (g : Nat) (code : Nat) (ranges : List (Nat × Nat)) (h : Keeps s0 s) :
    Keeps s0 (State.hreadCheck s n g code ranges) := by
  unfold State.hreadCheck
  with_reducible repeat' (first | assumption | intro _ | apply keeps_State_onHearth | apply keeps_State_raise | apply keeps_State_onPart | apply keeps_ite)

theorem keeps_State_hwrites {s0 s : State} (g : Nat) (l : List (Nat × List Sys2Proof.Byte)) (h : Keeps s0 s) :
    Keeps s0 (State.hwrites s g l) := by
  unfold State.hwrites
  with_reducible repeat' (first | assumption | intro _ | apply keeps_State_onHearth | apply keeps_forAll | apply keeps_State_store)

theorem keeps_State_opNan {s0 s : State} (n : Nat) (l : Nat) (g : Nat) (e : Nat) (o : Op) (h : Keeps s0 s) :
    Keeps s0 (State.opNan s n l g e o) := by
  unfold State.opNan
  with_reducible repeat' (first | assumption | intro _ | apply keeps_State_nanReport | apply keeps_ite | apply keeps_ite_fst | apply keeps_forAll | apply keeps_foldl | apply keeps_foldl_fst | (apply keeps_of_fst; assumption) | (apply keeps_of_snd; assumption) | dsimp only | split)

theorem keeps_engStart {s0 s : State} (g : Nat) (e : Nat) (opc : Nat) (f : State → Nat → Nat → Op → Nat → Started) (kf : ∀ z0 z1 z2 z3 z4, Keeps s0 z0 → Keeps s0 (f z0 z1 z2 z3 z4).st) (h : Keeps s0 s) :
    Keeps s0 (engStart s g e opc f) := by
  unfold engStart
  with_reducible repeat' (first | assumption | intro _ | apply keeps_State_onHearth | apply keeps_Started_st | apply kf | apply keeps_ite | apply keeps_ite_fst | apply keeps_forAll | apply keeps_foldl | apply keeps_foldl_fst | (apply keeps_of_fst; assumption) | (apply keeps_of_snd; assumption) | dsimp only | split)

end Sys2Proof.Laws
end

