-- ==== Sys2Proof/Laws/KeepsVector.lean ====
section
/-!
SUPPORT. Every operation of Machine/Vector.lean keeps the queue and the canonical memory.
-/
namespace Sys2Proof.Laws
open Sys2Proof.Machine

theorem keeps_vecOp {s0 s : State} (g : Nat) (opc : Nat) (trans : Bool) (hasB : Bool) (f : Nat →   Nat → FV → FV → FV → FV → FV) (h : Keeps s0 s) :
    Keeps s0 (vecOp s g opc trans hasB f) := by
  unfold vecOp
  with_reducible repeat' (first | assumption | intro _ | apply keeps_engStart | apply keeps_State_hreadCheck)

theorem keeps_execAbs {s0 s : State} (g : Fin 216) (h : Keeps s0 s) :
    KeepsOut s0 (execAbs g s) := by
  unfold execAbs
  with_reducible repeat' (first | assumption | intro _ | apply keepsOut_next | apply keeps_vecOp)

theorem keeps_execAffine {s0 s : State} (g : Fin 216) (h : Keeps s0 s) :
    KeepsOut s0 (execAffine g s) := by
  unfold execAffine
  with_reducible repeat' (first | assumption | intro _ | apply keepsOut_next | apply keeps_vecOp)

theorem keeps_execAxpy {s0 s : State} (g : Fin 216) (h : Keeps s0 s) :
    KeepsOut s0 (execAxpy g s) := by
  unfold execAxpy
  with_reducible repeat' (first | assumption | intro _ | apply keepsOut_next | apply keeps_vecOp)

theorem keeps_execExp {s0 s : State} (g : Fin 216) (h : Keeps s0 s) :
    KeepsOut s0 (execExp g s) := by
  unfold execExp
  with_reducible repeat' (first | assumption | intro _ | apply keepsOut_next | apply keeps_vecOp)

theorem keeps_execLog {s0 s : State} (g : Fin 216) (h : Keeps s0 s) :
    KeepsOut s0 (execLog g s) := by
  unfold execLog
  with_reducible repeat' (first | assumption | intro _ | apply keepsOut_next | apply keeps_vecOp)

theorem keeps_execMuls {s0 s : State} (g : Fin 216) (h : Keeps s0 s) :
    KeepsOut s0 (execMuls g s) := by
  unfold execMuls
  with_reducible repeat' (first | assumption | intro _ | apply keepsOut_next | apply keeps_vecOp)

theorem keeps_execRecip {s0 s : State} (g : Fin 216) (h : Keeps s0 s) :
    KeepsOut s0 (execRecip g s) := by
  unfold execRecip
  with_reducible repeat' (first | assumption | intro _ | apply keepsOut_next | apply keeps_vecOp)

theorem keeps_execRsqrt {s0 s : State} (g : Fin 216) (h : Keeps s0 s) :
    KeepsOut s0 (execRsqrt g s) := by
  unfold execRsqrt
  with_reducible repeat' (first | assumption | intro _ | apply keepsOut_next | apply keeps_vecOp)

theorem keeps_execSel {s0 s : State} (g : Fin 216) (h : Keeps s0 s) :
    KeepsOut s0 (execSel g s) := by
  unfold execSel
  with_reducible repeat' (first | assumption | intro _ | apply keepsOut_next | apply keeps_vecOp)

theorem keeps_execSigm {s0 s : State} (g : Fin 216) (h : Keeps s0 s) :
    KeepsOut s0 (execSigm g s) := by
  unfold execSigm
  with_reducible repeat' (first | assumption | intro _ | apply keepsOut_next | apply keeps_vecOp)

theorem keeps_execSilu {s0 s : State} (g : Fin 216) (h : Keeps s0 s) :
    KeepsOut s0 (execSilu g s) := by
  unfold execSilu
  with_reducible repeat' (first | assumption | intro _ | apply keepsOut_next | apply keeps_vecOp)

theorem keeps_execVectorAdd {s0 s : State} (g : Fin 216) (h : Keeps s0 s) :
    KeepsOut s0 (execVectorAdd g s) := by
  unfold execVectorAdd
  with_reducible repeat' (first | assumption | intro _ | apply keepsOut_next | apply keeps_vecOp)

theorem keeps_execVectorMax {s0 s : State} (g : Fin 216) (h : Keeps s0 s) :
    KeepsOut s0 (execVectorMax g s) := by
  unfold execVectorMax
  with_reducible repeat' (first | assumption | intro _ | apply keepsOut_next | apply keeps_vecOp)

theorem keeps_execVectorMin {s0 s : State} (g : Fin 216) (h : Keeps s0 s) :
    KeepsOut s0 (execVectorMin g s) := by
  unfold execVectorMin
  with_reducible repeat' (first | assumption | intro _ | apply keepsOut_next | apply keeps_vecOp)

theorem keeps_execVectorMul {s0 s : State} (g : Fin 216) (h : Keeps s0 s) :
    KeepsOut s0 (execVectorMul g s) := by
  unfold execVectorMul
  with_reducible repeat' (first | assumption | intro _ | apply keepsOut_next | apply keeps_vecOp)

theorem keeps_execVectorSub {s0 s : State} (g : Fin 216) (h : Keeps s0 s) :
    KeepsOut s0 (execVectorSub g s) := by
  unfold execVectorSub
  with_reducible repeat' (first | assumption | intro _ | apply keepsOut_next | apply keeps_vecOp)

end Sys2Proof.Laws
end

