-- ==== Sys2Proof/Laws/KeepsConvert.lean ====
section
/-!
SUPPORT. Every operation of Machine/Convert.lean keeps the queue and the canonical memory.
-/
namespace Sys2Proof.Laws
open Sys2Proof.Machine

theorem keeps_execCast {s0 s : State} (g : Fin 216) (h : Keeps s0 s) :
    KeepsOut s0 (execCast g s) := by
  unfold execCast
  with_reducible repeat' (first | assumption | intro _ | apply keepsOut_next | apply keeps_engStart | apply keeps_State_hreadCheck)

theorem keeps_quantOp {s0 s : State} (g : Nat) (opc : Nat) (row : List Sys2Proof.Byte → (Nat → RM) → Nat → List FV → RowOut) (h : Keeps s0 s) :
    Keeps s0 (quantOp s g opc row) := by
  unfold quantOp
  with_reducible repeat' (first | assumption | intro _ | apply keeps_engStart | apply keeps_State_hreadCheck)

theorem keeps_execCompress {s0 s : State} (g : Fin 216) (h : Keeps s0 s) :
    KeepsOut s0 (execCompress g s) := by
  unfold execCompress
  with_reducible repeat' (first | assumption | intro _ | apply keepsOut_next | apply keeps_quantOp)

theorem keeps_execConstFill {s0 s : State} (g : Fin 216) (h : Keeps s0 s) :
    KeepsOut s0 (execConstFill g s) := by
  unfold execConstFill
  with_reducible repeat' (first | assumption | intro _ | apply keepsOut_next | apply keeps_engStart)

theorem keeps_execExpand {s0 s : State} (g : Fin 216) (h : Keeps s0 s) :
    KeepsOut s0 (execExpand g s) := by
  unfold execExpand
  with_reducible repeat' (first | assumption | intro _ | apply keepsOut_next | apply keeps_engStart | apply keeps_State_hreadCheck)

theorem keeps_execQuantG16 {s0 s : State} (g : Fin 216) (h : Keeps s0 s) :
    KeepsOut s0 (execQuantG16 g s) := by
  unfold execQuantG16
  with_reducible repeat' (first | assumption | intro _ | apply keepsOut_next | apply keeps_quantOp)

theorem keeps_execQuantMx {s0 s : State} (g : Fin 216) (h : Keeps s0 s) :
    KeepsOut s0 (execQuantMx g s) := by
  unfold execQuantMx
  with_reducible repeat' (first | assumption | intro _ | apply keepsOut_next | apply keeps_quantOp)

end Sys2Proof.Laws
end

