-- ==== Sys2Proof/Laws/KeepsStats.lean ====
section
/-!
SUPPORT. Every operation of Machine/Stats.lean keeps the queue and the canonical memory.
-/
namespace Sys2Proof.Laws
open Sys2Proof.Machine

theorem keeps_State_applyStats {s0 s : State} (n : Nat) (g : Nat) (o : Op) (h : Keeps s0 s) :
    Keeps s0 (State.applyStats s n g o) := by
  unfold State.applyStats
  with_reducible repeat' (first | assumption | intro _ | apply keeps_State_onHearth | apply keeps_State_store | apply keeps_ite | apply keeps_ite_fst | apply keeps_forAll | apply keeps_foldl | apply keeps_foldl_fst | (apply keeps_of_fst; assumption) | (apply keeps_of_snd; assumption) | dsimp only | split)

theorem keeps_execEngineOpComplete {s0 s : State} (g : Fin 216) (e : Fin 8) (h : Keeps s0 s) :
    KeepsOut s0 (execEngineOpComplete g e s) := by
  unfold execEngineOpComplete
  with_reducible repeat' (first | assumption | intro _ | apply keepsOut_next | apply keeps_State_onHearth | apply keeps_State_fatalTrap | apply keeps_State_onPart | apply keeps_State_applyStats | apply keeps_State_hwrites | apply keeps_State_opNan | apply keeps_State_resumeCore | apply keeps_ite | apply keeps_ite_fst | apply keeps_forAll | apply keeps_foldl | apply keeps_foldl_fst | (apply keeps_of_fst; assumption) | (apply keeps_of_snd; assumption) | dsimp only | split)

theorem keeps_freeSummary {s0 s : State}  (h : Keeps s0 s) :
    Keeps s0 (freeSummary s).2 := by
  unfold freeSummary
  with_reducible repeat' (first | assumption | intro _ | apply keeps_State_draw)

theorem keeps_execSacc {s0 s : State} (g : Fin 216) (h : Keeps s0 s) :
    KeepsOut s0 (execSacc g s) := by
  unfold execSacc
  with_reducible repeat' (first | assumption | intro _ | apply keepsOut_next | apply keeps_engStart | apply keeps_freeSummary | apply keeps_State_hreadCheck)

theorem keeps_execSinit {s0 s : State} (g : Fin 216) (h : Keeps s0 s) :
    KeepsOut s0 (execSinit g s) := by
  unfold execSinit
  with_reducible repeat' (first | assumption | intro _ | apply keepsOut_next | apply keeps_engStart | apply keeps_freeSummary)

theorem keeps_execSout {s0 s : State} (g : Fin 216) (h : Keeps s0 s) :
    KeepsOut s0 (execSout g s) := by
  unfold execSout
  with_reducible repeat' (first | assumption | intro _ | apply keepsOut_next | apply keeps_engStart | apply keeps_freeSummary | apply keeps_ite)

end Sys2Proof.Laws
end

