-- ==== Sys2Proof/Laws/KeepsMatrix.lean ====
section
/-!
SUPPORT. Every operation of Machine/Matrix.lean keeps the queue and the canonical memory.
-/
namespace Sys2Proof.Laws
open Sys2Proof.Machine

theorem keeps_execMmul {s0 s : State} (g : Fin 216) (h : Keeps s0 s) :
    KeepsOut s0 (execMmul g s) := by
  unfold execMmul
  with_reducible repeat' (first | assumption | intro _ | apply keepsOut_next | apply keeps_State_onHearth | apply keeps_State_hreadCheck | apply keeps_ite | apply keeps_ite_fst | apply keeps_forAll | apply keeps_foldl | apply keeps_foldl_fst | (apply keeps_of_fst; assumption) | (apply keeps_of_snd; assumption) | dsimp only | split)

theorem keeps_execMmulComplete {s0 s : State} (g : Fin 216) (h : Keeps s0 s) :
    KeepsOut s0 (execMmulComplete g s) := by
  unfold execMmulComplete
  with_reducible repeat' (first | assumption | intro _ | apply keepsOut_next | apply keeps_State_opNan | apply keeps_State_setHearth | apply keeps_State_raise | apply keeps_State_onPart | apply keeps_State_resumeCore | apply keeps_ite | apply keeps_ite_fst | apply keeps_forAll | apply keeps_foldl | apply keeps_foldl_fst | (apply keeps_of_fst; assumption) | (apply keeps_of_snd; assumption) | dsimp only | split)

theorem keeps_execMmulWritebackEnd {s0 s : State} (g : Fin 216) (h : Keeps s0 s) :
    KeepsOut s0 (execMmulWritebackEnd g s) := by
  unfold execMmulWritebackEnd
  with_reducible repeat' (first | assumption | intro _ | apply keepsOut_next | apply keeps_State_resumeCore | apply keeps_State_onHearth | apply keeps_State_hwrites | apply keeps_ite | apply keeps_ite_fst | apply keeps_forAll | apply keeps_foldl | apply keeps_foldl_fst | (apply keeps_of_fst; assumption) | (apply keeps_of_snd; assumption) | dsimp only | split)

end Sys2Proof.Laws
end

