-- ==== Sys2Proof/Laws/KeepsReduce.lean ====
section
/-!
SUPPORT. Every operation of Machine/Reduce.lean keeps the queue and the canonical memory.
-/
namespace Sys2Proof.Laws
open Sys2Proof.Machine

theorem keeps_execArgmax {s0 s : State} (g : Fin 216) (h : Keeps s0 s) :
    KeepsOut s0 (execArgmax g s) := by
  unfold execArgmax
  with_reducible repeat' (first | assumption | intro _ | apply keepsOut_next | apply keeps_engStart | apply keeps_State_hreadCheck)

theorem keeps_reduceOp {s0 s : State} (g : Nat) (opc : Nat) (line : Bool → List FV → FV) (all : List FV → FV) (h : Keeps s0 s) :
    Keeps s0 (reduceOp s g opc line all) := by
  unfold reduceOp
  with_reducible repeat' (first | assumption | intro _ | apply keeps_engStart | apply keeps_State_hreadCheck)

theorem keeps_execReduceMax {s0 s : State} (g : Fin 216) (h : Keeps s0 s) :
    KeepsOut s0 (execReduceMax g s) := by
  unfold execReduceMax
  with_reducible repeat' (first | assumption | intro _ | apply keepsOut_next | apply keeps_reduceOp)

theorem keeps_execReduceMin {s0 s : State} (g : Fin 216) (h : Keeps s0 s) :
    KeepsOut s0 (execReduceMin g s) := by
  unfold execReduceMin
  with_reducible repeat' (first | assumption | intro _ | apply keepsOut_next | apply keeps_reduceOp)

theorem keeps_execReduceSum {s0 s : State} (g : Fin 216) (h : Keeps s0 s) :
    KeepsOut s0 (execReduceSum g s) := by
  unfold execReduceSum
  with_reducible repeat' (first | assumption | intro _ | apply keepsOut_next | apply keeps_reduceOp)

theorem keeps_execSumsq {s0 s : State} (g : Fin 216) (h : Keeps s0 s) :
    KeepsOut s0 (execSumsq g s) := by
  unfold execSumsq
  with_reducible repeat' (first | assumption | intro _ | apply keepsOut_next | apply keeps_reduceOp)

theorem keeps_execTopk {s0 s : State} (g : Fin 216) (h : Keeps s0 s) :
    KeepsOut s0 (execTopk g s) := by
  unfold execTopk
  with_reducible repeat' (first | assumption | intro _ | apply keepsOut_next | apply keeps_engStart | apply keeps_State_hreadCheck)

end Sys2Proof.Laws
end

