-- ==== Sys2Proof/Laws/KeepsAttention.lean ====
section
/-!
SUPPORT. Every operation of Machine/Attention.lean keeps the queue and the canonical memory.
-/
namespace Sys2Proof.Laws
open Sys2Proof.Machine

theorem keeps_execAttn {s0 s : State} (g : Fin 216) (h : Keeps s0 s) :
    KeepsOut s0 (execAttn g s) := by
  unfold execAttn
  with_reducible repeat' (first | assumption | intro _ | apply keepsOut_next | apply keeps_engStart | apply keeps_State_onHearth | apply keeps_State_hreadCheck)

theorem keeps_execAttnComplete {s0 s : State} (g : Fin 216) (h : Keeps s0 s) :
    KeepsOut s0 (execAttnComplete g s) := by
  unfold execAttnComplete
  with_reducible repeat' (first | assumption | intro _ | apply keepsOut_next | apply keeps_State_onPart | apply keeps_State_hwrites | apply keeps_State_onHearth | apply keeps_State_resumeCore | apply keeps_State_opNan | apply keeps_ite | apply keeps_ite_fst | apply keeps_forAll | apply keeps_foldl | apply keeps_foldl_fst | (apply keeps_of_fst; assumption) | (apply keeps_of_snd; assumption) | dsimp only | split)

end Sys2Proof.Laws
end

