-- ==== Sys2Proof/Laws/KeepsLearnState.lean ====
section
/-!
SUPPORT. Every operation of Machine/LearnState.lean keeps the queue and the canonical memory.
-/
namespace Sys2Proof.Laws
open Sys2Proof.Machine

theorem keeps_State_lrLearn {s0 s : State} (n : Nat) (j : Nat) (tstep : Nat) (attempt : Nat) (v : Nat) (h : Keeps s0 s) :
    Keeps s0 (State.lrLearn s n j tstep attempt v) := by
  unfold State.lrLearn
  with_reducible repeat' (first | assumption | intro _ | apply keeps_State_onJob | apply keeps_ite)

theorem keeps_State_lrSendTo {s0 s : State} (n : Nat) (grp : Nat) (d : Nat) (body : List Sys2Proof.Byte) (h : Keeps s0 s) :
    Keeps s0 (State.lrSendTo s n grp d body) := by
  unfold State.lrSendTo
  with_reducible repeat' (first | assumption | intro _ | apply keeps_State_sendOnly | apply keeps_ite | apply keeps_ite_fst | apply keeps_forAll | apply keeps_foldl | apply keeps_foldl_fst | (apply keeps_of_fst; assumption) | (apply keeps_of_snd; assumption) | dsimp only | split)

theorem keeps_State_lrSendNext {s0 s : State} (n : Nat) (grp : Nat) (body : List Sys2Proof.Byte) (h : Keeps s0 s) :
    Keeps s0 (State.lrSendNext s n grp body) := by
  unfold State.lrSendNext
  with_reducible repeat' (first | assumption | intro _ | apply keeps_State_lrSendTo | apply keeps_ite)

theorem keeps_State_lrVoteRound {s0 s : State} (n : Nat) (j : Nat) (grp : Nat) (tstep : Nat) (attempt : Nat) (v : Nat) (h : Keeps s0 s) :
    Keeps s0 (State.lrVoteRound s n j grp tstep attempt v) := by
  unfold State.lrVoteRound
  with_reducible repeat' (first | assumption | intro _ | apply keeps_State_lrSendNext | apply keeps_State_lrLearn | apply keeps_State_onJob | apply keeps_ite | apply keeps_ite_fst | apply keeps_forAll | apply keeps_foldl | apply keeps_foldl_fst | (apply keeps_of_fst; assumption) | (apply keeps_of_snd; assumption) | dsimp only | split)

theorem keeps_State_lrCast {s0 s : State} (n : Nat) (j : Nat) (grp : Nat) (v : Nat) (h : Keeps s0 s) :
    Keeps s0 (State.lrCast s n j grp v) := by
  unfold State.lrCast
  with_reducible repeat' (first | assumption | intro _ | apply keeps_State_onJob | apply keeps_State_lrLearn | apply keeps_State_lrSendNext | apply keeps_State_lrVoteRound | apply keeps_ite | apply keeps_ite_fst | apply keeps_forAll | apply keeps_foldl | apply keeps_foldl_fst | (apply keeps_of_fst; assumption) | (apply keeps_of_snd; assumption) | dsimp only | split)

theorem keeps_State_lrFresh {s0 s : State} (n : Nat) (j : Nat) (h : Keeps s0 s) :
    Keeps s0 (State.lrFresh s n j) := by
  unfold State.lrFresh
  with_reducible repeat' (first | assumption | intro _ | apply keeps_State_onJob)

theorem keeps_State_lrQueryIn {s0 s : State} (n : Nat) (j : Nat) (grp : Nat) (tstep : Nat) (attempt : Nat) (m : Nat) (h : Keeps s0 s) :
    Keeps s0 (State.lrQueryIn s n j grp tstep attempt m) := by
  unfold State.lrQueryIn
  with_reducible repeat' (first | assumption | intro _ | apply keeps_State_lrSendTo | apply keeps_State_lrSendNext | apply keeps_ite | apply keeps_ite_fst | apply keeps_forAll | apply keeps_foldl | apply keeps_foldl_fst | (apply keeps_of_fst; assumption) | (apply keeps_of_snd; assumption) | dsimp only | split)

theorem keeps_State_lrReady {s0 s : State} (n : Nat) (j : Nat) (grp : Nat) (tstep : Nat) (attempt : Nat) (m : Nat) (h : Keeps s0 s) :
    Keeps s0 (State.lrReady s n j grp tstep attempt m) := by
  unfold State.lrReady
  with_reducible repeat' (first | assumption | intro _ | apply keeps_State_onJob | apply keeps_State_lrSendNext | apply keeps_ite)

theorem keeps_State_lrVerdictIn {s0 s : State} (n : Nat) (j : Nat) (grp : Nat) (tstep : Nat) (attempt : Nat) (m : Nat) (v : Nat) (h : Keeps s0 s) :
    Keeps s0 (State.lrVerdictIn s n j grp tstep attempt m v) := by
  unfold State.lrVerdictIn
  with_reducible repeat' (first | assumption | intro _ | apply keeps_State_lrLearn | apply keeps_State_lrSendNext | apply keeps_ite)

theorem keeps_State_pieceLanded {s0 s : State} (n : Nat) (j : Nat) (h : Keeps s0 s) :
    Keeps s0 (State.pieceLanded s n j) := by
  unfold State.pieceLanded
  with_reducible repeat' (first | assumption | intro _ | apply keeps_State_onJob | apply keeps_State_writeTier | apply keeps_ite | apply keeps_ite_fst | apply keeps_forAll | apply keeps_foldl | apply keeps_foldl_fst | (apply keeps_of_fst; assumption) | (apply keeps_of_snd; assumption) | dsimp only | split)

theorem keeps_State_pieceStale {s0 s : State} (n : Nat) (j : Nat) (src : Nat) (d : List Sys2Proof.Byte) (h : Keeps s0 s) :
    Keeps s0 (State.pieceStale s n j src d) := by
  unfold State.pieceStale
  with_reducible repeat' (first | assumption | intro _ | apply keeps_State_bump | apply keeps_State_raise | apply keeps_State_onJob | apply keeps_State_lrSendTo | apply keeps_ite | apply keeps_ite_fst | apply keeps_forAll | apply keeps_foldl | apply keeps_foldl_fst | (apply keeps_of_fst; assumption) | (apply keeps_of_snd; assumption) | dsimp only | split)

end Sys2Proof.Laws
end

