-- ==== Sys2Proof/Laws/KeepsShards.lean ====
section
/-!
SUPPORT. Every operation of Machine/Shards.lean keeps the queue and the canonical memory.
-/
namespace Sys2Proof.Laws
open Sys2Proof.Machine

theorem keeps_State_dropFetches {s0 s : State} (n : Nat) (w : Nat) (h : Keeps s0 s) :
    Keeps s0 (State.dropFetches s n w) := by
  unfold State.dropFetches
  with_reducible repeat' (first | assumption | intro _ | apply keeps_State_onWset)

theorem keeps_State_regionShards {s0 s : State} (n : Nat) (w : Nat) (r : Nat) (v : Nat) (h : Keeps s0 s) :
    Keeps s0 (State.regionShards s n w r v) := by
  unfold State.regionShards
  with_reducible repeat' (first | assumption | intro _ | apply keeps_State_onWset)

theorem keeps_State_dropB {s0 s : State} (n : Nat) (r : Nat) (h : Keeps s0 s) :
    Keeps s0 (State.dropB s n r) := by
  unfold State.dropB
  with_reducible repeat' (first | assumption | intro _ | apply keeps_State_regionFlag | apply keeps_ite | apply keeps_ite_fst | apply keeps_forAll | apply keeps_foldl | apply keeps_foldl_fst | (apply keeps_of_fst; assumption) | (apply keeps_of_snd; assumption) | dsimp only | split | (apply keeps_mk; first | assumption | apply keeps_State_regionFlag | apply keeps_ite | apply keeps_forAll | apply keeps_foldl))

theorem keeps_State_evicted {s0 s : State} (n : Nat) (w : Nat) (h : Keeps s0 s) :
    Keeps s0 (State.evicted s n w) := by
  unfold State.evicted
  with_reducible repeat' (first | assumption | intro _ | apply keeps_State_raise | apply keeps_State_onWset)

theorem keeps_State_beginEvict {s0 sa : State} (n : Nat) (w : Nat) (h : Keeps s0 sa) :
    Keeps s0 (State.beginEvict sa n w) := by
  unfold State.beginEvict
  with_reducible repeat' (first | assumption | intro _ | apply keeps_State_dropFetches | apply keeps_forAll | apply keeps_State_writeS | apply keeps_State_regionShards | apply keeps_State_dropB | apply keeps_State_setRegion | apply keeps_State_evicted | apply keeps_State_onWset | apply keeps_ite | apply keeps_ite_fst | apply keeps_foldl | apply keeps_foldl_fst | (apply keeps_of_fst; assumption) | (apply keeps_of_snd; assumption) | dsimp only | split)

theorem keeps_State_failSet {s0 s : State} (n : Nat) (w : Nat) (h : Keeps s0 s) :
    Keeps s0 (State.failSet s n w) := by
  unfold State.failSet
  with_reducible repeat' (first | assumption | intro _ | apply keeps_forAll | apply keeps_State_endRequest)

theorem keeps_State_breakSet {s0 s : State} (n : Nat) (w : Nat) (h : Keeps s0 s) :
    Keeps s0 (State.breakSet s n w) := by
  unfold State.breakSet
  with_reducible repeat' (first | assumption | intro _ | apply keeps_State_unavailable | apply keeps_State_raise | apply keeps_State_onWset | apply keeps_State_failSet | apply keeps_forAll | apply keeps_State_setJobEpoch | apply keeps_State_setNum | apply keeps_State_onJob | apply keeps_ite | apply keeps_ite_fst | apply keeps_foldl | apply keeps_foldl_fst | (apply keeps_of_fst; assumption) | (apply keeps_of_snd; assumption) | dsimp only | split)

theorem keeps_State_copyIn {s0 s : State} (n : Nat) (w : Nat) (h : Keeps s0 s) :
    Keeps s0 (State.copyIn s n w) := by
  unfold State.copyIn
  with_reducible repeat' (first | assumption | intro _ | apply keeps_forAll | apply keeps_State_onWset | apply keeps_State_copyShardToB | apply keeps_State_poisonPage | apply keeps_State_setReady | apply keeps_ite)

theorem keeps_State_copyRegionToS {s0 s : State} (n : Nat) (r : Nat) (h : Keeps s0 s) :
    Keeps s0 (State.copyRegionToS s n r) := by
  unfold State.copyRegionToS
  with_reducible repeat' (first | assumption | intro _ | apply keeps_State_writeS)

theorem keeps_State_endHold {s0 s : State} (n : Nat) (w : Nat) (h : Keeps s0 s) :
    Keeps s0 (State.endHold s n w) := by
  unfold State.endHold
  with_reducible repeat' (first | assumption | intro _ | apply keeps_State_onWset | apply keeps_State_unavailable | apply keeps_ite)

theorem keeps_State_readSource {s0 s : State} (n : Nat) (w : Nat) (i : Nat) (k : Nat) (h : Keeps s0 s) :
    Keeps s0 (State.readSource s n w i k) := by
  unfold State.readSource
  with_reducible repeat' (first | assumption | intro _ | apply keeps_State_send)

theorem keeps_State_sourceFails {s0 s : State} (n : Nat) (w : Nat) (i : Nat) (code : Nat) (h : Keeps s0 s) :
    Keeps s0 (State.sourceFails s n w i code) := by
  unfold State.sourceFails
  with_reducible repeat' (first | assumption | intro _ | apply keeps_State_raise | apply keeps_State_onWset)

theorem keeps_State_fetchFrom {s0 s : State} (n : Nat) (w : Nat) (i : Nat) (y4 : List Nat) (h : Keeps s0 s) :
    Keeps s0 (State.fetchFrom s n w i y4) := by
  induction y4 generalizing s n w i with
  | nil => rw [State.fetchFrom]; with_reducible repeat' (first | assumption | intro _ | apply keeps_State_onWset | apply keeps_State_failKindling | apply keeps_State_readSource | apply keeps_State_sourceFails | apply keeps_ite)
  | cons x r ih =>
    rw [State.fetchFrom]
    with_reducible repeat' (first | assumption | intro _ | apply ih | apply keeps_State_onWset | apply keeps_State_failKindling | apply keeps_State_readSource | apply keeps_State_sourceFails | apply keeps_ite)


theorem keeps_State_fetchMore {s0 sa : State} (y0 : Nat) (y2 : Nat) (h : Keeps s0 sa) :
    Keeps s0 (State.fetchMore y0 sa y2) := by
  induction y0 generalizing sa y2 with
  | zero => rw [State.fetchMore]; with_reducible repeat' assumption
  | succ f ih =>
    rw [State.fetchMore]
    with_reducible repeat' (first | assumption | intro _ | apply ih | apply keeps_State_onWset | apply keeps_State_fetchFrom | apply keeps_ite | apply keeps_ite_fst | apply keeps_forAll | apply keeps_foldl | apply keeps_foldl_fst | (apply keeps_of_fst; assumption) | (apply keeps_of_snd; assumption) | dsimp only | split)


theorem keeps_State_fetchSome {s0 s : State} (n : Nat) (h : Keeps s0 s) :
    Keeps s0 (State.fetchSome s n) := by
  unfold State.fetchSome
  with_reducible repeat' (first | assumption | intro _ | apply keeps_State_fetchMore)

theorem keeps_State_finishEvict {s0 s : State} (n : Nat) (w : Nat) (h : Keeps s0 s) :
    Keeps s0 (State.finishEvict s n w) := by
  unfold State.finishEvict
  with_reducible repeat' (first | assumption | intro _ | apply keeps_State_evicted | apply keeps_forAll | apply keeps_State_regionShards | apply keeps_State_dropB | apply keeps_State_copyRegionToS | apply keeps_ite)

theorem keeps_State_giveSpans {s0 s : State} (n : Nat) (w : Nat) (offs : List Nat) (h : Keeps s0 s) :
    Keeps s0 (State.giveSpans s n w offs) := by
  unfold State.giveSpans
  with_reducible repeat' (first | assumption | intro _ | apply keeps_State_setRegion | apply keeps_State_onWset | apply keeps_forAll | apply keeps_State_regionFlag | apply keeps_ite | apply keeps_ite_fst | apply keeps_foldl | apply keeps_foldl_fst | (apply keeps_of_fst; assumption) | (apply keeps_of_snd; assumption) | dsimp only | split)

theorem keeps_State_refetchFrom {s0 s : State} (n : Nat) (w : Nat) (i : Nat) (y4 : List Nat) (h : Keeps s0 s) :
    Keeps s0 (State.refetchFrom s n w i y4) := by
  induction y4 generalizing s n w i with
  | nil => rw [State.refetchFrom]; with_reducible repeat' (first | assumption | intro _ | apply keeps_State_breakSet)
  | cons x r ih =>
    rw [State.refetchFrom]
    with_reducible repeat' (first | assumption | intro _ | apply ih | apply keeps_State_breakSet | apply keeps_State_sourceFails | apply keeps_State_onWset | apply keeps_State_readSource | apply keeps_ite)


theorem keeps_State_refetchFails {s0 s : State} (n : Nat) (w : Nat) (i : Nat) (code : Nat) (h : Keeps s0 s) :
    Keeps s0 (State.refetchFails s n w i code) := by
  unfold State.refetchFails
  with_reducible repeat' (first | assumption | intro _ | apply keeps_State_refetchFrom | apply keeps_State_sourceFails)

theorem keeps_State_refetches {s0 s : State} (n : Nat) (h : Keeps s0 s) :
    Keeps s0 (State.refetches s n) := by
  unfold State.refetches
  with_reducible repeat' (first | assumption | intro _ | apply keeps_forAll | apply keeps_State_refetchFrom | apply keeps_ite)

theorem keeps_State_refetched {s0 s : State} (n : Nat) (w : Nat) (i : Nat) (plain : List Sys2Proof.Byte) (h : Keeps s0 s) :
    Keeps s0 (State.refetched s n w i plain) := by
  unfold State.refetched
  with_reducible repeat' (first | assumption | intro _ | apply keeps_State_writeRegion | apply keeps_State_writeS | apply keeps_State_onWset | apply keeps_State_raise | apply keeps_State_bump | apply keeps_State_refetches | apply keeps_State_endHold | apply keeps_ite | apply keeps_ite_fst | apply keeps_forAll | apply keeps_foldl | apply keeps_foldl_fst | (apply keeps_of_fst; assumption) | (apply keeps_of_snd; assumption) | dsimp only | split | (apply keeps_mk; first | assumption | apply keeps_State_writeRegion | apply keeps_State_writeS | apply keeps_State_onWset | apply keeps_State_raise | apply keeps_State_bump | apply keeps_State_refetches | apply keeps_State_endHold | apply keeps_ite | apply keeps_forAll | apply keeps_foldl))

theorem keeps_State_shardArrives {s0 s1 : State} (n : Nat) (w : Nat) (shard : Nat) (data : List Sys2Proof.Byte) (h : Keeps s0 s1) :
    Keeps s0 (State.shardArrives s1 n w shard data) := by
  unfold State.shardArrives
  with_reducible repeat' (first | assumption | intro _ | apply keeps_State_refetchFails | apply keeps_State_fetchSome | apply keeps_State_fetchFrom | apply keeps_State_sourceFails | apply keeps_State_refetched | apply keeps_State_writeRegion | apply keeps_State_copyShardToS | apply keeps_State_setReady | apply keeps_State_shardResident | apply keeps_ite | apply keeps_ite_fst | apply keeps_forAll | apply keeps_foldl | apply keeps_foldl_fst | (apply keeps_of_fst; assumption) | (apply keeps_of_snd; assumption) | dsimp only | split | (apply keeps_mk; first | assumption | apply keeps_State_refetchFails | apply keeps_State_fetchSome | apply keeps_State_fetchFrom | apply keeps_State_sourceFails | apply keeps_State_refetched | apply keeps_State_writeRegion | apply keeps_State_copyShardToS | apply keeps_State_setReady | apply keeps_State_shardResident | apply keeps_ite | apply keeps_forAll | apply keeps_foldl))

theorem keeps_State_wantAll {s0 s : State} (n : Nat) (w : Nat) (h : Keeps s0 s) :
    Keeps s0 (State.wantAll s n w) := by
  unfold State.wantAll
  with_reducible repeat' (first | assumption | intro _ | apply keeps_State_fetchSome | apply keeps_State_onWset)

theorem keeps_State_withoutSets {s0 s : State} (n : Nat) (l : List Nat) (h : Keeps s0 s) :
    Keeps s0 (State.withoutSets s n l) := by
  unfold State.withoutSets
  with_reducible repeat' (first | assumption | intro _ | apply keeps_forAll | apply keeps_State_regionFlag)

theorem keeps_execHoldLimitExpiry {s0 s : State} (n : Fin 12) (w : Fin 8) (y2 : Nat) (h : Keeps s0 s) :
    KeepsOut s0 (execHoldLimitExpiry n w y2 s) := by
  unfold execHoldLimitExpiry
  with_reducible repeat' (first | assumption | intro _ | apply keepsOut_next | apply keeps_State_at | apply keeps_State_raise | apply keeps_State_onWset | apply keeps_State_failSet | apply keeps_ite | apply keeps_ite_fst | apply keeps_forAll | apply keeps_foldl | apply keeps_foldl_fst | (apply keeps_of_fst; assumption) | (apply keeps_of_snd; assumption) | dsimp only | split)

theorem keeps_execRefetchComplete {s0 s : State} (n : Fin 12) (w : Fin 8) (shard : Nat) (ok : Bool) (y4 : Nat) (h : Keeps s0 s) :
    KeepsOut s0 (execRefetchComplete n w shard ok y4 s) := by
  unfold execRefetchComplete
  with_reducible repeat' (first | assumption | intro _ | apply keepsOut_next | apply keeps_State_refetches | apply keeps_State_at | apply keeps_State_refetched | apply keeps_State_refetchFails | apply keeps_ite | apply keeps_ite_fst | apply keeps_forAll | apply keeps_foldl | apply keeps_foldl_fst | (apply keeps_of_fst; assumption) | (apply keeps_of_snd; assumption) | dsimp only | split | (apply keeps_mk; first | assumption | apply keeps_State_refetches | apply keeps_State_at | apply keeps_State_refetched | apply keeps_State_refetchFails | apply keeps_ite | apply keeps_forAll | apply keeps_foldl))

theorem keeps_execShardArrival {s0 s : State} (n : Fin 12) (w : Fin 8) (shard : Nat) (data : List Sys2Proof.Byte) (y4 : Nat) (h : Keeps s0 s) :
    KeepsOut s0 (execShardArrival n w shard data y4 s) := by
  unfold execShardArrival
  with_reducible repeat' (first | assumption | intro _ | apply keepsOut_next | apply keeps_State_shardArrives | apply keeps_State_refetches | apply keeps_State_at)

end Sys2Proof.Laws
end

