-- ==== Sys2Proof/Laws/KeepsSpares.lean ====
section
/-!
SUPPORT. Every operation of Machine/Spares.lean keeps the queue and the canonical memory.
-/
namespace Sys2Proof.Laws
open Sys2Proof.Machine

theorem keeps_State_startMigration {s0 s : State} (k : Nat) (logical : Nat) (h : Keeps s0 s) :
    Keeps s0 (State.startMigration s k logical) := by
  unfold State.startMigration
  with_reducible repeat' (first | assumption | intro _ | apply keeps_State_onRick | apply keeps_State_raise | apply keeps_ite | apply keeps_ite_fst | apply keeps_forAll | apply keeps_foldl | apply keeps_foldl_fst | (apply keeps_of_fst; assumption) | (apply keeps_of_snd; assumption) | dsimp only | split)

theorem keeps_State_channelBoundary {s0 s : State} (n : Nat) (h : Keeps s0 s) :
    Keeps s0 (State.channelBoundary s n) := by
  unfold State.channelBoundary
  with_reducible repeat' (first | assumption | intro _ | apply keeps_forAll | apply keeps_State_onRick | apply keeps_State_raise | apply keeps_State_startMigration | apply keeps_ite | apply keeps_ite_fst | apply keeps_foldl | apply keeps_foldl_fst | (apply keeps_of_fst; assumption) | (apply keeps_of_snd; assumption) | dsimp only | split)

theorem keeps_State_countBursts {s0 s : State} (k : Nat) (offs : List Nat) (h : Keeps s0 s) :
    Keeps s0 (State.countBursts s k offs) := by
  unfold State.countBursts
  with_reducible repeat' (first | assumption | intro _ | apply keeps_forAll | apply keeps_State_onRick | apply keeps_State_startMigration | apply keeps_State_limitEvent | apply keeps_ite)

theorem keeps_State_countUncured {s0 s : State} (k : Nat) (o : Nat) (h : Keeps s0 s) :
    Keeps s0 (State.countUncured s k o) := by
  unfold State.countUncured
  with_reducible repeat' (first | assumption | intro _ | apply keeps_State_onRick | apply keeps_State_startMigration | apply keeps_State_limitEvent | apply keeps_ite)

theorem keeps_State_decideSpare {s0 s : State} (f : Spare → Spare) (h : Keeps s0 s) :
    Keeps s0 (State.decideSpare s f) := by
  unfold State.decideSpare
  with_reducible repeat' (first | assumption | intro _ | apply keeps_ite | apply keeps_ite_fst | apply keeps_forAll | apply keeps_foldl | apply keeps_foldl_fst | (apply keeps_of_fst; assumption) | (apply keeps_of_snd; assumption) | dsimp only | split | (apply keeps_mk; first | assumption | apply keeps_ite | apply keeps_forAll | apply keeps_foldl))

theorem keeps_State_retire {s0 s : State} (g : Nat) (faulted : Bool) (h : Keeps s0 s) :
    Keeps s0 (State.retire s g faulted) := by
  unfold State.retire
  with_reducible repeat' (first | assumption | intro _ | apply keeps_State_decideSpare | apply keeps_State_degrade | apply keeps_State_raise | apply keeps_ite | apply keeps_ite_fst | apply keeps_forAll | apply keeps_foldl | apply keeps_foldl_fst | (apply keeps_of_fst; assumption) | (apply keeps_of_snd; assumption) | dsimp only | split | (apply keeps_mk; first | assumption | apply keeps_State_decideSpare | apply keeps_State_degrade | apply keeps_State_raise | apply keeps_ite | apply keeps_forAll | apply keeps_foldl))

theorem keeps_State_remapOne {s0 s : State} (n : Nat) (m : Spare) (l : Nat) (h : Keeps s0 s) :
    Keeps s0 (State.remapOne s n m l) := by
  unfold State.remapOne
  with_reducible repeat' (first | assumption | intro _ | apply keeps_State_onHearth | apply keeps_State_copyRange | apply keeps_State_onPart | apply keeps_State_zeroRange | apply keeps_ite | apply keeps_ite_fst | apply keeps_forAll | apply keeps_foldl | apply keeps_foldl_fst | (apply keeps_of_fst; assumption) | (apply keeps_of_snd; assumption) | dsimp only | split | (apply keeps_mk; first | assumption | apply keeps_State_onHearth | apply keeps_State_copyRange | apply keeps_State_onPart | apply keeps_State_zeroRange | apply keeps_ite | apply keeps_forAll | apply keeps_foldl))

theorem keeps_State_remapAll {s0 s : State} (n : Nat) (m : Spare) (h : Keeps s0 s) :
    Keeps s0 (State.remapAll s n m) := by
  unfold State.remapAll
  with_reducible repeat' (first | assumption | intro _ | apply keeps_forAll | apply keeps_State_remapOne)

theorem keeps_State_substitute {s0 s : State} (g : Nat) (a : Nat) (bitno : Nat) (field : Nat) (v : Nat) (h : Keeps s0 s) :
    Keeps s0 (State.substitute s g a bitno field v) := by
  unfold State.substitute
  with_reducible repeat' (first | assumption | intro _ | apply keeps_State_setBlob | apply keeps_State_raise | apply keeps_State_decideSpare | apply keeps_ite)

theorem keeps_State_diagnose {s0 s : State} (n : Nat) (g : Nat) (a : Nat) (inPause : Bool) (h : Keeps s0 s) :
    Keeps s0 (State.diagnose s n g a inPause) := by
  unfold State.diagnose
  with_reducible repeat' (first | assumption | intro _ | apply keeps_State_retire | apply keeps_State_remapAll | apply keeps_State_hearthMism | apply keeps_State_substitute | apply keeps_ite | apply keeps_ite_fst | apply keeps_forAll | apply keeps_foldl | apply keeps_foldl_fst | (apply keeps_of_fst; assumption) | (apply keeps_of_snd; assumption) | dsimp only | split | (apply keeps_mk; first | assumption | apply keeps_State_retire | apply keeps_State_remapAll | apply keeps_State_hearthMism | apply keeps_State_substitute | apply keeps_ite | apply keeps_forAll | apply keeps_foldl))

theorem keeps_State_lastChan {s0 s : State} (k : Nat) (h : Keeps s0 s) :
    Keeps s0 (State.lastChan s k) := by
  unfold State.lastChan
  with_reducible repeat' (first | assumption | intro _ | apply keeps_State_raise | apply keeps_ite)

theorem keeps_State_refillPage {s0 s : State} (n : Nat) (k : Nat) (p : Nat) (h : Keeps s0 s) :
    Keeps s0 (State.refillPage s n k p) := by
  unfold State.refillPage
  with_reducible repeat' (first | assumption | intro _ | apply keeps_State_store | apply keeps_State_raise | apply keeps_State_onWset | apply keeps_ite | apply keeps_ite_fst | apply keeps_forAll | apply keeps_foldl | apply keeps_foldl_fst | (apply keeps_of_fst; assumption) | (apply keeps_of_snd; assumption) | dsimp only | split | (apply keeps_mk; first | assumption | apply keeps_State_store | apply keeps_State_raise | apply keeps_State_onWset | apply keeps_ite | apply keeps_forAll | apply keeps_foldl))

theorem keeps_State_poisonStackPage {s0 s : State} (n : Nat) (k : Nat) (p : Nat) (refill : Bool) (h : Keeps s0 s) :
    Keeps s0 (State.poisonStackPage s n k p refill) := by
  unfold State.poisonStackPage
  with_reducible repeat' (first | assumption | intro _ | apply keeps_State_poisonPage | apply keeps_State_refillPage | apply keeps_State_turnFail | apply keeps_State_refetches | apply keeps_State_poisonShard | apply keeps_State_poisonKvPage | apply keeps_ite | apply keeps_ite_fst | apply keeps_forAll | apply keeps_foldl | apply keeps_foldl_fst | (apply keeps_of_fst; assumption) | (apply keeps_of_snd; assumption) | dsimp only | split)

theorem keeps_State_retireDue {s0 s : State} (n : Nat) (h : Keeps s0 s) :
    Keeps s0 (State.retireDue s n) := by
  unfold State.retireDue
  with_reducible repeat' (first | assumption | intro _ | apply keeps_forAll | apply keeps_State_retire)

theorem keeps_execChannelFailure {s0 s : State} (k : Fin 12) (ch : Nat) (y2 : Nat) (h : Keeps s0 s) :
    KeepsOut s0 (execChannelFailure k ch y2 s) := by
  unfold execChannelFailure
  with_reducible repeat' (first | assumption | intro _ | apply keepsOut_next | apply keeps_State_at | apply keeps_State_lastChan | apply keeps_State_decideSpare | apply keeps_State_degrade | apply keeps_State_raise | apply keeps_forAll | apply keeps_State_poisonStackPage | apply keeps_ite | apply keeps_ite_fst | apply keeps_foldl | apply keeps_foldl_fst | (apply keeps_of_fst; assumption) | (apply keeps_of_snd; assumption) | dsimp only | split)

theorem keeps_execRowRepair {s0 s : State} (k : Fin 12) (y1 : Nat) (h : Keeps s0 s) :
    KeepsOut s0 (execRowRepair k y1 s) := by
  unfold execRowRepair
  with_reducible repeat' (first | assumption | intro _ | apply keepsOut_next | apply keeps_State_at | apply keeps_State_raise | apply keeps_State_decideSpare | apply keeps_ite | apply keeps_ite_fst | apply keeps_forAll | apply keeps_foldl | apply keeps_foldl_fst | (apply keeps_of_fst; assumption) | (apply keeps_of_snd; assumption) | dsimp only | split)

theorem keeps_execSpareManifestStore {s0 s : State} (ok : Bool) (y1 : Nat) (h : Keeps s0 s) :
    KeepsOut s0 (execSpareManifestStore ok y1 s) := by
  unfold execSpareManifestStore
  with_reducible repeat' (first | assumption | intro _ | apply keepsOut_next | apply keeps_State_at | apply keeps_State_setNum | apply keeps_forAll | apply keeps_State_raise | apply keeps_State_onRick | apply keeps_ite | apply keeps_ite_fst | apply keeps_foldl | apply keeps_foldl_fst | (apply keeps_of_fst; assumption) | (apply keeps_of_snd; assumption) | dsimp only | split | (apply keeps_mk; first | assumption | apply keeps_State_at | apply keeps_State_setNum | apply keeps_forAll | apply keeps_State_raise | apply keeps_State_onRick | apply keeps_ite | apply keeps_foldl))

theorem keeps_execSubstrateChannelFailure {s0 s : State} (k : Fin 12) (ch : Nat) (y2 : Nat) (h : Keeps s0 s) :
    KeepsOut s0 (execSubstrateChannelFailure k ch y2 s) := by
  unfold execSubstrateChannelFailure
  with_reducible repeat' (first | assumption | intro _ | apply keepsOut_next | apply keeps_State_at | apply keeps_State_raise | apply keeps_State_decideSpare | apply keeps_State_onRick | apply keeps_ite)

end Sys2Proof.Laws
end

