-- ==== Sys2Proof/Laws/KeepsTasks.lean ====
section
/-!
SUPPORT. Every operation of Machine/Tasks.lean keeps the queue and the canonical memory.
-/
namespace Sys2Proof.Laws
open Sys2Proof.Machine

theorem keeps_State_flushHeads {s0 s : State} (n : Nat) (y2 : List FlushReq) (h : Keeps s0 s) :
    Keeps s0 (State.flushHeads s n y2) := by
  induction y2 generalizing s n with
  | nil => rw [State.flushHeads]; with_reducible repeat' (first | assumption | intro _ | apply keeps_State_onPart)
  | cons x r ih =>
    rw [State.flushHeads]
    with_reducible repeat' (first | assumption | intro _ | apply ih | apply keeps_State_onPart | apply keeps_State_setNum | apply keeps_State_raise | apply keeps_ite | apply keeps_ite_fst | apply keeps_forAll | apply keeps_foldl | apply keeps_foldl_fst | (apply keeps_of_fst; assumption) | (apply keeps_of_snd; assumption) | dsimp only | split)


theorem keeps_State_flushDone {s0 s : State} (n : Nat) (h : Keeps s0 s) :
    Keeps s0 (State.flushDone s n) := by
  unfold State.flushDone
  with_reducible repeat' (first | assumption | intro _ | apply keeps_State_flushHeads)

theorem keeps_State_poisonTierSPage {s0 s : State} (n : Nat) (p : Nat) (h : Keeps s0 s) :
    Keeps s0 (State.poisonTierSPage s n p) := by
  unfold State.poisonTierSPage
  with_reducible repeat' (first | assumption | intro _ | apply keeps_State_poisonPage | apply keeps_State_refetches | apply keeps_State_poisonShard | apply keeps_ite | apply keeps_ite_fst | apply keeps_forAll | apply keeps_foldl | apply keeps_foldl_fst | (apply keeps_of_fst; assumption) | (apply keeps_of_snd; assumption) | dsimp only | split)

theorem keeps_State_recheck {s0 s : State} (n : Nat) (w : Nat) (i : Nat) (tierS : Bool) (h : Keeps s0 s) :
    Keeps s0 (State.recheck s n w i tierS) := by
  unfold State.recheck
  with_reducible repeat' (first | assumption | intro _ | apply keeps_State_onWset | apply keeps_State_refetches | apply keeps_State_poisonShard | apply keeps_ite)

theorem keeps_State_scrubWords {s0 s : State} (a : Nat) (n : Nat) (h : Keeps s0 s) :
    Keeps s0 (State.scrubWords s a n).1 := by
  unfold State.scrubWords
  with_reducible repeat' (first | assumption | intro _ | apply keeps_ite | apply keeps_ite_fst | apply keeps_forAll | apply keeps_foldl | apply keeps_foldl_fst | (apply keeps_of_fst; assumption) | (apply keeps_of_snd; assumption) | dsimp only | split | (apply keeps_mk; first | assumption | apply keeps_ite | apply keeps_forAll | apply keeps_foldl))

theorem keeps_State_scrubB {s0 s : State} (n : Nat) (d : Nat) (h : Keeps s0 s) :
    Keeps s0 (State.scrubB s n d) := by
  unfold State.scrubB
  with_reducible repeat' (first | assumption | intro _ | apply keeps_forAll | apply keeps_State_scrubWords | apply keeps_State_countBursts | apply keeps_State_countUncured | apply keeps_State_poisonStackPage)

theorem keeps_State_scrubHearth {s0 s : State} (g : Nat) (h : Keeps s0 s) :
    Keeps s0 (State.scrubHearth s g) := by
  unfold State.scrubHearth
  with_reducible repeat' (first | assumption | intro _ | apply keeps_State_scrubWords | apply keeps_State_hearthCe | apply keeps_State_hearthUe | apply keeps_ite | apply keeps_ite_fst | apply keeps_forAll | apply keeps_foldl | apply keeps_foldl_fst)

theorem keeps_State_scrubS {s0 s : State} (n : Nat) (d : Nat) (h : Keeps s0 s) :
    Keeps s0 (State.scrubS s n d) := by
  unfold State.scrubS
  with_reducible repeat' (first | assumption | intro _ | apply keeps_forAll | apply keeps_State_scrubWords | apply keeps_State_poisonTierSPage)

theorem keeps_State_setTask {s0 s : State} (n : Nat) (k : Nat) (y3 : Task) (h : Keeps s0 s) :
    Keeps s0 (State.setTask s n k y3) := by
  unfold State.setTask
  with_reducible repeat' (first | assumption | intro _ | apply keeps_State_onPart)

theorem keeps_State_unitDone {s0 s : State} (n : Nat) (k : Nat) (h : Keeps s0 s) :
    Keeps s0 (State.unitDone s n k) := by
  unfold State.unitDone
  with_reducible repeat' (first | assumption | intro _ | apply keeps_State_setTask)

theorem keeps_State_writeBack {s0 s : State} (n : Nat) (r : Nat) (off : Nat) (h : Keeps s0 s) :
    Keeps s0 (State.writeBack s n r off) := by
  unfold State.writeBack
  with_reducible repeat' (first | assumption | intro _ | apply keeps_State_bump | apply keeps_State_poisonPage | apply keeps_State_writeS | apply keeps_ite | apply keeps_ite_fst | apply keeps_forAll | apply keeps_foldl | apply keeps_foldl_fst | (apply keeps_of_fst; assumption) | (apply keeps_of_snd; assumption) | dsimp only | split | (apply keeps_mk; first | assumption | apply keeps_State_bump | apply keeps_State_poisonPage | apply keeps_State_writeS | apply keeps_ite | apply keeps_forAll | apply keeps_foldl))

theorem keeps_execAgingMonitorUnit {s0 s : State} (n : Fin 12) (y1 : Nat) (h : Keeps s0 s) :
    KeepsOut s0 (execAgingMonitorUnit n y1 s) := by
  unfold execAgingMonitorUnit
  with_reducible repeat' (first | assumption | intro _ | apply keepsOut_next | apply keeps_State_at | apply keeps_State_draw | apply keeps_State_onHearth | apply keeps_State_hearthDue | apply keeps_State_unitDone | apply keeps_ite)

theorem keeps_execArrayCheckUnit {s0 s : State} (n : Fin 12) (y1 : Nat) (h : Keeps s0 s) :
    KeepsOut s0 (execArrayCheckUnit n y1 s) := by
  unfold execArrayCheckUnit
  with_reducible repeat' (first | assumption | intro _ | apply keepsOut_next | apply keeps_State_at | apply keeps_State_onPart | apply keeps_State_limitEvent | apply keeps_State_unitDone | apply keeps_ite)

theorem keeps_execCalibrationUnit {s0 s : State} (n : Fin 12) (y1 : Nat) (h : Keeps s0 s) :
    KeepsOut s0 (execCalibrationUnit n y1 s) := by
  unfold execCalibrationUnit
  with_reducible repeat' (first | assumption | intro _ | apply keepsOut_next | apply keeps_State_at | apply keeps_State_unitDone | apply keeps_ite)

theorem keeps_execChannelMigrationUnit {s0 s : State} (n : Fin 12) (y1 : Nat) (h : Keeps s0 s) :
    KeepsOut s0 (execChannelMigrationUnit n y1 s) := by
  unfold execChannelMigrationUnit
  with_reducible repeat' (first | assumption | intro _ | apply keepsOut_next | apply keeps_State_at | apply keeps_forAll | apply keeps_State_poisonStackPage | apply keeps_State_onRick | apply keeps_State_lastChan | apply keeps_State_decideSpare | apply keeps_ite | apply keeps_ite_fst | apply keeps_foldl | apply keeps_foldl_fst | (apply keeps_of_fst; assumption) | (apply keeps_of_snd; assumption) | dsimp only | split)

theorem keeps_execDigestRecheck {s0 s : State} (n : Fin 12) (y1 : Nat) (h : Keeps s0 s) :
    KeepsOut s0 (execDigestRecheck n y1 s) := by
  unfold execDigestRecheck
  with_reducible repeat' (first | assumption | intro _ | apply keepsOut_next | apply keeps_State_recheck | apply keeps_State_unitDone | apply keeps_State_at | apply keeps_State_onWset | apply keeps_State_setTask | apply keeps_ite | apply keeps_ite_fst | apply keeps_forAll | apply keeps_foldl | apply keeps_foldl_fst | (apply keeps_of_fst; assumption) | (apply keeps_of_snd; assumption) | dsimp only | split)


theorem keeps_execKvReleaseUnit {s0 s : State} (n : Fin 12) (y1 : Nat) (h : Keeps s0 s) :
    KeepsOut s0 (execKvReleaseUnit n y1 s) := by
  unfold execKvReleaseUnit
  with_reducible repeat' (first | assumption | intro _ | apply keepsOut_next | apply keeps_State_at | apply keeps_State_releaseOne | apply keeps_ite)

theorem keeps_execPassOverdue {s0 s : State} (n : Fin 12) (task : Nat) (y2 : Nat) (h : Keeps s0 s) :
    KeepsOut s0 (execPassOverdue n task y2 s) := by
  unfold execPassOverdue
  with_reducible repeat' (first | assumption | intro _ | apply keepsOut_next | apply keeps_State_at | apply keeps_State_raise | apply keeps_State_bump | apply keeps_State_setTask | apply keeps_ite)

theorem keeps_execScrubUnit {s0 s : State} (n : Fin 12) (y1 : Nat) (h : Keeps s0 s) :
    KeepsOut s0 (execScrubUnit n y1 s) := by
  unfold execScrubUnit
  with_reducible repeat' (first | assumption | intro _ | apply keepsOut_next | apply keeps_State_at | apply keeps_State_scrubHearth | apply keeps_State_scrubB | apply keeps_State_scrubS | apply keeps_State_unitDone | apply keeps_ite | apply keeps_ite_fst | apply keeps_forAll | apply keeps_foldl | apply keeps_foldl_fst | (apply keeps_of_fst; assumption) | (apply keeps_of_snd; assumption) | dsimp only | split)

theorem keeps_execTelemetryUnit {s0 s : State} (n : Fin 12) (y1 : Nat) (h : Keeps s0 s) :
    KeepsOut s0 (execTelemetryUnit n y1 s) := by
  unfold execTelemetryUnit
  with_reducible repeat' (first | assumption | intro _ | apply keepsOut_next | apply keeps_State_at | apply keeps_State_unitDone | apply keeps_ite)

theorem keeps_execWriteBackPage {s0 s : State} (n : Fin 12) (y1 : Nat) (h : Keeps s0 s) :
    KeepsOut s0 (execWriteBackPage n y1 s) := by
  unfold execWriteBackPage
  with_reducible repeat' (first | assumption | intro _ | apply keepsOut_next | apply keeps_State_at | apply keeps_State_onPart | apply keeps_State_writeBack | apply keeps_State_flushDone | apply keeps_ite | apply keeps_ite_fst | apply keeps_forAll | apply keeps_foldl | apply keeps_foldl_fst | (apply keeps_of_fst; assumption) | (apply keeps_of_snd; assumption) | dsimp only | split)

end Sys2Proof.Laws
end

