-- ==== Sys2Proof/Laws/KeepsEpochs.lean ====
section
/-!
SUPPORT. Every operation of Machine/Epochs.lean keeps the queue and the canonical memory.
-/
namespace Sys2Proof.Laws
open Sys2Proof.Machine

theorem keeps_State_restart {s0 s : State} (n : Nat) (i : Nat) (e : Nat) (h : Keeps s0 s) :
    Keeps s0 (State.restart s n i e) := by
  unfold State.restart
  with_reducible repeat' (first | assumption | intro _ | apply keeps_State_raise | apply keeps_State_endRequest | apply keeps_State_audit | apply keeps_State_releaseList | apply keeps_State_setRf | apply keeps_State_onRx | apply keeps_ite | apply keeps_ite_fst)

theorem keeps_State_restartAll {s0 s : State} (n : Nat) (e : Nat) (l : List Nat) (h : Keeps s0 s) :
    Keeps s0 (State.restartAll s n e l) := by
  unfold State.restartAll
  with_reducible repeat' (first | assumption | intro _ | apply keeps_forAll | apply keeps_State_restart)

theorem keeps_State_clearPending {s0 s : State} (n : Nat) (j : Nat) (h : Keeps s0 s) :
    Keeps s0 (State.clearPending s n j) := by
  unfold State.clearPending
  with_reducible repeat' (first | assumption | intro _ | apply keeps_State_setNum | apply keeps_State_onJob)

theorem keeps_State_applySwitch {s0 s : State} (n : Nat) (j : Nat) (w : Nat) (h : Keeps s0 s) :
    Keeps s0 (State.applySwitch s n j w) := by
  unfold State.applySwitch
  with_reducible repeat' (first | assumption | intro _ | apply keeps_State_raise | apply keeps_State_clearPending | apply keeps_State_setNum | apply keeps_State_onWset | apply keeps_State_setJobEpoch | apply keeps_State_onJob | apply keeps_State_restartAll | apply keeps_State_turnDone | apply keeps_ite)

theorem keeps_State_action4 {s0 s : State} (n : Nat) (j : Nat) (h : Keeps s0 s) :
    Keeps s0 (State.action4 s n j) := by
  unfold State.action4
  with_reducible repeat' (first | assumption | intro _ | apply keeps_State_endDrain | apply keeps_State_raise | apply keeps_State_restartAll | apply keeps_State_applySwitch | apply keeps_ite | apply keeps_ite_fst | apply keeps_forAll | apply keeps_foldl | apply keeps_foldl_fst | (apply keeps_of_fst; assumption) | (apply keeps_of_snd; assumption) | dsimp only | split)

end Sys2Proof.Laws
end

