-- ==== Sys2Proof/Laws/KeepsHalts.lean ====
section
/-!
SUPPORT. Every operation of Machine/Halts.lean keeps the queue and the canonical memory.
-/
namespace Sys2Proof.Laws
open Sys2Proof.Machine

theorem keeps_State_endTrace {s0 s : State} (n : Nat) (h : Keeps s0 s) :
    Keeps s0 (State.endTrace s n) := by
  unfold State.endTrace
  with_reducible repeat' (first | assumption | intro _ | apply keeps_State_raise | apply keeps_State_onPart | apply keeps_ite)

theorem keeps_State_resume {s0 s : State} (n : Nat) (run : Nat) (h : Keeps s0 s) :
    Keeps s0 (State.resume s n run) := by
  unfold State.resume
  with_reducible repeat' (first | assumption | intro _ | apply keeps_State_onPart | apply keeps_State_unset | apply keeps_State_raise | apply keeps_State_markAll | apply keeps_ite | apply keeps_ite_fst | apply keeps_forAll | apply keeps_foldl | apply keeps_foldl_fst | (apply keeps_of_fst; assumption) | (apply keeps_of_snd; assumption) | dsimp only | split)

theorem keeps_State_applyConsent {s0 s : State} (n : Nat) (h : Keeps s0 s) :
    Keeps s0 (State.applyConsent s n) := by
  unfold State.applyConsent
  with_reducible repeat' (first | assumption | intro _ | apply keeps_State_setNum | apply keeps_State_endTrace | apply keeps_State_onPart | apply keeps_State_resume | apply keeps_ite)

theorem keeps_State_consentSoon {s0 s : State} (n : Nat) (h : Keeps s0 s) :
    Keeps s0 (State.consentSoon s n) := by
  unfold State.consentSoon
  with_reducible repeat' (first | assumption | intro _ | apply keeps_State_applyConsent | apply keeps_ite)

theorem keeps_State_haltNow {s0 s : State} (n : Nat) (h : Keeps s0 s) :
    Keeps s0 (State.haltNow s n) := by
  unfold State.haltNow
  with_reducible repeat' (first | assumption | intro _ | apply keeps_State_markAll | apply keeps_State_setBlob | apply keeps_State_onPart | apply keeps_State_raise | apply keeps_State_bump | apply keeps_ite | apply keeps_ite_fst | apply keeps_forAll | apply keeps_foldl | apply keeps_foldl_fst | (apply keeps_of_fst; assumption) | (apply keeps_of_snd; assumption) | dsimp only | split)

theorem keeps_execHaltLimitExpiry {s0 s : State} (n : Fin 12) (y1 : Nat) (h : Keeps s0 s) :
    KeepsOut s0 (execHaltLimitExpiry n y1 s) := by
  unfold execHaltLimitExpiry
  with_reducible repeat' (first | assumption | intro _ | apply keepsOut_next | apply keeps_State_at | apply keeps_State_raise | apply keeps_State_resume | apply keeps_ite | apply keeps_ite_fst | apply keeps_forAll | apply keeps_foldl | apply keeps_foldl_fst | (apply keeps_of_fst; assumption) | (apply keeps_of_snd; assumption) | dsimp only | split)

theorem keeps_execHaltStop {s0 s : State} (n : Fin 12) (y1 : Nat) (h : Keeps s0 s) :
    KeepsOut s0 (execHaltStop n y1 s) := by
  unfold execHaltStop
  with_reducible repeat' (first | assumption | intro _ | apply keepsOut_next | apply keeps_State_at | apply keeps_State_haltNow | apply keeps_ite | apply keeps_ite_fst | apply keeps_forAll | apply keeps_foldl | apply keeps_foldl_fst | (apply keeps_of_fst; assumption) | (apply keeps_of_snd; assumption) | dsimp only | split)

end Sys2Proof.Laws
end

