-- ==== Sys2Proof/Laws/KeepsPowerState.lean ====
section
/-!
SUPPORT. Every operation of Machine/PowerState.lean keeps the queue and the canonical memory.
-/
namespace Sys2Proof.Laws
open Sys2Proof.Machine

theorem keeps_State_clockJudged {s0 s : State} (n : Nat) (h : Keeps s0 s) :
    Keeps s0 (State.clockJudged s n) := by
  unfold State.clockJudged
  with_reducible repeat' (first | assumption | intro _ | apply keeps_State_onPart | apply keeps_ite | apply keeps_ite_fst | apply keeps_forAll | apply keeps_foldl | apply keeps_foldl_fst | (apply keeps_of_fst; assumption) | (apply keeps_of_snd; assumption) | dsimp only | split)

theorem keeps_State_loadSdata {s0 s : State} (n : Nat) (j : Nat) (h : Keeps s0 s) :
    Keeps s0 (State.loadSdata s n j) := by
  unfold State.loadSdata
  with_reducible repeat' (first | assumption | intro _ | apply keeps_forAll | apply keeps_State_store)

theorem keeps_State_loadStreams {s0 s : State} (n : Nat) (j : Nat) (h : Keeps s0 s) :
    Keeps s0 (State.loadStreams s n j) := by
  unfold State.loadStreams
  with_reducible repeat' (first | assumption | intro _ | apply keeps_forAll | apply keeps_State_onHearth)

theorem keeps_State_onEport {s0 s : State} (e : Nat) (f : EPort → EPort) (h : Keeps s0 s) :
    Keeps s0 (State.onEport s e f) := by
  unfold State.onEport
  with_reducible repeat' (first | assumption | intro _ | apply keeps_ite | apply keeps_ite_fst | apply keeps_forAll | apply keeps_foldl | apply keeps_foldl_fst | (apply keeps_of_fst; assumption) | (apply keeps_of_snd; assumption) | dsimp only | split | (apply keeps_mk; first | assumption | apply keeps_ite | apply keeps_forAll | apply keeps_foldl))

theorem keeps_State_parkPorts {s0 s : State}  (h : Keeps s0 s) :
    Keeps s0 (State.parkPorts s) := by
  unfold State.parkPorts
  with_reducible repeat' (first | assumption | intro _ | apply keeps_forAll | apply keeps_State_onEport | apply keeps_State_setNum | apply keeps_ite | apply keeps_ite_fst | apply keeps_foldl | apply keeps_foldl_fst | (apply keeps_of_fst; assumption) | (apply keeps_of_snd; assumption) | dsimp only | split)

theorem keeps_State_waitWake {s0 s : State} (n : Nat) (h : Keeps s0 s) :
    Keeps s0 (State.waitWake s n) := by
  unfold State.waitWake
  with_reducible repeat' (first | assumption | intro _ | apply keeps_forAll | apply keeps_State_onRick)

theorem keeps_State_unparkPorts {s0 s : State}  (h : Keeps s0 s) :
    Keeps s0 (State.unparkPorts s) := by
  unfold State.unparkPorts
  with_reducible repeat' (first | assumption | intro _ | apply keeps_forAll | apply keeps_State_onEport | apply keeps_State_setNum)

theorem keeps_State_startWake {s0 s : State} (k : Nat) (h : Keeps s0 s) :
    Keeps s0 (State.startWake s k) := by
  unfold State.startWake
  with_reducible repeat' (first | assumption | intro _ | apply keeps_State_onRick)

theorem keeps_State_wakeLight {s0 s : State} (n : Nat) (cls : Nat) (h : Keeps s0 s) :
    Keeps s0 (State.wakeLight s n cls) := by
  unfold State.wakeLight
  with_reducible repeat' (first | assumption | intro _ | apply keeps_forAll | apply keeps_State_onRick | apply keeps_State_startWake | apply keeps_ite)

theorem keeps_State_unyield {s0 s : State} (n : Nat) (h : Keeps s0 s) :
    Keeps s0 (State.unyield s n) := by
  unfold State.unyield
  with_reducible repeat' (first | assumption | intro _ | apply keeps_forAll | apply keeps_State_onJob)

theorem keeps_State_wakePart {s0 s : State} (n : Nat) (cls : Nat) (h : Keeps s0 s) :
    Keeps s0 (State.wakePart s n cls) := by
  unfold State.wakePart
  with_reducible repeat' (first | assumption | intro _ | apply keeps_State_unyield | apply keeps_State_onPart | apply keeps_State_waitWake | apply keeps_State_unparkPorts | apply keeps_State_wakeLight | apply keeps_ite | apply keeps_ite_fst | apply keeps_forAll | apply keeps_foldl | apply keeps_foldl_fst | (apply keeps_of_fst; assumption) | (apply keeps_of_snd; assumption) | dsimp only | split)

theorem keeps_State_rechoose {s0 s : State}  (h : Keeps s0 s) :
    Keeps s0 (State.rechoose s) := by
  unfold State.rechoose
  with_reducible repeat' (first | assumption | intro _ | apply keeps_forAll | apply keeps_State_wakePart | apply keeps_ite)

theorem keeps_State_requestClock {s0 s : State} (n : Nat) (f : Nat) (h : Keeps s0 s) :
    Keeps s0 (State.requestClock s n f) := by
  unfold State.requestClock
  with_reducible repeat' (first | assumption | intro _ | apply keeps_State_setNum | apply keeps_State_onPart | apply keeps_forAll | apply keeps_State_onRick | apply keeps_State_clockJudged | apply keeps_ite)

theorem keeps_State_restoreJob {s0 s : State} (n : Nat) (j : Nat) (h : Keeps s0 s) :
    Keeps s0 (State.restoreJob s n j) := by
  unfold State.restoreJob
  with_reducible repeat' (first | assumption | intro _ | apply keeps_forAll | apply keeps_State_copyRange | apply keeps_ite | apply keeps_ite_fst | apply keeps_foldl | apply keeps_foldl_fst | (apply keeps_of_fst; assumption) | (apply keeps_of_snd; assumption) | dsimp only | split)

theorem keeps_State_restoreRick {s0 s : State} (n : Nat) (j : Nat) (k : Nat) (h : Keeps s0 s) :
    Keeps s0 (State.restoreRick s n j k) := by
  unfold State.restoreRick
  with_reducible repeat' (first | assumption | intro _ | apply keeps_forAll | apply keeps_State_copyRange | apply keeps_ite | apply keeps_ite_fst | apply keeps_foldl | apply keeps_foldl_fst | (apply keeps_of_fst; assumption) | (apply keeps_of_snd; assumption) | dsimp only | split)

theorem keeps_State_saveJob {s0 s : State} (n : Nat) (j : Nat) (h : Keeps s0 s) :
    Keeps s0 (State.saveJob s n j) := by
  unfold State.saveJob
  with_reducible repeat' (first | assumption | intro _ | apply keeps_forAll | apply keeps_State_copyRange | apply keeps_State_onJob | apply keeps_ite | apply keeps_ite_fst | apply keeps_foldl | apply keeps_foldl_fst | (apply keeps_of_fst; assumption) | (apply keeps_of_snd; assumption) | dsimp only | split)

theorem keeps_State_saveRick {s0 s : State} (n : Nat) (j : Nat) (k : Nat) (h : Keeps s0 s) :
    Keeps s0 (State.saveRick s n j k) := by
  unfold State.saveRick
  with_reducible repeat' (first | assumption | intro _ | apply keeps_State_onJob | apply keeps_forAll | apply keeps_State_copyRange | apply keeps_ite | apply keeps_ite_fst | apply keeps_foldl | apply keeps_foldl_fst | (apply keeps_of_fst; assumption) | (apply keeps_of_snd; assumption) | dsimp only | split)

theorem keeps_State_startEntry {s0 s : State} (n : Nat) (st : Nat) (h : Keeps s0 s) :
    Keeps s0 (State.startEntry s n st) := by
  unfold State.startEntry
  with_reducible repeat' (first | assumption | intro _ | apply keeps_forAll | apply keeps_State_onRick)

end Sys2Proof.Laws
end

