-- ==== Sys2Proof/Laws/KeepsOutcome.lean ====
section
/-!
SUPPORT. Every operation of Machine/Outcome.lean keeps the queue and the canonical memory.
-/
namespace Sys2Proof.Laws
open Sys2Proof.Machine

theorem keeps_State_commitBatch {s0 s : State} (n : Nat) (ad : List Sys2Proof.Byte) (l0 : List (Nat × Nat)) (h : Keeps s0 s) :
    Keeps s0 (State.commitBatch s n ad l0).1 := by
  unfold State.commitBatch
  with_reducible repeat' (first | assumption | intro _ | apply keeps_State_endRequest | apply keeps_State_commitSlot | apply keeps_ite | apply keeps_ite_fst | apply keeps_forAll | apply keeps_foldl | apply keeps_foldl_fst)

theorem keeps_State_takeFlush {s0 sa : State} (y0 : Nat) (y2 : Nat) (h : Keeps s0 sa) :
    Keeps s0 (State.takeFlush y0 sa y2) := by
  induction y0 generalizing sa y2 with
  | zero => rw [State.takeFlush]; with_reducible repeat' assumption
  | succ f ih =>
    rw [State.takeFlush]
    with_reducible repeat' (first | assumption | intro _ | apply ih | apply keeps_State_onPart | apply keeps_State_bump | apply keeps_State_raise | apply keeps_State_flushDone | apply keeps_ite | apply keeps_ite_fst | apply keeps_forAll | apply keeps_foldl | apply keeps_foldl_fst | (apply keeps_of_fst; assumption) | (apply keeps_of_snd; assumption) | dsimp only | split)


theorem keeps_State_nanCommit {s0 s : State} (n : Nat) (h : Keeps s0 s) :
    Keeps s0 (State.nanCommit s n) := by
  unfold State.nanCommit
  with_reducible repeat' (first | assumption | intro _ | apply keeps_State_bump | apply keeps_forAll | apply keeps_State_onHearth | apply keeps_State_raise | apply keeps_State_setBlob | apply keeps_ite | apply keeps_ite_fst | apply keeps_foldl | apply keeps_foldl_fst | (apply keeps_of_fst; assumption) | (apply keeps_of_snd; assumption) | dsimp only | split)

theorem keeps_State_statAlarm {s0 s : State} (n : Nat) (stepno : Nat) (recs : List (List Sys2Proof.Byte)) (h : Keeps s0 s) :
    Keeps s0 (State.statAlarm s n stepno recs) := by
  unfold State.statAlarm
  with_reducible repeat' (first | assumption | intro _ | apply keeps_State_raise | apply keeps_ite | apply keeps_ite_fst | apply keeps_forAll | apply keeps_foldl | apply keeps_foldl_fst | (apply keeps_of_fst; assumption) | (apply keeps_of_snd; assumption) | dsimp only | split)

theorem keeps_State_statBlock {s0 s : State} (n : Nat) (j : Nat) (stepno : Nat) (x : List Sys2Proof.Byte) (h : Keeps s0 s) :
    Keeps s0 (State.statBlock s n j stepno x) := by
  unfold State.statBlock
  with_reducible repeat' (first | assumption | intro _ | apply keeps_State_raise | apply keeps_State_bump | apply keeps_State_writeRegion | apply keeps_State_statAlarm | apply keeps_State_setNum | apply keeps_ite)

theorem keeps_State_lrCommit {s0 s : State} (n : Nat) (j : Nat) (stepno : Nat) (h : Keeps s0 s) :
    Keeps s0 (State.lrCommit s n j stepno) := by
  unfold State.lrCommit
  with_reducible repeat' (first | assumption | intro _ | apply keeps_State_setLr | apply keeps_State_turnCommitted | apply keeps_State_onJob)

theorem keeps_State_outcomeMark {s0 s : State} (n : Nat) (info : Nat) (h : Keeps s0 s) :
    Keeps s0 (State.outcomeMark s n info) := by
  unfold State.outcomeMark
  with_reducible repeat' (first | assumption | intro _ | apply keeps_State_markAll)

theorem keeps_State_commitStep {s0 s : State} (n : Nat) (h : Keeps s0 s) :
    Keeps s0 (State.commitStep s n) := by
  unfold State.commitStep
  with_reducible repeat' (first | assumption | intro _ | apply keeps_State_applyRings | apply keeps_State_freeReported | apply keeps_forAll | apply keeps_State_dropHandle | apply keeps_State_onPart | apply keeps_State_copyRange | apply keeps_State_kvCommit | apply keeps_State_commitBatch | apply keeps_State_bumpBy | apply keeps_State_takeFlush | apply keeps_State_nanCommit | apply keeps_State_statBlock | apply keeps_State_lrCommit | apply keeps_State_takeTerminals | apply keeps_State_takeRefused | apply keeps_State_publish | apply keeps_State_onJob | apply keeps_State_outcomeMark | apply keeps_State_onRick | apply keeps_ite | apply keeps_ite_fst | apply keeps_foldl | apply keeps_foldl_fst | (apply keeps_of_fst; assumption) | (apply keeps_of_snd; assumption) | dsimp only | split)

theorem keeps_State_discardStep {s0 s : State} (n : Nat) (h : Keeps s0 s) :
    Keeps s0 (State.discardStep s n) := by
  unfold State.discardStep
  with_reducible repeat' (first | assumption | intro _ | apply keeps_State_onJob | apply keeps_State_onPart | apply keeps_State_outcomeMark | apply keeps_State_discardAttempt)

theorem keeps_State_discardFault {s0 s : State} (n : Nat) (h : Keeps s0 s) :
    Keeps s0 (State.discardFault s n) := by
  unfold State.discardFault
  with_reducible repeat' (first | assumption | intro _ | apply keeps_State_unavailableTo | apply keeps_State_discardStep)

theorem keeps_State_setCheckLast {s0 s : State} (n : Nat) (h : Keeps s0 s) :
    Keeps s0 (State.setCheckLast s n) := by
  unfold State.setCheckLast
  with_reducible repeat' (first | assumption | intro _ | apply keeps_State_setBlob | apply keeps_ite | apply keeps_ite_fst | apply keeps_forAll | apply keeps_foldl | apply keeps_foldl_fst | (apply keeps_of_fst; assumption) | (apply keeps_of_snd; assumption) | dsimp only | split)

theorem keeps_State_unloadFault {s0 s : State} (n : Nat) (h : Keeps s0 s) :
    Keeps s0 (State.unloadFault s n) := by
  unfold State.unloadFault
  with_reducible repeat' (first | assumption | intro _ | apply keeps_State_unavailable | apply keeps_State_onPart | apply keeps_unloadJob)

theorem keeps_State_discardBy {s0 s : State} (n : Nat) (h : Keeps s0 s) :
    Keeps s0 (State.discardBy s n) := by
  unfold State.discardBy
  with_reducible repeat' (first | assumption | intro _ | apply keeps_unloadJob | apply keeps_State_onPart | apply keeps_State_discardFault | apply keeps_State_raise | apply keeps_State_setCheckLast | apply keeps_State_unloadFault | apply keeps_forAll | apply keeps_State_onRick | apply keeps_State_bump | apply keeps_ite)

theorem keeps_State_judgeWcet {s0 s : State} (n : Nat) (h : Keeps s0 s) :
    Keeps s0 (State.judgeWcet s n) := by
  unfold State.judgeWcet
  with_reducible repeat' (first | assumption | intro _ | apply keeps_State_bump | apply keeps_State_raise | apply keeps_ite)

theorem keeps_State_lrDiscard {s0 s : State} (n : Nat) (j : Nat) (kind : Nat) (h : Keeps s0 s) :
    Keeps s0 (State.lrDiscard s n j kind) := by
  unfold State.lrDiscard
  with_reducible repeat' (first | assumption | intro _ | apply keeps_State_setLr | apply keeps_State_raise | apply keeps_State_bump | apply keeps_State_onJob | apply keeps_ite)

theorem keeps_State_endAttempt {s0 s : State} (n : Nat) (h : Keeps s0 s) :
    Keeps s0 (State.endAttempt s n) := by
  unfold State.endAttempt
  with_reducible repeat' (first | assumption | intro _ | apply keeps_State_judgeWcet | apply keeps_State_discardBy | apply keeps_State_lrCommit | apply keeps_State_lrDiscard | apply keeps_State_fatalTrap | apply keeps_State_onPart | apply keeps_State_discardStep | apply keeps_State_raise | apply keeps_State_commitStep | apply keeps_ite | apply keeps_ite_fst | apply keeps_forAll | apply keeps_foldl | apply keeps_foldl_fst | (apply keeps_of_fst; assumption) | (apply keeps_of_snd; assumption) | dsimp only | split)

end Sys2Proof.Laws
end

