-- ==== Sys2Proof/Laws/KeepsBoundary.lean ====
section
/-!
SUPPORT. Every operation of Machine/Boundary.lean keeps the queue and the canonical memory.
-/
namespace Sys2Proof.Laws
open Sys2Proof.Machine

theorem keeps_State_startStep {s0 s : State} (n : Nat) (j : Nat) (h : Keeps s0 s) :
    Keeps s0 (State.startStep s n j) := by
  unfold State.startStep
  with_reducible repeat' (first | assumption | intro _ | apply keeps_State_onPart | apply keeps_forAll | apply keeps_State_onHearth | apply keeps_State_coreRecord | apply keeps_State_onWset | apply keeps_State_rearm | apply keeps_State_onJob | apply keeps_State_turnAttempt | apply keeps_State_kindledStep | apply keeps_State_unavailable | apply keeps_ite | apply keeps_ite_fst | apply keeps_foldl | apply keeps_foldl_fst | (apply keeps_of_fst; assumption) | (apply keeps_of_snd; assumption) | dsimp only | split)

theorem keeps_State_passGate {s0 s : State} (n : Nat) (j : Nat) (since : Nat) (h : Keeps s0 s) :
    Keeps s0 (State.passGate s n j since) := by
  unfold State.passGate
  with_reducible repeat' (first | assumption | intro _ | apply keeps_State_onPart | apply keeps_State_startStep | apply keeps_State_writeLearning)

theorem keeps_State_openGate {s0 s : State} (n : Nat) (j : Nat) (grp : Nat) (h : Keeps s0 s) :
    Keeps s0 (State.openGate s n j grp) := by
  unfold State.openGate
  with_reducible repeat' (first | assumption | intro _ | apply keeps_State_lrReady | apply keeps_State_lrFresh | apply keeps_State_passGate | apply keeps_State_onPart | apply keeps_ite)

theorem keeps_State_action8 {s0 s : State} (n : Nat) (j : Nat) (h : Keeps s0 s) :
    Keeps s0 (State.action8 s n j) := by
  unfold State.action8
  with_reducible repeat' (first | assumption | intro _ | apply keeps_State_onPart | apply keeps_State_applyDrains | apply keeps_State_takeMessages | apply keeps_State_admit | apply keeps_State_openGate | apply keeps_State_startStep | apply keeps_State_writeLearning | apply keeps_ite | apply keeps_ite_fst | apply keeps_forAll | apply keeps_foldl | apply keeps_foldl_fst | (apply keeps_of_fst; assumption) | (apply keeps_of_snd; assumption) | dsimp only | split)

theorem keeps_State_runResident {s0 s : State} (n : Nat) (j : Nat) (h : Keeps s0 s) :
    Keeps s0 (State.runResident s n j) := by
  unfold State.runResident
  with_reducible repeat' (first | assumption | intro _ | apply keeps_State_action8)

theorem keeps_State_passOver {s0 s : State} (n : Nat) (j : Nat) (h : Keeps s0 s) :
    Keeps s0 (State.passOver s n j) := by
  unfold State.passOver
  with_reducible repeat' (first | assumption | intro _ | apply keeps_forAll | apply keeps_State_wantAll | apply keeps_State_copyIn | apply keeps_State_giveSpans | apply keeps_State_beginEvict | apply keeps_State_raise | apply keeps_ite | apply keeps_ite_fst | apply keeps_foldl | apply keeps_foldl_fst | (apply keeps_of_fst; assumption) | (apply keeps_of_snd; assumption) | dsimp only | split)

theorem keeps_State_goIdle {s0 s : State} (n : Nat) (h : Keeps s0 s) :
    Keeps s0 (State.goIdle s n) := by
  unfold State.goIdle
  with_reducible repeat' (first | assumption | intro _ | apply keeps_State_turnSliceEnded | apply keeps_State_onPart | apply keeps_State_startEntry | apply keeps_ite | apply keeps_ite_fst | apply keeps_forAll | apply keeps_foldl | apply keeps_foldl_fst | (apply keeps_of_fst; assumption) | (apply keeps_of_snd; assumption) | dsimp only | split)

theorem keeps_State_newSlice {s0 s : State} (n : Nat) (j : Nat) (pos : Nat) (ms : Nat) (h : Keeps s0 s) :
    Keeps s0 (State.newSlice s n j pos ms) := by
  unfold State.newSlice
  with_reducible repeat' (first | assumption | intro _ | apply keeps_State_runResident | apply keeps_State_onPart)

theorem keeps_State_beginSwitch {s0 s : State} (n : Nat) (j : Nat) (pos : Nat) (ms : Nat) (idle : Bool) (h : Keeps s0 s) :
    Keeps s0 (State.beginSwitch s n j pos ms idle) := by
  unfold State.beginSwitch
  with_reducible repeat' (first | assumption | intro _ | apply keeps_State_turnSliceEnded | apply keeps_forAll | apply keeps_State_action4 | apply keeps_State_onPart | apply keeps_ite | apply keeps_ite_fst | apply keeps_foldl | apply keeps_foldl_fst | (apply keeps_of_fst; assumption) | (apply keeps_of_snd; assumption) | dsimp only | split)

theorem keeps_State_action7 {s0 s : State} (n : Nat) (idle : Bool) (h : Keeps s0 s) :
    Keeps s0 (State.action7 s n idle) := by
  unfold State.action7
  with_reducible repeat' (first | assumption | intro _ | apply keeps_State_runResident | apply keeps_forAll | apply keeps_State_passOver | apply keeps_State_goIdle | apply keeps_State_action4 | apply keeps_State_newSlice | apply keeps_State_beginSwitch | apply keeps_ite | apply keeps_ite_fst | apply keeps_foldl | apply keeps_foldl_fst | (apply keeps_of_fst; assumption) | (apply keeps_of_snd; assumption) | dsimp only | split)

theorem keeps_State_addPerf {s0 s : State} (n : Nat) (h : Keeps s0 s) :
    Keeps s0 (State.addPerf s n) := by
  unfold State.addPerf
  with_reducible repeat' (first | assumption | intro _ | apply keeps_forAll | apply keeps_State_onHearth)

theorem keeps_State_clearPerf {s0 s : State} (n : Nat) (h : Keeps s0 s) :
    Keeps s0 (State.clearPerf s n) := by
  unfold State.clearPerf
  with_reducible repeat' (first | assumption | intro _ | apply keeps_forAll | apply keeps_State_onHearth | apply keeps_State_onPart | apply keeps_ite)

theorem keeps_State_clearNan {s0 s : State} (n : Nat) (h : Keeps s0 s) :
    Keeps s0 (State.clearNan s n) := by
  unfold State.clearNan
  with_reducible repeat' (first | assumption | intro _ | apply keeps_forAll | apply keeps_State_onHearth | apply keeps_State_onPart | apply keeps_State_unset | apply keeps_ite)

theorem keeps_State_unloads {s0 s : State} (n : Nat) (h : Keeps s0 s) :
    Keeps s0 (State.unloads s n) := by
  unfold State.unloads
  with_reducible repeat' (first | assumption | intro _ | apply keeps_forAll | apply keeps_unloadJob | apply keeps_ite)

theorem keeps_State_boundaryEffects {s0 s : State} (n : Nat) (h : Keeps s0 s) :
    Keeps s0 (State.boundaryEffects s n) := by
  unfold State.boundaryEffects
  with_reducible repeat' (first | assumption | intro _ | apply keeps_forAll | apply keeps_State_endRequest | apply keeps_State_dropHandle | apply keeps_State_onPart | apply keeps_State_clearPerf | apply keeps_State_clearNan | apply keeps_State_unloads | apply keeps_State_applyConsent)

theorem keeps_State_judge {s0 s : State} (n : Nat) (h : Keeps s0 s) :
    Keeps s0 (State.judge s n) := by
  unfold State.judge
  with_reducible repeat' (first | assumption | intro _ | apply keeps_forAll | apply keeps_State_bump | apply keeps_State_raise | apply keeps_State_endRequest)

theorem keeps_State_boundaryRepairs {s0 s : State} (n : Nat) (h : Keeps s0 s) :
    Keeps s0 (State.boundaryRepairs s n) := by
  unfold State.boundaryRepairs
  with_reducible repeat' (first | assumption | intro _ | apply keeps_State_retireDue | apply keeps_State_refetches | apply keeps_State_channelBoundary)

theorem keeps_State_mends {s0 s : State} (n : Nat) (h : Keeps s0 s) :
    Keeps s0 (State.mends s n) := by
  unfold State.mends
  with_reducible repeat' (first | assumption | intro _ | apply keeps_forAll | apply keeps_State_diagnose | apply keeps_State_onPart | apply keeps_State_retireDue | apply keeps_State_refillPage | apply keeps_ite)

theorem keeps_State_kindZero {s0 s : State} (n j : Nat) (h : Keeps s0 s) : Keeps s0 (State.kindZero s n j) := by
  unfold State.kindZero
  with_reducible repeat' (first | assumption | intro _ | apply keeps_forAll | apply keeps_State_onJob)

theorem keeps_State_remapped {s0 s : State} (n : Nat) (h : Keeps s0 s) : Keeps s0 (State.remapped s n) := by
  unfold State.remapped
  with_reducible repeat' (first | assumption | intro _ | apply keeps_State_kindZero | split)

theorem keeps_State_pauseOrGo {s0 s : State} (n : Nat) (h : Keeps s0 s) :
    Keeps s0 (State.pauseOrGo s n) := by
  unfold State.pauseOrGo
  with_reducible repeat' (first | assumption | intro _ | apply keeps_State_remapped | apply keeps_State_mends | apply keeps_State_bump | apply keeps_State_raise | apply keeps_State_remapAll | apply keeps_State_onPart | apply keeps_State_action8 | apply keeps_State_action7 | apply keeps_ite | apply keeps_ite_fst | apply keeps_forAll | apply keeps_foldl | apply keeps_foldl_fst | (apply keeps_of_fst; assumption) | (apply keeps_of_snd; assumption) | dsimp only | split)

theorem keeps_State_swapSdata {s0 s : State} (n : Nat) (j : Nat) (out : Bool) (h : Keeps s0 s) :
    Keeps s0 (State.swapSdata s n j out) := by
  unfold State.swapSdata
  with_reducible repeat' (first | assumption | intro _ | apply keeps_forAll | apply keeps_State_copyRange | apply keeps_ite | apply keeps_ite_fst | apply keeps_foldl | apply keeps_foldl_fst | (apply keeps_of_fst; assumption) | (apply keeps_of_snd; assumption) | dsimp only | split)

theorem keeps_State_enterMember {s0 s : State} (n : Nat) (from1 : Nat) (to1 : Nat) (h : Keeps s0 s) :
    Keeps s0 (State.enterMember s n from1 to1) := by
  unfold State.enterMember
  with_reducible repeat' (first | assumption | intro _ | apply keeps_State_onJob | apply keeps_State_swapSdata | apply keeps_State_loadSdata | apply keeps_State_loadStreams | apply keeps_ite)

theorem keeps_State_afterOutcome {s0 s : State} (n : Nat) (h : Keeps s0 s) :
    Keeps s0 (State.afterOutcome s n) := by
  unfold State.afterOutcome
  with_reducible repeat' (first | assumption | intro _ | apply keeps_State_onPart | apply keeps_State_onJob | apply keeps_State_boundaryEffects | apply keeps_State_judge | apply keeps_State_action4 | apply keeps_State_boundaryRepairs | apply keeps_State_pauseOrGo | apply keeps_State_action8 | apply keeps_State_enterMember | apply keeps_ite | apply keeps_ite_fst | apply keeps_forAll | apply keeps_foldl | apply keeps_foldl_fst | (apply keeps_of_fst; assumption) | (apply keeps_of_snd; assumption) | dsimp only | split)

theorem keeps_State_switchClock {s0 s : State} (n : Nat) (h : Keeps s0 s) :
    Keeps s0 (State.switchClock s n) := by
  unfold State.switchClock
  with_reducible repeat' (first | assumption | intro _ | apply keeps_State_onPart | apply keeps_forAll | apply keeps_State_setNum | apply keeps_ite | apply keeps_ite_fst | apply keeps_foldl | apply keeps_foldl_fst | (apply keeps_of_fst; assumption) | (apply keeps_of_snd; assumption) | dsimp only | split)

theorem keeps_State_finishAttempt {s0 s : State} (n : Nat) (h : Keeps s0 s) :
    Keeps s0 (State.finishAttempt s n) := by
  unfold State.finishAttempt
  with_reducible repeat' (first | assumption | intro _ | apply keeps_State_afterOutcome | apply keeps_State_endAttempt)

theorem keeps_State_beginBoundary {s0 s : State} (n : Nat) (named : Nat) (h : Keeps s0 s) :
    Keeps s0 (State.beginBoundary s n named) := by
  unfold State.beginBoundary
  with_reducible repeat' (first | assumption | intro _ | apply keeps_State_addPerf | apply keeps_State_onJob | apply keeps_State_onPart | apply keeps_State_switchClock | apply keeps_State_finishAttempt | apply keeps_State_lrCast | apply keeps_ite | apply keeps_ite_fst | apply keeps_forAll | apply keeps_foldl | apply keeps_foldl_fst | (apply keeps_of_fst; assumption) | (apply keeps_of_snd; assumption) | dsimp only | split)

theorem keeps_State_failedStep {s0 s : State} (n : Nat) (j : Nat) (h : Keeps s0 s) :
    Keeps s0 (State.failedStep s n j) := by
  unfold State.failedStep
  with_reducible repeat' (first | assumption | intro _ | apply keeps_forAll | apply keeps_State_onJob | apply keeps_State_endRequest | apply keeps_State_onPart | apply keeps_State_raise)

theorem keeps_State_endPause {s0 s : State} (n : Nat) (since : Nat) (h : Keeps s0 s) :
    Keeps s0 (State.endPause s n since) := by
  unfold State.endPause
  with_reducible repeat' (first | assumption | intro _ | apply keeps_State_onPart | apply keeps_State_setNum | apply keeps_State_failedStep | apply keeps_State_action8 | apply keeps_State_action7 | apply keeps_ite | apply keeps_ite_fst | apply keeps_forAll | apply keeps_foldl | apply keeps_foldl_fst | (apply keeps_of_fst; assumption) | (apply keeps_of_snd; assumption) | dsimp only | split)

theorem keeps_State_idleBoundary {s0 s : State} (n : Nat) (h : Keeps s0 s) :
    Keeps s0 (State.idleBoundary s n) := by
  unfold State.idleBoundary
  with_reducible repeat' (first | assumption | intro _ | apply keeps_State_remapped | apply keeps_State_wakePart | apply keeps_State_applyRings | apply keeps_forAll | apply keeps_State_dropHandle | apply keeps_State_switchClock | apply keeps_State_boundaryRepairs | apply keeps_State_boundaryEffects | apply keeps_State_remapAll | apply keeps_State_judge | apply keeps_State_onPart | apply keeps_State_failedStep | apply keeps_State_action7 | apply keeps_ite | apply keeps_ite_fst | apply keeps_foldl | apply keeps_foldl_fst | (apply keeps_of_fst; assumption) | (apply keeps_of_snd; assumption) | dsimp only | split)

theorem keeps_State_switchWeights {s0 s : State} (n : Nat) (j : Nat) (h : Keeps s0 s) :
    Keeps s0 (State.switchWeights s n j) := by
  unfold State.switchWeights
  with_reducible repeat' (first | assumption | intro _ | apply keeps_State_onPart | apply keeps_State_giveSpans | apply keeps_forAll | apply keeps_State_beginEvict | apply keeps_State_action7 | apply keeps_State_raise | apply keeps_ite | apply keeps_ite_fst | apply keeps_foldl | apply keeps_foldl_fst | (apply keeps_of_fst; assumption) | (apply keeps_of_snd; assumption) | dsimp only | split)

theorem keeps_State_switchCopied {s0 s : State} (n : Nat) (j : Nat) (w : Nat) (h : Keeps s0 s) :
    Keeps s0 (State.switchCopied s n j w) := by
  unfold State.switchCopied
  with_reducible repeat' (first | assumption | intro _ | apply keeps_State_copyIn | apply keeps_State_switchWeights | apply keeps_State_action7 | apply keeps_State_onPart | apply keeps_State_wantAll | apply keeps_ite)

theorem keeps_execBoundaryRecord {s0 s : State} (n : Fin 12) (y1 : Nat) (h : Keeps s0 s) :
    KeepsOut s0 (execBoundaryRecord n y1 s) := by
  unfold execBoundaryRecord
  with_reducible repeat' (first | assumption | intro _ | apply keepsOut_next | apply keeps_State_at | apply keeps_State_takeTerminals | apply keeps_State_takeRefused | apply keeps_State_publish | apply keeps_State_drainCheck | apply keeps_forAll | apply keeps_State_freeEntry | apply keeps_ite | apply keeps_ite_fst | apply keeps_foldl | apply keeps_foldl_fst | (apply keeps_of_fst; assumption) | (apply keeps_of_snd; assumption) | dsimp only | split)

theorem keeps_execGateTimeout {s0 s : State} (n : Fin 12) (y1 : Nat) (h : Keeps s0 s) :
    KeepsOut s0 (execGateTimeout n y1 s) := by
  unfold execGateTimeout
  with_reducible repeat' (first | assumption | intro _ | apply keepsOut_next | apply keeps_State_at | apply keeps_State_passGate | apply keeps_State_raise | apply keeps_State_bump | apply keeps_ite | apply keeps_ite_fst | apply keeps_forAll | apply keeps_foldl | apply keeps_foldl_fst | (apply keeps_of_fst; assumption) | (apply keeps_of_snd; assumption) | dsimp only | split)

theorem keeps_execRakePauseEnd {s0 s : State} (n : Fin 12) (y1 : Nat) (h : Keeps s0 s) :
    KeepsOut s0 (execRakePauseEnd n y1 s) := by
  unfold execRakePauseEnd
  with_reducible repeat' (first | assumption | intro _ | apply keepsOut_next | apply keeps_State_at | apply keeps_State_endPause | apply keeps_ite | apply keeps_ite_fst | apply keeps_forAll | apply keeps_foldl | apply keeps_foldl_fst | (apply keeps_of_fst; assumption) | (apply keeps_of_snd; assumption) | dsimp only | split)

theorem keeps_execSlotMapsInForce {s0 s : State} (n : Fin 12) (y1 : Nat) (h : Keeps s0 s) :
    KeepsOut s0 (execSlotMapsInForce n y1 s) := by
  unfold execSlotMapsInForce
  with_reducible repeat' (first | assumption | intro _ | apply keepsOut_next | apply keeps_State_at | apply keeps_State_onPart | apply keeps_unloadJob | apply keeps_State_loadStreams | apply keeps_State_switchWeights | apply keeps_State_restoreJob | apply keeps_State_loadSdata | apply keeps_ite | apply keeps_ite_fst | apply keeps_forAll | apply keeps_foldl | apply keeps_foldl_fst | (apply keeps_of_fst; assumption) | (apply keeps_of_snd; assumption) | dsimp only | split)

theorem keeps_execStepBoundary {s0 s : State} (n : Fin 12) (y1 : Nat) (h : Keeps s0 s) :
    KeepsOut s0 (execStepBoundary n y1 s) := by
  unfold execStepBoundary
  with_reducible repeat' (first | assumption | intro _ | apply keepsOut_next | apply keeps_State_at | apply keeps_State_beginBoundary | apply keeps_State_onPart | apply keeps_State_haltNow | apply keeps_State_idleBoundary | apply keeps_State_openGate | apply keeps_ite | apply keeps_ite_fst | apply keeps_forAll | apply keeps_foldl | apply keeps_foldl_fst | (apply keeps_of_fst; assumption) | (apply keeps_of_snd; assumption) | dsimp only | split)

theorem keeps_execSwitchPrologueDone {s0 s : State} (n : Fin 12) (y1 : Nat) (h : Keeps s0 s) :
    KeepsOut s0 (execSwitchPrologueDone n y1 s) := by
  unfold execSwitchPrologueDone
  with_reducible repeat' (first | assumption | intro _ | apply keepsOut_next | apply keeps_State_at | apply keeps_State_onPart | apply keeps_State_setNum | apply keeps_forAll | apply keeps_State_action4 | apply keeps_State_runResident | apply keeps_State_onJob | apply keeps_ite | apply keeps_ite_fst | apply keeps_foldl | apply keeps_foldl_fst | (apply keeps_of_fst; assumption) | (apply keeps_of_snd; assumption) | dsimp only | split)

theorem keeps_execSwitchWritebackDone {s0 s : State} (n : Fin 12) (y1 : Nat) (h : Keeps s0 s) :
    KeepsOut s0 (execSwitchWritebackDone n y1 s) := by
  unfold execSwitchWritebackDone
  with_reducible repeat' (first | assumption | intro _ | apply keepsOut_next | apply keeps_State_at | apply keeps_State_saveJob | apply keeps_State_onPart | apply keeps_State_setNum | apply keeps_ite | apply keeps_ite_fst | apply keeps_forAll | apply keeps_foldl | apply keeps_foldl_fst | (apply keeps_of_fst; assumption) | (apply keeps_of_snd; assumption) | dsimp only | split)

theorem keeps_execTierSCopyDone {s0 s : State} (n : Fin 12) (y1 : Nat) (h : Keeps s0 s) :
    KeepsOut s0 (execTierSCopyDone n y1 s) := by
  unfold execTierSCopyDone
  with_reducible repeat' (first | assumption | intro _ | apply keepsOut_next | apply keeps_State_at | apply keeps_State_onPart | apply keeps_State_switchCopied | apply keeps_State_giveSpans | apply keeps_ite | apply keeps_ite_fst | apply keeps_forAll | apply keeps_foldl | apply keeps_foldl_fst | (apply keeps_of_fst; assumption) | (apply keeps_of_snd; assumption) | dsimp only | split)

theorem keeps_execVerdictTimeout {s0 s : State} (n : Fin 12) (y1 : Nat) (h : Keeps s0 s) :
    KeepsOut s0 (execVerdictTimeout n y1 s) := by
  unfold execVerdictTimeout
  with_reducible repeat' (first | assumption | intro _ | apply keepsOut_next | apply keeps_State_at | apply keeps_State_finishAttempt | apply keeps_State_onPart | apply keeps_State_lrSendNext | apply keeps_ite | apply keeps_ite_fst | apply keeps_forAll | apply keeps_foldl | apply keeps_foldl_fst | (apply keeps_of_fst; assumption) | (apply keeps_of_snd; assumption) | dsimp only | split)

end Sys2Proof.Laws
end

