-- ==== Sys2Proof/Laws/KeepsGroups.lean ====
section
/-!
SUPPORT. Every operation of Machine/Groups.lean keeps the queue and the canonical memory.
-/
namespace Sys2Proof.Laws
open Sys2Proof.Machine

theorem keeps_State_a2aLocal {s0 s : State} (n : Nat) (g : Nat) (x : Group) (c : List Sys2Proof.Byte) (h : Keeps s0 s) :
    Keeps s0 (State.a2aLocal s n g x c) := by
  unfold State.a2aLocal
  with_reducible repeat' (first | assumption | intro _ | apply keeps_State_writeTier | apply keeps_forAll | apply keeps_State_onGroup | apply keeps_State_setBlob | apply keeps_ite | apply keeps_ite_fst | apply keeps_foldl | apply keeps_foldl_fst | (apply keeps_of_fst; assumption) | (apply keeps_of_snd; assumption) | dsimp only | split)

theorem keeps_State_barrierSend {s0 s : State} (n : Nat) (x : Group) (seq : Nat) (m : Nat) (use : Option Use) (h : Keeps s0 s) :
    Keeps s0 (State.barrierSend s n x seq m use) := by
  unfold State.barrierSend
  with_reducible repeat' (first | assumption | intro _ | apply keeps_State_sendBy)

theorem keeps_State_barrierIn {s0 s : State} (n : Nat) (g : Nat) (seq : Nat) (m : Nat) (h : Keeps s0 s) :
    Keeps s0 (State.barrierIn s n g seq m) := by
  unfold State.barrierIn
  with_reducible repeat' (first | assumption | intro _ | apply keeps_State_onGroup | apply keeps_State_barrierSend | apply keeps_State_groupCheck | apply keeps_ite)

theorem keeps_State_cmdStart {s0 s : State} (n : Nat) (g : Nat) (c : List Sys2Proof.Byte) (h : Keeps s0 s) :
    Keeps s0 (State.cmdStart s n g c) := by
  unfold State.cmdStart
  with_reducible repeat' (first | assumption | intro _ | apply keeps_State_onGroup | apply keeps_State_raise | apply keeps_State_groupEnd | apply keeps_State_onTrig | apply keeps_State_groupCheck | apply keeps_State_barrierSend | apply keeps_State_a2aLocal | apply keeps_State_raiseCounter | apply keeps_forAll | apply keeps_ite)

theorem keeps_takeCommand {s0 s : State} (n : Nat) (g : Nat) (op : Nat) (y3 : Nat) (h : Keeps s0 s) :
    Keeps s0 (takeCommand n g op y3 s) := by
  unfold takeCommand
  with_reducible repeat' (first | assumption | intro _ | apply keeps_State_at | apply keeps_State_raise | apply keeps_State_bumpBy | apply keeps_State_cmdStart | apply keeps_ite | apply keeps_ite_fst | apply keeps_forAll | apply keeps_foldl | apply keeps_foldl_fst | (apply keeps_of_fst; assumption) | (apply keeps_of_snd; assumption) | dsimp only | split)

theorem keeps_execAllgather {s0 s : State} (n : Fin 12) (gr : Fin 64) (y2 : Nat) (h : Keeps s0 s) :
    KeepsOut s0 (execAllgather n gr y2 s) := by
  unfold execAllgather
  with_reducible repeat' (first | assumption | intro _ | apply keepsOut_next | apply keeps_takeCommand)

theorem keeps_execAllreduce {s0 s : State} (n : Fin 12) (gr : Fin 64) (y2 : Nat) (h : Keeps s0 s) :
    KeepsOut s0 (execAllreduce n gr y2 s) := by
  unfold execAllreduce
  with_reducible repeat' (first | assumption | intro _ | apply keepsOut_next | apply keeps_takeCommand)

theorem keeps_execAlltoallv {s0 s : State} (n : Fin 12) (gr : Fin 64) (y2 : Nat) (h : Keeps s0 s) :
    KeepsOut s0 (execAlltoallv n gr y2 s) := by
  unfold execAlltoallv
  with_reducible repeat' (first | assumption | intro _ | apply keepsOut_next | apply keeps_takeCommand)

theorem keeps_execBarrier {s0 s : State} (n : Fin 12) (gr : Fin 64) (y2 : Nat) (h : Keeps s0 s) :
    KeepsOut s0 (execBarrier n gr y2 s) := by
  unfold execBarrier
  with_reducible repeat' (first | assumption | intro _ | apply keepsOut_next | apply keeps_takeCommand)

theorem keeps_execReduceScatter {s0 s : State} (n : Fin 12) (gr : Fin 64) (y2 : Nat) (h : Keeps s0 s) :
    KeepsOut s0 (execReduceScatter n gr y2 s) := by
  unfold execReduceScatter
  with_reducible repeat' (first | assumption | intro _ | apply keepsOut_next | apply keeps_takeCommand)

end Sys2Proof.Laws
end

