-- ==== Sys2Proof/Laws/KeepsLayout.lean ====
section
/-!
SUPPORT. Every operation of Machine/Layout.lean keeps the queue and the canonical memory.
-/
namespace Sys2Proof.Laws
open Sys2Proof.Machine

theorem keeps_State_burst {s0 : State} (n ta : Nat) {x : State × List Byte} (h : Keeps s0 x.1) : Keeps s0 (State.burst n ta x).1 :=
  keeps_State_readTier _ _ _ h


theorem keeps_State_readRows {s0 s : State} (n : Nat) (ta : Nat) (stride : Nat) (len : Nat) (y5 : Nat) (h : Keeps s0 s) :
    Keeps s0 (State.readRows s n ta stride len y5).1 := by
  induction y5 generalizing s n ta stride len with
  | zero => rw [State.readRows]; with_reducible repeat' assumption
  | succ f ih =>
    rw [State.readRows]
    with_reducible repeat' (first | assumption | intro _ | apply ih | apply keeps_State_readTier)


theorem keeps_State_sendRow {s0 s : State} (n : Nat) (g : Nat) (seq : Nat) (ta : Nat) (haddr : Nat) (len : Nat) (put : Option (List Sys2Proof.Byte)) (h : Keeps s0 s) :
    Keeps s0 (State.sendRow s n g seq ta haddr len put) := by
  unfold State.sendRow
  with_reducible repeat' (first | assumption | intro _ | apply keeps_State_draw | apply keeps_State_send)

theorem keeps_State_sendRows {s0 s : State} (n : Nat) (g : Nat) (o : Op) (put : Bool) (h : Keeps s0 s) :
    Keeps s0 (State.sendRows s n g o put).1 := by
  unfold State.sendRows
  with_reducible repeat' (first | assumption | intro _ | apply keeps_State_sendRow | apply keeps_ite | apply keeps_ite_fst | apply keeps_forAll | apply keeps_foldl | apply keeps_foldl_fst)

theorem keeps_State_streamBytes {s0 s : State} (n : Nat) (l : Nat) (start : Nat) (len : Nat) (h : Keeps s0 s) :
    Keeps s0 (State.streamBytes s n l start len).1 := by
  unfold State.streamBytes
  dsimp only
  split
  · exact h
  · exact keeps_foldl_fst _ _ (fun p x hp => keeps_State_burst _ _ hp) h


theorem keeps_laStart {s0 s : State} (g : Nat) (opc : Nat) (f : State → Nat → Nat → Op → Nat → State × Result) (kf : ∀ z0 z1 z2 z3 z4, Keeps s0 z0 → Keeps s0 (f z0 z1 z2 z3 z4).1) (h : Keeps s0 s) :
    Keeps s0 (laStart s g opc f) := by
  unfold laStart
  with_reducible repeat' (first | assumption | intro _ | apply keeps_engStart)

theorem keeps_execFill {s0 s : State} (g : Fin 216) (h : Keeps s0 s) :
    KeepsOut s0 (execFill g s) := by
  unfold execFill
  with_reducible repeat' (first | assumption | intro _ | apply keepsOut_next | apply keeps_laStart)

theorem keeps_execLayoutOpComplete {s0 s : State} (g : Fin 216) (c : Nat) (h : Keeps s0 s) :
    KeepsOut s0 (execLayoutOpComplete g c s) := by
  unfold execLayoutOpComplete
  with_reducible repeat' (first | assumption | intro _ | apply keepsOut_next | apply keeps_State_onHearth | apply keeps_State_hwrites | apply keeps_forAll | apply keeps_State_writeTier | apply keeps_State_resumeCore | apply keeps_ite | apply keeps_ite_fst | apply keeps_foldl | apply keeps_foldl_fst | (apply keeps_of_fst; assumption) | (apply keeps_of_snd; assumption) | dsimp only | split)

theorem keeps_execLinIn {s0 s : State} (g : Fin 216) (h : Keeps s0 s) :
    KeepsOut s0 (execLinIn g s) := by
  unfold execLinIn
  with_reducible repeat' (first | assumption | intro _ | apply keepsOut_next | apply keeps_laStart | apply keeps_State_sendRows | apply keeps_State_readRows | apply keeps_ite | apply keeps_ite_fst)

theorem keeps_execLinOut {s0 s : State} (g : Fin 216) (h : Keeps s0 s) :
    KeepsOut s0 (execLinOut g s) := by
  unfold execLinOut
  with_reducible repeat' (first | assumption | intro _ | apply keepsOut_next | apply keeps_laStart | apply keeps_State_hreadCheck | apply keeps_State_sendRows | apply keeps_ite | apply keeps_ite_fst)

theorem keeps_execSkewIn {s0 s : State} (g : Fin 216) (h : Keeps s0 s) :
    KeepsOut s0 (execSkewIn g s) := by
  unfold execSkewIn
  with_reducible repeat' (first | assumption | intro _ | apply keepsOut_next | apply keeps_laStart | apply keeps_State_readRows)

theorem keeps_execSkewLocal {s0 s : State} (g : Fin 216) (h : Keeps s0 s) :
    KeepsOut s0 (execSkewLocal g s) := by
  unfold execSkewLocal
  with_reducible repeat' (first | assumption | intro _ | apply keepsOut_next | apply keeps_laStart | apply keeps_State_hreadCheck)

theorem keeps_execWeightIn {s0 s : State} (g : Fin 216) (h : Keeps s0 s) :
    KeepsOut s0 (execWeightIn g s) := by
  unfold execWeightIn
  with_reducible repeat' (first | assumption | intro _ | apply keepsOut_next | apply keeps_laStart | apply keeps_State_streamBytes)

end Sys2Proof.Laws
end

