-- ==== Sys2Proof/Laws/KeepsMessages.lean ====
section
/-!
SUPPORT. Every operation of Machine/Messages.lean keeps the queue and the canonical memory.
-/
namespace Sys2Proof.Laws
open Sys2Proof.Machine

theorem keeps_State_ackTo {s0 s : State} (n : Nat) (m : Sys2Proof.FabMsg) (status : Nat) (h : Keeps s0 s) :
    Keeps s0 (State.ackTo s n m status) := by
  unfold State.ackTo
  with_reducible repeat' (first | assumption | intro _ | apply keeps_State_sendOnly)

theorem keeps_State_arrive {s0 s : State} (m : Sys2Proof.FabMsg) (kind : Nat) (row : Nat) (act : State → Nat → State) (kact : ∀ z0 z1, Keeps s0 z0 → Keeps s0 (act z0 z1)) (h : Keeps s0 s) :
    Keeps s0 (State.arrive s m kind row act) := by
  unfold State.arrive
  with_reducible repeat' (first | assumption | intro _ | apply keeps_State_bumpBy | apply keeps_State_onFport | apply keeps_State_wakePart | apply keeps_State_nicRecord | apply kact | apply keeps_ite | apply keeps_ite_fst | apply keeps_forAll | apply keeps_foldl | apply keeps_foldl_fst | (apply keeps_of_fst; assumption) | (apply keeps_of_snd; assumption) | dsimp only | split | (apply keeps_mk; first | assumption | apply keeps_State_bumpBy | apply keeps_State_onFport | apply keeps_State_wakePart | apply keeps_State_nicRecord | apply kact | apply keeps_ite | apply keeps_forAll | apply keeps_foldl))

theorem keeps_State_drawBytes {s0 sa : State} (y0 : Nat) (h : Keeps s0 sa) :
    Keeps s0 (State.drawBytes y0 sa).1 := by
  induction y0 generalizing sa with
  | zero => rw [State.drawBytes]; with_reducible repeat' assumption
  | succ f ih =>
    rw [State.drawBytes]
    with_reducible repeat' (first | assumption | intro _ | apply ih | apply keeps_State_draw)


theorem keeps_State_layoutRow {s0 s : State} (g : Nat) (seq : Nat) (haddr : Nat) (d : List Sys2Proof.Byte) (h : Keeps s0 s) :
    Keeps s0 (State.layoutRow s g seq haddr d) := by
  unfold State.layoutRow
  with_reducible repeat' (first | assumption | intro _ | apply keeps_State_onHearth)

theorem keeps_State_flightAck {s0 sa : State} (id : Nat) (status : Nat) (h : Keeps s0 sa) :
    Keeps s0 (State.flightAck sa id status) := by
  unfold State.flightAck
  with_reducible repeat' (first | assumption | intro _ | apply keeps_State_drawBytes | apply keeps_State_layoutRow | apply keeps_State_opDone | apply keeps_State_opFail | apply keeps_State_turnAcked | apply keeps_State_onTurn | apply keeps_State_onRing | apply keeps_State_shardArrives | apply keeps_ite | apply keeps_ite_fst | apply keeps_forAll | apply keeps_foldl | apply keeps_foldl_fst | (apply keeps_of_fst; assumption) | (apply keeps_of_snd; assumption) | dsimp only | split | (apply keeps_mk; first | assumption | apply keeps_State_drawBytes | apply keeps_State_layoutRow | apply keeps_State_opDone | apply keeps_State_opFail | apply keeps_State_turnAcked | apply keeps_State_onTurn | apply keeps_State_onRing | apply keeps_State_shardArrives | apply keeps_ite | apply keeps_forAll | apply keeps_foldl))

theorem keeps_State_flightData {s0 sa : State} (id : Nat) (d : List Sys2Proof.Byte) (h : Keeps s0 sa) :
    Keeps s0 (State.flightData sa id d) := by
  unfold State.flightData
  with_reducible repeat' (first | assumption | intro _ | apply keeps_State_layoutRow | apply keeps_State_opDone | apply keeps_State_writeTier | apply keeps_State_shardArrives | apply keeps_ite | apply keeps_ite_fst | apply keeps_forAll | apply keeps_foldl | apply keeps_foldl_fst | (apply keeps_of_fst; assumption) | (apply keeps_of_snd; assumption) | dsimp only | split | (apply keeps_mk; first | assumption | apply keeps_State_layoutRow | apply keeps_State_opDone | apply keeps_State_writeTier | apply keeps_State_shardArrives | apply keeps_ite | apply keeps_forAll | apply keeps_foldl))

theorem keeps_State_landPut {s0 s : State} (n : Nat) (src : Nat) (ta : Nat) (d : List Sys2Proof.Byte) (h : Keeps s0 s) :
    Keeps s0 (State.landPut s n src ta d).1 := by
  unfold State.landPut
  with_reducible repeat' (first | assumption | intro _ | apply keeps_State_pieceLanded | apply keeps_State_writeTier | apply keeps_State_pieceStale | apply keeps_ite | apply keeps_ite_fst | apply keeps_forAll | apply keeps_foldl | apply keeps_foldl_fst | (apply keeps_of_fst; assumption) | (apply keeps_of_snd; assumption) | dsimp only | split)

theorem keeps_State_notify {s0 s : State} (n : Nat) (b : Buf) (rcounter : Nat) (addv : Nat) (h : Keeps s0 s) :
    Keeps s0 (State.notify s n b rcounter addv) := by
  unfold State.notify
  with_reducible repeat' (first | assumption | intro _ | apply keeps_State_raiseCounter | apply keeps_ite)

theorem keeps_State_refuseOnly {s0 s : State} (n : Nat) (h : Keeps s0 s) :
    Keeps s0 (State.refuseOnly s n) := by
  unfold State.refuseOnly
  with_reducible repeat' (first | assumption | intro _ | apply keeps_State_raise | apply keeps_State_bump)

theorem keeps_State_refuseMsg {s0 s : State} (n : Nat) (m : Sys2Proof.FabMsg) (h : Keeps s0 s) :
    Keeps s0 (State.refuseMsg s n m) := by
  unfold State.refuseMsg
  with_reducible repeat' (first | assumption | intro _ | apply keeps_State_refuseOnly | apply keeps_State_ackTo)

theorem keeps_ackIn {s0 s : State} (m : Sys2Proof.FabMsg) (h : Keeps s0 s) :
    Keeps s0 (ackIn m s) := by
  unfold ackIn
  with_reducible repeat' (first | assumption | intro _ | apply keeps_State_arrive | apply keeps_State_refuseOnly | apply keeps_State_flightAck | apply keeps_ite)

theorem keeps_tokenIn {s0 s : State} (m : Sys2Proof.FabMsg) (row : Nat) (act : State → Nat → State) (kact : ∀ z0 z1, Keeps s0 z0 → Keeps s0 (act z0 z1)) (h : Keeps s0 s) :
    Keeps s0 (tokenIn m row s act) := by
  unfold tokenIn
  with_reducible repeat' (first | assumption | intro _ | apply keeps_State_arrive | apply keeps_State_ackTo | apply keeps_State_refuseMsg | apply kact | apply keeps_ite)

theorem keeps_barrierTokenIn {s0 s : State} (m : Sys2Proof.FabMsg) (h : Keeps s0 s) :
    Keeps s0 (barrierTokenIn m s) := by
  unfold barrierTokenIn
  with_reducible repeat' (first | assumption | intro _ | apply keeps_tokenIn | apply keeps_State_barrierIn | apply keeps_ite | apply keeps_ite_fst | apply keeps_forAll | apply keeps_foldl | apply keeps_foldl_fst | (apply keeps_of_fst; assumption) | (apply keeps_of_snd; assumption) | dsimp only | split)

theorem keeps_counterAddIn {s0 s : State} (m : Sys2Proof.FabMsg) (h : Keeps s0 s) :
    Keeps s0 (counterAddIn m s) := by
  unfold counterAddIn
  with_reducible repeat' (first | assumption | intro _ | apply keeps_State_arrive | apply keeps_State_refuseMsg | apply keeps_State_notify | apply keeps_State_ackTo | apply keeps_ite | apply keeps_ite_fst | apply keeps_forAll | apply keeps_foldl | apply keeps_foldl_fst | (apply keeps_of_fst; assumption) | (apply keeps_of_snd; assumption) | dsimp only | split)

theorem keeps_execAck {s0 s : State} (m : Sys2Proof.FabMsg) (y1 : Nat) (h : Keeps s0 s) :
    KeepsOut s0 (execAck m y1 s) := by
  unfold execAck
  with_reducible repeat' (first | assumption | intro _ | apply keepsOut_next | apply keeps_ackIn | apply keeps_State_at)

theorem keeps_execBufferFreed {s0 s : State} (n : Fin 12) (rkey : Nat) (y2 : Nat) (h : Keeps s0 s) :
    KeepsOut s0 (execBufferFreed n rkey y2 s) := by
  unfold execBufferFreed
  with_reducible repeat' (first | assumption | intro _ | apply keepsOut_next | apply keeps_State_at | apply keeps_ite | apply keeps_ite_fst | apply keeps_forAll | apply keeps_foldl | apply keeps_foldl_fst | (apply keeps_of_fst; assumption) | (apply keeps_of_snd; assumption) | dsimp only | split | (apply keeps_mk; first | assumption | apply keeps_State_at | apply keeps_ite | apply keeps_forAll | apply keeps_foldl))

theorem keeps_execCounterAdd {s0 s : State} (m : Sys2Proof.FabMsg) (y1 : Nat) (h : Keeps s0 s) :
    KeepsOut s0 (execCounterAdd m y1 s) := by
  unfold execCounterAdd
  with_reducible repeat' (first | assumption | intro _ | apply keepsOut_next | apply keeps_counterAddIn | apply keeps_State_at)

theorem keeps_lrTokenIn {s0 s : State} (m : Sys2Proof.FabMsg) (row : Nat) (act : State → Nat → Nat → Nat → State) (kact : ∀ z0 z1 z2 z3, Keeps s0 z0 → Keeps s0 (act z0 z1 z2 z3)) (h : Keeps s0 s) :
    Keeps s0 (lrTokenIn m row s act) := by
  unfold lrTokenIn
  with_reducible repeat' (first | assumption | intro _ | apply keeps_tokenIn | apply kact | apply keeps_ite | apply keeps_ite_fst | apply keeps_forAll | apply keeps_foldl | apply keeps_foldl_fst | (apply keeps_of_fst; assumption) | (apply keeps_of_snd; assumption) | dsimp only | split)

theorem keeps_gateTokenIn {s0 s : State} (m : Sys2Proof.FabMsg) (h : Keeps s0 s) :
    Keeps s0 (gateTokenIn m s) := by
  unfold gateTokenIn
  with_reducible repeat' (first | assumption | intro _ | apply keeps_lrTokenIn | apply keeps_State_lrReady | apply keeps_State_passGate | apply keeps_ite | apply keeps_ite_fst | apply keeps_forAll | apply keeps_foldl | apply keeps_foldl_fst | (apply keeps_of_fst; assumption) | (apply keeps_of_snd; assumption) | dsimp only | split)

theorem keeps_execGateToken {s0 s : State} (m : Sys2Proof.FabMsg) (y1 : Nat) (h : Keeps s0 s) :
    KeepsOut s0 (execGateToken m y1 s) := by
  unfold execGateToken
  with_reducible repeat' (first | assumption | intro _ | apply keepsOut_next | apply keeps_gateTokenIn | apply keeps_State_at)

theorem keeps_getRequestIn {s0 s : State} (m : Sys2Proof.FabMsg) (h : Keeps s0 s) :
    Keeps s0 (getRequestIn m s) := by
  unfold getRequestIn
  with_reducible repeat' (first | assumption | intro _ | apply keeps_State_arrive | apply keeps_State_refuseMsg | apply keeps_State_nicRead | apply keeps_State_ackTo | apply keeps_State_sendOnly | apply keeps_ite | apply keeps_ite_fst | apply keeps_forAll | apply keeps_foldl | apply keeps_foldl_fst | (apply keeps_of_fst; assumption) | (apply keeps_of_snd; assumption) | dsimp only | split)

theorem keeps_execGetRequest {s0 s : State} (m : Sys2Proof.FabMsg) (y1 : Nat) (h : Keeps s0 s) :
    KeepsOut s0 (execGetRequest m y1 s) := by
  unfold execGetRequest
  with_reducible repeat' (first | assumption | intro _ | apply keepsOut_next | apply keeps_getRequestIn | apply keeps_State_at)

theorem keeps_getResponseIn {s0 s : State} (m : Sys2Proof.FabMsg) (h : Keeps s0 s) :
    Keeps s0 (getResponseIn m s) := by
  unfold getResponseIn
  with_reducible repeat' (first | assumption | intro _ | apply keeps_State_arrive | apply keeps_State_refuseOnly | apply keeps_State_flightData | apply keeps_State_flightAck | apply keeps_ite)

theorem keeps_execGetResponse {s0 s : State} (m : Sys2Proof.FabMsg) (y1 : Nat) (h : Keeps s0 s) :
    KeepsOut s0 (execGetResponse m y1 s) := by
  unfold execGetResponse
  with_reducible repeat' (first | assumption | intro _ | apply keepsOut_next | apply keeps_getResponseIn | apply keeps_State_at)

theorem keeps_putIn {s0 s : State} (m : Sys2Proof.FabMsg) (h : Keeps s0 s) :
    Keeps s0 (putIn m s) := by
  unfold putIn
  with_reducible repeat' (first | assumption | intro _ | apply keeps_State_arrive | apply keeps_State_refuseMsg | apply keeps_State_landPut | apply keeps_State_ackTo | apply keeps_State_notify | apply keeps_ite | apply keeps_ite_fst | apply keeps_forAll | apply keeps_foldl | apply keeps_foldl_fst | (apply keeps_of_fst; assumption) | (apply keeps_of_snd; assumption) | dsimp only | split)

theorem keeps_execPut {s0 s : State} (m : Sys2Proof.FabMsg) (y1 : Nat) (h : Keeps s0 s) :
    KeepsOut s0 (execPut m y1 s) := by
  unfold execPut
  with_reducible repeat' (first | assumption | intro _ | apply keepsOut_next | apply keeps_putIn | apply keeps_State_at)

theorem keeps_reduceIn {s0 s : State} (f32 : Bool) (kind : Nat) (m : Sys2Proof.FabMsg) (h : Keeps s0 s) :
    Keeps s0 (reduceIn f32 kind m s) := by
  unfold reduceIn
  with_reducible repeat' (first | assumption | intro _ | apply keeps_State_arrive | apply keeps_State_refuseMsg | apply keeps_State_ackTo | apply keeps_State_reduceTier | apply keeps_State_notify | apply keeps_ite | apply keeps_ite_fst | apply keeps_forAll | apply keeps_foldl | apply keeps_foldl_fst | (apply keeps_of_fst; assumption) | (apply keeps_of_snd; assumption) | dsimp only | split)

theorem keeps_reduceF32In {s0 s : State} (m : Sys2Proof.FabMsg) (h : Keeps s0 s) :
    Keeps s0 (reduceF32In m s) := by
  unfold reduceF32In
  with_reducible repeat' (first | assumption | intro _ | apply keeps_reduceIn)

theorem keeps_execReduceF32 {s0 s : State} (m : Sys2Proof.FabMsg) (y1 : Nat) (h : Keeps s0 s) :
    KeepsOut s0 (execReduceF32 m y1 s) := by
  unfold execReduceF32
  with_reducible repeat' (first | assumption | intro _ | apply keepsOut_next | apply keeps_reduceF32In | apply keeps_State_at)

theorem keeps_reduceI32In {s0 s : State} (m : Sys2Proof.FabMsg) (h : Keeps s0 s) :
    Keeps s0 (reduceI32In m s) := by
  unfold reduceI32In
  with_reducible repeat' (first | assumption | intro _ | apply keeps_reduceIn)

theorem keeps_execReduceI32 {s0 s : State} (m : Sys2Proof.FabMsg) (y1 : Nat) (h : Keeps s0 s) :
    KeepsOut s0 (execReduceI32 m y1 s) := by
  unfold execReduceI32
  with_reducible repeat' (first | assumption | intro _ | apply keepsOut_next | apply keeps_reduceI32In | apply keeps_State_at)

theorem keeps_execToken {s0 s : State} (m : Sys2Proof.FabMsg) (y1 : Nat) (h : Keeps s0 s) :
    KeepsOut s0 (execToken m y1 s) := by
  unfold execToken
  with_reducible repeat' (first | assumption | intro _ | apply keepsOut_next | apply keeps_barrierTokenIn | apply keeps_State_at)

theorem keeps_turnTokenIn {s0 s : State} (m : Sys2Proof.FabMsg) (row : Nat) (act : State → Nat → State) (kact : ∀ z0 z1, Keeps s0 z0 → Keeps s0 (act z0 z1)) (h : Keeps s0 s) :
    Keeps s0 (turnTokenIn m row s act) := by
  unfold turnTokenIn
  with_reducible repeat' (first | assumption | intro _ | apply keeps_tokenIn | apply kact | apply keeps_ite)

theorem keeps_turnAbortIn {s0 s : State} (m : Sys2Proof.FabMsg) (h : Keeps s0 s) :
    Keeps s0 (turnAbortIn m s) := by
  unfold turnAbortIn
  with_reducible repeat' (first | assumption | intro _ | apply keeps_turnTokenIn | apply keeps_State_turnAbortIn)

theorem keeps_execTurnAbort {s0 s : State} (m : Sys2Proof.FabMsg) (y1 : Nat) (h : Keeps s0 s) :
    KeepsOut s0 (execTurnAbort m y1 s) := by
  unfold execTurnAbort
  with_reducible repeat' (first | assumption | intro _ | apply keepsOut_next | apply keeps_turnAbortIn | apply keeps_State_at)

theorem keeps_turnFailIn {s0 s : State} (m : Sys2Proof.FabMsg) (h : Keeps s0 s) :
    Keeps s0 (turnFailIn m s) := by
  unfold turnFailIn
  with_reducible repeat' (first | assumption | intro _ | apply keeps_turnTokenIn | apply keeps_State_turnDecide | apply keeps_ite)

theorem keeps_execTurnFail {s0 s : State} (m : Sys2Proof.FabMsg) (y1 : Nat) (h : Keeps s0 s) :
    KeepsOut s0 (execTurnFail m y1 s) := by
  unfold execTurnFail
  with_reducible repeat' (first | assumption | intro _ | apply keepsOut_next | apply keeps_turnFailIn | apply keeps_State_at)

theorem keeps_turnFinalIn {s0 s : State} (m : Sys2Proof.FabMsg) (h : Keeps s0 s) :
    Keeps s0 (turnFinalIn m s) := by
  unfold turnFinalIn
  with_reducible repeat' (first | assumption | intro _ | apply keeps_turnTokenIn | apply keeps_State_turnSettle | apply keeps_State_onTurn)

theorem keeps_execTurnFinal {s0 s : State} (m : Sys2Proof.FabMsg) (y1 : Nat) (h : Keeps s0 s) :
    KeepsOut s0 (execTurnFinal m y1 s) := by
  unfold execTurnFinal
  with_reducible repeat' (first | assumption | intro _ | apply keepsOut_next | apply keeps_turnFinalIn | apply keeps_State_at)

theorem keeps_execTurnLimitExpiry {s0 s : State} (n : Fin 12) (y1 : Nat) (h : Keeps s0 s) :
    KeepsOut s0 (execTurnLimitExpiry n y1 s) := by
  unfold execTurnLimitExpiry
  with_reducible repeat' (first | assumption | intro _ | apply keepsOut_next | apply keeps_State_at | apply keeps_State_turnDecide | apply keeps_State_turnFail | apply keeps_ite)

theorem keeps_execTurnParkExpiry {s0 s : State} (n : Fin 12) (y1 : Nat) (h : Keeps s0 s) :
    KeepsOut s0 (execTurnParkExpiry n y1 s) := by
  unfold execTurnParkExpiry
  with_reducible repeat' (first | assumption | intro _ | apply keepsOut_next | apply keeps_State_at | apply keeps_forAll | apply keeps_State_turnToken | apply keeps_State_raise | apply keeps_State_onTurn | apply keeps_ite)

theorem keeps_turnParkedIn {s0 s : State} (m : Sys2Proof.FabMsg) (h : Keeps s0 s) :
    Keeps s0 (turnParkedIn m s) := by
  unfold turnParkedIn
  with_reducible repeat' (first | assumption | intro _ | apply keeps_turnTokenIn | apply keeps_State_turnParkedIn)

theorem keeps_execTurnParked {s0 s : State} (m : Sys2Proof.FabMsg) (y1 : Nat) (h : Keeps s0 s) :
    KeepsOut s0 (execTurnParked m y1 s) := by
  unfold execTurnParked
  with_reducible repeat' (first | assumption | intro _ | apply keepsOut_next | apply keeps_turnParkedIn | apply keeps_State_at)

theorem keeps_turnQueryIn {s0 s : State} (m : Sys2Proof.FabMsg) (h : Keeps s0 s) :
    Keeps s0 (turnQueryIn m s) := by
  unfold turnQueryIn
  with_reducible repeat' (first | assumption | intro _ | apply keeps_tokenIn | apply keeps_State_turnQueryIn)

theorem keeps_execTurnQuery {s0 s : State} (m : Sys2Proof.FabMsg) (y1 : Nat) (h : Keeps s0 s) :
    KeepsOut s0 (execTurnQuery m y1 s) := by
  unfold execTurnQuery
  with_reducible repeat' (first | assumption | intro _ | apply keepsOut_next | apply keeps_turnQueryIn | apply keeps_State_at)

theorem keeps_turnSwitchIn {s0 s : State} (m : Sys2Proof.FabMsg) (h : Keeps s0 s) :
    Keeps s0 (turnSwitchIn m s) := by
  unfold turnSwitchIn
  with_reducible repeat' (first | assumption | intro _ | apply keeps_turnTokenIn | apply keeps_State_turnSwitchIn)

theorem keeps_execTurnSwitch {s0 s : State} (m : Sys2Proof.FabMsg) (y1 : Nat) (h : Keeps s0 s) :
    KeepsOut s0 (execTurnSwitch m y1 s) := by
  unfold execTurnSwitch
  with_reducible repeat' (first | assumption | intro _ | apply keepsOut_next | apply keeps_turnSwitchIn | apply keeps_State_at)

theorem keeps_execTurnTokenResend {s0 s : State} (n : Fin 12) (y1 : Nat) (h : Keeps s0 s) :
    KeepsOut s0 (execTurnTokenResend n y1 s) := by
  unfold execTurnTokenResend
  with_reducible repeat' (first | assumption | intro _ | apply keepsOut_next | apply keeps_State_at | apply keeps_forAll | apply keeps_State_send | apply keeps_ite | apply keeps_ite_fst | apply keeps_foldl | apply keeps_foldl_fst | (apply keeps_of_fst; assumption) | (apply keeps_of_snd; assumption) | dsimp only | split | (apply keeps_mk; first | assumption | apply keeps_State_at | apply keeps_forAll | apply keeps_State_send | apply keeps_ite | apply keeps_foldl))

theorem keeps_turnUnparkIn {s0 s : State} (m : Sys2Proof.FabMsg) (h : Keeps s0 s) :
    Keeps s0 (turnUnparkIn m s) := by
  unfold turnUnparkIn
  with_reducible repeat' (first | assumption | intro _ | apply keeps_turnTokenIn | apply keeps_State_turnUnparkIn)

theorem keeps_execTurnUnpark {s0 s : State} (m : Sys2Proof.FabMsg) (y1 : Nat) (h : Keeps s0 s) :
    KeepsOut s0 (execTurnUnpark m y1 s) := by
  unfold execTurnUnpark
  with_reducible repeat' (first | assumption | intro _ | apply keepsOut_next | apply keeps_turnUnparkIn | apply keeps_State_at)

theorem keeps_turnWriteIn {s0 s : State} (m : Sys2Proof.FabMsg) (h : Keeps s0 s) :
    Keeps s0 (turnWriteIn m s) := by
  unfold turnWriteIn
  with_reducible repeat' (first | assumption | intro _ | apply keeps_State_arrive | apply keeps_State_refuseMsg | apply keeps_State_ackTo | apply keeps_State_turnLand | apply keeps_State_raise | apply keeps_State_bump | apply keeps_ite)

theorem keeps_execTurnWrite {s0 s : State} (m : Sys2Proof.FabMsg) (y1 : Nat) (h : Keeps s0 s) :
    KeepsOut s0 (execTurnWrite m y1 s) := by
  unfold execTurnWrite
  with_reducible repeat' (first | assumption | intro _ | apply keepsOut_next | apply keeps_turnWriteIn | apply keeps_State_at)

theorem keeps_execTurnWriteRetry {s0 s : State} (n : Fin 12) (entry : Nat) (y2 : Nat) (h : Keeps s0 s) :
    KeepsOut s0 (execTurnWriteRetry n entry y2 s) := by
  unfold execTurnWriteRetry
  with_reducible repeat' (first | assumption | intro _ | apply keepsOut_next | apply keeps_State_at | apply keeps_State_turnWriteOut | apply keeps_ite)

theorem keeps_verdictQueryIn {s0 s : State} (m : Sys2Proof.FabMsg) (h : Keeps s0 s) :
    Keeps s0 (verdictQueryIn m s) := by
  unfold verdictQueryIn
  with_reducible repeat' (first | assumption | intro _ | apply keeps_lrTokenIn | apply keeps_State_lrQueryIn)

theorem keeps_execVerdictQuery {s0 s : State} (m : Sys2Proof.FabMsg) (y1 : Nat) (h : Keeps s0 s) :
    KeepsOut s0 (execVerdictQuery m y1 s) := by
  unfold execVerdictQuery
  with_reducible repeat' (first | assumption | intro _ | apply keepsOut_next | apply keeps_verdictQueryIn | apply keeps_State_at)

theorem keeps_voteRoundIn {s0 s : State} (m : Sys2Proof.FabMsg) (h : Keeps s0 s) :
    Keeps s0 (voteRoundIn m s) := by
  unfold voteRoundIn
  with_reducible repeat' (first | assumption | intro _ | apply keeps_lrTokenIn | apply keeps_State_lrVerdictIn | apply keeps_State_lrVoteRound | apply keeps_State_finishAttempt | apply keeps_ite | apply keeps_ite_fst | apply keeps_forAll | apply keeps_foldl | apply keeps_foldl_fst | (apply keeps_of_fst; assumption) | (apply keeps_of_snd; assumption) | dsimp only | split)

theorem keeps_execVoteRound {s0 s : State} (m : Sys2Proof.FabMsg) (y1 : Nat) (h : Keeps s0 s) :
    KeepsOut s0 (execVoteRound m y1 s) := by
  unfold execVoteRound
  with_reducible repeat' (first | assumption | intro _ | apply keepsOut_next | apply keeps_voteRoundIn | apply keeps_State_at)

end Sys2Proof.Laws
end

