-- ==== Sys2Proof/Laws/KeepsLinks.lean ====
section
/-!
SUPPORT. Every operation of Machine/Links.lean keeps the queue and the canonical memory.
-/
namespace Sys2Proof.Laws
open Sys2Proof.Machine

theorem keeps_State_failFlights {s0 s : State} (path : Nat) (via : Nat) (part : Option Nat) (h : Keeps s0 s) :
    Keeps s0 (State.failFlights s path via part) := by
  unfold State.failFlights
  with_reducible repeat' (first | assumption | intro _ | apply keeps_forAll | apply keeps_State_flightAck)

theorem keeps_State_lastLane {s0 s : State} (p : Nat) (h : Keeps s0 s) :
    Keeps s0 (State.lastLane s p) := by
  unfold State.lastLane
  with_reducible repeat' (first | assumption | intro _ | apply keeps_State_raise | apply keeps_ite)

theorem keeps_State_portDown {s0 s : State} (p : Nat) (h : Keeps s0 s) :
    Keeps s0 (State.portDown s p) := by
  unfold State.portDown
  with_reducible repeat' (first | assumption | intro _ | apply keeps_State_raise | apply keeps_State_onFport | apply keeps_State_setNum | apply keeps_State_failFlights)

theorem keeps_State_replay {s0 s : State} (p : Nat) (h : Keeps s0 s) :
    Keeps s0 (State.replay s p) := by
  unfold State.replay
  with_reducible repeat' (first | assumption | intro _ | apply keeps_State_bumpBy)

theorem keeps_State_returnEntry {s0 s : State} (p : Nat) (code : Nat) (e : Nat) (h : Keeps s0 s) :
    Keeps s0 (State.returnEntry s p code e) := by
  unfold State.returnEntry
  with_reducible repeat' (first | assumption | intro _ | apply keeps_State_onFport | apply keeps_State_bumpBy | apply keeps_ite)

theorem keeps_State_train {s0 s : State} (p : Nat) (h : Keeps s0 s) :
    Keeps s0 (State.train s p) := by
  unfold State.train
  with_reducible repeat' (first | assumption | intro _ | apply keeps_State_onFport | apply keeps_State_setNum)

theorem keeps_execCablePresent {s0 s : State} (p : Fin 16) (present : Bool) (y2 : Nat) (h : Keeps s0 s) :
    KeepsOut s0 (execCablePresent p present y2 s) := by
  unfold execCablePresent
  with_reducible repeat' (first | assumption | intro _ | apply keepsOut_next | apply keeps_State_onFport | apply keeps_State_at | apply keeps_State_portDown | apply keeps_ite)

theorem keeps_execEqualisationComplete {s0 s : State} (p : Fin 16) (locked : Nat) (y2 : Nat) (h : Keeps s0 s) :
    KeepsOut s0 (execEqualisationComplete p locked y2 s) := by
  unfold execEqualisationComplete
  with_reducible repeat' (first | assumption | intro _ | apply keepsOut_next | apply keeps_State_at | apply keeps_State_portDown | apply keeps_State_lastLane | apply keeps_State_setNum | apply keeps_State_onFport | apply keeps_ite)

theorem keeps_execLaneSwap {s0 s : State} (p : Fin 16) (lane : Nat) (y2 : Nat) (h : Keeps s0 s) :
    KeepsOut s0 (execLaneSwap p lane y2 s) := by
  unfold execLaneSwap
  with_reducible repeat' (first | assumption | intro _ | apply keepsOut_next | apply keeps_State_at | apply keeps_State_portDown | apply keeps_State_onFport | apply keeps_ite)

theorem keeps_execLaneSwapResume {s0 s : State} (p : Fin 16) (y1 : Nat) (h : Keeps s0 s) :
    KeepsOut s0 (execLaneSwapResume p y1 s) := by
  unfold execLaneSwapResume
  with_reducible repeat' (first | assumption | intro _ | apply keepsOut_next | apply keeps_State_at | apply keeps_State_lastLane | apply keeps_State_raise | apply keeps_State_replay | apply keeps_State_onFport | apply keeps_State_setNum | apply keeps_ite | apply keeps_ite_fst | apply keeps_forAll | apply keeps_foldl | apply keeps_foldl_fst | (apply keeps_of_fst; assumption) | (apply keeps_of_snd; assumption) | dsimp only | split)

theorem keeps_execLinkTrainingStart {s0 s : State} (p : Fin 16) (y1 : Nat) (h : Keeps s0 s) :
    KeepsOut s0 (execLinkTrainingStart p y1 s) := by
  unfold execLinkTrainingStart
  with_reducible repeat' (first | assumption | intro _ | apply keepsOut_next | apply keeps_State_at | apply keeps_State_train | apply keeps_ite)

theorem keeps_execLinkUp {s0 s : State} (p : Fin 16) (y1 : Nat) (h : Keeps s0 s) :
    KeepsOut s0 (execLinkUp p y1 s) := by
  unfold execLinkUp
  with_reducible repeat' (first | assumption | intro _ | apply keepsOut_next | apply keeps_State_at | apply keeps_State_raise | apply keeps_State_onFport | apply keeps_State_setNum | apply keeps_ite)

theorem keeps_execMaintFlit {s0 s : State} (p : Fin 16) (payload : List Sys2Proof.Byte) (y2 : Nat) (h : Keeps s0 s) :
    KeepsOut s0 (execMaintFlit p payload y2 s) := by
  unfold execMaintFlit
  with_reducible repeat' (first | assumption | intro _ | apply keepsOut_next | apply keeps_State_at | apply keeps_forAll | apply keeps_State_returnEntry | apply keeps_ite)

theorem keeps_execPeerIdentityExchange {s0 s : State} (p : Fin 16) (peer : Nat) (y2 : Nat) (h : Keeps s0 s) :
    KeepsOut s0 (execPeerIdentityExchange p peer y2 s) := by
  unfold execPeerIdentityExchange
  with_reducible repeat' (first | assumption | intro _ | apply keepsOut_next | apply keeps_State_at | apply keeps_State_setNum | apply keeps_State_portDown | apply keeps_State_onFport | apply keeps_State_raise | apply keeps_ite)

theorem keeps_execPortDown {s0 s : State} (p : Fin 16) (y1 : Nat) (h : Keeps s0 s) :
    KeepsOut s0 (execPortDown p y1 s) := by
  unfold execPortDown
  with_reducible repeat' (first | assumption | intro _ | apply keepsOut_next | apply keeps_State_at | apply keeps_State_portDown | apply keeps_ite)

theorem keeps_execTrainingTimeout {s0 s : State} (p : Fin 16) (y1 : Nat) (h : Keeps s0 s) :
    KeepsOut s0 (execTrainingTimeout p y1 s) := by
  unfold execTrainingTimeout
  with_reducible repeat' (first | assumption | intro _ | apply keepsOut_next | apply keeps_State_at | apply keeps_State_onFport | apply keeps_ite)

theorem keeps_execTransitFlit {s0 s : State} (p : Fin 16) (pos : Nat) (flit : List Sys2Proof.Byte) (y3 : Nat) (h : Keeps s0 s) :
    KeepsOut s0 (execTransitFlit p pos flit y3 s) := by
  unfold execTransitFlit
  with_reducible repeat' (first | assumption | intro _ | apply keepsOut_next | apply keeps_State_at | apply keeps_State_bump | apply keeps_State_onFport | apply keeps_ite)

end Sys2Proof.Laws
end

