-- ==== Sys2Proof/Laws/KeepsDebug.lean ====
section
/-!
SUPPORT. Every operation of Machine/Debug.lean keeps the queue and the canonical memory.
-/
namespace Sys2Proof.Laws
open Sys2Proof.Machine

theorem keeps_State_bpHalt {s0 s : State} (n : Nat) (h : Keeps s0 s) :
    Keeps s0 (State.bpHalt s n) := by
  unfold State.bpHalt
  with_reducible repeat' (first | assumption | intro _ | apply keeps_State_onPart | apply keeps_ite | apply keeps_ite_fst | apply keeps_forAll | apply keeps_foldl | apply keeps_foldl_fst | (apply keeps_of_fst; assumption) | (apply keeps_of_snd; assumption) | dsimp only | split)

theorem keeps_State_startTrace {s0 s : State} (n : Nat) (h : Keeps s0 s) :
    Keeps s0 (State.startTrace s n) := by
  unfold State.startTrace
  with_reducible repeat' (first | assumption | intro _ | apply keeps_forAll | apply keeps_State_onHearth | apply keeps_State_onRick | apply keeps_State_writeRegion | apply keeps_State_onPart | apply keeps_ite | apply keeps_ite_fst | apply keeps_foldl | apply keeps_foldl_fst | (apply keeps_of_fst; assumption) | (apply keeps_of_snd; assumption) | dsimp only | split)

theorem keeps_State_sweepSlice {s0 s : State} (n : Nat) (r : Nat) (j : Nat) (recs : List (List Sys2Proof.Byte)) (lost : Nat) (h : Keeps s0 s) :
    Keeps s0 (State.sweepSlice s n r j recs lost) := by
  unfold State.sweepSlice
  with_reducible repeat' (first | assumption | intro _ | apply keeps_State_writeRegion | apply keeps_ite | apply keeps_ite_fst | apply keeps_forAll | apply keeps_foldl | apply keeps_foldl_fst | (apply keeps_of_fst; assumption) | (apply keeps_of_snd; assumption) | dsimp only | split)

theorem keeps_State_sweepRick {s0 s : State} (n : Nat) (k : Nat) (h : Keeps s0 s) :
    Keeps s0 (State.sweepRick s n k) := by
  unfold State.sweepRick
  with_reducible repeat' (first | assumption | intro _ | apply keeps_forAll | apply keeps_State_onHearth | apply keeps_State_onRick | apply keeps_State_sweepSlice | apply keeps_ite | apply keeps_ite_fst | apply keeps_foldl | apply keeps_foldl_fst | (apply keeps_of_fst; assumption) | (apply keeps_of_snd; assumption) | dsimp only | split)

theorem keeps_State_sweepPart {s0 s : State} (n : Nat) (h : Keeps s0 s) :
    Keeps s0 (State.sweepPart s n) := by
  unfold State.sweepPart
  with_reducible repeat' (first | assumption | intro _ | apply keeps_forAll | apply keeps_State_sweepRick | apply keeps_State_endTrace | apply keeps_ite)

theorem keeps_execTraceSample {s0 s : State} (n : Fin 12) (y1 : Nat) (h : Keeps s0 s) :
    KeepsOut s0 (execTraceSample n y1 s) := by
  unfold execTraceSample
  with_reducible repeat' (first | assumption | intro _ | apply keepsOut_next | apply keeps_State_at | apply keeps_forAll | apply keeps_State_hearthRecord | apply keeps_ite)

theorem keeps_execTraceSweep {s0 s : State} (n : Fin 12) (y1 : Nat) (h : Keeps s0 s) :
    KeepsOut s0 (execTraceSweep n y1 s) := by
  unfold execTraceSweep
  with_reducible repeat' (first | assumption | intro _ | apply keepsOut_next | apply keeps_State_at | apply keeps_State_sweepPart | apply keeps_ite)

end Sys2Proof.Laws
end

