-- ==== Sys2Proof/Laws/KeepsEther.lean ====
section
/-!
SUPPORT. Every operation of Machine/Ether.lean keeps the queue and the canonical memory.
-/
namespace Sys2Proof.Laws
open Sys2Proof.Machine

theorem keeps_State_connError {s0 s : State} (n : Nat) (c : Nat) (h : Keeps s0 s) :
    Keeps s0 (State.connError s n c) := by
  unfold State.connError
  with_reducible repeat' (first | assumption | intro _ | apply keeps_State_raise | apply keeps_State_bump | apply keeps_State_onConn | apply keeps_State_failFlights)

theorem keeps_State_ringWrite {s0 s : State} (n : Nat) (r : Nat) (at1 : Nat) (d : List Sys2Proof.Byte) (h : Keeps s0 s) :
    Keeps s0 (State.ringWrite s n r at1 d) := by
  unfold State.ringWrite
  with_reducible repeat' (first | assumption | intro _ | apply keeps_State_send)

theorem keeps_State_deliverRing {s0 sa : State} (y0 : Nat) (y2 : Nat) (y3 : Nat) (y4 : Bool) (h : Keeps s0 sa) :
    Keeps s0 (State.deliverRing y0 sa y2 y3 y4) := by
  induction y0 generalizing sa y2 y3 y4 with
  | zero => rw [State.deliverRing]; with_reducible repeat' assumption
  | succ f ih =>
    rw [State.deliverRing]
    with_reducible repeat' (first | assumption | intro _ | apply ih | apply keeps_State_ringWrite | apply keeps_State_onRing | apply keeps_State_raise | apply keeps_State_setBlob | apply keeps_State_send | apply keeps_ite | apply keeps_ite_fst | apply keeps_forAll | apply keeps_foldl | apply keeps_foldl_fst | (apply keeps_of_fst; assumption) | (apply keeps_of_snd; assumption) | dsimp only | split)


theorem keeps_State_deliverAll {s0 s : State} (n : Nat) (h : Keeps s0 s) :
    Keeps s0 (State.deliverAll s n) := by
  unfold State.deliverAll
  with_reducible repeat' (first | assumption | intro _ | apply keeps_forAll | apply keeps_State_deliverRing)

theorem keeps_State_ethAnswer {s0 s : State} (e : Nat) (f : List Sys2Proof.Byte) (h : Keeps s0 s) :
    Keeps s0 (State.ethAnswer s e f) := by
  unfold State.ethAnswer
  with_reducible repeat' (first | assumption | intro _ | apply keeps_State_onEport)

theorem keeps_State_ethCount {s0 s : State} (e : Nat) (i : Nat) (d : Nat) (h : Keeps s0 s) :
    Keeps s0 (State.ethCount s e i d) := by
  unfold State.ethCount
  with_reducible repeat' (first | assumption | intro _ | apply keeps_State_setBlob)

theorem keeps_State_ethDown {s0 s : State} (e : Nat) (st : Nat) (h : Keeps s0 s) :
    Keeps s0 (State.ethDown s e st) := by
  unfold State.ethDown
  with_reducible repeat' (first | assumption | intro _ | apply keeps_State_raise | apply keeps_State_setNum | apply keeps_ite)

theorem keeps_State_headRead {s0 s : State} (n : Nat) (r : Nat) (d : List Sys2Proof.Byte) (h : Keeps s0 s) :
    Keeps s0 (State.headRead s n r d) := by
  unfold State.headRead
  with_reducible repeat' (first | assumption | intro _ | apply keeps_State_onRing | apply keeps_State_deliverRing)

theorem keeps_State_reduceType {s0 s : State} (n : Nat) (b : Buf) (h : Keeps s0 s) :
    Keeps s0 (State.reduceType s n b).2 := by
  unfold State.reduceType
  with_reducible repeat' (first | assumption | intro _ | apply keeps_State_draw | apply keeps_ite | apply keeps_ite_fst | apply keeps_forAll | apply keeps_foldl | apply keeps_foldl_fst | (apply keeps_of_fst; assumption) | (apply keeps_of_snd; assumption) | dsimp only | split)

theorem keeps_State_retransmit {s0 s : State} (n : Nat) (c : Nat) (h : Keeps s0 s) :
    Keeps s0 (State.retransmit s n c) := by
  unfold State.retransmit
  with_reducible repeat' (first | assumption | intro _ | apply keeps_State_onConn | apply keeps_State_connError | apply keeps_ite | apply keeps_ite_fst | apply keeps_forAll | apply keeps_foldl | apply keeps_foldl_fst | (apply keeps_of_fst; assumption) | (apply keeps_of_snd; assumption) | dsimp only | split | (apply keeps_mk; first | assumption | apply keeps_State_onConn | apply keeps_State_connError | apply keeps_ite | apply keeps_forAll | apply keeps_foldl))

theorem keeps_State_roceAnswer {s0 s : State} (n : Nat) (c : Nat) (psn : Nat) (status : Nat) (d : List Sys2Proof.Byte) (h : Keeps s0 s) :
    Keeps s0 (State.roceAnswer s n c psn status d) := by
  unfold State.roceAnswer
  with_reducible repeat' (first | assumption | intro _ | apply keeps_State_emit)

theorem keeps_roceIn {s0 s : State} (op : Nat) (m : Sys2Proof.RoceMsg) (rcounter : Nat) (addv : Nat) (h : Keeps s0 s) :
    Keeps s0 (roceIn op m rcounter addv s) := by
  unfold roceIn
  with_reducible repeat' (first | assumption | intro _ | apply keeps_State_roceAnswer | apply keeps_State_onConn | apply keeps_State_nicRecord | apply keeps_State_refuseOnly | apply keeps_State_nicRead | apply keeps_State_reduceType | apply keeps_State_reduceTier | apply keeps_State_landPut | apply keeps_State_notify | apply keeps_ite | apply keeps_ite_fst | apply keeps_forAll | apply keeps_foldl | apply keeps_foldl_fst | (apply keeps_of_fst; assumption) | (apply keeps_of_snd; assumption) | dsimp only | split)

theorem keeps_State_roceArrive {s0 s : State} (op : Nat) (m : Sys2Proof.RoceMsg) (rcounter : Nat) (addv : Nat) (h : Keeps s0 s) :
    Keeps s0 (State.roceArrive s op m rcounter addv) := by
  unfold State.roceArrive
  with_reducible repeat' (first | assumption | intro _ | apply keeps_State_wakePart | apply keeps_roceIn | apply keeps_ite | apply keeps_ite_fst | apply keeps_forAll | apply keeps_foldl | apply keeps_foldl_fst | (apply keeps_of_fst; assumption) | (apply keeps_of_snd; assumption) | dsimp only | split | (apply keeps_mk; first | assumption | apply keeps_State_wakePart | apply keeps_roceIn | apply keeps_ite | apply keeps_forAll | apply keeps_foldl))

theorem keeps_State_roceDone {s0 s : State} (n : Nat) (id : Nat) (d : List Sys2Proof.Byte) (h : Keeps s0 s) :
    Keeps s0 (State.roceDone s n id d) := by
  unfold State.roceDone
  with_reducible repeat' (first | assumption | intro _ | apply keeps_State_headRead | apply keeps_State_flightAck | apply keeps_State_flightData | apply keeps_ite | apply keeps_ite_fst | apply keeps_forAll | apply keeps_foldl | apply keeps_foldl_fst | (apply keeps_of_fst; assumption) | (apply keeps_of_snd; assumption) | dsimp only | split | (apply keeps_mk; first | assumption | apply keeps_State_headRead | apply keeps_State_flightAck | apply keeps_State_flightData | apply keeps_ite | apply keeps_forAll | apply keeps_foldl))

theorem keeps_State_rxDrop {s0 s : State} (n : Nat) (e : Nat) (h : Keeps s0 s) :
    Keeps s0 (State.rxDrop s n e) := by
  unfold State.rxDrop
  with_reducible repeat' (first | assumption | intro _ | apply keeps_State_setBlob | apply keeps_State_raise | apply keeps_State_onEport | apply keeps_ite)

theorem keeps_execEchoRequest {s0 s : State} (e : Fin 8) (dst : List Sys2Proof.Byte) (pay : List Sys2Proof.Byte) (y3 : Nat) (h : Keeps s0 s) :
    KeepsOut s0 (execEchoRequest e dst pay y3 s) := by
  unfold execEchoRequest
  with_reducible repeat' (first | assumption | intro _ | apply keepsOut_next | apply keeps_State_at | apply keeps_State_ethAnswer | apply keeps_State_ethCount | apply keeps_ite | apply keeps_ite_fst | apply keeps_forAll | apply keeps_foldl | apply keeps_foldl_fst | (apply keeps_of_fst; assumption) | (apply keeps_of_snd; assumption) | dsimp only | split)

theorem keeps_execEthLinkDown {s0 s : State} (e : Fin 8) (y1 : Nat) (h : Keeps s0 s) :
    KeepsOut s0 (execEthLinkDown e y1 s) := by
  unfold execEthLinkDown
  with_reducible repeat' (first | assumption | intro _ | apply keepsOut_next | apply keeps_State_at | apply keeps_State_ethDown | apply keeps_ite)

theorem keeps_execEthLinkUp {s0 s : State} (e : Fin 8) (y1 : Nat) (h : Keeps s0 s) :
    KeepsOut s0 (execEthLinkUp e y1 s) := by
  unfold execEthLinkUp
  with_reducible repeat' (first | assumption | intro _ | apply keepsOut_next | apply keeps_State_at | apply keeps_State_raise | apply keeps_State_setNum | apply keeps_ite)

theorem keeps_execEthernetFrameReceive {s0 s : State} (e : Fin 8) (frame : List Sys2Proof.Byte) (fcsOk : Bool) (y3 : Nat) (h : Keeps s0 s) :
    KeepsOut s0 (execEthernetFrameReceive e frame fcsOk y3 s) := by
  unfold execEthernetFrameReceive
  with_reducible repeat' (first | assumption | intro _ | apply keepsOut_next | apply keeps_State_at | apply keeps_State_ethCount | apply keeps_State_wakePart | apply keeps_State_rxDrop | apply keeps_State_onEport | apply keeps_ite | apply keeps_ite_fst | apply keeps_forAll | apply keeps_foldl | apply keeps_foldl_fst | (apply keeps_of_fst; assumption) | (apply keeps_of_snd; assumption) | dsimp only | split)

theorem keeps_execNeighbourDiscovery {s0 s : State} (e : Fin 8) (target : List Sys2Proof.Byte) (y2 : Nat) (h : Keeps s0 s) :
    KeepsOut s0 (execNeighbourDiscovery e target y2 s) := by
  unfold execNeighbourDiscovery
  with_reducible repeat' (first | assumption | intro _ | apply keepsOut_next | apply keeps_State_at | apply keeps_State_ethAnswer | apply keeps_State_ethCount | apply keeps_ite | apply keeps_ite_fst | apply keeps_forAll | apply keeps_foldl | apply keeps_foldl_fst | (apply keeps_of_fst; assumption) | (apply keeps_of_snd; assumption) | dsimp only | split)

theorem keeps_execPluggableModuleInsert {s0 s : State} (e : Fin 8) (watts : Nat) (y2 : Nat) (h : Keeps s0 s) :
    KeepsOut s0 (execPluggableModuleInsert e watts y2 s) := by
  unfold execPluggableModuleInsert
  with_reducible repeat' (first | assumption | intro _ | apply keepsOut_next | apply keeps_State_setNum | apply keeps_State_at | apply keeps_State_ethDown | apply keeps_State_onEport | apply keeps_ite)

theorem keeps_execRdmaRead {s0 s : State} (m : Sys2Proof.RoceMsg) (y1 : Nat) (h : Keeps s0 s) :
    KeepsOut s0 (execRdmaRead m y1 s) := by
  unfold execRdmaRead
  with_reducible repeat' (first | assumption | intro _ | apply keepsOut_next | apply keeps_State_roceArrive | apply keeps_State_at)

theorem keeps_execRdmaWrite {s0 s : State} (m : Sys2Proof.RoceMsg) (y1 : Nat) (h : Keeps s0 s) :
    KeepsOut s0 (execRdmaWrite m y1 s) := by
  unfold execRdmaWrite
  with_reducible repeat' (first | assumption | intro _ | apply keepsOut_next | apply keeps_State_roceArrive | apply keeps_State_at)

theorem keeps_execRdmaWriteImm {s0 s : State} (m : Sys2Proof.RoceMsg) (rcounter : Nat) (addv : Nat) (y3 : Nat) (h : Keeps s0 s) :
    KeepsOut s0 (execRdmaWriteImm m rcounter addv y3 s) := by
  unfold execRdmaWriteImm
  with_reducible repeat' (first | assumption | intro _ | apply keepsOut_next | apply keeps_State_roceArrive | apply keeps_State_at)

theorem keeps_execRoceAckTimeout {s0 s : State} (n : Fin 12) (c : Nat) (y2 : Nat) (h : Keeps s0 s) :
    KeepsOut s0 (execRoceAckTimeout n c y2 s) := by
  unfold execRoceAckTimeout
  with_reducible repeat' (first | assumption | intro _ | apply keepsOut_next | apply keeps_State_at | apply keeps_State_retransmit | apply keeps_ite)

theorem keeps_execRoceAcknowledgement {s0 s : State} (n : Fin 12) (c : Nat) (psn : Nat) (nak : Bool) (data : List Sys2Proof.Byte) (y5 : Nat) (h : Keeps s0 s) :
    KeepsOut s0 (execRoceAcknowledgement n c psn nak data y5 s) := by
  unfold execRoceAcknowledgement
  with_reducible repeat' (first | assumption | intro _ | apply keepsOut_next | apply keeps_State_at | apply keeps_State_retransmit | apply keeps_State_onConn | apply keeps_forAll | apply keeps_State_roceDone | apply keeps_ite)

theorem keeps_execRunStart {s0 s : State} (e : Fin 8) (unit : Nat) (ready : Nat) (y3 : Nat) (h : Keeps s0 s) :
    KeepsOut s0 (execRunStart e unit ready y3 s) := by
  unfold execRunStart
  with_reducible repeat' (first | assumption | intro _ | apply keepsOut_next | apply keeps_State_at | apply keeps_State_onEport | apply keeps_ite | apply keeps_ite_fst | apply keeps_forAll | apply keeps_foldl | apply keeps_foldl_fst | (apply keeps_of_fst; assumption) | (apply keeps_of_snd; assumption) | dsimp only | split)

theorem keeps_execStepRecordDelivery {s0 s : State} (n : Fin 12) (y1 : Nat) (h : Keeps s0 s) :
    KeepsOut s0 (execStepRecordDelivery n y1 s) := by
  unfold execStepRecordDelivery
  with_reducible repeat' (first | assumption | intro _ | apply keepsOut_next | apply keeps_State_at | apply keeps_State_deliverAll | apply keeps_ite)

end Sys2Proof.Laws
end

