-- ==== Sys2Proof/Laws/KeepsPower.lean ====
section
/-!
SUPPORT. Every operation of Machine/Power.lean keeps the queue and the canonical memory.
-/
namespace Sys2Proof.Laws
open Sys2Proof.Machine

theorem keeps_State_raisePlatform {s0 s : State}  (h : Keeps s0 s) :
    Keeps s0 (State.raisePlatform s) := by
  unfold State.raisePlatform
  with_reducible repeat' (first | assumption | intro _ | apply keeps_State_raise | apply keeps_forAll | apply keeps_State_bumpBy | apply keeps_ite | apply keeps_ite_fst | apply keeps_foldl | apply keeps_foldl_fst | (apply keeps_of_fst; assumption) | (apply keeps_of_snd; assumption) | dsimp only | split | (apply keeps_mk; first | assumption | apply keeps_State_raise | apply keeps_forAll | apply keeps_State_bumpBy | apply keeps_ite | apply keeps_foldl))

theorem keeps_State_throttle {s0 s : State}  (h : Keeps s0 s) :
    Keeps s0 (State.throttle s) := by
  unfold State.throttle
  with_reducible repeat' (first | assumption | intro _ | apply keeps_forAll | apply keeps_State_onPart | apply keeps_State_bump | apply keeps_State_onRick | apply keeps_State_draw | apply keeps_State_raisePlatform | apply keeps_State_raise | apply keeps_ite | apply keeps_ite_fst | apply keeps_foldl | apply keeps_foldl_fst | (apply keeps_of_fst; assumption) | (apply keeps_of_snd; assumption) | dsimp only | split | (apply keeps_mk; first | assumption | apply keeps_forAll | apply keeps_State_onPart | apply keeps_State_bump | apply keeps_State_onRick | apply keeps_State_draw | apply keeps_State_raisePlatform | apply keeps_State_raise | apply keeps_ite | apply keeps_foldl))

theorem keeps_State_addCause {s0 s : State} (bit : Nat) (h : Keeps s0 s) :
    Keeps s0 (State.addCause s bit) := by
  unfold State.addCause
  with_reducible repeat' (first | assumption | intro _ | apply keeps_State_setNum | apply keeps_State_throttle | apply keeps_ite | apply keeps_ite_fst | apply keeps_forAll | apply keeps_foldl | apply keeps_foldl_fst | (apply keeps_of_fst; assumption) | (apply keeps_of_snd; assumption) | dsimp only | split | (apply keeps_mk; first | assumption | apply keeps_State_setNum | apply keeps_State_throttle | apply keeps_ite | apply keeps_forAll | apply keeps_foldl))

theorem keeps_State_clocksUp {s0 s : State} (n : Nat) (k : Nat) (h : Keeps s0 s) :
    Keeps s0 (State.clocksUp s n k) := by
  unfold State.clocksUp
  with_reducible repeat' (first | assumption | intro _ | apply keeps_State_setNum | apply keeps_State_onRick)

theorem keeps_State_defer {s0 s : State} (k : Nat) (h : Keeps s0 s) :
    Keeps s0 (State.defer s k) := by
  unfold State.defer
  with_reducible repeat' (first | assumption | intro _ | apply keeps_State_bump | apply keeps_State_raise | apply keeps_State_onPart | apply keeps_ite | apply keeps_ite_fst | apply keeps_forAll | apply keeps_foldl | apply keeps_foldl_fst | (apply keeps_of_fst; assumption) | (apply keeps_of_snd; assumption) | dsimp only | split)

theorem keeps_fabRow {s0 s : State} (row : Nat) (m : Sys2Proof.FabMsg) (h : Keeps s0 s) :
    Keeps s0 (fabRow row m s) := by
  unfold fabRow
  with_reducible repeat' (first | assumption | intro _ | apply keeps_putIn | apply keeps_getRequestIn | apply keeps_getResponseIn | apply keeps_reduceF32In | apply keeps_reduceI32In | apply keeps_counterAddIn | apply keeps_barrierTokenIn | apply keeps_ackIn | apply keeps_gateTokenIn | apply keeps_voteRoundIn | apply keeps_verdictQueryIn | apply keeps_turnWriteIn | apply keeps_turnFinalIn | apply keeps_turnParkedIn | apply keeps_turnFailIn | apply keeps_turnSwitchIn | apply keeps_turnAbortIn | apply keeps_turnUnparkIn | apply keeps_turnQueryIn | apply keeps_ite | apply keeps_ite_fst | apply keeps_forAll | apply keeps_foldl | apply keeps_foldl_fst | (apply keeps_of_fst; assumption) | (apply keeps_of_snd; assumption) | dsimp only | split)

theorem keeps_State_deliverOne {s0 s : State} (n : Nat) (y2 : Held) (h : Keeps s0 s) :
    Keeps s0 (State.deliverOne s n y2) := by
  unfold State.deliverOne
  with_reducible repeat' (first | assumption | intro _ | apply keeps_fabRow | apply keeps_State_refuseMsg | apply keeps_roceIn | apply keeps_ite | apply keeps_ite_fst | apply keeps_forAll | apply keeps_foldl | apply keeps_foldl_fst | (apply keeps_of_fst; assumption) | (apply keeps_of_snd; assumption) | dsimp only | split)

theorem keeps_State_deliverHeld {s0 s : State} (n : Nat) (h : Keeps s0 s) :
    Keeps s0 (State.deliverHeld s n) := by
  unfold State.deliverHeld
  with_reducible repeat' (first | assumption | intro _ | apply keeps_forAll | apply keeps_State_onEport | apply keeps_State_deliverOne | apply keeps_ite | apply keeps_ite_fst | apply keeps_foldl | apply keeps_foldl_fst | (apply keeps_of_fst; assumption) | (apply keeps_of_snd; assumption) | dsimp only | split | (apply keeps_mk; first | assumption | apply keeps_forAll | apply keeps_State_onEport | apply keeps_State_deliverOne | apply keeps_ite | apply keeps_foldl))

theorem keeps_State_dropCause {s0 s : State} (bit : Nat) (h : Keeps s0 s) :
    Keeps s0 (State.dropCause s bit) := by
  unfold State.dropCause
  with_reducible repeat' (first | assumption | intro _ | apply keeps_State_setNum | apply keeps_ite | apply keeps_ite_fst | apply keeps_forAll | apply keeps_foldl | apply keeps_foldl_fst | (apply keeps_of_fst; assumption) | (apply keeps_of_snd; assumption) | dsimp only | split | (apply keeps_mk; first | assumption | apply keeps_State_setNum | apply keeps_ite | apply keeps_forAll | apply keeps_foldl))

theorem keeps_State_hearthsLost {s0 s : State} (k : Nat) (h : Keeps s0 s) :
    Keeps s0 (State.hearthsLost s k) := by
  unfold State.hearthsLost
  with_reducible repeat' (first | assumption | intro _ | apply keeps_forAll | apply keeps_State_onHearth | apply keeps_State_zeroRange)

theorem keeps_State_rickAwake {s0 s : State} (k : Nat) (h : Keeps s0 s) :
    Keeps s0 (State.rickAwake s k) := by
  unfold State.rickAwake
  with_reducible repeat' (first | assumption | intro _ | apply keeps_State_kindZero | apply keeps_State_onRick | apply keeps_State_clocksUp | apply keeps_State_restoreRick | apply keeps_State_loadStreams | apply keeps_State_idleBoundary | apply keeps_State_deliverHeld | apply keeps_ite | apply keeps_ite_fst | apply keeps_forAll | apply keeps_foldl | apply keeps_foldl_fst | (apply keeps_of_fst; assumption) | (apply keeps_of_snd; assumption) | dsimp only | split)

theorem keeps_State_rickDefaults {s0 s : State} (k : Nat) (h : Keeps s0 s) :
    Keeps s0 (State.rickDefaults s k) := by
  unfold State.rickDefaults
  with_reducible repeat' (first | assumption | intro _ | apply keeps_State_unset | apply keeps_State_onRick | apply keeps_ite | apply keeps_ite_fst | apply keeps_forAll | apply keeps_foldl)

theorem keeps_State_rickCold {s0 s : State} (k : Nat) (h : Keeps s0 s) :
    Keeps s0 (State.rickCold s k) := by
  unfold State.rickCold
  with_reducible repeat' (first | assumption | intro _ | apply keeps_State_saveRick | apply keeps_State_onRick | apply keeps_State_rickDefaults | apply keeps_State_hearthsLost | apply keeps_ite | apply keeps_ite_fst | apply keeps_forAll | apply keeps_foldl | apply keeps_foldl_fst | (apply keeps_of_fst; assumption) | (apply keeps_of_snd; assumption) | dsimp only | split)

theorem keeps_State_rickOff {s0 s : State} (k : Nat) (h : Keeps s0 s) :
    Keeps s0 (State.rickOff s k) := by
  unfold State.rickOff
  with_reducible repeat' (first | assumption | intro _ | apply keeps_State_onRick | apply keeps_State_rickDefaults | apply keeps_State_hearthsLost | apply keeps_State_setNum)

theorem keeps_State_startDescents {s0 sa : State} (y0 : List Nat) (h : Keeps s0 sa) :
    Keeps s0 (State.startDescents y0 sa) := by
  induction y0 generalizing sa with
  | nil => rw [State.startDescents]; with_reducible repeat' assumption
  | cons x r ih =>
    rw [State.startDescents]
    with_reducible repeat' (first | assumption | intro _ | apply ih | apply keeps_State_onRick | apply keeps_ite | apply keeps_ite_fst | apply keeps_forAll | apply keeps_foldl | apply keeps_foldl_fst | (apply keeps_of_fst; assumption) | (apply keeps_of_snd; assumption) | dsimp only | split | (apply keeps_mk; first | apply ih | assumption | apply keeps_State_onRick | apply keeps_ite | apply keeps_forAll | apply keeps_foldl))


theorem keeps_State_startWakes {s0 sa : State} (y0 : List Nat) (h : Keeps s0 sa) :
    Keeps s0 (State.startWakes y0 sa) := by
  induction y0 generalizing sa with
  | nil => rw [State.startWakes]; with_reducible repeat' assumption
  | cons x r ih =>
    rw [State.startWakes]
    with_reducible repeat' (first | assumption | intro _ | apply ih | apply keeps_State_startWake | apply keeps_State_defer | apply keeps_ite | apply keeps_ite_fst | apply keeps_forAll | apply keeps_foldl | apply keeps_foldl_fst | (apply keeps_of_fst; assumption) | (apply keeps_of_snd; assumption) | dsimp only | split | (apply keeps_mk; first | apply ih | assumption | apply keeps_State_startWake | apply keeps_State_defer | apply keeps_ite | apply keeps_forAll | apply keeps_foldl))


theorem keeps_State_sweepFor {s0 s : State} (k : Nat) (h : Keeps s0 s) :
    Keeps s0 (State.sweepFor s k) := by
  unfold State.sweepFor
  with_reducible repeat' (first | assumption | intro _ | apply keeps_State_sweepRick | apply keeps_ite | apply keeps_ite_fst | apply keeps_forAll | apply keeps_foldl | apply keeps_foldl_fst | (apply keeps_of_fst; assumption) | (apply keeps_of_snd; assumption) | dsimp only | split)

theorem keeps_execAlertAssert {s0 s : State} (y0 : Nat) (h : Keeps s0 s) :
    KeepsOut s0 (execAlertAssert y0 s) := by
  unfold execAlertAssert
  with_reducible repeat' (first | assumption | intro _ | apply keepsOut_next | apply keeps_State_addCause | apply keeps_State_setNum | apply keeps_State_at)

theorem keeps_execAlertRelease {s0 s : State} (y0 : Nat) (h : Keeps s0 s) :
    KeepsOut s0 (execAlertRelease y0 s) := by
  unfold execAlertRelease
  with_reducible repeat' (first | assumption | intro _ | apply keepsOut_next | apply keeps_State_dropCause | apply keeps_State_setNum | apply keeps_State_at)

theorem keeps_execBackgroundWakeDue {s0 s : State} (n : Fin 12) (y1 : Nat) (h : Keeps s0 s) :
    KeepsOut s0 (execBackgroundWakeDue n y1 s) := by
  unfold execBackgroundWakeDue
  with_reducible repeat' (first | assumption | intro _ | apply keepsOut_next | apply keeps_State_at | apply keeps_State_wakePart | apply keeps_ite)

theorem keeps_execBudgetWindow {s0 s : State} (n : Fin 12) (meanW : Nat) (y2 : Nat) (h : Keeps s0 s) :
    KeepsOut s0 (execBudgetWindow n meanW y2 s) := by
  unfold execBudgetWindow
  with_reducible repeat' (first | assumption | intro _ | apply keepsOut_next | apply keeps_State_at | apply keeps_State_onPart | apply keeps_State_requestClock | apply keeps_ite)

theorem keeps_execEmergencyEnd {s0 s : State} (y0 : Nat) (h : Keeps s0 s) :
    KeepsOut s0 (execEmergencyEnd y0 s) := by
  unfold execEmergencyEnd
  with_reducible repeat' (first | assumption | intro _ | apply keepsOut_next | apply keeps_State_at | apply keeps_State_setBlob | apply keeps_State_setNum | apply keeps_State_raise | apply keeps_ite | apply keeps_ite_fst | apply keeps_forAll | apply keeps_foldl | apply keeps_foldl_fst | (apply keeps_of_fst; assumption) | (apply keeps_of_snd; assumption) | dsimp only | split | (apply keeps_mk; first | assumption | apply keeps_State_at | apply keeps_State_setBlob | apply keeps_State_setNum | apply keeps_State_raise | apply keeps_ite | apply keeps_forAll | apply keeps_foldl))

theorem keeps_execEmergencyRaise {s0 s : State} (cause : Fin 8) (y1 : Nat) (h : Keeps s0 s) :
    KeepsOut s0 (execEmergencyRaise cause y1 s) := by
  unfold execEmergencyRaise
  with_reducible repeat' (first | assumption | intro _ | apply keepsOut_next | apply keeps_State_at | apply keeps_State_addCause | apply keeps_ite)

theorem keeps_execIdleHoldExpiry {s0 s : State} (n : Fin 12) (y1 : Nat) (h : Keeps s0 s) :
    KeepsOut s0 (execIdleHoldExpiry n y1 s) := by
  unfold execIdleHoldExpiry
  with_reducible repeat' (first | assumption | intro _ | apply keepsOut_next | apply keeps_State_at | apply keeps_State_startEntry | apply keeps_ite | apply keeps_ite_fst | apply keeps_forAll | apply keeps_foldl | apply keeps_foldl_fst | (apply keeps_of_fst; assumption) | (apply keeps_of_snd; assumption) | dsimp only | split)

theorem keeps_execOverrunWindow {s0 s : State} (n : Fin 12) (meanW : Nat) (y2 : Nat) (h : Keeps s0 s) :
    KeepsOut s0 (execOverrunWindow n meanW y2 s) := by
  unfold execOverrunWindow
  with_reducible repeat' (first | assumption | intro _ | apply keepsOut_next | apply keeps_State_setNum | apply keeps_State_at | apply keeps_State_onPart | apply keeps_State_bump | apply keeps_State_raise | apply keeps_ite)

theorem keeps_execPhaseFailure {s0 s : State} (y0 : Fin 12) (y1 : Nat) (h : Keeps s0 s) :
    KeepsOut s0 (execPhaseFailure y0 y1 s) := by
  unfold execPhaseFailure
  with_reducible repeat' (first | assumption | intro _ | apply keepsOut_next | apply keeps_State_bumpBy | apply keeps_State_at | apply keeps_State_addCause | apply keeps_State_raise | apply keeps_ite)

theorem keeps_execRickWakeComplete {s0 s : State} (k : Fin 12) (y1 : Nat) (h : Keeps s0 s) :
    KeepsOut s0 (execRickWakeComplete k y1 s) := by
  unfold execRickWakeComplete
  with_reducible repeat' (first | assumption | intro _ | apply keepsOut_next | apply keeps_State_at | apply keeps_State_rickAwake | apply keeps_ite | apply keeps_ite_fst | apply keeps_forAll | apply keeps_foldl | apply keeps_foldl_fst | (apply keeps_of_fst; assumption) | (apply keeps_of_snd; assumption) | dsimp only | split)

theorem keeps_execSlotBoundary {s0 s : State} (y0 : Nat) (h : Keeps s0 s) :
    KeepsOut s0 (execSlotBoundary y0 s) := by
  unfold execSlotBoundary
  with_reducible repeat' (first | assumption | intro _ | apply keepsOut_next | apply keeps_State_at | apply keeps_State_startDescents | apply keeps_State_startWakes | apply keeps_ite)

theorem keeps_execStaggerExpiry {s0 s : State} (n : Fin 12) (y1 : Nat) (h : Keeps s0 s) :
    KeepsOut s0 (execStaggerExpiry n y1 s) := by
  unfold execStaggerExpiry
  with_reducible repeat' (first | assumption | intro _ | apply keepsOut_next | apply keeps_State_at | apply keeps_State_waitWake | apply keeps_ite | apply keeps_ite_fst | apply keeps_forAll | apply keeps_foldl | apply keeps_foldl_fst | (apply keeps_of_fst; assumption) | (apply keeps_of_snd; assumption) | dsimp only | split)

theorem keeps_execStateEntryComplete {s0 s : State} (k : Fin 12) (y1 : Nat) (h : Keeps s0 s) :
    KeepsOut s0 (execStateEntryComplete k y1 s) := by
  unfold execStateEntryComplete
  with_reducible repeat' (first | assumption | intro _ | apply keepsOut_next | apply keeps_State_at | apply keeps_State_sweepFor | apply keeps_State_rickOff | apply keeps_State_rickCold | apply keeps_State_onRick | apply keeps_State_parkPorts | apply keeps_State_wakeLight | apply keeps_State_waitWake | apply keeps_ite | apply keeps_ite_fst | apply keeps_forAll | apply keeps_foldl | apply keeps_foldl_fst | (apply keeps_of_fst; assumption) | (apply keeps_of_snd; assumption) | dsimp only | split | (apply keeps_mk; first | assumption | apply keeps_State_at | apply keeps_State_sweepFor | apply keeps_State_rickOff | apply keeps_State_rickCold | apply keeps_State_onRick | apply keeps_State_parkPorts | apply keeps_State_wakeLight | apply keeps_State_waitWake | apply keeps_ite | apply keeps_forAll | apply keeps_foldl))

theorem keeps_execThermalCondition {s0 s : State} (on : Bool) (y1 : Nat) (h : Keeps s0 s) :
    KeepsOut s0 (execThermalCondition on y1 s) := by
  unfold execThermalCondition
  with_reducible repeat' (first | assumption | intro _ | apply keepsOut_next | apply keeps_State_addCause | apply keeps_State_at | apply keeps_State_dropCause | apply keeps_ite)

theorem keeps_execWakeAtReached {s0 s : State} (n : Fin 12) (y1 : Nat) (h : Keeps s0 s) :
    KeepsOut s0 (execWakeAtReached n y1 s) := by
  unfold execWakeAtReached
  with_reducible repeat' (first | assumption | intro _ | apply keepsOut_next | apply keeps_State_at | apply keeps_State_wakePart | apply keeps_State_setNum | apply keeps_ite)

theorem keeps_execWakeBoundReached {s0 s : State} (n : Fin 12) (y1 : Nat) (h : Keeps s0 s) :
    KeepsOut s0 (execWakeBoundReached n y1 s) := by
  unfold execWakeBoundReached
  with_reducible repeat' (first | assumption | intro _ | apply keepsOut_next | apply keeps_State_at | apply keeps_State_idleBoundary | apply keeps_ite | apply keeps_ite_fst | apply keeps_forAll | apply keeps_foldl | apply keeps_foldl_fst | (apply keeps_of_fst; assumption) | (apply keeps_of_snd; assumption) | dsimp only | split)

end Sys2Proof.Laws
end

