-- ==== Sys2Proof/Laws/KeepsBoot.lean ====
section
/-!
SUPPORT. Every operation of Machine/Boot.lean keeps the queue and the canonical memory.
-/
namespace Sys2Proof.Laws
open Sys2Proof.Machine

theorem keeps_State_hearthCounters {s0 s : State} (n : Nat) (h : Keeps s0 s) :
    Keeps s0 (State.hearthCounters s n) := by
  unfold State.hearthCounters
  with_reducible repeat' (first | assumption | intro _ | apply keeps_forAll | apply keeps_State_onRick | apply keeps_State_onHearth)

theorem keeps_State_holdModule {s0 s : State}  (h : Keeps s0 s) :
    Keeps s0 (State.holdModule s) := by
  unfold State.holdModule
  with_reducible repeat' (first | assumption | intro _ | apply keeps_forAll | apply keeps_State_onRick | apply keeps_ite | apply keeps_ite_fst | apply keeps_foldl | apply keeps_foldl_fst | (apply keeps_of_fst; assumption) | (apply keeps_of_snd; assumption) | dsimp only | split | (apply keeps_mk; first | assumption | apply keeps_forAll | apply keeps_State_onRick | apply keeps_ite | apply keeps_foldl))

theorem keeps_State_reborn {s0 s : State} (on : Bool) (h : Keeps s0 s) :
    Keeps s0 (State.reborn s on) := by
  unfold State.reborn
  extract_lets t s1 s2
  have k1 : Keeps s0 s1 := ⟨h.pending, fun _ => rfl⟩
  have k2 : Keeps s0 s2 := keeps_ite k1 (keeps_State_setBlob _ _ k1)
  exact keeps_ite k2 (keeps_State_setNum _ _ k2)


theorem keeps_State_moduleReset {s0 s : State} (cause : Nat) (h : Keeps s0 s) :
    Keeps s0 (State.moduleReset s cause) := by
  unfold State.moduleReset
  with_reducible repeat' (first | assumption | intro _ | apply keeps_forAll | apply keeps_State_bumpBy | apply keeps_State_setBlob | apply keeps_State_reborn | apply keeps_State_bump | apply keeps_ite | apply keeps_ite_fst | apply keeps_foldl | apply keeps_foldl_fst | (apply keeps_of_fst; assumption) | (apply keeps_of_snd; assumption) | dsimp only | split | (apply keeps_mk; first | assumption | apply keeps_forAll | apply keeps_State_bumpBy | apply keeps_State_setBlob | apply keeps_State_reborn | apply keeps_State_bump | apply keeps_ite | apply keeps_foldl))

theorem keeps_State_orderFixed {s0 s : State}  (h : Keeps s0 s) :
    Keeps s0 (State.orderFixed s) := by
  unfold State.orderFixed
  with_reducible repeat' (first | assumption | intro _ | apply keeps_ite | apply keeps_ite_fst | apply keeps_forAll | apply keeps_foldl | apply keeps_foldl_fst | (apply keeps_of_fst; assumption) | (apply keeps_of_snd; assumption) | dsimp only | split | (apply keeps_mk; first | assumption | apply keeps_ite | apply keeps_forAll | apply keeps_foldl))

theorem keeps_State_partDefaults {s0 s : State} (n : Nat) (p : Cls → Bool) (h : Keeps s0 s) :
    Keeps s0 (State.partDefaults s n p) := by
  unfold State.partDefaults
  with_reducible repeat' (first | assumption | intro _ | apply keeps_ite | apply keeps_ite_fst | apply keeps_forAll | apply keeps_foldl | apply keeps_foldl_fst | (apply keeps_of_fst; assumption) | (apply keeps_of_snd; assumption) | dsimp only | split | (apply keeps_mk; first | assumption | apply keeps_ite | apply keeps_forAll | apply keeps_foldl))

theorem keeps_State_powerOn {s0 s : State} (cause : Nat) (h : Keeps s0 s) :
    Keeps s0 (State.powerOn s cause) := by
  unfold State.powerOn
  with_reducible repeat' (first | assumption | intro _ | apply keeps_State_setBlob | apply keeps_State_reborn | apply keeps_ite | apply keeps_ite_fst | apply keeps_forAll | apply keeps_foldl | apply keeps_foldl_fst | (apply keeps_of_fst; assumption) | (apply keeps_of_snd; assumption) | dsimp only | split | (apply keeps_mk; first | assumption | apply keeps_State_setBlob | apply keeps_State_reborn | apply keeps_ite | apply keeps_forAll | apply keeps_foldl))

theorem keeps_State_selfTest {s0 s : State} (g : Nat) (h : Keeps s0 s) :
    Keeps s0 (State.selfTest s g) := by
  unfold State.selfTest
  with_reducible repeat' (first | assumption | intro _ | apply keeps_forAll | apply keeps_State_diagnose | apply keeps_ite)

theorem keeps_State_resetHearth {s0 s : State} (g : Nat) (h : Keeps s0 s) :
    Keeps s0 (State.resetHearth s g) := by
  unfold State.resetHearth
  with_reducible repeat' (first | assumption | intro _ | apply keeps_State_zeroRange | apply keeps_State_selfTest | apply keeps_State_onHearth)

theorem keeps_State_resetPartition {s0 s : State} (n : Nat) (h : Keeps s0 s) :
    Keeps s0 (State.resetPartition s n) := by
  unfold State.resetPartition
  with_reducible repeat' (first | assumption | intro _ | apply keeps_State_discardAttempt | apply keeps_State_turnFail | apply keeps_State_unloadAll | apply keeps_State_hearthCounters | apply keeps_State_partDefaults | apply keeps_State_onPart | apply keeps_forAll | apply keeps_State_onGroup | apply keeps_State_raise | apply keeps_State_applyConsent | apply keeps_State_idleBoundary | apply keeps_ite)

theorem keeps_State_resetRick {s0 s : State} (k : Nat) (h : Keeps s0 s) :
    Keeps s0 (State.resetRick s k) := by
  unfold State.resetRick
  with_reducible repeat' (first | assumption | intro _ | apply keeps_State_onRick | apply keeps_ite | apply keeps_ite_fst | apply keeps_forAll | apply keeps_foldl | apply keeps_foldl_fst | (apply keeps_of_fst; assumption) | (apply keeps_of_snd; assumption) | dsimp only | split | (apply keeps_mk; first | assumption | apply keeps_State_onRick | apply keeps_ite | apply keeps_forAll | apply keeps_foldl))

theorem keeps_State_setBootTime {s0 s : State} (i : Nat) (h : Keeps s0 s) :
    Keeps s0 (State.setBootTime s i) := by
  unfold State.setBootTime
  with_reducible repeat' (first | assumption | intro _ | apply keeps_State_setBlob)

theorem keeps_State_zeroRick {s0 s : State} (k : Nat) (h : Keeps s0 s) :
    Keeps s0 (State.zeroRick s k) := by
  unfold State.zeroRick
  with_reducible repeat' (first | assumption | intro _ | apply keeps_State_zeroRange | apply keeps_State_hearthsLost | apply keeps_ite | apply keeps_ite_fst | apply keeps_forAll | apply keeps_foldl)

theorem keeps_State_rickIsReady {s0 s : State} (k : Nat) (h : Keeps s0 s) :
    Keeps s0 (State.rickIsReady s k) := by
  unfold State.rickIsReady
  with_reducible repeat' (first | assumption | intro _ | apply keeps_State_onRick | apply keeps_State_setBootTime | apply keeps_State_setNum | apply keeps_State_zeroRick | apply keeps_State_clocksUp | apply keeps_State_unavailable | apply keeps_State_idleBoundary | apply keeps_State_giveFlush | apply keeps_ite | apply keeps_ite_fst | apply keeps_forAll | apply keeps_foldl | apply keeps_foldl_fst | (apply keeps_of_fst; assumption) | (apply keeps_of_snd; assumption) | dsimp only | split)

theorem keeps_State_setBoth {s0 s : State} (key : Nat) (v : DVal) (h : Keeps s0 s) :
    Keeps s0 (State.setBoth s key v) := by
  unfold State.setBoth
  with_reducible repeat' (first | assumption | intro _ | apply keeps_ite | apply keeps_ite_fst | apply keeps_forAll | apply keeps_foldl | apply keeps_foldl_fst | (apply keeps_of_fst; assumption) | (apply keeps_of_snd; assumption) | dsimp only | split | (apply keeps_mk; first | assumption | apply keeps_ite | apply keeps_forAll | apply keeps_foldl))

theorem keeps_State_setBank {s0 s : State} (b : Nat) (st : Nat) (h : Keeps s0 s) :
    Keeps s0 (State.setBank s b st) := by
  unfold State.setBank
  with_reducible repeat' (first | assumption | intro _ | apply keeps_State_setBoth)

theorem keeps_State_takeover {s0 s : State}  (h : Keeps s0 s) :
    Keeps s0 (State.takeover s) := by
  unfold State.takeover
  with_reducible repeat' (first | assumption | intro _ | apply keeps_State_raise | apply keeps_State_bump | apply keeps_State_setNum | apply keeps_ite | apply keeps_ite_fst | apply keeps_forAll | apply keeps_foldl | apply keeps_foldl_fst | (apply keeps_of_fst; assumption) | (apply keeps_of_snd; assumption) | dsimp only | split | (apply keeps_mk; first | assumption | apply keeps_State_raise | apply keeps_State_bump | apply keeps_State_setNum | apply keeps_ite | apply keeps_forAll | apply keeps_foldl))

theorem keeps_execCollierReady {s0 s : State} (y0 : Nat) (h : Keeps s0 s) :
    KeepsOut s0 (execCollierReady y0 s) := by
  unfold execCollierReady
  with_reducible repeat' (first | assumption | intro _ | apply keepsOut_next | apply keeps_State_at | apply keeps_State_setBank | apply keeps_State_setBlob | apply keeps_State_setBootTime | apply keeps_State_setNum | apply keeps_forAll | apply keeps_State_onPart | apply keeps_State_orderFixed | apply keeps_ite)

theorem keeps_execFullService {s0 s : State} (y0 : Nat) (h : Keeps s0 s) :
    KeepsOut s0 (execFullService y0 s) := by
  unfold execFullService
  with_reducible repeat' (first | assumption | intro _ | apply keepsOut_next | apply keeps_State_at | apply keeps_State_raise | apply keeps_State_setBootTime | apply keeps_State_setNum | apply keeps_State_setKindling | apply keeps_State_noKindling | apply keeps_forAll | apply keeps_State_idleBoundary | apply keeps_ite | apply keeps_ite_fst | apply keeps_foldl | apply keeps_foldl_fst | (apply keeps_of_fst; assumption) | (apply keeps_of_snd; assumption) | dsimp only | split | (apply keeps_mk; first | assumption | apply keeps_State_at | apply keeps_State_raise | apply keeps_State_setBootTime | apply keeps_State_setNum | apply keeps_State_setKindling | apply keeps_State_noKindling | apply keeps_forAll | apply keeps_State_idleBoundary | apply keeps_ite | apply keeps_foldl))

theorem keeps_execHearthWearStore {s0 s : State} (y0 : Nat) (h : Keeps s0 s) :
    KeepsOut s0 (execHearthWearStore y0 s) := by
  unfold execHearthWearStore
  with_reducible repeat' (first | assumption | intro _ | apply keepsOut_next | apply keeps_State_at | apply keeps_forAll | apply keeps_ite | apply keeps_ite_fst | apply keeps_foldl | apply keeps_foldl_fst | (apply keeps_of_fst; assumption) | (apply keeps_of_snd; assumption) | dsimp only | split | (apply keeps_mk; first | assumption | apply keeps_State_at | apply keeps_forAll | apply keeps_ite | apply keeps_foldl))

theorem keeps_execInputOutOfRange {s0 s : State} (mv : Nat) (y1 : Nat) (h : Keeps s0 s) :
    KeepsOut s0 (execInputOutOfRange mv y1 s) := by
  unfold execInputOutOfRange
  dsimp only
  split
  · exact keepsOut_fault _
  · apply keepsOut_next
    split
    · exact keeps_State_at _ h
    · exact keeps_mk (keeps_State_holdModule (keeps_State_at _ h))


theorem keeps_execLockstepMismatch {s0 s : State} (y0 : Nat) (h : Keeps s0 s) :
    KeepsOut s0 (execLockstepMismatch y0 s) := by
  unfold execLockstepMismatch
  with_reducible repeat' (first | assumption | intro _ | apply keepsOut_next | apply keeps_State_at | apply keeps_State_takeover | apply keeps_ite)

theorem keeps_execPowerValid {s0 s : State} (y0 : Nat) (h : Keeps s0 s) :
    KeepsOut s0 (execPowerValid y0 s) := by
  unfold execPowerValid
  with_reducible repeat' (first | assumption | intro _ | apply keepsOut_next | apply keeps_State_at | apply keeps_State_raise | apply keeps_State_powerOn | apply keeps_ite)

theorem keeps_execPresenceClose {s0 s : State} (bulkmV : Nat) (inmV : Nat) (y2 : Nat) (h : Keeps s0 s) :
    KeepsOut s0 (execPresenceClose bulkmV inmV y2 s) := by
  unfold execPresenceClose
  with_reducible repeat' (first | assumption | intro _ | apply keepsOut_next | apply keeps_State_at | apply keeps_ite | apply keeps_ite_fst | apply keeps_forAll | apply keeps_foldl | apply keeps_foldl_fst | (apply keeps_of_fst; assumption) | (apply keeps_of_snd; assumption) | dsimp only | split | (apply keeps_mk; first | assumption | apply keeps_State_at | apply keeps_ite | apply keeps_forAll | apply keeps_foldl))

theorem keeps_execPresenceOpen {s0 s : State} (y0 : Nat) (h : Keeps s0 s) :
    KeepsOut s0 (execPresenceOpen y0 s) := by
  unfold execPresenceOpen
  with_reducible repeat' (first | assumption | intro _ | apply keepsOut_next | apply keeps_State_holdModule | apply keeps_State_at | apply keeps_forAll | apply keeps_State_rickOff | apply keeps_ite | apply keeps_ite_fst | apply keeps_foldl | apply keeps_foldl_fst | (apply keeps_of_fst; assumption) | (apply keeps_of_snd; assumption) | dsimp only | split | (apply keeps_mk; first | assumption | apply keeps_State_holdModule | apply keeps_State_at | apply keeps_forAll | apply keeps_State_rickOff | apply keeps_ite | apply keeps_foldl))

theorem keeps_execRickBringupStart {s0 s : State} (k : Fin 12) (y1 : Nat) (h : Keeps s0 s) :
    KeepsOut s0 (execRickBringupStart k y1 s) := by
  unfold execRickBringupStart
  with_reducible repeat' (first | assumption | intro _ | apply keepsOut_next | apply keeps_State_at | apply keeps_State_onRick | apply keeps_ite | apply keeps_ite_fst | apply keeps_forAll | apply keeps_foldl | apply keeps_foldl_fst | (apply keeps_of_fst; assumption) | (apply keeps_of_snd; assumption) | dsimp only | split | (apply keeps_mk; first | assumption | apply keeps_State_at | apply keeps_State_onRick | apply keeps_ite | apply keeps_forAll | apply keeps_foldl))

theorem keeps_execRickReady {s0 s : State} (k : Fin 12) (ok : Bool) (y2 : Nat) (h : Keeps s0 s) :
    KeepsOut s0 (execRickReady k ok y2 s) := by
  unfold execRickReady
  with_reducible repeat' (first | assumption | intro _ | apply keepsOut_next | apply keeps_State_at | apply keeps_forAll | apply keeps_State_selfTest | apply keeps_State_rickIsReady | apply keeps_State_degrade | apply keeps_State_onRick | apply keeps_State_raise | apply keeps_ite | apply keeps_ite_fst | apply keeps_foldl | apply keeps_foldl_fst | (apply keeps_of_fst; assumption) | (apply keeps_of_snd; assumption) | dsimp only | split | (apply keeps_mk; first | assumption | apply keeps_State_at | apply keeps_forAll | apply keeps_State_selfTest | apply keeps_State_rickIsReady | apply keeps_State_degrade | apply keeps_State_onRick | apply keeps_State_raise | apply keeps_ite | apply keeps_foldl))

theorem keeps_execThermalRestart {s0 s : State} (y0 : Nat) (h : Keeps s0 s) :
    KeepsOut s0 (execThermalRestart y0 s) := by
  unfold execThermalRestart
  with_reducible repeat' (first | assumption | intro _ | apply keepsOut_next | apply keeps_State_at | apply keeps_State_raise | apply keeps_State_powerOn | apply keeps_ite | apply keeps_ite_fst | apply keeps_forAll | apply keeps_foldl | apply keeps_foldl_fst | (apply keeps_of_fst; assumption) | (apply keeps_of_snd; assumption) | dsimp only | split | (apply keeps_mk; first | assumption | apply keeps_State_at | apply keeps_State_raise | apply keeps_State_powerOn | apply keeps_ite | apply keeps_forAll | apply keeps_foldl))

theorem keeps_execThermalShutdown {s0 s : State} (y0 : Nat) (h : Keeps s0 s) :
    KeepsOut s0 (execThermalShutdown y0 s) := by
  unfold execThermalShutdown
  with_reducible repeat' (first | assumption | intro _ | apply keepsOut_next | apply keeps_State_holdModule | apply keeps_State_at | apply keeps_ite | apply keeps_ite_fst | apply keeps_forAll | apply keeps_foldl | apply keeps_foldl_fst | (apply keeps_of_fst; assumption) | (apply keeps_of_snd; assumption) | dsimp only | split | (apply keeps_mk; first | assumption | apply keeps_State_holdModule | apply keeps_State_at | apply keeps_ite | apply keeps_forAll | apply keeps_foldl))

theorem keeps_execTinderStart {s0 s : State} (okA : Bool) (okB : Bool) (y2 : Nat) (h : Keeps s0 s) :
    KeepsOut s0 (execTinderStart okA okB y2 s) := by
  unfold execTinderStart
  with_reducible repeat' (first | assumption | intro _ | apply keepsOut_next | apply keeps_State_at | apply keeps_State_setNum | apply keeps_State_raise | apply keeps_ite | apply keeps_ite_fst | apply keeps_forAll | apply keeps_foldl | apply keeps_foldl_fst | (apply keeps_of_fst; assumption) | (apply keeps_of_snd; assumption) | dsimp only | split | (apply keeps_mk; first | assumption | apply keeps_State_at | apply keeps_State_setNum | apply keeps_State_raise | apply keeps_ite | apply keeps_forAll | apply keeps_foldl))

theorem keeps_execTrialTimeout {s0 s : State} (y0 : Nat) (h : Keeps s0 s) :
    KeepsOut s0 (execTrialTimeout y0 s) := by
  unfold execTrialTimeout
  with_reducible repeat' (first | assumption | intro _ | apply keepsOut_next | apply keeps_State_at | apply keeps_State_moduleReset | apply keeps_State_setBoth | apply keeps_State_setBank | apply keeps_ite)

theorem keeps_execWatchdogExpiry {s0 s : State} (y0 : Nat) (h : Keeps s0 s) :
    KeepsOut s0 (execWatchdogExpiry y0 s) := by
  unfold execWatchdogExpiry
  with_reducible repeat' (first | assumption | intro _ | apply keepsOut_next | apply keeps_State_at | apply keeps_State_moduleReset | apply keeps_State_takeover | apply keeps_ite)

end Sys2Proof.Laws
end

