-- ==== Sys2Proof/Laws/KeepsClocks.lean ====
section
/-!
SUPPORT. Every operation of Machine/Clocks.lean keeps the queue and the canonical memory.
-/
namespace Sys2Proof.Laws
open Sys2Proof.Machine

theorem keeps_State_pllFails {s0 s : State} (k : Nat) (p : Nat) (h : Keeps s0 s) :
    Keeps s0 (State.pllFails s k p) := by
  unfold State.pllFails
  with_reducible repeat' (first | assumption | intro _ | apply keeps_State_onRick | apply keeps_State_setNum)

theorem keeps_State_noPll {s0 s : State} (k : Nat) (h : Keeps s0 s) :
    Keeps s0 (State.noPll s k) := by
  unfold State.noPll
  with_reducible repeat' (first | assumption | intro _ | apply keeps_State_raise | apply keeps_forAll | apply keeps_State_unavailable | apply keeps_unloadJob | apply keeps_ite | apply keeps_ite_fst | apply keeps_foldl | apply keeps_foldl_fst | (apply keeps_of_fst; assumption) | (apply keeps_of_snd; assumption) | dsimp only | split)

theorem keeps_State_liveFails {s0 s : State} (k : Nat) (h : Keeps s0 s) :
    Keeps s0 (State.liveFails s k) := by
  unfold State.liveFails
  with_reducible repeat' (first | assumption | intro _ | apply keeps_State_raise | apply keeps_State_setNum | apply keeps_State_pllFails | apply keeps_State_onRick | apply keeps_State_onPart | apply keeps_forAll | apply keeps_State_requestClock | apply keeps_State_noPll | apply keeps_ite | apply keeps_ite_fst | apply keeps_foldl | apply keeps_foldl_fst | (apply keeps_of_fst; assumption) | (apply keeps_of_snd; assumption) | dsimp only | split)

theorem keeps_State_loseReferences {s0 s : State}  (h : Keeps s0 s) :
    Keeps s0 (State.loseReferences s) := by
  unfold State.loseReferences
  with_reducible repeat' (first | assumption | intro _ | apply keeps_State_setNum | apply keeps_forAll | apply keeps_State_onRick | apply keeps_State_portDown | apply keeps_State_ethDown | apply keeps_ite | apply keeps_ite_fst | apply keeps_foldl | apply keeps_foldl_fst | (apply keeps_of_fst; assumption) | (apply keeps_of_snd; assumption) | dsimp only | split | (apply keeps_mk; first | assumption | apply keeps_State_setNum | apply keeps_forAll | apply keeps_State_onRick | apply keeps_State_portDown | apply keeps_State_ethDown | apply keeps_ite | apply keeps_foldl))

theorem keeps_execBothReferencesLost {s0 s : State} (y0 : Nat) (h : Keeps s0 s) :
    KeepsOut s0 (execBothReferencesLost y0 s) := by
  unfold execBothReferencesLost
  with_reducible repeat' (first | assumption | intro _ | apply keepsOut_next | apply keeps_State_loseReferences | apply keeps_State_at)

theorem keeps_execControllerClockFailure {s0 s : State} (k : Fin 12) (y1 : Nat) (h : Keeps s0 s) :
    KeepsOut s0 (execControllerClockFailure k y1 s) := by
  unfold execControllerClockFailure
  with_reducible repeat' (first | assumption | intro _ | apply keepsOut_next | apply keeps_State_onRick | apply keeps_State_at | apply keeps_State_onPart | apply keeps_ite | apply keeps_ite_fst | apply keeps_forAll | apply keeps_foldl | apply keeps_foldl_fst | (apply keeps_of_fst; assumption) | (apply keeps_of_snd; assumption) | dsimp only | split)

theorem keeps_execFmDone {s0 s : State} (k : Fin 12) (count : Nat) (y2 : Nat) (h : Keeps s0 s) :
    KeepsOut s0 (execFmDone k count y2 s) := by
  unfold execFmDone
  with_reducible repeat' (first | assumption | intro _ | apply keepsOut_next | apply keeps_State_at | apply keeps_State_onRick | apply keeps_State_setNum | apply keeps_ite | apply keeps_ite_fst | apply keeps_forAll | apply keeps_foldl | apply keeps_foldl_fst | (apply keeps_of_fst; assumption) | (apply keeps_of_snd; assumption) | dsimp only | split)

theorem keeps_execMonitorWindow {s0 s : State} (k : Fin 12) (count : Nat) (y2 : Nat) (h : Keeps s0 s) :
    KeepsOut s0 (execMonitorWindow k count y2 s) := by
  unfold execMonitorWindow
  with_reducible repeat' (first | assumption | intro _ | apply keepsOut_next | apply keeps_State_at | apply keeps_State_liveFails | apply keeps_ite)

theorem keeps_execReferenceCompare {s0 s : State} (ppm : Int) (y1 : Nat) (h : Keeps s0 s) :
    KeepsOut s0 (execReferenceCompare ppm y1 s) := by
  unfold execReferenceCompare
  with_reducible repeat' (first | assumption | intro _ | apply keepsOut_next | apply keeps_State_at | apply keeps_State_raise | apply keeps_State_setNum | apply keeps_State_draw | apply keeps_ite)

theorem keeps_execReferenceLoss {s0 s : State} (ref : Fin 2) (y1 : Nat) (h : Keeps s0 s) :
    KeepsOut s0 (execReferenceLoss ref y1 s) := by
  unfold execReferenceLoss
  with_reducible repeat' (first | assumption | intro _ | apply keepsOut_next | apply keeps_State_at | apply keeps_State_loseReferences | apply keeps_State_raise | apply keeps_State_setNum | apply keeps_ite | apply keeps_ite_fst | apply keeps_forAll | apply keeps_foldl | apply keeps_foldl_fst | (apply keeps_of_fst; assumption) | (apply keeps_of_snd; assumption) | dsimp only | split | (apply keeps_mk; first | assumption | apply keeps_State_at | apply keeps_State_loseReferences | apply keeps_State_raise | apply keeps_State_setNum | apply keeps_ite | apply keeps_forAll | apply keeps_foldl))

theorem keeps_execReferenceRestored {s0 s : State} (ref : Fin 2) (y1 : Nat) (h : Keeps s0 s) :
    KeepsOut s0 (execReferenceRestored ref y1 s) := by
  unfold execReferenceRestored
  with_reducible repeat' (first | assumption | intro _ | apply keepsOut_next | apply keeps_State_at | apply keeps_State_raise | apply keeps_State_setNum | apply keeps_State_moduleReset | apply keeps_ite | apply keeps_ite_fst | apply keeps_forAll | apply keeps_foldl | apply keeps_foldl_fst | (apply keeps_of_fst; assumption) | (apply keeps_of_snd; assumption) | dsimp only | split | (apply keeps_mk; first | assumption | apply keeps_State_at | apply keeps_State_raise | apply keeps_State_setNum | apply keeps_State_moduleReset | apply keeps_ite | apply keeps_forAll | apply keeps_foldl))

theorem keeps_execSourceFailure {s0 s : State} (k : Fin 12) (y1 : Nat) (h : Keeps s0 s) :
    KeepsOut s0 (execSourceFailure k y1 s) := by
  unfold execSourceFailure
  with_reducible repeat' (first | assumption | intro _ | apply keepsOut_next | apply keeps_State_liveFails | apply keeps_State_at)

theorem keeps_execSourceStable {s0 s : State} (k : Fin 12) (y1 : Nat) (h : Keeps s0 s) :
    KeepsOut s0 (execSourceStable k y1 s) := by
  unfold execSourceStable
  with_reducible repeat' (first | assumption | intro _ | apply keepsOut_next | apply keeps_State_at | apply keeps_State_onRick | apply keeps_State_clockJudged | apply keeps_ite | apply keeps_ite_fst | apply keeps_forAll | apply keeps_foldl | apply keeps_foldl_fst | (apply keeps_of_fst; assumption) | (apply keeps_of_snd; assumption) | dsimp only | split)

theorem keeps_execSourceTimeout {s0 s : State} (k : Fin 12) (y1 : Nat) (h : Keeps s0 s) :
    KeepsOut s0 (execSourceTimeout k y1 s) := by
  unfold execSourceTimeout
  with_reducible repeat' (first | assumption | intro _ | apply keepsOut_next | apply keeps_State_at | apply keeps_State_noPll | apply keeps_State_raise | apply keeps_State_onRick | apply keeps_State_pllFails | apply keeps_State_degrade | apply keeps_ite | apply keeps_ite_fst | apply keeps_forAll | apply keeps_foldl | apply keeps_foldl_fst | (apply keeps_of_fst; assumption) | (apply keeps_of_snd; assumption) | dsimp only | split)

end Sys2Proof.Laws
end

