-- ==== Sys2Proof/Laws/KeepsReads.lean ====
section
/-!
SUPPORT. Every operation of Machine/Reads.lean keeps the queue and the canonical memory.
-/
namespace Sys2Proof.Laws
open Sys2Proof.Machine

theorem keeps_State_view {s0 s : State} (ten : Bool) (key : Nat) (h : Keeps s0 s) :
    Keeps s0 (State.view s ten key).2 := by
  unfold State.view
  have fold (l : List Nat) (a : List Byte × State) (ha : Keeps s0 a.2) :
      Keeps s0 (l.foldl (fun (a : List Byte × State) _ => let y := a.2.draw; (a.1 ++ leBytes 2 y.1.toNat, y.2)) a).2 := by
    induction l generalizing a with
    | nil => exact ha
    | cons x r ih => exact ih _ (keeps_State_draw ha)
  split
  · exact keeps_State_draw h
  · split
    · exact fold _ _ h
    · split
      · exact h
      · split
        · exact h
        · split
          · exact h
          · dsimp only; split <;> exact h


end Sys2Proof.Laws
end

