-- ==== Sys2Proof/Laws/KeepsDolli.lean ====
section
/-!
SUPPORT. Every operation of Machine/Dolli.lean keeps the queue and the canonical memory.
-/
namespace Sys2Proof.Laws
open Sys2Proof.Machine

theorem keeps_State_say {s0 s : State} (m : Reply) (h : Keeps s0 s) :
    Keeps s0 (State.say s m) := by
  unfold State.say
  with_reducible repeat' (first | assumption | intro _ | apply keeps_ite | apply keeps_ite_fst | apply keeps_forAll | apply keeps_foldl | apply keeps_foldl_fst | (apply keeps_of_fst; assumption) | (apply keeps_of_snd; assumption) | dsimp only | split | (apply keeps_mk; first | assumption | apply keeps_ite | apply keeps_forAll | apply keeps_foldl))

theorem keeps_State_reject {s0 s : State} (ses : Nat) (code : Nat) (h : Keeps s0 s) :
    Keeps s0 (State.reject s ses code) := by
  unfold State.reject
  with_reducible repeat' (first | assumption | intro _ | apply keeps_State_say)

theorem keeps_State_accept {s0 s : State} (ses : Nat) (seq : Nat) (ok : Bool) (h : Keeps s0 s) :
    Keeps s0 (State.accept s ses seq ok).1 := by
  unfold State.accept
  with_reducible repeat' (first | assumption | intro _ | apply keeps_State_reject | apply keeps_State_bump | apply keeps_ite | apply keeps_ite_fst | apply keeps_forAll | apply keeps_foldl | apply keeps_foldl_fst | (apply keeps_of_fst; assumption) | (apply keeps_of_snd; assumption) | dsimp only | split | (apply keeps_mk; first | assumption | apply keeps_State_reject | apply keeps_State_bump | apply keeps_ite | apply keeps_forAll | apply keeps_foldl))

theorem keeps_State_closeSession {s0 s : State} (n : Nat) (h : Keeps s0 s) :
    Keeps s0 (State.closeSession s n) := by
  unfold State.closeSession
  with_reducible repeat' (first | assumption | intro _ | apply keeps_State_say | apply keeps_ite | apply keeps_ite_fst | apply keeps_forAll | apply keeps_foldl | apply keeps_foldl_fst | (apply keeps_of_fst; assumption) | (apply keeps_of_snd; assumption) | dsimp only | split | (apply keeps_mk; first | assumption | apply keeps_State_say | apply keeps_ite | apply keeps_forAll | apply keeps_foldl))

theorem keeps_State_newSession {s0 s : State}  (h : Keeps s0 s) :
    Keeps s0 (State.newSession s).2 := by
  unfold State.newSession
  with_reducible repeat' (first | assumption | intro _ | apply keeps_State_draw)

theorem keeps_State_readBytes {s0 s : State} (x : Session) (key : Nat) (h : Keeps s0 s) :
    Keeps s0 (State.readBytes s x key).2 := by
  unfold State.readBytes
  with_reducible repeat' (first | assumption | intro _ | apply keeps_State_view | apply keeps_ite | apply keeps_ite_fst | apply keeps_forAll | apply keeps_foldl | apply keeps_foldl_fst | (apply keeps_of_fst; assumption) | (apply keeps_of_snd; assumption) | dsimp only | split)

theorem keeps_State_notifyMsg {s0 s : State} (ses : Nat) (x : Session) (b : Sub16) (changes : Nat) (h : Keeps s0 s) :
    Keeps s0 (State.notifyMsg s ses x b changes).2 := by
  unfold State.notifyMsg
  with_reducible repeat' (first | assumption | intro _ | apply keeps_State_readBytes | apply keeps_ite | apply keeps_ite_fst | apply keeps_forAll | apply keeps_foldl | apply keeps_foldl_fst | (apply keeps_of_fst; assumption) | (apply keeps_of_snd; assumption) | dsimp only | split)

theorem keeps_State_onSession {s0 s : State} (n : Nat) (f : Session → Session) (h : Keeps s0 s) :
    Keeps s0 (State.onSession s n f) := by
  unfold State.onSession
  with_reducible repeat' (first | assumption | intro _ | apply keeps_ite | apply keeps_ite_fst | apply keeps_forAll | apply keeps_foldl | apply keeps_foldl_fst | (apply keeps_of_fst; assumption) | (apply keeps_of_snd; assumption) | dsimp only | split | (apply keeps_mk; first | assumption | apply keeps_ite | apply keeps_forAll | apply keeps_foldl))

theorem keeps_State_refuseSession {s0 s : State} (ses : Nat) (h : Keeps s0 s) :
    Keeps s0 (State.refuseSession s ses) := by
  unfold State.refuseSession
  with_reducible repeat' (first | assumption | intro _ | apply keeps_State_bump | apply keeps_State_raise | apply keeps_State_reject)

theorem keeps_State_respond {s0 s : State} (r : Sys2Proof.Rq) (op : Nat) (key : Nat) (ty : Nat) (a : Ans) (h : Keeps s0 s) :
    Keeps s0 (State.respond s r op key ty a) := by
  unfold State.respond
  with_reducible repeat' (first | assumption | intro _ | apply keeps_State_onSession | apply keeps_State_say | apply keeps_ite)

theorem keeps_State_request {s0 s : State} (r : Sys2Proof.Rq) (op : Nat) (key : Nat) (run : Session → State → State × Option Ans) (krun : ∀ z0 z1, Keeps s0 z1 → Keeps s0 (run z0 z1).1) (h : Keeps s0 s) :
    Keeps s0 (State.request s r op key run) := by
  unfold State.request
  with_reducible repeat' (first | assumption | intro _ | apply keeps_State_accept | apply keeps_State_at | apply keeps_State_say | apply keeps_State_respond | apply krun | apply keeps_ite | apply keeps_ite_fst | apply keeps_forAll | apply keeps_foldl | apply keeps_foldl_fst | (apply keeps_of_fst; assumption) | (apply keeps_of_snd; assumption) | dsimp only | split)

theorem keeps_State_storeAll {s0 s : State}  (h : Keeps s0 s) :
    Keeps s0 (State.storeAll s) := by
  unfold State.storeAll
  with_reducible repeat' (first | assumption | intro _ | apply keeps_ite | apply keeps_ite_fst | apply keeps_forAll | apply keeps_foldl | apply keeps_foldl_fst | (apply keeps_of_fst; assumption) | (apply keeps_of_snd; assumption) | dsimp only | split | (apply keeps_mk; first | assumption | apply keeps_ite | apply keeps_forAll | apply keeps_foldl))

theorem keeps_State_storeOne {s0 s : State} (key : Nat) (h : Keeps s0 s) :
    Keeps s0 (State.storeOne s key) := by
  unfold State.storeOne
  with_reducible repeat' (first | assumption | intro _ | apply keeps_ite | apply keeps_ite_fst | apply keeps_forAll | apply keeps_foldl | apply keeps_foldl_fst | (apply keeps_of_fst; assumption) | (apply keeps_of_snd; assumption) | dsimp only | split | (apply keeps_mk; first | assumption | apply keeps_ite | apply keeps_forAll | apply keeps_foldl))

theorem keeps_execDolliClose {s0 s : State} (r : Sys2Proof.Rq) (h : Keeps s0 s) :
    KeepsOut s0 (execDolliClose r s) := by
  apply keepsOut_next
  have k := keeps_State_accept r.ses r.seq r.ok (keeps_State_at r.t h)
  split
  · next e => rw [e] at k; exact k
  · next e => rw [e] at k; exact keeps_mk k


theorem keeps_execDolliRead {s0 s : State} (r : Sys2Proof.Rq) (idx : Nat) (sub : Nat) (h : Keeps s0 s) :
    KeepsOut s0 (execDolliRead r idx sub s) := by
  unfold execDolliRead
  with_reducible repeat' (first | assumption | intro _ | apply keepsOut_next | apply keeps_State_request | apply keeps_State_readBytes | apply keeps_ite | apply keeps_ite_fst | apply keeps_forAll | apply keeps_foldl | apply keeps_foldl_fst | (apply keeps_of_fst; assumption) | (apply keeps_of_snd; assumption) | dsimp only | split)

theorem keeps_execFinish {s0 s : State} (ses : Nat) (seq : Nat) (sigsOk : Bool) (y3 : Nat) (h : Keeps s0 s) :
    KeepsOut s0 (execFinish ses seq sigsOk y3 s) := by
  unfold execFinish
  with_reducible repeat' (first | assumption | intro _ | apply keepsOut_next | apply keeps_State_at | apply keeps_State_reject | apply keeps_State_bump | apply keeps_State_say | apply keeps_State_raise | apply keeps_State_setBlob | apply keeps_State_refuseSession | apply keeps_ite | apply keeps_ite_fst | apply keeps_forAll | apply keeps_foldl | apply keeps_foldl_fst | (apply keeps_of_fst; assumption) | (apply keeps_of_snd; assumption) | dsimp only | split | (apply keeps_mk; first | assumption | apply keeps_State_at | apply keeps_State_reject | apply keeps_State_bump | apply keeps_State_say | apply keeps_State_raise | apply keeps_State_setBlob | apply keeps_State_refuseSession | apply keeps_ite | apply keeps_forAll | apply keeps_foldl))

theorem keeps_execFinishTimeout {s0 s : State} (ses : Nat) (y1 : Nat) (h : Keeps s0 s) :
    KeepsOut s0 (execFinishTimeout ses y1 s) := by
  unfold execFinishTimeout
  with_reducible repeat' (first | assumption | intro _ | apply keepsOut_next | apply keeps_State_at | apply keeps_ite | apply keeps_ite_fst | apply keeps_forAll | apply keeps_foldl | apply keeps_foldl_fst | (apply keeps_of_fst; assumption) | (apply keeps_of_snd; assumption) | dsimp only | split | (apply keeps_mk; first | assumption | apply keeps_State_at | apply keeps_ite | apply keeps_forAll | apply keeps_foldl))

theorem keeps_execHello {s0 s : State} (m : Sys2Proof.HelloMsg) (y1 : Nat) (h : Keeps s0 s) :
    KeepsOut s0 (execHello m y1 s) := by
  unfold execHello
  with_reducible repeat' (first | assumption | intro _ | apply keepsOut_next | apply keeps_State_at | apply keeps_State_reject | apply keeps_State_refuseSession | apply keeps_State_newSession | apply keeps_State_say | apply keeps_ite | apply keeps_ite_fst | apply keeps_forAll | apply keeps_foldl | apply keeps_foldl_fst | (apply keeps_of_fst; assumption) | (apply keeps_of_snd; assumption) | dsimp only | split | (apply keeps_mk; first | assumption | apply keeps_State_at | apply keeps_State_reject | apply keeps_State_refuseSession | apply keeps_State_newSession | apply keeps_State_say | apply keeps_ite | apply keeps_forAll | apply keeps_foldl))

theorem keeps_execNotifyAck {s0 s : State} (r : Sys2Proof.Rq) (h : Keeps s0 s) :
    KeepsOut s0 (execNotifyAck r s) := by
  unfold execNotifyAck
  with_reducible repeat' (first | assumption | intro _ | apply keepsOut_next | apply keeps_State_accept | apply keeps_State_at | apply keeps_State_onSession | apply keeps_ite | apply keeps_ite_fst | apply keeps_forAll | apply keeps_foldl | apply keeps_foldl_fst | (apply keeps_of_fst; assumption) | (apply keeps_of_snd; assumption) | dsimp only | split)

theorem keeps_execNotifyResend {s0 s : State} (ses : Nat) (idx : Nat) (sub : Nat) (y3 : Nat) (h : Keeps s0 s) :
    KeepsOut s0 (execNotifyResend ses idx sub y3 s) := by
  unfold execNotifyResend
  with_reducible repeat' (first | assumption | intro _ | apply keepsOut_next | apply keeps_State_at | apply keeps_State_onSession | apply keeps_State_say | apply keeps_ite | apply keeps_ite_fst | apply keeps_forAll | apply keeps_foldl | apply keeps_foldl_fst | (apply keeps_of_fst; assumption) | (apply keeps_of_snd; assumption) | dsimp only | split)

theorem keeps_execNotifySend {s0 s : State} (ses : Nat) (idx : Nat) (sub : Nat) (y3 : Nat) (h : Keeps s0 s) :
    KeepsOut s0 (execNotifySend ses idx sub y3 s) := by
  unfold execNotifySend
  with_reducible repeat' (first | assumption | intro _ | apply keepsOut_next | apply keeps_State_at | apply keeps_State_view | apply keeps_State_notifyMsg | apply keeps_State_onSession | apply keeps_State_say | apply keeps_ite | apply keeps_ite_fst | apply keeps_forAll | apply keeps_foldl | apply keeps_foldl_fst | (apply keeps_of_fst; assumption) | (apply keeps_of_snd; assumption) | dsimp only | split)

theorem keeps_execReadBlock {s0 s : State} (r : Sys2Proof.Rq) (idx : Nat) (sub : Nat) (off : Nat) (len : Nat) (snap : Bool) (h : Keeps s0 s) :
    KeepsOut s0 (execReadBlock r idx sub off len snap s) := by
  unfold execReadBlock
  with_reducible repeat' (first | assumption | intro _ | apply keepsOut_next | apply keeps_State_request | apply keeps_State_readBytes | apply keeps_State_onSession | apply keeps_ite | apply keeps_ite_fst | apply keeps_forAll | apply keeps_foldl | apply keeps_foldl_fst | (apply keeps_of_fst; assumption) | (apply keeps_of_snd; assumption) | dsimp only | split)

theorem keeps_execSessionIdleTimeout {s0 s : State} (ses : Nat) (y1 : Nat) (h : Keeps s0 s) :
    KeepsOut s0 (execSessionIdleTimeout ses y1 s) := by
  unfold execSessionIdleTimeout
  with_reducible repeat' (first | assumption | intro _ | apply keepsOut_next | apply keeps_State_at | apply keeps_State_closeSession | apply keeps_ite | apply keeps_ite_fst | apply keeps_forAll | apply keeps_foldl | apply keeps_foldl_fst | (apply keeps_of_fst; assumption) | (apply keeps_of_snd; assumption) | dsimp only | split)

theorem keeps_execStagingExpiry {s0 s : State} (ses : Nat) (idx : Nat) (sub : Nat) (y3 : Nat) (h : Keeps s0 s) :
    KeepsOut s0 (execStagingExpiry ses idx sub y3 s) := by
  unfold execStagingExpiry
  with_reducible repeat' (first | assumption | intro _ | apply keepsOut_next | apply keeps_State_at | apply keeps_State_onSession)

theorem keeps_execStatusProbe {s0 s : State} (e : Fin 8) (endpoint : Nat) (y2 : Nat) (h : Keeps s0 s) :
    KeepsOut s0 (execStatusProbe e endpoint y2 s) := by
  unfold execStatusProbe
  with_reducible repeat' (first | assumption | intro _ | apply keepsOut_next | apply keeps_State_at | apply keeps_State_bump | apply keeps_State_say | apply keeps_State_onEport | apply keeps_ite)

theorem keeps_execStore {s0 s : State} (r : Sys2Proof.Rq) (idx : Nat) (sub : Nat) (flashOk : Bool) (h : Keeps s0 s) :
    KeepsOut s0 (execStore r idx sub flashOk s) := by
  unfold execStore
  with_reducible repeat' (first | assumption | intro _ | apply keepsOut_next | apply keeps_State_request | apply keeps_State_storeAll | apply keeps_State_storeOne | apply keeps_ite | apply keeps_ite_fst)

theorem keeps_execSubscribe {s0 s : State} (r : Sys2Proof.Rq) (idx : Nat) (sub : Nat) (cancel : Bool) (h : Keeps s0 s) :
    KeepsOut s0 (execSubscribe r idx sub cancel s) := by
  unfold execSubscribe
  with_reducible repeat' (first | assumption | intro _ | apply keepsOut_next | apply keeps_State_request | apply keeps_State_onSession | apply keeps_State_view | apply keeps_ite | apply keeps_ite_fst)

end Sys2Proof.Laws
end

