-- ==== Sys2Proof/Laws/KeepsWrites.lean ====
section
/-!
SUPPORT. Every operation of Machine/Writes.lean keeps the queue and the canonical memory.
-/
namespace Sys2Proof.Laws
open Sys2Proof.Machine

theorem keeps_State_settle {s0 s : State} {x : State × Nat} (h : Keeps s0 s) (hx : Keeps s0 x.1) : Keeps s0 (s.settle x).1 := by
  unfold State.settle
  split
  · exact keeps_State_rechoose hx
  · exact h


theorem keeps_State_command {s0 s : State} (r : Sys2Proof.Rq) (key : Nat) (arg : List Sys2Proof.Byte) (size : Nat) (f : Session → State → State × Nat) (kf : ∀ z0 z1, Keeps s0 z1 → Keeps s0 (f z0 z1).1) (h : Keeps s0 s) :
    Keeps s0 (State.command s r key arg size f) := by
  unfold State.command
  refine keeps_State_request _ _ _ _ (fun x s hs => keeps_State_settle hs ?_) h
  split
  · exact hs
  · exact kf x s hs


theorem keeps_State_eraseRegion {s0 s : State} (n : Nat) (g : Nat) (h : Keeps s0 s) :
    Keeps s0 (State.eraseRegion s n g) := by
  unfold State.eraseRegion
  with_reducible repeat' (first | assumption | intro _ | apply keeps_State_setNum | apply keeps_State_setBlob | apply keeps_forAll | apply keeps_State_setConsumed | apply keeps_ite | apply keeps_ite_fst | apply keeps_foldl | apply keeps_foldl_fst | (apply keeps_of_fst; assumption) | (apply keeps_of_snd; assumption) | dsimp only | split | (apply keeps_mk; first | assumption | apply keeps_State_setNum | apply keeps_State_setBlob | apply keeps_forAll | apply keeps_State_setConsumed | apply keeps_ite | apply keeps_foldl))

theorem keeps_State_evictSets {s0 s : State} (n : Nat) (sets : List Nat) (h : Keeps s0 s) :
    Keeps s0 (State.evictSets s n sets) := by
  unfold State.evictSets
  with_reducible repeat' (first | assumption | intro _ | apply keeps_forAll | apply keeps_State_beginEvict)

theorem keeps_State_flushAll {s0 s : State} (n : Nat) (h : Keeps s0 s) :
    Keeps s0 (State.flushAll s n) := by
  unfold State.flushAll
  with_reducible repeat' (first | assumption | intro _ | apply keeps_State_flushDone | apply keeps_State_onPart)

theorem keeps_State_handleRelease {s0 s : State} (n : Nat) (v : List Sys2Proof.Byte) (h : Keeps s0 s) :
    Keeps s0 (State.handleRelease s n v).1 := by
  unfold State.handleRelease
  with_reducible repeat' (first | assumption | intro _ | apply keeps_ite | apply keeps_ite_fst | apply keeps_forAll | apply keeps_foldl | apply keeps_foldl_fst | (apply keeps_of_fst; assumption) | (apply keeps_of_snd; assumption) | dsimp only | split | (apply keeps_mk; first | assumption | apply keeps_ite | apply keeps_forAll | apply keeps_foldl))

theorem keeps_State_plainWrite {s0 s : State} (key : Nat) (v : List Sys2Proof.Byte) (h : Keeps s0 s) :
    Keeps s0 (State.plainWrite s key v) := by
  unfold State.plainWrite
  with_reducible repeat' (first | assumption | intro _ | apply keeps_State_setVal | apply keeps_ite | apply keeps_ite_fst | apply keeps_forAll | apply keeps_foldl | apply keeps_foldl_fst | (apply keeps_of_fst; assumption) | (apply keeps_of_snd; assumption) | dsimp only | split)

theorem keeps_State_idleWrite {s0 s : State} (n : Nat) (key : Nat) (v : List Sys2Proof.Byte) (ok : Bool) (h : Keeps s0 s) :
    Keeps s0 (State.idleWrite s n key v ok).1 := by
  unfold State.idleWrite
  with_reducible repeat' (first | assumption | intro _ | apply keeps_State_plainWrite | apply keeps_ite | apply keeps_ite_fst)

theorem keeps_State_kvModelsWrite {s0 s : State} (n : Nat) (v : List Sys2Proof.Byte) (h : Keeps s0 s) :
    Keeps s0 (State.kvModelsWrite s n v).1 := by
  unfold State.kvModelsWrite
  with_reducible repeat' (first | assumption | intro _ | apply keeps_State_setBlob | apply keeps_ite | apply keeps_ite_fst)

theorem keeps_State_movePages {s0 s : State} (n : Nat) (k : Nat) (newBase : Nat) (h : Keeps s0 s) :
    Keeps s0 (State.movePages s n k newBase) := by
  unfold State.movePages
  with_reducible repeat' (first | assumption | intro _ | apply keeps_forAll | apply keeps_State_copyRange)

theorem keeps_State_kvPoolWrite {s0 s : State} (n : Nat) (v : List Sys2Proof.Byte) (h : Keeps s0 s) :
    Keeps s0 (State.kvPoolWrite s n v).1 := by
  unfold State.kvPoolWrite
  with_reducible repeat' (first | assumption | intro _ | apply keeps_State_wakePart | apply keeps_State_setBlob | apply keeps_forAll | apply keeps_State_movePages | apply keeps_ite | apply keeps_ite_fst)

theorem keeps_State_queueMapWrite {s0 s : State} (n : Nat) (v : List Sys2Proof.Byte) (h : Keeps s0 s) :
    Keeps s0 (State.queueMapWrite s n v).1 := by
  unfold State.queueMapWrite
  with_reducible repeat' (first | assumption | intro _ | apply keeps_forAll | apply keeps_State_setConsumed | apply keeps_State_setBlob | apply keeps_ite | apply keeps_ite_fst)

theorem keeps_State_quotaWrite {s0 s : State} (key : Nat) (used : Nat) (v : List Sys2Proof.Byte) (h : Keeps s0 s) :
    Keeps s0 (State.quotaWrite s key used v).1 := by
  unfold State.quotaWrite
  with_reducible repeat' (first | assumption | intro _ | apply keeps_State_plainWrite | apply keeps_ite | apply keeps_ite_fst)

theorem keeps_State_seekQuota {s0 s : State} (n : Nat) (len : Nat) (h : Keeps s0 s) :
    Keeps s0 (State.seekQuota s n len).1 := by
  unfold State.seekQuota
  with_reducible repeat' (first | assumption | intro _ | apply keeps_State_withoutSets | apply keeps_State_evictSets | apply keeps_ite | apply keeps_ite_fst | apply keeps_forAll | apply keeps_foldl | apply keeps_foldl_fst | (apply keeps_of_fst; assumption) | (apply keeps_of_snd; assumption) | dsimp only | split)

theorem keeps_State_regionCreate {s0 s : State} (n : Nat) (v : List Sys2Proof.Byte) (h : Keeps s0 s) :
    Keeps s0 (State.regionCreate s n v).1 := by
  unfold State.regionCreate
  with_reducible repeat' (first | assumption | intro _ | apply keeps_State_seekQuota | apply keeps_State_setNum | apply keeps_State_setRegion | apply keeps_State_wakePart | apply keeps_ite | apply keeps_ite_fst | apply keeps_forAll | apply keeps_foldl | apply keeps_foldl_fst | (apply keeps_of_fst; assumption) | (apply keeps_of_snd; assumption) | dsimp only | split)

theorem keeps_State_regionDelete {s0 s : State} (n : Nat) (v : List Sys2Proof.Byte) (h : Keeps s0 s) :
    Keeps s0 (State.regionDelete s n v).1 := by
  unfold State.regionDelete
  with_reducible repeat' (first | assumption | intro _ | apply keeps_forAll | apply keeps_State_writeBack | apply keeps_State_eraseRegion | apply keeps_ite | apply keeps_ite_fst | apply keeps_foldl | apply keeps_foldl_fst | (apply keeps_of_fst; assumption) | (apply keeps_of_snd; assumption) | dsimp only | split | (apply keeps_mk; first | assumption | apply keeps_forAll | apply keeps_State_writeBack | apply keeps_State_eraseRegion | apply keeps_ite | apply keeps_foldl))

theorem keeps_State_seekRoom {s0 s : State} (n : Nat) (needs : List (Nat × Nat)) (h : Keeps s0 s) :
    Keeps s0 (State.seekRoom s n needs).1 := by
  unfold State.seekRoom
  with_reducible repeat' (first | assumption | intro _ | apply keeps_State_evictSets | apply keeps_ite | apply keeps_ite_fst | apply keeps_forAll | apply keeps_foldl | apply keeps_foldl_fst | (apply keeps_of_fst; assumption) | (apply keeps_of_snd; assumption) | dsimp only | split)

theorem keeps_State_settleOr {s0 s : State} (w : Waiting) {x : State × Option Nat} (h : Keeps s0 s) (hx : Keeps s0 x.1) : Keeps s0 (s.settleOr w x).1 := by
  unfold State.settleOr
  split
  · exact keeps_mk hx
  · exact keeps_State_settle h hx


theorem keeps_State_write {s0 s : State} (r : Sys2Proof.Rq) (key : Nat) (v : List Sys2Proof.Byte) (f : Session → State → State × Nat) (kf : ∀ z0 z1, Keeps s0 z1 → Keeps s0 (f z0 z1).1) (h : Keeps s0 s) :
    Keeps s0 (State.write s r key v f) := by
  unfold State.write
  refine keeps_State_request _ _ _ _ (fun x s hs => keeps_State_settle hs ?_) h
  dsimp only; split
  · exact hs
  · exact kf x s hs


theorem keeps_execFlushAll {s0 s : State} (r : Sys2Proof.Rq) (n : Fin 12) (h : Keeps s0 s) :
    KeepsOut s0 (execFlushAll r n s) := by
  unfold execFlushAll
  with_reducible repeat' (first | assumption | intro _ | apply keepsOut_next | apply keeps_State_command | apply keeps_State_flushAll)

theorem keeps_execHandleRelease {s0 s : State} (r : Sys2Proof.Rq) (n : Fin 12) (v : List Sys2Proof.Byte) (h : Keeps s0 s) :
    KeepsOut s0 (execHandleRelease r n v s) := by
  unfold execHandleRelease
  with_reducible repeat' (first | assumption | intro _ | apply keepsOut_next | apply keeps_State_write | apply keeps_State_handleRelease)

theorem keeps_execKvModels {s0 s : State} (r : Sys2Proof.Rq) (n : Fin 12) (v : List Sys2Proof.Byte) (h : Keeps s0 s) :
    KeepsOut s0 (execKvModels r n v s) := by
  unfold execKvModels
  with_reducible repeat' (first | assumption | intro _ | apply keepsOut_next | apply keeps_State_write | apply keeps_State_kvModelsWrite)

theorem keeps_execKvPoolPages {s0 s : State} (r : Sys2Proof.Rq) (n : Fin 12) (v : List Sys2Proof.Byte) (h : Keeps s0 s) :
    KeepsOut s0 (execKvPoolPages r n v s) := by
  unfold execKvPoolPages
  with_reducible repeat' (first | assumption | intro _ | apply keepsOut_next | apply keeps_State_write | apply keeps_State_kvPoolWrite)

theorem keeps_execQueueMap {s0 s : State} (r : Sys2Proof.Rq) (n : Fin 12) (v : List Sys2Proof.Byte) (h : Keeps s0 s) :
    KeepsOut s0 (execQueueMap r n v s) := by
  unfold execQueueMap
  with_reducible repeat' (first | assumption | intro _ | apply keepsOut_next | apply keeps_State_write | apply keeps_State_queueMapWrite)

theorem keeps_execQueueMessageWrite {s0 s : State} (n : Fin 12) (q : Fin 16) (stamp : Nat) (msg : List Sys2Proof.Byte) (y4 : Nat) (h : Keeps s0 s) :
    KeepsOut s0 (execQueueMessageWrite n q stamp msg y4 s) := by
  unfold execQueueMessageWrite
  with_reducible repeat' (first | assumption | intro _ | apply keepsOut_next | apply keeps_State_queueWrite | apply keeps_State_at)

theorem keeps_execRegionCreate {s0 s : State} (r : Sys2Proof.Rq) (n : Fin 12) (v : List Sys2Proof.Byte) (h : Keeps s0 s) :
    KeepsOut s0 (execRegionCreate r n v s) := by
  refine keepsOut_next (keeps_State_request _ _ _ _ (fun x s hs => keeps_State_settleOr _ hs ?_) h)
  split
  · exact hs
  · exact keeps_State_regionCreate _ _ hs


theorem keeps_execRegionDelete {s0 s : State} (r : Sys2Proof.Rq) (n : Fin 12) (v : List Sys2Proof.Byte) (h : Keeps s0 s) :
    KeepsOut s0 (execRegionDelete r n v s) := by
  unfold execRegionDelete
  with_reducible repeat' (first | assumption | intro _ | apply keepsOut_next | apply keeps_State_write | apply keeps_State_regionDelete)

end Sys2Proof.Laws
end

