-- ==== Sys2Proof/Laws/KeepsShares.lean ====
section
/-!
SUPPORT. Every operation of Machine/Shares.lean keeps the queue and the canonical memory.
-/
namespace Sys2Proof.Laws
open Sys2Proof.Machine

theorem keeps_State_bufferDereg {s0 s : State} (n : Nat) (v : List Sys2Proof.Byte) (h : Keeps s0 s) :
    Keeps s0 (State.bufferDereg s n v).1 := by
  unfold State.bufferDereg
  with_reducible repeat' (first | assumption | intro _ | apply keeps_ite | apply keeps_ite_fst | apply keeps_forAll | apply keeps_foldl | apply keeps_foldl_fst | (apply keeps_of_fst; assumption) | (apply keeps_of_snd; assumption) | dsimp only | split | (apply keeps_mk; first | assumption | apply keeps_ite | apply keeps_forAll | apply keeps_foldl))

theorem keeps_State_bufferReg {s0 s : State} (n : Nat) (v : List Sys2Proof.Byte) (h : Keeps s0 s) :
    Keeps s0 (State.bufferReg s n v).1 := by
  unfold State.bufferReg
  with_reducible repeat' (first | assumption | intro _ | apply keeps_State_setNum | apply keeps_State_onPart | apply keeps_ite | apply keeps_ite_fst | apply keeps_forAll | apply keeps_foldl | apply keeps_foldl_fst | (apply keeps_of_fst; assumption) | (apply keeps_of_snd; assumption) | dsimp only | split | (apply keeps_mk; first | assumption | apply keeps_State_setNum | apply keeps_State_onPart | apply keeps_ite | apply keeps_forAll | apply keeps_foldl))

theorem keeps_State_connWrite {s0 s : State} (n : Nat) (v : List Sys2Proof.Byte) (h : Keeps s0 s) :
    Keeps s0 (State.connWrite s n v).1 := by
  unfold State.connWrite
  with_reducible repeat' (first | assumption | intro _ | apply keeps_State_failFlights | apply keeps_State_onConn | apply keeps_ite | apply keeps_ite_fst)

theorem keeps_State_ethEnable {s0 s : State} (e : Nat) (v : List Sys2Proof.Byte) (h : Keeps s0 s) :
    Keeps s0 (State.ethEnable s e v).1 := by
  unfold State.ethEnable
  with_reducible repeat' (first | assumption | intro _ | apply keeps_State_setNum | apply keeps_State_ethDown | apply keeps_ite)

theorem keeps_State_ethOwnersWrite {s0 s : State} (e : Nat) (v : List Sys2Proof.Byte) (h : Keeps s0 s) :
    Keeps s0 (State.ethOwnersWrite s e v).1 := by
  unfold State.ethOwnersWrite
  with_reducible repeat' (first | assumption | intro _ | apply keeps_State_setBlob | apply keeps_ite | apply keeps_ite_fst)

theorem keeps_State_expectPeer {s0 s : State} (p : Nat) (v : List Sys2Proof.Byte) (h : Keeps s0 s) :
    Keeps s0 (State.expectPeer s p v).1 := by
  unfold State.expectPeer
  with_reducible repeat' (first | assumption | intro _ | apply keeps_State_onFport | apply keeps_State_setNum)

theorem keeps_State_groupSlotsWrite {s0 s : State} (n : Nat) (v : List Sys2Proof.Byte) (h : Keeps s0 s) :
    Keeps s0 (State.groupSlotsWrite s n v).1 := by
  unfold State.groupSlotsWrite
  with_reducible repeat' (first | assumption | intro _ | apply keeps_State_onGroup | apply keeps_ite | apply keeps_ite_fst)

theorem keeps_State_groupWrite {s0 s : State} (n : Nat) (v : List Sys2Proof.Byte) (h : Keeps s0 s) :
    Keeps s0 (State.groupWrite s n v).1 := by
  unfold State.groupWrite
  with_reducible repeat' (first | assumption | intro _ | apply keeps_State_onGroup | apply keeps_ite | apply keeps_ite_fst | apply keeps_forAll | apply keeps_foldl | apply keeps_foldl_fst | (apply keeps_of_fst; assumption) | (apply keeps_of_snd; assumption) | dsimp only | split | (apply keeps_mk; first | assumption | apply keeps_State_onGroup | apply keeps_ite | apply keeps_forAll | apply keeps_foldl))

theorem keeps_State_portEnable {s0 s : State} (p : Nat) (v : List Sys2Proof.Byte) (h : Keeps s0 s) :
    Keeps s0 (State.portEnable s p v).1 := by
  unfold State.portEnable
  with_reducible repeat' (first | assumption | intro _ | apply keeps_State_setNum | apply keeps_State_onFport | apply keeps_State_portDown | apply keeps_ite)

theorem keeps_State_portRetrain {s0 s : State} (p : Nat) (h : Keeps s0 s) :
    Keeps s0 (State.portRetrain s p) := by
  unfold State.portRetrain
  with_reducible repeat' (first | assumption | intro _ | apply keeps_State_onFport | apply keeps_State_portDown | apply keeps_State_train | apply keeps_ite)

theorem keeps_State_regrant {s0 s : State} (p : Nat) (old : List Sys2Proof.Byte) (h : Keeps s0 s) :
    Keeps s0 (State.regrant s p old) := by
  unfold State.regrant
  with_reducible repeat' (first | assumption | intro _ | apply keeps_State_onFport)

theorem keeps_State_ringWrite64 {s0 s : State} (n : Nat) (v : List Sys2Proof.Byte) (h : Keeps s0 s) :
    Keeps s0 (State.ringWrite64 s n v).1 := by
  unfold State.ringWrite64
  with_reducible repeat' (first | assumption | intro _ | apply keeps_State_onRing | apply keeps_ite | apply keeps_ite_fst)

theorem keeps_State_rxOwnersWrite {s0 s : State} (p : Nat) (v : List Sys2Proof.Byte) (h : Keeps s0 s) :
    Keeps s0 (State.rxOwnersWrite s p v).1 := by
  unfold State.rxOwnersWrite
  with_reducible repeat' (first | assumption | intro _ | apply keeps_State_setBlob | apply keeps_ite | apply keeps_ite_fst)

theorem keeps_State_trigAllocWrite {s0 s : State} (n : Nat) (v : List Sys2Proof.Byte) (h : Keeps s0 s) :
    Keeps s0 (State.trigAllocWrite s n v).1 := by
  unfold State.trigAllocWrite
  with_reducible repeat' (first | assumption | intro _ | apply keeps_State_setBlob | apply keeps_ite | apply keeps_ite_fst)

theorem keeps_State_trigRingWrite {s0 s : State} (n : Nat) (v : List Sys2Proof.Byte) (h : Keeps s0 s) :
    Keeps s0 (State.trigRingWrite s n v).1 := by
  unfold State.trigRingWrite
  with_reducible repeat' (first | assumption | intro _ | apply keeps_forAll | apply keeps_State_onTrig | apply keeps_State_setBlob | apply keeps_ite | apply keeps_ite_fst)

theorem keeps_State_txOwnersWrite {s0 s : State} (p : Nat) (v : List Sys2Proof.Byte) (h : Keeps s0 s) :
    Keeps s0 (State.txOwnersWrite s p v).1 := by
  unfold State.txOwnersWrite
  with_reducible repeat' (first | assumption | intro _ | apply keeps_State_setBlob | apply keeps_State_regrant | apply keeps_ite | apply keeps_ite_fst)

theorem keeps_State_windowWrite {s0 s : State} (n : Nat) (v : List Sys2Proof.Byte) (h : Keeps s0 s) :
    Keeps s0 (State.windowWrite s n v).1 := by
  unfold State.windowWrite
  with_reducible repeat' (first | assumption | intro _ | apply keeps_ite | apply keeps_ite_fst | apply keeps_forAll | apply keeps_foldl | apply keeps_foldl_fst | (apply keeps_of_fst; assumption) | (apply keeps_of_snd; assumption) | dsimp only | split | (apply keeps_mk; first | assumption | apply keeps_ite | apply keeps_forAll | apply keeps_foldl))

theorem keeps_execBufferDereg {s0 s : State} (r : Sys2Proof.Rq) (n : Fin 12) (v : List Sys2Proof.Byte) (h : Keeps s0 s) :
    KeepsOut s0 (execBufferDereg r n v s) := by
  unfold execBufferDereg
  with_reducible repeat' (first | assumption | intro _ | apply keepsOut_next | apply keeps_State_write | apply keeps_State_bufferDereg)

theorem keeps_execBufferReg {s0 s : State} (r : Sys2Proof.Rq) (n : Fin 12) (v : List Sys2Proof.Byte) (h : Keeps s0 s) :
    KeepsOut s0 (execBufferReg r n v s) := by
  unfold execBufferReg
  with_reducible repeat' (first | assumption | intro _ | apply keepsOut_next | apply keeps_State_write | apply keeps_State_bufferReg)

theorem keeps_execConnRec {s0 s : State} (r : Sys2Proof.Rq) (n : Fin 12) (v : List Sys2Proof.Byte) (h : Keeps s0 s) :
    KeepsOut s0 (execConnRec r n v s) := by
  unfold execConnRec
  with_reducible repeat' (first | assumption | intro _ | apply keepsOut_next | apply keeps_State_write | apply keeps_State_connWrite)

theorem keeps_execEthOwners {s0 s : State} (r : Sys2Proof.Rq) (e : Fin 8) (v : List Sys2Proof.Byte) (h : Keeps s0 s) :
    KeepsOut s0 (execEthOwners r e v s) := by
  unfold execEthOwners
  with_reducible repeat' (first | assumption | intro _ | apply keepsOut_next | apply keeps_State_write | apply keeps_State_ethOwnersWrite)

theorem keeps_execGroupRec {s0 s : State} (r : Sys2Proof.Rq) (n : Fin 12) (v : List Sys2Proof.Byte) (h : Keeps s0 s) :
    KeepsOut s0 (execGroupRec r n v s) := by
  unfold execGroupRec
  with_reducible repeat' (first | assumption | intro _ | apply keepsOut_next | apply keeps_State_write | apply keeps_State_groupWrite)

theorem keeps_execPortEnable {s0 s : State} (r : Sys2Proof.Rq) (p : Fin 16) (v : List Sys2Proof.Byte) (h : Keeps s0 s) :
    KeepsOut s0 (execPortEnable r p v s) := by
  unfold execPortEnable
  with_reducible repeat' (first | assumption | intro _ | apply keepsOut_next | apply keeps_State_write | apply keeps_State_portEnable)

theorem keeps_execPortRetrain {s0 s : State} (r : Sys2Proof.Rq) (p : Fin 16) (h : Keeps s0 s) :
    KeepsOut s0 (execPortRetrain r p s) := by
  unfold execPortRetrain
  with_reducible repeat' (first | assumption | intro _ | apply keepsOut_next | apply keeps_State_command | apply keeps_State_portRetrain)

theorem keeps_execRingDesc {s0 s : State} (r : Sys2Proof.Rq) (n : Fin 12) (v : List Sys2Proof.Byte) (h : Keeps s0 s) :
    KeepsOut s0 (execRingDesc r n v s) := by
  unfold execRingDesc
  with_reducible repeat' (first | assumption | intro _ | apply keepsOut_next | apply keeps_State_write | apply keeps_State_ringWrite64)

theorem keeps_execTrigOps {s0 s : State} (r : Sys2Proof.Rq) (n : Fin 12) (v : List Sys2Proof.Byte) (h : Keeps s0 s) :
    KeepsOut s0 (execTrigOps r n v s) := by
  unfold execTrigOps
  with_reducible repeat' (first | assumption | intro _ | apply keepsOut_next | apply keeps_State_write | apply keeps_State_armOps)

theorem keeps_execTxOwners {s0 s : State} (r : Sys2Proof.Rq) (p : Fin 16) (v : List Sys2Proof.Byte) (h : Keeps s0 s) :
    KeepsOut s0 (execTxOwners r p v s) := by
  unfold execTxOwners
  with_reducible repeat' (first | assumption | intro _ | apply keepsOut_next | apply keeps_State_write | apply keeps_State_txOwnersWrite)

end Sys2Proof.Laws
end

