-- ==== Sys2Proof/Laws/KeepsBindings.lean ====
section
/-!
SUPPORT. Every operation of Machine/Bindings.lean keeps the queue and the canonical memory.
-/
namespace Sys2Proof.Laws
open Sys2Proof.Machine

theorem keeps_State_auditRegionWrite {s0 s : State} (n : Nat) (v : List Sys2Proof.Byte) (h : Keeps s0 s) :
    Keeps s0 (State.auditRegionWrite s n v).1 := by
  unfold State.auditRegionWrite
  with_reducible repeat' (first | assumption | intro _ | apply keeps_State_idleWrite)

theorem keeps_State_epochSwitch {s0 s : State} (n : Nat) (v : List Sys2Proof.Byte) (h : Keeps s0 s) :
    Keeps s0 (State.epochSwitch s n v).1 := by
  unfold State.epochSwitch
  with_reducible repeat' (first | assumption | intro _ | apply keeps_State_setNum | apply keeps_State_onJob | apply keeps_ite | apply keeps_ite_fst)

theorem keeps_State_evidGroupsWrite {s0 s : State} (n : Nat) (v : List Sys2Proof.Byte) (h : Keeps s0 s) :
    Keeps s0 (State.evidGroupsWrite s n v).1 := by
  unfold State.evidGroupsWrite
  with_reducible repeat' (first | assumption | intro _ | apply keeps_State_idleWrite)

theorem keeps_State_evidRegionWrite {s0 s : State} (n : Nat) (v : List Sys2Proof.Byte) (h : Keeps s0 s) :
    Keeps s0 (State.evidRegionWrite s n v).1 := by
  unfold State.evidRegionWrite
  with_reducible repeat' (first | assumption | intro _ | apply keeps_State_idleWrite)

theorem keeps_State_fetchSet {s0 s : State} (n : Nat) (w : Nat) (h : Keeps s0 s) :
    Keeps s0 (State.fetchSet s n w).1 := by
  unfold State.fetchSet
  with_reducible repeat' (first | assumption | intro _ | apply keeps_State_seekRoom | apply keeps_State_giveSpans | apply keeps_State_copyIn | apply keeps_State_wakePart | apply keeps_State_wantAll | apply keeps_ite | apply keeps_ite_fst | apply keeps_forAll | apply keeps_foldl | apply keeps_foldl_fst | (apply keeps_of_fst; assumption) | (apply keeps_of_snd; assumption) | dsimp only | split)

theorem keeps_State_jobDrain {s0 s : State} (n : Nat) (v : List Sys2Proof.Byte) (h : Keeps s0 s) :
    Keeps s0 (State.jobDrain s n v).1 := by
  unfold State.jobDrain
  with_reducible repeat' (first | assumption | intro _ | apply keeps_State_onJob)

theorem keeps_State_lrResume {s0 s : State} (n : Nat) (v : List Sys2Proof.Byte) (h : Keeps s0 s) :
    Keeps s0 (State.lrResume s n v).1 := by
  unfold State.lrResume
  with_reducible repeat' (first | assumption | intro _ | apply keeps_State_setLr | apply keeps_State_onJob | apply keeps_ite)

theorem keeps_State_lstatsRegionWrite {s0 s : State} (n : Nat) (v : List Sys2Proof.Byte) (h : Keeps s0 s) :
    Keeps s0 (State.lstatsRegionWrite s n v).1 := by
  unfold State.lstatsRegionWrite
  with_reducible repeat' (first | assumption | intro _ | apply keeps_State_idleWrite)

theorem keeps_State_wsetFetch {s0 s : State} (n : Nat) (h : Keeps s0 s) :
    Keeps s0 (State.wsetFetch s n).1 := by
  unfold State.wsetFetch
  with_reducible repeat' (first | assumption | intro _ | apply keeps_State_fetchSet | apply keeps_ite | apply keeps_ite_fst | apply keeps_forAll | apply keeps_foldl | apply keeps_foldl_fst | (apply keeps_of_fst; assumption) | (apply keeps_of_snd; assumption) | dsimp only | split)

theorem keeps_State_turnArmed {s0 s : State} (n : Nat) (i : List Sys2Proof.Byte) (offs : List Nat) (h : Keeps s0 s) :
    Keeps s0 (State.turnArmed s n i offs) := by
  unfold State.turnArmed
  with_reducible repeat' (first | assumption | intro _ | apply keeps_State_onWset | apply keeps_State_giveSpans | apply keeps_State_wakePart | apply keeps_State_raise | apply keeps_State_setNum | apply keeps_State_onTurn | apply keeps_ite)

theorem keeps_State_turnArm {s0 s : State} (n : Nat) (h : Keeps s0 s) :
    Keeps s0 (State.turnArm s n).1 := by
  unfold State.turnArm
  with_reducible repeat' (first | assumption | intro _ | apply keeps_State_setNum | apply keeps_State_turnArmed | apply keeps_State_onWset | apply keeps_State_seekRoom | apply keeps_ite | apply keeps_ite_fst | apply keeps_forAll | apply keeps_foldl | apply keeps_foldl_fst | (apply keeps_of_fst; assumption) | (apply keeps_of_snd; assumption) | dsimp only | split)

theorem keeps_State_retry {s0 s : State} (w : Waiting) (h : Keeps s0 s) :
    Keeps s0 (State.retry s w) := by
  unfold State.retry
  have h0 : Keeps s0 { s with waits := s.waits.filter (fun x => !(x.ses == w.ses && x.id == w.id)) } := keeps_mk h
  have fin (r : Rq) (op key : Nat) (x : State × Option Nat) (hx : Keeps s0 x.1) :
      Keeps s0 (match State.settleOr { s with waits := s.waits.filter (fun x => !(x.ses == w.ses && x.id == w.id)) } w x with
        | (s1, some a) => s1.respond r op key (tyOf key) a
        | (s1, none) => s1) := by
    have k := keeps_State_settleOr w h0 hx
    split
    · next e => rw [e] at k; exact keeps_State_respond _ _ _ _ _ k
    · next e => rw [e] at k; exact k
  dsimp only
  split
  · exact fin _ _ _ _ (keeps_State_regionCreate _ _ h0)
  · exact fin _ _ _ _ (keeps_State_wsetFetch _ h0)
  · exact fin _ _ _ _ (keeps_State_turnArm _ h0)


theorem keeps_State_slicePlanWrite {s0 s : State} (n : Nat) (v : List Sys2Proof.Byte) (h : Keeps s0 s) :
    Keeps s0 (State.slicePlanWrite s n v).1 := by
  unfold State.slicePlanWrite
  with_reducible repeat' (first | assumption | intro _ | apply keeps_State_updateGaps | apply keeps_State_setBlob | apply keeps_ite | apply keeps_ite_fst)

theorem keeps_State_tctPairsWrite {s0 s : State} (n : Nat) (v : List Sys2Proof.Byte) (h : Keeps s0 s) :
    Keeps s0 (State.tctPairsWrite s n v).1 := by
  unfold State.tctPairsWrite
  with_reducible repeat' (first | assumption | intro _ | apply keeps_State_idleWrite)

theorem keeps_State_tctRegionsWrite {s0 s : State} (n : Nat) (v : List Sys2Proof.Byte) (h : Keeps s0 s) :
    Keeps s0 (State.tctRegionsWrite s n v).1 := by
  unfold State.tctRegionsWrite
  with_reducible repeat' (first | assumption | intro _ | apply keeps_State_idleWrite)

theorem keeps_State_wsetRegister {s0 s : State} (n : Nat) (h : Keeps s0 s) :
    Keeps s0 (State.wsetRegister s n).1 := by
  unfold State.wsetRegister
  with_reducible repeat' (first | assumption | intro _ | apply keeps_State_onWset | apply keeps_ite | apply keeps_ite_fst | apply keeps_forAll | apply keeps_foldl | apply keeps_foldl_fst | (apply keeps_of_fst; assumption) | (apply keeps_of_snd; assumption) | dsimp only | split)

theorem keeps_State_wsetRelease {s0 s : State} (n : Nat) (h : Keeps s0 s) :
    Keeps s0 (State.wsetRelease s n).1 := by
  unfold State.wsetRelease
  with_reducible repeat' (first | assumption | intro _ | apply keeps_forAll | apply keeps_State_eraseRegion | apply keeps_ite | apply keeps_ite_fst | apply keeps_foldl | apply keeps_foldl_fst | (apply keeps_of_fst; assumption) | (apply keeps_of_snd; assumption) | dsimp only | split | (apply keeps_mk; first | assumption | apply keeps_forAll | apply keeps_State_eraseRegion | apply keeps_ite | apply keeps_foldl))

theorem keeps_State_wsetSources {s0 s : State} (n : Nat) (v : List Sys2Proof.Byte) (h : Keeps s0 s) :
    Keeps s0 (State.wsetSources s n v).1 := by
  unfold State.wsetSources
  with_reducible repeat' (first | assumption | intro _ | apply keeps_State_onWset | apply keeps_ite | apply keeps_ite_fst | apply keeps_forAll | apply keeps_foldl | apply keeps_foldl_fst | (apply keeps_of_fst; assumption) | (apply keeps_of_snd; assumption) | dsimp only | split)

theorem keeps_execAuditRegion {s0 s : State} (r : Sys2Proof.Rq) (n : Fin 12) (v : List Sys2Proof.Byte) (h : Keeps s0 s) :
    KeepsOut s0 (execAuditRegion r n v s) := by
  unfold execAuditRegion
  with_reducible repeat' (first | assumption | intro _ | apply keepsOut_next | apply keeps_State_write | apply keeps_State_auditRegionWrite)

theorem keeps_execEpochSwitch {s0 s : State} (r : Sys2Proof.Rq) (n : Fin 12) (v : List Sys2Proof.Byte) (h : Keeps s0 s) :
    KeepsOut s0 (execEpochSwitch r n v s) := by
  unfold execEpochSwitch
  with_reducible repeat' (first | assumption | intro _ | apply keepsOut_next | apply keeps_State_write | apply keeps_State_epochSwitch)

theorem keeps_execEvictionCopyComplete {s0 s : State} (n : Fin 12) (w : Fin 8) (y2 : Nat) (h : Keeps s0 s) :
    KeepsOut s0 (execEvictionCopyComplete n w y2 s) := by
  unfold execEvictionCopyComplete
  with_reducible repeat' (first | assumption | intro _ | apply keepsOut_next | apply keeps_State_at | apply keeps_State_finishEvict | apply keeps_State_retry | apply keeps_ite | apply keeps_ite_fst | apply keeps_forAll | apply keeps_foldl)

theorem keeps_execEvidRegion {s0 s : State} (r : Sys2Proof.Rq) (n : Fin 12) (v : List Sys2Proof.Byte) (h : Keeps s0 s) :
    KeepsOut s0 (execEvidRegion r n v s) := by
  unfold execEvidRegion
  with_reducible repeat' (first | assumption | intro _ | apply keepsOut_next | apply keeps_State_write | apply keeps_State_evidRegionWrite)

theorem keeps_execJobDrain {s0 s : State} (r : Sys2Proof.Rq) (n : Fin 12) (v : List Sys2Proof.Byte) (h : Keeps s0 s) :
    KeepsOut s0 (execJobDrain r n v s) := by
  unfold execJobDrain
  with_reducible repeat' (first | assumption | intro _ | apply keepsOut_next | apply keeps_State_write | apply keeps_State_jobDrain)

theorem keeps_execLrResume {s0 s : State} (r : Sys2Proof.Rq) (n : Fin 12) (v : List Sys2Proof.Byte) (h : Keeps s0 s) :
    KeepsOut s0 (execLrResume r n v s) := by
  unfold execLrResume
  with_reducible repeat' (first | assumption | intro _ | apply keepsOut_next | apply keeps_State_write | apply keeps_State_lrResume)

theorem keeps_execLstatsRegion {s0 s : State} (r : Sys2Proof.Rq) (n : Fin 12) (v : List Sys2Proof.Byte) (h : Keeps s0 s) :
    KeepsOut s0 (execLstatsRegion r n v s) := by
  unfold execLstatsRegion
  with_reducible repeat' (first | assumption | intro _ | apply keepsOut_next | apply keeps_State_write | apply keeps_State_lstatsRegionWrite)

theorem keeps_execTctPairs {s0 s : State} (r : Sys2Proof.Rq) (n : Fin 12) (v : List Sys2Proof.Byte) (h : Keeps s0 s) :
    KeepsOut s0 (execTctPairs r n v s) := by
  unfold execTctPairs
  with_reducible repeat' (first | assumption | intro _ | apply keepsOut_next | apply keeps_State_write | apply keeps_State_tctPairsWrite)

theorem keeps_execTctRegions {s0 s : State} (r : Sys2Proof.Rq) (n : Fin 12) (v : List Sys2Proof.Byte) (h : Keeps s0 s) :
    KeepsOut s0 (execTctRegions r n v s) := by
  unfold execTctRegions
  with_reducible repeat' (first | assumption | intro _ | apply keepsOut_next | apply keeps_State_write | apply keeps_State_tctRegionsWrite)

theorem keeps_execTurnArm {s0 s : State} (r : Sys2Proof.Rq) (n : Fin 12) (h : Keeps s0 s) :
    KeepsOut s0 (execTurnArm r n s) := by
  unfold execTurnArm
  with_reducible repeat' (first | assumption | intro _ | apply keepsOut_next | apply keeps_State_settleOr | apply keeps_State_request | apply keeps_State_turnArm)


theorem keeps_execTurnDisarm {s0 s : State} (r : Sys2Proof.Rq) (n : Fin 12) (h : Keeps s0 s) :
    KeepsOut s0 (execTurnDisarm r n s) := by
  unfold execTurnDisarm
  with_reducible repeat' (first | assumption | intro _ | apply keepsOut_next | apply keeps_State_command | apply keeps_State_turnFail)

theorem keeps_execWsetFetch {s0 s : State} (r : Sys2Proof.Rq) (n : Fin 12) (h : Keeps s0 s) :
    KeepsOut s0 (execWsetFetch r n s) := by
  unfold execWsetFetch
  with_reducible repeat' (first | assumption | intro _ | apply keepsOut_next | apply keeps_State_settleOr | apply keeps_State_request | apply keeps_State_wsetFetch)


theorem keeps_execWsetRegister {s0 s : State} (r : Sys2Proof.Rq) (n : Fin 12) (h : Keeps s0 s) :
    KeepsOut s0 (execWsetRegister r n s) := by
  unfold execWsetRegister
  with_reducible repeat' (first | assumption | intro _ | apply keepsOut_next | apply keeps_State_command | apply keeps_State_wsetRegister)

theorem keeps_execWsetRelease {s0 s : State} (r : Sys2Proof.Rq) (n : Fin 12) (h : Keeps s0 s) :
    KeepsOut s0 (execWsetRelease r n s) := by
  unfold execWsetRelease
  with_reducible repeat' (first | assumption | intro _ | apply keepsOut_next | apply keeps_State_command | apply keeps_State_wsetRelease)

end Sys2Proof.Laws
end

