-- ==== Sys2Proof/Laws/KeepsCoreAlu.lean ====
section
/-!
SUPPORT. Every operation of Machine/CoreAlu.lean keeps the queue and the canonical memory.
-/
namespace Sys2Proof.Laws
open Sys2Proof.Machine

theorem keeps_execAdd {s0 s : State} (g : Fin 216) (h : Keeps s0 s) :
    KeepsOut s0 (execAdd g s) := by
  unfold execAdd
  with_reducible repeat' (first | assumption | intro _ | apply keepsOut_next | apply keeps_coreRR)

theorem keeps_execAddi {s0 s : State} (g : Fin 216) (h : Keeps s0 s) :
    KeepsOut s0 (execAddi g s) := by
  unfold execAddi
  with_reducible repeat' (first | assumption | intro _ | apply keepsOut_next | apply keeps_coreRI)

theorem keeps_execAnd {s0 s : State} (g : Fin 216) (h : Keeps s0 s) :
    KeepsOut s0 (execAnd g s) := by
  unfold execAnd
  with_reducible repeat' (first | assumption | intro _ | apply keepsOut_next | apply keeps_coreRR)

theorem keeps_execAndi {s0 s : State} (g : Fin 216) (h : Keeps s0 s) :
    KeepsOut s0 (execAndi g s) := by
  unfold execAndi
  with_reducible repeat' (first | assumption | intro _ | apply keepsOut_next | apply keeps_coreRI)

theorem keeps_execBeq {s0 s : State} (g : Fin 216) (h : Keeps s0 s) :
    KeepsOut s0 (execBeq g s) := by
  unfold execBeq
  with_reducible repeat' (first | assumption | intro _ | apply keepsOut_next | apply keeps_coreBranch)

theorem keeps_execBge {s0 s : State} (g : Fin 216) (h : Keeps s0 s) :
    KeepsOut s0 (execBge g s) := by
  unfold execBge
  with_reducible repeat' (first | assumption | intro _ | apply keepsOut_next | apply keeps_coreBranch)

theorem keeps_execBgeu {s0 s : State} (g : Fin 216) (h : Keeps s0 s) :
    KeepsOut s0 (execBgeu g s) := by
  unfold execBgeu
  with_reducible repeat' (first | assumption | intro _ | apply keepsOut_next | apply keeps_coreBranch)

theorem keeps_execBlt {s0 s : State} (g : Fin 216) (h : Keeps s0 s) :
    KeepsOut s0 (execBlt g s) := by
  unfold execBlt
  with_reducible repeat' (first | assumption | intro _ | apply keepsOut_next | apply keeps_coreBranch)

theorem keeps_execBltu {s0 s : State} (g : Fin 216) (h : Keeps s0 s) :
    KeepsOut s0 (execBltu g s) := by
  unfold execBltu
  with_reducible repeat' (first | assumption | intro _ | apply keepsOut_next | apply keeps_coreBranch)

theorem keeps_execBne {s0 s : State} (g : Fin 216) (h : Keeps s0 s) :
    KeepsOut s0 (execBne g s) := by
  unfold execBne
  with_reducible repeat' (first | assumption | intro _ | apply keepsOut_next | apply keeps_coreBranch)

theorem keeps_execBsum {s0 s : State} (g : Fin 216) (h : Keeps s0 s) :
    KeepsOut s0 (execBsum g s) := by
  unfold execBsum
  with_reducible repeat' (first | assumption | intro _ | apply keepsOut_next | apply keeps_coreSummary)

theorem keeps_execFadd {s0 s : State} (g : Fin 216) (h : Keeps s0 s) :
    KeepsOut s0 (execFadd g s) := by
  unfold execFadd
  with_reducible repeat' (first | assumption | intro _ | apply keepsOut_next | apply keeps_coreFP)

theorem keeps_execFcvtf {s0 s : State} (g : Fin 216) (h : Keeps s0 s) :
    KeepsOut s0 (execFcvtf g s) := by
  unfold execFcvtf
  with_reducible repeat' (first | assumption | intro _ | apply keepsOut_next | apply keeps_coreRR)

theorem keeps_execFcvti {s0 s : State} (g : Fin 216) (h : Keeps s0 s) :
    KeepsOut s0 (execFcvti g s) := by
  unfold execFcvti
  with_reducible repeat' (first | assumption | intro _ | apply keepsOut_next | apply keeps_coreRR)

theorem keeps_execFlt {s0 s : State} (g : Fin 216) (h : Keeps s0 s) :
    KeepsOut s0 (execFlt g s) := by
  unfold execFlt
  with_reducible repeat' (first | assumption | intro _ | apply keepsOut_next | apply keeps_coreRR)

theorem keeps_execFmax {s0 s : State} (g : Fin 216) (h : Keeps s0 s) :
    KeepsOut s0 (execFmax g s) := by
  unfold execFmax
  with_reducible repeat' (first | assumption | intro _ | apply keepsOut_next | apply keeps_coreFP)

theorem keeps_execFmin {s0 s : State} (g : Fin 216) (h : Keeps s0 s) :
    KeepsOut s0 (execFmin g s) := by
  unfold execFmin
  with_reducible repeat' (first | assumption | intro _ | apply keepsOut_next | apply keeps_coreFP)

theorem keeps_execFmul {s0 s : State} (g : Fin 216) (h : Keeps s0 s) :
    KeepsOut s0 (execFmul g s) := by
  unfold execFmul
  with_reducible repeat' (first | assumption | intro _ | apply keepsOut_next | apply keeps_coreFP)

theorem keeps_execFsub {s0 s : State} (g : Fin 216) (h : Keeps s0 s) :
    KeepsOut s0 (execFsub g s) := by
  unfold execFsub
  with_reducible repeat' (first | assumption | intro _ | apply keepsOut_next | apply keeps_coreFP)

theorem keeps_execJmp {s0 s : State} (g : Fin 216) (h : Keeps s0 s) :
    KeepsOut s0 (execJmp g s) := by
  unfold execJmp
  with_reducible repeat' (first | assumption | intro _ | apply keepsOut_next | apply keeps_coreRun | apply keeps_State_jump | apply keeps_State_setHearth)

theorem keeps_execJr {s0 s : State} (g : Fin 216) (h : Keeps s0 s) :
    KeepsOut s0 (execJr g s) := by
  unfold execJr
  with_reducible repeat' (first | assumption | intro _ | apply keepsOut_next | apply keeps_coreRun | apply keeps_State_jump | apply keeps_State_setHearth)

theorem keeps_execLd16 {s0 s : State} (g : Fin 216) (h : Keeps s0 s) :
    KeepsOut s0 (execLd16 g s) := by
  unfold execLd16
  with_reducible repeat' (first | assumption | intro _ | apply keepsOut_next | apply keeps_coreLoad)

theorem keeps_execLd32 {s0 s : State} (g : Fin 216) (h : Keeps s0 s) :
    KeepsOut s0 (execLd32 g s) := by
  unfold execLd32
  with_reducible repeat' (first | assumption | intro _ | apply keepsOut_next | apply keeps_coreLoad)

theorem keeps_execLd64 {s0 s : State} (g : Fin 216) (h : Keeps s0 s) :
    KeepsOut s0 (execLd64 g s) := by
  unfold execLd64
  with_reducible repeat' (first | assumption | intro _ | apply keepsOut_next | apply keeps_coreLoad)

theorem keeps_execLd8 {s0 s : State} (g : Fin 216) (h : Keeps s0 s) :
    KeepsOut s0 (execLd8 g s) := by
  unfold execLd8
  with_reducible repeat' (first | assumption | intro _ | apply keepsOut_next | apply keeps_coreLoad)

theorem keeps_execMax {s0 s : State} (g : Fin 216) (h : Keeps s0 s) :
    KeepsOut s0 (execMax g s) := by
  unfold execMax
  with_reducible repeat' (first | assumption | intro _ | apply keepsOut_next | apply keeps_coreRR)

theorem keeps_execMin {s0 s : State} (g : Fin 216) (h : Keeps s0 s) :
    KeepsOut s0 (execMin g s) := by
  unfold execMin
  with_reducible repeat' (first | assumption | intro _ | apply keepsOut_next | apply keeps_coreRR)

theorem keeps_execMovh {s0 s : State} (g : Fin 216) (h : Keeps s0 s) :
    KeepsOut s0 (execMovh g s) := by
  unfold execMovh
  with_reducible repeat' (first | assumption | intro _ | apply keepsOut_next | apply keeps_coreAlu)

theorem keeps_execMul {s0 s : State} (g : Fin 216) (h : Keeps s0 s) :
    KeepsOut s0 (execMul g s) := by
  unfold execMul
  with_reducible repeat' (first | assumption | intro _ | apply keepsOut_next | apply keeps_coreRR)

theorem keeps_execMulh {s0 s : State} (g : Fin 216) (h : Keeps s0 s) :
    KeepsOut s0 (execMulh g s) := by
  unfold execMulh
  with_reducible repeat' (first | assumption | intro _ | apply keepsOut_next | apply keeps_coreRR)

theorem keeps_execOr {s0 s : State} (g : Fin 216) (h : Keeps s0 s) :
    KeepsOut s0 (execOr g s) := by
  unfold execOr
  with_reducible repeat' (first | assumption | intro _ | apply keepsOut_next | apply keeps_coreRR)

theorem keeps_execOri {s0 s : State} (g : Fin 216) (h : Keeps s0 s) :
    KeepsOut s0 (execOri g s) := by
  unfold execOri
  with_reducible repeat' (first | assumption | intro _ | apply keepsOut_next | apply keeps_coreRI)

theorem keeps_execSar {s0 s : State} (g : Fin 216) (h : Keeps s0 s) :
    KeepsOut s0 (execSar g s) := by
  unfold execSar
  with_reducible repeat' (first | assumption | intro _ | apply keepsOut_next | apply keeps_coreRR)

theorem keeps_execSari {s0 s : State} (g : Fin 216) (h : Keeps s0 s) :
    KeepsOut s0 (execSari g s) := by
  unfold execSari
  with_reducible repeat' (first | assumption | intro _ | apply keepsOut_next | apply keeps_coreRI)

theorem keeps_execSflg {s0 s : State} (g : Fin 216) (h : Keeps s0 s) :
    KeepsOut s0 (execSflg g s) := by
  unfold execSflg
  with_reducible repeat' (first | assumption | intro _ | apply keepsOut_next | apply keeps_coreSummary)

theorem keeps_execShl {s0 s : State} (g : Fin 216) (h : Keeps s0 s) :
    KeepsOut s0 (execShl g s) := by
  unfold execShl
  with_reducible repeat' (first | assumption | intro _ | apply keepsOut_next | apply keeps_coreRR)

theorem keeps_execShli {s0 s : State} (g : Fin 216) (h : Keeps s0 s) :
    KeepsOut s0 (execShli g s) := by
  unfold execShli
  with_reducible repeat' (first | assumption | intro _ | apply keepsOut_next | apply keeps_coreRI)

theorem keeps_execShr {s0 s : State} (g : Fin 216) (h : Keeps s0 s) :
    KeepsOut s0 (execShr g s) := by
  unfold execShr
  with_reducible repeat' (first | assumption | intro _ | apply keepsOut_next | apply keeps_coreRR)

theorem keeps_execShri {s0 s : State} (g : Fin 216) (h : Keeps s0 s) :
    KeepsOut s0 (execShri g s) := by
  unfold execShri
  with_reducible repeat' (first | assumption | intro _ | apply keepsOut_next | apply keeps_coreRI)

theorem keeps_execSlt {s0 s : State} (g : Fin 216) (h : Keeps s0 s) :
    KeepsOut s0 (execSlt g s) := by
  unfold execSlt
  with_reducible repeat' (first | assumption | intro _ | apply keepsOut_next | apply keeps_coreRR)

theorem keeps_execSltu {s0 s : State} (g : Fin 216) (h : Keeps s0 s) :
    KeepsOut s0 (execSltu g s) := by
  unfold execSltu
  with_reducible repeat' (first | assumption | intro _ | apply keepsOut_next | apply keeps_coreRR)

theorem keeps_execSrd {s0 s : State} (g : Fin 216) (h : Keeps s0 s) :
    KeepsOut s0 (execSrd g s) := by
  unfold execSrd
  with_reducible repeat' (first | assumption | intro _ | apply keepsOut_next | apply keeps_coreSummary)

theorem keeps_execSt16 {s0 s : State} (g : Fin 216) (h : Keeps s0 s) :
    KeepsOut s0 (execSt16 g s) := by
  unfold execSt16
  with_reducible repeat' (first | assumption | intro _ | apply keepsOut_next | apply keeps_coreStore)

theorem keeps_execSt32 {s0 s : State} (g : Fin 216) (h : Keeps s0 s) :
    KeepsOut s0 (execSt32 g s) := by
  unfold execSt32
  with_reducible repeat' (first | assumption | intro _ | apply keepsOut_next | apply keeps_coreStore)

theorem keeps_execSt64 {s0 s : State} (g : Fin 216) (h : Keeps s0 s) :
    KeepsOut s0 (execSt64 g s) := by
  unfold execSt64
  with_reducible repeat' (first | assumption | intro _ | apply keepsOut_next | apply keeps_coreStore)

theorem keeps_execSt8 {s0 s : State} (g : Fin 216) (h : Keeps s0 s) :
    KeepsOut s0 (execSt8 g s) := by
  unfold execSt8
  with_reducible repeat' (first | assumption | intro _ | apply keepsOut_next | apply keeps_coreStore)

theorem keeps_execSub {s0 s : State} (g : Fin 216) (h : Keeps s0 s) :
    KeepsOut s0 (execSub g s) := by
  unfold execSub
  with_reducible repeat' (first | assumption | intro _ | apply keepsOut_next | apply keeps_coreRR)

theorem keeps_execXor {s0 s : State} (g : Fin 216) (h : Keeps s0 s) :
    KeepsOut s0 (execXor g s) := by
  unfold execXor
  with_reducible repeat' (first | assumption | intro _ | apply keepsOut_next | apply keeps_coreRR)

theorem keeps_execXori {s0 s : State} (g : Fin 216) (h : Keeps s0 s) :
    KeepsOut s0 (execXori g s) := by
  unfold execXori
  with_reducible repeat' (first | assumption | intro _ | apply keepsOut_next | apply keeps_coreRI)

end Sys2Proof.Laws
end

