-- ==== Sys2Proof/Laws/KeepsCoreSystem.lean ====
section
/-!
SUPPORT. Every operation of Machine/CoreSystem.lean keeps the queue and the canonical memory.
-/
namespace Sys2Proof.Laws
open Sys2Proof.Machine

theorem keeps_execBar {s0 s : State} (g : Fin 216) (h : Keeps s0 s) :
    KeepsOut s0 (execBar g s) := by
  unfold execBar
  with_reducible repeat' (first | assumption | intro _ | apply keepsOut_next | apply keeps_coreRun | apply keeps_State_trapAll | apply keeps_State_setHearth | apply keeps_ite)

theorem keeps_execBarComplete {s0 s : State} (n : Fin 12) (h : Keeps s0 s) :
    KeepsOut s0 (execBarComplete n s) := by
  unfold execBarComplete
  with_reducible repeat' (first | assumption | intro _ | apply keepsOut_next | apply keeps_State_draw | apply keeps_forAll | apply keeps_State_onHearth | apply keeps_State_coreRecord | apply keeps_ite | apply keeps_ite_fst | apply keeps_foldl | apply keeps_foldl_fst | (apply keeps_of_fst; assumption) | (apply keeps_of_snd; assumption) | dsimp only | split)

theorem keeps_execCsrr {s0 s : State} (g : Fin 216) (h : Keeps s0 s) :
    KeepsOut s0 (execCsrr g s) := by
  unfold execCsrr
  with_reducible repeat' (first | assumption | intro _ | apply keepsOut_next | apply keeps_coreRun | apply keeps_State_onHearth | apply keeps_State_coreTrap | apply keeps_ite | apply keeps_ite_fst | apply keeps_forAll | apply keeps_foldl | apply keeps_foldl_fst | (apply keeps_of_fst; assumption) | (apply keeps_of_snd; assumption) | dsimp only | split)

theorem keeps_execCsrw {s0 s : State} (g : Fin 216) (h : Keeps s0 s) :
    KeepsOut s0 (execCsrw g s) := by
  unfold execCsrw
  with_reducible repeat' (first | assumption | intro _ | apply keepsOut_next | apply keeps_coreRun | apply keeps_State_onHearth | apply keeps_State_coreTrap | apply keeps_ite)

theorem keeps_execFence {s0 s : State} (g : Fin 216) (h : Keeps s0 s) :
    KeepsOut s0 (execFence g s) := by
  unfold execFence
  with_reducible repeat' (first | assumption | intro _ | apply keepsOut_next | apply keeps_coreRun | apply keeps_State_onHearth)

theorem keeps_execNote {s0 s : State} (g : Fin 216) (h : Keeps s0 s) :
    KeepsOut s0 (execNote g s) := by
  unfold execNote
  with_reducible repeat' (first | assumption | intro _ | apply keepsOut_next | apply keeps_coreRun | apply keeps_State_setHearth | apply keeps_State_bump | apply keeps_State_raise | apply keeps_ite)

theorem keeps_execPoll {s0 s : State} (g : Fin 216) (h : Keeps s0 s) :
    KeepsOut s0 (execPoll g s) := by
  unfold execPoll
  with_reducible repeat' (first | assumption | intro _ | apply keepsOut_next | apply keeps_coreRun | apply keeps_State_coreTrap | apply keeps_State_poll | apply keeps_State_onHearth | apply keeps_State_onPart | apply keeps_ite | apply keeps_ite_fst | apply keeps_forAll | apply keeps_foldl | apply keeps_foldl_fst | (apply keeps_of_fst; assumption) | (apply keeps_of_snd; assumption) | dsimp only | split)

theorem keeps_execRakingPieceEnd {s0 s : State} (n : Fin 12) (y1 : Nat) (h : Keeps s0 s) :
    KeepsOut s0 (execRakingPieceEnd n y1 s) := by
  unfold execRakingPieceEnd
  with_reducible repeat' (first | assumption | intro _ | apply keepsOut_next | apply keeps_State_at | apply keeps_forAll | apply keeps_State_coreRecord | apply keeps_State_onHearth | apply keeps_State_onPart | apply keeps_ite | apply keeps_ite_fst | apply keeps_foldl | apply keeps_foldl_fst | (apply keeps_of_fst; assumption) | (apply keeps_of_snd; assumption) | dsimp only | split)

theorem keeps_execRakingPieceStart {s0 s : State} (n : Fin 12) (y1 : Nat) (h : Keeps s0 s) :
    KeepsOut s0 (execRakingPieceStart n y1 s) := by
  unfold execRakingPieceStart
  with_reducible repeat' (first | assumption | intro _ | apply keepsOut_next | apply keeps_State_at | apply keeps_State_onPart | apply keeps_forAll | apply keeps_State_coreRecord | apply keeps_State_onHearth | apply keeps_State_scheduleFault | apply keeps_ite | apply keeps_ite_fst | apply keeps_foldl | apply keeps_foldl_fst | (apply keeps_of_fst; assumption) | (apply keeps_of_snd; assumption) | dsimp only | split)

theorem keeps_execScheduleFault {s0 s : State} (g : Fin 216) (unit : Nat) (y2 : Nat) (h : Keeps s0 s) :
    KeepsOut s0 (execScheduleFault g unit y2 s) := by
  unfold execScheduleFault
  with_reducible repeat' (first | assumption | intro _ | apply keepsOut_next | apply keeps_State_scheduleFault | apply keeps_State_rickSched | apply keeps_ite | apply keeps_ite_fst | apply keeps_forAll | apply keeps_foldl | apply keeps_foldl_fst | (apply keeps_of_fst; assumption) | (apply keeps_of_snd; assumption) | dsimp only | split)

theorem keeps_execStepend {s0 s : State} (g : Fin 216) (h : Keeps s0 s) :
    KeepsOut s0 (execStepend g s) := by
  unfold execStepend
  with_reducible repeat' (first | assumption | intro _ | apply keepsOut_next | apply keeps_coreRun | apply keeps_State_fatalTrap | apply keeps_State_enterEnd | apply keeps_State_setHearth | apply keeps_ite)

theorem keeps_execWaitc {s0 s : State} (g : Fin 216) (h : Keeps s0 s) :
    KeepsOut s0 (execWaitc g s) := by
  unfold execWaitc
  with_reducible repeat' (first | assumption | intro _ | apply keepsOut_next | apply keeps_coreRun | apply keeps_State_onHearth | apply keeps_State_scheduleFault | apply keeps_State_setHearth | apply keeps_ite)

theorem keeps_execWaitcRelease {s0 s : State} (g : Fin 216) (h : Keeps s0 s) :
    KeepsOut s0 (execWaitcRelease g s) := by
  unfold execWaitcRelease
  with_reducible repeat' (first | assumption | intro _ | apply keepsOut_next | apply keeps_State_coreRecord | apply keeps_State_setHearth | apply keeps_ite | apply keeps_ite_fst | apply keeps_forAll | apply keeps_foldl | apply keeps_foldl_fst | (apply keeps_of_fst; assumption) | (apply keeps_of_snd; assumption) | dsimp only | split)

end Sys2Proof.Laws
end

