-- ==== Sys2Proof/Laws/KeepsLoads.lean ====
section
/-!
SUPPORT. Every operation of Machine/Loads.lean keeps the queue and the canonical memory.
-/
namespace Sys2Proof.Laws
open Sys2Proof.Machine

theorem keeps_State_giveSpill {s0 s : State} (n : Nat) (q : Nat) (len : Nat) (h : Keeps s0 s) :
    ∀ t, State.giveSpill s n q len = some t → Keeps s0 t := by
  unfold State.giveSpill
  refine keeps_foldl_bind _ (fun s x t hs e => ?_) _ _ (fun t e => by cases e; exact h)
  split at e
  · cases e; exact keeps_State_setRegion _ _ _ hs
  · cases e


theorem keeps_State_giveSpills {s0 s : State} (n : Nat) (l : List (Nat × List Sys2Proof.Byte)) (h : Keeps s0 s) :
    ∀ t, State.giveSpills s n l = some t → Keeps s0 t := by
  unfold State.giveSpills
  exact keeps_foldl_bind _ (fun s x t hs e => keeps_State_giveSpill _ _ _ hs t e) _ _ (fun t e => by cases e; exact h)


theorem keeps_State_lrLoad {s0 s : State} (n : Nat) (q : Nat) (kind : Nat) (h : Keeps s0 s) :
    Keeps s0 (State.lrLoad s n q kind) := by
  unfold State.lrLoad
  with_reducible repeat' (first | assumption | intro _ | apply keeps_State_setBlob)

theorem keeps_State_takeCord {s0 s : State} (n : Nat) (j : Nat) (i : List Sys2Proof.Byte) (h : Keeps s0 s) :
    Keeps s0 (State.takeCord s n j i) := by
  unfold State.takeCord
  refine keeps_State_updateGaps _ (keeps_forAll _ _ (fun x s hs => ?_) (keeps_getD (fun t e => keeps_State_giveSpills _ _ h t e) h))
  exact keeps_State_lrLoad _ _ _ (keeps_State_onJob _ _ _ hs)


theorem keeps_State_loadImage {s0 s : State} (n : Nat) (j : Nat) (i : List Sys2Proof.Byte) (h : Keeps s0 s) :
    Keeps s0 (State.loadImage s n j i) := by
  unfold State.loadImage
  with_reducible repeat' (first | assumption | intro _ | apply keeps_State_setNum | apply keeps_State_takeCord | apply keeps_State_raise | apply keeps_State_wakePart | apply keeps_ite)

theorem keeps_State_loadCmd {s0 s : State} (n : Nat) (h : Keeps s0 s) :
    Keeps s0 (State.loadCmd s n).1 := by
  unfold State.loadCmd
  with_reducible repeat' (first | assumption | intro _ | apply keeps_State_loadImage | apply keeps_ite | apply keeps_ite_fst)

theorem keeps_State_unloadCmd {s0 s : State} (n : Nat) (h : Keeps s0 s) :
    Keeps s0 (State.unloadCmd s n).1 := by
  unfold State.unloadCmd
  with_reducible repeat' (first | assumption | intro _ | apply keeps_unloadJob | apply keeps_State_onJob | apply keeps_ite | apply keeps_ite_fst)

theorem keeps_State_withoutJobs {s0 s : State} (n : Nat) (l : List Nat) (h : Keeps s0 s) :
    Keeps s0 (State.withoutJobs s n l) := by
  unfold State.withoutJobs
  with_reducible repeat' (first | assumption | intro _ | apply keeps_forAll | apply keeps_State_onJob | apply keeps_State_dropSpill)

theorem keeps_execLoad {s0 s : State} (r : Sys2Proof.Rq) (n : Fin 12) (h : Keeps s0 s) :
    KeepsOut s0 (execLoad r n s) := by
  unfold execLoad
  with_reducible repeat' (first | assumption | intro _ | apply keepsOut_next | apply keeps_State_command | apply keeps_State_loadCmd)

theorem keeps_execUnload {s0 s : State} (r : Sys2Proof.Rq) (n : Fin 12) (h : Keeps s0 s) :
    KeepsOut s0 (execUnload r n s) := by
  unfold execUnload
  with_reducible repeat' (first | assumption | intro _ | apply keepsOut_next | apply keeps_State_command | apply keeps_State_unloadCmd)

end Sys2Proof.Laws
end

