-- ==== Sys2Proof/Laws/KeepsManage.lean ====
section
/-!
SUPPORT. Every operation of Machine/Manage.lean keeps the queue and the canonical memory.
-/
namespace Sys2Proof.Laws
open Sys2Proof.Machine

theorem keeps_State_abandonDirty {s0 s : State} (n : Nat) (k : Nat) (h : Keeps s0 s) :
    Keeps s0 (State.abandonDirty s n k) := by
  unfold State.abandonDirty
  with_reducible repeat' (first | assumption | intro _ | apply keeps_State_raise | apply keeps_State_bumpBy | apply keeps_ite)

theorem keeps_State_ashBegin {s0 s : State} (n : Nat) (a : Ash) (h : Keeps s0 s) :
    Keeps s0 (State.ashBegin s n a) := by
  unfold State.ashBegin
  with_reducible repeat' (first | assumption | intro _ | apply keeps_State_turnFail | apply keeps_State_discardAttempt | apply keeps_forAll | apply keeps_State_closeSession | apply keeps_State_onPart | apply keeps_State_setNum | apply keeps_State_setKindling | apply keeps_State_noKindling | apply keeps_State_wakePart | apply keeps_ite | apply keeps_ite_fst | apply keeps_foldl | apply keeps_foldl_fst | (apply keeps_of_fst; assumption) | (apply keeps_of_snd; assumption) | dsimp only | split | (apply keeps_mk; first | assumption | apply keeps_State_turnFail | apply keeps_State_discardAttempt | apply keeps_forAll | apply keeps_State_closeSession | apply keeps_State_onPart | apply keeps_State_setNum | apply keeps_State_setKindling | apply keeps_State_noKindling | apply keeps_State_wakePart | apply keeps_ite | apply keeps_foldl))

theorem keeps_State_unsetAll {s0 s : State} (l : List Nat) (h : Keeps s0 s) :
    Keeps s0 (State.unsetAll s l) := by
  unfold State.unsetAll
  with_reducible repeat' (first | assumption | intro _ | apply keeps_State_unset | apply keeps_ite | apply keeps_ite_fst | apply keeps_forAll | apply keeps_foldl)

theorem keeps_State_dropKindling {s0 s : State}  (h : Keeps s0 s) :
    Keeps s0 (State.dropKindling s) := by
  unfold State.dropKindling
  with_reducible repeat' (first | assumption | intro _ | apply keeps_State_unsetAll | apply keeps_ite | apply keeps_ite_fst | apply keeps_forAll | apply keeps_foldl | apply keeps_foldl_fst | (apply keeps_of_fst; assumption) | (apply keeps_of_snd; assumption) | dsimp only | split | (apply keeps_mk; first | assumption | apply keeps_State_unsetAll | apply keeps_ite | apply keeps_forAll | apply keeps_foldl))

theorem keeps_State_ashDict {s0 s : State} (n : Nat) (h : Keeps s0 s) :
    Keeps s0 (State.ashDict s n) := by
  unfold State.ashDict
  with_reducible repeat' (first | assumption | intro _ | apply keeps_State_unset | apply keeps_State_partDefaults | apply keeps_State_dropKindling | apply keeps_ite)

theorem keeps_State_ashOut {s0 s : State} (v : List Sys2Proof.Byte) (flashOk : Bool) (h : Keeps s0 s) :
    Keeps s0 (State.ashOut s v flashOk).1 := by
  unfold State.ashOut
  with_reducible repeat' (first | assumption | intro _ | apply keeps_State_ashBegin | apply keeps_ite | apply keeps_ite_fst | apply keeps_forAll | apply keeps_foldl | apply keeps_foldl_fst | (apply keeps_of_fst; assumption) | (apply keeps_of_snd; assumption) | dsimp only | split | (apply keeps_mk; first | assumption | apply keeps_State_ashBegin | apply keeps_ite | apply keeps_forAll | apply keeps_foldl))

theorem keeps_State_wipeObjects {s0 s : State} (n : Nat) (ks : List Nat) (h : Keeps s0 s) :
    Keeps s0 (State.wipeObjects s n ks) := by
  unfold State.wipeObjects
  with_reducible repeat' (first | assumption | intro _ | apply keeps_ite | apply keeps_ite_fst | apply keeps_forAll | apply keeps_foldl | apply keeps_foldl_fst | (apply keeps_of_fst; assumption) | (apply keeps_of_snd; assumption) | dsimp only | split | (apply keeps_mk; first | assumption | apply keeps_ite | apply keeps_forAll | apply keeps_foldl))

theorem keeps_State_ashZero {s0 s : State} (n : Nat) (h : Keeps s0 s) :
    Keeps s0 (State.ashZero s n) := by
  unfold State.ashZero
  with_reducible repeat' (first | assumption | intro _ | apply keeps_forAll | apply keeps_State_onRick | apply keeps_State_setHearth | apply keeps_State_zeroRick | apply keeps_State_wipeObjects | apply keeps_State_ashDict | apply keeps_State_onPart | apply keeps_ite | apply keeps_ite_fst | apply keeps_foldl | apply keeps_foldl_fst | (apply keeps_of_fst; assumption) | (apply keeps_of_snd; assumption) | dsimp only | split | (apply keeps_mk; first | assumption | apply keeps_forAll | apply keeps_State_onRick | apply keeps_State_setHearth | apply keeps_State_zeroRick | apply keeps_State_wipeObjects | apply keeps_State_ashDict | apply keeps_State_onPart | apply keeps_ite | apply keeps_foldl))

theorem keeps_State_closeCred {s0 s : State} (role : Nat) (tenant : Nat) (cred : Nat) (h : Keeps s0 s) :
    Keeps s0 (State.closeCred s role tenant cred) := by
  unfold State.closeCred
  with_reducible repeat' (first | assumption | intro _ | apply keeps_forAll | apply keeps_State_closeSession)

theorem keeps_State_consentWrite {s0 s : State} (n : Nat) (v : List Sys2Proof.Byte) (h : Keeps s0 s) :
    Keeps s0 (State.consentWrite s n v).1 := by
  unfold State.consentWrite
  with_reducible repeat' (first | assumption | intro _ | apply keeps_State_consentSoon | apply keeps_State_setNum | apply keeps_ite | apply keeps_ite_fst)

theorem keeps_State_credAdd {s0 s : State} (x : Session) (y2 : Nat) (v : List Sys2Proof.Byte) (h : Keeps s0 s) :
    Keeps s0 (State.credAdd s x y2 v).1 := by
  unfold State.credAdd
  with_reducible repeat' (first | assumption | intro _ | apply keeps_State_setBlob | apply keeps_ite | apply keeps_ite_fst)

theorem keeps_State_credRemove {s0 s : State} (y1 : Nat) (v : List Sys2Proof.Byte) (h : Keeps s0 s) :
    Keeps s0 (State.credRemove s y1 v).1 := by
  unfold State.credRemove
  with_reducible repeat' (first | assumption | intro _ | apply keeps_State_closeCred | apply keeps_State_setBlob | apply keeps_ite | apply keeps_ite_fst | apply keeps_forAll | apply keeps_foldl | apply keeps_foldl_fst | (apply keeps_of_fst; assumption) | (apply keeps_of_snd; assumption) | dsimp only | split)

theorem keeps_State_cutRicks {s0 s : State} (n : Nat) (removed : List Nat) (h : Keeps s0 s) :
    Keeps s0 (State.cutRicks s n removed) := by
  unfold State.cutRicks
  with_reducible repeat' (first | assumption | intro _ | apply keeps_forAll | apply keeps_State_rickOff | apply keeps_State_wipeObjects | apply keeps_State_abandonDirty | apply keeps_State_zeroRange | apply keeps_State_onPart | apply keeps_State_onJob | apply keeps_State_raise | apply keeps_State_unsetAll | apply keeps_ite | apply keeps_ite_fst | apply keeps_foldl)

theorem keeps_State_installFirmware {s0 s : State} (o : List Sys2Proof.Byte) (h : Keeps s0 s) :
    Keeps s0 (State.installFirmware s o) := by
  unfold State.installFirmware
  with_reducible repeat' (first | assumption | intro _ | apply keeps_State_setBoth | apply keeps_ite | apply keeps_ite_fst | apply keeps_forAll | apply keeps_foldl | apply keeps_foldl_fst | (apply keeps_of_fst; assumption) | (apply keeps_of_snd; assumption) | dsimp only | split | (apply keeps_mk; first | assumption | apply keeps_State_setBoth | apply keeps_ite | apply keeps_forAll | apply keeps_foldl))

theorem keeps_State_installManifest {s0 s : State} (o : List Sys2Proof.Byte) (h : Keeps s0 s) :
    Keeps s0 (State.installManifest s o) := by
  unfold State.installManifest
  with_reducible repeat' (first | assumption | intro _ | apply keeps_forAll | apply keeps_State_consentSoon | apply keeps_State_setBlob | apply keeps_ite | apply keeps_ite_fst | apply keeps_foldl | apply keeps_foldl_fst | (apply keeps_of_fst; assumption) | (apply keeps_of_snd; assumption) | dsimp only | split | (apply keeps_mk; first | assumption | apply keeps_forAll | apply keeps_State_consentSoon | apply keeps_State_setBlob | apply keeps_ite | apply keeps_foldl))

theorem keeps_State_maskTakes {s0 s : State} (n : Nat) (m : Nat) (removed : List Nat) (added : List Nat) (h : Keeps s0 s) :
    Keeps s0 (State.maskTakes s n m removed added) := by
  unfold State.maskTakes
  with_reducible repeat' (first | assumption | intro _ | apply keeps_State_setNum | apply keeps_forAll | apply keeps_State_onRick | apply keeps_State_onPart | apply keeps_State_unavailable | apply keeps_ite | apply keeps_ite_fst | apply keeps_foldl | apply keeps_foldl_fst | (apply keeps_of_fst; assumption) | (apply keeps_of_snd; assumption) | dsimp only | split | (apply keeps_mk; first | assumption | apply keeps_State_setNum | apply keeps_forAll | apply keeps_State_onRick | apply keeps_State_onPart | apply keeps_State_unavailable | apply keeps_ite | apply keeps_foldl))

theorem keeps_State_objInstall {s0 s : State}  (h : Keeps s0 s) :
    Keeps s0 (State.objInstall s).1 := by
  unfold State.objInstall
  dsimp only
  split
  · exact h
  · have k := keeps_State_setNum E.OBJ_RESULT (s.objCode (s.blob E.OBJ_IMAGE)) h
    exact keeps_ite k (keeps_ite (keeps_State_installFirmware _ k) (keeps_State_installManifest _ k))


theorem keeps_State_opCredAdd {s0 s : State} (v : List Sys2Proof.Byte) (h : Keeps s0 s) :
    Keeps s0 (State.opCredAdd s v).1 := by
  unfold State.opCredAdd
  with_reducible repeat' (first | assumption | intro _ | apply keeps_State_setBlob | apply keeps_ite | apply keeps_ite_fst)

theorem keeps_State_opCredRemove {s0 s : State} (v : List Sys2Proof.Byte) (h : Keeps s0 s) :
    Keeps s0 (State.opCredRemove s v).1 := by
  unfold State.opCredRemove
  with_reducible repeat' (first | assumption | intro _ | apply keeps_State_closeCred | apply keeps_State_setBlob | apply keeps_ite | apply keeps_ite_fst)

theorem keeps_State_partTenantWrite {s0 s : State} (n : Nat) (v : List Sys2Proof.Byte) (h : Keeps s0 s) :
    Keeps s0 (State.partTenantWrite s n v).1 := by
  unfold State.partTenantWrite
  with_reducible repeat' (first | assumption | intro _ | apply keeps_State_giveFlush | apply keeps_State_setNum | apply keeps_ite | apply keeps_ite_fst)

theorem keeps_State_resyncPorts {s0 s : State} (n : Nat) (h : Keeps s0 s) :
    Keeps s0 (State.resyncPorts s n) := by
  unfold State.resyncPorts
  with_reducible repeat' (first | assumption | intro _ | apply keeps_forAll | apply keeps_State_onFport)

theorem keeps_State_rickMaskWrite {s0 s : State} (n : Nat) (v : List Sys2Proof.Byte) (h : Keeps s0 s) :
    Keeps s0 (State.rickMaskWrite s n v).1 := by
  unfold State.rickMaskWrite
  with_reducible repeat' (first | assumption | intro _ | apply keeps_State_maskTakes | apply keeps_State_cutRicks | apply keeps_ite | apply keeps_ite_fst)

theorem keeps_State_setkeyInstall {s0 s : State} (y1 : Nat) (v : List Sys2Proof.Byte) (h : Keeps s0 s) :
    Keeps s0 (State.setkeyInstall s y1 v).1 := by
  unfold State.setkeyInstall
  with_reducible repeat' (first | assumption | intro _ | apply keeps_ite | apply keeps_ite_fst | apply keeps_forAll | apply keeps_foldl | apply keeps_foldl_fst | (apply keeps_of_fst; assumption) | (apply keeps_of_snd; assumption) | dsimp only | split | (apply keeps_mk; first | assumption | apply keeps_ite | apply keeps_forAll | apply keeps_foldl))

theorem keeps_State_setkeyRemove {s0 s : State} (y1 : Nat) (v : List Sys2Proof.Byte) (h : Keeps s0 s) :
    Keeps s0 (State.setkeyRemove s y1 v).1 := by
  unfold State.setkeyRemove
  with_reducible repeat' (first | assumption | intro _ | apply keeps_ite | apply keeps_ite_fst | apply keeps_forAll | apply keeps_foldl | apply keeps_foldl_fst | (apply keeps_of_fst; assumption) | (apply keeps_of_snd; assumption) | dsimp only | split | (apply keeps_mk; first | assumption | apply keeps_ite | apply keeps_forAll | apply keeps_foldl))

theorem keeps_State_svnCommit {s0 s : State}  (h : Keeps s0 s) :
    Keeps s0 (State.svnCommit s) := by
  unfold State.svnCommit
  with_reducible repeat' (first | assumption | intro _ | apply keeps_State_setBlob)

theorem keeps_State_tenantIdWrite {s0 s : State} (y1 : Nat) (v : List Sys2Proof.Byte) (h : Keeps s0 s) :
    Keeps s0 (State.tenantIdWrite s y1 v).1 := by
  unfold State.tenantIdWrite
  with_reducible repeat' (first | assumption | intro _ | apply keeps_State_setBlob | apply keeps_forAll | apply keeps_State_closeSession | apply keeps_ite | apply keeps_ite_fst | apply keeps_foldl | apply keeps_foldl_fst | (apply keeps_of_fst; assumption) | (apply keeps_of_snd; assumption) | dsimp only | split | (apply keeps_mk; first | assumption | apply keeps_State_setBlob | apply keeps_forAll | apply keeps_State_closeSession | apply keeps_ite | apply keeps_foldl))

theorem keeps_execAshOut {s0 s : State} (r : Sys2Proof.Rq) (v : List Sys2Proof.Byte) (flashOk : Bool) (h : Keeps s0 s) :
    KeepsOut s0 (execAshOut r v flashOk s) := by
  unfold execAshOut
  with_reducible repeat' (first | assumption | intro _ | apply keepsOut_next | apply keeps_State_command | apply keeps_State_ashOut)

theorem keeps_execAshOutCheck {s0 s : State} (n : Fin 12) (ok : Bool) (y2 : Nat) (h : Keeps s0 s) :
    KeepsOut s0 (execAshOutCheck n ok y2 s) := by
  unfold execAshOutCheck
  with_reducible repeat' (first | assumption | intro _ | apply keepsOut_next | apply keeps_State_at | apply keeps_State_onPart | apply keeps_State_ashBegin | apply keeps_State_raise | apply keeps_ite | apply keeps_ite_fst | apply keeps_forAll | apply keeps_foldl | apply keeps_foldl_fst | (apply keeps_of_fst; assumption) | (apply keeps_of_snd; assumption) | dsimp only | split)

theorem keeps_execAshOutEnd {s0 s : State} (n : Fin 12) (y1 : Nat) (h : Keeps s0 s) :
    KeepsOut s0 (execAshOutEnd n y1 s) := by
  unfold execAshOutEnd
  with_reducible repeat' (first | assumption | intro _ | apply keepsOut_next | apply keeps_State_ashZero | apply keeps_State_resyncPorts | apply keeps_State_giveFlush | apply keeps_State_idleBoundary | apply keeps_State_rechoose | apply keeps_State_raise | apply keeps_State_onPart | apply keeps_State_setNum | apply keeps_State_bumpBy | apply keeps_State_at | apply keeps_ite | apply keeps_ite_fst | apply keeps_forAll | apply keeps_foldl | apply keeps_foldl_fst | (apply keeps_of_fst; assumption) | (apply keeps_of_snd; assumption) | dsimp only | split)


theorem keeps_execAshOutZeroingStart {s0 s : State} (n : Fin 12) (y1 : Nat) (h : Keeps s0 s) :
    KeepsOut s0 (execAshOutZeroingStart n y1 s) := by
  unfold execAshOutZeroingStart
  with_reducible repeat' (first | assumption | intro _ | apply keepsOut_next | apply keeps_State_at | apply keeps_State_onPart | apply keeps_State_ashZero | apply keeps_ite | apply keeps_ite_fst | apply keeps_forAll | apply keeps_foldl | apply keeps_foldl_fst | (apply keeps_of_fst; assumption) | (apply keeps_of_snd; assumption) | dsimp only | split)

theorem keeps_execAttest {s0 s : State} (r : Sys2Proof.Rq) (n : Fin 12) (v : List Sys2Proof.Byte) (h : Keeps s0 s) :
    KeepsOut s0 (execAttest r n v s) := by
  unfold execAttest
  with_reducible repeat' (first | assumption | intro _ | apply keepsOut_next | apply keeps_State_command | apply keeps_State_setBlob)

theorem keeps_execConsent {s0 s : State} (r : Sys2Proof.Rq) (n : Fin 12) (v : List Sys2Proof.Byte) (h : Keeps s0 s) :
    KeepsOut s0 (execConsent r n v s) := by
  unfold execConsent
  with_reducible repeat' (first | assumption | intro _ | apply keepsOut_next | apply keeps_State_write | apply keeps_State_consentWrite)

theorem keeps_execCredAdd {s0 s : State} (r : Sys2Proof.Rq) (ts : Fin 12) (v : List Sys2Proof.Byte) (h : Keeps s0 s) :
    KeepsOut s0 (execCredAdd r ts v s) := by
  unfold execCredAdd
  with_reducible repeat' (first | assumption | intro _ | apply keepsOut_next | apply keeps_State_write | apply keeps_State_credAdd)

theorem keeps_execCredRemove {s0 s : State} (r : Sys2Proof.Rq) (ts : Fin 12) (v : List Sys2Proof.Byte) (h : Keeps s0 s) :
    KeepsOut s0 (execCredRemove r ts v s) := by
  unfold execCredRemove
  with_reducible repeat' (first | assumption | intro _ | apply keepsOut_next | apply keeps_State_write | apply keeps_State_credRemove)

theorem keeps_execFwSvnCommit {s0 s : State} (r : Sys2Proof.Rq) (h : Keeps s0 s) :
    KeepsOut s0 (execFwSvnCommit r s) := by
  unfold execFwSvnCommit
  with_reducible repeat' (first | assumption | intro _ | apply keepsOut_next | apply keeps_State_command | apply keeps_State_svnCommit)

theorem keeps_execModuleAttest {s0 s : State} (r : Sys2Proof.Rq) (v : List Sys2Proof.Byte) (h : Keeps s0 s) :
    KeepsOut s0 (execModuleAttest r v s) := by
  unfold execModuleAttest
  with_reducible repeat' (first | assumption | intro _ | apply keepsOut_next | apply keeps_State_command | apply keeps_State_setBlob)

theorem keeps_execObjInstall {s0 s : State} (r : Sys2Proof.Rq) (h : Keeps s0 s) :
    KeepsOut s0 (execObjInstall r s) := by
  unfold execObjInstall
  with_reducible repeat' (first | assumption | intro _ | apply keepsOut_next | apply keeps_State_command | apply keeps_State_objInstall)

theorem keeps_execOpCredAdd {s0 s : State} (r : Sys2Proof.Rq) (v : List Sys2Proof.Byte) (h : Keeps s0 s) :
    KeepsOut s0 (execOpCredAdd r v s) := by
  unfold execOpCredAdd
  with_reducible repeat' (first | assumption | intro _ | apply keepsOut_next | apply keeps_State_write | apply keeps_State_opCredAdd)

theorem keeps_execOpCredRemove {s0 s : State} (r : Sys2Proof.Rq) (v : List Sys2Proof.Byte) (h : Keeps s0 s) :
    KeepsOut s0 (execOpCredRemove r v s) := by
  unfold execOpCredRemove
  with_reducible repeat' (first | assumption | intro _ | apply keepsOut_next | apply keeps_State_write | apply keeps_State_opCredRemove)

theorem keeps_execPartTenant {s0 s : State} (r : Sys2Proof.Rq) (n : Fin 12) (v : List Sys2Proof.Byte) (h : Keeps s0 s) :
    KeepsOut s0 (execPartTenant r n v s) := by
  unfold execPartTenant
  with_reducible repeat' (first | assumption | intro _ | apply keepsOut_next | apply keeps_State_write | apply keeps_State_partTenantWrite)

theorem keeps_execRickMask {s0 s : State} (r : Sys2Proof.Rq) (n : Fin 12) (v : List Sys2Proof.Byte) (h : Keeps s0 s) :
    KeepsOut s0 (execRickMask r n v s) := by
  unfold execRickMask
  with_reducible repeat' (first | assumption | intro _ | apply keepsOut_next | apply keeps_State_write | apply keeps_State_rickMaskWrite)

theorem keeps_execSetkeyInstall {s0 s : State} (r : Sys2Proof.Rq) (ts : Fin 12) (v : List Sys2Proof.Byte) (h : Keeps s0 s) :
    KeepsOut s0 (execSetkeyInstall r ts v s) := by
  unfold execSetkeyInstall
  with_reducible repeat' (first | assumption | intro _ | apply keepsOut_next | apply keeps_State_write | apply keeps_State_setkeyInstall)

theorem keeps_execSetkeyRemove {s0 s : State} (r : Sys2Proof.Rq) (ts : Fin 12) (v : List Sys2Proof.Byte) (h : Keeps s0 s) :
    KeepsOut s0 (execSetkeyRemove r ts v s) := by
  unfold execSetkeyRemove
  with_reducible repeat' (first | assumption | intro _ | apply keepsOut_next | apply keeps_State_write | apply keeps_State_setkeyRemove)

theorem keeps_execTenantId {s0 s : State} (r : Sys2Proof.Rq) (ts : Fin 12) (v : List Sys2Proof.Byte) (h : Keeps s0 s) :
    KeepsOut s0 (execTenantId r ts v s) := by
  unfold execTenantId
  with_reducible repeat' (first | assumption | intro _ | apply keepsOut_next | apply keeps_State_write | apply keeps_State_tenantIdWrite)

end Sys2Proof.Laws
end

