-- ==== Sys2Proof/Laws/KeepsService.lean ====
section
/-!
SUPPORT. Every operation of Machine/Service.lean keeps the queue and the canonical memory.
-/
namespace Sys2Proof.Laws
open Sys2Proof.Machine

theorem keeps_State_bpHaltCmd {s0 s : State} (x : Session) (n : Nat) (h : Keeps s0 s) :
    Keeps s0 (State.bpHaltCmd s x n).1 := by
  unfold State.bpHaltCmd
  with_reducible repeat' (first | assumption | intro _ | apply keeps_State_bpHalt | apply keeps_ite | apply keeps_ite_fst)

theorem keeps_State_bpHearth {s0 s : State} (n : Nat) (v : List Sys2Proof.Byte) (h : Keeps s0 s) :
    Keeps s0 (State.bpHearth s n v).1 := by
  unfold State.bpHearth
  with_reducible repeat' (first | assumption | intro _ | apply keeps_State_plainWrite | apply keeps_ite | apply keeps_ite_fst)

theorem keeps_State_bpResume {s0 s : State} (n : Nat) (v : List Sys2Proof.Byte) (h : Keeps s0 s) :
    Keeps s0 (State.bpResume s n v).1 := by
  unfold State.bpResume
  with_reducible repeat' (first | assumption | intro _ | apply keeps_State_resume | apply keeps_ite | apply keeps_ite_fst)

theorem keeps_State_bpWrite {s0 s : State} (x : Session) (n : Nat) (v : List Sys2Proof.Byte) (h : Keeps s0 s) :
    Keeps s0 (State.bpWrite s x n v).1 := by
  unfold State.bpWrite
  with_reducible repeat' (first | assumption | intro _ | apply keeps_State_onPart | apply keeps_ite | apply keeps_ite_fst)

theorem keeps_State_fmStart {s0 s : State} (k : Nat) (h : Keeps s0 s) :
    Keeps s0 (State.fmStart s k).1 := by
  unfold State.fmStart
  with_reducible repeat' (first | assumption | intro _ | apply keeps_State_onRick | apply keeps_ite | apply keeps_ite_fst)

theorem keeps_State_haltLimit {s0 s : State} (n : Nat) (v : List Sys2Proof.Byte) (h : Keeps s0 s) :
    Keeps s0 (State.haltLimit s n v).1 := by
  unfold State.haltLimit
  with_reducible repeat' (first | assumption | intro _ | apply keeps_State_plainWrite | apply keeps_ite | apply keeps_ite_fst)

theorem keeps_State_kindlingEnd {s0 s : State} (v : List Sys2Proof.Byte) (h : Keeps s0 s) :
    Keeps s0 (State.kindlingEnd s v).1 := by
  unfold State.kindlingEnd
  with_reducible repeat' (first | assumption | intro _ | apply keeps_unloadJob | apply keeps_State_onJob | apply keeps_ite | apply keeps_ite_fst | apply keeps_forAll | apply keeps_foldl | apply keeps_foldl_fst | (apply keeps_of_fst; assumption) | (apply keeps_of_snd; assumption) | dsimp only | split | (apply keeps_mk; first | assumption | apply keeps_unloadJob | apply keeps_State_onJob | apply keeps_ite | apply keeps_forAll | apply keeps_foldl))

theorem keeps_State_kindlingPart {s0 s : State} (v : List Sys2Proof.Byte) (h : Keeps s0 s) :
    Keeps s0 (State.kindlingPart s v).1 := by
  unfold State.kindlingPart
  with_reducible repeat' (first | assumption | intro _ | apply keeps_State_setNum | apply keeps_State_dropKindling | apply keeps_ite | apply keeps_ite_fst)

theorem keeps_State_kindlingRicks {s0 s : State} (v : List Sys2Proof.Byte) (h : Keeps s0 s) :
    Keeps s0 (State.kindlingRicks s v).1 := by
  unfold State.kindlingRicks
  with_reducible repeat' (first | assumption | intro _ | apply keeps_State_plainWrite | apply keeps_ite | apply keeps_ite_fst)

theorem keeps_State_moduleLimit {s0 s : State} (v : List Sys2Proof.Byte) (h : Keeps s0 s) :
    Keeps s0 (State.moduleLimit s v).1 := by
  unfold State.moduleLimit
  with_reducible repeat' (first | assumption | intro _ | apply keeps_State_plainWrite | apply keeps_ite | apply keeps_ite_fst)

theorem keeps_State_partBudget {s0 s : State} (n : Nat) (v : List Sys2Proof.Byte) (h : Keeps s0 s) :
    Keeps s0 (State.partBudget s n v).1 := by
  unfold State.partBudget
  with_reducible repeat' (first | assumption | intro _ | apply keeps_State_plainWrite | apply keeps_ite | apply keeps_ite_fst)

theorem keeps_State_partClock {s0 s : State} (n : Nat) (v : List Sys2Proof.Byte) (h : Keeps s0 s) :
    Keeps s0 (State.partClock s n v).1 := by
  unfold State.partClock
  with_reducible repeat' (first | assumption | intro _ | apply keeps_State_setNum | apply keeps_State_requestClock | apply keeps_ite | apply keeps_ite_fst)

theorem keeps_State_resetHearthCmd {s0 s : State} (v : List Sys2Proof.Byte) (h : Keeps s0 s) :
    Keeps s0 (State.resetHearthCmd s v).1 := by
  unfold State.resetHearthCmd
  with_reducible repeat' (first | assumption | intro _ | apply keeps_State_resetHearth | apply keeps_ite | apply keeps_ite_fst)

theorem keeps_State_resetPart {s0 s : State} (x : Session) (v : List Sys2Proof.Byte) (h : Keeps s0 s) :
    Keeps s0 (State.resetPart s x v).1 := by
  unfold State.resetPart
  with_reducible repeat' (first | assumption | intro _ | apply keeps_State_resetPartition | apply keeps_ite | apply keeps_ite_fst)

theorem keeps_State_resetRickCmd {s0 s : State} (v : List Sys2Proof.Byte) (h : Keeps s0 s) :
    Keeps s0 (State.resetRickCmd s v).1 := by
  unfold State.resetRickCmd
  with_reducible repeat' (first | assumption | intro _ | apply keeps_State_resetRick | apply keeps_ite | apply keeps_ite_fst)

theorem keeps_State_snapshot {s0 s : State} (x : Session) (n : Nat) (v : List Sys2Proof.Byte) (h : Keeps s0 s) :
    Keeps s0 (State.snapshot s x n v).1 := by
  unfold State.snapshot
  with_reducible repeat' (first | assumption | intro _ | apply keeps_State_setBlob | apply keeps_ite | apply keeps_ite_fst)

theorem keeps_State_traceRegions {s0 s : State} (n : Nat) (len : Nat) (h : Keeps s0 s) :
    ∀ t, State.traceRegions s n len = some t → Keeps s0 t := by
  unfold State.traceRegions
  refine keeps_foldl_bind _ (fun s x t hs e => ?_) _ _ (fun t e => by cases e; exact h)
  split at e
  · cases e; exact keeps_State_setRegion _ _ _ hs
  · cases e


theorem keeps_State_traceBytes {s0 s : State} (n : Nat) (v : List Sys2Proof.Byte) (h : Keeps s0 s) :
    Keeps s0 (State.traceBytes s n v).1 := by
  unfold State.traceBytes
  dsimp only
  have h1 : Keeps s0 (forAll ((s.regionNums n).filter (fun g => rgClass (s.region n g) == 4)) (fun g s => s.eraseRegion n g) s) :=
    keeps_forAll _ _ (fun g s hs => keeps_State_eraseRegion _ _ hs) h
  split
  · exact h
  · split
    · exact h
    · split
      · exact keeps_State_setNum _ _ h1
      · split
        · exact h
        · next t e =>
          have h2 := keeps_State_traceRegions _ _ h1 t e
          split
          · exact keeps_State_wakePart _ _ (keeps_State_setNum _ _ h2)
          · exact h


theorem keeps_State_traceEnable {s0 s : State} (x : Session) (n : Nat) (v : List Sys2Proof.Byte) (h : Keeps s0 s) :
    Keeps s0 (State.traceEnable s x n v).1 := by
  unfold State.traceEnable
  with_reducible repeat' (first | assumption | intro _ | apply keeps_State_setNum | apply keeps_State_endTrace | apply keeps_State_wakePart | apply keeps_State_startTrace | apply keeps_ite | apply keeps_ite_fst)

theorem keeps_execBpHalt {s0 s : State} (r : Sys2Proof.Rq) (n : Fin 12) (h : Keeps s0 s) :
    KeepsOut s0 (execBpHalt r n s) := by
  unfold execBpHalt
  with_reducible repeat' (first | assumption | intro _ | apply keepsOut_next | apply keeps_State_command | apply keeps_State_bpHaltCmd)

theorem keeps_execBpRec {s0 s : State} (r : Sys2Proof.Rq) (n : Fin 12) (v : List Sys2Proof.Byte) (h : Keeps s0 s) :
    KeepsOut s0 (execBpRec r n v s) := by
  unfold execBpRec
  with_reducible repeat' (first | assumption | intro _ | apply keepsOut_next | apply keeps_State_write | apply keeps_State_bpWrite)

theorem keeps_execBpResume {s0 s : State} (r : Sys2Proof.Rq) (n : Fin 12) (v : List Sys2Proof.Byte) (h : Keeps s0 s) :
    KeepsOut s0 (execBpResume r n v s) := by
  unfold execBpResume
  with_reducible repeat' (first | assumption | intro _ | apply keepsOut_next | apply keeps_State_command | apply keeps_State_bpResume)

theorem keeps_execFmStart {s0 s : State} (r : Sys2Proof.Rq) (k : Fin 12) (h : Keeps s0 s) :
    KeepsOut s0 (execFmStart r k s) := by
  unfold execFmStart
  with_reducible repeat' (first | assumption | intro _ | apply keepsOut_next | apply keeps_State_command | apply keeps_State_fmStart)

theorem keeps_execKindlingEnd {s0 s : State} (r : Sys2Proof.Rq) (v : List Sys2Proof.Byte) (h : Keeps s0 s) :
    KeepsOut s0 (execKindlingEnd r v s) := by
  unfold execKindlingEnd
  with_reducible repeat' (first | assumption | intro _ | apply keepsOut_next | apply keeps_State_command | apply keeps_State_kindlingEnd)

theorem keeps_execKindlingPart {s0 s : State} (r : Sys2Proof.Rq) (v : List Sys2Proof.Byte) (h : Keeps s0 s) :
    KeepsOut s0 (execKindlingPart r v s) := by
  unfold execKindlingPart
  with_reducible repeat' (first | assumption | intro _ | apply keepsOut_next | apply keeps_State_write | apply keeps_State_kindlingPart)

theorem keeps_execNanClear {s0 s : State} (r : Sys2Proof.Rq) (n : Fin 12) (h : Keeps s0 s) :
    KeepsOut s0 (execNanClear r n s) := by
  unfold execNanClear
  with_reducible repeat' (first | assumption | intro _ | apply keepsOut_next | apply keeps_State_command | apply keeps_State_onPart)

theorem keeps_execPartBudgetW {s0 s : State} (r : Sys2Proof.Rq) (n : Fin 12) (v : List Sys2Proof.Byte) (h : Keeps s0 s) :
    KeepsOut s0 (execPartBudgetW r n v s) := by
  unfold execPartBudgetW
  with_reducible repeat' (first | assumption | intro _ | apply keepsOut_next | apply keeps_State_write | apply keeps_State_partBudget)

theorem keeps_execPartClockMhz {s0 s : State} (r : Sys2Proof.Rq) (n : Fin 12) (v : List Sys2Proof.Byte) (h : Keeps s0 s) :
    KeepsOut s0 (execPartClockMhz r n v s) := by
  unfold execPartClockMhz
  with_reducible repeat' (first | assumption | intro _ | apply keepsOut_next | apply keeps_State_write | apply keeps_State_partClock)

theorem keeps_execPerfClear {s0 s : State} (r : Sys2Proof.Rq) (n : Fin 12) (h : Keeps s0 s) :
    KeepsOut s0 (execPerfClear r n s) := by
  unfold execPerfClear
  with_reducible repeat' (first | assumption | intro _ | apply keepsOut_next | apply keeps_State_command | apply keeps_State_onPart)

theorem keeps_execResetHearth {s0 s : State} (r : Sys2Proof.Rq) (v : List Sys2Proof.Byte) (h : Keeps s0 s) :
    KeepsOut s0 (execResetHearth r v s) := by
  unfold execResetHearth
  with_reducible repeat' (first | assumption | intro _ | apply keepsOut_next | apply keeps_State_command | apply keeps_State_resetHearthCmd)

theorem keeps_execResetModule {s0 s : State} (r : Sys2Proof.Rq) (h : Keeps s0 s) :
    KeepsOut s0 (execResetModule r s) := by
  unfold execResetModule
  with_reducible repeat' (first | assumption | intro _ | apply keepsOut_next | apply keeps_State_command | apply keeps_State_moduleReset)

theorem keeps_execResetPartition {s0 s : State} (r : Sys2Proof.Rq) (v : List Sys2Proof.Byte) (h : Keeps s0 s) :
    KeepsOut s0 (execResetPartition r v s) := by
  unfold execResetPartition
  with_reducible repeat' (first | assumption | intro _ | apply keepsOut_next | apply keeps_State_command | apply keeps_State_resetPart)

theorem keeps_execResetRick {s0 s : State} (r : Sys2Proof.Rq) (v : List Sys2Proof.Byte) (h : Keeps s0 s) :
    KeepsOut s0 (execResetRick r v s) := by
  unfold execResetRick
  with_reducible repeat' (first | assumption | intro _ | apply keepsOut_next | apply keeps_State_command | apply keeps_State_resetRickCmd)

theorem keeps_execSnapshot {s0 s : State} (r : Sys2Proof.Rq) (n : Fin 12) (v : List Sys2Proof.Byte) (h : Keeps s0 s) :
    KeepsOut s0 (execSnapshot r n v s) := by
  unfold execSnapshot
  with_reducible repeat' (first | assumption | intro _ | apply keepsOut_next | apply keeps_State_command | apply keeps_State_snapshot)

theorem keeps_execTraceBytes {s0 s : State} (r : Sys2Proof.Rq) (n : Fin 12) (v : List Sys2Proof.Byte) (h : Keeps s0 s) :
    KeepsOut s0 (execTraceBytes r n v s) := by
  unfold execTraceBytes
  with_reducible repeat' (first | assumption | intro _ | apply keepsOut_next | apply keeps_State_write | apply keeps_State_traceBytes)

theorem keeps_execTraceEnable {s0 s : State} (r : Sys2Proof.Rq) (n : Fin 12) (v : List Sys2Proof.Byte) (h : Keeps s0 s) :
    KeepsOut s0 (execTraceEnable r n v s) := by
  unfold execTraceEnable
  with_reducible repeat' (first | assumption | intro _ | apply keepsOut_next | apply keeps_State_write | apply keeps_State_traceEnable)

theorem keeps_execTraceTrigger {s0 s : State} (r : Sys2Proof.Rq) (n : Fin 12) (h : Keeps s0 s) :
    KeepsOut s0 (execTraceTrigger r n s) := by
  unfold execTraceTrigger
  with_reducible repeat' (first | assumption | intro _ | apply keepsOut_next | apply keeps_State_command | apply keeps_State_trigger)

theorem keeps_execWake {s0 s : State} (r : Sys2Proof.Rq) (n : Fin 12) (h : Keeps s0 s) :
    KeepsOut s0 (execWake r n s) := by
  unfold execWake
  with_reducible repeat' (first | assumption | intro _ | apply keepsOut_next | apply keeps_State_command | apply keeps_State_wakePart)

end Sys2Proof.Laws
end

