-- ==== Sys2Proof/Laws/KeepsEntry.lean ====
section
/-!
SUPPORT. Every operation of Machine/Entry.lean keeps the queue and the canonical memory.
-/
namespace Sys2Proof.Laws
open Sys2Proof.Machine

theorem keeps_State_blobUpTo {s0 s : State} (key : Nat) (most : Nat) (v : List Sys2Proof.Byte) (h : Keeps s0 s) :
    Keeps s0 (State.blobUpTo s key most v).1 := by
  unfold State.blobUpTo
  with_reducible repeat' (first | assumption | intro _ | apply keeps_State_plainWrite | apply keeps_ite | apply keeps_ite_fst)

theorem keeps_State_ethMode {s0 s : State} (n : Nat) (v : List Sys2Proof.Byte) (h : Keeps s0 s) :
    Keeps s0 (State.ethMode s n v).1 := by
  unfold State.ethMode
  with_reducible repeat' (first | assumption | intro _ | apply keeps_State_plainWrite | apply keeps_ite | apply keeps_ite_fst)

set_option maxRecDepth 100000 in
theorem keeps_State_putPartTiers {s0 s : State} (n : Nat) (base : Nat) (sub : Nat) (v : List Sys2Proof.Byte) (h : Keeps s0 s) :
    ∀ t, State.putPartTiers s n base sub v = some t → Keeps s0 t.1 := by
  fun_cases State.putPartTiers s n base sub v <;> (intro t e; first | (cases e; done) | (simp only [Option.some.injEq] at e; subst e; first | exact keeps_State_ethMode _ _ h | exact keeps_State_connWrite _ _ h | exact keeps_State_partBudget _ _ h | exact keeps_State_partClock _ _ h | exact keeps_State_regionDelete _ _ h | exact keeps_State_wsetSources _ _ h | exact keeps_State_epochSwitch _ _ h | exact keeps_State_kvModelsWrite _ _ h | exact keeps_State_kvPoolWrite _ _ h | exact keeps_State_handleRelease _ _ h))


set_option maxRecDepth 100000 in
theorem keeps_State_putPartWork {s0 s : State} (n : Nat) (base : Nat) (sub : Nat) (v : List Sys2Proof.Byte) (h : Keeps s0 s) :
    ∀ t, State.putPartWork s n base sub v = some t → Keeps s0 t.1 := by
  fun_cases State.putPartWork s n base sub v <;> (intro t e; first | (cases e; done) | (simp only [Option.some.injEq] at e; subst e; first | exact keeps_State_rickMaskWrite _ _ h | exact keeps_State_partTenantWrite _ _ h | exact keeps_State_slicePlanWrite _ _ h | exact keeps_State_queueMapWrite _ _ h | exact keeps_State_jobDrain _ _ h | exact keeps_State_tctPairsWrite _ _ h | exact keeps_State_tctRegionsWrite _ _ h | exact keeps_State_ringWrite64 _ _ h | exact keeps_State_auditRegionWrite _ _ h | exact keeps_State_evidRegionWrite _ _ h | exact keeps_State_evidGroupsWrite _ _ h))


set_option maxRecDepth 100000 in
theorem keeps_State_putPartFabric {s0 s : State} (n : Nat) (base : Nat) (sub : Nat) (v : List Sys2Proof.Byte) (h : Keeps s0 s) :
    ∀ t, State.putPartFabric s n base sub v = some t → Keeps s0 t.1 := by
  fun_cases State.putPartFabric s n base sub v <;> (intro t e; first | (cases e; done) | (simp only [Option.some.injEq] at e; subst e; first | exact keeps_State_groupWrite _ _ h | exact keeps_State_groupSlotsWrite _ _ h | exact keeps_State_bufferReg _ _ h | exact keeps_State_bufferDereg _ _ h | exact keeps_State_windowWrite _ _ h | exact keeps_State_trigAllocWrite _ _ h | exact keeps_State_trigRingWrite _ _ h | exact keeps_State_armOps _ _ h | exact keeps_State_idleWrite _ _ _ _ h | exact keeps_State_lrResume _ _ h | exact keeps_State_lstatsRegionWrite _ _ h))


set_option maxRecDepth 100000 in
theorem keeps_State_putPartTools {s0 s : State} (x : Session) (n : Nat) (base : Nat) (sub : Nat) (v : List Sys2Proof.Byte) (h : Keeps s0 s) :
    ∀ t, State.putPartTools s x n base sub v = some t → Keeps s0 t.1 := by
  fun_cases State.putPartTools s x n base sub v <;> (intro t e; first | (cases e; done) | (simp only [Option.some.injEq] at e; subst e; first | exact keeps_State_consentWrite _ _ h | exact keeps_State_traceBytes _ _ h | exact keeps_State_traceEnable _ _ _ h | exact keeps_State_bpHearth _ _ h | exact keeps_State_bpWrite _ _ _ h | exact keeps_State_haltLimit _ _ h))


theorem keeps_State_putPart {s0 s : State} (x : Session) (n : Nat) (base : Nat) (sub : Nat) (v : List Sys2Proof.Byte) (h : Keeps s0 s) :
    ∀ t, State.putPart s x n base sub v = some t → Keeps s0 t.1 := by
  unfold State.putPart
  split
  · exact keeps_State_putPartTiers _ _ _ _ h
  · split
    · exact keeps_State_putPartWork _ _ _ _ h
    · split
      · exact keeps_State_putPartFabric _ _ _ _ h
      · exact keeps_State_putPartTools _ _ _ _ _ h


set_option maxRecDepth 100000 in
theorem keeps_State_putUnit {s0 s : State} (x : Session) (k : Nat) (base : Nat) (sub : Nat) (v : List Sys2Proof.Byte) (h : Keeps s0 s) :
    ∀ t, State.putUnit s x k base sub v = some t → Keeps s0 t.1 := by
  fun_cases State.putUnit s x k base sub v <;> (intro t e; first | (cases e; done) | (simp only [Option.some.injEq] at e; subst e; first | exact keeps_State_ethEnable _ _ h | exact keeps_State_ethOwnersWrite _ _ h | exact keeps_State_quotaWrite _ _ _ h | exact keeps_State_tenantIdWrite _ _ h | exact keeps_State_portEnable _ _ h | exact keeps_State_expectPeer _ _ h | exact keeps_State_txOwnersWrite _ _ h | exact keeps_State_rxOwnersWrite _ _ h | exact keeps_State_credAdd _ _ _ h | exact keeps_State_credRemove _ _ h | exact keeps_State_setkeyInstall _ _ h | exact keeps_State_setkeyRemove _ _ h))


theorem keeps_State_unusedRicks {s0 s : State} (v : List Sys2Proof.Byte) (h : Keeps s0 s) :
    Keeps s0 (State.unusedRicks s v).1 := by
  unfold State.unusedRicks
  with_reducible repeat' (first | assumption | intro _ | apply keeps_State_plainWrite | apply keeps_forAll | apply keeps_State_onRick | apply keeps_ite | apply keeps_ite_fst | apply keeps_foldl | apply keeps_foldl_fst | (apply keeps_of_fst; assumption) | (apply keeps_of_snd; assumption) | dsimp only | split | (apply keeps_mk; first | assumption | apply keeps_State_plainWrite | apply keeps_forAll | apply keeps_State_onRick | apply keeps_ite | apply keeps_foldl))

theorem keeps_State_refActive {s0 s : State} (v : List Sys2Proof.Byte) (h : Keeps s0 s) :
    Keeps s0 (State.refActive s v).1 := by
  unfold State.refActive
  with_reducible repeat' (first | assumption | intro _ | apply keeps_State_plainWrite | apply keeps_ite)

set_option maxRecDepth 100000 in
theorem keeps_State_putModule {s0 s : State} (base : Nat) (sub : Nat) (v : List Sys2Proof.Byte) (h : Keeps s0 s) :
    ∀ t, State.putModule s base sub v = some t → Keeps s0 t.1 := by
  fun_cases State.putModule s base sub v <;> (intro t e; first | (cases e; done) | (simp only [Option.some.injEq] at e; subst e; first | exact keeps_State_moduleLimit _ h | exact keeps_State_unusedRicks _ h | exact keeps_State_refActive _ h | exact keeps_State_opCredAdd _ h | exact keeps_State_opCredRemove _ h | exact keeps_State_kindlingPart _ h | exact keeps_State_kindlingRicks _ h | exact keeps_State_blobUpTo _ _ _ h))


theorem keeps_State_putEntry {s0 s : State} (x : Session) (key : Nat) (v : List Sys2Proof.Byte) (h : Keeps s0 s) :
    Keeps s0 (State.putEntry s x key v).1 := by
  unfold State.putEntry
  split
  · exact h
  · dsimp only
    split
    · exact keeps_State_regionCreate _ _ h
    · split
      · next e =>
        rcases ho : s.putPart x _ _ _ v with _ | a
        · rw [ho] at e
          rcases hu : s.putUnit x _ _ _ v with _ | a
          · rw [hu] at e; exact keeps_State_putModule _ _ _ h _ e
          · rw [hu] at e; cases e; exact keeps_State_putUnit _ _ _ _ _ h _ hu
        · rw [ho] at e; cases e; exact keeps_State_putPart _ _ _ _ _ h _ ho
      · exact keeps_State_plainWrite _ _ h


theorem keeps_State_putChecked {s0 s : State} (x : Session) (key : Nat) (v : List Sys2Proof.Byte) (blocks : Bool) (h : Keeps s0 s) :
    Keeps s0 (State.putChecked s x key v blocks).1 := by
  unfold State.putChecked
  with_reducible repeat' (first | assumption | intro _ | apply keeps_State_putEntry | apply keeps_ite | apply keeps_ite_fst)

theorem keeps_State_setupWrite {s0 s : State} (x : Session) (key : Nat) (v : List Sys2Proof.Byte) (h : Keeps s0 s) :
    Keeps s0 (State.setupWrite s x key v).1 := by
  unfold State.setupWrite
  dsimp only
  split
  · exact h
  · have k := keeps_State_putChecked x key v true h
    split
    · next e => rw [e] at k; exact keeps_State_rechoose k
    · exact h
    · exact h


theorem keeps_State_setupAll {s0 s : State} (x : Session) (y2 : List (Nat × List Sys2Proof.Byte)) (h : Keeps s0 s) :
    Keeps s0 (State.setupAll s x y2).1 := by
  induction y2 generalizing s x with
  | nil => rw [State.setupAll]; with_reducible repeat' assumption
  | cons x r ih =>
    rw [State.setupAll]
    with_reducible repeat' (first | assumption | intro _ | apply ih | apply keeps_State_setupWrite | apply keeps_ite | apply keeps_ite_fst | apply keeps_forAll | apply keeps_foldl | apply keeps_foldl_fst | (apply keeps_of_fst; assumption) | (apply keeps_of_snd; assumption) | dsimp only | split)


theorem keeps_State_kindleSet {s0 s : State} (n : Nat) (h : Keeps s0 s) :
    Keeps s0 (State.kindleSet s n).1 := by
  unfold State.kindleSet
  with_reducible repeat' (first | assumption | intro _ | apply keeps_State_setBlob | apply keeps_State_setNum | apply keeps_State_wsetRegister | apply keeps_State_wsetSources | apply keeps_ite | apply keeps_ite_fst | apply keeps_forAll | apply keeps_foldl | apply keeps_foldl_fst | (apply keeps_of_fst; assumption) | (apply keeps_of_snd; assumption) | dsimp only | split)

theorem keeps_State_kindleJob {s0 s : State} (n : Nat) (h : Keeps s0 s) :
    Keeps s0 (State.kindleJob s n) := by
  unfold State.kindleJob
  with_reducible repeat' (first | assumption | intro _ | apply keeps_State_failKindling | apply keeps_State_loadImage | apply keeps_State_epochSwitch | apply keeps_State_idleBoundary | apply keeps_ite | apply keeps_ite_fst | apply keeps_forAll | apply keeps_foldl | apply keeps_foldl_fst | (apply keeps_of_fst; assumption) | (apply keeps_of_snd; assumption) | dsimp only | split | (apply keeps_mk; first | assumption | apply keeps_State_failKindling | apply keeps_State_loadImage | apply keeps_State_epochSwitch | apply keeps_State_idleBoundary | apply keeps_ite | apply keeps_forAll | apply keeps_foldl))

theorem keeps_State_kindle {s0 s : State} (n : Nat) (h : Keeps s0 s) :
    Keeps s0 (State.kindle s n) := by
  unfold State.kindle
  with_reducible repeat' (first | assumption | intro _ | apply keeps_State_failKindling | apply keeps_State_setupAll | apply keeps_State_kindleSet | apply keeps_State_wsetFetch | apply keeps_State_kindleJob | apply keeps_ite | apply keeps_ite_fst | apply keeps_forAll | apply keeps_foldl | apply keeps_foldl_fst | (apply keeps_of_fst; assumption) | (apply keeps_of_snd; assumption) | dsimp only | split)

theorem keeps_State_stageBlock {s0 s : State} (ses : Nat) (x : Session) (key : Nat) (off : Nat) (first : Bool) (last : Bool) (v : List Sys2Proof.Byte) (h : Keeps s0 s) :
    Keeps s0 (State.stageBlock s ses x key off first last v).1 := by
  unfold State.stageBlock
  with_reducible repeat' (first | assumption | intro _ | apply keeps_State_onSession | apply keeps_ite | apply keeps_ite_fst | apply keeps_forAll | apply keeps_foldl | apply keeps_foldl_fst | (apply keeps_of_fst; assumption) | (apply keeps_of_snd; assumption) | dsimp only | split)

theorem keeps_execKindlingStart {s0 s : State} (y0 : Nat) (h : Keeps s0 s) :
    KeepsOut s0 (execKindlingStart y0 s) := by
  unfold execKindlingStart
  with_reducible repeat' (first | assumption | intro _ | apply keepsOut_next | apply keeps_State_at | apply keeps_State_setBlob | apply keeps_State_kindle | apply keeps_State_setKindling | apply keeps_ite)

theorem keeps_execRegisterWrite {s0 s : State} (r : Sys2Proof.Rq) (idx : Nat) (sub : Nat) (v : List Sys2Proof.Byte) (h : Keeps s0 s) :
    KeepsOut s0 (execRegisterWrite r idx sub v s) := by
  exact keepsOut_next (keeps_State_request _ _ _ _ (fun x s hs => keeps_State_settleOr _ hs (keeps_State_putChecked _ _ _ _ hs)) h)


theorem keeps_execWriteBlock {s0 s : State} (r : Sys2Proof.Rq) (idx : Nat) (sub : Nat) (off : Nat) (first : Bool) (last : Bool) (v : List Sys2Proof.Byte) (h : Keeps s0 s) :
    KeepsOut s0 (execWriteBlock r idx sub off first last v s) := by
  unfold execWriteBlock
  with_reducible repeat' (first | assumption | intro _ | apply keepsOut_next | apply keeps_State_request | apply keeps_State_stageBlock | apply keeps_State_settleOr | apply keeps_State_putChecked | apply keeps_ite | apply keeps_ite_fst | apply keeps_forAll | apply keeps_foldl | apply keeps_foldl_fst | (apply keeps_of_fst; assumption) | (apply keeps_of_snd; assumption) | dsimp only | split)

end Sys2Proof.Laws
end

