-- ==== Sys2Proof/Laws/KeepsKv.lean ====
section
/-!
SUPPORT. Every operation of Machine/Kv.lean keeps the queue and the canonical memory.
-/
namespace Sys2Proof.Laws
open Sys2Proof.Machine

theorem keeps_State_kvEntry {s0 s : State} (n : Nat) (k : Nat) (list : Nat) (m : Nat) (l : Nat) (p : Nat) (r : List Sys2Proof.Byte) (h : Keeps s0 s) :
    Keeps s0 (State.kvEntry s n k list m l p r).1 := by
  unfold State.kvEntry
  with_reducible repeat' (first | assumption | intro _ | apply keeps_State_cacheLost | apply keeps_State_poisonKvPage | apply keeps_ite | apply keeps_ite_fst | apply keeps_forAll | apply keeps_foldl | apply keeps_foldl_fst | (apply keeps_of_fst; assumption) | (apply keeps_of_snd; assumption) | dsimp only | split)

theorem keeps_State_kvEntries {s0 s : State} (n : Nat) (k : Nat) (list : Nat) (m : Nat) (l : Nat) (r : List Sys2Proof.Byte) (p : Nat) (y8 : Nat) (h : Keeps s0 s) :
    Keeps s0 (State.kvEntries s n k list m l r p y8).1 := by
  induction y8 generalizing s n k list m l r p with
  | zero => rw [State.kvEntries]; with_reducible repeat' assumption
  | succ f ih =>
    rw [State.kvEntries]
    with_reducible repeat' (first | assumption | intro _ | apply ih | apply keeps_State_kvEntry | apply keeps_ite | apply keeps_ite_fst | apply keeps_forAll | apply keeps_foldl | apply keeps_foldl_fst | (apply keeps_of_fst; assumption) | (apply keeps_of_snd; assumption) | dsimp only | split)


theorem keeps_State_kvNote {s0 s : State} (n : Nat) (l : Nat) (o : Op) (h : Keeps s0 s) :
    Keeps s0 (State.kvNote s n l o) := by
  unfold State.kvNote
  with_reducible repeat' (first | assumption | intro _ | apply keeps_State_onPart)

theorem keeps_State_kvWrite {s0 s : State} (n : Nat) (k : Nat) (list : Nat) (m : Nat) (l : Nat) (r : List Sys2Proof.Byte) (y7 : Nat) (y8 : Nat) (y9 : List (List Sys2Proof.Byte)) (y10 : Nat) (h : Keeps s0 s) :
    Keeps s0 (State.kvWrite s n k list m l r y7 y8 y9 y10).1 := by
  induction y7 generalizing s y8 y9 y10 with
  | zero => rw [State.kvWrite]; exact h
  | succ f ih =>
    cases y9 with
    | nil => rw [State.kvWrite]; exact h; simp
    | cons b bs =>
      rw [State.kvWrite]
      · have k := keeps_State_privatePage n k list m l y8 r h
        split
        · next e => rw [e] at k; exact k
        · next e => rw [e] at k; exact ih _ _ _ (keeps_State_store _ _ k)
      · simp


theorem keeps_kvPaddedSummary {s0 s : State}  (h : Keeps s0 s) :
    Keeps s0 (kvPaddedSummary s).2 := by
  unfold kvPaddedSummary
  with_reducible repeat' (first | assumption | intro _ | apply keeps_State_draw)

theorem keeps_kvStart {s0 s : State} (g : Nat) (opc : Nat) (busy : List Sys2Proof.Byte → List Sys2Proof.Byte → Nat) (lat : Nat) (f : State → Nat → Nat → Op → State × Result) (kf : ∀ z0 z1 z2 z3, Keeps s0 z0 → Keeps s0 (f z0 z1 z2 z3).1) (h : Keeps s0 s) :
    Keeps s0 (kvStart s g opc busy lat f) := by
  unfold kvStart
  with_reducible repeat' (first | assumption | intro _ | apply keeps_engStart | apply keeps_kvPaddedSummary | apply keeps_State_readDir | apply kf | apply keeps_ite | apply keeps_ite_fst | apply keeps_forAll | apply keeps_foldl | apply keeps_foldl_fst | (apply keeps_of_fst; assumption) | (apply keeps_of_snd; assumption) | dsimp only | split)

theorem keeps_execAccept {s0 s : State} (g : Fin 216) (h : Keeps s0 s) :
    KeepsOut s0 (execAccept g s) := by
  unfold execAccept
  with_reducible repeat' (first | assumption | intro _ | apply keepsOut_next | apply keeps_kvStart | apply keeps_State_kvNote | apply keeps_State_setDir | apply keeps_ite | apply keeps_ite_fst)

theorem keeps_execAttach {s0 s : State} (g : Fin 216) (h : Keeps s0 s) :
    KeepsOut s0 (execAttach g s) := by
  unfold execAttach
  with_reducible repeat' (first | assumption | intro _ | apply keepsOut_next | apply keeps_kvStart | apply keeps_State_kvNote | apply keeps_State_readDir | apply keeps_forAll | apply keeps_State_incRef | apply keeps_State_setDir | apply keeps_State_onPart | apply keeps_State_onRx | apply keeps_ite | apply keeps_ite_fst | apply keeps_foldl | apply keeps_foldl_fst | (apply keeps_of_fst; assumption) | (apply keeps_of_snd; assumption) | dsimp only | split | (apply keeps_mk; first | assumption | apply keeps_kvStart | apply keeps_State_kvNote | apply keeps_State_readDir | apply keeps_forAll | apply keeps_State_incRef | apply keeps_State_setDir | apply keeps_State_onPart | apply keeps_State_onRx | apply keeps_ite | apply keeps_foldl))

theorem keeps_execGather {s0 s : State} (g : Fin 216) (h : Keeps s0 s) :
    KeepsOut s0 (execGather g s) := by
  unfold execGather
  with_reducible repeat' (first | assumption | intro _ | apply keepsOut_next | apply keeps_kvStart | apply keeps_State_kvEntries | apply keeps_ite | apply keeps_ite_fst | apply keeps_forAll | apply keeps_foldl | apply keeps_foldl_fst | (apply keeps_of_fst; assumption) | (apply keeps_of_snd; assumption) | dsimp only | split)

theorem keeps_execKvAppend {s0 s : State} (g : Fin 216) (h : Keeps s0 s) :
    KeepsOut s0 (execKvAppend g s) := by
  unfold execKvAppend
  with_reducible repeat' (first | assumption | intro _ | apply keepsOut_next | apply keeps_kvStart | apply keeps_State_hreadCheck | apply keeps_State_kvWrite | apply keeps_State_onPart | apply keeps_ite | apply keeps_ite_fst | apply keeps_forAll | apply keeps_foldl | apply keeps_foldl_fst | (apply keeps_of_fst; assumption) | (apply keeps_of_snd; assumption) | dsimp only | split)

theorem keeps_execKvOpComplete {s0 s : State} (g : Fin 216) (c : Nat) (h : Keeps s0 s) :
    KeepsOut s0 (execKvOpComplete g c s) := by
  unfold execKvOpComplete
  with_reducible repeat' (first | assumption | intro _ | apply keepsOut_next | apply keeps_State_onHearth | apply keeps_State_fatalTrap | apply keeps_State_hwrites | apply keeps_State_scheduleFault | apply keeps_State_resumeCore | apply keeps_ite | apply keeps_ite_fst | apply keeps_forAll | apply keeps_foldl | apply keeps_foldl_fst | (apply keeps_of_fst; assumption) | (apply keeps_of_snd; assumption) | dsimp only | split)

theorem keeps_execSnap {s0 s : State} (g : Fin 216) (h : Keeps s0 s) :
    KeepsOut s0 (execSnap g s) := by
  unfold execSnap
  with_reducible repeat' (first | assumption | intro _ | apply keepsOut_next | apply keeps_kvStart | apply keeps_State_kvNote | apply keeps_forAll | apply keeps_State_incRef | apply keeps_State_setDir | apply keeps_State_onPart | apply keeps_State_onRx | apply keeps_ite | apply keeps_ite_fst | apply keeps_foldl | apply keeps_foldl_fst | (apply keeps_of_fst; assumption) | (apply keeps_of_snd; assumption) | dsimp only | split | (apply keeps_mk; first | assumption | apply keeps_kvStart | apply keeps_State_kvNote | apply keeps_forAll | apply keeps_State_incRef | apply keeps_State_setDir | apply keeps_State_onPart | apply keeps_State_onRx | apply keeps_ite | apply keeps_foldl))

end Sys2Proof.Laws
end

