-- ==== Sys2Proof/Laws/KeepsSampling.lean ====
section
/-!
SUPPORT. Every operation of Machine/Sampling.lean keeps the queue and the canonical memory.
-/
namespace Sys2Proof.Laws
open Sys2Proof.Machine

theorem keeps_execPenalize {s0 s : State} (g : Fin 216) (h : Keeps s0 s) :
    KeepsOut s0 (execPenalize g s) := by
  unfold execPenalize
  with_reducible repeat' (first | assumption | intro _ | apply keepsOut_next | apply keeps_engStart | apply keeps_State_hreadCheck)

theorem keeps_sampOp {s0 s : State} (g : Nat) (opc : Nat) (good : SampRow → List Sys2Proof.Byte) (h : Keeps s0 s) :
    Keeps s0 (sampOp s g opc good) := by
  unfold sampOp
  with_reducible repeat' (first | assumption | intro _ | apply keeps_engStart | apply keeps_State_draw | apply keeps_State_hreadCheck)

theorem keeps_execProbof {s0 s : State} (g : Fin 216) (h : Keeps s0 s) :
    KeepsOut s0 (execProbof g s) := by
  unfold execProbof
  with_reducible repeat' (first | assumption | intro _ | apply keepsOut_next | apply keeps_sampOp)

theorem keeps_execSelect {s0 s : State} (g : Fin 216) (h : Keeps s0 s) :
    KeepsOut s0 (execSelect g s) := by
  unfold execSelect
  with_reducible repeat' (first | assumption | intro _ | apply keepsOut_next | apply keeps_sampOp)

end Sys2Proof.Laws
end

