-- ==== Sys2Proof/Laws/KeepsIssue.lean ====
section
/-!
SUPPORT. Every operation of Machine/Issue.lean keeps the queue and the canonical memory.
-/
namespace Sys2Proof.Laws
open Sys2Proof.Machine

theorem keeps_State_issueOp {s0 s : State} (n : Nat) (g : Nat) (e : Nat) (w : Sys2Proof.W32) (d : List Sys2Proof.Byte) (h : Keeps s0 s) :
    Keeps s0 (State.issueOp s n g e w d) := by
  unfold State.issueOp
  with_reducible repeat' (first | assumption | intro _ | apply keeps_State_coreRecord | apply keeps_State_onHearth)

theorem keeps_execIssue {s0 s : State} (g : Fin 216) (h : Keeps s0 s) :
    KeepsOut s0 (execIssue g s) := by
  unfold execIssue
  with_reducible repeat' (first | assumption | intro _ | apply keepsOut_next | apply keeps_coreRun | apply keeps_State_coreTrap | apply keeps_State_watch | apply keeps_State_onHearth | apply keeps_State_scheduleFault | apply keeps_State_issueOp | apply keeps_State_fatalTrap | apply keeps_ite)

end Sys2Proof.Laws
end

