-- ==== Sys2Proof/Laws/KeepsStep.lean ====
section
/-!
SUPPORT. Every command keeps the queue behind it and the canonical memory: one lemma over all constructors.
-/
namespace Sys2Proof.Laws
open Sys2Proof.Machine

theorem keepsOut_of_eq {s0 : State} {a b : Host.Outcome State Fault Refusal} (e : a = b) (k : KeepsOut s0 b) : KeepsOut s0 a := e ▸ k

/-- A command leaves the rest of the queue as it is and the memory canonical. -/
theorem keeps_exec (c : Instr) (s : State) : KeepsOut s (exec c s) :=
  match c with
  | .add g => keepsOut_of_eq (exec_add g s) (keeps_execAdd g (keeps_refl s))
  | .sub g => keepsOut_of_eq (exec_sub g s) (keeps_execSub g (keeps_refl s))
  | .and g => keepsOut_of_eq (exec_and g s) (keeps_execAnd g (keeps_refl s))
  | .or g => keepsOut_of_eq (exec_or g s) (keeps_execOr g (keeps_refl s))
  | .xor g => keepsOut_of_eq (exec_xor g s) (keeps_execXor g (keeps_refl s))
  | .shl g => keepsOut_of_eq (exec_shl g s) (keeps_execShl g (keeps_refl s))
  | .shr g => keepsOut_of_eq (exec_shr g s) (keeps_execShr g (keeps_refl s))
  | .sar g => keepsOut_of_eq (exec_sar g s) (keeps_execSar g (keeps_refl s))
  | .mul g => keepsOut_of_eq (exec_mul g s) (keeps_execMul g (keeps_refl s))
  | .mulh g => keepsOut_of_eq (exec_mulh g s) (keeps_execMulh g (keeps_refl s))
  | .slt g => keepsOut_of_eq (exec_slt g s) (keeps_execSlt g (keeps_refl s))
  | .sltu g => keepsOut_of_eq (exec_sltu g s) (keeps_execSltu g (keeps_refl s))
  | .min g => keepsOut_of_eq (exec_min g s) (keeps_execMin g (keeps_refl s))
  | .max g => keepsOut_of_eq (exec_max g s) (keeps_execMax g (keeps_refl s))
  | .fadd g => keepsOut_of_eq (exec_fadd g s) (keeps_execFadd g (keeps_refl s))
  | .fsub g => keepsOut_of_eq (exec_fsub g s) (keeps_execFsub g (keeps_refl s))
  | .fmul g => keepsOut_of_eq (exec_fmul g s) (keeps_execFmul g (keeps_refl s))
  | .fmin g => keepsOut_of_eq (exec_fmin g s) (keeps_execFmin g (keeps_refl s))
  | .fmax g => keepsOut_of_eq (exec_fmax g s) (keeps_execFmax g (keeps_refl s))
  | .flt g => keepsOut_of_eq (exec_flt g s) (keeps_execFlt g (keeps_refl s))
  | .fcvti g => keepsOut_of_eq (exec_fcvti g s) (keeps_execFcvti g (keeps_refl s))
  | .fcvtf g => keepsOut_of_eq (exec_fcvtf g s) (keeps_execFcvtf g (keeps_refl s))
  | .addi g => keepsOut_of_eq (exec_addi g s) (keeps_execAddi g (keeps_refl s))
  | .andi g => keepsOut_of_eq (exec_andi g s) (keeps_execAndi g (keeps_refl s))
  | .ori g => keepsOut_of_eq (exec_ori g s) (keeps_execOri g (keeps_refl s))
  | .xori g => keepsOut_of_eq (exec_xori g s) (keeps_execXori g (keeps_refl s))
  | .shli g => keepsOut_of_eq (exec_shli g s) (keeps_execShli g (keeps_refl s))
  | .shri g => keepsOut_of_eq (exec_shri g s) (keeps_execShri g (keeps_refl s))
  | .sari g => keepsOut_of_eq (exec_sari g s) (keeps_execSari g (keeps_refl s))
  | .movh g => keepsOut_of_eq (exec_movh g s) (keeps_execMovh g (keeps_refl s))
  | .ld64 g => keepsOut_of_eq (exec_ld64 g s) (keeps_execLd64 g (keeps_refl s))
  | .ld32 g => keepsOut_of_eq (exec_ld32 g s) (keeps_execLd32 g (keeps_refl s))
  | .ld16 g => keepsOut_of_eq (exec_ld16 g s) (keeps_execLd16 g (keeps_refl s))
  | .ld8 g => keepsOut_of_eq (exec_ld8 g s) (keeps_execLd8 g (keeps_refl s))
  | .st64 g => keepsOut_of_eq (exec_st64 g s) (keeps_execSt64 g (keeps_refl s))
  | .st32 g => keepsOut_of_eq (exec_st32 g s) (keeps_execSt32 g (keeps_refl s))
  | .st16 g => keepsOut_of_eq (exec_st16 g s) (keeps_execSt16 g (keeps_refl s))
  | .st8 g => keepsOut_of_eq (exec_st8 g s) (keeps_execSt8 g (keeps_refl s))
  | .beq g => keepsOut_of_eq (exec_beq g s) (keeps_execBeq g (keeps_refl s))
  | .bne g => keepsOut_of_eq (exec_bne g s) (keeps_execBne g (keeps_refl s))
  | .blt g => keepsOut_of_eq (exec_blt g s) (keeps_execBlt g (keeps_refl s))
  | .bge g => keepsOut_of_eq (exec_bge g s) (keeps_execBge g (keeps_refl s))
  | .bltu g => keepsOut_of_eq (exec_bltu g s) (keeps_execBltu g (keeps_refl s))
  | .bgeu g => keepsOut_of_eq (exec_bgeu g s) (keeps_execBgeu g (keeps_refl s))
  | .jmp g => keepsOut_of_eq (exec_jmp g s) (keeps_execJmp g (keeps_refl s))
  | .jr g => keepsOut_of_eq (exec_jr g s) (keeps_execJr g (keeps_refl s))
  | .bsum g => keepsOut_of_eq (exec_bsum g s) (keeps_execBsum g (keeps_refl s))
  | .srd g => keepsOut_of_eq (exec_srd g s) (keeps_execSrd g (keeps_refl s))
  | .sflg g => keepsOut_of_eq (exec_sflg g s) (keeps_execSflg g (keeps_refl s))
  | .issue g => keepsOut_of_eq (exec_issue g s) (keeps_execIssue g (keeps_refl s))
  | .fence g => keepsOut_of_eq (exec_fence g s) (keeps_execFence g (keeps_refl s))
  | .waitc g => keepsOut_of_eq (exec_waitc g s) (keeps_execWaitc g (keeps_refl s))
  | .waitcRelease g => keepsOut_of_eq (exec_waitcRelease g s) (keeps_execWaitcRelease g (keeps_refl s))
  | .bar g => keepsOut_of_eq (exec_bar g s) (keeps_execBar g (keeps_refl s))
  | .barComplete n => keepsOut_of_eq (exec_barComplete n s) (keeps_execBarComplete n (keeps_refl s))
  | .poll g => keepsOut_of_eq (exec_poll g s) (keeps_execPoll g (keeps_refl s))
  | .csrr g => keepsOut_of_eq (exec_csrr g s) (keeps_execCsrr g (keeps_refl s))
  | .csrw g => keepsOut_of_eq (exec_csrw g s) (keeps_execCsrw g (keeps_refl s))
  | .note g => keepsOut_of_eq (exec_note g s) (keeps_execNote g (keeps_refl s))
  | .stepend g => keepsOut_of_eq (exec_stepend g s) (keeps_execStepend g (keeps_refl s))
  | .haltStop n t => keepsOut_of_eq (exec_haltStop n t s) (keeps_execHaltStop n t (keeps_refl s))
  | .rakingPieceStart n t => keepsOut_of_eq (exec_rakingPieceStart n t s) (keeps_execRakingPieceStart n t (keeps_refl s))
  | .rakingPieceEnd n t => keepsOut_of_eq (exec_rakingPieceEnd n t s) (keeps_execRakingPieceEnd n t (keeps_refl s))
  | .scheduleFault g unit slot => keepsOut_of_eq (exec_scheduleFault g unit slot s) (keeps_execScheduleFault g unit slot (keeps_refl s))
  | .mmul g => keepsOut_of_eq (exec_mmul g s) (keeps_execMmul g (keeps_refl s))
  | .mmulComplete g => keepsOut_of_eq (exec_mmulComplete g s) (keeps_execMmulComplete g (keeps_refl s))
  | .mmulWritebackEnd g => keepsOut_of_eq (exec_mmulWritebackEnd g s) (keeps_execMmulWritebackEnd g (keeps_refl s))
  | .linIn g => keepsOut_of_eq (exec_linIn g s) (keeps_execLinIn g (keeps_refl s))
  | .linOut g => keepsOut_of_eq (exec_linOut g s) (keeps_execLinOut g (keeps_refl s))
  | .skewIn g => keepsOut_of_eq (exec_skewIn g s) (keeps_execSkewIn g (keeps_refl s))
  | .skewLocal g => keepsOut_of_eq (exec_skewLocal g s) (keeps_execSkewLocal g (keeps_refl s))
  | .weightIn g => keepsOut_of_eq (exec_weightIn g s) (keeps_execWeightIn g (keeps_refl s))
  | .fill g => keepsOut_of_eq (exec_fill g s) (keeps_execFill g (keeps_refl s))
  | .layoutOpComplete g c => keepsOut_of_eq (exec_layoutOpComplete g c s) (keeps_execLayoutOpComplete g c (keeps_refl s))
  | .vectorAdd g => keepsOut_of_eq (exec_vectorAdd g s) (keeps_execVectorAdd g (keeps_refl s))
  | .vectorSub g => keepsOut_of_eq (exec_vectorSub g s) (keeps_execVectorSub g (keeps_refl s))
  | .vectorMul g => keepsOut_of_eq (exec_vectorMul g s) (keeps_execVectorMul g (keeps_refl s))
  | .vectorMax g => keepsOut_of_eq (exec_vectorMax g s) (keeps_execVectorMax g (keeps_refl s))
  | .vectorMin g => keepsOut_of_eq (exec_vectorMin g s) (keeps_execVectorMin g (keeps_refl s))
  | .axpy g => keepsOut_of_eq (exec_axpy g s) (keeps_execAxpy g (keeps_refl s))
  | .affine g => keepsOut_of_eq (exec_affine g s) (keeps_execAffine g (keeps_refl s))
  | .muls g => keepsOut_of_eq (exec_muls g s) (keeps_execMuls g (keeps_refl s))
  | .sel g => keepsOut_of_eq (exec_sel g s) (keeps_execSel g (keeps_refl s))
  | .abs g => keepsOut_of_eq (exec_abs g s) (keeps_execAbs g (keeps_refl s))
  | .exp g => keepsOut_of_eq (exec_exp g s) (keeps_execExp g (keeps_refl s))
  | .log g => keepsOut_of_eq (exec_log g s) (keeps_execLog g (keeps_refl s))
  | .recip g => keepsOut_of_eq (exec_recip g s) (keeps_execRecip g (keeps_refl s))
  | .rsqrt g => keepsOut_of_eq (exec_rsqrt g s) (keeps_execRsqrt g (keeps_refl s))
  | .sigm g => keepsOut_of_eq (exec_sigm g s) (keeps_execSigm g (keeps_refl s))
  | .silu g => keepsOut_of_eq (exec_silu g s) (keeps_execSilu g (keeps_refl s))
  | .reduceSum g => keepsOut_of_eq (exec_reduceSum g s) (keeps_execReduceSum g (keeps_refl s))
  | .sumsq g => keepsOut_of_eq (exec_sumsq g s) (keeps_execSumsq g (keeps_refl s))
  | .reduceMax g => keepsOut_of_eq (exec_reduceMax g s) (keeps_execReduceMax g (keeps_refl s))
  | .reduceMin g => keepsOut_of_eq (exec_reduceMin g s) (keeps_execReduceMin g (keeps_refl s))
  | .argmax g => keepsOut_of_eq (exec_argmax g s) (keeps_execArgmax g (keeps_refl s))
  | .topk g => keepsOut_of_eq (exec_topk g s) (keeps_execTopk g (keeps_refl s))
  | .cast g => keepsOut_of_eq (exec_cast g s) (keeps_execCast g (keeps_refl s))
  | .quantMx g => keepsOut_of_eq (exec_quantMx g s) (keeps_execQuantMx g (keeps_refl s))
  | .quantG16 g => keepsOut_of_eq (exec_quantG16 g s) (keeps_execQuantG16 g (keeps_refl s))
  | .compress g => keepsOut_of_eq (exec_compress g s) (keeps_execCompress g (keeps_refl s))
  | .expand g => keepsOut_of_eq (exec_expand g s) (keeps_execExpand g (keeps_refl s))
  | .constFill g => keepsOut_of_eq (exec_constFill g s) (keeps_execConstFill g (keeps_refl s))
  | .sinit g => keepsOut_of_eq (exec_sinit g s) (keeps_execSinit g (keeps_refl s))
  | .sacc g => keepsOut_of_eq (exec_sacc g s) (keeps_execSacc g (keeps_refl s))
  | .sout g => keepsOut_of_eq (exec_sout g s) (keeps_execSout g (keeps_refl s))
  | .penalize g => keepsOut_of_eq (exec_penalize g s) (keeps_execPenalize g (keeps_refl s))
  | .select g => keepsOut_of_eq (exec_select g s) (keeps_execSelect g (keeps_refl s))
  | .probof g => keepsOut_of_eq (exec_probof g s) (keeps_execProbof g (keeps_refl s))
  | .attn g => keepsOut_of_eq (exec_attn g s) (keeps_execAttn g (keeps_refl s))
  | .attnComplete g => keepsOut_of_eq (exec_attnComplete g s) (keeps_execAttnComplete g (keeps_refl s))
  | .gather g => keepsOut_of_eq (exec_gather g s) (keeps_execGather g (keeps_refl s))
  | .kvAppend g => keepsOut_of_eq (exec_kvAppend g s) (keeps_execKvAppend g (keeps_refl s))
  | .accept g => keepsOut_of_eq (exec_accept g s) (keeps_execAccept g (keeps_refl s))
  | .attach g => keepsOut_of_eq (exec_attach g s) (keeps_execAttach g (keeps_refl s))
  | .snap g => keepsOut_of_eq (exec_snap g s) (keeps_execSnap g (keeps_refl s))
  | .kvOpComplete g c => keepsOut_of_eq (exec_kvOpComplete g c s) (keeps_execKvOpComplete g c (keeps_refl s))
  | .engineOpComplete g e => keepsOut_of_eq (exec_engineOpComplete g e s) (keeps_execEngineOpComplete g e (keeps_refl s))
  | .stepBoundary n t => keepsOut_of_eq (exec_stepBoundary n t s) (keeps_execStepBoundary n t (keeps_refl s))
  | .rakePauseEnd n t => keepsOut_of_eq (exec_rakePauseEnd n t s) (keeps_execRakePauseEnd n t (keeps_refl s))
  | .switchWritebackDone n t => keepsOut_of_eq (exec_switchWritebackDone n t s) (keeps_execSwitchWritebackDone n t (keeps_refl s))
  | .slotMapsInForce n t => keepsOut_of_eq (exec_slotMapsInForce n t s) (keeps_execSlotMapsInForce n t (keeps_refl s))
  | .tierSCopyDone n t => keepsOut_of_eq (exec_tierSCopyDone n t s) (keeps_execTierSCopyDone n t (keeps_refl s))
  | .switchPrologueDone n t => keepsOut_of_eq (exec_switchPrologueDone n t s) (keeps_execSwitchPrologueDone n t (keeps_refl s))
  | .stepRecordDelivery n t => keepsOut_of_eq (exec_stepRecordDelivery n t s) (keeps_execStepRecordDelivery n t (keeps_refl s))
  | .boundaryRecord n t => keepsOut_of_eq (exec_boundaryRecord n t s) (keeps_execBoundaryRecord n t (keeps_refl s))
  | .queueMessageWrite n q stamp msg t => keepsOut_of_eq (exec_queueMessageWrite n q stamp msg t s) (keeps_execQueueMessageWrite n q stamp msg t (keeps_refl s))
  | .writeBackPage n t => keepsOut_of_eq (exec_writeBackPage n t s) (keeps_execWriteBackPage n t (keeps_refl s))
  | .kvReleaseUnit n t => keepsOut_of_eq (exec_kvReleaseUnit n t s) (keeps_execKvReleaseUnit n t (keeps_refl s))
  | .scrubUnit n t => keepsOut_of_eq (exec_scrubUnit n t s) (keeps_execScrubUnit n t (keeps_refl s))
  | .arrayCheckUnit n t => keepsOut_of_eq (exec_arrayCheckUnit n t s) (keeps_execArrayCheckUnit n t (keeps_refl s))
  | .calibrationUnit n t => keepsOut_of_eq (exec_calibrationUnit n t s) (keeps_execCalibrationUnit n t (keeps_refl s))
  | .agingMonitorUnit n t => keepsOut_of_eq (exec_agingMonitorUnit n t s) (keeps_execAgingMonitorUnit n t (keeps_refl s))
  | .telemetryUnit n t => keepsOut_of_eq (exec_telemetryUnit n t s) (keeps_execTelemetryUnit n t (keeps_refl s))
  | .digestRecheck n t => keepsOut_of_eq (exec_digestRecheck n t s) (keeps_execDigestRecheck n t (keeps_refl s))
  | .passOverdue n task t => keepsOut_of_eq (exec_passOverdue n task t s) (keeps_execPassOverdue n task t (keeps_refl s))
  | .backgroundWakeDue n t => keepsOut_of_eq (exec_backgroundWakeDue n t s) (keeps_execBackgroundWakeDue n t (keeps_refl s))
  | .channelMigrationUnit n t => keepsOut_of_eq (exec_channelMigrationUnit n t s) (keeps_execChannelMigrationUnit n t (keeps_refl s))
  | .rowRepair k t => keepsOut_of_eq (exec_rowRepair k t s) (keeps_execRowRepair k t (keeps_refl s))
  | .spareManifestStore ok t => keepsOut_of_eq (exec_spareManifestStore ok t s) (keeps_execSpareManifestStore ok t (keeps_refl s))
  | .channelFailure k ch t => keepsOut_of_eq (exec_channelFailure k ch t s) (keeps_execChannelFailure k ch t (keeps_refl s))
  | .substrateChannelFailure k ch t => keepsOut_of_eq (exec_substrateChannelFailure k ch t s) (keeps_execSubstrateChannelFailure k ch t (keeps_refl s))
  | .shardArrival n w shard data t => keepsOut_of_eq (exec_shardArrival n w shard data t s) (keeps_execShardArrival n w shard data t (keeps_refl s))
  | .refetchComplete n w shard ok t => keepsOut_of_eq (exec_refetchComplete n w shard ok t s) (keeps_execRefetchComplete n w shard ok t (keeps_refl s))
  | .holdLimitExpiry n w t => keepsOut_of_eq (exec_holdLimitExpiry n w t s) (keeps_execHoldLimitExpiry n w t (keeps_refl s))
  | .evictionCopyComplete n w t => keepsOut_of_eq (exec_evictionCopyComplete n w t s) (keeps_execEvictionCopyComplete n w t (keeps_refl s))
  | .load r n => keepsOut_of_eq (exec_load r n s) (keeps_execLoad r n (keeps_refl s))
  | .unload r n => keepsOut_of_eq (exec_unload r n s) (keeps_execUnload r n (keeps_refl s))
  | .nanClear r n => keepsOut_of_eq (exec_nanClear r n s) (keeps_execNanClear r n (keeps_refl s))
  | .handleRelease r n v => keepsOut_of_eq (exec_handleRelease r n v s) (keeps_execHandleRelease r n v (keeps_refl s))
  | .regionCreate r n v => keepsOut_of_eq (exec_regionCreate r n v s) (keeps_execRegionCreate r n v (keeps_refl s))
  | .regionDelete r n v => keepsOut_of_eq (exec_regionDelete r n v s) (keeps_execRegionDelete r n v (keeps_refl s))
  | .flushAll r n => keepsOut_of_eq (exec_flushAll r n s) (keeps_execFlushAll r n (keeps_refl s))
  | .wsetRegister r n => keepsOut_of_eq (exec_wsetRegister r n s) (keeps_execWsetRegister r n (keeps_refl s))
  | .wsetFetch r n => keepsOut_of_eq (exec_wsetFetch r n s) (keeps_execWsetFetch r n (keeps_refl s))
  | .wsetRelease r n => keepsOut_of_eq (exec_wsetRelease r n s) (keeps_execWsetRelease r n (keeps_refl s))
  | .epochSwitch r n v => keepsOut_of_eq (exec_epochSwitch r n v s) (keeps_execEpochSwitch r n v (keeps_refl s))
  | .jobDrain r n v => keepsOut_of_eq (exec_jobDrain r n v s) (keeps_execJobDrain r n v (keeps_refl s))
  | .lrResume r n v => keepsOut_of_eq (exec_lrResume r n v s) (keeps_execLrResume r n v (keeps_refl s))
  | .turnArm r n => keepsOut_of_eq (exec_turnArm r n s) (keeps_execTurnArm r n (keeps_refl s))
  | .turnDisarm r n => keepsOut_of_eq (exec_turnDisarm r n s) (keeps_execTurnDisarm r n (keeps_refl s))
  | .bufferReg r n v => keepsOut_of_eq (exec_bufferReg r n v s) (keeps_execBufferReg r n v (keeps_refl s))
  | .bufferDereg r n v => keepsOut_of_eq (exec_bufferDereg r n v s) (keeps_execBufferDereg r n v (keeps_refl s))
  | .bufferFreed n rkey t => keepsOut_of_eq (exec_bufferFreed n rkey t s) (keeps_execBufferFreed n rkey t (keeps_refl s))
  | .trigOps r n v => keepsOut_of_eq (exec_trigOps r n v s) (keeps_execTrigOps r n v (keeps_refl s))
  | .objInstall r => keepsOut_of_eq (exec_objInstall r s) (keeps_execObjInstall r (keeps_refl s))
  | .fwSvnCommit r => keepsOut_of_eq (exec_fwSvnCommit r s) (keeps_execFwSvnCommit r (keeps_refl s))
  | .opCredAdd r v => keepsOut_of_eq (exec_opCredAdd r v s) (keeps_execOpCredAdd r v (keeps_refl s))
  | .opCredRemove r v => keepsOut_of_eq (exec_opCredRemove r v s) (keeps_execOpCredRemove r v (keeps_refl s))
  | .credAdd r ts v => keepsOut_of_eq (exec_credAdd r ts v s) (keeps_execCredAdd r ts v (keeps_refl s))
  | .credRemove r ts v => keepsOut_of_eq (exec_credRemove r ts v s) (keeps_execCredRemove r ts v (keeps_refl s))
  | .setkeyInstall r ts v => keepsOut_of_eq (exec_setkeyInstall r ts v s) (keeps_execSetkeyInstall r ts v (keeps_refl s))
  | .setkeyRemove r ts v => keepsOut_of_eq (exec_setkeyRemove r ts v s) (keeps_execSetkeyRemove r ts v (keeps_refl s))
  | .attest r n v => keepsOut_of_eq (exec_attest r n v s) (keeps_execAttest r n v (keeps_refl s))
  | .moduleAttest r v => keepsOut_of_eq (exec_moduleAttest r v s) (keeps_execModuleAttest r v (keeps_refl s))
  | .ashOut r v flashOk => keepsOut_of_eq (exec_ashOut r v flashOk s) (keeps_execAshOut r v flashOk (keeps_refl s))
  | .ashOutZeroingStart n t => keepsOut_of_eq (exec_ashOutZeroingStart n t s) (keeps_execAshOutZeroingStart n t (keeps_refl s))
  | .ashOutCheck n ok t => keepsOut_of_eq (exec_ashOutCheck n ok t s) (keeps_execAshOutCheck n ok t (keeps_refl s))
  | .ashOutEnd n t => keepsOut_of_eq (exec_ashOutEnd n t s) (keeps_execAshOutEnd n t (keeps_refl s))
  | .wake r n => keepsOut_of_eq (exec_wake r n s) (keeps_execWake r n (keeps_refl s))
  | .wakeAtReached n t => keepsOut_of_eq (exec_wakeAtReached n t s) (keeps_execWakeAtReached n t (keeps_refl s))
  | .fmStart r k => keepsOut_of_eq (exec_fmStart r k s) (keeps_execFmStart r k (keeps_refl s))
  | .fmDone k count t => keepsOut_of_eq (exec_fmDone k count t s) (keeps_execFmDone k count t (keeps_refl s))
  | .resetModule r => keepsOut_of_eq (exec_resetModule r s) (keeps_execResetModule r (keeps_refl s))
  | .resetPartition r v => keepsOut_of_eq (exec_resetPartition r v s) (keeps_execResetPartition r v (keeps_refl s))
  | .resetRick r v => keepsOut_of_eq (exec_resetRick r v s) (keeps_execResetRick r v (keeps_refl s))
  | .resetHearth r v => keepsOut_of_eq (exec_resetHearth r v s) (keeps_execResetHearth r v (keeps_refl s))
  | .kindlingEnd r v => keepsOut_of_eq (exec_kindlingEnd r v s) (keeps_execKindlingEnd r v (keeps_refl s))
  | .traceTrigger r n => keepsOut_of_eq (exec_traceTrigger r n s) (keeps_execTraceTrigger r n (keeps_refl s))
  | .bpHalt r n => keepsOut_of_eq (exec_bpHalt r n s) (keeps_execBpHalt r n (keeps_refl s))
  | .bpResume r n v => keepsOut_of_eq (exec_bpResume r n v s) (keeps_execBpResume r n v (keeps_refl s))
  | .haltLimitExpiry n t => keepsOut_of_eq (exec_haltLimitExpiry n t s) (keeps_execHaltLimitExpiry n t (keeps_refl s))
  | .snapshot r n v => keepsOut_of_eq (exec_snapshot r n v s) (keeps_execSnapshot r n v (keeps_refl s))
  | .perfClear r n => keepsOut_of_eq (exec_perfClear r n s) (keeps_execPerfClear r n (keeps_refl s))
  | .traceSweep n t => keepsOut_of_eq (exec_traceSweep n t s) (keeps_execTraceSweep n t (keeps_refl s))
  | .rickMask r n v => keepsOut_of_eq (exec_rickMask r n v s) (keeps_execRickMask r n v (keeps_refl s))
  | .queueMap r n v => keepsOut_of_eq (exec_queueMap r n v s) (keeps_execQueueMap r n v (keeps_refl s))
  | .kvModels r n v => keepsOut_of_eq (exec_kvModels r n v s) (keeps_execKvModels r n v (keeps_refl s))
  | .kvPoolPages r n v => keepsOut_of_eq (exec_kvPoolPages r n v s) (keeps_execKvPoolPages r n v (keeps_refl s))
  | .tctPairs r n v => keepsOut_of_eq (exec_tctPairs r n v s) (keeps_execTctPairs r n v (keeps_refl s))
  | .tctRegions r n v => keepsOut_of_eq (exec_tctRegions r n v s) (keeps_execTctRegions r n v (keeps_refl s))
  | .auditRegion r n v => keepsOut_of_eq (exec_auditRegion r n v s) (keeps_execAuditRegion r n v (keeps_refl s))
  | .evidRegion r n v => keepsOut_of_eq (exec_evidRegion r n v s) (keeps_execEvidRegion r n v (keeps_refl s))
  | .lstatsRegion r n v => keepsOut_of_eq (exec_lstatsRegion r n v s) (keeps_execLstatsRegion r n v (keeps_refl s))
  | .tenantId r ts v => keepsOut_of_eq (exec_tenantId r ts v s) (keeps_execTenantId r ts v (keeps_refl s))
  | .partTenant r n v => keepsOut_of_eq (exec_partTenant r n v s) (keeps_execPartTenant r n v (keeps_refl s))
  | .consent r n v => keepsOut_of_eq (exec_consent r n v s) (keeps_execConsent r n v (keeps_refl s))
  | .partClockMhz r n v => keepsOut_of_eq (exec_partClockMhz r n v s) (keeps_execPartClockMhz r n v (keeps_refl s))
  | .partBudgetW r n v => keepsOut_of_eq (exec_partBudgetW r n v s) (keeps_execPartBudgetW r n v (keeps_refl s))
  | .txOwners r p v => keepsOut_of_eq (exec_txOwners r p v s) (keeps_execTxOwners r p v (keeps_refl s))
  | .ethOwners r e v => keepsOut_of_eq (exec_ethOwners r e v s) (keeps_execEthOwners r e v (keeps_refl s))
  | .connRec r n v => keepsOut_of_eq (exec_connRec r n v s) (keeps_execConnRec r n v (keeps_refl s))
  | .groupRec r n v => keepsOut_of_eq (exec_groupRec r n v s) (keeps_execGroupRec r n v (keeps_refl s))
  | .ringDesc r n v => keepsOut_of_eq (exec_ringDesc r n v s) (keeps_execRingDesc r n v (keeps_refl s))
  | .traceBytes r n v => keepsOut_of_eq (exec_traceBytes r n v s) (keeps_execTraceBytes r n v (keeps_refl s))
  | .traceEnable r n v => keepsOut_of_eq (exec_traceEnable r n v s) (keeps_execTraceEnable r n v (keeps_refl s))
  | .bpRec r n v => keepsOut_of_eq (exec_bpRec r n v s) (keeps_execBpRec r n v (keeps_refl s))
  | .kindlingPart r v => keepsOut_of_eq (exec_kindlingPart r v s) (keeps_execKindlingPart r v (keeps_refl s))
  | .portEnable r p v => keepsOut_of_eq (exec_portEnable r p v s) (keeps_execPortEnable r p v (keeps_refl s))
  | .registerWrite r idx sub v => keepsOut_of_eq (exec_registerWrite r idx sub v s) (keeps_execRegisterWrite r idx sub v (keeps_refl s))
  | .hello m t => keepsOut_of_eq (exec_hello m t s) (keeps_execHello m t (keeps_refl s))
  | .finish ses seq sigsOk t => keepsOut_of_eq (exec_finish ses seq sigsOk t s) (keeps_execFinish ses seq sigsOk t (keeps_refl s))
  | .finishTimeout ses t => keepsOut_of_eq (exec_finishTimeout ses t s) (keeps_execFinishTimeout ses t (keeps_refl s))
  | .dolliRead r idx sub => keepsOut_of_eq (exec_dolliRead r idx sub s) (keeps_execDolliRead r idx sub (keeps_refl s))
  | .readBlock r idx sub off len snap => keepsOut_of_eq (exec_readBlock r idx sub off len snap s) (keeps_execReadBlock r idx sub off len snap (keeps_refl s))
  | .writeBlock r idx sub off first last v => keepsOut_of_eq (exec_writeBlock r idx sub off first last v s) (keeps_execWriteBlock r idx sub off first last v (keeps_refl s))
  | .subscribe r idx sub cancel => keepsOut_of_eq (exec_subscribe r idx sub cancel s) (keeps_execSubscribe r idx sub cancel (keeps_refl s))
  | .store r idx sub flashOk => keepsOut_of_eq (exec_store r idx sub flashOk s) (keeps_execStore r idx sub flashOk (keeps_refl s))
  | .notifySend ses idx sub t => keepsOut_of_eq (exec_notifySend ses idx sub t s) (keeps_execNotifySend ses idx sub t (keeps_refl s))
  | .notifyResend ses idx sub t => keepsOut_of_eq (exec_notifyResend ses idx sub t s) (keeps_execNotifyResend ses idx sub t (keeps_refl s))
  | .notifyAck r => keepsOut_of_eq (exec_notifyAck r s) (keeps_execNotifyAck r (keeps_refl s))
  | .dolliClose r => keepsOut_of_eq (exec_dolliClose r s) (keeps_execDolliClose r (keeps_refl s))
  | .sessionIdleTimeout ses t => keepsOut_of_eq (exec_sessionIdleTimeout ses t s) (keeps_execSessionIdleTimeout ses t (keeps_refl s))
  | .stagingExpiry ses idx sub t => keepsOut_of_eq (exec_stagingExpiry ses idx sub t s) (keeps_execStagingExpiry ses idx sub t (keeps_refl s))
  | .statusProbe e endpoint t => keepsOut_of_eq (exec_statusProbe e endpoint t s) (keeps_execStatusProbe e endpoint t (keeps_refl s))
  | .ethernetFrameReceive e frame fcsOk t => keepsOut_of_eq (exec_ethernetFrameReceive e frame fcsOk t s) (keeps_execEthernetFrameReceive e frame fcsOk t (keeps_refl s))
  | .neighbourDiscovery e target t => keepsOut_of_eq (exec_neighbourDiscovery e target t s) (keeps_execNeighbourDiscovery e target t (keeps_refl s))
  | .echoRequest e dst payload t => keepsOut_of_eq (exec_echoRequest e dst payload t s) (keeps_execEchoRequest e dst payload t (keeps_refl s))
  | .rdmaWrite m t => keepsOut_of_eq (exec_rdmaWrite m t s) (keeps_execRdmaWrite m t (keeps_refl s))
  | .rdmaWriteImm m rcounter addv t => keepsOut_of_eq (exec_rdmaWriteImm m rcounter addv t s) (keeps_execRdmaWriteImm m rcounter addv t (keeps_refl s))
  | .rdmaRead m t => keepsOut_of_eq (exec_rdmaRead m t s) (keeps_execRdmaRead m t (keeps_refl s))
  | .roceAckTimeout n c t => keepsOut_of_eq (exec_roceAckTimeout n c t s) (keeps_execRoceAckTimeout n c t (keeps_refl s))
  | .runStart e unit ready t => keepsOut_of_eq (exec_runStart e unit ready t s) (keeps_execRunStart e unit ready t (keeps_refl s))
  | .ethLinkUp e t => keepsOut_of_eq (exec_ethLinkUp e t s) (keeps_execEthLinkUp e t (keeps_refl s))
  | .ethLinkDown e t => keepsOut_of_eq (exec_ethLinkDown e t s) (keeps_execEthLinkDown e t (keeps_refl s))
  | .put m t => keepsOut_of_eq (exec_put m t s) (keeps_execPut m t (keeps_refl s))
  | .getRequest m t => keepsOut_of_eq (exec_getRequest m t s) (keeps_execGetRequest m t (keeps_refl s))
  | .getResponse m t => keepsOut_of_eq (exec_getResponse m t s) (keeps_execGetResponse m t (keeps_refl s))
  | .reduceF32 m t => keepsOut_of_eq (exec_reduceF32 m t s) (keeps_execReduceF32 m t (keeps_refl s))
  | .reduceI32 m t => keepsOut_of_eq (exec_reduceI32 m t s) (keeps_execReduceI32 m t (keeps_refl s))
  | .counterAdd m t => keepsOut_of_eq (exec_counterAdd m t s) (keeps_execCounterAdd m t (keeps_refl s))
  | .token m t => keepsOut_of_eq (exec_token m t s) (keeps_execToken m t (keeps_refl s))
  | .ack m t => keepsOut_of_eq (exec_ack m t s) (keeps_execAck m t (keeps_refl s))
  | .maintFlit p payload t => keepsOut_of_eq (exec_maintFlit p payload t s) (keeps_execMaintFlit p payload t (keeps_refl s))
  | .transitFlit p pos flit t => keepsOut_of_eq (exec_transitFlit p pos flit t s) (keeps_execTransitFlit p pos flit t (keeps_refl s))
  | .opTimeout n owner op t => keepsOut_of_eq (exec_opTimeout n owner op t s) (keeps_execOpTimeout n owner op t (keeps_refl s))
  | .triggerRingRecord n job t => keepsOut_of_eq (exec_triggerRingRecord n job t s) (keeps_execTriggerRingRecord n job t (keeps_refl s))
  | .allreduce n gr t => keepsOut_of_eq (exec_allreduce n gr t s) (keeps_execAllreduce n gr t (keeps_refl s))
  | .reduceScatter n gr t => keepsOut_of_eq (exec_reduceScatter n gr t s) (keeps_execReduceScatter n gr t (keeps_refl s))
  | .allgather n gr t => keepsOut_of_eq (exec_allgather n gr t s) (keeps_execAllgather n gr t (keeps_refl s))
  | .alltoallv n gr t => keepsOut_of_eq (exec_alltoallv n gr t s) (keeps_execAlltoallv n gr t (keeps_refl s))
  | .barrier n gr t => keepsOut_of_eq (exec_barrier n gr t s) (keeps_execBarrier n gr t (keeps_refl s))
  | .linkTrainingStart p t => keepsOut_of_eq (exec_linkTrainingStart p t s) (keeps_execLinkTrainingStart p t (keeps_refl s))
  | .portRetrain r p => keepsOut_of_eq (exec_portRetrain r p s) (keeps_execPortRetrain r p (keeps_refl s))
  | .equalisationComplete p locked t => keepsOut_of_eq (exec_equalisationComplete p locked t s) (keeps_execEqualisationComplete p locked t (keeps_refl s))
  | .peerIdentityExchange p peer t => keepsOut_of_eq (exec_peerIdentityExchange p peer t s) (keeps_execPeerIdentityExchange p peer t (keeps_refl s))
  | .linkUp p t => keepsOut_of_eq (exec_linkUp p t s) (keeps_execLinkUp p t (keeps_refl s))
  | .trainingTimeout p t => keepsOut_of_eq (exec_trainingTimeout p t s) (keeps_execTrainingTimeout p t (keeps_refl s))
  | .laneSwap p lane t => keepsOut_of_eq (exec_laneSwap p lane t s) (keeps_execLaneSwap p lane t (keeps_refl s))
  | .laneSwapResume p t => keepsOut_of_eq (exec_laneSwapResume p t s) (keeps_execLaneSwapResume p t (keeps_refl s))
  | .portDown p t => keepsOut_of_eq (exec_portDown p t s) (keeps_execPortDown p t (keeps_refl s))
  | .cablePresent p present t => keepsOut_of_eq (exec_cablePresent p present t s) (keeps_execCablePresent p present t (keeps_refl s))
  | .gateToken m t => keepsOut_of_eq (exec_gateToken m t s) (keeps_execGateToken m t (keeps_refl s))
  | .gateTimeout n t => keepsOut_of_eq (exec_gateTimeout n t s) (keeps_execGateTimeout n t (keeps_refl s))
  | .voteRound m t => keepsOut_of_eq (exec_voteRound m t s) (keeps_execVoteRound m t (keeps_refl s))
  | .verdictTimeout n t => keepsOut_of_eq (exec_verdictTimeout n t s) (keeps_execVerdictTimeout n t (keeps_refl s))
  | .verdictQuery m t => keepsOut_of_eq (exec_verdictQuery m t s) (keeps_execVerdictQuery m t (keeps_refl s))
  | .turnWrite m t => keepsOut_of_eq (exec_turnWrite m t s) (keeps_execTurnWrite m t (keeps_refl s))
  | .turnWriteRetry n entry t => keepsOut_of_eq (exec_turnWriteRetry n entry t s) (keeps_execTurnWriteRetry n entry t (keeps_refl s))
  | .turnFinal m t => keepsOut_of_eq (exec_turnFinal m t s) (keeps_execTurnFinal m t (keeps_refl s))
  | .turnParked m t => keepsOut_of_eq (exec_turnParked m t s) (keeps_execTurnParked m t (keeps_refl s))
  | .turnFail m t => keepsOut_of_eq (exec_turnFail m t s) (keeps_execTurnFail m t (keeps_refl s))
  | .turnSwitch m t => keepsOut_of_eq (exec_turnSwitch m t s) (keeps_execTurnSwitch m t (keeps_refl s))
  | .turnAbort m t => keepsOut_of_eq (exec_turnAbort m t s) (keeps_execTurnAbort m t (keeps_refl s))
  | .turnUnpark m t => keepsOut_of_eq (exec_turnUnpark m t s) (keeps_execTurnUnpark m t (keeps_refl s))
  | .turnQuery m t => keepsOut_of_eq (exec_turnQuery m t s) (keeps_execTurnQuery m t (keeps_refl s))
  | .turnTokenResend n t => keepsOut_of_eq (exec_turnTokenResend n t s) (keeps_execTurnTokenResend n t (keeps_refl s))
  | .turnLimitExpiry n t => keepsOut_of_eq (exec_turnLimitExpiry n t s) (keeps_execTurnLimitExpiry n t (keeps_refl s))
  | .turnParkExpiry n t => keepsOut_of_eq (exec_turnParkExpiry n t s) (keeps_execTurnParkExpiry n t (keeps_refl s))
  | .slotBoundary t => keepsOut_of_eq (exec_slotBoundary t s) (keeps_execSlotBoundary t (keeps_refl s))
  | .staggerExpiry n t => keepsOut_of_eq (exec_staggerExpiry n t s) (keeps_execStaggerExpiry n t (keeps_refl s))
  | .rickWakeComplete k t => keepsOut_of_eq (exec_rickWakeComplete k t s) (keeps_execRickWakeComplete k t (keeps_refl s))
  | .wakeBoundReached n t => keepsOut_of_eq (exec_wakeBoundReached n t s) (keeps_execWakeBoundReached n t (keeps_refl s))
  | .idleHoldExpiry n t => keepsOut_of_eq (exec_idleHoldExpiry n t s) (keeps_execIdleHoldExpiry n t (keeps_refl s))
  | .stateEntryComplete k t => keepsOut_of_eq (exec_stateEntryComplete k t s) (keeps_execStateEntryComplete k t (keeps_refl s))
  | .budgetWindow n meanW t => keepsOut_of_eq (exec_budgetWindow n meanW t s) (keeps_execBudgetWindow n meanW t (keeps_refl s))
  | .overrunWindow n meanW t => keepsOut_of_eq (exec_overrunWindow n meanW t s) (keeps_execOverrunWindow n meanW t (keeps_refl s))
  | .emergencyRaise cause t => keepsOut_of_eq (exec_emergencyRaise cause t s) (keeps_execEmergencyRaise cause t (keeps_refl s))
  | .emergencyEnd t => keepsOut_of_eq (exec_emergencyEnd t s) (keeps_execEmergencyEnd t (keeps_refl s))
  | .phaseFailure k t => keepsOut_of_eq (exec_phaseFailure k t s) (keeps_execPhaseFailure k t (keeps_refl s))
  | .inputOutOfRange mv t => keepsOut_of_eq (exec_inputOutOfRange mv t s) (keeps_execInputOutOfRange mv t (keeps_refl s))
  | .powerValid t => keepsOut_of_eq (exec_powerValid t s) (keeps_execPowerValid t (keeps_refl s))
  | .presenceOpen t => keepsOut_of_eq (exec_presenceOpen t s) (keeps_execPresenceOpen t (keeps_refl s))
  | .alertAssert t => keepsOut_of_eq (exec_alertAssert t s) (keeps_execAlertAssert t (keeps_refl s))
  | .alertRelease t => keepsOut_of_eq (exec_alertRelease t s) (keeps_execAlertRelease t (keeps_refl s))
  | .thermalCondition on t => keepsOut_of_eq (exec_thermalCondition on t s) (keeps_execThermalCondition on t (keeps_refl s))
  | .thermalShutdown t => keepsOut_of_eq (exec_thermalShutdown t s) (keeps_execThermalShutdown t (keeps_refl s))
  | .thermalRestart t => keepsOut_of_eq (exec_thermalRestart t s) (keeps_execThermalRestart t (keeps_refl s))
  | .referenceLoss ref t => keepsOut_of_eq (exec_referenceLoss ref t s) (keeps_execReferenceLoss ref t (keeps_refl s))
  | .referenceCompare ppm t => keepsOut_of_eq (exec_referenceCompare ppm t s) (keeps_execReferenceCompare ppm t (keeps_refl s))
  | .bothReferencesLost t => keepsOut_of_eq (exec_bothReferencesLost t s) (keeps_execBothReferencesLost t (keeps_refl s))
  | .referenceRestored ref t => keepsOut_of_eq (exec_referenceRestored ref t s) (keeps_execReferenceRestored ref t (keeps_refl s))
  | .sourceStable k t => keepsOut_of_eq (exec_sourceStable k t s) (keeps_execSourceStable k t (keeps_refl s))
  | .sourceTimeout k t => keepsOut_of_eq (exec_sourceTimeout k t s) (keeps_execSourceTimeout k t (keeps_refl s))
  | .monitorWindow k count t => keepsOut_of_eq (exec_monitorWindow k count t s) (keeps_execMonitorWindow k count t (keeps_refl s))
  | .sourceFailure k t => keepsOut_of_eq (exec_sourceFailure k t s) (keeps_execSourceFailure k t (keeps_refl s))
  | .controllerClockFailure k t => keepsOut_of_eq (exec_controllerClockFailure k t s) (keeps_execControllerClockFailure k t (keeps_refl s))
  | .tinderStart okA okB t => keepsOut_of_eq (exec_tinderStart okA okB t s) (keeps_execTinderStart okA okB t (keeps_refl s))
  | .collierReady t => keepsOut_of_eq (exec_collierReady t s) (keeps_execCollierReady t (keeps_refl s))
  | .rickBringupStart k t => keepsOut_of_eq (exec_rickBringupStart k t s) (keeps_execRickBringupStart k t (keeps_refl s))
  | .rickReady k ok t => keepsOut_of_eq (exec_rickReady k ok t s) (keeps_execRickReady k ok t (keeps_refl s))
  | .fullService t => keepsOut_of_eq (exec_fullService t s) (keeps_execFullService t (keeps_refl s))
  | .trialTimeout t => keepsOut_of_eq (exec_trialTimeout t s) (keeps_execTrialTimeout t (keeps_refl s))
  | .watchdogExpiry t => keepsOut_of_eq (exec_watchdogExpiry t s) (keeps_execWatchdogExpiry t (keeps_refl s))
  | .lockstepMismatch t => keepsOut_of_eq (exec_lockstepMismatch t s) (keeps_execLockstepMismatch t (keeps_refl s))
  | .kindlingStart t => keepsOut_of_eq (exec_kindlingStart t s) (keeps_execKindlingStart t (keeps_refl s))
  | .presenceClose bulkmV inmV t => keepsOut_of_eq (exec_presenceClose bulkmV inmV t s) (keeps_execPresenceClose bulkmV inmV t (keeps_refl s))
  | .pluggableModuleInsert e watts t => keepsOut_of_eq (exec_pluggableModuleInsert e watts t s) (keeps_execPluggableModuleInsert e watts t (keeps_refl s))
  | .roceAcknowledgement n c psn nak data t => keepsOut_of_eq (exec_roceAcknowledgement n c psn nak data t s) (keeps_execRoceAcknowledgement n c psn nak data t (keeps_refl s))
  | .traceSample n t => keepsOut_of_eq (exec_traceSample n t s) (keeps_execTraceSample n t (keeps_refl s))
  | .hearthWearStore t => keepsOut_of_eq (exec_hearthWearStore t s) (keeps_execHearthWearStore t (keeps_refl s))

end Sys2Proof.Laws
end

