-- ==== Sys2Proof/WellFormed.lean ====
section
/-!
DEFINITION. Which commands are well formed: every operand fits the field that carries it (Tables 15-3, 16-3 and 16-5), a time fits the time base (R14), and a number
names something that exists. What a well-formed command carries may still be wrong for its entry: that is for the device to answer (Table 16-7).
-/
namespace Sys2Proof

/-- A number fits 8 bits. -/
def u8 (x : Nat) : Bool := decide (x < 2 ^ 8)
/-- A number fits 16 bits. -/
def u16 (x : Nat) : Bool := decide (x < 2 ^ 16)
/-- A number fits 32 bits. -/
def u32 (x : Nat) : Bool := decide (x < 2 ^ 32)
/-- A number fits 64 bits. -/
def u64 (x : Nat) : Bool := decide (x < 2 ^ 64)
/-- Bytes whose number fits LENGTH. -/
def blobOk (v : List Byte) : Bool := decide (v.length < 2 ^ 32)

/-- An IPv6 or IPv4 address. -/
def addrOk (v : List Byte) : Bool := v.length == 16 || v.length == 4

/-- A request's header fields (Tables 16-3, 16-5). -/
def Rq.fits (r : Rq) : Bool := u64 r.ses && u64 r.seq && u32 r.id && u64 r.t

/-- A HELLO's fields (Table 16-4). -/
def HelloMsg.fits (m : HelloMsg) : Bool :=
  m.x25519.length == 32 && m.mlkem.length == 1184 && m.nonce.length == 32 && u8 m.role && decide (m.tenant < 2 ^ 128) && u64 m.cred

/-- A fabric message's fields (Table 15-3). -/
def FabMsg.fits (m : FabMsg) : Bool :=
  decide (m.pos < 1000) && u32 m.msgid && u16 m.rcounter && u32 m.rkey && u64 m.dest && u64 m.src && decide (m.tenant < 2 ^ 128) && u64 m.roff && u32 m.len &&
  u32 m.addv && u64 m.aux && m.body.length == 64 && blobOk m.data

/-- A RoCE v2 transfer's fields (R463). -/
def RoceMsg.fits (m : RoceMsg) : Bool := decide (m.conn < 1024) && decide (m.psn < 2 ^ 24) && u32 m.rkey && u64 m.roff && u32 m.length && blobOk m.data

/-- A command is well formed. -/
def Instr.wellFormed (i : Instr) : Bool :=
  match i with
  | .add _ => true
  | .sub _ => true
  | .and _ => true
  | .or _ => true
  | .xor _ => true
  | .shl _ => true
  | .shr _ => true
  | .sar _ => true
  | .mul _ => true
  | .mulh _ => true
  | .slt _ => true
  | .sltu _ => true
  | .min _ => true
  | .max _ => true
  | .fadd _ => true
  | .fsub _ => true
  | .fmul _ => true
  | .fmin _ => true
  | .fmax _ => true
  | .flt _ => true
  | .fcvti _ => true
  | .fcvtf _ => true
  | .addi _ => true
  | .andi _ => true
  | .ori _ => true
  | .xori _ => true
  | .shli _ => true
  | .shri _ => true
  | .sari _ => true
  | .movh _ => true
  | .ld64 _ => true
  | .ld32 _ => true
  | .ld16 _ => true
  | .ld8 _ => true
  | .st64 _ => true
  | .st32 _ => true
  | .st16 _ => true
  | .st8 _ => true
  | .beq _ => true
  | .bne _ => true
  | .blt _ => true
  | .bge _ => true
  | .bltu _ => true
  | .bgeu _ => true
  | .jmp _ => true
  | .jr _ => true
  | .bsum _ => true
  | .srd _ => true
  | .sflg _ => true
  | .issue _ => true
  | .fence _ => true
  | .waitc _ => true
  | .waitcRelease _ => true
  | .bar _ => true
  | .barComplete _ => true
  | .poll _ => true
  | .csrr _ => true
  | .csrw _ => true
  | .note _ => true
  | .stepend _ => true
  | .haltStop _ t => u64 t
  | .rakingPieceStart _ t => u64 t
  | .rakingPieceEnd _ t => u64 t
  | .scheduleFault _ unit slot => decide (unit < 3) && u64 slot
  | .mmul _ => true
  | .mmulComplete _ => true
  | .mmulWritebackEnd _ => true
  | .linIn _ => true
  | .linOut _ => true
  | .skewIn _ => true
  | .skewLocal _ => true
  | .weightIn _ => true
  | .fill _ => true
  | .layoutOpComplete _ c => u64 c
  | .vectorAdd _ => true
  | .vectorSub _ => true
  | .vectorMul _ => true
  | .vectorMax _ => true
  | .vectorMin _ => true
  | .axpy _ => true
  | .affine _ => true
  | .muls _ => true
  | .sel _ => true
  | .abs _ => true
  | .exp _ => true
  | .log _ => true
  | .recip _ => true
  | .rsqrt _ => true
  | .sigm _ => true
  | .silu _ => true
  | .reduceSum _ => true
  | .sumsq _ => true
  | .reduceMax _ => true
  | .reduceMin _ => true
  | .argmax _ => true
  | .topk _ => true
  | .cast _ => true
  | .quantMx _ => true
  | .quantG16 _ => true
  | .compress _ => true
  | .expand _ => true
  | .constFill _ => true
  | .sinit _ => true
  | .sacc _ => true
  | .sout _ => true
  | .penalize _ => true
  | .select _ => true
  | .probof _ => true
  | .attn _ => true
  | .attnComplete _ => true
  | .gather _ => true
  | .kvAppend _ => true
  | .accept _ => true
  | .attach _ => true
  | .snap _ => true
  | .kvOpComplete _ c => u64 c
  | .engineOpComplete _ _ => true
  | .stepBoundary _ t => u64 t
  | .rakePauseEnd _ t => u64 t
  | .switchWritebackDone _ t => u64 t
  | .slotMapsInForce _ t => u64 t
  | .tierSCopyDone _ t => u64 t
  | .switchPrologueDone _ t => u64 t
  | .stepRecordDelivery _ t => u64 t
  | .boundaryRecord _ t => u64 t
  | .queueMessageWrite _ _ stamp msg t => u64 stamp && blobOk msg && u64 t
  | .writeBackPage _ t => u64 t
  | .kvReleaseUnit _ t => u64 t
  | .scrubUnit _ t => u64 t
  | .arrayCheckUnit _ t => u64 t
  | .calibrationUnit _ t => u64 t
  | .agingMonitorUnit _ t => u64 t
  | .telemetryUnit _ t => u64 t
  | .digestRecheck _ t => u64 t
  | .passOverdue _ task t => decide (task < 16) && u64 t
  | .backgroundWakeDue _ t => u64 t
  | .channelMigrationUnit _ t => u64 t
  | .rowRepair _ t => u64 t
  | .spareManifestStore _ t => u64 t
  | .channelFailure _ ch t => decide (ch < 136) && u64 t
  | .substrateChannelFailure _ ch t => decide (ch < 4) && u64 t
  | .shardArrival _ _ shard data t => decide (shard < 65536) && blobOk data && u64 t
  | .refetchComplete _ _ shard _ t => decide (shard < 65536) && u64 t
  | .holdLimitExpiry _ _ t => u64 t
  | .evictionCopyComplete _ _ t => u64 t
  | .load r _ => r.fits
  | .unload r _ => r.fits
  | .nanClear r _ => r.fits
  | .handleRelease r _ v => r.fits && blobOk v
  | .regionCreate r _ v => r.fits && blobOk v
  | .regionDelete r _ v => r.fits && blobOk v
  | .flushAll r _ => r.fits
  | .wsetRegister r _ => r.fits
  | .wsetFetch r _ => r.fits
  | .wsetRelease r _ => r.fits
  | .epochSwitch r _ v => r.fits && blobOk v
  | .jobDrain r _ v => r.fits && blobOk v
  | .lrResume r _ v => r.fits && blobOk v
  | .turnArm r _ => r.fits
  | .turnDisarm r _ => r.fits
  | .bufferReg r _ v => r.fits && blobOk v
  | .bufferDereg r _ v => r.fits && blobOk v
  | .bufferFreed _ rkey t => u32 rkey && u64 t
  | .trigOps r _ v => r.fits && blobOk v
  | .objInstall r => r.fits
  | .fwSvnCommit r => r.fits
  | .opCredAdd r v => r.fits && blobOk v
  | .opCredRemove r v => r.fits && blobOk v
  | .credAdd r _ v => r.fits && blobOk v
  | .credRemove r _ v => r.fits && blobOk v
  | .setkeyInstall r _ v => r.fits && blobOk v
  | .setkeyRemove r _ v => r.fits && blobOk v
  | .attest r _ v => r.fits && blobOk v
  | .moduleAttest r v => r.fits && blobOk v
  | .ashOut r v _ => r.fits && blobOk v
  | .ashOutZeroingStart _ t => u64 t
  | .ashOutCheck _ _ t => u64 t
  | .ashOutEnd _ t => u64 t
  | .wake r _ => r.fits
  | .wakeAtReached _ t => u64 t
  | .fmStart r _ => r.fits
  | .fmDone _ count t => u64 count && u64 t
  | .resetModule r => r.fits
  | .resetPartition r v => r.fits && blobOk v
  | .resetRick r v => r.fits && blobOk v
  | .resetHearth r v => r.fits && blobOk v
  | .kindlingEnd r v => r.fits && blobOk v
  | .traceTrigger r _ => r.fits
  | .bpHalt r _ => r.fits
  | .bpResume r _ v => r.fits && blobOk v
  | .haltLimitExpiry _ t => u64 t
  | .snapshot r _ v => r.fits && blobOk v
  | .perfClear r _ => r.fits
  | .traceSweep _ t => u64 t
  | .rickMask r _ v => r.fits && blobOk v
  | .queueMap r _ v => r.fits && blobOk v
  | .kvModels r _ v => r.fits && blobOk v
  | .kvPoolPages r _ v => r.fits && blobOk v
  | .tctPairs r _ v => r.fits && blobOk v
  | .tctRegions r _ v => r.fits && blobOk v
  | .auditRegion r _ v => r.fits && blobOk v
  | .evidRegion r _ v => r.fits && blobOk v
  | .lstatsRegion r _ v => r.fits && blobOk v
  | .tenantId r _ v => r.fits && blobOk v
  | .partTenant r _ v => r.fits && blobOk v
  | .consent r _ v => r.fits && blobOk v
  | .partClockMhz r _ v => r.fits && blobOk v
  | .partBudgetW r _ v => r.fits && blobOk v
  | .txOwners r _ v => r.fits && blobOk v
  | .ethOwners r _ v => r.fits && blobOk v
  | .connRec r _ v => r.fits && blobOk v
  | .groupRec r _ v => r.fits && blobOk v
  | .ringDesc r _ v => r.fits && blobOk v
  | .traceBytes r _ v => r.fits && blobOk v
  | .traceEnable r _ v => r.fits && blobOk v
  | .bpRec r _ v => r.fits && blobOk v
  | .kindlingPart r v => r.fits && blobOk v
  | .portEnable r _ v => r.fits && blobOk v
  | .registerWrite r idx sb v => r.fits && u16 idx && u8 sb && blobOk v
  | .hello m t => m.fits && u64 t
  | .finish ses seq _ t => u64 ses && u64 seq && u64 t
  | .finishTimeout ses t => u64 ses && u64 t
  | .dolliRead r idx sb => r.fits && u16 idx && u8 sb
  | .readBlock r idx sb off len _ => r.fits && u16 idx && u8 sb && u32 off && u32 len
  | .writeBlock r idx sb off _ _ v => r.fits && u16 idx && u8 sb && u32 off && blobOk v
  | .subscribe r idx sb _ => r.fits && u16 idx && u8 sb
  | .store r idx sb _ => r.fits && u16 idx && u8 sb
  | .notifySend ses idx sb t => u64 ses && u16 idx && u8 sb && u64 t
  | .notifyResend ses idx sb t => u64 ses && u16 idx && u8 sb && u64 t
  | .notifyAck r => r.fits
  | .dolliClose r => r.fits
  | .sessionIdleTimeout ses t => u64 ses && u64 t
  | .stagingExpiry ses idx sb t => u64 ses && u16 idx && u8 sb && u64 t
  | .statusProbe _ endpoint t => u8 endpoint && u64 t
  | .ethernetFrameReceive _ frame _ t => blobOk frame && u64 t
  | .neighbourDiscovery _ target t => addrOk target && u64 t
  | .echoRequest _ dst payload t => addrOk dst && blobOk payload && u64 t
  | .rdmaWrite m t => m.fits && u64 t
  | .rdmaWriteImm m rcounter addv t => m.fits && u16 rcounter && u64 addv && u64 t
  | .rdmaRead m t => m.fits && u64 t
  | .roceAckTimeout _ c t => decide (c < 1024) && u64 t
  | .runStart _ unit ready t => decide (unit < 1000) && decide (ready < 2 ^ 12) && u64 t
  | .ethLinkUp _ t => u64 t
  | .ethLinkDown _ t => u64 t
  | .put m t => m.fits && u64 t
  | .getRequest m t => m.fits && u64 t
  | .getResponse m t => m.fits && u64 t
  | .reduceF32 m t => m.fits && u64 t
  | .reduceI32 m t => m.fits && u64 t
  | .counterAdd m t => m.fits && u64 t
  | .token m t => m.fits && u64 t
  | .ack m t => m.fits && u64 t
  | .maintFlit _ payload t => payload.length == 240 && u64 t
  | .transitFlit _ pos flit t => decide (pos < 1000) && flit.length == 256 && u64 t
  | .opTimeout _ owner op t => u8 owner && u16 op && u64 t
  | .triggerRingRecord _ _ t => u64 t
  | .allreduce _ _ t => u64 t
  | .reduceScatter _ _ t => u64 t
  | .allgather _ _ t => u64 t
  | .alltoallv _ _ t => u64 t
  | .barrier _ _ t => u64 t
  | .linkTrainingStart _ t => u64 t
  | .portRetrain r _ => r.fits
  | .equalisationComplete _ locked t => decide (locked < 512) && u64 t
  | .peerIdentityExchange _ peer t => u64 peer && u64 t
  | .linkUp _ t => u64 t
  | .trainingTimeout _ t => u64 t
  | .laneSwap _ lane t => decide (lane < 9) && u64 t
  | .laneSwapResume _ t => u64 t
  | .portDown _ t => u64 t
  | .cablePresent _ _ t => u64 t
  | .gateToken m t => m.fits && u64 t
  | .gateTimeout _ t => u64 t
  | .voteRound m t => m.fits && u64 t
  | .verdictTimeout _ t => u64 t
  | .verdictQuery m t => m.fits && u64 t
  | .turnWrite m t => m.fits && u64 t
  | .turnWriteRetry _ entry t => u16 entry && u64 t
  | .turnFinal m t => m.fits && u64 t
  | .turnParked m t => m.fits && u64 t
  | .turnFail m t => m.fits && u64 t
  | .turnSwitch m t => m.fits && u64 t
  | .turnAbort m t => m.fits && u64 t
  | .turnUnpark m t => m.fits && u64 t
  | .turnQuery m t => m.fits && u64 t
  | .turnTokenResend _ t => u64 t
  | .turnLimitExpiry _ t => u64 t
  | .turnParkExpiry _ t => u64 t
  | .slotBoundary t => u64 t
  | .staggerExpiry _ t => u64 t
  | .rickWakeComplete _ t => u64 t
  | .wakeBoundReached _ t => u64 t
  | .idleHoldExpiry _ t => u64 t
  | .stateEntryComplete _ t => u64 t
  | .budgetWindow _ meanW t => u32 meanW && u64 t
  | .overrunWindow _ meanW t => u32 meanW && u64 t
  | .emergencyRaise _ t => u64 t
  | .emergencyEnd t => u64 t
  | .phaseFailure _ t => u64 t
  | .inputOutOfRange mv t => u32 mv && u64 t
  | .powerValid t => u64 t
  | .presenceOpen t => u64 t
  | .alertAssert t => u64 t
  | .alertRelease t => u64 t
  | .thermalCondition _ t => u64 t
  | .thermalShutdown t => u64 t
  | .thermalRestart t => u64 t
  | .referenceLoss _ t => u64 t
  | .referenceCompare _ t => u64 t
  | .bothReferencesLost t => u64 t
  | .referenceRestored _ t => u64 t
  | .sourceStable _ t => u64 t
  | .sourceTimeout _ t => u64 t
  | .monitorWindow _ count t => u64 count && u64 t
  | .sourceFailure _ t => u64 t
  | .controllerClockFailure _ t => u64 t
  | .tinderStart _ _ t => u64 t
  | .collierReady t => u64 t
  | .rickBringupStart _ t => u64 t
  | .rickReady _ _ t => u64 t
  | .fullService t => u64 t
  | .trialTimeout t => u64 t
  | .watchdogExpiry t => u64 t
  | .lockstepMismatch t => u64 t
  | .kindlingStart t => u64 t
  | .presenceClose bulkmV inmV t => u32 bulkmV && u32 inmV && u64 t
  | .pluggableModuleInsert _ watts t => u32 watts && u64 t
  | .roceAcknowledgement _ c psn _ data t => decide (c < 1024) && decide (psn < 2 ^ 24) && blobOk data && u64 t
  | .traceSample _ t => u64 t
  | .hearthWearStore t => u64 t

end Sys2Proof
end

