-- ==== Sys2Proof/Tests/Slice0.lean ====
section
/-!
SUPPORT. Tests: ill-formed commands are refused, the words and the worked examples of the spec are read as it reads them, and a witness for the hypotheses of each statement.
-/
namespace Sys2Proof.Tests
open Sys2Proof Sys2Proof.Machine

-- One theorem after the other: each waits for the kernel.
set_option Elab.async false

/-! Ill-formed commands: one for each check of Sys2Proof/WellFormed.lean -/

/-- A request whose fields fit. -/
def rq : Rq := ⟨1, 2, 3, true, 4⟩
/-- A fabric message whose fields fit. -/
def fm : FabMsg := ⟨0, 0, 1, false, 0xFFFF, 1, 0, 0, 0, 0, 0, 0, 0, zeros 64, []⟩
/-- A RoCE transfer whose fields fit. -/
def rm : RoceMsg := ⟨0, 0, 0, 0, 1, 0, 0, []⟩
/-- A HELLO whose fields fit. -/
def hm : HelloMsg := ⟨4, zeros 32, zeros 1184, zeros 32, 2, 7, 1⟩

theorem test_wf_good : (Instr.wake rq 0).wellFormed = true ∧ (Instr.put fm 1).wellFormed = true ∧ (Instr.rdmaWrite rm 1).wellFormed = true ∧
    (Instr.slotBoundary 0).wellFormed = true ∧ (Instr.add 0).wellFormed = true := by decide +kernel
theorem test_wf_hello : (Instr.hello hm 0).wellFormed = true := by decide +kernel
theorem test_wf_request : ∀ r ∈ [{ rq with ses := 2 ^ 64 }, { rq with seq := 2 ^ 64 }, { rq with id := 2 ^ 32 }, { rq with t := 2 ^ 64 }],
    (Instr.wake r 0).wellFormed = false := by decide +kernel
theorem test_wf_time : ∀ c ∈ [Instr.slotBoundary (2 ^ 64), .haltStop 0 (2 ^ 64), .scheduleFault 0 0 (2 ^ 64), .kvOpComplete 0 (2 ^ 64), .put fm (2 ^ 64)],
    c.wellFormed = false := by decide +kernel
theorem test_wf_numbers : ∀ c ∈ [Instr.scheduleFault 0 3 0, .passOverdue 0 16 0, .channelFailure 0 136 0, .substrateChannelFailure 0 4 0, .shardArrival 0 0 65536 [] 0,
    .refetchComplete 0 0 65536 true 0, .bufferFreed 0 (2 ^ 32) 0, .fmDone 0 (2 ^ 64) 0, .queueMessageWrite 0 0 (2 ^ 64) [] 0], c.wellFormed = false := by decide +kernel
theorem test_wf_entries : ∀ c ∈ [Instr.registerWrite rq 65536 0 [], .registerWrite rq 0 256 [], .dolliRead rq 65536 0, .readBlock rq 0 0 (2 ^ 32) 0 false,
    .readBlock rq 0 0 0 (2 ^ 32) false, .writeBlock rq 0 0 (2 ^ 32) true true [], .subscribe rq 0 256 false, .store rq 0 256 true, .notifySend (2 ^ 64) 0 0 0,
    .finish 1 (2 ^ 64) true 0, .statusProbe 0 256 0], c.wellFormed = false := by decide +kernel
theorem test_wf_hello_fields : ∀ m ∈ [{ hm with x25519 := [] }, { hm with mlkem := [] }, { hm with nonce := [] }, { hm with role := 256 }, { hm with tenant := 2 ^ 128 },
    { hm with cred := 2 ^ 64 }], (Instr.hello m 0).wellFormed = false := by decide +kernel
theorem test_wf_message_fields : ∀ m ∈ [{ fm with pos := 1000 }, { fm with msgid := 2 ^ 32 }, { fm with rcounter := 65536 }, { fm with rkey := 2 ^ 32 }, { fm with dest := 2 ^ 64 },
    { fm with src := 2 ^ 64 }, { fm with tenant := 2 ^ 128 }, { fm with roff := 2 ^ 64 }, { fm with len := 2 ^ 32 }, { fm with addv := 2 ^ 32 }, { fm with aux := 2 ^ 64 },
    { fm with body := [] }], (Instr.token m 0).wellFormed = false := by decide +kernel
theorem test_wf_transfer_fields : ∀ m ∈ [{ rm with conn := 1024 }, { rm with psn := 2 ^ 24 }, { rm with rkey := 2 ^ 32 }, { rm with roff := 2 ^ 64 }, { rm with length := 2 ^ 32 }],
    (Instr.rdmaRead m 0).wellFormed = false := by decide +kernel
theorem test_wf_ports : ∀ c ∈ [Instr.maintFlit 0 [] 0, .transitFlit 0 1000 (zeros 256) 0, .transitFlit 0 1 [] 0, .opTimeout 0 256 0 0, .opTimeout 0 0 65536 0,
    .equalisationComplete 0 512 0, .peerIdentityExchange 0 (2 ^ 64) 0, .laneSwap 0 9 0, .runStart 0 1000 0 0, .runStart 0 0 4096 0, .roceAckTimeout 0 1024 0,
    .roceAcknowledgement 0 0 (2 ^ 24) false [] 0, .neighbourDiscovery 0 [] 0, .echoRequest 0 [] [] 0, .rdmaWriteImm rm 65536 0 0, .rdmaWriteImm rm 0 (2 ^ 64) 0,
    .turnWriteRetry 0 65536 0], c.wellFormed = false := by decide +kernel
theorem test_wf_measures : ∀ c ∈ [Instr.budgetWindow 0 (2 ^ 32) 0, .overrunWindow 0 (2 ^ 32) 0, .inputOutOfRange (2 ^ 32) 0, .monitorWindow 0 (2 ^ 64) 0,
    .presenceClose (2 ^ 32) 0 0, .presenceClose 0 (2 ^ 32) 0, .pluggableModuleInsert 0 (2 ^ 32) 0], c.wellFormed = false := by decide +kernel
/-- Bytes whose number does not fit LENGTH are refused: no such list is written out. -/
theorem test_wf_blob (v : List Byte) (h : 2 ^ 32 ≤ v.length) : (Instr.rickMask rq 0 v).wellFormed = false ∧ (Instr.ethernetFrameReceive 0 v true 0).wellFormed = false := by
  have e : blobOk v = false := decide_eq_false (Nat.not_lt.mpr h)
  constructor
  · show (rq.fits && blobOk v) = false
    rw [e, Bool.and_false]
  · show (blobOk v && u64 0) = false
    rw [e, Bool.false_and]

/-! Words of Table 03-3, written out from the fields of Table 03-2 -/

/-- The words that the worked example after Table 03-8 spells, and one of each format, field by field: OP [31:26], A [25:20], B [19:14], C [13:8], FN [7:0] and the
immediates, as Table 03-2 places them. -/
theorem test_words : ∀ x ∈ ([(0xA081C800, Mn.issue), (0x81090005, .bsum), (0b000000_000001_000010_000011_00000000, .add), (0b000000_000001_000010_000011_00001101, .max),
    (0b000000_000001_000010_000011_00010111, .fcvtf), (0b000001_000001_000010_00000000000101, .addi), (0b001000_000001_00000000000000000111, .movh),
    (0b010000_000001_000010_00000000001000, .ld64), (0b010111_000001_000010_00000000001000, .st8), (0b011000_000001_000010_11111111111110, .beq),
    (0b011101_000001_000010_11111111111110, .bgeu), (0b011110_000001_000000_00000000000101, .jmp), (0b011111_000001_000010_00000000000000, .jr),
    (0b100001_000001_000_010_00000000000000, .srd), (0b100010_000001_000_010_00000000000000, .sflg), (0b101001_000000011_000_00000000000000, .fence),
    (0b101010_00000000000000010010110000, .waitc), (0b110000_000001_000010_000011_00000101, .bar), (0b110001_000001_000010_000011_11111111, .poll),
    (0b111000_000001_000000_00000000000110, .csrr), (0b111001_000000_000001_00000000000110, .csrw), (0b111011_000000_000000_00000000001001, .note),
    (0b111100_000000_000001_00000000000000, .stepend)] : List (W32 × Mn)), mnOf x.1 = some x.2 := by decide +kernel
/-- Words Table 03-3 does not list, or with a bit set that Table 03-2 marks 0, are no instruction. -/
theorem test_words_refused : ([0b000000_000001_000010_000011_00001110, 0b000000_000001_000010_000011_00011000, 0b001001_00000000000000000000000000, 0b011110_000001_000001_00000000000101,
    0b100000_010_000100_1_01_00000000000101, 0b100001_000001_001_010_00000000000000, 0b101000_0010_01_000111_001000_000000_00, 0b101000_1001_00_000111_001000_000000_00,
    0b101001_000000011_001_00000000000000, 0b110000_000001_000010_000011_00000110, 0b110001_000001_000010_000011_00000000, 0b111010_00000000000000000000000000, 0b111111_00000000000000000000000000] :
    List W32).map mnOf = List.replicate 13 none := by decide +kernel
/-- The fields of the example's ISSUE: engine 2, B 7, C 8; of its BSUM: Y2, NAN, SENSE 1, and the target 0x0108 from 0x0103. -/
theorem test_word_fields : wEng 0xA081C800 = 2 ∧ wB 0xA081C800 = 7 ∧ wC 0xA081C800 = 8 ∧ wD 0xA081C800 = 0 ∧ wYsb 0x81090005 = 2 ∧ wMaskSb 0x81090005 = 4 ∧
    wSense 0x81090005 = true ∧ wTarget 0x81090005 0x0103 = 0x0108 := by decide +kernel
/-- The table of operations gives no bits, so no word spells a command. -/
theorem test_no_word (n w : Nat) : decodeTableWord n w = none := rfl

/-! Small states -/

/-- Hearth 0 of rick 0 in a running partition 0, its core about to start word `w`. -/
def core1 (w : W32) (h : Hearth := {}) : State :=
  { dict := [(E.RICK_MASK 0, .num 1)], parts := [(0, { phase := .running })], ricks := [(0, { pst := 0 })], hearths := [(0, { h with imem := [w], pc := 0 })] }


/-! Witnesses: the hearth core -/

/-- `CoreAt` as a test. -/
def coreAtB (s : State) (g n l : Nat) (w : W32) (m : Mn) : Bool :=
  s.coreReady g == some (n, l) && (s.hearth g).fetch == some w && s.uncorrectable (imBase g + 4 * (s.hearth g).pc) 4 == false && mnOf w == some m

theorem coreAt_of {s : State} {g n l : Nat} {w : W32} {m : Mn} (h : coreAtB s g n l w m = true) : CoreAt s g n l w m := by
  unfold coreAtB at h
  simp only [Bool.and_eq_true, beq_iff_eq] at h
  exact ⟨h.1.1.1, h.1.1.2, h.1.2, h.2⟩

/-- A word of the RR and SY formats: A 1, B 2, C 3. -/
def rr (op fn : Nat) : W32 := BitVec.ofNat 32 (op * 2 ^ 26 + 2 ^ 20 + 2 * 2 ^ 14 + 3 * 2 ^ 8 + fn)
/-- A word of the RI and BR formats: A 1, B 2. -/
def ri (op imm : Nat) : W32 := BitVec.ofNat 32 (op * 2 ^ 26 + 2 ^ 20 + 2 * 2 ^ 14 + imm)

/-- Words whose core at hearth 0 is about to start them. -/
theorem coreAt_all (h : Hearth) (l : List (W32 × Mn)) (e : l.all (fun x => coreAtB (core1 x.1 h) 0 0 0 x.1 x.2) = true) :
    ∀ x ∈ l, CoreAt (core1 x.1 h) 0 0 0 x.1 x.2 := fun x m => coreAt_of (List.all_eq_true.mp e x m)

theorem witness_CoreIntegerResult : ∀ x ∈ ([(rr 0 0, .add), (rr 0 1, .sub), (rr 0 2, .and), (rr 0 3, .or), (rr 0 4, .xor), (rr 0 5, .shl), (rr 0 6, .shr), (rr 0 7, .sar), (rr 0 8, .mul),
    (rr 0 9, .mulh), (rr 0 10, .slt), (rr 0 11, .sltu), (rr 0 12, .min), (rr 0 13, .max)] : List (W32 × Mn)), CoreAt (core1 x.1 {}) 0 0 0 x.1 x.2 :=
  coreAt_all {} _ (by decide +kernel)
theorem witness_CoreImmediateResult : ∀ x ∈ ([(ri 1 0x2000, .addi), (ri 2 0x3FFF, .andi), (ri 3 0, .ori), (ri 4 1, .xori), (ri 5 63, .shli), (ri 6 63, .shri), (ri 7 0, .sari),
    (ri 8 0, .movh)] : List (W32 × Mn)), CoreAt (core1 x.1 {}) 0 0 0 x.1 x.2 := coreAt_all {} _ (by decide +kernel)
theorem witness_CoreFloatResult : ∀ x ∈ ([(rr 0 0x10, .fadd), (rr 0 0x11, .fsub), (rr 0 0x12, .fmul), (rr 0 0x13, .fmin), (rr 0 0x14, .fmax), (rr 0 0x15, .flt), (rr 0 0x16, .fcvti),
    (rr 0 0x17, .fcvtf)] : List (W32 × Mn)), CoreAt (core1 x.1 {}) 0 0 0 x.1 x.2 := coreAt_all {} _ (by decide +kernel)

/-- An access of word `w` at hearth 0 with S2 = `b` and the uncorrectable words `bad`: its address `a`, and whether its `k` bytes are sound. -/
def accB (w : W32) (m : Mn) (b : W64) (bad : List Nat) (a k : Nat) (sound : Bool) : Bool :=
  let s : State := { core1 w { regs := [(2, b)] } with bad := bad }
  coreAtB s 0 0 0 w m && (s.opB 0 w + wImm w).toNat == a && s.uncorrectable (sdWork 0 + a) k == !sound

/-- The same as a proposition: what the statements of loads, stores and their traps assume. -/
def AccAt (w : W32) (m : Mn) (b : W64) (bad : List Nat) (a k : Nat) (sound : Bool) : Prop :=
  let s : State := { core1 w { regs := [(2, b)] } with bad := bad }
  CoreAt s 0 0 0 w m ∧ (s.opB 0 w + wImm w).toNat = a ∧ s.uncorrectable (sdWork 0 + a) k = !sound

theorem acc_of {w : W32} {m : Mn} {b : W64} {bad : List Nat} {a k : Nat} {v : Bool} (h : accB w m b bad a k v = true) : AccAt w m b bad a k v := by
  unfold accB at h
  simp only [Bool.and_eq_true, beq_iff_eq] at h
  exact ⟨coreAt_of h.1.1, h.1.2, h.2⟩

/-- The last aligned access of each size below 0x8000, of sound words. -/
theorem witness_CoreLoadResult : AccAt (ri 0x10 0) .ld64 0x7FF8 [] 0x7FF8 8 true ∧ AccAt (ri 0x11 4) .ld32 0x7FF8 [] 0x7FFC 4 true ∧ AccAt (ri 0x12 6) .ld16 0x7FF8 [] 0x7FFE 2 true ∧
    AccAt (ri 0x13 7) .ld8 0x7FF8 [] 0x7FFF 1 true := ⟨acc_of (by decide +kernel), acc_of (by decide +kernel), acc_of (by decide +kernel), acc_of (by decide +kernel)⟩
theorem witness_CoreStoreResult : AccAt (ri 0x14 0) .st64 0x7FF8 [] 0x7FF8 8 true ∧ AccAt (ri 0x15 4) .st32 0x7FF8 [] 0x7FFC 4 true ∧ AccAt (ri 0x16 6) .st16 0x7FF8 [] 0x7FFE 2 true ∧
    AccAt (ri 0x17 7) .st8 0x7FF8 [] 0x7FFF 1 true := ⟨acc_of (by decide +kernel), acc_of (by decide +kernel), acc_of (by decide +kernel), acc_of (by decide +kernel)⟩
/-- Misaligned by one; aligned and just past 0x8000; aligned in an uncorrectable word; a fetch past the image. -/
theorem witness_AccessTraps : AccAt (ri 0x10 1) .ld64 0 [] 1 8 true ∧ AccAt (ri 0x17 0) .st8 0x8000 [] 0x8000 1 true ∧ AccAt (ri 0x11 4) .ld32 0 [sdWork 0 / 16] 4 4 false ∧
    ({ core1 0 with hearths := [(0, { pc := 1, imem := [0] })] } : State).coreReady (0 : Fin 216) = some (0, 0) ∧
    (({ core1 0 with hearths := [(0, { pc := 1, imem := [0] })] } : State).hearth 0).fetch = none :=
  ⟨acc_of (by decide +kernel), acc_of (by decide +kernel), acc_of (by decide +kernel), by decide +kernel⟩

/-- With A = B: BEQ, BGE and BGEU are taken, BNE, BLT and BLTU are not; the furthest jump back and forward. -/
theorem witness_CoreBranchResult :
    (∀ x ∈ ([(ri 0x18 0x3FFF, .beq), (ri 0x1B 0, .bge), (ri 0x1D 0x1FFF, .bgeu), (ri 0x19 0, .bne), (ri 0x1A 0, .blt), (ri 0x1C 0, .bltu), (BitVec.ofNat 32 (0x1E * 2 ^ 26 + 2 ^ 20 + 0x3FFF), .jmp),
      (ri 0x1F 0, .jr)] : List (W32 × Mn)), CoreAt (core1 x.1 {}) 0 0 0 x.1 x.2) ∧
    ((core1 (ri 0x18 0x3FFF)).opA 0 (ri 0x18 0x3FFF) = (core1 (ri 0x18 0x3FFF)).opB 0 (ri 0x18 0x3FFF)) :=
  ⟨coreAt_all {} _ (by decide +kernel), by decide +kernel⟩

/-- BSUM on Y2 with the NAN flag of MASK: taken with the flag set, not taken without; an invalid register with a pending writer, and without one. -/
theorem witness_SummaryRead :
    (∀ x ∈ ([(0b100001_000001_000_010_00000000000000, .srd), (0b100010_000001_000_010_00000000000000, .sflg), (0x81090005, .bsum)] : List (W32 × Mn)),
      CoreAt (core1 x.1 { ys := [(2, ⟨7, 4, true, none⟩)] }) 0 0 0 x.1 x.2 ∧ CoreAt (core1 x.1 { ys := [(2, ⟨7, 0, false, some 3⟩)] }) 0 0 0 x.1 x.2 ∧ CoreAt (core1 x.1 {}) 0 0 0 x.1 x.2) ∧
    wYsb 0x81090005 = 2 ∧ wMaskSb 0x81090005 &&& 4 ≠ 0 ∧ wMaskSb 0x81090005 &&& 8 = 0 ∧ wSense 0x81090005 = true ∧ wSense 0x81080005 = false ∧
    wYsr 0b100001_000001_000_010_00000000000000 = 2 :=
  ⟨fun x hx => ⟨coreAt_all { ys := [(2, ⟨7, 4, true, none⟩)] } _ (by decide +kernel) x hx, coreAt_all { ys := [(2, ⟨7, 0, false, some 3⟩)] } _ (by decide +kernel) x hx,
    coreAt_all {} _ (by decide +kernel) x hx⟩, by decide +kernel⟩

/-- WAITC for cycle 10. -/
def waitc10 : W32 := 0b101010_00000000000000000000001010
/-- FENCE of engines 0 and 1. -/
def fence01 : W32 := 0b101001_000000011_000_00000000000000

/-- WAITC at cycles 8 (it stalls), 9 and 10 (it goes on), 11 (a schedule fault); FENCE of idle engines and of a busy one; BAR 3 alone; STEPEND with nothing issued and with an engine busy; a
WAITC that waits. -/
theorem witness_CoreWaiting :
    (CoreAt (core1 waitc10 { cycle := 8 }) 0 0 0 waitc10 .waitc ∧ CoreAt (core1 waitc10 { cycle := 9 }) 0 0 0 waitc10 .waitc ∧ CoreAt (core1 waitc10 { cycle := 10 }) 0 0 0 waitc10 .waitc ∧
      CoreAt (core1 waitc10 { cycle := 11 }) 0 0 0 waitc10 .waitc ∧ wCycle waitc10 = 10) ∧
    (CoreAt (core1 fence01) 0 0 0 fence01 .fence ∧ CoreAt (core1 fence01 { engs := [(1, [{}])] }) 0 0 0 fence01 .fence ∧ wMaskFc fence01 = 3 ∧ ({} : Hearth).idleMask 3 = true ∧
      ({ engs := [(1, [{}])] } : Hearth).idleMask 3 = false) ∧
    CoreAt (core1 (rr 0x30 5)) 0 0 0 (rr 0x30 5) .bar ∧ CoreAt (core1 (ri 0x3C 0)) 0 0 0 (ri 0x3C 0) .stepend ∧ ({} : Hearth).idleMask 511 = true ∧
    CoreAt (core1 (ri 0x3C 0) { engs := [(8, [{}])] }) 0 0 0 (ri 0x3C 0) .stepend ∧ ({ engs := [(8, [{}])] } : Hearth).idleMask 511 = false ∧
    ((core1 waitc10 { stall := .waitc 10 8 }).partOf (0 / 18) = some 0 ∧ (core1 waitc10 { stall := .waitc 10 8 }).haltedNow 0 = false) :=
  ⟨⟨coreAt_of (by decide +kernel), coreAt_of (by decide +kernel), coreAt_of (by decide +kernel), coreAt_of (by decide +kernel), by decide +kernel⟩,
   ⟨coreAt_of (by decide +kernel), coreAt_of (by decide +kernel), by decide +kernel⟩, coreAt_of (by decide +kernel), coreAt_of (by decide +kernel), by decide +kernel,
   coreAt_of (by decide +kernel), by decide +kernel, by decide +kernel⟩

/-- Every active hearth of rick 0 waits in barrier 3 with ADD. -/
def barState : State := { core1 0 with hearths := (List.range 16).map (fun g => (g, { stall := .bar 3 5 1 (g + 1) 7 })) }
theorem witness_BarrierCompletes : barState.hearthsOf 0 ≠ [] ∧ (barState.part 0).phase = .running ∧ barState.haltedNow 0 = false ∧
    ∀ l ∈ barState.hearthsOf 0, (barState.hearth (barState.phys l)).stall = .bar 3 5 1 (barState.phys l + 1) 7 := by decide +kernel

/-- CSRR and CSRW of NANSTAT and of number 7; a first note and a later one; a poll. -/
theorem witness_CoreRegisters :
    (∀ x ∈ ([(ri 0x38 6, .csrr), (ri 0x38 0, .csrr), (ri 0x38 7, .csrr), (ri 0x39 6, .csrw), (ri 0x39 7, .csrw), (ri 0x3B 9, .note), (rr 0x31 255, .poll)] : List (W32 × Mn)),
      CoreAt (core1 x.1 {}) 0 0 0 x.1 x.2) ∧
    CoreAt (core1 (ri 0x3B 9) { noted := true }) 0 0 0 (ri 0x3B 9) .note ∧ (ri 0x38 7).toNat % 2 ^ 14 = 7 ∧ (ri 0x39 6).toNat % 2 ^ 14 = 6 :=
  ⟨coreAt_all {} _ (by decide +kernel), coreAt_of (by decide +kernel), by decide +kernel⟩

/-- ISSUE to engine 2 of the descriptor at S2. -/
def issue2 : W32 := 0b101000_0010_00_000010_000000_000000_00
/-- The last descriptor within scalar data, a misaligned one, one past the end; a full queue. -/
theorem witness_IssueResult : CoreAt (core1 issue2 { regs := [(2, 0x7FC0)] }) 0 0 0 issue2 .issue ∧ CoreAt (core1 issue2 { regs := [(2, 0x7FC1)] }) 0 0 0 issue2 .issue ∧
    CoreAt (core1 issue2 { regs := [(2, 0x8000)] }) 0 0 0 issue2 .issue ∧ (core1 issue2 { regs := [(2, 0x7FC0)] }).uncorrectable (sdWork 0 + 0x7FC0) 64 = false ∧
    CoreAt (core1 issue2 { regs := [(2, 0x7FC0)], engs := [(2, [{}, {}, {}, {}])] }) 0 0 0 issue2 .issue ∧ wEng issue2 = 2 ∧ wB issue2 = 2 :=
  ⟨coreAt_of (by decide +kernel), coreAt_of (by decide +kernel), coreAt_of (by decide +kernel), by decide +kernel, coreAt_of (by decide +kernel), by decide +kernel⟩

/-- Nothing to start at reset; a word Table 03-3 does not list; another instruction; an uncorrectable word. -/
theorem witness_CoreRowsStart : State.reset.coreReady (0 : Fin 216) = none ∧ (core1 0xFFFFFFFF).coreReady (0 : Fin 216) = some (0, 0) ∧ mnOf 0xFFFFFFFF = none ∧
    ((core1 0xFFFFFFFF).hearth 0).fetch = some 0xFFFFFFFF ∧ (core1 0xFFFFFFFF).uncorrectable (imBase 0) 4 = false ∧
    ({ core1 (rr 0 0) with bad := [imBase 0 / 16] } : State).uncorrectable (imBase 0 + 4 * (({ core1 (rr 0 0) with bad := [imBase 0 / 16] } : State).hearth 0).pc) 4 = true ∧
    mnOf (rr 0 0) = some .add ∧ Mn.add ≠ .sub := by decide +kernel

theorem witness_ComparatorsChangeNoRegister : ∀ i < 10, (fld (({} : State).bpRec 0 0) (8 * i) 8).testBit 63 = false := by decide +kernel
theorem witness_FatalTrapStops : (({} : State).part 0).trapAt = none ∧ (({ parts := [(0, { trapAt := some 5 })] } : State).part 0).trapAt = some 5 := by decide +kernel

/-- A piece that falls due at its start cycle, one in progress, a running attempt, a halt whose stop every core has reached. -/
def haltState : State := { core1 0 with parts := [(0, { phase := .running, halt := some ⟨0x0E, 0, 0, 0, 0, 0, 0, 0, 0, none⟩ })] }
theorem witness_RakingAndHaltEvents : (({ parts := [(0, { inPiece := true })] } : State).part 0).inPiece = true ∧ (core1 0).partOf 0 = some 0 ∧ ((core1 0).part 0).phase = .running ∧
    (haltState.part 0).inPiece = false ∧ haltState.allStopped 0 0 = true := by decide +kernel

/-! Witnesses: the engines -/

/-- A descriptor of an operation with one more field. -/
def desc (op off n v : Nat) : List Byte := setFld (setFld (zeros 64) 0 2 op) off n v
/-- Hearth 0 with operations in the queue of engine `e`. -/
def eng1 (e : Nat) (l : List Op) (h : Hearth := {}) : State := { core1 0 with hearths := [(0, { h with engs := [(e, l)] })] }

/-- `Waits` as a test, with one operation in the queue. -/
def waitsB (s : State) (e : Nat) (o : Op) : Bool := s.partOf 0 == some 0 && s.logical 0 == some 0 && (s.hearth 0).ops e == [o] && !o.started

theorem waits_of {s : State} {e : Nat} {o : Op} (h : waitsB s e o = true) : Waits s 0 e 0 0 [] o [] := by
  unfold waitsB at h
  simp only [Bool.and_eq_true, beq_iff_eq, Bool.not_eq_true'] at h
  exact ⟨h.1.1.1, h.1.1.2, by rw [h.1.2]; rfl, by simp, by simpa using h.2⟩

theorem waits_all (l : List (Nat × List Byte)) (e : l.all (fun x => waitsB (eng1 x.1 [{ desc := x.2 }]) x.1 { desc := x.2 }) = true) :
    ∀ x ∈ l, Waits (eng1 x.1 [{ desc := x.2 }]) 0 x.1 0 0 [] { desc := x.2 } [] := fun x m => waits_of (List.all_eq_true.mp e x m)

/-- Every row that starts an operation finds its operation waiting; an empty queue; another operation. -/
theorem witness_EngineOperationStarts :
    (∀ x ∈ (startRows 0).map (fun x => (x.2.1, desc x.2.2 2 1 0)), Waits (eng1 x.1 [{ desc := x.2 }]) 0 x.1 0 0 [] { desc := x.2 } []) ∧
    ((startRows 0).all (fun x => dOp (desc x.2.2 2 1 0) == x.2.2) = true) ∧ ((eng1 4 [{ desc := desc 0x0403 2 1 0 }]).hearth 0).slotPending 0 0 = false ∧
    (∀ o ∈ ((core1 0).hearth 0).ops 1, o.started = true) := ⟨waits_all _ (by decide +kernel), by decide +kernel, by decide +kernel, by decide +kernel⟩

/-- Each operation of Table 05-4 on FP32 elements. -/
theorem witness_VectorResult :
    (∀ x ∈ [0x0101, 0x0102, 0x0103, 0x0104, 0x0105, 0x0106, 0x0107, 0x0108, 0x0109, 0x010A, 0x0110, 0x0111, 0x0112, 0x0113, 0x0114, 0x0115].map (fun op => (1, desc op 0x34 1 0x99)),
      Waits (eng1 x.1 [{ desc := x.2 }]) 0 x.1 0 0 [] { desc := x.2 } []) ∧ dDty (desc 0x0101 0x34 1 0x99) = dSrc (desc 0x0101 0x34 1 0x99) :=
  ⟨waits_all _ (by decide +kernel), by decide +kernel⟩
/-- The four reductions and TOPK; ARGMAX of one row of one element. -/
theorem witness_ReductionResult :
    (∀ x ∈ [0x0201, 0x0202, 0x0203, 0x0204, 0x0205, 0x0206].map (fun op => (2, desc op 0x24 4 0x00010001)), Waits (eng1 x.1 [{ desc := x.2 }]) 0 x.1 0 0 [] { desc := x.2 } []) ∧
    dRows (desc 0x0205 0x24 4 0x00010001) = 1 ∧ dCount (desc 0x0205 0x24 4 0x00010001) = 1 := ⟨waits_all _ (by decide +kernel), by decide +kernel⟩
theorem witness_ConversionResult :
    (∀ x ∈ [0x0301, 0x0302, 0x0303, 0x0304, 0x0305, 0x0306].map (fun op => (3, desc op 0x34 1 0x99)), Waits (eng1 x.1 [{ desc := x.2 }]) 0 x.1 0 0 [] { desc := x.2 } []) ∧
    ((eng1 3 [{ desc := desc 0x0305 0x34 1 0x99 }]).expandRow 0 (desc 0x0305 0x34 1 0x99) 0).length = dCount (desc 0x0305 0x34 1 0x99) := ⟨waits_all _ (by decide +kernel), by decide +kernel⟩
theorem witness_StatisticsAndSampling :
    (∀ x ∈ [(4, 0x0401), (4, 0x0402), (4, 0x0403), (5, 0x0501), (5, 0x0502), (5, 0x0503)].map (fun x => (x.1, desc x.2 0x34 1 0x99)),
      Waits (eng1 x.1 [{ desc := x.2 }]) 0 x.1 0 0 [] { desc := x.2 } []) ∧ ((eng1 4 [{ desc := desc 0x0403 0x34 1 0x99 }]).hearth 0).slotPending 0 0 = false :=
  ⟨waits_all _ (by decide +kernel), by decide +kernel⟩
/-- An MMUL that waits; one that has started; one that is complete and writes back. -/
theorem witness_MatrixOperation : Waits (eng1 0 [{ desc := desc 0 0x34 2 1 }]) 0 0 0 0 [] { desc := desc 0 0x34 2 1 } [] ∧
    ((eng1 0 [{ started := true }]).partOf (0 / 18) = some 0 ∧ (eng1 0 [{ started := true }]).logical 0 = some 0 ∧ ((eng1 0 [{ started := true }]).hearth 0).ops 0 = [] ++ { started := true } :: [] ∧
      ((eng1 0 [{ started := true, complete := true }]).hearth 0).ops 0 = { started := true, complete := true } :: []) ∧ ∀ k c, ((eng1 0 []).hearth 0).stall ≠ .stepend k c :=
  ⟨waits_of (by decide +kernel), by decide +kernel, fun _ _ h => Stall.noConfusion h⟩
/-- On each engine an operation that has started, sound and with a trap. -/
theorem witness_EngineOperationCompletes : (∀ e ∈ [1, 2, 3, 4, 5, 6, 7, 8], (eng1 e [{ started := true }]).oldest (0 : Fin 216) e = some (0, 0, { started := true }) ∧
    (eng1 e [{ started := true, res := { trap := true } }]).oldest (0 : Fin 216) e = some (0, 0, { started := true, res := { trap := true } })) ∧
    ∀ k c, ((eng1 1 []).hearth 0).stall ≠ .stepend k c := ⟨by decide +kernel, fun _ _ h => Stall.noConfusion h⟩

/-- A descriptor of the KV engine: list 0, model 0, POS and COUNT. -/
def kvDesc (op pos count : Nat) : List Byte := setFld (desc op 0x20 4 pos) 0x24 2 count
/-- A live handle in slot 0, whose directory is list 1 of rick 0 with one entry to attach, in a partition whose policy allows its epoch. -/
def kvState (l : List Op) : State :=
  { dict := [(E.RICK_MASK 0, .num 1), (E.EPOCH_POLICY 0, .num 2)].foldl (fun d x => d.put x.1 x.2) [],
    parts := [(0, { phase := .running })], ricks := [(0, { pst := 0 })], hearths := [(0, { engs := [(7, l)] })], handles := [(0, {})] }
theorem witness_AttentionAndKv :
    (∀ x ∈ [(6, desc 0x0601 2 1 0), (7, desc 0x0701 0x18 2 0xFFFF), (7, desc 0x0705 0x18 2 0xFFFF), (7, kvDesc 0x0701 1 1), (7, kvDesc 0x0701 0 0), (7, kvDesc 0x0702 0 1),
      (7, kvDesc 0x0703 0 0), (7, kvDesc 0x0704 0 0), (7, kvDesc 0x0705 0 0)], Waits (eng1 x.1 [{ desc := x.2 }]) 0 x.1 0 0 [] { desc := x.2 } []) ∧
    kvPadded (desc 0x0701 0x18 2 0xFFFF) = true ∧ kvPadded (kvDesc 0x0701 1 1) = false ∧ (kvState []).dirBad 0 0 0 = false ∧ ((kvState []).dir 0 0).lenOf 0 = 0 ∧
    (kvState []).appendedEnd 0 0 0 0 0 = 0 ∧ kvPos (kvDesc 0x0701 1 1) + kvCount (kvDesc 0x0701 1 1) = 2 ∧ kvPos (kvDesc 0x0701 0 0) + kvCount (kvDesc 0x0701 0 0) = 0 ∧
    (kvState []).writeEnd 0 0 0 = 0 ∧ ((kvState []).dir 0 0).isEmpty = true ∧ (kvState []).handle 0 (bits (kvHandle (kvDesc 0x0704 0 0)) 59 48) = some {} ∧
    (kvState []).dirBad 0 0 ((kvState []).handleList 0 0) = false ∧ kvHandle (kvDesc 0x0704 0 0) = 0 ∧ (kvState []).epochAllows 0 0 {} = true ∧ ({} : State).handle 0 0 = none ∧
    (kvState []).snapSlot 0 0 0 = some (1, true) :=
  ⟨waits_all _ (by decide +kernel), by decide +kernel⟩
/-- Each operation of the layout engine, on tier B, and LIN_IN and LIN_OUT on tier P. -/
theorem witness_LayoutResult :
    (∀ x ∈ [(8, desc 1 0x18 8 (2 ^ 60)), (8, desc 2 0x18 8 (2 ^ 60)), (8, desc 3 0x18 8 (2 ^ 60)), (8, desc 4 0x24 4 1), (8, desc 5 0x24 4 1), (8, desc 6 0x24 4 1), (8, desc 1 0x18 8 (3 * 2 ^ 60)),
      (8, desc 2 0x18 8 (3 * 2 ^ 60))], Waits (eng1 x.1 [{ desc := x.2 }]) 0 x.1 0 0 [] { desc := x.2 } []) ∧
    taTier (laT (desc 1 0x18 8 (2 ^ 60))) = 1 ∧ taTier (laT (desc 1 0x18 8 (3 * 2 ^ 60))) = 3 := ⟨waits_all _ (by decide +kernel), by decide +kernel⟩
/-- The largest finite FP32 code. -/
theorem witness_FormatCodesRoundTrip : 0x7F7FFFFF < 2 ^ (1 + fmtFP32.eb + fmtFP32.fb) ∧ (fmtFP32.decode 0x7F7FFFFF).isNan = false := by decide +kernel

/-! Witnesses: Dolli -/

/-- Session 1 of an operator on network B, session 2 of the tenant of partition 0, session 3 not live; nothing else of note. -/
def dol (d : List (Nat × DVal) := []) (waits : List Waiting := []) : State :=
  { sessions := [(1, { role := 1, net := 1, live := true }), (2, { role := 2, net := 1, tenant := 7, live := true, top := 2000, seen := [1990] }), (3, { role := 1 })], waits := waits,
    dict := (([(E.RICK_MASK 0, .num 1), (E.PART_TENANT 0, .num 0), (E.TENANT_ID 0, .blob (leBytes 16 7)), (E.BOOT_STATE, .num 3), (E.LOAD_SLOT 0, .num 0), (E.WSET_SLOT 0, .num 0)] : List (Nat × DVal)) ++ d).foldl (fun d x => d.put x.1 x.2) [] }
/-- A request of the operator and one of the tenant. -/
def rqO : Rq := ⟨1, 1, 3, true, 4⟩
def rqT : Rq := ⟨2, 2001, 3, true, 4⟩

/-- `Admitted` as a test. -/
def admB (s : State) (r : Rq) (op key : Nat) : Bool :=
  match ((s.at r.t).accept r.ses r.seq r.ok).2 with
  | some x => (x.kept.find? (fun k => k.1 == r.id)).isNone && !(s.arrived r).waits.any (fun w => w.ses == r.ses && w.id == r.id) && decide ((s.arrived r).unanswered r.ses < 64) &&
      (s.arrived r).permit x op key == 0
  | none => false

theorem adm_of {s : State} {r : Rq} {op key : Nat} (h : admB s r op key = true) : ∃ x, Admitted s r op key x := by
  unfold admB at h
  split at h
  · next x e =>
    simp only [Bool.and_eq_true, Bool.not_eq_true', decide_eq_true_eq, beq_iff_eq, Option.isNone_iff_eq_none] at h
    exact ⟨x, e, h.1.1.1, h.1.1.2, h.1.2, h.2⟩
  · cases h

theorem adm_all (s : State) (r : Rq) (op : Nat) (l : List Nat) (h : l.all (admB s r op) = true) : ∀ k ∈ l, ∃ x, Admitted s r op k x := fun k m => adm_of (List.all_eq_true.mp h k m)

/-- A message of no session and of one that is not live; a bad tag; the last SEQ that is too old and the first that is not; one already accepted. -/
theorem witness_MessagesDroppedOrRejected : messageOf (.wake rqT 0) = some rqT ∧ Tab.look (dol.at 4).sessions 9 = none ∧ (Tab.look (dol.at 4).sessions 3).map Session.live = some false ∧
    (∃ x, Tab.look (dol.at 4).sessions 2 = some x ∧ x.live = true ∧ 976 + 1024 ≤ x.top ∧ ¬ 977 + 1024 ≤ x.top ∧ 1990 ∈ x.seen) :=
  ⟨rfl, by decide +kernel, by decide +kernel, ⟨{ role := 2, net := 1, tenant := 7, live := true, top := 2000, seen := [1990] }, by decide +kernel⟩⟩

/-- A request whose number was answered, one that waits, the 65th unanswered one, one without the right. -/
theorem witness_RequestGate :
    (requestOf (.wake rqT 0) = some (rqT, opCmd, E.WAKE 0)) ∧ (((dol.at 4).accept rqT.ses rqT.seq rqT.ok).2.isSome = true) ∧
    ((({ dol with sessions := [(2, { role := 2, live := true, kept := [(3, { ses := 2, kind := 0x11 })] })] } : State).at 4).accept 2 1 true).2.map (fun x => (x.kept.find? (fun k => k.1 == 3)).isSome) = some true ∧
    (((dol [] [.fetch rqT 0]).arrived rqT).waits.any (fun w => w.ses == 2 && w.id == 3) = true) ∧
    64 ≤ ((dol [] (List.replicate 64 (.fetch { rqT with id := 9 } 0))).arrived rqT).unanswered 2 ∧
    ((dol.at 4).accept rqO.ses rqO.seq rqO.ok).2.map (fun x => dol.permit x opCmd (E.CONSENT 0) != 0) = some true := by decide +kernel

theorem witness_PartitionCommands :
    (∀ k ∈ [E.LOAD 0, E.UNLOAD 0, E.NAN_CLEAR 0, E.PERF_CLEAR 0, E.FLUSH_ALL 0, E.WSET_REGISTER 0, E.WSET_RELEASE 0, E.TURN_DISARM 0, E.WAKE 0, E.TRACE_TRIGGER 0, E.BP_HALT 0, E.BP_RESUME 0,
      E.SNAPSHOT 0, E.ATTEST 0], ∃ x, Admitted dol rqT opCmd k x) ∧
    (dol.arrived rqT).num (E.LOAD_SLOT 0) ≤ 7 ∧ (dol.arrived rqT).kindled = false ∧ (dol.arrived rqT).haltedNow 0 = false ∧
    (dol.arrived rqT).namedSet 0 = some 0 ∧ (({ ricks := [(0, { pst := 0 })], dict := dol.dict } : State).pstate 0 = 0) := ⟨adm_all _ _ _ _ (by decide +kernel), by decide +kernel⟩

theorem witness_ModuleCommands :
    (∀ k ∈ [E.OBJ_INSTALL, E.FW_SVN_COMMIT, E.MODULE_ATTEST, E.ASH_OUT, E.FM_START 0, E.RESET_MODULE, E.RESET_PARTITION, E.RESET_RICK, E.RESET_HEARTH, E.PORT_RETRAIN 0],
      ∃ x, Admitted dol rqO opCmd k x) ∧ (∃ x, Admitted (dol [(E.KINDLING_PART, .num 0)]) rqT opCmd E.KINDLING_END x) ∧
    (dol.arrived rqO).num E.BOOT_STATE ≠ 4 ∧ ((dol.arrived rqO).ashOut [0, 0xFF] true).2 = 0 ∧ ((dol.arrived rqO).partOf (leNat [0])).isSome = true ∧
    ((dol.arrived rqO).logical (18 * fld [15, 0] 1 1 + fld [15, 0] 0 1)).isSome = true ∧
    ((dol [(E.CLK_JUDGE, .num 1)]).num E.CLK_JUDGE = 1) := ⟨adm_all _ _ _ _ (by decide +kernel), adm_of (by decide +kernel), by decide +kernel⟩

theorem witness_WorkWrites :
    (∀ k ∈ [E.TCT_PAIRS 0, E.TCT_REGIONS 0, E.AUDIT_REGION 0, E.EVID_REGION 0, E.LSTATS_REGION 0, E.REGION_DELETE 0, E.QUEUE_MAP 0, E.KV_MODELS 0, E.KV_POOL_PAGES 0, E.HANDLE_RELEASE 0,
      E.JOB_DRAIN 0, E.LR_RESUME 0, E.EPOCH_SWITCH 0], ∃ x, Admitted dol rqT opWrite k x) ∧
    checkOf (E.TCT_PAIRS 0) [8, 0] false = 0 ∧ checkOf (E.JOB_DRAIN 0) [7] false = 0 ∧ checkOf (E.TCT_PAIRS 0) [8] false ≠ 0 ∧
    ({ jobs := [(0, { img := [0] })] } : State).anyLoaded 0 = true ∧ (dol.arrived rqT).handle 0 0 = none := ⟨adm_all _ _ _ _ (by decide +kernel), by decide +kernel⟩

theorem witness_TenancyWrites :
    (∀ k ∈ [E.OP_CRED_ADD, E.OP_CRED_REMOVE, E.CRED_ADD 0, E.TENANT_ID 0, E.RICK_MASK 0, E.PART_TENANT 0, E.PART_CLOCK_MHZ 0, E.PART_BUDGET_W 0, E.KINDLING_PART],
      ∃ x, Admitted dol rqO opWrite k x) ∧
    (∀ k ∈ [E.CRED_ADD 0, E.CRED_REMOVE 0, E.SETKEY_INSTALL 0, E.SETKEY_REMOVE 0, E.CONSENT 0], ∃ x, Admitted dol rqT opWrite k x) ∧
    (∃ m < 12, (dol.arrived rqO).num (E.PART_TENANT m) = 0) ∧ (dol.arrived rqO).num (E.PART_TENANT 0) ≠ 0xFF ∧ (dol.arrived rqO).num (E.PART_TENANT 1) = 0xFF ∧
    leNat [32] = 32 ∧ leNat [31] < 32 ∧ leNat [0, 16] = 4096 ∧ leNat [0xF4, 1] = 500 ∧ leNat [0x4C, 4] = 1100 :=
  ⟨adm_all _ _ _ _ (by decide +kernel), adm_all _ _ _ _ (by decide +kernel), ⟨0, by decide +kernel⟩, by decide +kernel⟩

theorem witness_PortAndToolWrites :
    (∀ k ∈ [E.TX_OWNERS 0, E.ETH_OWNERS 0, E.PORT_ENABLE 0], ∃ x, Admitted dol rqO opWrite k x) ∧
    (∀ k ∈ [E.BUFFER_REG 0, E.BUFFER_DEREG 0, E.TRIG_OPS 0, E.CONN_REC 0, E.GROUP_REC 0, E.RING_DESC 0, E.TRACE_BYTES 0, E.TRACE_ENABLE 0, E.BP_REC 0], ∃ x, Admitted dol rqT opWrite k x) ∧
    fld [0xFE] 0 1 ≠ 0xFF ∧ (∃ b ∈ ([0] : List Byte).take 10, b ≠ 0xFE) ∧
    (({ buffers := [(5, { region := 0, mode := 0, owner := 0, off := 0, len := 0, closed := true })] } : State).buffer 0 5).map Buf.closed = some true ∧ (({ buffers := [(5, { region := 0, mode := 0, owner := 0, off := 0, len := 0 })] } : State).buffer 0 5).map Buf.closed = some false ∧
    (({ groups := [(0, { cmd := some [] })] } : State).group 0 0).cmd.isSome = true ∧ (dol [(E.TRACE_ENABLE 0, .num 1)]).num (E.TRACE_ENABLE 0) = 1 ∧ leNat [0] = 0 ∧ dol.portState 0 = 0 :=
  ⟨adm_all _ _ _ _ (by decide +kernel), adm_all _ _ _ _ (by decide +kernel), by decide +kernel, ⟨0, by decide +kernel⟩, by decide +kernel⟩

/-- A region record on rick 0, which is not ready. -/
theorem witness_CommandsThatWait :
    (∃ x, Admitted dol rqT opWrite (E.REGION_CREATE 0) x) ∧ (∀ k ∈ [E.WSET_FETCH 0, E.TURN_ARM 0], ∃ x, Admitted dol rqT opCmd k x) ∧ (∃ x, Admitted dol rqT opWrite (E.LOAD_SLOT 0) x) ∧
    ((zeros 32).length = 32 ∧ rgRick (zeros 32) ≠ 0xFF ∧ ((dol.arrived rqT).ricksOf 0).contains (rgRick (zeros 32)) = true ∧ ((dol.arrived rqT).num E.RICK_READY).testBit (rgRick (zeros 32)) = false) ∧
    ((dol [(E.RICK_READY, .num 1)]).partReady 0 = true ∧ (dol [(E.RICK_READY, .num 1)]).namedSet 0 = some 0 ∧ ((dol [(E.RICK_READY, .num 1)]).wset 0 0).st = 0) ∧ dol.kindled = false ∧
    dol.planCode 0 (dol.blob (E.TURN_PLAN 0)) ≠ 0 :=
  ⟨adm_of (by decide +kernel), adm_all _ _ _ _ (by decide +kernel), adm_of (by decide +kernel), by decide +kernel⟩

theorem witness_ReadsBlocksAndStores :
    (∃ x, Admitted dol rqT opRead (E.RICK_MASK 0) x) ∧ (∃ x, Admitted dol rqT opReadBlock (E.CORE_TRAP 0) x) ∧ (∃ x, Admitted dol rqT opWriteBlock (E.CORD_IMAGE 0) x) ∧
    (∃ x, Admitted dol rqT opSubscribe (E.RICK_MASK 0) x) ∧ (∃ x, Admitted dol rqO opStore (E.RICK_MASK 0) x) ∧ (∃ x, Admitted dol rqO opStore E.CLK_JUDGE x) ∧
    clsOf (E.RICK_MASK 0) = .S ∧ clsOf (E.BOOT_STATE) ≠ .S ∧ E.RICK_MASK 0 ≠ 0xFFFFFF ∧ (dol.arrived rqT).stagedAll + 1 ≤ 2 ^ 32 :=
  ⟨adm_of (by decide +kernel), adm_of (by decide +kernel), adm_of (by decide +kernel), adm_of (by decide +kernel), adm_of (by decide +kernel), adm_of (by decide +kernel), by decide +kernel⟩

/-- A session with a subscription to send, one sent ten times and not acknowledged, one acknowledged. -/
def subbed : Session := { live := true, subs := [{ key := 1, id := 0, dirty := true }, { key := 2, id := 0, sentAt := some 0, acked := false, resends := 10 }, { key := 3, id := 0, sentAt := some 0 }] }
/-- A HELLO on an UP port of each network; a session to finish, one to time out; a probe; a subscription to send, to send again and to give up. -/
theorem witness_SessionLife :
    ((dol [(E.ETH_STATE 4, .num 2)]).num (E.ETH_STATE hm.eport) = 2 ∧ (dol [(E.ETH_STATE 4, .num 2)]).num E.BOOT_STATE ∈ [2, 3] ∧ dol.num (E.ETH_STATE 4) ≠ 2) ∧
    (dol.sessions.length < 256 ∧ 256 ≤ (List.replicate 256 (0 : Nat)).length ∧ hm.role ∈ [2, 3] ∧ (dol.sessions.filter (fun y => y.2.tenant == hm.tenant)).length < 32) ∧
    (Tab.look dol.sessions 3 = some { role := 1 } ∧ (dol.at 1000000000).now ≤ 0 + 1000000000 ∧ 0 + 1000000000 < (dol.at 1000000001).now) ∧
    ((dol.at 4).accept rqT.ses rqT.seq rqT.ok).2.isSome = true ∧ ((dol.at 4).eport 4).probes = (0, 0) ∧
    subbed.live = true ∧ subbed.subs.find? (fun b => b.key == 1) = some { key := 1, id := 0, dirty := true } ∧ (subbed.subs.find? (fun b => b.key == 2)).map (fun b => (b.sentAt, b.acked, b.resends)) = some (some 0, false, 10) := by
  decide +kernel

/-! Witnesses: steps, background work, repairs, weight sets -/

/-- Partition 0 on rick 0, which is awake. -/
def pt (p : Part := {}) (d : List (Nat × DVal) := []) : State :=
  { dict := ((([(E.RICK_MASK 0, .num 1)] : List (Nat × DVal)) ++ d).foldl (fun d x => d.put x.1 x.2) []), parts := [(0, p)], ricks := [(0, { pst := 0 })] }
/-- The same with every core in the end barrier of kind 5. -/
def ended (p : Part) : State := { pt p with hearths := (List.range 18).map (fun g => (g, { stall := .ended 5 })) }
/-- A halt that fell due, at device time `since` or not yet. -/
def halt0 (since : Option Nat := none) : Halt := { cause := 1, index := 0, lh := 0, iaddr := 0, daddr := 0, stepno := 0, cycle := 0, stop := 0, since := since }

theorem witness_DiscardRestoresScalarData : (((core1 0).kvDiscard 0).hearthsOf 0).all (fun l => decide (((core1 0).kvDiscard 0).phys l < 216)) = true ∧ ((core1 0).kvDiscard 0).hearthsOf 0 ≠ [] := by decide +kernel

/-- Limits at the instant they are met and 1 ns before. -/
theorem witness_BoundaryEvents :
    ((ended { phase := .running }).allEnded 0 = some 5 ∧ (ended { phase := .running }).haltedNow 0 = false ∧ (ended { phase := .running, halt := some (halt0) }).haltedNow 0 = false ∧ halt0.cause ≠ 0x0D) ∧
    ((pt { phase := .running }).allEnded 0 = none ∧ (pt { phase := .running, halt := some (halt0 (some 3)) }).haltedNow 0 = true) ∧
    ((pt {}).part 0).phase = .idle ∧ ({} : State).exists 0 = false ∧
    ((pt { phase := .pause 0 false, tasks := [(5, { fin := some 0 })] }).at 0).urgents 0 = [] ∧ 0 + 1000000 ≤ ((pt { phase := .pause 0 false }).at 1000000).now ∧
    (let s : State := { pt { phase := .pause 0 false, tasks := [(5, { fin := some 0 })] } with wsets := [(0, { urgent := [0] })] }
     (s.at 999999).urgents 0 ≠ [] ∧ (s.at 999999).now < 0 + 1000000) ∧
    (pt {}).stacksActive 0 = true ∧
    (let s : State := { pt {} with jobs := [(0, { unreported := some 0 })] }
     ∀ i < 8, ((s.at 999999).job 0 i).unreported.all (fun u => decide ((s.at 999999).now < u + 1000000)) = true) := by decide +kernel

/-- A learning cord in job slot 0. The layout of an exchange record is open, so its clauses are met by any record `x` that the image holds, at the limit the record sets and 1 ns before. -/
theorem witness_BoundaryEvents_exchange (i x : List Byte) (hk : cdKind i = 2) (h : (Config.pollExchange (cdPoll i)).find? (fun r => fld r 0 2 == 0) = some x) (p : Part) :
    let s : State := { pt p with jobs := [(0, { img := i })] }
    s.exchange 0 0 0 = some x ∧ 0 + fld x 0x14 4 ≤ (s.at (fld x 0x14 4)).now ∧ 0 + fld x 0x18 4 ≤ (s.at (fld x 0x18 4)).now ∧ (0 < fld x 0x14 4 → (s.at 0).now < 0 + fld x 0x14 4) := by
  refine ⟨?_, ?_, ?_, ?_⟩
  · have e : ({ pt p with jobs := [(0, { img := i })] } : State).job 0 0 = { img := i } := rfl
    simp only [State.exchange, e, hk, if_true, h]
  · simp [State.at, pt]
  · simp [State.at, pt]
  · intro q; simpa [State.at, pt] using q

/-- An image of a learning cord whose prologue lasts 1 ns. -/
def im2 : List Byte := setFld (setFld (zeros 0x30) 8 1 2) 0x20 8 1

theorem witness_SwitchEvents :
    (((pt { phase := .switchOut 0 0 }).at 29999).part 0).phase = .switchOut 0 0 ∧ ((pt {}).at 29999).now < 0 + 30000 ∧ 0 + 30000 ≤ ((pt {}).at 30000).now ∧
    (((pt { phase := .switchMaps 0 0 }).at 29999).part 0).phase = .switchMaps 0 0 ∧ ((pt {}).at 399999).now < 0 + 400000 ∧
    (let s : State := { pt { phase := .switchMaps 0 0 } with jobs := [(0, { img := im2 })] }
     0 + 400000 ≤ (s.at 400000).now ∧ s.loaded 0 0 = true ∧ (s.job 0 0).saved = false ∧ (∀ m ∈ s.members 0 0, (s.chooseEpoch 0 m).isSome = true) ∧
     ((pt { phase := .switchPrologue 0 0 }).at 0).now < 0 + cdPrologue (s.job 0 0).image ∧ 0 + cdPrologue (s.job 0 0).image ≤ (s.at 1).now ∧ (s.part 0).fromIdle = false) := by decide +kernel
/-- A queue of two slots at the start of stack 0 whose next message is the one of stamp 1. -/
def queued : State := { pt {} [(E.QUEUE_MAP 0, .blob (zeros 32)), (E.CONSUMED 0, .blob (leBytes 8 1))] with regions := [(0, setFld (zeros 32) 16 8 512)] }
theorem witness_QueueMessageIsPolled : (queued.at 4).queueRegion 0 0 = some 0 ∧ 0 < (queued.at 4).queueSlots 0 0 ∧ (queued.at 4).consumed 0 0 = 1 ∧
    (match exec (.queueMessageWrite 0 0 1 (zeros 248) 4) queued with
     | .next t => !t.uncorrectable (tierB 0 + 256) 256 && !t.poisonedRange 0 (2 ^ 60 + 256) 256
     | _ => false) = true := by decide +kernel

/-- A partition that rests, and one that runs a step. A unit of every pass; the last unit but one of a channel migration; a dirty page to be written back. -/
theorem witness_BackgroundUnits :
    (pt { phase := .running }).mayRake 0 = false ∧ (pt {}).mayRake 0 = true ∧ (∀ k ∈ [1, 4, 6, 7], (pt {}).hasUnit 0 k = true) ∧
    (let s : State := pt { tasks := [(2, { fin := some 0 }), (3, { fin := some 0 })] }
     s.hasUnit 0 1 = true ∧ s.hasUnit 0 2 = false ∧ s.hasUnit 0 3 = false) ∧
    (let s : State := { pt {} with wsets := [(0, { man := setFld (zeros 0x80) 8 4 1, shards := [2] })] }
     (∀ w < 8, (s.wset 0 w).urgent = []) ∧ s.hasUnit 0 11 = false) ∧
    (∀ k ∈ intervalTasks, ((pt {}).task 0 k).fin = none ∧ ((pt {}).task 0 k).late = false ∧ ((pt {}).task 0 k).tp + (pt {}).interval 0 k ≤ ((pt {}).at (2 ^ 63)).now) ∧
    (let s : State := { pt {} with ricks := [(0, { pst := 2 })] }
     s.pstate 0 = 2 ∧ (s.at (2 ^ 62)).passesDue 0 2 ≠ []) ∧
    (let s : State := { pt {} with ricks := [(0, { pst := 0, mig := some { logical := 0, spare := 0, done := 1676, st := 1 } })] }
     (s.ricksOf 0).find? (fun k => ((s.rick k).mig.map (fun m => m.st)) == some 1) = some 0 ∧ 1676 + 1 < 1678) ∧
    (let s : State := { pt { flush := [{ seq := none, pages := [(0, 0)] }] } with regions := [(0, setFld (zeros 32) 3 1 3)], dirty := [(0, true)] }
     (s.part 0).flush ≠ [] ∧ s.flushPage 0 = some (0, 0) ∧ rgLive (s.region 0 0) = true ∧ rgBacked (s.region 0 0) = true ∧ s.dirty.getD (pageB 0 0) false = true) := by
  decide +kernel
/-- The calibration pass, whatever the number of sensors. -/
theorem witness_BackgroundUnits_calibration : (pt {}).hasUnit 0 5 = true := by
  have e : (pt {}).hasUnit 0 5 = decide (0 < (140 + Config.sensorCount) * 1) := rfl
  rw [e]; exact decide_eq_true (by omega)

theorem witness_SparesAndRepairs :
    (({ spareNext := some ({}, 0) } : State).at 4).spareNext = some ({}, 0) ∧
    (let s : State := { ricks := [(0, { rowsDue := [[1]] })] }
     (s.rick 0).rowsDue.find? (fun row => !s.draft.rows.contains row) = some [1]) ∧
    ({} : State).spare.chans.getD (8 * 0 + 7) 0xFF = 0xFF ∧
    (({ spare := { chans := (List.range 8).map (fun j => (j, 0)) } } : State).freeChan 0 = none) ∧ (({} : State).rick 0).schan.contains (4 * 0 + 3) = false := by decide +kernel

/-- A set with one shard, tried at source 0. -/
def setOf (st : Nat) (x : WSet := {}) : State := { pt {} with wsets := [(0, { x with st := st })] }
/-- A delivery of the wrong length; a refetch from a local source; holds and evictions at their limits. -/
theorem witness_ShardEvents :
    Tab.look ((setOf 0).wset 0 0).trying 0 = none ∧
    (let s := setOf 1 { trying := [(0, 0)], shards := [1] }
     Tab.look (s.wset 0 0).trying 0 = some 0 ∧ (s.wset 0 0).shard 0 ≠ 5 ∧ (s.wset 0 0).backed = false ∧
     (({ s with flights := s.flights.filter (fun f => !(f.2.use == Use.shard 0 0 0 && f.2.part == 0)) } : State).openFrom 0 0 0 0 [0]).getRight? = some 5) ∧
    (let y := ((setOf 4 { trying := [(0, 1)], shards := [5] }).refetches 0).wset 0 0
     y.shard 0 = 5 ∧ Tab.look y.trying 0 = some 1 ∧ (((setOf 0).refetches 0).wset 0 0).shard 0 ≠ 5) ∧
    (let s := setOf 4 { heldSince := some 0 }
     let h := s.num (E.HOLD_LIMIT_NS 0)
     (s.wset 0 0).heldSince = some 0 ∧ (s.wset 0 0).st = 4 ∧ (s.wset 0 0).expired = false ∧ 0 + h ≤ (s.at h).now ∧ (s.at (h - 1)).now < 0 + h) ∧
    (let s := setOf 6 { evicting := true, evictAt := 5 }
     (s.wset 0 0).evicting = true ∧ (s.wset 0 0).evictAt + s.evictNs 0 0 ≤ (s.at 5).now ∧ (s.at 4).now < (s.wset 0 0).evictAt + s.evictNs 0 0) := by decide +kernel
/-- An empty shard of a peer whose digest the manifest names, whatever SHA-384 of no bytes is. -/
theorem witness_ShardEvents_peer (h : Config.sha384 [] = meDigest (mfEntry [] 0)) : (setOf 1 { trying := [(0, 0)], shards := [1] }).openFrom 0 0 0 0 [] = .inl [] := by
  have e : (setOf 1 { trying := [(0, 0)], shards := [1] }).openFrom 0 0 0 0 [] = if Config.sha384 [] = meDigest (mfEntry [] 0) then .inl [] else .inr 4 := rfl
  rw [e, if_pos h]

/-! Witnesses: Ethernet, fabric, groups, turns -/

/-- Partition 0 with a live region of STAGE class, E4 UP with an address of the collier, F0 UP with position 1 received for partition 0; tenant 7. -/
def net (d : List (Nat × DVal) := []) (p : Part := {}) : State :=
  { pt p ([(E.ETH_STATE 4, .num 2), (E.BOOT_STATE, .num 3), (E.MGMT_IPV6_B, .blob (1 :: zeros 15)), (E.PORT_STATE 0, .num 2), (E.RX_OWNERS 0, .blob [0xFF, 0, 0xFF, 0x11]),
      (E.PART_TENANT 0, .num 0), (E.TENANT_ID 0, .blob (leBytes 16 7)), (E.ETH_MODE 0, .num 0)] ++ d) with
    regions := [(0, setFld (setFld (setFld (zeros 32) 2 1 6) 3 1 2) 16 8 8192)], buffers := [(5, { region := 0, mode := 15, owner := 0, off := 0, len := 4096 }), (6, { region := 0, mode := 0, owner := 0, off := 0, len := 1, closed := true })] }
/-- The same with its rick asleep. -/
def asleep : State := { net with ricks := [(0, { pst := 2 })] }
/-- A connection of partition 0 on E4 in state `st`, with packets `out` unanswered and RETRY 7. -/
def conn0 (st : Nat) (out : List (Nat × Nat) := []) (rq tries : Nat := 0) (s : State := net) : State :=
  { s with conns := [(0, { st := st, bytes := setFld (setFld (zeros 64) 2 1 4) 0x2C 1 7, out := out, rq := rq, tries := tries })] }
/-- A transfer of it. -/
def ro : RoceMsg := ⟨0, 0, 4, 0, 5, 0, 0, []⟩

theorem witness_EthernetAndConnections :
    (pt {}).num (E.ETH_STATE 4) ≠ 2 ∧ net.num (E.ETH_STATE 4) = 2 ∧ (zeros 18).length = 18 ∧ (zeros 17).length < 18 ∧ frameFlow (zeros 12 ++ [0x88, 0x08] ++ zeros 50) = true ∧
    net.endpointAt 4 (1 :: zeros 15) = some 0 ∧ net.endpointAt 4 (zeros 16) = none ∧
    (net.runStarts 4 10 = true ∧ net.borrower 4 1 = some 0 ∧ (net.runKey 4 10).1 = 0xFF) ∧ (net.runStarts 4 0 = true ∧ (net.runKey 4 0).1 ≠ 0xFF ∧ 12 ≤ (net.runKey 4 0).1) ∧
    (let s := pt {} [(E.BOOT_STATE, .num 3), (E.ETH_ENABLE 4, .num 1)]
     s.ethTrains 4 = true ∧ s.num (E.ETH_STATE 4) ≠ 2) ∧ (pt {} [(E.ETH_ENABLE 4, .num 0)]).ethTrains 4 = false ∧
    (let s := conn0 1
     let x := s.conn 0 0
     s.num (E.ETH_STATE ro.eport) = 2 ∧ s.exists 0 = true ∧ (s.part 0).ash = none ∧ x.st = 1 ∧ fld x.bytes 2 1 = 4 ∧ s.cold = false ∧ (s.wakePart 0 1).stacksActive 0 = true ∧ ro.psn % 2 ^ 24 = x.rq) ∧
    (((conn0 1 [] 0 0 asleep).wakePart 0 1).stacksActive 0 = false ∧ ((conn0 1 [] 0 0 asleep).conn 0 0).st = 1 ∧ (conn0 1 [] 0 0 asleep).exists 0 = true) ∧ ((conn0 0).conn 0 0).st ≠ 1 ∧
    ((5 + 2 ^ 24 - ro.psn % 2 ^ 24) % 2 ^ 24 < 2 ^ 23 ∧ 2 ^ 23 ≤ ((2 ^ 24 - 1) + 2 ^ 24 - ro.psn % 2 ^ 24) % 2 ^ 24) ∧
    (let x := (conn0 1 [(3, 9)] 0 7).conn 0 0
     x.out ≠ [] ∧ x.since + 4096 * 2 ^ fld x.bytes 0x2D 1 ≤ ((conn0 1).at 4096).now ∧ ¬ x.since + 4096 * 2 ^ fld x.bytes 0x2D 1 ≤ ((conn0 1).at 4095).now ∧
     fld x.bytes 0x2C 1 ≤ x.tries ∧ 6 < fld x.bytes 0x2C 1 ∧ psnUpTo 3 3 = true ∧ psnUpTo 3 2 = false) := by decide +kernel
/-- A RoCE frame to the endpoint of partition 0 on a port where it owns a unit, at the base address 0. -/
theorem witness_EthernetAndConnections_frame (h : Config.macBase = 0) :
    let f : List Byte := [0, 0, 0, 0, 0, 65] ++ zeros 6 ++ [8, 0, 0x45] ++ zeros 8 ++ [17] ++ zeros 10 ++ zeros 2 ++ [0x12, 0xB7] ++ zeros 4
    let s := net [(E.ETH_OWNERS 4, .blob (List.replicate 10 0xFE ++ [0]))]
    s.endpointOf 4 (beNat (bytesAt f 0 6)) = some 1 ∧ frameKind f = 1 ∧ s.cold = false ∧ (s.part 0).ash = none ∧ (s.wakePart 0 1).stacksActive 0 = true ∧ 18 ≤ f.length ∧ f.length ≤ 9022 ∧
    frameFlow f = false ∧ (({ s with ricks := asleep.ricks } : State).wakePart 0 1).stacksActive 0 = false := by
  simp only [State.endpointOf, macOf, h]
  decide +kernel

/-- A message of 4 bytes to buffer 5 of partition 0 at position 1 of F0, and one that names another tenant. -/
def fm0 (pos rkey tenant : Nat := 1) (aux : Nat := 0) : FabMsg := ⟨0, pos, 1, false, 0xFFFF, rkey, net.endpoint 0, 0, tenant, 0, 4, 0, aux, zeros 64, zeros 4⟩
/-- A message of partition 0 that waits for its answer. -/
def flight0 (use : Use) : Flight := { part := 0, path := 1, via := 0, sent := 0, len := 4, aux := 0, use := use }

theorem witness_reaches : Reaches net (fm0 1 5 7) 0 ∧ Reaches asleep (fm0 1 5 7) 0 ∧ Reaches net (fm0 0 5 7) 0 :=
  ⟨⟨by decide +kernel, by decide +kernel, by decide +kernel, by decide +kernel, by decide +kernel⟩, ⟨by decide +kernel, by decide +kernel, by decide +kernel, by decide +kernel, by decide +kernel⟩,
    ⟨by decide +kernel, by decide +kernel, by decide +kernel, by decide +kernel, by decide +kernel⟩⟩
theorem witness_FabricMessages :
    Reaches net (fm0 1 5 7) 0 ∧ FabricRow (fm0 1 5 7) 4 (.put (fm0 1 5 7) 4, 1, 1) ∧
    ((fm0 2 5 7).pos ≠ 0 ∧ (pt {}).num (E.PORT_STATE 0) ≠ 2 ∧ net.rxCode (fm0 2 5 7) = 0xFF ∧ net.rxCode (fm0 3 5 7) = 0x11 ∧ net.stacksActive 0 = true ∧ asleep.stacksActive 0 = false) ∧
    (∀ k ∈ [1, 4, 5, 6], ((net.received (fm0 1 5 7) 0 k).accepts 0 (fm0 1 5 7) (if k = 1 then 1 else if k = 6 then 3 else 2)).isSome = true ∧
      (net.received (fm0 1 5 8) 0 k).accepts 0 (fm0 1 5 8) 1 = none ∧ (net.received (fm0 1 6 7) 0 k).accepts 0 (fm0 1 6 7) 1 = none) ∧
    isPiece (payload (fm0 1 5 7)) = false ∧
    (let u := net.received (fm0 1 5 7) 0 2
     u.addressed 0 (fm0 1 5 7) = true ∧ u.addressed 0 (fm0 1 5 8) = false ∧ (u.target 0 5 0 4 0 false).isSome = true ∧
     (u.nicRead 0 (u.bufTaddr 0 { region := 0, mode := 15, owner := 0, off := 0, len := 4096 } 0) 4).2 = some (zeros 4) ∧
     (({ u with bad := [tierB 0 / 16] } : State).nicRead 0 (u.bufTaddr 0 { region := 0, mode := 15, owner := 0, off := 0, len := 4096 } 0) 4).2 = none) ∧
    (let s : State := { net with flights := [(2, flight0 .other)] }
     (Tab.look (s.received (fm0 1 5 7 2) 0 3).flights (bits (fm0 1 5 7 2).aux 31 0)).map Flight.part = some 0 ∧ (Tab.look (net.received (fm0 1 5 7 2) 0 8).flights 2).map Flight.part ≠ some 0) ∧
    ((net.buffer 0 5).map Buf.closed = some false ∧ (net.buffer 0 6).map Buf.closed = some true) :=
  ⟨witness_reaches.1, List.Mem.head _, by decide +kernel⟩
/-- A barrier token, wherever its body carries the group's number. -/
theorem witness_FabricMessages_barrier (h : Config.barrierGroup (zeros 64) = 0) :
    let s : State := { net with groups := [(0, { bytes := setFld (zeros 64) 3 1 1 })] }
    (List.range 64).find? (fun g => (s.group 0 g).enabled && fld (s.group 0 g).bytes 0 2 == Config.barrierGroup (zeros 64)) = some 0 := by
  simp only [h]
  decide +kernel

/-- An operation in flight at its limit; a ring of records; groups with a command of a kind, of none, and one that was overtaken. -/
def grp0 (mem : Memory) : State := { net with mem := mem, regions := [(0, setFld (setFld (zeros 32) 2 1 3) 16 8 8192)], groups := [(0, { bytes := setFld (zeros 64) 3 1 1 })] }
theorem witness_TriggersAndGroups :
    (let s : State := { net with flights := [(2, flight0 (.armed 0 1))], trigs := [(0, { fired := [(1, 1)] })] }
     let lim := s.num (E.OP_TIMEOUT_NS 0)
     let mine (t : State) := t.flights.filter (fun f => f.2.use == Use.armed 0 1 && f.2.part == 0)
     (∀ f ∈ mine (s.at (lim - 1)), (s.at (lim - 1)).now < f.2.sent + lim) ∧ (∃ f ∈ mine (s.at lim), f.2.sent + lim ≤ (s.at lim).now) ∧ (s.trigOf 0 0).fired.getD 1 0 = 1) ∧
    (pt {}).trigNext 0 0 = none ∧ ({ net [(E.TRIG_RING 0, .blob [0, 0, 4])] with mem := [(tierB 0, 1)] } : State).trigNext 0 0 = some (1 :: zeros 63) ∧ net.sliceRuns 0 0 = false ∧
    (net.cmdNext 0 0 = none ∧ (grp0 []).cmdNext 0 0 = none ∧ (grp0 [(tierB 0 + 1, 1)]).cmdNext 0 0 = some (0 :: 1 :: zeros 62) ∧ (grp0 [(tierB 0, 1)]).cmdNext 0 0 = some (1 :: zeros 63) ∧
      (grp0 [(tierB 0 + 0x38, 1)]).cmdNext 0 0 = some (setFld (zeros 64) 0x38 1 1) ∧ ((grp0 []).group 0 0).next = 0 ∧ (grp0 []).cmdOk 0 ((grp0 []).group 0 0) (0 :: 1 :: zeros 62) = false) := by decide +kernel

/-- F0 in a state of Table 15-4. -/
def port0 (st : Nat) (f : FPort) (d : List (Nat × DVal) := []) : State :=
  { pt {} ([(E.PORT_STATE 0, .num st), (E.PORT_ENABLE 0, .num 1), (E.RICK_READY, .num 1), (E.RX_OWNERS 0, .blob [0, 0xFF, 0x11]), (E.PORT_STATE 1, .num 2), (E.TX_OWNERS 1, .blob [0, 0xFF, 0x10])] ++ d) with
    fports := [(0, { f with present := true })] }
theorem witness_FabricPorts :
    ((port0 0 {}).mayTrain 0 = true ∧ (port0 0 {}).portState 0 = 0 ∧ (port0 1 {}).portState 0 = 1 ∧ ((port0 1 {}).fport 0).ev = 0 ∧ (pt {}).mayTrain 0 = false ∧ 2 ≤ (port0 2 {}).portState 0 ∧
      (port0 0 { t0 := 1 }).now < ((port0 0 { t0 := 1 }).fport 0).t0) ∧
    (((port0 1 { ev := 1 }).fport 0).ev = 1 ∧ 0 + 8000000 ≤ ((port0 1 { ev := 1 }).at 8000000).now ∧ ((port0 1 { ev := 1 }).at 7999999).now < 0 + 8000000 ∧
      ((List.range 9).filter (fun l => !(0x1FF : Nat).testBit l)).length ≤ 1 ∧ ((List.range 9).filter (fun l => !(0x1FE : Nat).testBit l)).length ≤ 1 ∧ 2 ≤ ((List.range 9).filter (fun l => !(0x1FC : Nat).testBit l)).length) ∧
    (((port0 1 { ev := 2 }).fport 0).ev = 2 ∧ 0 + 8300000 ≤ ((port0 1 { ev := 2 }).at 8300000).now ∧ (port0 1 { ev := 2 }).num (E.EXPECT_PEER 0) = 0 ∧ (port0 1 { ev := 2 } [(E.EXPECT_PEER 0, .num 9)]).num (E.EXPECT_PEER 0) = 9) ∧
    (((port0 1 { ev := 4 }).fport 0).ev = 4 ∧ 0 + 8400000 ≤ ((port0 1 { ev := 4 }).at 8400000).now ∧ ((port0 1 { ev := 4 }).at 8399999).now < 0 + 8400000 ∧ 0 + 100000000 ≤ ((port0 1 { ev := 4 }).at 100000000).now) ∧
    ((port0 2 {}).portState 0 = 2 ∧ ((port0 2 {}).fport 0).swap = none ∧ (port0 2 {} [(E.LANE_MAP 0, .num 0xFF)]).num (E.LANE_MAP 0) = 0xFF ∧ (port0 2 {} [(E.LANE_MAP 0, .num 3)]).num (E.LANE_MAP 0) = 3 ∧
      ((port0 2 { swap := some (7, 0) }).fport 0).swap = some (7, 0) ∧ 0 + 5120 ≤ ((port0 2 {}).at 5120).now ∧ ((port0 2 {}).at 5119).now < 0 + 5120) ∧
    ((port0 2 {}).rxOwner 0 1 = 0xFF ∧ (port0 2 {}).rxOwner 0 2 = 0x11 ∧ (port0 2 {}).portState (0x11 - 0x10) = 2 ∧ (port0 2 {}).txOwner (0x11 - 0x10) 2 = 0x10 + 0) := by decide +kernel

/-- A turn plan of TURN_ID 9: member, members and ROLE. -/
def plan (member role : Nat) : List Byte := setFld (setFld (setFld (setFld (zeros 0x90) 6 2 member) 8 2 2) 0x0A 1 role) 0x10 8 9
/-- Partition 0 with a turn. -/
def turned (x : Turn) : State := { net with turns := [(0, x)] }
theorem witness_TokensAndTurns :
    Reaches net (fm0 1 5 7) 0 ∧ net.stacksActive 0 = true ∧ (net.received (fm0 1 5 7) 0 7).addressed 0 (fm0 1 5 7) = true ∧ (net.received (fm0 1 5 8) 0 1).addressed 0 (fm0 1 5 8) = false ∧
    (((net.received (fm0 1 5 7) 0 7).ackTo 0 (fm0 1 5 7) 0).lrJob 0 (Config.lrGroup (zeros 64)) = none) ∧
    (((turned { st := 4 }).received (fm0 1 5 7) 0 1).turn 0).st = 4 ∧
    (let tn := (turned { img := plan 0 1, st := 1, retry := [2] }).turn 0
     tn.active = true ∧ 2 ∈ tn.retry ∧ 2 ∉ tn.acked ∧ 3 ∉ tn.retry) ∧
    (let s := turned { img := plan 0 1, st := 3, armAt := 5 }
     let lim := s.num (E.TURN_LIMIT_NS 0)
     (s.turn 0).active = true ∧ 5 + lim ≤ (s.at (5 + lim)).now ∧ (s.at (4 + lim)).now < 5 + lim ∧ tpMember (s.turn 0).img = 0 ∧ tpMember (plan 1 2) ≠ 0) ∧
    (let s : State := { turned { img := plan 0 1, tokens := [(0, tkQuery, 1)] } with flights := [(2, flight0 (.turnTok 0))] }
     (s.part 0).ash = none ∧ (s.turn 0).tokens = [(0, tkQuery, 1)] ∧ (turned {}).turn 0 = {} ∧ ∀ f ∈ s.flights, f.2.use = .turnTok 0 → f.2.part = 0 → f.2.sent + 1000000 ≤ (s.at 1000000).now) ∧
    (let lim := net.num (E.TURN_PARK_NS 0)
     let r := (turned { img := plan 1 2, st := 4, hold := true, ownPark := some 0 }).turn 0
     let c := (turned { img := plan 0 1, st := 2, parkAt := some 0 }).turn 0
     0 + lim ≤ (net.at lim).now ∧ tpMember r.img ≠ 0 ∧ r.st = 4 ∧ r.decision = none ∧ r.hold = true ∧ r.ownPark = some 0 ∧ tpMember c.img = 0 ∧ c.decision = none ∧ c.parkAt = some 0 ∧ c.st ≠ 4) :=
  ⟨witness_reaches.1, by decide +kernel, by decide +kernel, by decide +kernel, rfl, by decide +kernel⟩
/-- A token of the turn, wherever its body carries the TURN_ID: at a sender, a receiver that is parked, the coordinator and one that has decided. -/
theorem witness_TokensAndTurns_turn (h : Config.turnId (zeros 64) = 9) : ∀ x ∈ [({ img := plan 0 1, st := 2 } : Turn), { img := plan 1 2, st := 4, hold := true }, { img := plan 0 3, st := 4, decision := some true }],
    x.img.length ≠ 0 ∧ Config.turnId (zeros 64) = tpId x.img ∧ x.active = true := by rw [h]; decide +kernel
theorem witness_TokensAndTurns_roles : tpRecv (plan 0 1) = false ∧ tpRecv (plan 1 2) = true ∧ tpMember (plan 1 2) ≠ 0 ∧ tpMember (plan 0 1) = 0 ∧ (some true).isSome = true := by decide +kernel
/-- A token of a learning group of which partition 0 holds the job, whatever the layouts of the exchange record and the token's body. -/
theorem witness_TokensAndTurns_group (x : List Byte) (l : List (List Byte)) (h : Config.pollExchange (cdPoll im2) = x :: l) (g : fld x 4 2 = Config.lrGroup (zeros 64)) :
    ({ net with jobs := [(0, { img := im2 })] } : State).lrJob 0 (Config.lrGroup (zeros 64)) = some 0 := by
  have e : ({ net with jobs := [(0, { img := im2 })] } : State).loadedJobs 0 = [0] := by decide +kernel
  have j : ({ net with jobs := [(0, { img := im2 })] } : State).job 0 0 = { img := im2 } := rfl
  have k : cdKind im2 = 2 := by decide +kernel
  simp [State.lrJob, e, State.lrGroupNo, State.exchanges, j, k, h, g]

/-! Witnesses: power, input, clocks, boot; the queue and the memory -/

/-- Partition 0 with rick 0 as given. -/
def onRick0 (r : Rick) (p : Part := {}) (d : List (Nat × DVal) := []) : State := { pt p d with ricks := [(0, r)] }

theorem witness_PowerAndWakes :
    (let win := max 1 ((pt {}).num E.SLEW_WINDOW_NS)
     ((pt {}).at (win - 1)).now % win ≠ 0 ∧ ((pt {}).at win).now % win = 0 ∧ (pt {}).descending = false) ∧
    (let s := onRick0 { pst := 2, waiting := some 0 }
     s.waiters.head? = some 0 ∧ s.charged + s.rickStep 0 ≤ s.slewLimit) ∧
    (let s := onRick0 { pst := 2 } { trigger := some (0, 1, 2) } [(E.STAGGER_NS, .num 10)]
     let g := s.num E.STAGGER_NS
     (s.part 0).trigger = some (0, 1, 2) ∧ (s.at (g - 1)).now < 0 + g ∧ 0 + g ≤ (s.at g).now ∧ s.ricksOf 0 = [0] ∧ (s.rick 0).move = none ∧ (s.rick 0).waiting = none ∧ ((pt {}).part 0).trigger = none) ∧
    (let s := onRick0 { pst := 2, move := some (0, 0) }
     (s.rick 0).move = some (0, 0) ∧ (s.at (wakeNs 2 - 1)).now < 0 + wakeNs (s.rick 0).pst ∧ 0 + wakeNs (s.rick 0).pst ≤ (s.at (wakeNs 2)).now ∧ (s.rick 1).move = none) ∧
    (let s : State := { onRick0 { pst := 2, move := some (0, 0) } {} [(E.RICK_MASK 0, .num 3)] with ricks := [(0, { pst := 2, move := some (0, 0) }), (1, { pst := 2 })] }
     s.partOf 0 = some 0 ∧ ∃ j ∈ s.ricksOf 0, j ≠ 0 ∧ (s.rick j).on = false) ∧ ({} : State).partOf 0 = none ∧
    (let s := onRick0 { pst := 0, move := some (1, 0) }
     (s.at 1999).now < 0 + entryNs 1 ∧ 0 + 2000 ≤ (s.at 2000).now ∧ (s.part 0).trigger = none) ∧
    (let s : State := { onRick0 { pst := 0, move := some (4, 0) } with descending := true }
     0 + 5000000 ≤ (s.at 5000000).now ∧ s.descending = true ∧ ∀ j < 12, j ≠ 0 → (s.rick j).pst = 4) ∧
    (((pt { firstStep := some 5 }).part 0).firstStep = some 5 ∧ ((pt {}).at 4).now < 5 ∧ 5 ≤ ((pt {}).at 5).now ∧ ((pt { firstStep := some 5 }).part 0).phase = .idle) ∧
    (let s := onRick0 { pst := 2 } {} [(E.WAKE_AT 0, .num 5)]
     s.num (E.WAKE_AT 0) = 5 ∧ (pt {}).num (E.WAKE_AT 0) = 0 ∧ s.pstate 0 = 2 ∧ (s.part 0).trigger = none) ∧
    (let s := pt { idleSince := some 0 } [(E.WAKE_LATENCY_NS 0, .num 1000000000)]
     let h := s.num (E.IDLE_HOLD_NS 0)
     (s.part 0).idleSince = some 0 ∧ (s.at (h - 1)).now < 0 + h ∧ 0 + h ≤ (s.at h).now ∧ s.exists 0 = true ∧ (s.part 0).ash = none ∧ 2 ≤ s.chosen 0 ∧ s.pstate 0 < s.chosen 0 ∧
     (∀ j ∈ s.ricksOf 0, (s.rick j).move = none ∧ (s.rick j).waiting = none ∧ (s.rick j).pst ≤ 1) ∧ (pt {} [(E.WAKE_LATENCY_NS 0, .num 0)]).num (E.WAKE_LATENCY_NS 0) = 0) := by decide +kernel

theorem witness_BudgetsAndInput :
    ({} : State).exists 0 = false ∧ (onRick0 { pst := 2 }).awake 0 = false ∧ (pt {}).exists 0 = true ∧ (pt {}).awake 0 = true ∧ (pt {}).kindlesHere 0 = false ∧
    (let s := pt { lowMeans := 9 } [(E.PART_BUDGET_W 0, .num 1000), (E.PART_CLOCK_MHZ 0, .num 1000), (E.RUN_CLOCK_MHZ 0, .num 600)]
     s.budget 0 < 1001 ∧ 950 ≤ s.budget 0 ∧ 95 * s.budget 0 ≤ 100 * 950 ∧ 100 * 949 < 95 * s.budget 0 ∧ s.floorClock 0 < s.runClock 0 ∧ s.runClock 0 < s.num (E.PART_CLOCK_MHZ 0) ∧ s.throttleAt = none ∧
     9 ≤ (s.part 0).lowMeans ∧ ((pt { lowMeans := 8 }).part 0).lowMeans < 9) ∧
    (let s := pt {} [(E.RUN_CLOCK_MHZ 0, .num 500), (E.PART_CLOCK_MHZ 0, .num 500)]
     s.runClock 0 ≤ s.floorClock 0 ∧ s.clockMhz 0 ≤ s.floorClock 0 ∧ s.num (E.PART_CLOCK_MHZ 0) ≤ s.runClock 0 ∧ s.num (E.BUDGET_OVERRUNS 0) + 1 < 2 ^ 32) ∧
    (let s : State := { throttleAt := some 3, causes := 7, clearAt := 5 }
     s.throttleAt.isSome = true ∧ s.causes < 8 ∧ 5 + 100000000 ≤ (s.at 100000005).now ∧ (s.at 100000004).now < 5 + 100000000 ∧ ({} : State).throttleAt = none ∧ 8 ≤ ({ causes := 8 } : State).causes) ∧
    (({} : State).num E.PHASES_FAILED < 2 ∧ (pt {} [(E.PHASES_FAILED, .num 2)]).num E.PHASES_FAILED = 2) ∧
    (({} : State).switchOn = true ∧ ({} : State).heldHeat = false ∧ ({} : State).heldInput = false ∧ ({} : State).powered = true ∧ ({ heldHeat := true } : State).heldHeat = true ∧ ({ heldInput := true } : State).heldInput = true ∧
      0 + 100000000 ≤ (({ powered := false } : State).at 100000000).now ∧ (({ powered := false } : State).at 99999999).now < 0 + 100000000 ∧ ({ switchOn := false } : State).switchOn = false) ∧
    (32000 ≤ 32000 ∧ 46000 ≤ 46000 ∧ 31999 < 32000 ∧ 46000 < 46001 ∧ 60000 < 60001 ∧ 40000 ≤ 39000 + 1000 ∧ 39000 ≤ 40000 + 1000 ∧ 36000 ≤ 39000 ∧ 38999 + 1000 < 40000) := by decide +kernel

theorem witness_AlertPin : ({ causes := 32 } : State).causes.testBit 5 = true ∧ ({ causes := 31 } : State).causes.testBit 5 = false := by decide +kernel
/-- The partition whose step starts has hearths. -/
theorem witness_StepStartsClean : (pt {}).hearthsOf 0 = List.range 16 := by decide +kernel

theorem witness_Clocks :
    (({ refsLost := 1 } : State).refsLost.testBit 0 = true ∧ ({} : State).refsLost = 0 ∧ ({} : State).num E.REF_ACTIVE ≠ 1 ∧ ({} : State).num E.REF_ACTIVE = 0 ∧ ({ refsLost := 2 } : State).refsLost.testBit 0 = false ∧
      ({ refsLost := 2 } : State).refsLost = 2 ^ 1 ∧ ({ refsLost := 3 } : State).refsLost = 3) ∧
    ((∀ p < 16, ({} : State).num (E.PORT_STATE p) ≠ 1 ∧ ({} : State).num (E.PORT_STATE p) ≠ 2) ∧ ∀ e < 8, ({} : State).num (E.ETH_STATE e) ≠ 1 ∧ ({} : State).num (E.ETH_STATE e) ≠ 2) ∧
    (let tol := ({} : State).num E.REF_TOL_PPM
     (tol : Int).natAbs ≤ tol ∧ tol < (-(tol : Int) - 1).natAbs) ∧
    (let s := onRick0 { pst := 0, starting := some (2, 0, 500) }
     let j := s.judgeNs 500
     let o := s.num E.STABLE_TIMEOUT_NS
     (s.rick 0).starting = some (2, 0, 500) ∧ (s.at (j - 1)).now < 0 + j ∧ 0 + j ≤ (s.at j).now ∧ (s.at (o - 1)).now < 0 + o ∧ 0 + o ≤ (s.at o).now) ∧
    (let s := onRick0 { pst := 0, ctrlDead := some 0 }
     (s.rick 0).ctrlDead = some 0 ∧ (s.rick 0).starting = none ∧ (s.rick 1).ctrlDead = none) ∧
    (let x := 500 * 65536
     ((pt {}).rick 0).measuring = none ∧ (pt {}).num E.CLK_JUDGE ≠ 1 ∧ ¬ (x < 1000 * (100 * 327680 - x) ∨ x < 1000 * (x - 100 * 327680)) ∧ 1000 * (100 * 328007 - x) ≤ x ∧ x < 1000 * (100 * 328008 - x) ∧
     1000 * (x - 100 * 327353) ≤ x ∧ x < 1000 * (x - 100 * 327352)) ∧
    ((pt {} [(E.LIVE_SOURCE 0, .num 4)]).num (E.LIVE_SOURCE 0) = 4 ∧ (pt {} [(E.LIVE_SOURCE 1, .num 3)]).num (E.LIVE_SOURCE 1) = 3 ∧ (pt {}).partOf 1 = none) ∧
    ((pt { phase := .running }).partOf 0 = some 0 ∧ ((pt { phase := .running }).part 0).phase = .running) ∧
    (let s := onRick0 { pst := 0, measuring := some (15, 5) }
     (s.rick 0).measuring = some (15, 5) ∧ (s.at 4).now < 5 ∧ 5 ≤ (s.at 5).now ∧ fmExists 0 15 = false ∧ fmExists 0 0 = true) := by decide +kernel

/-- Partition 0 in an ash-out. -/
def ashing (x : Ash) : State := pt { ash := some x }
theorem witness_BootAshOutAndDebug :
    (({} : State).atStart = true ∧ (pt {} [(E.BOOT_STATE, .num 1)]).atStart = false ∧ ({} : State).num E.BOOT_BANK ≤ 1 ∧ ({} : State).bankOk 0 true = true ∧ ({} : State).bankOk 1 true = true ∧ ({} : State).bankOk 0 false = false) ∧
    (let s : State := pt {} [(E.BOOT_STATE, .num 1), (E.BANK_STATUS, .blob (2 :: zeros 31))]
     s.num E.BOOT_STATE = 1 ∧ s.bankState s.bank = 2 ∧ s.trialT0 + 10000000000 ≤ (s.at 10000000000).now ∧ ¬ s.trialT0 + 10000000000 ≤ (s.at 9999999999).now) ∧
    (let s : State := { onRick0 { pst := 4 } {} [(E.BOOT_STATE, .num 2)] with bringups := [0] }
     s.bringups.head? = some 0 ∧ (s.rick 0).pst = 4 ∧ (s.rick 0).bringup = none ∧ s.throttleAt = none ∧ s.now % max 1 (s.num E.SLEW_WINDOW_NS) = 0 ∧ s.charged + 28500 * 27720 ≤ s.slewLimit) ∧
    (let s : State := { onRick0 { pst := 4, bringup := some 0 } {} [(E.RICK_MASK 0, .num 2)] with bringups := [0] }
     (s.rick 0).bringup = some 0 ∧ (s.at 2699999999).now < 0 + 2700000000 ∧ 0 + 2700000000 ≤ (s.at 2700000000).now ∧ (s.rick 0).degradedAt = none ∧ s.partOf 0 = none ∧ (s.rick 1).bringup = none) ∧
    (let s : State := { dict := (pt {} [(E.BOOT_STATE, .num 2), (E.RICK_MASK 0, .num 0)]).dict }
     s.num E.BOOT_STATE = 2 ∧ s.bringups = [] ∧ s.lastReady + 3000000000 ≤ (s.at 3000000000).now ∧ (s.at 2999999999).now < s.lastReady + 3000000000 ∧ s.liveParts = []) := by decide +kernel
theorem witness_BootAshOutAndDebug_later :
    (({ standby := true } : State).standby = true ∧ ({} : State).standby = false ∧ ({} : State).num E.FAILOVERS + 1 < 2 ^ 32) ∧
    (let s : State := { pt {} [(E.BOOT_STATE, .num 2), (E.RICK_READY, .num 1)] with kindMask := 1, kindPart := 0 }
     s.kindMask ≠ 0 ∧ s.kindled = false ∧ s.partReady s.kindPart = true ∧ s.num E.BOOT_STATE = 2 ∧ ∀ id < 4, s.setKey (s.num (E.PART_TENANT s.kindPart)) id = none) ∧
    (let a : Ash := { t0 := 0, attempt := 1, event := 1, next := 0xFF }
     ((ashing a).part 0).ash = some a ∧ a.dead = false ∧ (ashing a).awake 0 = true ∧ ((ashing a).at 149999999).now < 0 + 150000000 ∧ 0 + 150000000 ≤ ((ashing a).at 150000000).now ∧
     ((ashing a).at 2949999999).now < 0 + 2950000000 ∧ 0 + 2950000000 ≤ ((ashing a).at 2950000000).now ∧ 0 + 3000000000 ≤ ((ashing a).at 3000000000).now ∧ ((ashing a).at 2999999999).now < 0 + 3000000000 ∧
     ((ashing { a with event := 4 }).part 0).ash = some { a with event := 4 } ∧ ((ashing { a with event := 7 }).part 0).ash = some { a with event := 7 } ∧
     ((ashing { a with dead := true, attempt := 3 }).part 0).ash = some { a with dead := true, attempt := 3 } ∧ ((pt {}).part 0).ash = none) ∧
    (({ ricks := [(0, { pst := 2 })], dict := (pt {}).dict, parts := (ashing { t0 := 0, attempt := 1, event := 1, next := 0xFF }).parts } : State).awake 0 = false) ∧
    (let s := pt { halt := some (halt0 (some 0)) } [(E.HALT_LIMIT_NS 0, .num 10)]
     (s.part 0).halt = some (halt0 (some 0)) ∧ (halt0 (some 0)).since = some 0 ∧ s.num (E.HALT_LIMIT_NS 0) = 10 ∧ (s.at 9).now < 0 + 10 ∧ 0 + 10 ≤ (s.at 10).now ∧ (pt {} [(E.HALT_LIMIT_NS 0, .num 0)]).num (E.HALT_LIMIT_NS 0) = 0) ∧
    ((pt {}).exists 0 = true ∧ (pt {}).stacksActive 0 = true ∧ (onRick0 { pst := 2 }).stacksActive 0 = false ∧ ((pt {}).part 0).phase ≠ .running) := by decide +kernel

/-- A state the step answers, when it answers one. -/
def next? (c : Instr) (s : State) : Option State := match step { s with pending := [c] } with | .next t => some t | _ => none

theorem witness_EmptyQueueTicks : State.reset.pending = [] ∧ step State.reset = .next { State.reset with now := 10 } := ⟨rfl, rfl⟩
/-- From reset a core row with the rick asleep, and the first event of the boot. -/
theorem witness_StepKeepsTheMemoryForm : State.reset.canonical ∧ ((next? (.presenceOpen 0) State.reset).map State.switchOn = some false) :=
  ⟨by unfold State.canonical; decide +kernel, by decide +kernel⟩

/-! Single steps -/

/-- S1 := S2 + S3 wraps at 64 bits: 2^64 − 1 + 2 = 1; S0 stays zero; the next word (Table 03-3). -/
theorem test_add_wraps : (next? (.add 0) (core1 (rr 0 0) { regs := [(2, 0xFFFFFFFFFFFFFFFF), (3, 2)] })).map (fun t => ((t.hearth 0).reg 1, (t.hearth 0).reg 0, (t.hearth 0).pc, (t.hearth 0).cycle)) = some (1, 0, 1, 1) := by decide +kernel
/-- ALERT_N: cause 5 and the throttle (R645, Table 18-4). -/
theorem test_alert : (next? (.alertAssert 7) {}).map (fun t => (t.num E.ALERT_PIN, t.causes, t.num E.EMERGENCY, t.throttleAt)) = some (1, 32, 32, some 7) := by decide +kernel
theorem test_input_beyond_maximum : step { State.reset with pending := [.inputOutOfRange 60001 0] } = .fault .beyondAbsoluteMaximum := rfl
/-- A request of a session that does not exist: REJECT with SESSION (R471). -/
theorem test_no_session : (next? (.wake ⟨9, 1, 1, true, 0⟩ 0) {}).map (fun t => t.replies.map (fun r => (r.ses, r.kind, r.data))) = some [(9, 0x04, [0x11, 0, 0, 0, 0, 0, 0, 0])] := by decide +kernel
/-- Reset: the pins and the bring-up state (Table 20-1). -/
theorem test_reset : State.reset.num E.BOOT_STATE = 0 ∧ State.reset.now = 0 ∧ State.reset.refsLost = 0 ∧ (State.reset.rick 11).pst = 4 := by decide +kernel
end Sys2Proof.Tests
end

section
/-!
PROOFS. What the device holds at the instant of power valid.
-/
namespace Sys2Proof.Proofs
open Sys2Proof.Machine

/-- A memory that lists nothing reads as zero everywhere (log 3). -/
@[simp] theorem memory_look_nil (a : Nat) : Memory.look [] a = 0 := rfl

/-- Every rick of the device after reset is in its default state. -/
@[simp] theorem reset_rick (k : Nat) : State.reset.rick k = {} := rfl

/-- Every partition of the device after reset is in its default state. -/
@[simp] theorem reset_part (n : Nat) : State.reset.part n = {} := rfl

/-- A rick runs its gated logic only in power state A, which is number 0. -/
theorem rick_on_of_pst_ne_zero {r : Rick} (h : r.pst ≠ 0) : r.on = false := by
  simp [Rick.on, h]

/-- No core starts an instruction in a rick whose gated logic does not run. -/
theorem coreReady_of_rick_off {s : State} {g : Nat} (h : (s.rick (g / 18)).on = false) : s.coreReady g = none := by
  unfold State.coreReady
  split
  · simp [h]
  · rfl

/-- After reset no rick's gated logic runs: each is in power state O (log 89). -/
theorem reset_rick_on (k : Nat) : (State.reset.rick k).on = false :=
  rick_on_of_pst_ne_zero (by simp)

/-- Settles O3: the tables of the reset state list nothing, so every rick and partition has its default value; with
every rick in power state O, no core is ready. -/
theorem resetLeavesTheDeviceOff : Obligations.ResetLeavesTheDeviceOff := by
  unfold Obligations.ResetLeavesTheDeviceOff
  have ricks (k : Nat) : (State.reset.rick k).pst = 4 ∧ (State.reset.rick k).on = false :=
    ⟨by rw [reset_rick], reset_rick_on k⟩
  have cores (g : Nat) : State.reset.coreReady g = none := coreReady_of_rick_off (reset_rick_on (g / 18))
  have parts (n : Nat) : (State.reset.part n).phase = .idle ∧ (State.reset.part n).trapAt = none := by
    simp
  exact ⟨rfl, rfl, memory_look_nil, rfl, rfl, ricks, cores, parts⟩

end Sys2Proof.Proofs
end

section
/-!
PROOFS. What a core row does when it does not run its own instruction: the branches of `coreRun` before the body, and that every
row of Table 03-3 is a `coreRun` of its own mnemonic.
-/
namespace Sys2Proof.Proofs
open Sys2Proof.Machine Sys2Proof.Laws

/-! The branches of `coreRun` that do not reach the body -/

/-- A core that may not start an instruction does nothing (R29, R115). -/
theorem coreRun_of_not_ready {s : State} {g : Nat} (hr : s.coreReady g = none) (m : Mn) (body : State → Nat → Nat → W32 → State) :
    coreRun s g m body = s := by
  simp only [coreRun, hr]

section
variable {s : State} {g n l : Nat} {w : W32} (hr : s.coreReady g = some (n, l)) (hw : (s.hearth g).fetch = some w)
include hr hw

/-- An uncorrectable instruction word is the memory trap (R110). -/
theorem coreRun_of_uncorrectable (hu : s.uncorrectable (imBase g + 4 * (s.hearth g).pc) 4 = true) (m : Mn)
    (body : State → Nat → Nat → W32 → State) : coreRun s g m body = s.coreTrap n l g 0x08 w.toNat := by
  simp only [coreRun, hr, hw, hu, if_true]

/-- A sound word that Table 03-3 does not list is an illegal instruction (R96). -/
theorem coreRun_of_unlisted (hs : s.uncorrectable (imBase g + 4 * (s.hearth g).pc) 4 = false) (hm : mnOf w = none) (m : Mn)
    (body : State → Nat → Nat → W32 → State) : coreRun s g m body = s.coreTrap n l g 0x01 w.toNat := by
  simp only [coreRun, hr, hw, hs, hm, Bool.false_eq_true, if_false]

/-- A sound word that is another instruction is left to the row of that instruction (log 10). -/
theorem coreRun_of_other_word (hs : s.uncorrectable (imBase g + 4 * (s.hearth g).pc) 4 = false) {m m' : Mn} (hm : mnOf w = some m')
    (hne : m' ≠ m) (body : State → Nat → Nat → W32 → State) : coreRun s g m body = s := by
  simp only [coreRun, hr, hw, hs, hm, Bool.false_eq_true, if_false, if_neg hne]

end

/-! The rows of Table 03-3 -/

/-- The command of a row runs the core of hearth `g` with the row's own mnemonic and some body. -/
def RunsCore (g : Fin 216) (x : Mn × Instr) : Prop :=
  ∃ body : State → Nat → Nat → W32 → State, ∀ s, exec x.2 s = .next (coreRun s g x.1 body)

section
variable {g : Fin 216} {m : Mn} {i : Instr}

theorem RunsCore.of_coreRun {body : State → Nat → Nat → W32 → State} (h : ∀ s, exec i s = .next (coreRun s g m body)) : RunsCore g (m, i) :=
  ⟨_, h⟩

theorem RunsCore.of_coreAlu {c : Nat} {f : Hearth → W32 → W64} (h : ∀ s, exec i s = .next (coreAlu s g m c f)) : RunsCore g (m, i) :=
  .of_coreRun h

theorem RunsCore.of_coreRR {c : Nat} {f : W64 → W64 → W64} (h : ∀ s, exec i s = .next (coreRR s g m c f)) : RunsCore g (m, i) :=
  .of_coreAlu h

theorem RunsCore.of_coreRI {f : W64 → W64 → W64} (h : ∀ s, exec i s = .next (coreRI s g m f)) : RunsCore g (m, i) :=
  .of_coreAlu h

theorem RunsCore.of_coreFP {f : FV → FV → Nat} (h : ∀ s, exec i s = .next (coreFP s g m f)) : RunsCore g (m, i) :=
  .of_coreRun h

theorem RunsCore.of_coreLoad {size : Nat} (h : ∀ s, exec i s = .next (coreLoad s g m size)) : RunsCore g (m, i) :=
  .of_coreRun h

theorem RunsCore.of_coreStore {size : Nat} (h : ∀ s, exec i s = .next (coreStore s g m size)) : RunsCore g (m, i) :=
  .of_coreRun h

theorem RunsCore.of_coreBranch {c : W64 → W64 → Bool} (h : ∀ s, exec i s = .next (coreBranch s g m c)) : RunsCore g (m, i) :=
  .of_coreRun h

theorem RunsCore.of_coreSummary {y : W32 → Nat} (h : ∀ s, exec i s = .next (coreSummary s g m y)) : RunsCore g (m, i) :=
  .of_coreRun h

end

/-- Every row of Table 03-3 runs the core with its own mnemonic: one shape of `coreRun` for each group of instructions. -/
theorem runsCore_of_mem_coreRows (g : Fin 216) : ∀ x ∈ coreRows g, RunsCore g x := by
  simp only [coreRows, List.forall_mem_append, List.forall_mem_cons, List.not_mem_nil, false_imp_iff, implies_true, and_true]
  refine ⟨⟨⟨?integer, ?floatAndImmediate⟩, ?memoryAndBranch⟩, ?system⟩
  case integer =>
    exact ⟨.of_coreRR (exec_add g), .of_coreRR (exec_sub g), .of_coreRR (exec_and g), .of_coreRR (exec_or g), .of_coreRR (exec_xor g),
      .of_coreRR (exec_shl g), .of_coreRR (exec_shr g), .of_coreRR (exec_sar g), .of_coreRR (exec_mul g), .of_coreRR (exec_mulh g),
      .of_coreRR (exec_slt g), .of_coreRR (exec_sltu g), .of_coreRR (exec_min g), .of_coreRR (exec_max g)⟩
  case floatAndImmediate =>
    exact ⟨.of_coreFP (exec_fadd g), .of_coreFP (exec_fsub g), .of_coreFP (exec_fmul g), .of_coreFP (exec_fmin g), .of_coreFP (exec_fmax g),
      .of_coreRR (exec_flt g), .of_coreRR (exec_fcvti g), .of_coreRR (exec_fcvtf g), .of_coreRI (exec_addi g), .of_coreRI (exec_andi g),
      .of_coreRI (exec_ori g), .of_coreRI (exec_xori g), .of_coreRI (exec_shli g), .of_coreRI (exec_shri g), .of_coreRI (exec_sari g),
      .of_coreAlu (exec_movh g)⟩
  case memoryAndBranch =>
    exact ⟨.of_coreLoad (exec_ld64 g), .of_coreLoad (exec_ld32 g), .of_coreLoad (exec_ld16 g), .of_coreLoad (exec_ld8 g), .of_coreStore (exec_st64 g),
      .of_coreStore (exec_st32 g), .of_coreStore (exec_st16 g), .of_coreStore (exec_st8 g), .of_coreBranch (exec_beq g), .of_coreBranch (exec_bne g),
      .of_coreBranch (exec_blt g), .of_coreBranch (exec_bge g), .of_coreBranch (exec_bltu g), .of_coreBranch (exec_bgeu g)⟩
  case system =>
    exact ⟨.of_coreRun (exec_jmp g), .of_coreRun (exec_jr g), .of_coreSummary (exec_bsum g), .of_coreSummary (exec_srd g), .of_coreSummary (exec_sflg g),
      .of_coreRun (exec_issue g), .of_coreRun (exec_fence g), .of_coreRun (exec_waitc g), .of_coreRun (exec_bar g), .of_coreRun (exec_poll g),
      .of_coreRun (exec_csrr g), .of_coreRun (exec_csrw g), .of_coreRun (exec_note g), .of_coreRun (exec_stepend g)⟩

/-- Settles O19: the row is a `coreRun` of its own mnemonic, whose branches before the body are the four cases. -/
theorem coreRowsStart : Obligations.CoreRowsStart := by
  unfold Obligations.CoreRowsStart
  intro s g x hx
  obtain ⟨body, runs⟩ := runsCore_of_mem_coreRows g x hx
  rw [runs]
  refine ⟨fun notReady => ?_, fun n l w ready word => ⟨fun bad => ?_, fun sound => ⟨fun unlisted => ?_, fun m names other => ?_⟩⟩⟩
  · rw [coreRun_of_not_ready notReady]
  · rw [coreRun_of_uncorrectable ready word bad]
  · rw [coreRun_of_unlisted ready word sound unlisted]
  · rw [coreRun_of_other_word ready word sound names other]

end Sys2Proof.Proofs
end

section
/-!
PROOFS. Armed operations that time out, counters of a job whose slice does not run, and the commands of collective groups.
-/
namespace Sys2Proof.Proofs
open Sys2Proof.Machine Sys2Proof.Laws

/-! Armed operations (R436, R438) -/

section
variable {s : State} {n : Fin 12} {owner op t : Nat}

/-- Before OP_TIMEOUT_NS has passed for any message of the operation the event is not due (log 17). -/
theorem execOpTimeout_of_none_due
    (early : ∀ f ∈ (s.at t).flights.filter (fun f => f.2.use == Use.armed owner op && f.2.part == n.val),
      (s.at t).now < f.2.sent + (s.at t).num (E.OP_TIMEOUT_NS n)) :
    execOpTimeout n owner op t s = .next (s.at t) := by
  unfold execOpTimeout
  have nothingDue : ((s.at t).flights.filter (fun f => f.2.use == Use.armed owner op && f.2.part == n.val)).any
      (fun f => decide (f.2.sent + (s.at t).num (E.OP_TIMEOUT_NS n) ≤ (s.at t).now)) = false := by
    rw [List.any_eq_false]
    intro f hf
    simpa using early f hf
  simp only [nothingDue, Bool.false_eq_true, if_false]

/-- One message of the operation that has waited OP_TIMEOUT_NS fails it and ends its other messages. -/
theorem execOpTimeout_of_due
    (due : ∃ f ∈ (s.at t).flights.filter (fun f => f.2.use == Use.armed owner op && f.2.part == n.val),
      f.2.sent + (s.at t).num (E.OP_TIMEOUT_NS n) ≤ (s.at t).now) :
    execOpTimeout n owner op t s = .next (({ s.at t with
      flights := (s.at t).flights.filter (fun f => !(f.2.use == Use.armed owner op && f.2.part == n.val)) } : State).opFail n owner op 4) := by
  unfold execOpTimeout
  obtain ⟨f, hf, old⟩ := due
  have someDue : ((s.at t).flights.filter (fun f => f.2.use == Use.armed owner op && f.2.part == n.val)).any
      (fun f => decide (f.2.sent + (s.at t).num (E.OP_TIMEOUT_NS n) ≤ (s.at t).now)) = true :=
    List.any_eq_true.mpr ⟨f, hf, by simpa using old⟩
  simp only [someDue, if_true]

end

/-- A fired operation of a job slot fails by itself: no group's command ends with it. -/
theorem opFail_of_job {s : State} {n o i : Nat} (status : Nat) (job : o < 0x40) (fired : (s.trigOf n o).fired.getD i 0 = 1) :
    s.opFail n o i status = ((s.onTrig n o (fun t => { t with fired := t.fired.put i 3 })).bump (E.OP_FAILS n)).raise 0xEF06 (scopeP n) := by
  simp [State.opFail, fired, job]

/-- Counters and armed operations decide nothing about whose slice runs. -/
@[simp] theorem sliceRuns_onTrig (s : State) (n o : Nat) (f : Trig → Trig) (m j : Nat) : (s.onTrig n o f).sliceRuns m j = s.sliceRuns m j := rfl

/-- A counter of a job slot whose slice does not run only counts (R438). -/
theorem raiseCounter_of_waiting_slice {s : State} {n o : Nat} (c d : Nat) (job : o < 8) (waits : s.sliceRuns n o = false) :
    s.raiseCounter n o c d = s.onTrig n o (fun t => { t with ctrs := t.ctrs.put c (addU32 o (t.ctrs.getD c 0) d) }) := by
  have notTurn : o ≠ 0x80 := by omega
  have notGroup : o < 0x40 := by omega
  simp [State.raiseCounter, State.raiseCtr, notTurn, notGroup, job, waits]

/-! Trigger rings (R437) -/

section
variable {s : State} {n : Fin 12} {job : Fin 8} {t : Nat}

theorem execTriggerRingRecord_of_not_taken (h : (s.at t).trigNext n job = none ∨ (s.at t).haltedNow n = true) :
    execTriggerRingRecord n job t s = .next (s.at t) := by
  unfold execTriggerRingRecord
  rcases h with empty | halted
  · simp only [empty]
  · simp only [halted, if_true]
    split <;> rfl

theorem execTriggerRingRecord_of_record {b : List Byte} (next : (s.at t).trigNext n job = some b) (runs : (s.at t).haltedNow n = false) :
    execTriggerRingRecord n job t s = .next ((s.at t).trigTake n job b) := by
  simp [execTriggerRingRecord, next, runs]

end

/-! Commands of groups (R441 to R446) -/

/-- The rows of collective commands with the kinds they take. -/
theorem exec_collective (s : State) (n : Fin 12) (gr : Fin 64) (t : Nat) :
    ∀ y ∈ [(Instr.allreduce n gr t, 1), (.reduceScatter n gr t, 2), (.allgather n gr t, 3), (.alltoallv n gr t, 4), (.barrier n gr t, 5)],
      exec y.1 s = .next (takeCommand n gr y.2 t s) := by
  simp only [List.forall_mem_cons, List.not_mem_nil, false_imp_iff, implies_true, and_true]
  exact ⟨exec_allreduce n gr t s, exec_reduceScatter n gr t s, exec_allgather n gr t s, exec_alltoallv n gr t s, exec_barrier n gr t s⟩

section
variable {s : State} {n g op t : Nat} {b : List Byte}

theorem takeCommand_of_empty (empty : (s.at t).cmdNext n g = none) : takeCommand n g op t s = s.at t := by
  simp only [takeCommand, empty]

/-- A command of another kind is left to the row of that kind. -/
theorem takeCommand_of_other_kind (next : (s.at t).cmdNext n g = some b) (lo : 1 ≤ fld b 0 1) (hi : fld b 0 1 ≤ 5) (other : fld b 0 1 ≠ op) :
    takeCommand n g op t s = s.at t := by
  simp [takeCommand, next, lo, hi, other]

/-- A command of the row's kind, or of none, with the number the group expects. -/
theorem takeCommand_of_expected (next : (s.at t).cmdNext n g = some b) (kind : fld b 0 1 = op ∨ fld b 0 1 = 0 ∨ 5 < fld b 0 1)
    (seq : fld b 0x38 8 = ((s.at t).group n g).next) : takeCommand n g op t s = (s.at t).cmdStart n g b := by
  have mine : ¬ (fld b 0 1 ≠ op ∧ 1 ≤ fld b 0 1 ∧ fld b 0 1 ≤ 5) := by omega
  simp only [takeCommand, next, if_neg mine, seq, Nat.sub_self, if_true]

/-- A later number: those between were lost (R84). -/
theorem takeCommand_of_gap (next : (s.at t).cmdNext n g = some b) (kind : fld b 0 1 = op ∨ fld b 0 1 = 0 ∨ 5 < fld b 0 1)
    (seq : ((s.at t).group n g).next < fld b 0x38 8) :
    takeCommand n g op t s =
      (((s.at t).bumpBy (E.QUEUE_OVERRUNS n) 32 (fld b 0x38 8 - ((s.at t).group n g).next)).raise 0xE205 (scopeP n)).cmdStart n g b := by
  have mine : ¬ (fld b 0 1 ≠ op ∧ 1 ≤ fld b 0 1 ∧ fld b 0 1 ≤ 5) := by omega
  have gap : fld b 0x38 8 - ((s.at t).group n g).next ≠ 0 := by omega
  simp only [takeCommand, next, if_neg mine, if_neg gap]

/-- A malformed command ends at once with INVALID (R444). -/
theorem cmdStart_of_malformed (bad : s.cmdOk n (s.group n g) b = false) :
    s.cmdStart n g b = ((s.onGroup n g (fun y => { y with cmd := some b, next := fld b 0x38 8 + 1, dropped := 0 })).groupEnd n g 1).raise 0xEF0A (scopeP n) := by
  simp [State.cmdStart, bad]

end

@[simp] theorem group_onGroup (s : State) (n g : Nat) (f : Group → Group) : (s.onGroup n g f).group n g = f (s.group n g) := by
  simp [State.group, State.onGroup]

/-- An event leaves every group as it was. -/
@[simp] theorem group_raise (s : State) (code scope : Nat) (d : List Nat) (n g : Nat) : (s.raise code scope d).group n g = s.group n g := by
  unfold State.raise
  dsimp only
  split <;> rfl

/-- A command that has ended leaves its group without one (R445). -/
theorem groupEnd_cmd (s : State) (n g status : Nat) : ((s.groupEnd n g status).group n g).cmd = none := by
  unfold State.groupEnd
  dsimp only
  split
  case h_1 idle => exact idle
  case h_2 => split <;> simp

/-- Settles O53, clause by clause: the timeout, a failed operation, the trigger ring, a waiting slice's counter, the commands of a
group's ring, a malformed command, the end of a command. -/
theorem triggersAndGroups : Obligations.TriggersAndGroups := by
  unfold Obligations.TriggersAndGroups
  intro s n job gr owner op c d time
  dsimp only
  refine ⟨?early, ?due, ?fails, ?notTaken, ?record, ?counts, ?commands, ?malformed, ?ended⟩
  case early => intro h; rw [exec_opTimeout, execOpTimeout_of_none_due h]
  case due => intro h; rw [exec_opTimeout, execOpTimeout_of_due h]
  case fails => exact opFail_of_job 4
  case notTaken => intro h; rw [exec_triggerRingRecord, execTriggerRingRecord_of_not_taken h]
  case record => intro b next runs; rw [exec_triggerRingRecord, execTriggerRingRecord_of_record next runs]
  case counts => exact raiseCounter_of_waiting_slice c d
  case commands =>
    intro y hy
    rw [exec_collective s n gr time y hy]
    refine ⟨fun empty => ?_, fun b next lo hi other => ?_, fun b next kind => ⟨fun seq => ?_, fun seq => ?_⟩⟩
    · rw [takeCommand_of_empty empty]
    · rw [takeCommand_of_other_kind next lo hi other]
    · rw [takeCommand_of_expected next kind seq]
    · rw [takeCommand_of_gap next kind seq]
  case malformed => exact fun b bad => cmdStart_of_malformed bad
  case ended => exact groupEnd_cmd (s.at time) n gr

end Sys2Proof.Proofs
end

section
/-!
PROOFS. The five events of a job switch (Table 02-7): what each does in its phase once its time has come, and that it does nothing before.
-/
namespace Sys2Proof.Proofs
open Sys2Proof.Machine Sys2Proof.Laws

section
variable {s : State} {n : Fin 12} {j t0 t : Nat}

/-! The write-back (event 2) -/

theorem execSwitchWritebackDone_early (phase : ((s.at t).part n).phase = .switchOut j t0) (early : (s.at t).now < t0 + 30000) :
    execSwitchWritebackDone n t s = .next (s.at t) := by
  simp [execSwitchWritebackDone, phase, early]

/-- The write-back leaves no active slot, and the slot maps follow. -/
theorem execSwitchWritebackDone_due (phase : ((s.at t).part n).phase = .switchOut j t0) (due : t0 + 30000 ≤ (s.at t).now) :
    ∃ u, execSwitchWritebackDone n t s = .next u ∧ u.num (E.ACTIVE_SLOT n) = 0xFF ∧ (u.part n).phase = .switchMaps j (t0 + 30000) := by
  unfold execSwitchWritebackDone
  simp only [phase, if_neg (Nat.not_lt.mpr due)]
  exact ⟨_, rfl, (num_setNum ..).trans (if_pos rfl), by simp⟩

/-! The slot maps (event 3) -/

theorem execSlotMapsInForce_early (phase : ((s.at t).part n).phase = .switchMaps j t0) (early : (s.at t).now < t0 + 400000) :
    execSlotMapsInForce n t s = .next (s.at t) := by
  simp [execSlotMapsInForce, phase, early]

/-- A job without a saved copy starts from the images of its cord. -/
theorem execSlotMapsInForce_fresh (phase : ((s.at t).part n).phase = .switchMaps j t0) (due : t0 + 400000 ≤ (s.at t).now)
    (loaded : (s.at t).loaded n j = true) (fresh : ((s.at t).job n j).saved = false) :
    execSlotMapsInForce n t s = .next ((((s.at t).loadStreams n j).loadSdata n j).switchWeights n j) := by
  simp [execSlotMapsInForce, phase, Nat.not_lt.mpr due, loaded, fresh]

/-! The copy from tier S (event 4) -/

/-- Where every member of the job has a set to run with, nothing is to be copied. -/
theorem execTierSCopyDone_ready (phase : ((s.at t).part n).phase = .switchCopy j t0)
    (ready : ∀ m ∈ (s.at t).members n j, ((s.at t).chooseEpoch n m).isSome = true) :
    execTierSCopyDone n t s = .next ((s.at t).onPart n (fun p => { p with phase := .switchPrologue j (s.at t).now })) := by
  have nothingLacks : ((s.at t).members n j).filter
      (fun m => ((s.at t).chooseEpoch n m).isNone && ((s.at t).wset n ((s.at t).nextSet n m)).st == 5) = [] := by
    rw [List.filter_eq_nil_iff]
    intro m hm
    simp [Option.isSome_iff_ne_none.mp (ready m hm)]
  simp [execTierSCopyDone, phase, nothingLacks]

/-! The prologue (event 5) -/

theorem execSwitchPrologueDone_early (phase : ((s.at t).part n).phase = .switchPrologue j t0)
    (early : (s.at t).now < t0 + cdPrologue ((s.at t).job n j).image) : execSwitchPrologueDone n t s = .next (s.at t) := by
  simp [execSwitchPrologueDone, phase, early]

/-- After the prologue the incoming job is active, and its first step is kind 0 unless it repeats an exchange. -/
theorem execSwitchPrologueDone_due (phase : ((s.at t).part n).phase = .switchPrologue j t0)
    (due : t0 + cdPrologue ((s.at t).job n j).image ≤ (s.at t).now) (loaded : (s.at t).loaded n j = true)
    (fromBoundary : ((s.at t).part n).fromIdle = false) :
    execSwitchPrologueDone n t s =
      .next ((forAll ((s.at t).members n j) (fun m s => s.onJob n m (fun x => { x with kind := if x.repeatX then x.kind else 0 }))
        (((s.at t).setNum (E.ACTIVE_SLOT n) j).onPart n (fun p => { p with phase := .idle }))).runResident n j) := by
  have sameOrigin : (((s.at t).setNum (E.ACTIVE_SLOT n) j).part n).fromIdle = false := fromBoundary
  simp [execSwitchPrologueDone, phase, Nat.not_lt.mpr due, loaded, sameOrigin]

end

/-- Settles O36: each event before its time and at it, in the order of Table 02-7. -/
theorem switchEvents : Obligations.SwitchEvents := by
  unfold Obligations.SwitchEvents
  intro s n j t0 time
  dsimp only
  refine ⟨?outEarly, ?out, ?mapsEarly, ?maps, ?copy, ?prologueEarly, ?prologue⟩
  case outEarly => intro phase early; rw [exec_switchWritebackDone, execSwitchWritebackDone_early phase early]
  case out => intro phase due; rw [exec_switchWritebackDone]; exact execSwitchWritebackDone_due phase due
  case mapsEarly => intro phase early; rw [exec_slotMapsInForce, execSlotMapsInForce_early phase early]
  case maps => intro phase due loaded fresh; rw [exec_slotMapsInForce, execSlotMapsInForce_fresh phase due loaded fresh]
  case copy => intro phase ready; exact ⟨_, by rw [exec_tierSCopyDone, execTierSCopyDone_ready phase ready], by simp⟩
  case prologueEarly => intro phase early; rw [exec_switchPrologueDone, execSwitchPrologueDone_early phase early]
  case prologue =>
    intro phase due loaded fromBoundary
    rw [exec_switchPrologueDone, execSwitchPrologueDone_due phase due loaded fromBoundary]

end Sys2Proof.Proofs
end

section
/-!
PROOFS. Fields of byte strings: lengths, and the number that a little-endian field holds (R11).
-/
namespace Sys2Proof.Proofs
open Sys2Proof.Machine Sys2Proof.Laws

@[simp] theorem length_zeros (n : Nat) : (zeros n).length = n := List.length_replicate ..

@[simp] theorem length_leBytes (n v : Nat) : (leBytes n v).length = n := by
  induction n generalizing v with
  | zero => rfl
  | succ n ih => simp [leBytes, ih]

@[simp] theorem length_bytesAt (l : List Byte) (o n : Nat) : (bytesAt l o n).length = n := by
  simp only [bytesAt, List.length_append, List.length_take, List.length_drop, length_zeros]
  omega

/-- The bytes of a number hold the number, where it fits them. -/
theorem leNat_leBytes {n v : Nat} (fits : v < 256 ^ n) : leNat (leBytes n v) = v := by
  induction n generalizing v with
  | zero => simp [leBytes, leNat, Nat.lt_one_iff.mp fits]
  | succ n ih =>
    have rest : v / 256 < 256 ^ n := Nat.div_lt_of_lt_mul (by rwa [Nat.pow_succ, Nat.mul_comm] at fits)
    simp only [leBytes, leNat, ih rest, BitVec.toNat_ofNat]
    omega

/-- The field that is the end of a byte string. -/
theorem bytesAt_append_right (a b : List Byte) : bytesAt (a ++ b) a.length b.length = b := by
  simp [bytesAt, zeros]

/-- A field written at the end of a byte string reads back. -/
theorem fld_append_leBytes (a : List Byte) {n v : Nat} (fits : v < 256 ^ n) : fld (a ++ leBytes n v) a.length n = v := by
  have h := bytesAt_append_right a (leBytes n v)
  rw [length_leBytes] at h
  rw [fld, h, leNat_leBytes fits]

end Sys2Proof.Proofs
end

section
/-!
PROOFS. A message written to a queue's ring and the poll that takes it (R82 to R84).
-/
namespace Sys2Proof.Proofs
open Sys2Proof.Machine Sys2Proof.Laws

/-! A write to a region touches memory, and of the tables the dirty and the poisoned pages alone -/

theorem writeB_eq (s : State) (n k off : Nat) (l : List Byte) :
    ∃ dirty poison, s.writeB n k off l = { s.store (tierB k + off) l with dirty := dirty, pagePoison := poison } := by
  unfold State.writeB
  dsimp only
  split
  · split <;> exact ⟨_, _, rfl⟩
  · exact ⟨_, _, rfl⟩

/-- The address of a byte of a region's tier B span. -/
def spanAddr (s : State) (n r off : Nat) : Nat := tierB (rgRick (s.region n r)) + rgBoff (s.region n r) + off

section
variable (s : State) (n r off : Nat) (l : List Byte)

theorem writeRegion_eq : ∃ dirty poison, s.writeRegion n r off l = { s.store (spanAddr s n r off) l with dirty := dirty, pagePoison := poison } := by
  rw [State.writeRegion, spanAddr, Nat.add_assoc]
  exact writeB_eq ..

theorem writeRegion_mem : (s.writeRegion n r off l).mem = s.mem.store (spanAddr s n r off) l := by
  obtain ⟨_, _, e⟩ := writeRegion_eq s n r off l
  exact (congrArg State.mem e).trans rfl

theorem writeRegion_dict : (s.writeRegion n r off l).dict = s.dict := by
  obtain ⟨_, _, e⟩ := writeRegion_eq s n r off l
  exact (congrArg State.dict e).trans rfl

theorem writeRegion_regions : (s.writeRegion n r off l).regions = s.regions := by
  obtain ⟨_, _, e⟩ := writeRegion_eq s n r off l
  exact (congrArg State.regions e).trans rfl

end

/-! What the dictionary and the regions say of a queue -/

section
variable {s t : State}

theorem blob_congr (dict : t.dict = s.dict) (k : Nat) : t.blob k = s.blob k := by
  rw [State.blob, State.blob, State.dval, State.dval, dict]

theorem queueRegion_congr (dict : t.dict = s.dict) (n q : Nat) : t.queueRegion n q = s.queueRegion n q := by
  rw [State.queueRegion, State.queueRegion, blob_congr dict]

theorem consumed_congr (dict : t.dict = s.dict) (n q : Nat) : t.consumed n q = s.consumed n q := by
  rw [State.consumed, State.consumed, blob_congr dict]

theorem region_congr (regions : t.regions = s.regions) (n r : Nat) : t.region n r = s.region n r := by
  rw [State.region, State.region, regions]

theorem queueSlots_congr (regions : t.regions = s.regions) (n r : Nat) : t.queueSlots n r = s.queueSlots n r := by
  rw [State.queueSlots, State.queueSlots, region_congr regions]

end

/-! The write -/

theorem queueWrite_of_region {s : State} {n q r : Nat} (stamp : Nat) (msg : List Byte) (region : s.queueRegion n q = some r) (slots : 0 < s.queueSlots n r) :
    s.queueWrite n q stamp msg = s.writeRegion n r (stamp % s.queueSlots n r * 256) (bytesAt msg 0 248 ++ leBytes 8 stamp) := by
  simp only [State.queueWrite, region, if_neg (Nat.ne_of_gt slots)]

/-! The poll -/

section
variable {s : State} {n q r : Nat}

/-- The first turn of a poll reads one slot. -/
theorem pollOnce_first (region : s.queueRegion n q = some r) (slots : 0 < s.queueSlots n r) :
    State.pollOnce n q (s, [], false) = pollNext n q (s.consumed n q) [] (s.pollSlot n q r) := by
  rw [State.pollOnce]
  simp only [Bool.false_eq_true, if_false, region, if_neg (Nat.ne_of_gt slots)]

/-- A poll ends after one slot with its message, or without one. -/
theorem pollNext_first (y : State × Option (List Byte)) (c : Nat) :
    ((pollNext n q c [] y).1, (pollNext n q c [] y).2.1) = (y.1, y.2.toList) := by
  obtain ⟨u, _ | m⟩ := y <;> rfl

/-- A poll of one message is one turn. -/
theorem poll_one_turn (s : State) (n q : Nat) :
    s.poll n q 1 = ((State.pollOnce n q (s, [], false)).1, (State.pollOnce n q (s, [], false)).2.1) := by
  simp only [State.poll, List.range_one, List.foldl_cons, List.foldl_nil]

/-- A poll of one message reads one slot. -/
theorem poll_one (region : s.queueRegion n q = some r) (slots : 0 < s.queueSlots n r) :
    s.poll n q 1 = ((s.pollSlot n q r).1, (s.pollSlot n q r).2.toList) := by
  rw [poll_one_turn, pollOnce_first region slots, pollNext_first]

/-- A slot that can be read and holds the number expected is taken, unless it is all zeros (log 174). -/
theorem pollSlot_of_expected {m : List Byte}
    (sound : s.poisonedRange n (2 ^ 60 + rgRick (s.region n r) * 2 ^ 36 + rgBoff (s.region n r) + s.consumed n q % s.queueSlots n r * 256) 256 = false)
    (readable : s.uncorrectable (spanAddr s n r (s.consumed n q % s.queueSlots n r * 256)) 256 = false)
    (holds : s.mem.read (spanAddr s n r (s.consumed n q % s.queueSlots n r * 256)) 256 = m) (stamped : fld m 0xF8 8 = s.consumed n q) :
    s.pollSlot n q r = if allZero m then (s, none) else (s.setConsumed n q (s.consumed n q + 1), some m) := by
  unfold spanAddr at readable holds
  unfold State.pollSlot
  simp only [sound, readable, State.readRegion, holds, stamped, Bool.or_self, Bool.false_eq_true, if_false, if_true]

end

/-- Settles O37: the write stores the slot's 256 bytes, whose stamp is what the poll reads back from them. -/
theorem queueMessageIsPolled : Obligations.QueueMessageIsPolled := by
  unfold Obligations.QueueMessageIsPolled
  intro s n q stamp msg time r s1 slot m region slots
  let off := stamp % s1.queueSlots n r * 256
  have slotAddr : slot = spanAddr s1 n r off := rfl
  have length : m.length = 256 := by simp only [m, List.length_append, length_bytesAt, length_leBytes]
  have mem : (s1.writeRegion n r off m).mem = s.mem.store (spanAddr s1 n r off) m := writeRegion_mem s1 n r off m
  have holds : (s1.writeRegion n r off m).mem.read (spanAddr s1 n r off) 256 = m := by
    rw [mem, ← length]; exact read_store_same _ _ _
  refine ⟨s1.writeRegion n r off m, ?written, ?frame, holds, ?polled⟩
  case written => rw [exec_queueMessageWrite]; exact congrArg _ (queueWrite_of_region stamp msg region slots)
  case frame =>
    intro a outside
    rw [mem, look_store, length]
    exact if_neg (by rw [← slotAddr]; omega)
  case polled =>
    intro fits expected readable sound
    have sameDict := writeRegion_dict s1 n r off m
    have sameRegions := writeRegion_regions s1 n r off m
    have sameSlots : (s1.writeRegion n r off m).queueSlots n r = s1.queueSlots n r := queueSlots_congr sameRegions n r
    have sameRegion : (s1.writeRegion n r off m).region n r = s1.region n r := region_congr sameRegions n r
    have next : (s1.writeRegion n r off m).consumed n q = stamp := (consumed_congr sameDict n q).trans expected
    have sameAddr : spanAddr (s1.writeRegion n r off m) n r off = spanAddr s1 n r off := by simp only [spanAddr, sameRegion]
    have stamped : fld m 0xF8 8 = stamp := by
      have h := fld_append_leBytes (bytesAt msg 0 248) (n := 8) (v := stamp) (by omega)
      rwa [length_bytesAt] at h
    rw [poll_one ((queueRegion_congr sameDict n q).trans region) (sameSlots ▸ slots),
      pollSlot_of_expected (m := m) (by rw [next, sameSlots, sameRegion]; exact sound) (by rw [next, sameSlots, sameAddr]; exact readable)
        (by rw [next, sameSlots, sameAddr]; exact holds) (stamped.trans next.symm), next]
    split <;> rfl

end Sys2Proof.Proofs
end

section
/-!
PROOFS. What an operation leaves of a partition's running step: its kind and job slot, its raking pieces, its schedule fault. Requests that end, messages that
are sent, records of a trace and cords that are unloaded change none of them.
-/
namespace Sys2Proof.Proofs
open Sys2Proof.Machine Sys2Proof.Laws

/-- What each change of a list keeps, the changes one after another keep. -/
theorem forAll_invariant {α : Type} {P : State → Prop} {l : List α} {f : α → State → State} (keeps : ∀ x s, P s → P (f x s)) {s : State} (h : P s) :
    P (forAll l f s) := by
  unfold forAll
  induction l generalizing s with
  | nil => exact h
  | cons x r ih => exact ih (keeps x s h)

/-- What the events of a step ask of its partition: kind, job slot, pieces done, whether one is in progress, a schedule fault of the attempt. -/
def stepView (p : Part) : Nat × Nat × Nat × Bool × Bool := (p.kind, p.job, p.pieces, p.inPiece, p.schedFault)

/-- From `s0` to `s` the running step of every partition is the same one, at the same piece. -/
structure SameStep (s0 s : State) : Prop where
  view : ∀ i, stepView (s.part i) = stepView (s0.part i)

namespace SameStep

theorem refl (s : State) : SameStep s s := ⟨fun _ => rfl⟩

theorem trans {s t u : State} (h : SameStep s t) (k : SameStep t u) : SameStep s u := ⟨fun i => (k.view i).trans (h.view i)⟩

section
variable {s0 s : State} (h : SameStep s0 s)
include h

theorem kind (i : Nat) : (s.part i).kind = (s0.part i).kind := congrArg (fun v => v.1) (h.view i)
theorem job (i : Nat) : (s.part i).job = (s0.part i).job := congrArg (fun v => v.2.1) (h.view i)
theorem pieces (i : Nat) : (s.part i).pieces = (s0.part i).pieces := congrArg (fun v => v.2.2.1) (h.view i)
theorem inPiece (i : Nat) : (s.part i).inPiece = (s0.part i).inPiece := congrArg (fun v => v.2.2.2.1) (h.view i)
theorem schedFault (i : Nat) : (s.part i).schedFault = (s0.part i).schedFault := congrArg (fun v => v.2.2.2.2) (h.view i)

/-- A change of anything but the partitions. -/
theorem parts {t : State} (e : t.parts = s.parts) : SameStep s0 t := ⟨fun i => by rw [State.part, e]; exact h.view i⟩

/-- A change of a partition beside its step. -/
theorem onPart {n : Nat} {f : Part → Part} (hf : ∀ p, stepView (f p) = stepView p) : SameStep s0 (s.onPart n f) := by
  refine ⟨fun i => ?_⟩
  rw [part_onPart]
  split
  case isTrue e => rw [hf, e]; exact h.view n
  case isFalse => exact h.view i

end

theorem ite {c : Prop} [Decidable c] {s0 s t : State} (h : SameStep s0 s) (k : SameStep s0 t) : SameStep s0 (if c then s else t) := by
  split <;> assumption

theorem forAll {α : Type} {s0 s : State} {l : List α} {f : α → State → State} (hf : ∀ x s, SameStep s0 s → SameStep s0 (f x s)) (h : SameStep s0 s) :
    SameStep s0 (forAll l f s) := forAll_invariant hf h

/-! Objects, dictionary values and memory -/

section
variable {s0 s : State} (h : SameStep s0 s)
include h

theorem setNum {k v : Nat} : SameStep s0 (s.setNum k v) := h.parts rfl
theorem setBlob {k : Nat} {b : List Byte} : SameStep s0 (s.setBlob k b) := h.parts rfl
theorem bumpBy {k w d : Nat} : SameStep s0 (s.bumpBy k w d) := h.parts rfl
theorem bump {k : Nat} : SameStep s0 (s.bump k) := h.parts rfl
theorem onHearth {g : Nat} {f : Hearth → Hearth} : SameStep s0 (s.onHearth g f) := h.parts rfl
theorem setHearth {g : Nat} {x : Hearth} : SameStep s0 (s.setHearth g x) := h.parts rfl
theorem onRick {k : Nat} {f : Rick → Rick} : SameStep s0 (s.onRick k f) := h.parts rfl
theorem onJob {n j : Nat} {f : Job → Job} : SameStep s0 (s.onJob n j f) := h.parts rfl
theorem onRx {i : Nat} {f : ReqX → ReqX} : SameStep s0 (s.onRx i f) := h.parts rfl
theorem setRf {i o n v : Nat} : SameStep s0 (s.setRf i o n v) := h.parts rfl
theorem onWset {n w : Nat} {f : WSet → WSet} : SameStep s0 (s.onWset n w f) := h.parts rfl
theorem onTurn {n : Nat} {f : Turn → Turn} : SameStep s0 (s.onTurn n f) := h.parts rfl
theorem setTrigs {x : Tab Trig} : SameStep s0 { s with trigs := x } := h.parts rfl
theorem onFport {p : Nat} {f : FPort → FPort} : SameStep s0 (s.onFport p f) := h.parts rfl
theorem onConn {n c : Nat} {f : Conn → Conn} : SameStep s0 (s.onConn n c f) := h.parts rfl

theorem writeRegion {n r off : Nat} {l : List Byte} : SameStep s0 (s.writeRegion n r off l) := by
  refine h.parts ?_
  unfold State.writeRegion State.writeB
  dsimp only
  split
  · split <;> rfl
  · rfl

/-! Events and records -/

theorem raise {code scope : Nat} {d : List Nat} : SameStep s0 (s.raise code scope d) := by
  refine h.parts ?_
  unfold State.raise
  dsimp only
  split <;> rfl

theorem countLoss {n d : Nat} : SameStep s0 (s.countLoss n d) := by
  unfold State.countLoss
  refine .ite h (.ite ?_ (.raise ?_))
  all_goals exact h.bumpBy.onPart fun _ => rfl

theorem hearthRecord {n g : Nat} {rec : List Byte} : SameStep s0 (s.hearthRecord n g rec) := by
  unfold State.hearthRecord
  exact .ite h h.setHearth.countLoss

theorem coreRecord {n g typ info iaddr data : Nat} : SameStep s0 (s.coreRecord n g typ info iaddr data) := .ite h.hearthRecord h

theorem nicRecord {n k typ kind peer msgid : Nat} : SameStep s0 (s.nicRecord n k typ kind peer msgid) := by
  unfold State.nicRecord
  exact .ite h.onRick.countLoss h

/-! Messages and turns -/

theorem sendBy {slots : List Nat} {m : Msg} {use : Option Use} : SameStep s0 (s.sendBy slots m use) := by
  unfold State.sendBy
  refine .ite ?_ (.ite (.nicRecord (.onFport ?_)) (.nicRecord (.onConn ?_)))
  all_goals
    split
    · exact h.parts rfl
    · exact h.parts rfl

theorem turnToken {n to_ tok : Nat} : SameStep s0 (s.turnToken n to_ tok) := by
  unfold State.turnToken State.turnTokenFrom State.send
  exact .sendBy (.onTurn h)

theorem turnDecide {n : Nat} {sw : Bool} : SameStep s0 (s.turnDecide n sw) := by
  unfold State.turnDecide
  exact .ite h (.forAll (fun _ _ k => k.turnToken) h.onTurn.onTurn)

theorem turnFail {n code : Nat} : SameStep s0 (s.turnFail n code) := by
  unfold State.turnFail
  refine .ite h (.ite ?_ (.ite (.turnDecide ?_) (.turnToken ?_)))
  all_goals exact .raise (.bump (.ite h.onTurn h.onTurn.onWset))

/-! Requests that end -/

theorem releaseList {n l : Nat} : SameStep s0 (s.releaseList n l) := by
  unfold State.releaseList
  refine .forAll (fun k s kept => ?_) h
  dsimp only
  refine .onPart ?_ fun _ => ?_
  · exact kept.parts rfl
  · rfl

theorem audit {n i ty : Nat} {body : List Byte} : SameStep s0 (s.audit n i ty body).1 := by
  unfold State.audit
  split
  · exact h
  · dsimp only
    exact .onRx (.setNum (.writeRegion (.writeRegion (.ite h h.writeRegion))))

theorem endRequest {n i st code : Nat} : SameStep s0 (s.endRequest n i st code) := by
  unfold State.endRequest
  refine .ite h (.ite ?_ (.audit ?_))
  all_goals exact h.setRf.setRf.setRf.releaseList.onRx.onJob

/-! Cords that are unloaded -/

theorem failJob {n j code : Nat} : SameStep s0 (s.failJob n j code) := .forAll (fun _ _ k => k.endRequest) h

theorem endDrain {n j : Nat} : SameStep s0 (s.endDrain n j) := by
  unfold State.endDrain
  split
  · exact h
  · exact .ite h.onJob h.onJob.onWset

theorem dropSpill {n j : Nat} : SameStep s0 (s.dropSpill n j) := .forAll (fun _ _ k => k.parts rfl) h

theorem turnUnload {n j : Nat} : SameStep s0 (s.turnUnload n j) := .ite h.turnFail h

theorem emptySlot {n j code : Nat} : SameStep s0 (s.emptySlot n j code) := by
  unfold State.emptySlot
  dsimp only
  refine .setTrigs (.ite ?_ (.setBlob ?_))
  all_goals exact h.failJob.endDrain.dropSpill.turnUnload.onJob

theorem updateGaps {n : Nat} : SameStep s0 (s.updateGaps n) := h.parts rfl
theorem noKindling : SameStep s0 s.noKindling := h.parts rfl

theorem endKindling {n : Nat} {slots : List Nat} : SameStep s0 (s.endKindling n slots) := by
  unfold State.endKindling State.setKindling
  exact .ite h.noKindling.setBlob.raise h

theorem unloadJob {n j code : Nat} : SameStep s0 (unloadJob s n j code) := by
  unfold Machine.unloadJob
  dsimp only
  have emptied : SameStep s0 (Machine.forAll (s.slotsOfJob n j) (fun q s => s.emptySlot n q code) s) := .forAll (fun _ _ k => k.emptySlot) h
  refine .endKindling (.updateGaps ?_)
  refine .ite ?_ emptied
  exact emptied.setNum.onPart fun _ => rfl

theorem unloadAll {n code : Nat} : SameStep s0 (s.unloadAll n code) := by
  unfold State.unloadAll
  exact .forAll (fun _ _ k => .ite k.unloadJob k) h

/-! Limits of Table 21-4 -/

theorem hearthDue {order g count : Nat} {faulted : Bool} : SameStep s0 (s.hearthDue order g count faulted) := .ite h (h.raise.parts rfl)

theorem hearthSched {n g : Nat} : SameStep s0 (s.hearthSched n g) := .ite h.onHearth.hearthDue h.onHearth

theorem degrade {k : Nat} : SameStep s0 (s.degrade k) := by
  unfold State.degrade
  refine .ite h ?_
  dsimp only
  split
  · exact h.onRick.raise.unloadAll.onPart fun _ => rfl
  · exact h.onRick.raise

theorem rickSched {n k : Nat} : SameStep s0 (s.rickSched n k) := .ite h.onRick.raise.degrade h.onRick

end

end SameStep

end Sys2Proof.Proofs
end

section
/-!
PROOFS. Raking pieces (R108), schedule faults (R49) and the halt of a partition (R634).
-/
namespace Sys2Proof.Proofs
open Sys2Proof.Machine Sys2Proof.Laws

/-! Schedule faults -/

section
variable (s : State) (n : Nat)

/-- A schedule fault marks the running attempt, whatever it is attributed to. -/
theorem scheduleFault_schedFault (o : Option Nat) : ((s.scheduleFault n o).part n).schedFault = true := by
  unfold State.scheduleFault
  dsimp only
  split
  case isTrue marked =>
    cases o with
    | none => exact marked
    | some g => exact ((SameStep.refl s).hearthSched.schedFault n).trans marked
  case isFalse => exact ((SameStep.refl _).raise.schedFault n).trans (by simp)

/-- A schedule fault leaves a piece in progress as it is. -/
theorem scheduleFault_inPiece (g : Nat) : ((s.scheduleFault n (some g)).part n).inPiece = (s.part n).inPiece := by
  unfold State.scheduleFault
  have counted : SameStep s (s.hearthSched n g) := (SameStep.refl s).hearthSched
  dsimp only
  split
  · exact counted.inPiece n
  · rw [(SameStep.refl _).raise.inPiece n, part_onPart, if_pos rfl]
    exact counted.inPiece n

end

/-! Where a core stands in its step -/

/-- The piece a core is in, and its cycle. -/
def place (s : State) (g : Nat) : Option Nat × Nat := ((s.hearth g).piece, (s.hearth g).cycle)

/-- Records and events move no core. -/
theorem place_of_traceOnly {s t : State} (h : TraceOnly s t) (i : Nat) : place t i = place s i := by
  obtain ⟨tr, e⟩ := h.hearth i
  rw [place, e]
  rfl

theorem traceOnly_hearthDue (s : State) (order g count : Nat) (faulted : Bool) : TraceOnly s (s.hearthDue order g count faulted) := by
  unfold State.hearthDue
  split
  · exact .refl s
  · exact (traceOnly_raise s 0xE050 (scopeK (g / 18)) [order, g / 18, g % 18, count]).trans (.of_hearths rfl rfl rfl rfl rfl rfl rfl rfl rfl)

/-- The record of a schedule fault moves no core. -/
theorem place_hearthSched (s : State) (n g i : Nat) : place (s.hearthSched n g) i = place s i := by
  have counted (l : List Nat) : place (s.onHearth g (fun h => { h with faultSteps := l })) i = place s i := by
    rw [place, hearth_onHearth]
    split
    case isTrue e => rw [e]; rfl
    case isFalse => rfl
  unfold State.hearthSched
  extract_lets old l s1
  split
  · exact (place_of_traceOnly (traceOnly_hearthDue ..) i).trans (counted _)
  · exact counted _

theorem place_scheduleFault (s : State) (n g i : Nat) : place (s.scheduleFault n (some g)) i = place s i := by
  unfold State.scheduleFault
  dsimp only
  split
  · exact place_hearthSched s n g i
  · exact (place_of_traceOnly ((traceOnly_onPart ..).trans (traceOnly_raise ..)) i).trans (place_hearthSched s n g i)

/-- An update of one core after another, each seen to move that core as `h` says and no other, moves the cores of a list so, also where the list names
one twice. -/
theorem forAll_places {h : Option Nat × Nat → Option Nat × Nat} (again : ∀ p, h (h p) = h p) {P : State → Prop} {f : Nat → State → State}
    (keeps : ∀ g s, P s → P (f g s)) (moves : ∀ g s i, P s → place (f g s) i = if i = g then h (place s i) else place s i) (l : List Nat) {s : State}
    (start : P s) : P (forAll l f s) ∧ ∀ i, place (forAll l f s) i = if i ∈ l then h (place s i) else place s i := by
  unfold forAll
  induction l generalizing s with
  | nil => exact ⟨start, fun i => by simp⟩
  | cons g r ih =>
    obtain ⟨kept, rest⟩ := ih (keeps g s start)
    refine ⟨kept, fun i => ?_⟩
    rw [List.foldl_cons, rest i, moves g s i start]
    by_cases mine : i = g <;> by_cases later : i ∈ r <;> simp [mine, later, again]

/-! The start of a piece -/

/-- A core stops for the piece `idx` that starts at cycle `c`: what RAKING_PIECE_START does at one hearth. -/
def stopForPiece (n idx c g : Nat) (s : State) : State :=
  let busy := (List.range 9).any (fun e => ((s.hearth g).ops e).any (fun o => o.started && decide (c < o.busyEnd)))
  let s2 := (s.onHearth g (fun h => { h with piece := some idx, cycle := max h.cycle c })).coreRecord n g 0x08 0 0 idx
  if busy then s2.scheduleFault n (some g) else s2

/-- Where a core stops for a piece: in it, and not before its start. -/
def intoPiece (idx c : Nat) (p : Option Nat × Nat) : Option Nat × Nat := (some idx, max p.2 c)

theorem intoPiece_twice (idx c : Nat) (p : Option Nat × Nat) : intoPiece idx c (intoPiece idx c p) = intoPiece idx c p := by
  simp [intoPiece]

theorem execRakingPieceStart_due {s : State} {n : Fin 12} {t c : Nat} (starts : ((s.at t).rakeStarts n)[((s.at t).part n).pieces]? = some c)
    (running : ((s.at t).part n).phase = .running) (free : ((s.at t).part n).inPiece = false) (going : (s.at t).haltedNow n = false) :
    execRakingPieceStart n t s = .next (forAll (((s.at t).hearthsOf n).map (fun l => (s.at t).phys l)) (stopForPiece n ((s.at t).part n).pieces c)
      ((s.at t).onPart n (fun p => { p with inPiece := true }))) := by
  simp only [execRakingPieceStart, starts, running, free, going]
  rfl

theorem stopForPiece_inPiece (n idx c g : Nat) (s : State) : ((stopForPiece n idx c g s).part n).inPiece = (s.part n).inPiece := by
  have stopped : SameStep s ((s.onHearth g (fun h => { h with piece := some idx, cycle := max h.cycle c })).coreRecord n g 0x08 0 0 idx) :=
    (SameStep.refl s).onHearth.coreRecord
  unfold stopForPiece
  dsimp only
  split
  · exact (scheduleFault_inPiece _ n g).trans (stopped.inPiece n)
  · exact stopped.inPiece n

theorem place_stopForPiece (n idx c g : Nat) (s : State) (i : Nat) :
    place (stopForPiece n idx c g s) i = if i = g then intoPiece idx c (place s i) else place s i := by
  have stopped : place ((s.onHearth g (fun h => { h with piece := some idx, cycle := max h.cycle c })).coreRecord n g 0x08 0 0 idx) i =
      if i = g then intoPiece idx c (place s i) else place s i := by
    rw [place_of_traceOnly (traceOnly_coreRecord ..), place, hearth_onHearth]
    split
    case isTrue e => rw [e]; rfl
    case isFalse => rfl
  unfold stopForPiece
  dsimp only
  split
  · exact (place_scheduleFault _ n g i).trans stopped
  · exact stopped

/-! The end of a piece -/

/-- A core goes on after a piece of `d` cycles: what RAKING_PIECE_END does at one hearth. -/
def goOnAfterPiece (n d g : Nat) (s : State) : State :=
  match (s.hearth g).piece with
  | none => s
  | some i =>
    let start := ((s.rakeStarts n)[i]?).getD 0
    (s.onHearth g (fun h => { h with piece := none, cycle := max h.cycle (start + d) })).coreRecord n g 0x08 1 0 i

/-- Where a core goes on: past the end of its piece, by the start cycles of the step's pieces. -/
def pastPiece (starts : List Nat) (d : Nat) : Option Nat × Nat → Option Nat × Nat
  | (none, c) => (none, c)
  | (some i, c) => (none, max c ((starts[i]?).getD 0 + d))

theorem pastPiece_twice (starts : List Nat) (d : Nat) (p : Option Nat × Nat) : pastPiece starts d (pastPiece starts d p) = pastPiece starts d p := by
  obtain ⟨_ | i, c⟩ := p <;> rfl

/-- A core past its piece is in none, and the cycles of the one it was in have passed. -/
theorem pastPiece_place {starts : List Nat} {d g : Nat} {s t : State} (h : place t g = pastPiece starts d (place s g)) :
    (t.hearth g).piece = none ∧ ∀ i, (s.hearth g).piece = some i → (t.hearth g).cycle = max (s.hearth g).cycle ((starts[i]?).getD 0 + d) := by
  unfold place at h
  cases inside : (s.hearth g).piece with
  | none =>
    rw [inside] at h
    exact ⟨congrArg Prod.fst h, fun i no => by cases no⟩
  | some k =>
    rw [inside] at h
    refine ⟨congrArg Prod.fst h, fun i here => ?_⟩
    cases here
    exact congrArg Prod.snd h

theorem execRakingPieceEnd_due {s : State} {n : Fin 12} {t : Nat} (busy : ((s.at t).part n).inPiece = true) :
    execRakingPieceEnd n t s = .next (forAll (((s.at t).hearthsOf n).map (fun l => (s.at t).phys l))
      (goOnAfterPiece n ((s.at t).num E.PIECE_NS * (s.at t).clockMhz n / 1000))
      ((s.at t).onPart n (fun p => { p with inPiece := false, pieces := p.pieces + 1 }))) := by
  simp only [execRakingPieceEnd, busy]
  rfl

section
variable (n d g : Nat) (s : State)

theorem goOnAfterPiece_sameStep : SameStep s (goOnAfterPiece n d g s) := by
  unfold goOnAfterPiece
  split
  · exact .refl s
  · exact (SameStep.refl s).onHearth.coreRecord

theorem goOnAfterPiece_jobs : (goOnAfterPiece n d g s).jobs = s.jobs := by
  unfold goOnAfterPiece
  split
  · rfl
  · exact (traceOnly_coreRecord ..).jobs

/-- The pieces of a step are those of its kind in the cord of its job slot. -/
theorem rakeStarts_congr {s t : State} (same : SameStep s t) (jobs : t.jobs = s.jobs) (n : Nat) : t.rakeStarts n = s.rakeStarts n := by
  rw [State.rakeStarts, State.rakeStarts, same.kind, same.job, State.job, State.job, jobs]

theorem place_goOnAfterPiece (i : Nat) :
    place (goOnAfterPiece n d g s) i = if i = g then pastPiece (s.rakeStarts n) d (place s i) else place s i := by
  unfold goOnAfterPiece
  split
  case h_1 out =>
    split
    case isTrue e => rw [e, place, out]; rfl
    case isFalse => rfl
  case h_2 k inside =>
    rw [place_of_traceOnly (traceOnly_coreRecord ..), place, hearth_onHearth]
    split
    case isTrue e => rw [e, place, inside]; rfl
    case isFalse => rfl

end

/-! The halt -/

theorem execHaltStop_due {s : State} {n : Fin 12} {t : Nat} {x : Halt} (halt : ((s.at t).part n).halt = some x) (pending : x.since = none)
    (running : ((s.at t).part n).phase = .running) (free : ((s.at t).part n).inPiece = false) (stopped : (s.at t).allStopped n x.stop = true) :
    execHaltStop n t s = .next ((s.at t).haltNow n) := by
  simp [execHaltStop, halt, pending, running, free, stopped]

/-- A partition whose halt takes place is halted. -/
theorem haltNow_haltedNow {s : State} {n : Nat} {x : Halt} (halt : (s.part n).halt = some x) : (s.haltNow n).haltedNow n = true := by
  simp [State.haltNow, State.haltedNow, halt]

/-! The row of a schedule fault -/

/-- A schedule fault in a running partition, of whichever unit. -/
theorem execScheduleFault_running {s : State} {g : Fin 216} {m : Nat} (unit slot : Nat) (part : s.partOf (g / 18) = some m)
    (running : (s.part m).phase = .running) : ∃ t, execScheduleFault g unit slot s = .next t ∧ (t.part m).schedFault = true := by
  unfold execScheduleFault
  simp only [part, running]
  by_cases banks : unit = 0
  · exact ⟨_, by simp [banks], scheduleFault_schedFault s m (some g)⟩
  · exact ⟨(s.scheduleFault m none).rickSched m (g / 18), by simp [banks], ((SameStep.refl _).rickSched.schedFault m).trans (scheduleFault_schedFault s m none)⟩

/-- Settles O22: the start and the end of a piece at every core, the mark of a schedule fault, the halt. -/
theorem rakingAndHaltEvents : Obligations.RakingAndHaltEvents := by
  unfold Obligations.RakingAndHaltEvents
  intro s n time s0 hs
  refine ⟨?start, ?fin, ?fault, ?halt⟩
  case start =>
    intro c starts running free going
    obtain ⟨inPiece, places⟩ := forAll_places (h := intoPiece (s0.part n).pieces c) (P := fun u => (u.part n).inPiece = true)
      (f := stopForPiece n (s0.part n).pieces c) (intoPiece_twice _ c) (fun g u begun => (stopForPiece_inPiece ..).trans begun)
      (fun g u i _ => place_stopForPiece ..) hs (s := s0.onPart n (fun p => { p with inPiece := true })) (by simp)
    refine ⟨_, by rw [exec_rakingPieceStart, execRakingPieceStart_due starts running free going], inPiece, fun g bound => ?_⟩
    have stands := places g
    rw [if_pos bound] at stands
    exact ⟨congrArg Prod.fst stands, congrArg Prod.snd stands⟩
  case fin =>
    intro busy
    let d := s0.num E.PIECE_NS * s0.clockMhz n / 1000
    let begun := s0.onPart n (fun p => { p with inPiece := false, pieces := p.pieces + 1 })
    have starts : begun.rakeStarts n = s0.rakeStarts n := by simp [State.rakeStarts, begun, State.job]
    obtain ⟨⟨same, jobs⟩, places⟩ := forAll_places (h := pastPiece (s0.rakeStarts n) d) (P := fun u => SameStep begun u ∧ u.jobs = begun.jobs)
      (f := goOnAfterPiece n d) (pastPiece_twice _ d)
      (fun g u kept => ⟨kept.1.trans (goOnAfterPiece_sameStep n d g u), (goOnAfterPiece_jobs n d g u).trans kept.2⟩)
      (fun g u i kept => by rw [place_goOnAfterPiece, rakeStarts_congr kept.1 kept.2, starts]) hs
      (s := begun) ⟨.refl _, rfl⟩
    refine ⟨_, by rw [exec_rakingPieceEnd, execRakingPieceEnd_due busy], ?_, ?_, fun g bound => ?_⟩
    · exact (same.inPiece n).trans (by simp [begun])
    · exact (same.pieces n).trans (by simp [begun])
    · have stands := places g
      rw [if_pos bound] at stands
      exact pastPiece_place stands
  case fault =>
    intro g unit slot m part running
    rw [exec_scheduleFault]
    exact execScheduleFault_running unit slot part running
  case halt =>
    intro x halt pending running free stopped
    rw [exec_haltStop]
    exact ⟨execHaltStop_due halt pending running free stopped, haltNow_haltedNow halt⟩

end Sys2Proof.Proofs
end

section
/-!
PROOFS. A CMD that is admitted: the request runs the command, and the answer is what the command gave.
-/
namespace Sys2Proof.Proofs
open Sys2Proof.Machine Sys2Proof.Laws

section
variable {s : State} {r : Rq} {key : Nat} {x : Session}

/-- An admitted request that settles is executed on the state in which its message has arrived: without a code it answers OK, with a code it is turned away. -/
theorem request_settle_of_admitted {op : Nat} (adm : Admitted s r op key x) (notStore : op ≠ opStore) (f : Session → State → State × Nat) :
    s.request r op key (fun x s => s.settle (f x s)) = (s.arrived r).outcome r op key (f x (s.arrived r)) := by
  obtain ⟨accepted, fresh, alone, room, rights⟩ := adm
  have arrives : (s.at r.t).accept r.ses r.seq r.ok = (s.arrived r, some x) := Prod.ext rfl accepted
  unfold State.request
  rw [arrives]
  simp only [fresh, alone, rights, notStore, Nat.not_le.mpr room, false_and, Bool.false_eq_true, if_false, ne_eq, not_true_eq_false]
  unfold State.settle State.outcome
  by_cases done : (f x (s.arrived r)).2 = 0
  · simp only [done, if_true, State.answered]
  · simp only [done, if_false, State.turnedAway]

/-- A row whose body is an admitted CMD; an argument of another length is TYPE. -/
theorem next_command_of_admitted {arg : List Byte} {size : Nat} {f : Session → State → State × Nat} (adm : Admitted s r opCmd key x) :
    (.next (s.command r key arg size f) : Host.Outcome State Fault Refusal) =
      .next ((s.arrived r).outcome r opCmd key (if arg.length = size then f x (s.arrived r) else (s.arrived r, typeErr))) := by
  unfold State.command
  rw [request_settle_of_admitted adm (by decide)]
  simp only [ne_eq, ite_not]

/-- A row whose body is an admitted CMD without an argument. -/
theorem next_command_nil_of_admitted {f : Session → State → State × Nat} (adm : Admitted s r opCmd key x) :
    (.next (s.command r key [] 0 f) : Host.Outcome State Fault Refusal) = .next ((s.arrived r).outcome r opCmd key (f x (s.arrived r))) :=
  next_command_of_admitted adm

end

end Sys2Proof.Proofs
end

section
/-!
PROOFS. What stays as it is while a LOAD answers: an event and a wake trigger leave the job slots, the regions and LOAD_RESULT.
-/
namespace Sys2Proof.Proofs
open Sys2Proof.Machine Sys2Proof.Laws

/-- From `s0` to `s` the job slots, the regions and LOAD_RESULT of partition `n` are the same. -/
structure SameLoad (n : Nat) (s0 s : State) : Prop where
  jobs : s.jobs = s0.jobs
  regions : s.regions = s0.regions
  result : s.num (E.LOAD_RESULT n) = s0.num (E.LOAD_RESULT n)

namespace SameLoad

theorem refl (n : Nat) (s : State) : SameLoad n s s := ⟨rfl, rfl, rfl⟩

theorem ite {c : Prop} [Decidable c] {n : Nat} {s0 s t : State} (h : SameLoad n s0 s) (k : SameLoad n s0 t) : SameLoad n s0 (if c then s else t) := by
  split <;> assumption

theorem forAll {α : Type} {n : Nat} {s0 s : State} {l : List α} {f : α → State → State} (hf : ∀ x s, SameLoad n s0 s → SameLoad n s0 (f x s))
    (h : SameLoad n s0 s) : SameLoad n s0 (forAll l f s) := forAll_invariant hf h

section
variable {n : Nat} {s0 s : State} (h : SameLoad n s0 s)
include h

/-- A change beside the job slots, the regions and the entries. -/
theorem beside {t : State} (jobs : t.jobs = s.jobs) (regions : t.regions = s.regions) (dict : t.dict = s.dict) : SameLoad n s0 t :=
  ⟨jobs.trans h.jobs, regions.trans h.regions, by rw [State.num, State.dval, dict]; exact h.result⟩

theorem onPart {m : Nat} {f : Part → Part} : SameLoad n s0 (s.onPart m f) := h.beside rfl rfl rfl
theorem onRick {k : Nat} {f : Rick → Rick} : SameLoad n s0 (s.onRick k f) := h.beside rfl rfl rfl
theorem onEport {e : Nat} {f : EPort → EPort} : SameLoad n s0 (s.onEport e f) := h.beside rfl rfl rfl

/-- Another entry takes a number. -/
theorem setNum {key v : Nat} (other : E.LOAD_RESULT n ≠ key) : SameLoad n s0 (s.setNum key v) :=
  ⟨h.jobs, h.regions, by rw [num_setNum, if_neg other]; exact h.result⟩

/-- An event is put behind those of the module and counted. -/
theorem setEvents {events persisted : List Ev} {v : Nat} : SameLoad n s0 (({ s with events := events, persisted := persisted } : State).setNum E.EVENT_SEQ v) :=
  SameLoad.setNum (s := { s with events := events, persisted := persisted }) (h.beside rfl rfl rfl) (by unfold E.LOAD_RESULT E.EVENT_SEQ; omega)

/-- An event is put behind those of a partition and counted. -/
theorem setPartEvents {events : Tab (List Ev)} {m : Nat} : SameLoad n s0 (({ s with partEvents := events } : State).bumpBy (E.PART_EVENT_SEQ m) 64 1) :=
  SameLoad.setNum (s := { s with partEvents := events }) (h.beside rfl rfl rfl) (by unfold E.LOAD_RESULT E.PART_EVENT_SEQ; omega)

theorem raise {code scope : Nat} {detail : List Nat} : SameLoad n s0 (s.raise code scope detail) := by
  unfold State.raise
  exact .ite h.setEvents.setPartEvents h.setEvents

theorem waitWake {m : Nat} : SameLoad n s0 (s.waitWake m) := .forAll (fun _ _ k => k.onRick) h

theorem wakeLight {m cls : Nat} : SameLoad n s0 (s.wakeLight m cls) := .forAll (fun _ _ k => .ite k.onRick k.onRick) h

theorem unparkPorts : SameLoad n s0 s.unparkPorts :=
  .forAll (fun _ _ k => .onEport (k.setNum (by unfold E.LOAD_RESULT E.ETH_STATE; omega))) (h.setNum (by unfold E.LOAD_RESULT E.KEEPALIVE_PORT; omega))

/-- A background wake: no job's yield ends, and its stacks are as they were. -/
theorem wakeBackground {m : Nat} : SameLoad n s0 (s.wakePart m 2) := by
  have two : ¬ (2 : Nat) = 1 := by decide
  have three : ¬ (2 : Nat) = 3 := by decide
  unfold State.wakePart
  simp only [two, three, false_and, false_or, if_false]
  refine .ite h ?_
  split
  · exact h
  · have begun : SameLoad n s0 (if s.cold = true then s.unparkPorts else s) := .ite h.unparkPorts h
    exact .ite begun.onPart.wakeLight (.ite begun.onPart.waitWake begun.onPart)

end

end SameLoad

end Sys2Proof.Proofs
end

section
/-!
PROOFS. Partition commands. O43.
-/
namespace Sys2Proof.Proofs
open Sys2Proof.Machine Sys2Proof.Laws

/-! LOAD -/

section
variable {s : State} {n j : Nat} {i : List Byte}

/-- An image that is rejected: its code, the event, and the wake of a LOAD that gets past check 15. -/
theorem loadImage_of_rejected (rejected : s.loadCode n j i ≠ 0) :
    SameLoad n (s.setNum (E.LOAD_RESULT n) (s.loadCode n j i)) (s.loadImage n j i) := by
  unfold State.loadImage
  simp only [rejected, if_false]
  exact .ite (SameLoad.refl ..).raise (SameLoad.refl ..).raise.wakeBackground

/-- The job slot a cord takes holds its image, whatever it held before. -/
theorem loadedOver_img (old new : Job) : (loadedOver old new).img = new.img := by
  unfold loadedOver
  split <;> rfl

/-- A cord that is no co-cord takes the one slot. -/
theorem takeCord_img (single : cdKind i ≠ 3) : ((s.takeCord n j i).job n j).img = i := by
  have slots : (cordSlotsOf i j).zip (cordParts i) = [(j, i)] := by
    rw [cordSlotsOf, cordParts, if_neg single, if_neg single]
    rfl
  unfold State.takeCord
  simp only [slots, forAll, List.foldl_cons, List.foldl_nil]
  unfold State.job State.updateGaps State.lrLoad
  simp only [setBlob_jobs]
  change ((State.onJob _ n j _).job n j).img = i
  rw [job_onJob, if_pos rfl, loadedOver_img]
  rfl

/-- An image that is accepted takes its slot, then the stacks wake. -/
theorem loadImage_img (accepted : s.loadCode n j i = 0) (single : cdKind i ≠ 3) : ((s.loadImage n j i).job n j).img = i := by
  have taken : SameLoad n ((s.setNum (E.LOAD_RESULT n) 0).takeCord n j i) (s.loadImage n j i) := by
    unfold State.loadImage
    simp only [accepted, if_true]
    exact .ite (SameLoad.refl ..) (SameLoad.refl ..).wakeBackground
  rw [State.job, taken.jobs]
  exact takeCord_img single

/-- LOAD of a job slot outside a kindling. -/
theorem loadCmd_of_slot (slot : s.num (E.LOAD_SLOT n) ≤ 7) (noKindling : s.kindled = false) :
    s.loadCmd n = (s.loadImage n (s.num (E.LOAD_SLOT n)) (s.blob (E.CORD_IMAGE n)), 0) := by
  unfold State.loadCmd
  simp only [Nat.not_lt.mpr slot, noKindling, Bool.false_eq_true, false_and, if_false]

end

/-! Refusals -/

section
variable {s : State} {n w : Nat} (named : s.namedSet n = some w)
include named

theorem wsetRegister_of_used (used : (s.wset n w).st ≠ 0) : s.wsetRegister n = (s, busy) := by
  simp only [State.wsetRegister, named, if_pos used]

theorem wsetRelease_of_used (used : s.wsetBound n w = true ∨ (s.wset n w).pinned = true ∨ s.turnTargets n w = true) : s.wsetRelease n = (s, busy) := by
  unfold State.wsetRelease
  simp only [named]
  rw [if_pos]
  obtain bound | pinned | target := used
  · exact .inl bound
  · exact .inr (.inl pinned)
  · exact .inr (.inr (.inr target))

end

section
variable {s : State} {n : Nat}

theorem bpResume_of_not_halted (runs : s.haltedNow n = false) (v : List Byte) : s.bpResume n v = (s, stateErr) := by
  rw [State.bpResume, runs, if_neg (by decide)]

theorem snapshot_of_not_halted (runs : s.haltedNow n = false) (x : Session) (v : List Byte) : s.snapshot x n v = (s, stateErr) := by
  rw [State.snapshot, if_pos runs]

theorem wakePart_of_active (active : s.pstate n = 0) (cls : Nat) : s.wakePart n cls = s := by
  unfold State.wakePart
  simp only [active, true_or, if_true]

end

/-- Settles O43, from what an admitted CMD does, what a LOAD leaves of the job slots, and the checks that come first. -/
theorem partitionCommands : Obligations.PartitionCommands := by
  unfold Obligations.PartitionCommands
  intro s r n v x s1 sized
  refine ⟨?_, fun slot noKindling => ?_, fun w named => ⟨wsetRegister_of_used named, wsetRelease_of_used named⟩,
    fun runs => ⟨bpResume_of_not_halted runs v, snapshot_of_not_halted runs x v⟩, fun active => wakePart_of_active active 1⟩
  · simp only [List.forall_mem_cons, List.not_mem_nil, false_implies, implies_true, and_true]
    have noArg {key : Nat} {f : Session → State → State × Nat} (adm : Admitted s r opCmd key x) := next_command_nil_of_admitted (f := f) adm
    have withArg {arg : List Byte} {size key : Nat} {f : Session → State → State × Nat} (adm : Admitted s r opCmd key x) :=
      next_command_of_admitted (arg := arg) (size := size) (f := f) adm
    exact ⟨noArg, noArg, noArg, noArg, noArg, noArg, noArg, noArg, noArg, noArg, noArg, withArg, withArg, withArg⟩
  · intro j i
    rw [loadCmd_of_slot slot noKindling]
    refine ⟨rfl, fun rejected => ?_, loadImage_img⟩
    have same := loadImage_of_rejected rejected
    exact ⟨same.jobs, same.regions, by rw [same.result, num_setNum, if_pos rfl]⟩

end Sys2Proof.Proofs
end

section
/-!
PROOFS. A code of a number format, its value, and the rounding of that value (R181, R189, Table 06-1).
-/
namespace Sys2Proof.Proofs
open Sys2Proof.Machine

section
variable (f : Fmt)

/-- The sign bit of a code and the magnitude below it make up the code. -/
theorem signed_sign_magnitude {c : Nat} (fits : c < 2 ^ (1 + f.eb + f.fb)) :
    f.signed (c.testBit (f.eb + f.fb)) (c % 2 ^ (f.eb + f.fb)) = c := by
  rw [Nat.add_assoc, Nat.pow_add, Nat.mul_comm] at fits
  have top : c / 2 ^ (f.eb + f.fb) < 2 := Nat.div_lt_of_lt_mul fits
  have split := Nat.mod_add_div c (2 ^ (f.eb + f.fb))
  rw [Fmt.signed, Nat.testBit_eq_decide_div_mod_eq, Nat.mod_eq_of_lt top]
  obtain zero | one : c / 2 ^ (f.eb + f.fb) = 0 ∨ c / 2 ^ (f.eb + f.fb) = 1 :=
    Nat.le_one_iff_eq_zero_or_eq_one.mp (Nat.le_of_lt_succ top)
  · rw [zero] at split ⊢
    exact split
  · rw [one, Nat.mul_one] at split
    rw [one]
    exact split

/-- A significand `m` with exponent `qmin + k` stands in the format's grid: as a subnormal in the lowest binade, else with its leading
bit at FB. -/
structure OnGrid (m k : Nat) : Prop where
  below : m < 2 ^ (f.fb + 1)
  normal : k = 0 ∨ 2 ^ f.fb ≤ m

variable {f}

/-- A significand on the grid is not rounded: its code counts the grid steps above zero (R189). -/
theorem roundMag_of_onGrid {m k : Nat} (grid : OnGrid f m k) (rm : RM) (neg : Bool) :
    f.roundMag rm neg m (f.qmin + k) = k * 2 ^ f.fb + m := by
  obtain ⟨below, normal⟩ := grid
  rw [Fmt.roundMag]
  split
  · next zero =>
    have positive := Nat.two_pow_pos f.fb
    obtain lowest | leading := normal
    · rw [zero, lowest, Nat.zero_mul]
    · omega
  · next nonzero =>
    have log : Nat.log2 m < f.fb + 1 := (Nat.log2_lt nonzero).mpr below
    have leading : 2 ^ f.fb ≤ m → f.fb ≤ Nat.log2 m := (Nat.le_log2 nonzero).mpr
    have step : max ((Nat.log2 m : Int) + (f.qmin + k) - f.fb) f.qmin = f.qmin + k := by omega
    have offset : (f.qmin + k - f.qmin).toNat = k := by omega
    simp only [step, offset, Int.le_refl, if_true, Int.sub_self, Int.toNat_zero, Nat.pow_zero, Nat.mul_one]

/-- Above the largest finite code of an IEEE format only the infinity has no fraction bits (Table 06-1). -/
theorem magnitude_of_infinite {mag : Nat} (fits : mag < 2 ^ (f.eb + f.fb)) (ieee : f.sp = .ieee) (above : ¬ mag ≤ f.maxMag)
    (noFrac : mag % 2 ^ f.fb = 0) : mag = f.infMag := by
  have parts := Nat.div_add_mod' mag (2 ^ f.fb)
  rw [Nat.pow_add, Nat.mul_comm] at fits
  have exponent : mag / 2 ^ f.fb < 2 ^ f.eb := Nat.div_lt_of_lt_mul fits
  rw [Fmt.maxMag, ieee] at above
  dsimp only at above
  have top : (2 ^ f.eb - 1) * 2 ^ f.fb ≤ mag := by omega
  have least : 2 ^ f.eb - 1 ≤ mag / 2 ^ f.fb := (Nat.le_div_iff_mul_le (Nat.two_pow_pos f.fb)).mpr top
  rw [Fmt.infMag, ← parts, noFrac, show mag / 2 ^ f.fb = 2 ^ f.eb - 1 by omega, Nat.add_zero]

/-- A code that is not a NaN denotes a point of the grid with the code's magnitude, or, above the largest finite code, an infinity. -/
theorem decode_cases {c : Nat} (number : (f.decode c).isNan = false) :
    (∃ m k, OnGrid f m k ∧ f.decode c = .fin (c.testBit (f.eb + f.fb)) m (f.qmin + (k : Int)) ∧
      k * 2 ^ f.fb + m = c % 2 ^ (f.eb + f.fb) ∧ c % 2 ^ (f.eb + f.fb) ≤ f.maxMag) ∨
    (f.decode c = .inf (c.testBit (f.eb + f.fb)) ∧ f.sp = .ieee ∧ c % 2 ^ (f.eb + f.fb) = f.infMag) := by
  have fits := Nat.mod_lt c (Nat.two_pow_pos (f.eb + f.fb))
  rw [Fmt.decode] at number ⊢
  generalize c % 2 ^ (f.eb + f.fb) = mag at *
  have parts := Nat.div_add_mod' mag (2 ^ f.fb)
  have frac := Nat.mod_lt mag (Nat.two_pow_pos f.fb)
  have grid := Nat.pow_succ 2 f.fb
  split at number
  · next finite =>
    rw [if_pos finite]
    split
    · next subnormal =>
      rw [subnormal] at parts
      exact .inl ⟨mag % 2 ^ f.fb, 0, ⟨by omega, .inl rfl⟩, congrArg _ (Int.add_zero _).symm, parts, finite⟩
    · next normal =>
      obtain ⟨k, binade⟩ := Nat.exists_eq_succ_of_ne_zero normal
      refine .inl ⟨2 ^ f.fb + mag % 2 ^ f.fb, k, ⟨by omega, .inr (by omega)⟩, ?_, ?_, finite⟩
      · rw [binade]
        congr 1
        omega
      · rw [binade, Nat.succ_mul] at parts
        omega
  · next above =>
    rw [if_neg above]
    split at number
    · next infinite =>
      obtain ⟨ieee, noFrac⟩ := infinite
      refine .inr ⟨if_pos ⟨ieee, noFrac⟩, ieee, ?_⟩
      exact magnitude_of_infinite fits ieee above noFrac
    · cases number

/-- Rounding to the format gives back the code that a value was decoded from, in every rounding mode. -/
theorem encode_decode {c : Nat} (fits : c < 2 ^ (1 + f.eb + f.fb)) (number : (f.decode c).isNan = false) (rm : RM) (ov : Ovf) :
    f.encode rm ov (f.decode c) = c := by
  obtain ⟨m, k, grid, value, magnitude, finite⟩ | ⟨value, ieee, magnitude⟩ := decode_cases number
  · rw [value, Fmt.encode, roundMag_of_onGrid grid, magnitude, if_pos finite, signed_sign_magnitude f fits]
  · rw [value, Fmt.encode, if_pos ieee, ← magnitude, signed_sign_magnitude f fits]

end

/-- Settles O32, for any format at all: a decoded value stands in the format's grid, where nothing is rounded. -/
theorem formatCodesRoundTrip : Obligations.FormatCodesRoundTrip := by
  unfold Obligations.FormatCodesRoundTrip
  exact fun f _ c fits number => encode_decode fits number .nearest .inf

end Sys2Proof.Proofs
end

section
/-!
PROOFS. How an operation of an engine starts (R100, R153), and what one of the vector engine writes (R154 to R156, Table 05-4).
-/
namespace Sys2Proof.Proofs
open Sys2Proof.Machine Sys2Proof.Laws

/-! The queue of an engine -/

section
variable {α : Type} {p : α → Bool} {before rest : List α} {x : α}

theorem span_loop_append_cons (all : ∀ b ∈ before, p b = true) (stop : p x = false) (acc : List α) :
    List.span.loop p (before ++ x :: rest) acc = (acc.reverse ++ before, x :: rest) := by
  induction before generalizing acc with
  | nil => simp only [List.nil_append, List.append_nil, List.span.loop, stop]
  | cons b before ih =>
    obtain ⟨first, others⟩ := List.forall_mem_cons.mp all
    simp only [List.cons_append, List.span.loop, first, ih others, List.reverse_cons, List.append_assoc, List.nil_append]

/-- The operations that satisfy a test, up to the first that does not. -/
theorem span_append_cons (all : ∀ b ∈ before, p b = true) (stop : p x = false) : (before ++ x :: rest).span p = (before, x :: rest) :=
  span_loop_append_cons all stop []

end

section
variable {s : State} {g e n l : Nat} {before : List Op} {o : Op} {rest : List Op}

/-- The next operation of an engine starts, when it has the OPCODE that is commanded. -/
theorem engStart_of_waits (waits : Waits s g e n l before o rest) {opc : Nat} (op : dOp o.desc = opc) (f : State → Nat → Nat → Op → Nat → Started) :
    engStart s g e opc f =
      (f s n l o (s.startCycle g e o)).st.startedAs g e before o rest (s.startCycle g e o) (f s n l o (s.startCycle g e o)).busy
        (f s n l o (s.startCycle g e o)).lat (f s n l o (s.startCycle g e o)).slat (f s n l o (s.startCycle g e o)).res := by
  obtain ⟨part, bound, queue, ahead, fresh⟩ := waits
  simp only [engStart, part, bound, queue, span_append_cons ahead fresh, op, ne_eq, not_true_eq_false, if_false]
  rfl

end

/-! Rows of a hearth store by their elements -/

theorem map_range_getD {α : Type} (l : List α) (d : α) : (List.range l.length).map (fun i => (l[i]?).getD d) = l := by
  refine List.ext_getElem (by rw [List.length_map, List.length_range]) fun i _ inside => ?_
  rw [List.getElem_map, List.getElem_range, List.getElem?_eq_getElem inside, Option.getD_some]

theorem mapIdx_map_range {α β : Type} (f : Nat → α → β) (h : Nat → α) (n : Nat) :
    ((List.range n).map h).mapIdx f = (List.range n).map (fun i => f i (h i)) :=
  List.ext_getElem (by simp only [List.length_mapIdx, List.length_map]) fun i _ _ => by
    simp only [List.getElem_mapIdx, List.getElem_map, List.getElem_range]

@[simp] theorem length_hvals (s : State) (g a t count : Nat) : (s.hvals g a t count).length = count := by
  simp only [State.hvals, State.hcodes, codesOf, List.length_map, List.length_range]

theorem hvals_eq_map_elem (s : State) (g a t count : Nat) : s.hvals g a t count = (List.range count).map (s.elem g a t count) := by
  have row := map_range_getD (s.hvals g a t count) .nan
  rw [length_hvals] at row
  exact row.symm

/-! The vector engine -/

section
variable (s : State) (g : Nat) (d : List Byte) (hasB : Bool)

/-- Element `i` of row `r` of A. -/
def vecA (r i : Nat) : FV := s.elem g (dA d + r * dAStr d) (dSrc d) (dCount d) i

/-- Element `i` of row `r` of B; of A where the operation has no B. -/
def vecB (r i : Nat) : FV := if hasB then s.elem g (dB d + r * dBStr d) (dSrc d) (dCount d) i else vecA s g d r i

/-- Element `i` of row `r` of a result, not yet in the element type: exact on integers, else rounded to FP32 (R155). -/
def vecValue (h : FV → FV → FV) (r i : Nat) : FV :=
  if etInt (dSrc d) then h (vecA s g d r i) (vecB s g d hasB r i) else f32r (h (vecA s g d r i) (vecB s g d hasB r i))

/-- The byte ranges that a vector operation reads. -/
def vecReads : List (Nat × Nat) :=
  rowRanges (dA d) (dAStr d) (dRows d) (etRow (dSrc d) (dCount d)) ++
    (if hasB then rowRanges (dB d) (dBStr d) (dRows d) (etRow (dSrc d) (dCount d)) else [])

variable {s g d hasB} {n l : Nat} {before : List Op} {o : Op} {rest : List Op}

theorem vecRow_eq (h : FV → FV → FV) (r : Nat) :
    (((s.hvals g (dA d + r * dAStr d) (dSrc d) (dCount d)).zip
        (if hasB then s.hvals g (dB d + r * dBStr d) (dSrc d) (dCount d) else s.hvals g (dA d + r * dAStr d) (dSrc d) (dCount d))).map
      (fun x => if etInt (dSrc d) then h x.1 x.2 else f32r (h x.1 x.2))) = (List.range (dCount d)).map (vecValue s g d hasB h r) := by
  have b : (if hasB then s.hvals g (dB d + r * dBStr d) (dSrc d) (dCount d) else s.hvals g (dA d + r * dAStr d) (dSrc d) (dCount d)) =
      (List.range (dCount d)).map (vecB s g d hasB r) := by
    cases hasB <;> exact hvals_eq_map_elem ..
  rw [b, hvals_eq_map_elem, List.zip_map', List.map_map]
  rfl

/-- What an operation of the vector engine writes and counts, and how long it takes (R133, R153, R155, Table 05-3); `h` is its function of
the elements under the scalars of the descriptor (R154). -/
theorem vecOp_of_waits (waits : Waits s g 1 n l before o rest) (sameType : dDty o.desc = dSrc o.desc) {opc : Nat} (op : dOp o.desc = opc)
    (trans hasB : Bool) {f : Nat → Nat → FV → FV → FV → FV → FV} {h : FV → FV → FV}
    (scalars : f (dS0 o.desc % 2 ^ 32) (dS1 o.desc % 2 ^ 32) (scalarV (dSrc o.desc) (dS0 o.desc % 2 ^ 32)) (scalarV (dSrc o.desc) (dS1 o.desc % 2 ^ 32)) = h) :
    let d := o.desc
    let code r i := vecEncode (dSrc d) (vecValue s g d hasB h r i)
    let lat := if trans then 20 else 8
    ∃ res, vecOp s g opc trans hasB f = (s.hreadCheck n g 0xE501 (vecReads d hasB)).startedAs g 1 before o rest (s.startCycle g 1 o)
        (dRows d * ceilDiv (dCount d * etHalf (dSrc d)) (if trans then 4096 else 8192)) lat lat res ∧
      res.writes = rowWrites d code ∧
      res.sum.value = (((List.range (dRows d)).flatMap (fun r => (List.range (dCount d)).map (fun i => etValue (dSrc d) (code r i)))).filter
        (fun v => v.isNan || v.isInf)).length := by
  refine ⟨_, engStart_of_waits waits op _, ?writes, ?count⟩
  case writes =>
    simp only [scalars, vecRow_eq, List.map_map, rowWrites, sameType, Function.comp_def, mapIdx_map_range]
  case count =>
    simp only [scalars, vecRow_eq, List.map_map, List.flatMap_map, countSummary, Function.comp_def]

end

/-- A row of Table 05-4 runs a `vecOp` of its own OPCODE, whose function of the elements is the row's own under the scalars given. -/
def RunsVec (g : Fin 216) (w0 w1 : Nat) (x y : FV) (z : Instr × Nat × Bool × Bool × (FV → FV → FV)) : Prop :=
  ∃ f : Nat → Nat → FV → FV → FV → FV → FV, (∀ s, exec z.1 s = .next (vecOp s g z.2.1 z.2.2.1 z.2.2.2.1 f)) ∧ f w0 w1 x y = z.2.2.2.2

/-- Settles O24: every row is a `vecOp`, whose result is told element by element. -/
theorem vectorResult : Obligations.VectorResult := by
  unfold Obligations.VectorResult
  intro s g n l before o rest d t w0 w1 x y waits sameType z mem op
  have runs : RunsVec g w0 w1 x y z := by
    clear op
    revert z
    simp only [List.forall_mem_cons, List.not_mem_nil, false_imp_iff, implies_true, and_true]
    exact ⟨⟨_, exec_vectorAdd g, rfl⟩, ⟨_, exec_vectorSub g, rfl⟩, ⟨_, exec_vectorMul g, rfl⟩, ⟨_, exec_vectorMax g, rfl⟩,
      ⟨_, exec_vectorMin g, rfl⟩, ⟨_, exec_axpy g, rfl⟩, ⟨_, exec_affine g, rfl⟩, ⟨_, exec_muls g, rfl⟩, ⟨_, exec_sel g, rfl⟩,
      ⟨_, exec_abs g, rfl⟩, ⟨_, exec_exp g, rfl⟩, ⟨_, exec_log g, rfl⟩, ⟨_, exec_recip g, rfl⟩, ⟨_, exec_rsqrt g, rfl⟩,
      ⟨_, exec_sigm g, rfl⟩, ⟨_, exec_silu g, rfl⟩⟩
  obtain ⟨f, execution, scalars⟩ := runs
  obtain ⟨res, started, writes, count⟩ := vecOp_of_waits waits sameType op z.2.2.1 z.2.2.2.1 scalars
  exact ⟨res, by rw [execution, started]; rfl, writes, count⟩

end Sys2Proof.Proofs
end

section
/-!
PROOFS. What stands beside the work of an operation: the check of the words it reads, its NaN report, its summary, its bytes, and the core
that waited for it and goes on (R101, Table 03-3). Which of these leave the queues, summary registers and accumulators of the hearth alone.
-/
namespace Sys2Proof.Proofs
open Sys2Proof.Machine Sys2Proof.Laws

/-! The hearth and the queue that an update replaces -/

@[simp] theorem ops_setOps (h : Hearth) (e : Nat) (l : List Op) : (h.setOps e l).ops e = l := (getD_put ..).trans (if_pos rfl)

theorem hearth_onHearth_same (s : State) (g : Nat) (f : Hearth → Hearth) : (s.onHearth g f).hearth g = f (s.hearth g) :=
  (hearth_onHearth ..).trans (if_pos rfl)

/-! A write to a scalar register leaves the rest of its hearth alone (R94) -/

section
variable (h : Hearth) (a : Nat) (v : W64)

@[simp] theorem setReg_engs : (h.setReg a v).engs = h.engs := by unfold Hearth.setReg; split <;> rfl
@[simp] theorem setReg_ys : (h.setReg a v).ys = h.ys := by unfold Hearth.setReg; split <;> rfl
@[simp] theorem setReg_acc : (h.setReg a v).acc = h.acc := by unfold Hearth.setReg; split <;> rfl

end

/-! What leaves the engines of a hearth alone -/

/-- Memory is the same, and of hearth `g` the operations, the summary registers and the accumulators are. -/
structure SameEngines (g : Nat) (s t : State) : Prop where
  mem : t.mem = s.mem
  engs : (t.hearth g).engs = (s.hearth g).engs
  ys : (t.hearth g).ys = (s.hearth g).ys
  acc : (t.hearth g).acc = (s.hearth g).acc

/-- An uncorrectable word that an engine read discards the attempt with the engine's event (R142). -/
theorem traceOnly_ueDiscard (s : State) (n code : Nat) :
    TraceOnly s ((s.onPart n (fun p => { p with ueDiscard := true })).raise code (scopeP n)) :=
  (traceOnly_onPart ..).trans (traceOnly_raise ..)

namespace SameEngines

variable {g : Nat} {s t u : State}

theorem refl : SameEngines g s s := ⟨rfl, rfl, rfl, rfl⟩

theorem trans (h : SameEngines g s t) (k : SameEngines g t u) : SameEngines g s u :=
  ⟨k.mem.trans h.mem, k.engs.trans h.engs, k.ys.trans h.ys, k.acc.trans h.acc⟩

theorem setHearth {h : Hearth} (engs : h.engs = (s.hearth g).engs) (ys : h.ys = (s.hearth g).ys) (acc : h.acc = (s.hearth g).acc) :
    SameEngines g s (s.setHearth g h) := by
  have own : (s.setHearth g h).hearth g = h := (hearth_setHearth s g h g).trans (if_pos rfl)
  exact ⟨rfl, by rw [own, engs], by rw [own, ys], by rw [own, acc]⟩

theorem of_traceOnly (h : TraceOnly s t) : SameEngines g s t := by
  obtain ⟨trace, same⟩ := h.hearth g
  exact ⟨h.mem, by rw [same], by rw [same], by rw [same]⟩

theorem ops (h : SameEngines g s t) (e : Nat) : (t.hearth g).ops e = (s.hearth g).ops e := by rw [Hearth.ops, h.engs]; rfl
theorem y (h : SameEngines g s t) (i : Nat) : (t.hearth g).y i = (s.hearth g).y i := by rw [Hearth.y, h.ys]; rfl

/-- An instruction that ends in a jump (R116). -/
theorem jump (n op target cycles : Nat) : SameEngines g s (s.jump n g op target cycles) :=
  .trans (.of_traceOnly (traceOnly_coreRecord ..)) (.setHearth rfl rfl rfl)

/-- SRD, SFLG and BSUM read a summary register and write a scalar register or jump (R101, R102). -/
theorem readSummary (n : Nat) (w : W32) : SameEngines g s (s.readSummary n g w) := by
  unfold State.readSummary
  dsimp only
  split
  · split
    · exact .jump ..
    · exact .setHearth rfl rfl rfl
  · exact .setHearth (setReg_engs ..) (setReg_ys ..) (setReg_acc ..)

/-- A core that goes on when an operation ends, not into the end barrier (R101, Table 03-3). -/
theorem resumeCore (running : ∀ k c, (s.hearth g).stall ≠ .stepend k c) (n l cyc scyc : Nat) : SameEngines g s (s.resumeCore n l g cyc scyc) := by
  unfold State.resumeCore
  dsimp only
  split
  · split
    · split
      · refine .trans ?_ (.readSummary ..)
        exact .setHearth rfl rfl rfl
      · exact .setHearth rfl rfl rfl
    · exact .refl
  · split
    · exact .setHearth rfl rfl rfl
    · exact .refl
  · next ending => exact absurd ending (running _ _)
  · exact .refl

theorem ite {c : Prop} [Decidable c] (h : SameEngines g s t) (k : SameEngines g s u) : SameEngines g s (if c then t else u) := by
  split
  · exact h
  · exact k

/-- A check of the words an operation reads counts and raises events, no more (R142, R593). -/
theorem hreadCheck (n code : Nat) (ranges : List (Nat × Nat)) : SameEngines g s (s.hreadCheck n g code ranges) := by
  have counted : SameEngines g s (s.onHearth g (fun h => h.count 17 (portBlocks ranges))) := .setHearth rfl rfl rfl
  unfold State.hreadCheck
  dsimp only
  refine .ite (.trans ?_ (.of_traceOnly (traceOnly_ueDiscard ..))) ?_
  all_goals
    refine .ite counted (counted.trans ?_)
    exact .setHearth rfl rfl rfl

end SameEngines

/-! What a NaN report changes -/

/-- From `s` to `t` the NaN report and the trace of hearth `g` moved and nothing else of it, and memory is the same. -/
structure OnlyReports (g : Nat) (s t : State) : Prop where
  mem : t.mem = s.mem
  own : ∃ nan0 rep trace, t.hearth g = { s.hearth g with nan0 := nan0, nanRep := rep, trace := trace }

namespace OnlyReports

variable {g : Nat} {s t u : State}

theorem trans (h : OnlyReports g s t) (k : OnlyReports g t u) : OnlyReports g s u := by
  obtain ⟨_, _, _, e⟩ := h.own
  obtain ⟨nan0, rep, trace, f⟩ := k.own
  exact ⟨k.mem.trans h.mem, nan0, rep, trace, by rw [f, e]⟩

theorem of_traceOnly (h : TraceOnly s t) : OnlyReports g s t := by
  obtain ⟨trace, same⟩ := h.hearth g
  exact ⟨h.mem, _, _, trace, same⟩

theorem sameEngines (h : OnlyReports g s t) : SameEngines g s t := by
  obtain ⟨_, _, _, own⟩ := h.own
  exact ⟨h.mem, by rw [own], by rw [own], by rw [own]⟩

theorem stall (h : OnlyReports g s t) : (t.hearth g).stall = (s.hearth g).stall := by
  obtain ⟨_, _, _, own⟩ := h.own
  rw [own]

/-- The NaN report of a hearth (R114). -/
theorem nanReport (n l engine iaddr tensor wher cyc : Nat) : OnlyReports g s (s.nanReport n l g engine iaddr tensor wher cyc) := by
  have noted (r : Option NanRep) : OnlyReports g s (s.setHearth g { s.hearth g with nan0 := true, nanRep := r }) :=
    ⟨rfl, true, r, (s.hearth g).trace, (hearth_setHearth ..).trans (if_pos rfl)⟩
  unfold State.nanReport
  dsimp only
  split
  · exact .trans (noted _) (.of_traceOnly (traceOnly_trigger ..))
  · exact noted _

theorem opNan (n l e : Nat) (o : Op) : OnlyReports g s (s.opNan n l g e o) := by
  unfold State.opNan
  split
  · exact .nanReport ..
  · exact .of_traceOnly (.refl s)

theorem ueDiscard_ite (c : Prop) [Decidable c] (n code : Nat) :
    OnlyReports g s (if c then (s.onPart n (fun p => { p with ueDiscard := true })).raise code (scopeP n) else s) := by
  split
  · exact .of_traceOnly (traceOnly_ueDiscard ..)
  · exact .of_traceOnly (.refl s)

end OnlyReports

/-! The summary of an operation -/

section
variable (h : Hearth) (o : Op)

@[simp] theorem writeSummary_engs : (h.writeSummary o).engs = h.engs := by unfold Hearth.writeSummary; split <;> rfl
@[simp] theorem writeSummary_acc : (h.writeSummary o).acc = h.acc := by unfold Hearth.writeSummary; split <;> rfl
@[simp] theorem writeSummary_stall : (h.writeSummary o).stall = h.stall := by unfold Hearth.writeSummary; split <;> rfl

variable {h o}

/-- The summary reaches the register whose pending writer the operation is (R101). -/
theorem writeSummary_y_of_writer (asks : dSumOn o.desc = true) (writer : (h.y (dSumY o.desc)).writer = some o.seq) :
    (h.writeSummary o).y (dSumY o.desc) = ⟨o.res.sum.value % 2 ^ 64, o.res.sum.flags, true, none⟩ := by
  rw [Hearth.writeSummary, if_pos ⟨asks, writer⟩, Hearth.y, getD_put, if_pos rfl]

end

/-! The bytes an operation writes -/

theorem forAll_store_mem (b : Nat) (l : List (Nat × List Byte)) (s : State) :
    (forAll l (fun w s => s.store (b + w.1) w.2) s).mem = l.foldl (fun m w => m.store (b + w.1) w.2) s.mem :=
  (List.foldl_hom State.mem fun _ _ => rfl).symm

theorem forAll_store_hearths (b : Nat) (l : List (Nat × List Byte)) (s : State) :
    (forAll l (fun w s => s.store (b + w.1) w.2) s).hearths = s.hearths :=
  forAll_invariant (P := fun t => t.hearths = s.hearths) (f := fun (w : Nat × List Byte) s => s.store (b + w.1) w.2) (fun _ _ same => same) rfl

/-- The bytes that an operation writes reach the hearth store in their order. -/
theorem hwrites_mem (s : State) (g : Nat) (l : List (Nat × List Byte)) :
    (s.hwrites g l).mem = l.foldl (fun m w => m.store (hearthBase g + w.1) w.2) s.mem := forAll_store_mem ..

theorem hwrites_stall (s : State) (g : Nat) (l : List (Nat × List Byte)) : ((s.hwrites g l).hearth g).stall = (s.hearth g).stall := by
  rw [State.hwrites, hearth_onHearth_same, State.hearth, forAll_store_hearths]
  rfl

end Sys2Proof.Proofs
end

section
/-!
PROOFS. The three commands of the matrix engine: start, completion and end of the write-back of an MMUL (R126 to R133, Table 04-6).
-/
namespace Sys2Proof.Proofs
open Sys2Proof.Machine Sys2Proof.Laws

/-! The phases of an operation that starts beside hearth `h`'s earlier ones (Table 04-6) -/

section
variable (h : Hearth) (o : Op)

/-- KEEPW: the operation computes from the tile in the active buffer (R127). -/
def mmulKeep : Bool := (mmFlags o.desc).testBit 4
/-- WB: the operation writes its outputs back (R126). -/
def mmulBack : Bool := (mmFlags o.desc).testBit 1
/-- The cycle at which its weight load, or under KEEPW its compute phase, may begin. -/
def mmulStart : Nat := if mmulKeep o then o.issued + 2 else max (o.issued + 2) (max h.mm.load h.mm.comp)
/-- The end of its weight load. -/
def mmulLoadEnd : Nat :=
  if mmulKeep o then mmulStart h o
  else mmulStart h o + ceilDiv (128 * mmLw o.desc + mmSw o.desc + (if isMx (mmAf o.desc) then (mmArrays o.desc).length * mmSx o.desc else 0)) 256
/-- The start of its compute phase. -/
def mmulComp : Nat := max (mmulLoadEnd h o) h.mm.stream
/-- The end of its stream. -/
def mmulStream : Nat := mmulComp h o + mmC o.desc * mmM o.desc + 6
/-- The end of its write-back, of its drain where it has none. -/
def mmulWbEnd : Nat :=
  if mmulBack o then max (mmulStream h o + 268) (if mmHalf o.desc = 0 then h.mm.wb0 else h.mm.wb1) +
    ceilDiv ((mmArrays o.desc).length * mmM o.desc * (if (mmFlags o.desc).testBit 2 then 256 else 512)) 512
  else mmulStream h o + 268

/-- The operation started at its phases. -/
def mmulStarted (res : Result) : Op :=
  { o with started := true, start := mmulStart h o, busyEnd := mmulStream h o, done := mmulStream h o + 268, sumAt := mmulStream h o + 268, res := res }

end

section
variable {s : State} {g : Fin 216} {n l : Nat} {before : List Op} {o : Op} {rest : List Op}

/-- The tile an operation computes from: the one it loads, or the active buffer's (R127; log 26). -/
def mmulTile (s : State) (g : Nat) (o : Op) : List Byte × List Byte :=
  if mmulKeep o then (s.hearth g).tile else (s.hread g (mmW o.desc) (128 * mmLw o.desc), s.hread g (mmWs o.desc) (mmSw o.desc))

/-- Hearth `g` as MMUL leaves it from `x`: the queue 0 holds `ops`, the engine's phases are the operation's, and its tile is in the active buffer. -/
def mmulLoaded (s : State) (g : Nat) (o : Op) (ops : List Op) (wb0 wb1 : Nat) (x : Hearth) : Hearth :=
  let h := s.hearth g
  { (x.setOps 0 ops).count 8 (mmulStream h o - mmulStart h o) with
    mm := ⟨mmulLoadEnd h o, mmulComp h o, mmulStream h o, wb0, wb1⟩, tile := mmulTile s g o, busy := x.busy.put 0 (mmulStream h o) }

section
variable (s : State) (g : Nat) (o : Op) (ops : List Op) (wb0 wb1 : Nat) (x : Hearth)

@[simp] theorem mmulLoaded_ops : (mmulLoaded s g o ops wb0 wb1 x).ops 0 = ops := ops_setOps x 0 ops
@[simp] theorem mmulLoaded_acc : (mmulLoaded s g o ops wb0 wb1 x).acc = x.acc := rfl

end

/-- MMUL starts the next operation of the matrix engine. -/
theorem execMmul_of_waits (waits : Waits s g 0 n l before o rest) : ∃ res wb0 wb1, res.wbEnd = mmulWbEnd (s.hearth g) o ∧
    exec (.mmul g) s = .next ((s.hreadCheck n g 0xE404 (mmReads o.desc)).onHearth g
      (mmulLoaded s g o (before ++ mmulStarted (s.hearth g) o res :: rest) wb0 wb1)) := by
  obtain ⟨part, -, queue, ahead, fresh⟩ := waits
  rw [exec_mmul, execMmul]
  simp only [part, queue, span_append_cons ahead fresh]
  refine ⟨_, _, _, ?_, rfl⟩
  rfl

end

/-! Completion -/

section
variable (h : Hearth) (d : List Byte) (yop : List (Nat × List (List Nat)))

/-- Nothing of a hearth but its accumulator buffers moved from `h`. -/
def OnlyAcc (t : Hearth) : Prop := ∃ acc bad, t = { h with acc := acc, badAcc := bad }

variable {h} in
theorem OnlyAcc.setAccRow {t : Hearth} (only : OnlyAcc h t) (j half m : Nat) (r : List Nat) : OnlyAcc h (t.setAccRow j half m r) := by
  obtain ⟨_, _, rfl⟩ := only
  exact ⟨_, _, rfl⟩

/-- The outputs reach the accumulator buffers and no other part of a hearth (R126, R131). -/
theorem onlyAcc_accumulate : OnlyAcc h (h.accumulate d yop) :=
  List.foldlRecOn (motive := OnlyAcc h) yop _ ⟨_, _, rfl⟩ fun _ array x _ =>
    List.foldlRecOn (motive := OnlyAcc h) x.2.zipIdx _ array fun _ rows _ _ => rows.setAccRow ..

@[simp] theorem accumulate_y (i : Nat) : (h.accumulate d yop).y i = h.y i := by obtain ⟨_, _, e⟩ := onlyAcc_accumulate h d yop; rw [e]; rfl
@[simp] theorem accumulate_stall : (h.accumulate d yop).stall = h.stall := by obtain ⟨_, _, e⟩ := onlyAcc_accumulate h d yop; rw [e]

end

section
variable {s : State} {g : Fin 216} {n l : Nat} {before : List Op} {o : Op} {rest : List Op}

/-- The outputs of an MMUL as its accumulator half holds them. -/
def mmulOutputs (h : Hearth) (d : List Byte) : List FV :=
  (mmArrays d).flatMap (fun j => (List.range (mmM d)).flatMap (fun m => (h.accRow j (mmHalf d) m).map f32v))

/-- The hearth in which the outputs of an MMUL are in the accumulator: the queue 0 holds `ops`, its mismatches are `mism`, and `o1` wrote its
summary. -/
def mmulHearth (h1 : Hearth) (ops : List Op) (mism : List (Nat × Nat × Nat)) (o1 : Op) : Hearth :=
  ({ h1.setOps 0 ops with mism := mism } : Hearth).writeSummary o1

section
variable (h1 : Hearth) (ops : List Op) (mism : List (Nat × Nat × Nat)) (o1 : Op)

@[simp] theorem mmulHearth_stall : (mmulHearth h1 ops mism o1).stall = h1.stall := writeSummary_stall ..
@[simp] theorem mmulHearth_acc : (mmulHearth h1 ops mism o1).acc = h1.acc := writeSummary_acc ..
@[simp] theorem mmulHearth_ops : (mmulHearth h1 ops mism o1).ops 0 = ops := by
  rw [Hearth.ops, mmulHearth, writeSummary_engs]
  exact ops_setOps h1 0 ops

variable {h1 ops mism o1} in
/-- The summary reaches its register, when the operation is the register's pending writer (R101, R133). -/
theorem mmulHearth_y_of_writer {d : List Byte} {seq : Nat} (desc : o1.desc = d) (number : o1.seq = seq) (asks : dSumOn d = true)
    (writer : (h1.y (dSumY d)).writer = some seq) :
    (mmulHearth h1 ops mism o1).y (dSumY d) = ⟨o1.res.sum.value % 2 ^ 64, o1.res.sum.flags, true, none⟩ := by
  subst desc number
  exact writeSummary_y_of_writer asks writer

end

/-- MMUL_COMPLETE: the operation is complete, its outputs are in the accumulator and its summary is written; a NaN, a mismatch and an
uncorrectable accumulator row are reported, and a core that waited goes on. -/
theorem execMmulComplete_of_oldest (part : s.partOf (g / 18) = some n) (bound : s.logical g = some l) (queue : (s.hearth g).ops 0 = before ++ o :: rest)
    (ahead : ∀ b ∈ before, b.complete = true) (unfinished : o.complete = false) (started : o.started = true)
    (running : ∀ k c, (s.hearth g).stall ≠ .stepend k c) :
    let h1 := (s.hearth g).accumulate o.desc o.res.yop
    ∃ o1 mism t, exec (.mmulComplete g) s = .next t ∧
      SameEngines g (s.setHearth g (mmulHearth h1 (if mmulBack o then before ++ o1 :: rest else before ++ rest) mism o1)) t ∧
      o1.desc = o.desc ∧ o1.seq = o.seq ∧ o1.complete = true ∧ o1.res.writes = (if mmulBack o then h1.writeBack o.desc else []) ∧
      o1.res.sum = countSummary (mmulOutputs h1 o.desc) := by
  have resumed {ops : List Op} {mism : List (Nat × Nat × Nat)} {o1 : Op} {t : State}
      (reports : OnlyReports g (s.setHearth g (mmulHearth ((s.hearth g).accumulate o.desc o.res.yop) ops mism o1)) t) :
      SameEngines g (s.setHearth g (mmulHearth ((s.hearth g).accumulate o.desc o.res.yop) ops mism o1)) (t.resumeCore n l g o.done) := by
    refine reports.sameEngines.trans (.resumeCore ?_ ..)
    rwa [reports.stall, hearth_setHearth, if_pos rfl, mmulHearth_stall, accumulate_stall]
  rw [exec_mmulComplete, execMmulComplete]
  simp only [part, bound, queue, span_append_cons ahead unfinished, started, Bool.not_true, Bool.false_eq_true, if_false]
  exact ⟨_, _, _, rfl, resumed (.trans (.opNan ..) (.ueDiscard_ite ..)), rfl, rfl, rfl, rfl, rfl⟩

end

/-! The end of the write-back -/

section
variable {s : State} {g : Fin 216} {n l : Nat} {o : Op} {rest : List Op}

/-- MMUL_WRITEBACK_END: the rows of the oldest operation reach the hearth store, it leaves the queue, and a core that waited goes on. -/
theorem execMmulWritebackEnd_of_complete (part : s.partOf (g / 18) = some n) (bound : s.logical g = some l) (queue : (s.hearth g).ops 0 = o :: rest)
    (complete : o.complete = true) (running : ∀ k c, (s.hearth g).stall ≠ .stepend k c) :
    ∃ t, exec (.mmulWritebackEnd g) s = .next t ∧ SameEngines g ((s.hwrites g o.res.writes).onHearth g (fun h => h.setOps 0 rest)) t := by
  rw [exec_mmulWritebackEnd, execMmulWritebackEnd]
  simp only [part, bound, queue, complete, Bool.not_true, Bool.false_eq_true, if_false]
  refine ⟨_, rfl, .resumeCore ?_ ..⟩
  rw [hearth_onHearth_same]
  rwa [← hwrites_stall s g o.res.writes] at running

end

/-- Settles O28, command by command: what each writes, and that a core which then goes on leaves the engines alone. -/
theorem matrixOperation : Obligations.MatrixOperation := by
  unfold Obligations.MatrixOperation
  intro s g n l before o rest d h keep wb a start loadEnd comp stream
  refine ⟨fun waits => ?start, fun part bound queue ahead unfinished started running => ?complete, fun part bound queue complete running => ?writeBack⟩
  case start =>
    obtain ⟨res, wb0, wb1, wbEnd, run⟩ := execMmul_of_waits waits
    have check := SameEngines.hreadCheck (g := g) (s := s) n 0xE404 (mmReads d)
    refine ⟨_, mmulStarted h o res, run, ?_, rfl, rfl, rfl, rfl, rfl, rfl, wbEnd, ?_⟩
    · rw [hearth_onHearth_same, mmulLoaded_ops]
    · rw [hearth_onHearth_same, mmulLoaded_acc, onHearth_mem]
      exact ⟨rfl, rfl, rfl, rfl, check.mem, check.acc⟩
  case complete =>
    obtain ⟨o1, mism, t, run, same, desc, seq, complete, writes, sum⟩ :=
      execMmulComplete_of_oldest part bound queue ahead unfinished started running
    refine ⟨t, o1, run, ?acc, same.mem, ?left, fun back => ⟨complete, writes.trans (if_pos back)⟩, fun asks writer => ?summary⟩
    case acc => rw [same.acc, hearth_setHearth, if_pos rfl, mmulHearth_acc]
    case left => rw [same.ops, hearth_setHearth, if_pos rfl, mmulHearth_ops]; rfl
    case summary =>
      rw [same.y, hearth_setHearth, if_pos rfl, mmulHearth_y_of_writer desc seq asks (by rwa [accumulate_y]), sum]
      exact ⟨rfl, rfl⟩
  case writeBack =>
    obtain ⟨t, run, same⟩ := execMmulWritebackEnd_of_complete part bound queue complete running
    refine ⟨t, run, ?_, ?_⟩
    · rw [same.ops, hearth_onHearth_same, ops_setOps]
    · rw [same.mem, onHearth_mem, hwrites_mem]

end Sys2Proof.Proofs
end

section
/-!
PROOFS. The order in which the reduction unit ranks the elements of a line, and the element that stands first in it (R160).
-/
namespace Sys2Proof.Proofs
open Sys2Proof.Machine

/-! The order of the values -/

/-- The exponent of a value, where it has one. -/
def rankExp : FV → Int
  | .fin _ _ e => e
  | _ => 0

/-- The class of a value in the ranking, larger classes first: NaNs, +∞, the finite values, −∞ (R160). -/
def rankClass : FV → Int
  | .nan => 2
  | .inf neg => if neg then -1 else 1
  | .fin _ _ _ => 0

/-- The place of a value in its class: a finite one counted in units of 2 to the power `q`. -/
def rankPlace (q : Int) : FV → Int
  | .fin neg m e => alignTo neg m e q
  | _ => 0

/-- A significand aligned to a still lower exponent is multiplied by a power of two. -/
theorem alignTo_eq_mul (neg : Bool) (m : Nat) {e k q : Int} (low : q ≤ k) (high : k ≤ e) :
    alignTo neg m e q = alignTo neg m e k * ((2 ^ (k - q).toNat : Nat) : Int) := by
  have shift : (e - q).toNat = (e - k).toNat + (k - q).toNat := by omega
  have magnitude : ((m * 2 ^ (e - q).toNat : Nat) : Int) = (m * 2 ^ (e - k).toNat : Nat) * ((2 ^ (k - q).toNat : Nat) : Int) := by
    rw [shift, Nat.pow_add, ← Nat.mul_assoc]
    exact Int.natCast_mul ..
  cases neg with
  | false => exact magnitude
  | true => exact (congrArg Neg.neg magnitude).trans (Int.neg_mul ..).symm

/-- Finite values compare as their significands do under any exponent that neither is below. -/
theorem fin_lt_fin_iff (a b : Bool) (m k : Nat) {e f q : Int} (lowA : q ≤ e) (lowB : q ≤ f) :
    (FV.fin a m e).lt (.fin b k f) = true ↔ alignTo a m e q < alignTo b k f q := by
  have low : q ≤ min e f := by omega
  rw [alignTo_eq_mul a m low (Int.min_le_left e f), alignTo_eq_mul b k low (Int.min_le_right e f),
    Int.mul_lt_mul_right (Int.natCast_pos.mpr (Nat.two_pow_pos _))]
  exact decide_eq_true_iff

/-- Ranking goes by the class, then by the place in it. -/
theorem ranksBefore_iff {a b : FV} {q : Int} (lowA : q ≤ rankExp a) (lowB : q ≤ rankExp b) :
    ranksBefore a b = true ↔ rankClass b < rankClass a ∨ (rankClass b = rankClass a ∧ rankPlace q b < rankPlace q a) := by
  cases a with
  | nan => rcases b with _ | (_ | _) | _ <;> simp [ranksBefore, FV.isNan, rankClass, rankPlace]
  | inf x => cases x <;> rcases b with _ | (_ | _) | _ <;> simp [ranksBefore, FV.isNan, FV.lt, rankClass, rankPlace]
  | fin x m e =>
    rcases b with _ | (_ | _) | ⟨y, k, f⟩
    case fin => simpa [ranksBefore, FV.isNan, rankClass, rankPlace] using fin_lt_fin_iff (e := f) (f := e) y x k m lowB lowA
    all_goals simp [ranksBefore, FV.isNan, FV.lt, rankClass, rankPlace]

theorem ranksBefore_asymm {a b : FV} (first : ranksBefore a b = true) : ranksBefore b a = false := by
  have low : min (rankExp a) (rankExp b) ≤ rankExp a ∧ min (rankExp a) (rankExp b) ≤ rankExp b := by omega
  rw [ranksBefore_iff low.1 low.2] at first
  rw [← Bool.not_eq_true, ranksBefore_iff low.2 low.1]
  omega

/-- A value that does not rank before another does not rank before any that the other does not rank before. -/
theorem ranksBefore_eq_false_trans {a b c : FV} (ab : ranksBefore a b = false) (bc : ranksBefore b c = false) : ranksBefore a c = false := by
  obtain ⟨q, lowA, lowB, lowC⟩ : ∃ q, q ≤ rankExp a ∧ q ≤ rankExp b ∧ q ≤ rankExp c :=
    ⟨min (rankExp a) (min (rankExp b) (rankExp c)), by omega⟩
  rw [← Bool.not_eq_true, ranksBefore_iff lowA lowB] at ab
  rw [← Bool.not_eq_true, ranksBefore_iff lowB lowC] at bc
  rw [← Bool.not_eq_true, ranksBefore_iff lowA lowC]
  omega

theorem ranksBefore_self (a : FV) : ranksBefore a a = false :=
  Bool.eq_false_iff.mpr fun first => Bool.false_ne_true ((ranksBefore_asymm first).symm.trans first)

/-! The element that stands first -/

/-- `v` is the element at position `p` of a line, no element ranks before it, and it ranks before every element at a lower position. -/
structure RanksFirst (ln : List FV) (p : Nat) (v : FV) : Prop where
  atPos : ln[p]? = some v
  top : ∀ x ∈ ln, ranksBefore x v = false
  before : ∀ q < p, ∀ x, ln[q]? = some x → ranksBefore v x = true

/-- The first element stands first when nothing behind it ranks before it. -/
theorem RanksFirst.cons_self {v : FV} {r : List FV} (top : ∀ x ∈ r, ranksBefore x v = false) : RanksFirst (v :: r) 0 v where
  atPos := rfl
  top := List.forall_mem_cons.mpr ⟨ranksBefore_self v, top⟩
  before _ low := absurd low (Nat.not_lt_zero _)

/-- The element that stands first in the rest still does when it ranks before the first element. -/
theorem RanksFirst.cons {x v : FV} {r : List FV} {p : Nat} (rest : RanksFirst r p v) (beats : ranksBefore v x = true) :
    RanksFirst (x :: r) (p + 1) v where
  atPos := rest.atPos
  top := List.forall_mem_cons.mpr ⟨ranksBefore_asymm beats, rest.top⟩
  before
    | 0, _, _, here => Option.some.inj here ▸ beats
    | q + 1, low, y, there => rest.before q (Nat.lt_of_succ_lt_succ low) y there

/-- Insertion puts an element at the head of a sorted list, or leaves the head it had. -/
theorem head?_insertBy {α : Type} (le : α → α → Bool) (x : α) (l : List α) :
    (insertBy le x l).head? = some (l.head?.elim x (fun y => if le x y then x else y)) := by
  cases l with
  | nil => rfl
  | cons y r =>
    rw [insertBy]
    split
    · next ahead => exact congrArg some (if_pos ahead).symm
    · next behind => exact congrArg some (if_neg behind).symm

/-- The head of a ranked ln that is numbered from `k` is the element that stands first, with its number. -/
theorem head?_sortBy_zipIdx {ln : List FV} (nonempty : ln ≠ []) (k : Nat) :
    ∃ v p, (sortBy (fun a b => !ranksBefore b.1 a.1) (ln.zipIdx k)).head? = some (v, k + p) ∧ RanksFirst ln p v := by
  induction ln generalizing k with
  | nil => exact absurd rfl nonempty
  | cons x r ih =>
    rw [List.zipIdx_cons, sortBy, head?_insertBy]
    cases r with
    | nil => exact ⟨x, 0, rfl, .cons_self fun _ none => absurd none List.not_mem_nil⟩
    | cons y r =>
      obtain ⟨v, p, head, first⟩ := ih (List.cons_ne_nil y r) (k + 1)
      rw [head, Option.elim_some]
      cases beats : ranksBefore v x with
      | true => exact ⟨v, p + 1, congrArg (fun i => some (v, i)) (by omega), first.cons beats⟩
      | false => exact ⟨x, 0, rfl, .cons_self fun z mem => ranksBefore_eq_false_trans (first.top z mem) beats⟩

/-- What ARGMAX takes of a line: the element that ranks first and its position (R158, R160). -/
def lineBest (ln : List FV) : FV × Nat := ((ranked ln).head?).getD (.nan, 0)

theorem ranksFirst_lineBest {ln : List FV} (nonempty : ln ≠ []) : RanksFirst ln (lineBest ln).2 (lineBest ln).1 := by
  obtain ⟨v, p, head, first⟩ := head?_sortBy_zipIdx nonempty 0
  rw [Nat.zero_add] at head
  rwa [lineBest, ranked, head]

/-- The value that ARGMAX takes stands at the position that it takes. -/
theorem getElem?_lineBest (ln : List FV) : (ln[(lineBest ln).2]?).getD .nan = (lineBest ln).1 := by
  by_cases nonempty : ln = []
  · rw [nonempty]
    rfl
  · rw [(ranksFirst_lineBest nonempty).atPos, Option.getD_some]

end Sys2Proof.Proofs
end

section
/-!
PROOFS. What an operation of the reduction unit writes and sums up (R157 to R162, Table 05-5).
-/
namespace Sys2Proof.Proofs
open Sys2Proof.Machine Sys2Proof.Laws

/-- A list mapped is its positions mapped. -/
theorem map_eq_map_range {α β : Type} (l : List α) (d : α) (f : α → β) :
    l.map f = (List.range l.length).map (fun i => f ((l[i]?).getD d)) := by
  have listed := congrArg (List.map f) (map_range_getD l d)
  rw [List.map_map] at listed
  exact listed.symm

section
variable {s : State} {g n l : Nat} {before : List Op} {o : Op} {rest : List Op}

/-- What an operation that reduces lines to FP32 values writes and sums up (R158, R161, R162). -/
theorem reduceOp_of_waits (waits : Waits s g 2 n l before o rest) {opc : Nat} (op : dOp o.desc = opc)
    (line : Bool → List FV → FV) (all : List FV → FV) :
    let d := o.desc
    let results := (s.lines g d).map (line (rdAxis d))
    ∃ res, reduceOp s g opc line all =
        (s.hreadCheck n g 0xE501 (rowRanges (dA d) (dAStr d) (dRows d) (etRow (dSrc d) (dCount d)))).startedAs g 2 before o rest
          (s.startCycle g 2 o) (dRows d * ceilDiv (dCount d * etHalf (dSrc d)) 8192) 24 (if rdPost d = 0 then 24 else 36) res ∧
      res.writes = [(dDst d, packCodes 32 (results.map f32c))] ∧
      res.sum.value = f32c (postValue (rdPost d) (dS0 d % 2 ^ 32) (dS1 d % 2 ^ 32) (all results)) :=
  ⟨_, engStart_of_waits waits op _, rfl, rfl⟩

/-- A tile with a row and a column has elements in all its lines (R157). -/
theorem ne_nil_of_mem_lines {d : List Byte} (rows : 1 ≤ dRows d) (count : 1 ≤ dCount d) {line : List FV} (mem : line ∈ s.lines g d) :
    line ≠ [] := by
  rw [← List.length_pos_iff]
  rw [State.lines] at mem
  split at mem
  · obtain ⟨r, _, rfl⟩ := List.mem_map.mp mem
    rwa [length_hvals]
  · obtain ⟨c, _, rfl⟩ := List.mem_map.mp mem
    rwa [List.length_map, List.length_map, List.length_range]

end

/-- A row of Table 05-5 whose line results are FP32 values runs a `reduceOp` of its own OPCODE, which reduces lines along an axis as the
row does. -/
def RunsReduce (g : Fin 216) (axis : Bool) (z : Instr × Nat × (List FV → FV) × (List FV → FV)) : Prop :=
  ∃ line : Bool → List FV → FV, (∀ s, exec z.1 s = .next (reduceOp s g z.2.1 line z.2.2.2)) ∧ line axis = z.2.2.1

/-- Settles O25: the four sums and extremes are `reduceOp`s; ARGMAX and TOPK take the head and the first elements of the ranked lines. -/
theorem reductionResult : Obligations.ReductionResult := by
  unfold Obligations.ReductionResult
  intro s g n l before o rest d ls base waits
  refine ⟨fun z mem op => ?reduce, fun op rows count => ?argmax, fun op => ?topk⟩
  case reduce =>
    have runs : RunsReduce g (rdAxis d) z := by
      clear op
      revert z
      simp only [List.forall_mem_cons, List.not_mem_nil, false_imp_iff, implies_true, and_true]
      exact ⟨⟨_, exec_reduceSum g, rfl⟩, ⟨_, exec_sumsq g, rfl⟩, ⟨_, exec_reduceMax g, rfl⟩, ⟨_, exec_reduceMin g, rfl⟩⟩
    obtain ⟨line, execution, reduces⟩ := runs
    obtain ⟨res, started, writes, sum⟩ := reduceOp_of_waits waits op line z.2.2.2
    rw [reduces] at writes sum
    exact ⟨res, by rw [execution, started], by rw [writes, List.map_map]; rfl, sum⟩
  case argmax =>
    refine ⟨_, fun j => (lineBest ((ls[j]?).getD [])).2, congrArg Host.Outcome.next (engStart_of_waits waits op _), ?writes,
      fun j line found => ?first⟩
    case writes =>
      simp only [getElem?_lineBest]
      rw [← map_eq_map_range ls [] (fun ln => ((lineBest ln).2 + dS1 d) % 2 ^ 32), ← map_eq_map_range ls [] (fun ln => f32c (lineBest ln).1)]
      simp only [List.map_map]
      rfl
    case first =>
      have first := ranksFirst_lineBest (ne_nil_of_mem_lines rows count (List.mem_of_getElem? found))
      simp only [found, Option.getD_some, first.atPos]
      refine ⟨(List.getElem?_eq_some_iff.mp first.atPos).1, fun q inside => ?_⟩
      rw [List.getElem?_eq_getElem inside, Option.getD_some]
      exact ⟨first.top _ (List.getElem_mem inside), fun low => first.before q low _ (List.getElem?_eq_getElem inside)⟩
  case topk =>
    refine ⟨_, congrArg Host.Outcome.next (engStart_of_waits waits op _), ?_⟩
    simp only [List.mapIdx_eq_zipIdx_map, List.zipIdx_map, List.map_map]
    rfl

end Sys2Proof.Proofs
end

section
/-!
PROOFS. What an operation of the conversion engine writes (R163 to R168, R184 to R187, Table 05-6).
-/
namespace Sys2Proof.Proofs
open Sys2Proof.Machine Sys2Proof.Laws

section
variable (s : State) (g n l : Nat) (d : List Byte)

/-- A source value as the engine converts it: multiplied by SCALAR0 under PRESCALE (R163). -/
def cvPrescaled (v : FV) : FV := if cvPre d then v.mul (f32v (dS0 d % 2 ^ 32)) else v

/-- The code of a value at element `i` of row `r`, rounded once under RM (R164 to R166). -/
def cvCode (v : FV) (r i : Nat) : Nat :=
  (convEncode (dDty d) (rmOf (cvRm d) (s.rndWord n l d) (r * dCount d + i)) (cvSat d) v).1

/-- The source values of a conversion, element by element. -/
theorem convSrc_eq : s.convSrc g d =
    (List.range (dRows d)).map (fun r => (List.range (dCount d)).map (fun i => cvPrescaled d (vecA s g d r i))) := by
  simp only [State.convSrc, hvals_eq_map_elem, List.map_map]
  rfl

variable {s g n l d}

/-- The bytes of results that are known element by element. -/
theorem mapIdx_packCodes_eq_rowWrites {outs : List (List (Nat × Bool))} {result : Nat → Nat → Nat × Bool}
    (known : outs = (List.range (dRows d)).map (fun r => (List.range (dCount d)).map (result r))) :
    outs.mapIdx (fun r x => (dDst d + r * dDStr d, packCodes (etBits (dDty d)) (x.map Prod.fst))) = rowWrites d (fun r i => (result r i).1) := by
  rw [known, mapIdx_map_range]
  simp only [List.map_map]
  rfl

/-- The bytes of a conversion whose source is known element by element. -/
theorem mapIdx_convEncode_eq_rowWrites {src : List (List FV)} {v : Nat → Nat → FV}
    (known : src = (List.range (dRows d)).map (fun r => (List.range (dCount d)).map (v r))) :
    (src.mapIdx (fun r vs => vs.mapIdx (fun i x =>
        convEncode (dDty d) (rmOf (cvRm d) (s.rndWord n l d) (r * dCount d + i)) (cvSat d) x))).mapIdx
      (fun r x => (dDst d + r * dDStr d, packCodes (etBits (dDty d)) (x.map Prod.fst))) = rowWrites d (fun r i => cvCode s n l d (v r i) r i) := by
  refine mapIdx_packCodes_eq_rowWrites ?_
  simp only [known, mapIdx_map_range]

variable {before : List Op} {o : Op} {rest : List Op}

/-- What a conversion to blocks writes: the bytes of each row at DST, then at XADDR those of the rows that have some (R153, R167, R168, R185). -/
theorem quantOp_of_waits (waits : Waits s g 3 n l before o rest) {opc : Nat} (op : dOp o.desc = opc)
    (row : List Byte → (Nat → RM) → Nat → List FV → RowOut) :
    let d := o.desc
    let out (r : Nat) := row d (rmOf (cvRm d) (s.rndWord n l d)) (r * dCount d)
      ((List.range (dCount d)).map (fun i => cvPrescaled d (vecA s g d r i)))
    ∃ res, quantOp s g opc row =
        (s.hreadCheck n g 0xE501 (rowRanges (dA d) (dAStr d) (dRows d) (etRow (dSrc d) (dCount d)))).startedAs g 3 before o rest
          (s.startCycle g 3 o) (dRows d * ceilDiv (dCount d * cvHalf d) 8192) 16 16 res ∧
      res.writes = (List.range (dRows d)).map (fun r => (dDst d + r * dDStr d, (out r).dst)) ++
        ((List.range (dRows d)).map (fun r => (dX d + r * dXStr d, (out r).x))).filter (fun w => !w.2.isEmpty) := by
  refine ⟨_, engStart_of_waits waits op _, ?_⟩
  simp only [convSrc_eq, mapIdx_map_range]

end

/-- Settles O26: CAST, EXPAND and CONST code their sources element by element; the conversions to blocks are `quantOp`s. -/
theorem conversionResult : Obligations.ConversionResult := by
  unfold Obligations.ConversionResult
  intro s g n l before o rest d pre rm a code reads busy waits
  refine ⟨fun op => ?cast, fun op full => ?expand, fun op => ?const, fun z mem op => ?blocks⟩
  case cast =>
    exact ⟨_, congrArg Host.Outcome.next (engStart_of_waits waits op _), mapIdx_convEncode_eq_rowWrites (convSrc_eq s g d)⟩
  case expand =>
    have source (r : Nat) : (s.expandRow g d r).map (cvPrescaled d) =
        (List.range (dCount d)).map (fun i => cvPrescaled d (((s.expandRow g d r)[i]?).getD .nan)) := by
      rw [← full r]
      exact map_eq_map_range ..
    exact ⟨_, _, congrArg Host.Outcome.next (engStart_of_waits waits op _),
      mapIdx_convEncode_eq_rowWrites (List.map_congr_left fun r _ => source r)⟩
  case const =>
    exact ⟨_, congrArg Host.Outcome.next (engStart_of_waits waits op _), mapIdx_packCodes_eq_rowWrites rfl⟩
  case blocks =>
    have runs : ∀ s, exec z.1 s = .next (quantOp s g z.2.1 z.2.2) := by
      clear op
      revert z
      simp only [List.forall_mem_cons, List.not_mem_nil, false_imp_iff, implies_true, and_true]
      exact ⟨exec_quantMx g, exec_quantG16 g, exec_compress g⟩
    obtain ⟨res, started, writes⟩ := quantOp_of_waits waits op z.2.2
    exact ⟨res, by rw [runs, started], writes⟩

end Sys2Proof.Proofs
end

section
/-!
PROOFS. How an operation of an attention chain starts (R210), and how one of the KV engine does (R239, R240, R243, R244, R250, Table 08-4).
-/
namespace Sys2Proof.Proofs
open Sys2Proof.Machine Sys2Proof.Laws

/-! What the start of an operation leaves alone -/

section
variable (base : State) (g e : Nat) (before : List Op) (o : Op) (rest : List Op) (start busy lat slat : Nat) (res : Result)

@[simp] theorem startedAs_chain : ((base.startedAs g e before o rest start busy lat slat res).hearth g).chain = (base.hearth g).chain := by
  rw [State.startedAs, hearth_onHearth_same]
  rfl
@[simp] theorem startedAs_dir (k list : Nat) : (base.startedAs g e before o rest start busy lat slat res).dir k list = base.dir k list := rfl
@[simp] theorem startedAs_handle (n slot : Nat) : (base.startedAs g e before o rest start busy lat slat res).handle n slot = base.handle n slot := rfl

end

/-! The pages that gain a reference -/

/-- From `s` to `t` the reference counts of pages moved, and with them which pages are poisoned or hold maps; nothing else did (R234). -/
def OnlyPages (s t : State) : Prop := ∃ refs poisoned maps, t = { s with refs := refs, poisoned := poisoned, maps := maps }

theorem onlyPages_setRefs {s t : State} (same : OnlyPages s t) (k q v : Nat) : OnlyPages s (t.setRefs k q v) := by
  obtain ⟨_, _, _, rfl⟩ := same
  unfold State.setRefs
  split
  · exact ⟨_, _, _, rfl⟩
  · exact ⟨_, _, _, rfl⟩

/-- A directory that is shared adds a reference to each of its map pages (R243, R244). -/
theorem onlyPages_forAll_incRef (s : State) (k : Nat) (ents : Tab Nat) : OnlyPages s (forAll ents (fun e s => s.incRef k e.2) s) :=
  forAll_invariant (P := OnlyPages s) (fun _ _ same => onlyPages_setRefs same ..) ⟨s.refs, s.poisoned, s.maps, rfl⟩

theorem forAll_incRef_handles (s : State) (k : Nat) (ents : Tab Nat) : (forAll ents (fun e s => s.incRef k e.2) s).handles = s.handles := by
  obtain ⟨_, _, _, pages⟩ := onlyPages_forAll_incRef s k ents
  rw [pages]

theorem forAll_incRef_handleList (s : State) (k : Nat) (ents : Tab Nat) (n i : Nat) :
    (forAll ents (fun e s => s.incRef k e.2) s).handleList n i = s.handleList n i := by
  obtain ⟨_, _, _, pages⟩ := onlyPages_forAll_incRef s k ents
  rw [pages]
  rfl

/-! The handle of a SNAP -/

/-- The handle that a SNAP at slot `slot` makes of its list: for each model the positions up to POS, with the epoch of the list's request
(R243, Table 08-7). -/
def snapHandle (s : State) (n k slot : Nat) (d : List Byte) : Handle :=
  let src := s.dir k (kvList d)
  { check := Config.handleCheck n slot (s.num (E.STEP_COUNT n)) (kvList d) % 2 ^ 48
    len := (List.range 4).map (fun m => min ((src.pendOf m).getD (src.lenOf m)) (kvPos d))
    epoch := match s.entryOfList n (kvList d) with | some i => s.rqEpoch i | none => (s.part n).stepEpoch
    pinned := (kvFlags d).testBit 0
    lastAttach := s.num (E.STEP_COUNT n) }

section
variable {s : State} {g : Fin 216} {n l : Nat} {before : List Op} {o : Op} {rest : List Op}

/-- An operation of a chain extends it by its keys and values, and closes it when it is the last (R210). -/
theorem attn_of_waits (waits : Waits s g 6 n l before o rest) (op : dOp o.desc = 0x0601) :
    let d := o.desc
    let c0 := s.openChain g d
    let c1 := c0.advance d (s.scoreRows g d c0) ((List.range (atKlen d)).map (s.valueRow g d))
    ∃ t res, exec (.attn g) s = .next t ∧ (t.hearth g).chain = (if atLast d then none else some c1) ∧ t.mem = s.mem ∧
      ∃ base, t = State.startedAs base g 6 before o rest (s.startCycle g 6 o) (atBusy d) 40 40 res := by
  refine ⟨_, _, congrArg Host.Outcome.next (engStart_of_waits waits op _), ?chain, ?mem, _, rfl⟩
  case chain => rw [startedAs_chain, hearth_onHearth_same]
  case mem => exact (SameEngines.hreadCheck (g := g) ..).mem

/-! The start of a KV operation -/

variable {opc : Nat}

/-- An operation on a padded batch slot takes its time and does nothing; its summary is a draw (R239). -/
theorem kvStart_of_padded (waits : Waits s g 7 n l before o rest) (op : dOp o.desc = opc) (padded : kvPadded o.desc = true)
    (busy : List Byte → List Byte → Nat) (lat : Nat) (f : State → Nat → Nat → Op → State × Result) :
    kvStart s g opc busy lat f = s.draw.2.startedAs g 7 before o rest (s.startCycle g 7 o) (busy o.desc (s.kvRec n o.desc)) lat lat
      { sum := (kvPaddedSummary s).1 } := by
  rw [kvStart, engStart_of_waits waits op]
  simp only [padded, if_true]
  rfl

theorem readDir_of_sound {k src : Nat} (sound : s.dirBad n k src = false) (list : Nat) : s.readDir n k src list = s := by
  rw [State.readDir, sound]
  rfl

section
variable (waits : Waits s g 7 n l before o rest) (op : dOp o.desc = opc) (real : kvPadded o.desc = false)
  (sound : s.dirBad n (l / 16) (kvList o.desc) = false) (busy : List Byte → List Byte → Nat) (lat : Nat)
include waits op real sound

/-- With a sound directory, any other operation does its work and starts (R250). -/
theorem kvStart_of_waits (f : State → Nat → Nat → Op → State × Result) :
    kvStart s g opc busy lat f =
      (f s n l o).1.startedAs g 7 before o rest (s.startCycle g 7 o) (busy o.desc (s.kvRec n o.desc)) lat lat (f s n l o).2 := by
  rw [kvStart, engStart_of_waits waits op]
  simp only [real, Bool.false_eq_true, if_false, readDir_of_sound sound]

theorem kvStart_of_work {f : State → Nat → Nat → Op → State × Result} {t : State} {res : Result} (work : f s n l o = (t, res)) :
    kvStart s g opc busy lat f = t.startedAs g 7 before o rest (s.startCycle g 7 o) (busy o.desc (s.kvRec n o.desc)) lat lat res := by
  rw [kvStart_of_waits waits op real sound, work]

end

/-! The KV operations with a sound directory (Table 08-4) -/

variable (waits : Waits s g 7 n l before o rest) (real : kvPadded o.desc = false) (sound : s.dirBad n (l / 16) (kvList o.desc) = false)
include waits real sound

/-- The entries of its positions reach the hearth store as rows (R240). -/
theorem gather_of_entries (op : dOp o.desc = 0x0701)
    (within : kvPos o.desc + kvCount o.desc ≤
      max ((s.dir (l / 16) (kvList o.desc)).lenOf (kvModel o.desc)) (s.appendedEnd n (l / 16) (kvList o.desc) (kvModel o.desc) (kvLayer o.desc)))
    (joined : (fld (s.kvRec n o.desc) 1 1).testBit 2 = false) {s1 : State} {rows : List (List Byte)}
    (entries : s.kvEntries n (l / 16) (kvList o.desc) (kvModel o.desc) (kvLayer o.desc) (s.kvRec n o.desc) (kvPos o.desc) (kvCount o.desc) = (s1, some rows)) :
    ∃ busy res, exec (.gather g) s = .next (s1.startedAs g 7 before o rest (s.startCycle g 7 o) busy 400 400 res) ∧ res.trap = false ∧
      res.writes = rows.mapIdx (fun j b => (kvH o.desc + j * kmEntry (s.kvRec n o.desc), b)) := by
  refine ⟨_, { writes := rows.mapIdx (fun j b => (kvH o.desc + j * kmEntry (s.kvRec n o.desc), b)), sum := kvSummary (kvCount o.desc) },
    congrArg Host.Outcome.next (kvStart_of_work waits op real sound _ _ ?work), rfl, rfl⟩
  simp only [if_neg (Nat.not_lt.mpr within), entries, joined, Bool.false_eq_true, if_false]

/-- A live handle that the request may attach gives its directory to the empty list (R244). -/
theorem attach_of_handle (op : dOp o.desc = 0x0704) (empty : (s.dir (l / 16) (kvList o.desc)).isEmpty = true) {h : Handle}
    (live : s.handle n (bits (kvHandle o.desc) 59 48) = some h)
    (valid : kvHandle o.desc / 2 ^ 60 = n ∧ h.check = kvHandle o.desc % 2 ^ 48 ∧ s.epochAllows n (kvList o.desc) h = true) :
    let src := s.dir (l / 16) (s.handleList n (bits (kvHandle o.desc) 59 48))
    ∃ t, exec (.attach g) s = .next t ∧ t.dir (l / 16) (kvList o.desc) = { len := src.len, ents := src.ents } := by
  refine ⟨_, congrArg Host.Outcome.next (kvStart_of_waits waits op real sound _ _ _), ?_⟩
  simp only [startedAs_dir, empty, Bool.not_true, Bool.false_eq_true, if_false, live, if_pos valid]
  exact (getD_put ..).trans (if_pos rfl)

/-- An ATTACH of a handle that is not live answers all ones (R244). -/
theorem attach_of_noHandle (op : dOp o.desc = 0x0704) (empty : (s.dir (l / 16) (kvList o.desc)).isEmpty = true)
    (dead : s.handle n (bits (kvHandle o.desc) 59 48) = none) :
    ∃ base busy res, exec (.attach g) s = .next (State.startedAs base g 7 before o rest (s.startCycle g 7 o) busy 400 400 res) ∧
      res.sum.value = 2 ^ 64 - 1 := by
  refine ⟨_, _, _, congrArg Host.Outcome.next (kvStart_of_waits waits op real sound _ _ _), ?_⟩
  simp only [empty, Bool.not_true, Bool.false_eq_true, if_false, dead]
  rfl

/-- A SNAP that takes a free slot makes the slot's handle, whose list has the entries of LIST (R243). -/
theorem snap_of_fresh (op : dOp o.desc = 0x0705)
    (inside : kvPos o.desc ≤ ((s.dir (l / 16) (kvList o.desc)).pendOf 0).getD ((s.dir (l / 16) (kvList o.desc)).lenOf 0)) {slot : Nat}
    (free : s.snapSlot n (l / 16) (kvList o.desc) = some (slot, true)) :
    let h := snapHandle s n (l / 16) slot o.desc
    ∃ t, exec (.snap g) s = .next t ∧ t.handle n slot = some h ∧
      t.dir (l / 16) (s.handleList n slot) = { len := h.len, ents := (s.dir (l / 16) (kvList o.desc)).ents } := by
  intro h
  refine ⟨_, congrArg Host.Outcome.next (kvStart_of_waits waits op real sound _ _ _), ?made⟩
  simp only [startedAs_dir, startedAs_handle, Nat.not_lt.mpr inside, if_false, free, if_true, forAll_incRef_handleList, h, snapHandle]
  -- An entry of the list learns the handle's value, which neither the handles nor the directories hold.
  obtain entry | ⟨i, entry⟩ := Option.eq_none_or_eq_some (s.entryOfList n (kvList o.desc))
  all_goals
    simp only [entry]
    constructor
    · exact (congrArg (Tab.look · _) (forAll_incRef_handles ..)).trans ((look_put ..).trans (if_pos rfl))
    · exact (getD_put ..).trans (if_pos rfl)

end

/-- A row of Table 08-4 runs a `kvStart` of its own OPCODE. -/
def RunsKv (g : Fin 216) (z : Instr × Nat) : Prop :=
  ∃ (busy : List Byte → List Byte → Nat) (lat : Nat) (f : State → Nat → Nat → Op → State × Result),
    ∀ s, exec z.1 s = .next (kvStart s g z.2 busy lat f)

/-- Settles O30: an ATTN starts with its chain advanced, and every KV row is a `kvStart`, which takes its time on a padded slot and else does
its own work of Table 08-4. -/
theorem attentionAndKv : Obligations.AttentionAndKv := by
  unfold Obligations.AttentionAndKv
  intro s g n l e before o rest d k list m start dr waits
  refine ⟨?attn, ?padded, ?sound⟩
  case attn =>
    rintro rfl
    exact attn_of_waits waits
  case padded =>
    rintro rfl padded z mem op
    have runs : RunsKv g z := by
      clear op
      revert z
      simp only [List.forall_mem_cons, List.not_mem_nil, false_imp_iff, implies_true, and_true]
      exact ⟨⟨_, _, _, exec_gather g⟩, ⟨_, _, _, exec_kvAppend g⟩, ⟨_, _, _, exec_accept g⟩,
        ⟨_, _, _, exec_attach g⟩, ⟨_, _, _, exec_snap g⟩⟩
    obtain ⟨busy, lat, f, execution⟩ := runs
    exact ⟨_, _, _, by rw [execution, kvStart_of_padded waits op padded], rfl⟩
  case sound =>
    rintro rfl real sound
    refine ⟨?beyond, ?gathered, ?outside, ?accepted, ?attached, attach_of_noHandle waits real sound, ?snapped⟩
    case beyond => exact fun op beyond => ⟨_, _, _, congrArg Host.Outcome.next (kvStart_of_work waits op real sound _ _ (if_pos beyond)), rfl⟩
    case gathered => exact fun op within joined _ _ entries => gather_of_entries waits real sound op within joined entries
    case outside => exact fun op outside => ⟨_, _, congrArg Host.Outcome.next (kvStart_of_work waits op real sound _ _ (if_pos outside)), rfl⟩
    case accepted =>
      intro op accepted written
      have inside := not_or_intro (Nat.not_lt.mpr accepted) (Nat.not_lt.mpr written)
      exact ⟨_, congrArg Host.Outcome.next (kvStart_of_work waits op real sound _ _ (if_neg inside)), rfl⟩
    case attached =>
      intro op empty h live _ partition check allowed src
      obtain ⟨t, execution, directory⟩ := attach_of_handle waits real sound op empty live ⟨partition, check, allowed⟩
      exact ⟨t, execution, (congrArg Dir.len directory :), (congrArg Dir.ents directory :)⟩
    case snapped =>
      intro op inside slot free
      obtain ⟨t, execution, made, directory⟩ := snap_of_fresh waits real sound op inside free
      exact ⟨t, _, execution, made, (congrArg Dir.ents directory :), rfl, rfl⟩

end Sys2Proof.Proofs
end

section
/-!
PROOFS. A WRITE that is admitted: a value that does not fit its entry is turned away, any other is the entry's own write (R481, log 57).
-/
namespace Sys2Proof.Proofs
open Sys2Proof.Machine Sys2Proof.Laws

/-- A request with a code is turned away, whatever its effect was. -/
theorem outcome_of_code (s t : State) (r : Rq) (op key : Nat) {code : Nat} (refused : code ≠ 0) :
    s.outcome r op key (t, code) = s.turnedAway r op key code := by
  rw [State.outcome, if_neg refused]

section
variable {s : State} {r : Rq} {key : Nat} {v : List Byte} {f : Session → State → State × Nat} {x : Session} (adm : Admitted s r opWrite key x)
include adm

/-- A row whose body is an admitted WRITE: the check of type and range comes before the entry's own. -/
theorem next_write_of_admitted :
    (.next (s.write r key v f) : Host.Outcome State Fault Refusal) =
      .next ((s.arrived r).outcome r opWrite key (if checkOf key v false = 0 then f x (s.arrived r) else (s.arrived r, checkOf key v false))) := by
  unfold State.write
  rw [request_settle_of_admitted adm (by decide)]
  simp only [ne_eq, ite_not]

theorem next_write_of_fits (fits : checkOf key v false = 0) :
    (.next (s.write r key v f) : Host.Outcome State Fault Refusal) = .next ((s.arrived r).outcome r opWrite key (f x (s.arrived r))) := by
  rw [next_write_of_admitted adm, if_pos fits]

theorem next_write_of_misfit (misfit : checkOf key v false ≠ 0) :
    (.next (s.write r key v f) : Host.Outcome State Fault Refusal) = .next ((s.arrived r).turnedAway r opWrite key (checkOf key v false)) := by
  rw [next_write_of_admitted adm, if_neg misfit, outcome_of_code _ _ _ _ _ misfit]

end

end Sys2Proof.Proofs
end

section
/-!
PROOFS. Writes of the work a partition does. O45.
-/
namespace Sys2Proof.Proofs
open Sys2Proof.Machine Sys2Proof.Laws

/-! Writes that a loaded cord makes busy -/

section
variable {s : State} {n : Nat} {v : List Byte}

/-- The loaded cords are looked at before the value. -/
theorem idleWrite_eq (key : Nat) (ok : Bool) :
    s.idleWrite n key v ok = if s.anyLoaded n then (s, busy) else if ok then (s.plainWrite key v, 0) else (s, invalid) := by
  cases ok <;> rfl

/-- A row whose body is an admitted WRITE of an entry that a loaded cord keeps busy. -/
theorem next_idleWrite_of_fits {r : Rq} {key : Nat} {x : Session} {f : Session → State → State × Nat} {ok : Bool} (adm : Admitted s r opWrite key x)
    (fits : checkOf key v false = 0) (own : f x (s.arrived r) = (s.arrived r).idleWrite n key v ok) :
    (.next (s.write r key v f) : Host.Outcome State Fault Refusal) = .next ((s.arrived r).outcome r opWrite key
      (if (s.arrived r).anyLoaded n then (s.arrived r, busy) else if ok then ((s.arrived r).plainWrite key v, 0) else (s.arrived r, invalid))) := by
  rw [next_write_of_fits adm fits, own, idleWrite_eq]

section
variable (loaded : s.anyLoaded n = true)
include loaded

theorem regionDelete_of_loaded : s.regionDelete n v = (s, busy) := by
  rw [State.regionDelete, if_pos loaded]

theorem kvModelsWrite_of_loaded : s.kvModelsWrite n v = (s, busy) := by
  rw [State.kvModelsWrite, if_pos loaded]

theorem kvPoolWrite_of_loaded (ready : s.partReady n = true) : s.kvPoolWrite n v = (s, busy) := by
  have notUnready : ¬ s.partReady n = false := by simp [ready]
  rw [State.kvPoolWrite, if_neg notUnready, if_pos loaded]

end

/-! Refusals -/

theorem handleRelease_of_none (dead : s.handle n (bits (leNat v) 59 48) = none) : s.handleRelease n v = (s, invalid) := by
  simp only [State.handleRelease, dead]

theorem epochSwitch_of_kindling (kindled : s.kindled = true) (part : s.kindPart = n) : s.epochSwitch n v = (s, busy) := by
  rw [State.epochSwitch, if_pos ⟨kindled, part⟩]

/-! QUEUE_MAP -/

/-- The number a queue expects stands in another entry than the queues' regions. -/
theorem setConsumed_queueMap (q c : Nat) : (s.setConsumed n q c).blob (E.QUEUE_MAP n) = s.blob (E.QUEUE_MAP n) := by
  have other : E.QUEUE_MAP n ≠ E.CONSUMED n := by
    unfold E.QUEUE_MAP E.CONSUMED
    omega
  rw [State.setConsumed, blob_setBlob, if_neg other]

/-- A write of QUEUE_MAP that is not refused leaves the entry with its value, whichever queues expect stamp 0 again. -/
theorem queueMapWrite_blob (done : (s.queueMapWrite n v).2 = 0) : (s.queueMapWrite n v).1.blob (E.QUEUE_MAP n) = v := by
  unfold State.queueMapWrite at done ⊢
  dsimp only at done ⊢
  split at done
  case isTrue => cases done
  case isFalse fits =>
    rw [if_neg fits]
    split at done
    case isTrue => cases done
    case isFalse free =>
      rw [if_neg free]
      refine forAll_invariant (P := fun t => t.blob (E.QUEUE_MAP n) = v) (fun q t same => ?_) ?_
      · rw [setConsumed_queueMap, same]
      · rw [blob_setBlob, if_pos rfl]

end

/-- Settles O45: every row is a WRITE with a body of its own, behind the check of type and range; the refusals come from the first checks of
those bodies. -/
theorem workWrites : Obligations.WorkWrites := by
  unfold Obligations.WorkWrites
  intro s r n v x s1 idle rows
  refine ⟨?idle, ?rows, ?misfits, ?loaded, handleRelease_of_none, epochSwitch_of_kindling, queueMapWrite_blob⟩
  case idle =>
    simp only [idle, List.forall_mem_cons, List.not_mem_nil, false_implies, implies_true, and_true]
    have write {key : Nat} {f : Session → State → State × Nat} {ok : Bool} (own : f x s1 = s1.idleWrite n key v ok)
        (adm : Admitted s r opWrite key x) (fits : checkOf key v false = 0) := next_idleWrite_of_fits adm fits own
    exact ⟨write rfl, write rfl, write rfl, write rfl, write rfl⟩
  case rows =>
    simp only [rows, List.forall_mem_cons, List.not_mem_nil, false_implies, implies_true, and_true]
    have write {key : Nat} {f : Session → State → State × Nat} (adm : Admitted s r opWrite key x) (fits : checkOf key v false = 0) :=
      next_write_of_fits (f := f) adm fits
    exact ⟨write, write, write, write, write, write, write, write⟩
  case misfits =>
    simp only [idle, rows, List.map_cons, List.map_nil, List.cons_append, List.nil_append, List.forall_mem_cons, List.not_mem_nil, false_implies,
      implies_true, and_true]
    have refuse {key : Nat} {f : Session → State → State × Nat} (adm : Admitted s r opWrite key x) (misfit : checkOf key v false ≠ 0) :=
      next_write_of_misfit (f := f) adm misfit
    exact ⟨refuse, refuse, refuse, refuse, refuse, refuse, refuse, refuse, refuse, refuse, refuse, refuse, refuse⟩
  case loaded => exact fun loaded => ⟨regionDelete_of_loaded loaded, kvModelsWrite_of_loaded loaded, kvPoolWrite_of_loaded loaded⟩

end Sys2Proof.Proofs
end

section
/-!
PROOFS. A request that is admitted and may wait for an eviction copy: with a code it answers as any other, with none it is put behind those that wait (R303).
-/
namespace Sys2Proof.Proofs
open Sys2Proof.Machine

section
variable {s : State} {r : Rq} {op key : Nat} {x : Session} (adm : Admitted s r op key x) (notStore : op ≠ opStore)
include adm notStore

/-- An admitted request runs where its message has arrived; without an answer no response is sent. -/
theorem request_of_admitted (run : Session → State → State × Option Ans) :
    s.request r op key run =
      (run x (s.arrived r)).2.elim (run x (s.arrived r)).1 ((run x (s.arrived r)).1.respond r op key (tyOf key)) := by
  obtain ⟨accepted, fresh, alone, room, rights⟩ := adm
  have arrives : (s.at r.t).accept r.ses r.seq r.ok = (s.arrived r, some x) := Prod.ext rfl accepted
  unfold State.request
  rw [arrives]
  simp only [fresh, alone, rights, notStore, Nat.not_le.mpr room, false_and, Bool.false_eq_true, if_false, ne_eq, not_true_eq_false]
  rcases run x (s.arrived r) with ⟨t, _ | a⟩ <;> rfl

variable {w : Waiting} {f : Session → State → State × Option Nat}

theorem request_settleOr_of_code {c : Nat} (code : (f x (s.arrived r)).2 = some c) :
    s.request r op key (fun x s => s.settleOr w (f x s)) = (s.arrived r).outcome r op key ((f x (s.arrived r)).1, c) := by
  rw [request_of_admitted adm notStore]
  simp only [State.settleOr, code]
  unfold State.settle State.outcome
  by_cases done : c = 0
  · simp only [done, if_true, Option.elim, State.answered]
  · simp only [done, if_false, Option.elim, State.turnedAway]

theorem request_settleOr_of_no_code (waits : (f x (s.arrived r)).2 = none) :
    s.request r op key (fun x s => s.settleOr w (f x s)) = { (f x (s.arrived r)).1 with waits := (s.arrived r).waits ++ [w] } := by
  rw [request_of_admitted adm notStore]
  simp only [State.settleOr, waits, Option.elim]

/-- A row whose body is such a request: the code of its operation `y` is its answer, and without one `w` waits. -/
theorem answers_or_waits {i : Instr} {y : State × Option Nat} (row : exec i s = .next (s.request r op key (fun x s => s.settleOr w (f x s))))
    (body : f x (s.arrived r) = y) :
    (∀ c, y.2 = some c → exec i s = .next ((s.arrived r).outcome r op key (y.1, c))) ∧
    (y.2 = none → exec i s = .next { y.1 with waits := (s.arrived r).waits ++ [w] }) := by
  subst body
  exact ⟨fun _ code => row.trans (congrArg _ (request_settleOr_of_code adm notStore code)),
    fun waits => row.trans (congrArg _ (request_settleOr_of_no_code adm notStore waits))⟩

end

end Sys2Proof.Proofs
end

section
/-!
PROOFS. Commands that may wait for an eviction copy. O48.
-/
namespace Sys2Proof.Proofs
open Sys2Proof.Machine Sys2Proof.Laws

section
variable {s : State} {n : Nat} {v : List Byte}

/-! First checks of the commands -/

theorem regionCreate_of_unready_rick (size : v.length = 32) (tierB : rgRick v ≠ 0xFF) (own : (s.ricksOf n).contains (rgRick v) = true)
    (unready : (s.num E.RICK_READY).testBit (rgRick v) = false) : s.regionCreate n v = (s, some stateErr) := by
  have refused : v.length = 32 ∧ (rgRick v != 0xFF) ∧ (s.ricksOf n).contains (rgRick v) ∧ !(s.num E.RICK_READY).testBit (rgRick v) :=
    ⟨size, bne_iff_ne.mpr tierB, own, by rw [unready]; rfl⟩
  rw [State.regionCreate, if_pos refused]

section
variable {w : Nat} (named : s.namedSet n = some w) (ready : s.partReady n = true)
include named ready

theorem wsetFetch_of_empty_slot (empty : (s.wset n w).st = 0) : s.wsetFetch n = (s, some invalid) := by
  simp [State.wsetFetch, named, ready, empty]

theorem wsetFetch_of_turn_target (registered : (s.wset n w).st = 1) (target : s.turnTargets n w = true) : s.wsetFetch n = (s, some busy) := by
  simp [State.wsetFetch, named, ready, registered, target]

end

/-- A plan that fails one of checks 1 to 8 arms nothing: TURN_ARM is executed and leaves its code (Table 14-4, log 149). -/
theorem turnArm_of_failed_check (notKindled : s.kindled = false) (fails : s.planCode n (s.blob (E.TURN_PLAN n)) ≠ 0) :
    s.turnArm n = (s.setNum (E.TURN_RESULT n) (s.planCode n (s.blob (E.TURN_PLAN n))), some 0) := by
  simp only [State.turnArm, notKindled, Bool.false_eq_true, false_and, if_false, if_pos fails]

/-! Entries without a rule of their own -/

/-- The dictionary's row `e` gives key `key` a number that every write replaces. -/
structure PlainNumber (key : Nat) (e : Entry) : Prop where
  row : entryOf (key / 256) (key % 256) = some e
  notCreate : ¬(e.base = 0x3030 ∧ e.sub = 1)
  replaces : e.acc ≠ .rw1c
  number : ∀ v, e.ty.read v = .num (leNat v)

theorem putEntry_of_no_rule {key : Nat} {e : Entry} {x : Session} (plain : PlainNumber key e)
    (part : s.putPart x (key / 256 - e.base) e.base e.sub v = none) (unit : s.putUnit x (key / 256 - e.base) e.base e.sub v = none)
    (module : s.putModule e.base e.sub v = none) : s.putEntry x key v = (s.setNum key (leNat v), some 0) := by
  obtain ⟨row, notCreate, replaces, number⟩ := plain
  simp only [State.putEntry, State.plainWrite, State.setNum, row, if_neg notCreate, if_neg replaces, number, part, unit, module, Option.orElse]

end

section
variable (n : Fin 12)

theorem plainNumber_LOAD_SLOT : PlainNumber (E.LOAD_SLOT n) ⟨0x4110, 12, 0x01, .u8, .rw, .V, .part, .part1, 0, 255, .num 255⟩ where
  row := by revert n; decide +kernel
  notCreate := by decide
  replaces := by decide
  number _ := rfl

theorem plainNumber_WSET_SLOT : PlainNumber (E.WSET_SLOT n) ⟨0x3100, 12, 0x01, .u8, .rw, .V, .part, .part1, 0, 255, .num 255⟩ where
  row := by revert n; decide +kernel
  notCreate := by decide
  replaces := by decide
  number _ := rfl

theorem plainNumber_REQ_INDEX : PlainNumber (E.REQ_INDEX n) ⟨0x5000, 12, 0x01, .u16, .rw, .V, .part, .part1, 0, 65535, .num 0⟩ where
  row := by revert n; decide +kernel
  notCreate := by decide
  replaces := by decide
  number _ := rfl

end

/-- Settles O48: every row is a request whose operation answers or waits, and the refusals are the first checks of those operations. -/
theorem commandsThatWait : Obligations.CommandsThatWait := by
  unfold Obligations.CommandsThatWait
  intro s r n v idx sub x s1 key lift
  refine ⟨?rows, regionCreate_of_unready_rick, ?fetch, ?arm, ?plain⟩
  case rows =>
    simp only [List.forall_mem_cons, List.not_mem_nil, false_implies, implies_true, and_true]
    exact ⟨fun adm => answers_or_waits adm (by decide) (exec_regionCreate r n v s) (ite_not ..),
      fun adm => answers_or_waits adm (by decide) (exec_wsetFetch r n s) rfl,
      fun adm => answers_or_waits adm (by decide) (exec_turnArm r n s) rfl,
      fun adm => answers_or_waits adm (by decide) (exec_registerWrite r idx sub v s) (ite_not ..)⟩
  case fetch => exact fun w named ready => ⟨wsetFetch_of_empty_slot named ready, wsetFetch_of_turn_target named ready⟩
  case arm =>
    rintro notKindled c rfl fails
    exact turnArm_of_failed_check notKindled fails
  case plain =>
    simp only [List.forall_mem_cons, List.not_mem_nil, false_implies, implies_true, and_true]
    exact ⟨putEntry_of_no_rule (plainNumber_LOAD_SLOT n) rfl rfl rfl, putEntry_of_no_rule (plainNumber_WSET_SLOT n) rfl rfl rfl,
      putEntry_of_no_rule (plainNumber_REQ_INDEX n) rfl rfl rfl⟩

end Sys2Proof.Proofs
end

section
/-!
PROOFS. Writes of port shares, ports, groups, rings, buffers and traces. O47.
-/
namespace Sys2Proof.Proofs
open Sys2Proof.Machine Sys2Proof.Laws

/-- A write that answers without a code has passed the check before its effect. -/
theorem effect_of_done {c : Prop} [Decidable c] {s : State} {code : Nat} {y : State × Nat} (refusal : code ≠ 0)
    (done : (if c then (s, code) else y).2 = 0) : (if c then (s, code) else y) = y := by
  split at done
  · exact absurd done refusal
  · next passes => exact if_neg passes

section
variable {s : State} {n p e : Nat} {v : List Byte}

/-! Owner codes -/

theorem txOwnersWrite_of_control_owned (owned : fld v 0 1 ≠ 0xFF) : s.txOwnersWrite p v = (s, invalid) := by
  unfold State.txOwnersWrite
  exact if_pos (.inl owned)

theorem ethOwnersWrite_of_collier_unit_given (given : ∃ b ∈ v.take 10, b ≠ 0xFE) : s.ethOwnersWrite e v = (s, invalid) := by
  have notCollier : (v.take 10).all (fun b => b == 0xFE) = false := by simpa [List.all_eq_false] using given
  unfold State.ethOwnersWrite
  rw [notCollier]
  exact if_pos rfl

/-! Buffers -/

/-- The buffer that a BUFFER_REG value describes. -/
def regBuf (v : List Byte) : Buf := { region := fld v 0 2, mode := fld v 2 1, owner := fld v 3 1, off := fld v 8 8, len := fld v 0x10 8 }

theorem bufferReg_of_done (done : (s.bufferReg n v).2 = 0) :
    s.bufferReg n v = ((({ s with buffers := s.buffers.put (n * 2 ^ 32 + ((s.part n).rkeys + 1) % 2 ^ 32) (regBuf v) } : State).onPart n
      (fun p => { p with rkeys := p.rkeys + 1 })).setNum (E.BUFFER_RESULT n) (((s.part n).rkeys + 1) % 2 ^ 32), 0) := by
  unfold State.bufferReg at done ⊢
  exact effect_of_done (by decide) done

theorem buffer_put (rkey : Nat) (b : Buf) :
    ({ s with buffers := s.buffers.put (n * 2 ^ 32 + rkey) b } : State).buffer n rkey = some b := by
  rw [State.buffer, look_put, if_pos rfl]

theorem bufferReg_registers (done : (s.bufferReg n v).2 = 0) :
    (s.bufferReg n v).1.num (E.BUFFER_RESULT n) = ((s.part n).rkeys + 1) % 2 ^ 32 ∧
    (s.bufferReg n v).1.buffer n (((s.part n).rkeys + 1) % 2 ^ 32) = some (regBuf v) := by
  rw [bufferReg_of_done done]
  exact ⟨by rw [num_setNum, if_pos rfl], buffer_put ..⟩

section
variable {b : Buf} (registered : s.buffer n (leNat v) = some b)
include registered

theorem bufferDereg_of_closed (closed : b.closed = true) : s.bufferDereg n v = (s, invalid) := by
  simp only [State.bufferDereg, registered, closed, if_true]

theorem bufferDereg_of_open (live : b.closed = false) :
    s.bufferDereg n v = ({ s with buffers := s.buffers.put (n * 2 ^ 32 + leNat v) { b with closed := true } }, 0) := by
  simp only [State.bufferDereg, registered, live, Bool.false_eq_true, if_false]

theorem bufferDereg_closes (live : b.closed = false) :
    (s.bufferDereg n v).2 = 0 ∧ (s.bufferDereg n v).1.buffer n (leNat v) = some { b with closed := true } := by
  rw [bufferDereg_of_open registered live]
  exact ⟨rfl, buffer_put ..⟩

end

/-! Rings, groups, traces, ports -/

/-- A descriptor that is not refused waits beside the one in force. -/
theorem ringWrite64_next (done : (s.ringWrite64 n v).2 = 0) :
    (s.ringWrite64 n v).1.ring n (s.num (E.RING_INDEX n)) = { s.ring n (s.num (E.RING_INDEX n)) with next := some v } := by
  have written : s.ringWrite64 n v = (s.onRing n (s.num (E.RING_INDEX n)) (fun g => { g with next := some v }), 0) := by
    unfold State.ringWrite64 at done ⊢
    exact effect_of_done (by decide) done
  rw [written, State.ring, State.onRing, getD_put, if_pos rfl]

theorem groupWrite_of_command (runs : (s.group n (s.num (E.GROUP_INDEX n))).cmd.isSome = true) : s.groupWrite n v = (s, busy) := by
  have inUse : s.groupInUse n (s.num (E.GROUP_INDEX n)) = true := by rw [State.groupInUse, runs, Bool.true_or]
  unfold State.groupWrite
  exact if_pos inUse

theorem traceBytes_of_enabled (records : s.num (E.TRACE_ENABLE n) = 1) : s.traceBytes n v = (s, busy) := by
  unfold State.traceBytes
  exact if_pos records

/-- A port that is DOWN and is disabled has no link to take down: its state becomes DISABLED. -/
theorem portEnable_of_down (off : leNat v = 0) (down : s.portState p = 0) :
    s.portEnable p v = ((s.setNum (E.PORT_ENABLE p) 0).setNum (E.PORT_STATE p) 3, 0) := by
  simp [State.portEnable, off, down]

theorem portEnable_disables (off : leNat v = 0) (down : s.portState p = 0) : (s.portEnable p v).1.num (E.PORT_STATE p) = 3 := by
  rw [portEnable_of_down off down, num_setNum, if_pos rfl]

end

/-- Settles O47: every row is a WRITE with a body of its own, behind the check of type and range; the other clauses are the bodies' first checks
and effects. -/
theorem portAndToolWrites : Obligations.PortAndToolWrites := by
  unfold Obligations.PortAndToolWrites
  intro s r n p e v x s1
  refine ⟨?rows, txOwnersWrite_of_control_owned, ethOwnersWrite_of_collier_unit_given, bufferReg_registers,
    fun b registered => ⟨bufferDereg_of_closed registered, bufferDereg_closes registered⟩, ringWrite64_next, groupWrite_of_command,
    traceBytes_of_enabled, portEnable_disables⟩
  case rows =>
    simp only [List.forall_mem_cons, List.not_mem_nil, false_implies, implies_true, and_true]
    have write {key : Nat} {f : Session → State → State × Nat} (adm : Admitted s r opWrite key x) := next_write_of_admitted (v := v) (f := f) adm
    exact ⟨write, write, write, write, write, write, write, write, write, write, write, write⟩

end Sys2Proof.Proofs
end

section
/-!
PROOFS. What stays as it is while events are raised, records kept and messages sent: the turns and the job slots. A message that reaches an awake
partition is taken by it (R418, R424).
-/
namespace Sys2Proof.Proofs
open Sys2Proof.Machine Sys2Proof.Laws

/-- From `s0` to `s` every turn and every job slot is the same. -/
structure SameWork (s0 s : State) : Prop where
  turns : s.turns = s0.turns
  jobs : s.jobs = s0.jobs

namespace SameWork

theorem refl (s : State) : SameWork s s := ⟨rfl, rfl⟩

theorem ite {c : Prop} [Decidable c] {s0 s t : State} (h : SameWork s0 s) (k : SameWork s0 t) : SameWork s0 (if c then s else t) := by
  split <;> assumption

section
variable {s0 s : State} (h : SameWork s0 s)
include h

theorem turn (n : Nat) : s.turn n = s0.turn n := by rw [State.turn, h.turns, State.turn]
theorem job (n j : Nat) : s.job n j = s0.job n j := by rw [State.job, h.jobs, State.job]

/-- A change beside the turns and the job slots. -/
theorem beside {t : State} (turns : t.turns = s.turns) (jobs : t.jobs = s.jobs) : SameWork s0 t := ⟨turns.trans h.turns, jobs.trans h.jobs⟩

theorem bumpBy {k w d : Nat} : SameWork s0 (s.bumpBy k w d) := h.beside rfl rfl
theorem bump {k : Nat} : SameWork s0 (s.bump k) := h.beside rfl rfl
theorem onPart {n : Nat} {f : Part → Part} : SameWork s0 (s.onPart n f) := h.beside rfl rfl
theorem onRick {k : Nat} {f : Rick → Rick} : SameWork s0 (s.onRick k f) := h.beside rfl rfl
theorem onWset {n w : Nat} {f : WSet → WSet} : SameWork s0 (s.onWset n w f) := h.beside rfl rfl
theorem onFport {p : Nat} {f : FPort → FPort} : SameWork s0 (s.onFport p f) := h.beside rfl rfl
theorem onConn {n c : Nat} {f : Conn → Conn} : SameWork s0 (s.onConn n c f) := h.beside rfl rfl

theorem raise {code scope : Nat} {d : List Nat} : SameWork s0 (s.raise code scope d) := by
  unfold State.raise
  exact .ite (h.beside rfl rfl) (h.beside rfl rfl)

theorem countLoss {n d : Nat} : SameWork s0 (s.countLoss n d) := by
  unfold State.countLoss
  exact .ite h (.ite h.bumpBy.onPart h.bumpBy.onPart.raise)

theorem nicRecord {n k typ kind peer msgid : Nat} : SameWork s0 (s.nicRecord n k typ kind peer msgid) := by
  unfold State.nicRecord
  exact .ite h.onRick.countLoss h

theorem sendBy {slots : List Nat} {m : Msg} {use : Option Use} : SameWork s0 (s.sendBy slots m use) := by
  unfold State.sendBy
  refine .ite ?_ (.ite (.nicRecord (.onFport ?_)) (.nicRecord (.onConn ?_)))
  all_goals
    split
    · exact h.beside rfl rfl
    · exact h.beside rfl rfl

/-- A learning token that is sent goes by a window of its group, or nowhere (R442). -/
theorem lrSendNext {n grp : Nat} {body : List Byte} : SameWork s0 (s.lrSendNext n grp body) := by
  unfold State.lrSendNext State.lrSendTo
  refine .ite h ?_
  split
  · exact h
  · exact h.sendBy

end

end SameWork

/-! A message at an awake partition -/

theorem arrive_of_awake {s : State} {m : FabMsg} {n : Nat} (reaches : Reaches s m n) (awake : s.stacksActive n = true) (kind row : Nat)
    (act : State → Nat → State) : s.arrive m kind row act = act (s.received m n kind) n := by
  obtain ⟨up, code, part, live, ash⟩ := reaches
  have taken : ¬ (m.pos ≠ 0 ∧ s.num (E.PORT_STATE m.port) ≠ 2) := by omega
  have owned : ¬ n = 0xFF := by omega
  have takes : (decide (12 ≤ n) || !s.exists n || (s.part n).ash.isSome) = false := by simp [live, ash, part]
  have active (f : FPort → FPort) : (if m.pos = 0 then s else s.onFport m.port f).stacksActive n = true := by split <;> exact awake
  unfold State.arrive
  simp only [code, if_neg taken, if_neg owned, takes, active, Bool.false_eq_true, if_false, if_true]
  rfl

/-- A token whose body is `m.body` reaches the awake partition `n`, to which it is addressed, and is acknowledged: `w` is the state then (R427). -/
structure TokenTaken (s : State) (m : FabMsg) (n : Nat) (w : State) : Prop where
  reaches : Reaches s m n
  awake : s.stacksActive n = true
  addressed : (s.received m n 7).addressed n m = true
  acked : (s.received m n 7).ackTo n m 0 = w

section
variable {s w : State} {m : FabMsg} {n : Nat} (taken : TokenTaken s m n w)
include taken

theorem tokenIn_of_taken (row : Nat) (act : State → Nat → State) : tokenIn m row s act = act w n := by
  unfold tokenIn
  rw [arrive_of_awake taken.reaches taken.awake, if_pos taken.addressed, taken.acked]

/-! Learning tokens (R384) -/

/-- A group whose job the partition does not hold: the token is acknowledged, and that is all. -/
theorem lrTokenIn_of_not_held (unheld : w.lrJob n (Config.lrGroup m.body) = none) (row : Nat) (act : State → Nat → Nat → Nat → State) :
    lrTokenIn m row s act = w := by
  unfold lrTokenIn
  rw [tokenIn_of_taken taken]
  simp only [unheld]

theorem lrTokenIn_of_held {j : Nat} (held : w.lrJob n (Config.lrGroup m.body) = some j) (row : Nat) (act : State → Nat → Nat → Nat → State) :
    lrTokenIn m row s act = act w n j (Config.lrGroup m.body) := by
  unfold lrTokenIn
  rw [tokenIn_of_taken taken]
  simp only [held]

/-! Turn tokens (R407 to R410) -/

/-- A token of another turn than the plan's: acknowledged, and that is all. -/
theorem turnTokenIn_of_other (other : ¬ ((w.turn n).img.length ≠ 0 ∧ Config.turnId m.body = tpId (w.turn n).img)) (row : Nat) (act : State → Nat → State) :
    turnTokenIn m row s act = w := by
  unfold turnTokenIn
  rw [tokenIn_of_taken taken, if_neg other]

theorem turnTokenIn_of_own (own : (w.turn n).img.length ≠ 0 ∧ Config.turnId m.body = tpId (w.turn n).img) (row : Nat) (act : State → Nat → State) :
    turnTokenIn m row s act = act w n := by
  unfold turnTokenIn
  rw [tokenIn_of_taken taken, if_pos own]

end

end Sys2Proof.Proofs
end

section
/-!
PROOFS. Tokens of learning groups: ready tokens, votes, verdicts, queries (R384, R386).
-/
namespace Sys2Proof.Proofs
open Sys2Proof.Machine Sys2Proof.Laws

/-- A ready token that arrives is held, whether it is new or was held before (R384, rule 1). -/
theorem mem_lrTokens_lrReady (s : State) (n j grp tstep attempt m : Nat) :
    (tstep, attempt, m) ∈ ((s.lrReady n j grp tstep attempt m).job n j).lrTokens := by
  unfold State.lrReady
  dsimp only
  split
  case isTrue before => exact List.contains_iff_mem.mp before
  case isFalse =>
    split
    · simp
    · rw [(SameWork.refl _).lrSendNext.job]
      simp

section
variable {s w z : State} {m : FabMsg} {n j t : Nat} (taken : TokenTaken (s.at t) m n w) (held : w.lrJob n (Config.lrGroup m.body) = some j)
include taken held

section
variable (ready : w.lrReady n j (Config.lrGroup m.body) (Config.lrTstep m.body) (Config.lrAttempt m.body) (Config.lrMember m.body) = z)
include ready

/-- With every member's token for the attempt held, the step that waits at its gate starts. -/
theorem execGateToken_of_all_ready {since : Nat} (gate : (z.part n).phase = .gate since) (job : (z.part n).job = j)
    (all : z.lrAllReady n j (Config.lrGroup m.body) = true) : execGateToken m t s = .next (z.passGate n j since) := by
  unfold execGateToken gateTokenIn
  rw [lrTokenIn_of_held taken held]
  simp only [ready, gate, if_pos (And.intro job all)]

theorem execGateToken_of_not_ready (waits : (z.part n).job ≠ j ∨ z.lrAllReady n j (Config.lrGroup m.body) = false) :
    execGateToken m t s = .next z := by
  have wait : ¬ ((z.part n).job = j ∧ z.lrAllReady n j (Config.lrGroup m.body) = true) := by
    rintro ⟨job, all⟩
    rcases waits with other | missing
    · exact other job
    · simp [all] at missing
  unfold execGateToken gateTokenIn
  rw [lrTokenIn_of_held taken held]
  simp only [ready, if_neg wait]
  split <;> rfl

end

section
variable (round : (if Config.lrIsVerdict m.body
    then w.lrVerdictIn n j (Config.lrGroup m.body) (Config.lrTstep m.body) (Config.lrAttempt m.body) (Config.lrMember m.body) (Config.lrValue m.body)
    else w.lrVoteRound n j (Config.lrGroup m.body) (Config.lrTstep m.body) (Config.lrAttempt m.body) (Config.lrValue m.body)) = z)
include round

/-- A verdict known after the round ends the wait of action 1 (R384, rule 6). -/
theorem execVoteRound_of_verdict {since : Nat} {q : Bool} (waits : (z.part n).phase = .verdict since q) (job : (z.part n).job = j)
    (known : (z.job n j).lrVerdict.isSome = true) : execVoteRound m t s = .next (z.finishAttempt n) := by
  unfold execVoteRound voteRoundIn
  rw [lrTokenIn_of_held taken held]
  simp only [round, waits, job, known, true_or, and_self, if_true]

/-- The step of another job waits for no verdict of this one. -/
theorem execVoteRound_of_other_job (other : (z.part n).job ≠ j) : execVoteRound m t s = .next z := by
  unfold execVoteRound voteRoundIn
  rw [lrTokenIn_of_held taken held]
  simp only [round, other, false_and, if_false]
  split <;> rfl

end

theorem execVerdictQuery_of_held : execVerdictQuery m t s =
    .next (w.lrQueryIn n j (Config.lrGroup m.body) (Config.lrTstep m.body) (Config.lrAttempt m.body) (Config.lrMember m.body)) := by
  unfold execVerdictQuery verdictQueryIn
  rw [lrTokenIn_of_held taken held]

end

end Sys2Proof.Proofs
end

section
/-!
PROOFS. Tokens of the turn, its writes and its timers (R399 to R410), and O55.
-/
namespace Sys2Proof.Proofs
open Sys2Proof.Machine Sys2Proof.Laws

/-! The turn after an operation -/

@[simp] theorem turn_onTurn (s : State) (n : Nat) (f : Turn → Turn) (i : Nat) : (s.onTurn n f).turn i = if i = n then f (s.turn n) else s.turn i := getD_put ..
@[simp] theorem turn_onJob (s : State) (n j : Nat) (f : Job → Job) (i : Nat) : (s.onJob n j f).turn i = s.turn i := rfl
@[simp] theorem turn_onPart (s : State) (n : Nat) (f : Part → Part) (i : Nat) : (s.onPart n f).turn i = s.turn i := rfl
@[simp] theorem turn_setNum (s : State) (k v i : Nat) : (s.setNum k v).turn i = s.turn i := rfl
@[simp] theorem job_onPart (s : State) (n : Nat) (f : Part → Part) (m j : Nat) : (s.onPart n f).job m j = s.job m j := rfl
@[simp] theorem job_setNum (s : State) (k v m j : Nat) : (s.setNum k v).job m j = s.job m j := rfl
@[simp] theorem turn_raise (s : State) (code scope : Nat) (d : List Nat) (i : Nat) : (s.raise code scope d).turn i = s.turn i := (SameWork.refl s).raise.turn i

/-- A decision that is remembered changes the turn's history alone (R409). -/
theorem turn_turnRemember (s : State) (n id : Nat) (sw : Bool) : ∃ hist, (s.turnRemember n id sw).turn n = { s.turn n with hist := hist } := by
  unfold State.turnRemember
  rw [turn_onTurn, if_pos rfl]
  split
  · exact ⟨_, rfl⟩
  · exact ⟨_, rfl⟩

/-- A token that is sent joins those that wait for their acknowledgement; the turn's state is as it was. -/
theorem turn_st_turnToken (s : State) (n to_ tok i : Nat) : ((s.turnToken n to_ tok).turn i).st = (s.turn i).st := by
  unfold State.turnToken State.turnTokenFrom State.send
  rw [(SameWork.refl _).sendBy.turn, turn_onTurn]
  split
  case isTrue e => rw [e]
  case isFalse => rfl

/-- The coordinator decides once (R407). -/
theorem turnDecide_of_decided {s : State} {n : Nat} (decided : (s.turn n).decision.isSome = true) (sw : Bool) : s.turnDecide n sw = s := by
  unfold State.turnDecide
  exact if_pos decided

theorem active_of_parked {x : Turn} (parked : x.st = 4) : x.active = true := by simp [Turn.active, parked]

section
variable {s : State} {n : Nat}

/-- SWITCH ends the turn of a member that only sends (R408). -/
theorem turnSwitchIn_of_sender (active : (s.turn n).active = true) (sender : tpRecv (s.turn n).img = false) : ((s.turnSwitchIn n).turn n).st = 5 := by
  simp [State.turnSwitchIn, active, sender]

/-- SWITCH lifts a parked receiver's hold and asks for the switch of its generation job (R408). -/
theorem turnSwitchIn_of_parked (parked : (s.turn n).st = 4) (receiver : tpRecv (s.turn n).img = true) :
    ((s.turnSwitchIn n).turn n).hold = false ∧ ((s.turnSwitchIn n).job n (tpGen (s.turn n).img)).pendSwitch = some (tpSet (s.turn n).img) := by
  simp [State.turnSwitchIn, active_of_parked parked, receiver, parked]

/-- An active member that ABORT reaches fails with that code, and its hold is given up (R410, Table 14-7). -/
theorem turnFail_of_abort (active : (s.turn n).active = true) :
    ((s.turnFail n 2).turn n).st = 6 ∧ ((s.turnFail n 2).turn n).fail = 2 ∧ ((s.turnFail n 2).turn n).hold = false := by
  have same : SameWork (s.onTurn n (fun t => { t with st := 6, fail := 2, hold := false, retry := [] })) (s.turnFail n 2) := by
    unfold State.turnFail
    simp only [active, Bool.not_true, bne_self_eq_false, Bool.false_and, Bool.or_self, Bool.false_eq_true, if_false, if_true]
    exact (SameWork.ite (.refl _) (SameWork.refl _).onWset).bump.raise
  simp [same.turn n]

theorem turnAbortIn_of_active (active : (s.turn n).active = true) :
    ((s.turnAbortIn n).turn n).st = 6 ∧ ((s.turnAbortIn n).turn n).fail = 2 ∧ ((s.turnAbortIn n).turn n).hold = false := by
  obtain ⟨hist, remembered⟩ := turn_turnRemember s n (tpId (s.turn n).img) false
  exact turnFail_of_abort (by rw [remembered]; exact active)

/-- UNPARK lets a parked receiver's job run one slice (R407). -/
theorem turnUnparkIn_of_parked (parked : (s.turn n).st = 4) (receiver : tpRecv (s.turn n).img = true) :
    ((s.turnUnparkIn n).turn n).st = 3 ∧ ((s.turnUnparkIn n).turn n).hold = false ∧ ((s.turnUnparkIn n).job n (tpGen (s.turn n).img)).unparked = true := by
  simp [State.turnUnparkIn, parked, receiver]

theorem turnUnparkIn_of_sender (sender : tpRecv (s.turn n).img = false) : s.turnUnparkIn n = s := by
  simp [State.turnUnparkIn, sender]

/-- A turn that is not armed, or has parked or ended, accepts no write (R401). -/
theorem turnWriteOk_of_not_open (closed : (s.turn n).st = 0 ∨ 4 ≤ (s.turn n).st) (body : List Byte) (len : Nat) : s.turnWriteOk n body len = false := by
  have shut : (decide (1 ≤ (s.turn n).st) && decide ((s.turn n).st ≤ 3)) = false := by
    rw [Bool.and_eq_false_iff, decide_eq_false_iff_not, decide_eq_false_iff_not]
    omega
  simp only [State.turnWriteOk, shut, Bool.false_and]

end

/-! Turn writes (R401) -/

theorem execTurnWrite_of_awake {s : State} {m : FabMsg} {n t : Nat} (reaches : Reaches (s.at t) m n) (awake : (s.at t).stacksActive n = true) :
    execTurnWrite m t s = .next (
      let u := (s.at t).received m n 1
      if !u.addressed n m then u.refuseMsg n m
      else if u.turnWriteOk n m.body m.len then (u.turnLand n (Config.turnShard m.body) (payload m)).ackTo n m 0
      else ((u.ackTo n m 1).bump (E.TURN_BAD_WRITES n)).raise 0xEE06 (scopeP n)) := by
  unfold execTurnWrite turnWriteIn
  rw [arrive_of_awake reaches awake]

/-! The turn's timers -/

section
variable {s : State} {k : Fin 12} {entry t : Nat}

theorem execTurnWriteRetry_of_due (active : ((s.at t).turn k).active = true) (refused : entry ∈ ((s.at t).turn k).retry)
    (unacked : entry ∉ ((s.at t).turn k).acked) (ash : ((s.at t).part k).ash = none) :
    execTurnWriteRetry k entry t s = .next ((s.at t).turnWriteOut k entry) := by
  simp [execTurnWriteRetry, active, refused, unacked, ash]

theorem execTurnWriteRetry_of_not_due
    (quiet : ¬ (((s.at t).turn k).active = true ∧ entry ∈ ((s.at t).turn k).retry ∧ entry ∉ ((s.at t).turn k).acked ∧ ((s.at t).part k).ash = none)) :
    execTurnWriteRetry k entry t s = .next (s.at t) := by
  unfold execTurnWriteRetry
  dsimp only
  rw [if_neg]
  simpa [and_assoc] using quiet

theorem execTurnLimitExpiry_of_due (active : ((s.at t).turn k).active = true)
    (passed : ((s.at t).turn k).armAt + (s.at t).num (E.TURN_LIMIT_NS k) ≤ (s.at t).now) : execTurnLimitExpiry k t s =
      .next ((if tpMember ((s.at t).turn k).img = 0 then (s.at t).turnDecide k false else s.at t).turnFail k 1) := by
  simp only [execTurnLimitExpiry, active, passed, decide_true, Bool.and_self, if_true]

theorem execTurnLimitExpiry_of_not_due
    (quiet : ((s.at t).turn k).active = false ∨ (s.at t).now < ((s.at t).turn k).armAt + (s.at t).num (E.TURN_LIMIT_NS k)) :
    execTurnLimitExpiry k t s = .next (s.at t) := by
  unfold execTurnLimitExpiry
  rcases quiet with ended | early
  · simp only [ended, Bool.false_and, Bool.false_eq_true, if_false]
  · simp only [Nat.not_le.mpr early, decide_false, Bool.and_false, Bool.false_eq_true, if_false]

theorem execTurnTokenResend_of_none (idle : ((s.at t).part k).ash.isSome = true ∨ ((s.at t).turn k).tokens = []) :
    execTurnTokenResend k t s = .next (s.at t) := by
  unfold execTurnTokenResend
  rcases idle with ash | none
  · simp only [ash, if_true]
  · simp only [none, List.filter_nil, forAll, List.foldl_nil, ite_self]

/-- A token whose last sending is 1 ms ago is sent again; it is in flight once. -/
theorem execTurnTokenResend_of_one {c tok to_ : Nat} (ash : ((s.at t).part k).ash = none) (one : ((s.at t).turn k).tokens = [(c, tok, to_)])
    (old : ∀ f ∈ (s.at t).flights, f.2.use = .turnTok c → f.2.part = k.val → f.2.sent + 1000000 ≤ (s.at t).now) :
    let s2 : State := { s.at t with flights := (s.at t).flights.filter (fun f => !(f.2.use == Use.turnTok c && f.2.part == k.val)) }
    execTurnTokenResend k t s = .next (s2.send []
      (s2.turnMsg k to_ 7 (Config.turnBody tok (tpId ((s.at t).turn k).img) (tpMember ((s.at t).turn k).img) 0) []) (.turnTok c)) := by
  have due : (s.at t).flights.all (fun f => !(f.2.use == Use.turnTok c && f.2.part == k.val && decide ((s.at t).now < f.2.sent + 1000000))) = true := by
    rw [List.all_eq_true]
    intro f hf
    simp only [Bool.not_eq_true', Bool.and_eq_false_imp, Bool.and_eq_true, beq_iff_eq, decide_eq_false_iff_not, Nat.not_lt]
    exact fun mine => old f hf mine.1 mine.2
  unfold execTurnTokenResend
  simp only [ash, one, due, Option.isSome_none, Bool.false_eq_true, if_false, List.filter_cons, List.filter_nil, if_true]
  rfl

theorem execTurnParkExpiry_of_not_parked (receiver : tpMember ((s.at t).turn k).img ≠ 0)
    (quiet : ((s.at t).turn k).st ≠ 4 ∨ ((s.at t).turn k).decision.isSome = true ∨ ((s.at t).turn k).hold = false) :
    execTurnParkExpiry k t s = .next (s.at t) := by
  unfold execTurnParkExpiry
  simp only [receiver, false_and, if_false]
  rw [if_neg]
  rintro ⟨parked, undecided, holds, -⟩
  rcases quiet with other | decided | lifted
  · exact other parked
  · simp [Option.isNone_iff_eq_none.mp undecided] at decided
  · simp [lifted] at holds

/-- A parked receiver that knows no decision after TURN_PARK_NS asks the next member (R409). -/
theorem execTurnParkExpiry_of_parked {p : Nat} (receiver : tpMember ((s.at t).turn k).img ≠ 0) (parked : ((s.at t).turn k).st = 4)
    (undecided : ((s.at t).turn k).decision = none) (holds : ((s.at t).turn k).hold = true) (since : ((s.at t).turn k).ownPark = some p)
    (passed : p + (s.at t).num (E.TURN_PARK_NS k) ≤ (s.at t).now) :
    execTurnParkExpiry k t s = .next (((s.at t).turnToken k ((tpMember ((s.at t).turn k).img + 1) % max 1 (tpMembers ((s.at t).turn k).img)) tkQuery).onTurn k
      (fun x => { x with ownPark := some (s.at t).now })) := by
  simp [execTurnParkExpiry, receiver, parked, undecided, holds, since, passed]

/-- The coordinator to which not every receiver has reported within TURN_PARK_NS sends them UNPARK (R407). -/
theorem execTurnParkExpiry_of_coordinator {p : Nat} (coordinator : tpMember ((s.at t).turn k).img = 0) (undecided : ((s.at t).turn k).decision = none)
    (since : ((s.at t).turn k).parkAt = some p) (passed : p + (s.at t).num (E.TURN_PARK_NS k) ≤ (s.at t).now) (unparked : ((s.at t).turn k).st ≠ 4) :
    execTurnParkExpiry k t s = .next (forAll (tpReceivers ((s.at t).turn k).img) (fun r s => s.turnToken k r tkUnpark)
      (((s.at t).onTurn k (fun x => { x with parked := [], parkAt := none })).raise 0xEE05 (scopeP k))) := by
  have stays : ((forAll (tpReceivers ((s.at t).turn k).img) (fun r s => s.turnToken k r tkUnpark)
      (((s.at t).onTurn k (fun x => { x with parked := [], parkAt := none })).raise 0xEE05 (scopeP k))).turn k).st ≠ 4 :=
    forAll_invariant (P := fun u => (u.turn k).st ≠ 4) (fun r u kept => by rwa [turn_st_turnToken]) (by simpa using unparked)
  unfold execTurnParkExpiry
  simp only [coordinator, undecided, since, passed, Option.isNone_none, Option.any_some, decide_true, and_self, if_true, stays, false_and, if_false]

end

/-- Settles O55: a token goes to its group's job or its turn, or is acknowledged alone; then one lemma for what each token, write and timer does. -/
theorem tokensAndTurns : Obligations.TokensAndTurns := by
  unfold Obligations.TokensAndTurns
  intro s m n k entry time
  refine ⟨?tokens, ?writes, ?timers⟩
  case tokens =>
    intro reaches awake addressed
    have taken : TokenTaken (s.at time) m n _ := ⟨reaches, awake, addressed, rfl⟩
    refine ⟨fun unheld => ?_, fun j held => ⟨⟨?_, ?_, ?_⟩, ⟨?_, ?_⟩, ?_⟩, ⟨fun other => ?_, fun own => ?_⟩, ?_⟩
    · have drops {row : Nat} {act : State → Nat → Nat → Nat → State} :=
        congrArg (Host.Outcome.next (φ := Fault) (ρ := Refusal)) (lrTokenIn_of_not_held taken unheld row act)
      simp only [List.forall_mem_cons, List.not_mem_nil, false_implies, implies_true, and_true]
      exact ⟨(exec_gateToken m time s).trans drops, (exec_voteRound m time s).trans drops, (exec_verdictQuery m time s).trans drops⟩
    · exact mem_lrTokens_lrReady ..
    · exact fun since gate job all => execGateToken_of_all_ready taken held rfl gate job all
    · exact execGateToken_of_not_ready taken held rfl
    · exact fun since q waits job known => execVoteRound_of_verdict taken held rfl waits job known
    · exact execVoteRound_of_other_job taken held rfl
    · exact execVerdictQuery_of_held taken held
    · have drops {row : Nat} {act : State → Nat → State} :=
        congrArg (Host.Outcome.next (φ := Fault) (ρ := Refusal)) (turnTokenIn_of_other taken other row act)
      simp only [List.forall_mem_cons, List.not_mem_nil, false_implies, implies_true, and_true]
      exact ⟨(exec_turnFinal m time s).trans drops, (exec_turnParked m time s).trans drops, (exec_turnFail m time s).trans drops,
        (exec_turnSwitch m time s).trans drops, (exec_turnAbort m time s).trans drops, (exec_turnUnpark m time s).trans drops⟩
    · have acts {row : Nat} {act : State → Nat → State} :=
        congrArg (Host.Outcome.next (φ := Fault) (ρ := Refusal)) (turnTokenIn_of_own taken own row act)
      have fails := (exec_turnFail m time s).trans acts
      have switches := (exec_turnSwitch m time s).trans acts
      have unparks := (exec_turnUnpark m time s).trans acts
      refine ⟨(exec_turnFinal m time s).trans acts, (exec_turnParked m time s).trans acts, fun member => fails.trans (congrArg _ (if_neg member)),
        fun coordinator => fails.trans (congrArg _ (if_pos coordinator)), turnDecide_of_decided,
        fun active sender => ⟨_, switches, turnSwitchIn_of_sender active sender⟩,
        fun parked receiver => ⟨_, switches, turnSwitchIn_of_parked parked receiver⟩,
        fun active => ⟨_, (exec_turnAbort m time s).trans acts, turnAbortIn_of_active active⟩,
        fun parked receiver => ⟨_, unparks, turnUnparkIn_of_parked parked receiver⟩,
        fun sender => unparks.trans (congrArg _ (turnUnparkIn_of_sender sender))⟩
    · exact (exec_turnQuery m time s).trans (congrArg _ (tokenIn_of_taken taken 19 _))
  case writes =>
    intro reaches awake
    have written := (exec_turnWrite m time s).trans (execTurnWrite_of_awake reaches awake)
    refine ⟨fun stranger => ?_, fun addressed accepted => ?_, fun addressed refused => ?_, fun closed => turnWriteOk_of_not_open closed ..⟩
    · simp only [written, stranger, Bool.not_false, if_true]
    · simp only [written, addressed, accepted, Bool.not_true, Bool.false_eq_true, if_false, if_true]
    · simp only [written, addressed, refused, Bool.not_true, Bool.false_eq_true, if_false]
  case timers =>
    simp only [exec_turnWriteRetry, exec_turnLimitExpiry, exec_turnTokenResend, exec_turnParkExpiry]
    exact ⟨fun ⟨active, refused, unacked, ash⟩ => execTurnWriteRetry_of_due active refused unacked ash, execTurnWriteRetry_of_not_due,
      execTurnLimitExpiry_of_due, execTurnLimitExpiry_of_not_due, execTurnTokenResend_of_none, fun _ _ _ => execTurnTokenResend_of_one,
      execTurnParkExpiry_of_not_parked, fun _ => execTurnParkExpiry_of_parked, fun _ => execTurnParkExpiry_of_coordinator⟩

end Sys2Proof.Proofs
end

section
/-!
PROOFS. One step of the block: what runs, what an empty queue does, which command can stop the machine, and the invariant every step keeps.
-/
namespace Sys2Proof.Proofs
open Sys2Proof.Machine Sys2Proof.Laws

theorem step_of_empty {s : State} (empty : s.pending = []) : step s = .next s.idleTick := by
  simp only [step, empty]

theorem step_of_cons {s : State} {c : Instr} {rest : List Instr} (queue : s.pending = c :: rest) : step s = exec c { s with pending := rest } := by
  simp only [step, queue]

/-- Settles O1. -/
theorem stepRunsTheFrontCommand : Obligations.StepRunsTheFrontCommand := by
  unfold Obligations.StepRunsTheFrontCommand
  exact fun _ _ _ => step_of_cons rfl

/-- Settles O2. -/
theorem emptyQueueTicks : Obligations.EmptyQueueTicks := by
  unfold Obligations.EmptyQueueTicks
  exact fun _ => step_of_empty

/-- Settles O4: a memory that lists no cell is in canonical form. -/
theorem resetMemoryIsCanonical : Obligations.ResetMemoryIsCanonical := by
  unfold Obligations.ResetMemoryIsCanonical State.canonical
  rfl

/-- Settles O5: an idle step touches neither queue nor memory, and each command keeps both on the state from whose queue it was taken. -/
theorem stepKeepsTheMemoryForm : Obligations.StepKeepsTheMemoryForm := by
  unfold Obligations.StepKeepsTheMemoryForm
  intro s t canonical runs
  cases queue : s.pending with
  | nil =>
    rw [step_of_empty queue] at runs
    cases runs
    exact ⟨canonical, queue⟩
  | cons c rest =>
    rw [step_of_cons queue] at runs
    obtain ⟨pending, wf⟩ := keeps_exec c { s with pending := rest } t runs
    exact ⟨wf canonical, pending⟩

/-- Within the absolute maximum the input is judged, whatever follows; beyond it the command faults (log 172). -/
theorem execInputOutOfRange_answers (mv t : Nat) (s : State) :
    (∃ u, execInputOutOfRange mv t s = .next u) ∨ (execInputOutOfRange mv t s = .fault .beyondAbsoluteMaximum ∧ 60000 < mv) := by
  unfold execInputOutOfRange
  by_cases beyond : 60000 < mv
  · exact .inr ⟨if_pos beyond, beyond⟩
  · exact .inl ⟨_, if_neg beyond⟩

/-- Settles O6: every other arm of the dispatch is the next state of its meaning. -/
theorem onlyInputBeyondMaximumStops : Obligations.OnlyInputBeyondMaximumStops := by
  unfold Obligations.OnlyInputBeyondMaximumStops
  intro c s
  cases c
  case inputOutOfRange mv t =>
    rw [exec_inputOutOfRange]
    exact (execInputOutOfRange_answers mv t s).imp_right fun ⟨faults, beyond⟩ => ⟨faults, mv, t, rfl, beyond⟩
  all_goals exact .inl ⟨_, rfl⟩

end Sys2Proof.Proofs
end

section
/-!
PROOFS. Comparators and watches (R633).
-/
namespace Sys2Proof.Proofs
open Sys2Proof.Machine Sys2Proof.Laws

/-- Changes that are none of them due leave the state as it is. -/
theorem forAll_eq_self {α : Type} {l : List α} {f : α → State → State} {s : State} (none : ∀ x ∈ l, f x s = s) : forAll l f s = s := by
  unfold forAll
  induction l with
  | nil => rfl
  | cons x r ih =>
    rw [List.foldl_cons, none x (List.mem_cons_self ..)]
    exact ih fun y hy => none y (List.mem_cons_of_mem _ hy)

/-- What changes no hearth but for its trace is what the statements call so. -/
theorem onlyTraces_of_traceOnly {s t : State} (h : TraceOnly s t) : OnlyTraces s t :=
  ⟨h.hearth, h.mem, h.bad, h.ricks, h.jobs, h.remap, h.now, h.free, h.pending⟩

section
variable {s : State} {n l : Nat} (disabled : ∀ i < 10, (fld (s.bpRec n l) (8 * i) 8).testBit 63 = false)
include disabled

theorem compare_of_disabled (pc : Nat) : s.compare n l pc = s := by
  unfold State.compare
  refine forAll_eq_self fun i hi => ?_
  have off := disabled i (by have := List.mem_range.mp hi; omega)
  simp only [off, Bool.false_and, Bool.false_eq_true, if_false]

theorem watch_of_disabled (mode a len : Nat) : s.watch n l mode a len = s := by
  unfold State.watch
  refine forAll_eq_self fun i hi => ?_
  have off := disabled i (by simp only [List.mem_cons, List.not_mem_nil, or_false] at hi; omega)
  simp only [off, Bool.false_and, Bool.false_eq_true, if_false]

end

/-- Settles O20: a hit leaves records, triggers and halts alone behind, and a comparator without its enable bit never hits. -/
theorem comparatorsChangeNoRegister : Obligations.ComparatorsChangeNoRegister := by
  unfold Obligations.ComparatorsChangeNoRegister
  intro s n l pc mode a len
  exact ⟨onlyTraces_of_traceOnly (traceOnly_compare s n l pc), onlyTraces_of_traceOnly (traceOnly_watch s n l mode a len),
    fun disabled => ⟨compare_of_disabled disabled pc, watch_of_disabled disabled mode a len⟩⟩

end Sys2Proof.Proofs
end

section
/-!
PROOFS. Messages of a session (R471) and the gate every request passes (R473, R478 to R482). O41, O42.
-/
namespace Sys2Proof.Proofs
open Sys2Proof.Machine Sys2Proof.Laws

/-- Every row that is a request runs its own effect behind the one gate. -/
theorem exec_of_requestOf {c : Instr} {r : Rq} {op key : Nat} (row : requestOf c = some (r, op, key)) :
    ∃ run, ∀ s, exec c s = .next (s.request r op key run) := by
  cases c <;> cases row <;> exact ⟨_, fun _ => rfl⟩

/-! A message arrives -/

section
variable {s : State} {ses seq : Nat} {ok : Bool}

/-- A message that names no live session receives REJECT with SESSION. -/
theorem accept_of_not_live (dead : ∀ x, Tab.look s.sessions ses = some x → x.live = false) : s.accept ses seq ok = (s.reject ses sessionErr, none) := by
  unfold State.accept
  cases found : Tab.look s.sessions ses with
  | none => rfl
  | some x => exact if_pos (dead x found)

/-- A message of a live session with a bad tag, an old SEQ or a repeated one is counted and dropped. -/
theorem accept_of_dropped {x : Session} (found : Tab.look s.sessions ses = some x) (live : x.live = true)
    (bad : ok = false ∨ seq + 1024 ≤ x.top ∨ seq ∈ x.seen) : s.accept ses seq ok = (s.bump E.DOLLI_DROPS, none) := by
  unfold State.accept
  simp only [found, live, Bool.true_eq_false, if_false, if_pos bad]

/-- A message that is not dropped leaves its session in the table as accepted. -/
theorem look_of_accepted {x : Session} (accepted : (s.accept ses seq ok).2 = some x) : Tab.look (s.accept ses seq ok).1.sessions ses = some x := by
  unfold State.accept at accepted ⊢
  split at accepted
  · cases accepted
  · split at accepted
    · cases accepted
    · split at accepted
      · cases accepted
      · next notLive notDropped =>
        rw [if_neg notLive, if_neg notDropped]
        exact (look_put ..).trans ((if_pos rfl).trans accepted)

end

/-- A message that is not accepted leaves the state in which its arrival ended, whatever its row. -/
theorem exec_of_not_accepted {c : Instr} {r : Rq} {s t : State} (row : messageOf c = some r) (turned : (s.at r.t).accept r.ses r.seq r.ok = (t, none)) :
    exec c s = .next t := by
  have request {c : Instr} (row : (requestOf c).map (fun x => x.1) = some r) : exec c s = .next t := by
    obtain ⟨⟨r', op, key⟩, isRequest, rfl⟩ := Option.map_eq_some_iff.mp row
    obtain ⟨run, runs⟩ := exec_of_requestOf isRequest
    rw [runs, State.request, turned]
  unfold messageOf at row
  split at row
  · cases row; rw [exec_dolliClose, execDolliClose, turned]
  · cases row; rw [exec_notifyAck, execNotifyAck, turned]
  · exact request row

/-- Settles O41: the arrival of a message is the same for every row, and an unaccepted one goes no further. -/
theorem messagesDroppedOrRejected : Obligations.MessagesDroppedOrRejected := by
  unfold Obligations.MessagesDroppedOrRejected
  intro c r s row
  refine ⟨fun dead => exec_of_not_accepted row (accept_of_not_live dead), fun x found live bad => ⟨?_, ?_⟩⟩
  · exact exec_of_not_accepted row (accept_of_dropped found live bad)
  · rw [bump_replies, at_replies]

/-! The gate -/

section
variable {s : State} {r : Rq} {op key : Nat} {x : Session} (accepted : ((s.at r.t).accept r.ses r.seq r.ok).2 = some x)
  (run : Session → State → State × Option Ans)
include accepted

theorem accept_eq_arrived : (s.at r.t).accept r.ses r.seq r.ok = (s.arrived r, some x) := Prod.ext rfl accepted

/-- A REQ_ID among the kept responses receives that response again. -/
theorem request_of_kept {k : Nat × Reply} (kept : x.kept.find? (fun k => k.1 == r.id) = some k) :
    s.request r op key run = { s.arrived r with replies := (s.arrived r).replies ++ [k.2] } := by
  simp only [State.request, accept_eq_arrived accepted, kept, State.say]

section
variable (fresh : x.kept.find? (fun k => k.1 == r.id) = none)
include fresh

theorem request_of_waiting (waits : (s.arrived r).waits.any (fun w => w.ses == r.ses && w.id == r.id) = true) :
    s.request r op key run = s.arrived r := by
  simp only [State.request, accept_eq_arrived accepted, fresh, waits, if_true]

section
variable (alone : (s.arrived r).waits.any (fun w => w.ses == r.ses && w.id == r.id) = false)
include alone

theorem request_of_overload (full : 64 ≤ (s.arrived r).unanswered r.ses) :
    s.request r op key run = (s.arrived r).turnedAway r op key overload := by
  simp only [State.request, accept_eq_arrived accepted, fresh, alone, Bool.false_eq_true, if_false, if_pos full, State.turnedAway]

theorem request_of_forbidden (room : (s.arrived r).unanswered r.ses < 64) (entry : op ≠ opStore ∨ key ≠ 0xFFFFFF)
    (forbidden : (s.arrived r).permit x op key ≠ 0) :
    s.request r op key run = (s.arrived r).turnedAway r op key ((s.arrived r).permit x op key) := by
  have notAll : ¬ (op = opStore ∧ key = 0xFFFFFF) := fun ⟨store, all⟩ => entry.elim (· store) (· all)
  simp only [State.request, accept_eq_arrived accepted, fresh, alone, Bool.false_eq_true, if_false, Nat.not_le.mpr room, if_neg notAll, if_pos forbidden,
    State.turnedAway]

end

end

/-- What a request that is turned away leaves: its response, sent and kept among the session's last 64. -/
theorem turnedAway_eq (code : Nat) :
    let m : Reply := { ses := r.ses, kind := 0x11, op := op, status := code, ty := tyOf key, key := key, id := r.id }
    (s.arrived r).turnedAway r op key code = { s.arrived r with
      replies := (s.arrived r).replies ++ [m], sessions := (s.arrived r).sessions.put r.ses { x with kept := pushCap 64 x.kept (r.id, m) } } := by
  have found : Tab.look (s.arrived r).sessions r.ses = some x := look_of_accepted accepted
  simp only [State.turnedAway, State.respond, found, Option.isNone_some, Bool.false_eq_true, if_false, State.say, State.onSession]

end

/-- Settles O42: each way out of the gate before the row's own effect, and what a response that refuses leaves. -/
theorem requestGate : Obligations.RequestGate := by
  unfold Obligations.RequestGate
  intro c r op key s x row accepted
  obtain ⟨run, runs⟩ := exec_of_requestOf row
  simp only [runs]
  refine ⟨fun k kept => ?_, fun fresh waits => ?_, fun fresh alone full => ?_, fun fresh alone room entry forbidden => ?_, turnedAway_eq accepted⟩
  · rw [request_of_kept accepted run kept]
  · rw [request_of_waiting accepted run fresh waits]
  · rw [request_of_overload accepted run fresh alone full]; rfl
  · rw [request_of_forbidden accepted run fresh alone room entry forbidden]

end Sys2Proof.Proofs
end

section
/-!
PROOFS. Writes of credentials, tenant slots, set keys, consent, masks, bindings, clock, budget and kindling. O46.
-/
namespace Sys2Proof.Proofs
open Sys2Proof.Machine Sys2Proof.Laws

section
variable {s : State} {n t : Nat} {v : List Byte}

/-! Credentials (R495 to R497) -/

theorem opCredAdd_of_known (known : ∃ c ∈ s.opCreds, crId c = crId v) : s.opCredAdd v = (s, invalid) := by
  have taken : s.opCreds.any (fun c => crId c == crId v) = true := by simpa using known
  simp only [State.opCredAdd, taken, Bool.or_true, if_true]

theorem opCredRemove_of_owner (owner : leNat v = 0) : s.opCredRemove v = (s, invalid) := by
  simp only [State.opCredRemove, owner, true_or, if_true]

/-- The last ROLE 2 credential of a slot stays. -/
theorem credRemove_of_last (last : ∀ c ∈ s.slotCreds t, crId c ≠ leNat v → crRole c ≠ 2) : s.credRemove t v = (s, invalid) := by
  have noneLeft : ((s.slotCreds t).filter (fun c => crId c != leNat v)).any (fun c => crRole c == 2) = false := by
    simpa [List.any_eq_false] using last
  unfold State.credRemove
  dsimp only
  split
  · rfl
  · rw [noneLeft]; rfl

/-! Tenants (R498) -/

theorem tenantIdWrite_of_bound (bound : ∃ m < 12, s.num (E.PART_TENANT m) = t) (size : v.length = 16) : s.tenantIdWrite t v = (s, busy) := by
  have taken : (List.range 12).any (fun n => s.num (E.PART_TENANT n) == t) = true := by simpa using bound
  simp only [State.tenantIdWrite, size, ne_eq, not_true_eq_false, if_false, taken, if_true]

theorem partTenantWrite_of_bound (bound : s.num (E.PART_TENANT n) ≠ 0xFF) : s.partTenantWrite n v = (s, busy) := by
  simp only [State.partTenantWrite, ne_eq, bound, not_false_eq_true, true_or, if_true]

/-! Consent (R504) -/

theorem consentWrite_of_unknown_bits (unknown : 32 ≤ leNat v) : s.consentWrite n v = (s, invalid) := by
  rw [State.consentWrite, if_pos unknown]

/-- While a step runs CONSENT alone changes; what it makes effective waits for the boundary. -/
theorem consentWrite_of_running (fits : leNat v < 32) (running : (s.part n).phase = .running) (going : s.haltedNow n = false) :
    s.consentWrite n v = (s.setNum (E.CONSENT n) (leNat v), 0) := by
  have waits : (s.setNum (E.CONSENT n) (leNat v)).consentSoon n = s.setNum (E.CONSENT n) (leNat v) := if_pos ⟨running, going⟩
  rw [State.consentWrite, if_neg (Nat.not_le.mpr fits), waits]

/-! Masks and clocks (R65, R534, R548) -/

theorem rickMaskWrite_of_wide (wide : 4096 ≤ leNat v) : s.rickMaskWrite n v = (s, invalid) := by
  simp only [State.rickMaskWrite, if_pos wide]

theorem partClock_of_no_frequency (outside : leNat v < 500 ∨ 1100 < leNat v ∨ leNat v % 25 ≠ 0) : s.partClock n v = (s, invalid) := by
  have refused : leNat v < 500 ∨ 1100 < leNat v ∨ leNat v % 25 ≠ 0 ∨ leNat v < s.floorClock n := outside.imp_right (Or.imp_right .inl)
  simp only [State.partClock, if_pos refused]

end

/-- Settles O46: every row is a WRITE with a body of its own behind the check of type and range; the refusals are the first checks of those bodies. -/
theorem tenancyWrites : Obligations.TenancyWrites := by
  unfold Obligations.TenancyWrites
  intro s r n ts v x s1
  refine ⟨?rows, opCredAdd_of_known, opCredRemove_of_owner, credRemove_of_last, tenantIdWrite_of_bound, partTenantWrite_of_bound,
    consentWrite_of_unknown_bits, consentWrite_of_running, rickMaskWrite_of_wide, partClock_of_no_frequency⟩
  simp only [List.forall_mem_cons, List.not_mem_nil, false_implies, implies_true, and_true]
  have write {key : Nat} {f : Session → State → State × Nat} (adm : Admitted s r opWrite key x) := next_write_of_admitted (v := v) (f := f) adm
  exact ⟨write, write, write, write, write, write, write, write, write, write, write, write, write⟩

end Sys2Proof.Proofs
end

section
/-!
PROOFS. Views of the state that events, wakes and traffic leave as they are: a view is a function of the state, and it is enough to say which fields it does
not look at.
-/
namespace Sys2Proof.Proofs
open Sys2Proof.Machine Sys2Proof.Laws

/-- A view of which the entries, the subscriptions and the events are no part. -/
structure BesideEvents {α : Type} (φ : State → α) : Prop where
  same : ∀ (s : State) (dict : Tab DVal) (sessions : Tab Session) (events persisted : List Ev) (partEvents : Tab (List Ev)),
    φ { s with dict := dict, sessions := sessions, events := events, persisted := persisted, partEvents := partEvents } = φ s

/-- A view of which nothing is a part that a wake changes: entries, ricks, yields of jobs, ports, and what a partition remembers of its trigger. -/
structure BesideWakes {α : Type} (φ : State → α) : Prop extends BesideEvents φ where
  power : ∀ (s : State) (ricks : Tab Rick) (jobs : Tab Job) (eports : Tab EPort), φ { s with ricks := ricks, jobs := jobs, eports := eports } = φ s
  trigger : ∀ (s : State) (n : Nat) (tr : Option (Nat × Nat × Nat)) (first : Option Nat) (deferred : Bool),
    φ (s.onPart n (fun p => { p with trigger := tr, firstStep := first, wakeDeferred := deferred })) = φ s

theorem forAll_same {α β : Type} {φ : State → β} {l : List α} {f : α → State → State} (same : ∀ x s, φ (f x s) = φ s) (s : State) :
    φ (forAll l f s) = φ s :=
  forAll_invariant (P := fun t => φ t = φ s) (fun x t h => (same x t).trans h) rfl

theorem raise_eq (s : State) (code scope : Nat) (detail : List Nat) : ∃ dict sessions events persisted partEvents,
    s.raise code scope detail = { s with dict := dict, sessions := sessions, events := events, persisted := persisted, partEvents := partEvents } := by
  unfold State.raise
  dsimp only
  split <;> exact ⟨_, _, _, _, _, rfl⟩

theorem ite_same {α : Type} {φ : State → α} {c : Prop} [Decidable c] {s t : State} {v : α} (yes : φ s = v) (no : φ t = v) :
    φ (if c then s else t) = v := by
  split <;> assumption

/-- A view of which nothing is a part that messages, turns and sessions change either. -/
structure BesideTraffic {α : Type} (φ : State → α) : Prop extends BesideWakes φ where
  traffic : ∀ (s : State) (parts : Tab Part) (sent : List Msg) (msgid : Nat) (flights : Tab Flight) (conns : Tab Conn) (fports : Tab FPort) (turns : Tab Turn)
    (wsets : Tab WSet), φ { s with parts := parts, sent := sent, msgid := msgid, flights := flights, conns := conns, fports := fports, turns := turns, wsets := wsets } = φ s
  dolli : ∀ (s : State) (sessions : Tab Session) (replies : List Reply) (waits : List Waiting) (held : Tab (List Held)),
    φ { s with sessions := sessions, replies := replies, waits := waits, held := held } = φ s

namespace BesideEvents

variable {α : Type} {φ : State → α} (q : BesideEvents φ) {s : State}
include q

theorem setVal (k : Nat) (v : DVal) : φ (s.setVal k v) = φ s := q.same s _ _ s.events s.persisted s.partEvents
theorem setNum (k v : Nat) : φ (s.setNum k v) = φ s := q.setVal ..
theorem setBlob (k : Nat) (b : List Byte) : φ (s.setBlob k b) = φ s := q.setVal ..
theorem bumpBy (k w d : Nat) : φ (s.bumpBy k w d) = φ s := q.setVal ..
theorem bump (k : Nat) : φ (s.bump k) = φ s := q.setVal ..

theorem raise (code scope : Nat) (detail : List Nat) : φ (s.raise code scope detail) = φ s := by
  obtain ⟨_, _, _, _, _, e⟩ := raise_eq s code scope detail
  rw [e, q.same]

end BesideEvents

@[simp] theorem raise_part (s : State) (code scope : Nat) (detail : List Nat) (i : Nat) : (s.raise code scope detail).part i = s.part i :=
  BesideEvents.raise (φ := fun s => s.part i) ⟨fun _ _ _ _ _ _ => rfl⟩ ..
@[simp] theorem raise_rick (s : State) (code scope : Nat) (detail : List Nat) (i : Nat) : (s.raise code scope detail).rick i = s.rick i :=
  BesideEvents.raise (φ := fun s => s.rick i) ⟨fun _ _ _ _ _ _ => rfl⟩ ..
@[simp] theorem raise_fport (s : State) (code scope : Nat) (detail : List Nat) (i : Nat) : (s.raise code scope detail).fport i = s.fport i :=
  BesideEvents.raise (φ := fun s => s.fport i) ⟨fun _ _ _ _ _ _ => rfl⟩ ..
@[simp] theorem raise_now (s : State) (code scope : Nat) (detail : List Nat) : (s.raise code scope detail).now = s.now :=
  BesideEvents.raise (φ := State.now) ⟨fun _ _ _ _ _ _ => rfl⟩ ..

/-- A view that the steps of a wake leave alone: ricks, yields, parked ports, the trigger. -/
theorem wakePart_view {α : Type} {φ : State → α} (onRick : ∀ (s : State) k f, φ (s.onRick k f) = φ s) (onJob : ∀ (s : State) n j f, φ (s.onJob n j f) = φ s)
    (unpark : ∀ s : State, φ s.unparkPorts = φ s)
    (trigger : ∀ (s : State) (n : Nat) (tr : Option (Nat × Nat × Nat)) (first : Option Nat) (deferred : Bool),
      φ (s.onPart n (fun p => { p with trigger := tr, firstStep := first, wakeDeferred := deferred })) = φ s)
    (s : State) (n cls : Nat) : φ (s.wakePart n cls) = φ s := by
  have waitWake (s : State) (n : Nat) : φ (s.waitWake n) = φ s := forAll_same (fun _ _ => onRick ..) s
  have unyield (s : State) (n : Nat) : φ (s.unyield n) = φ s := forAll_same (fun _ _ => onJob ..) s
  have wakeLight (s : State) (n cls : Nat) : φ (s.wakeLight n cls) = φ s := forAll_same (fun _ _ => ite_same (onRick ..) (onRick ..)) s
  have again (s : State) (tr : Option (Nat × Nat × Nat)) (first : Option Nat) : φ (s.onPart n (fun p => { p with trigger := tr, firstStep := first })) = φ s :=
    trigger s n tr first (s.part n).wakeDeferred
  unfold State.wakePart
  dsimp only
  split
  · rfl
  · split
    · split <;> split <;> simp only [waitWake, again, unyield]
    · simp only [apply_ite φ, wakeLight, waitWake, trigger, ite_self]
      split <;> split <;> simp only [unpark, unyield]

namespace BesideWakes

variable {α : Type} {φ : State → α} (q : BesideWakes φ) {s : State}
include q

theorem onRick (k : Nat) (f : Rick → Rick) : φ (s.onRick k f) = φ s := q.power s _ s.jobs s.eports
theorem onJob (n j : Nat) (f : Job → Job) : φ (s.onJob n j f) = φ s := q.power s s.ricks _ s.eports
theorem onEport (e : Nat) (f : EPort → EPort) : φ (s.onEport e f) = φ s := q.power s s.ricks s.jobs _

theorem startWake (k : Nat) : φ (s.startWake k) = φ s := q.onRick ..

theorem unparkPorts : φ s.unparkPorts = φ s :=
  (forAll_same (fun _ _ => (q.onEport ..).trans (q.setNum ..)) _).trans (q.setNum ..)

theorem waitWake (n : Nat) : φ (s.waitWake n) = φ s := forAll_same (fun _ _ => q.onRick ..) s

theorem wakePart (n cls : Nat) : φ (s.wakePart n cls) = φ s := wakePart_view (fun _ => q.onRick) (fun _ => q.onJob) (fun _ => q.unparkPorts) q.trigger s n cls

theorem rechoose : φ s.rechoose = φ s := forAll_same (fun _ _ => ite_same (q.wakePart ..) rfl) s

end BesideWakes

namespace BesideTraffic

variable {α : Type} {φ : State → α} (q : BesideTraffic φ) {s : State}
include q

theorem onPart (n : Nat) (f : Part → Part) : φ (s.onPart n f) = φ s := q.traffic s _ s.sent s.msgid s.flights s.conns s.fports s.turns s.wsets
theorem onConn (n c : Nat) (f : Conn → Conn) : φ (s.onConn n c f) = φ s := q.traffic s s.parts s.sent s.msgid s.flights _ s.fports s.turns s.wsets
theorem onFport (p : Nat) (f : FPort → FPort) : φ (s.onFport p f) = φ s := q.traffic s s.parts s.sent s.msgid s.flights s.conns _ s.turns s.wsets
theorem onTurn (n : Nat) (f : Turn → Turn) : φ (s.onTurn n f) = φ s := q.traffic s s.parts s.sent s.msgid s.flights s.conns s.fports _ s.wsets
theorem onWset (n w : Nat) (f : WSet → WSet) : φ (s.onWset n w f) = φ s := q.traffic s s.parts s.sent s.msgid s.flights s.conns s.fports s.turns _

/-! Records and messages -/

theorem countLoss (n d : Nat) : φ (s.countLoss n d) = φ s := by
  unfold State.countLoss
  have counted : φ ((s.bumpBy (E.TRACE_LOST n) 64 d).onPart n (fun p => { p with lossEvent := true, perfLost := p.perfLost + d })) = φ s :=
    (q.onPart ..).trans (q.bumpBy ..)
  exact ite_same rfl (ite_same counted ((q.raise ..).trans counted))

theorem nicRecord (n k typ kind peer msgid : Nat) : φ (s.nicRecord n k typ kind peer msgid) = φ s := by
  unfold State.nicRecord
  exact ite_same ((q.countLoss ..).trans (q.onRick ..)) rfl

theorem sendBy (slots : List Nat) (m : Msg) (use : Option Use) : φ (s.sendBy slots m use) = φ s := by
  unfold State.sendBy
  dsimp only
  have queued (sent msgid flights) : φ { s with sent := sent, msgid := msgid, flights := flights } = φ s := q.traffic s s.parts sent msgid flights s.conns s.fports s.turns s.wsets
  cases use with
  | none => exact ite_same (queued ..) (ite_same ((q.nicRecord ..).trans ((q.onFport ..).trans (queued ..))) ((q.nicRecord ..).trans ((q.onConn ..).trans (queued ..))))
  | some u => exact ite_same (queued ..) (ite_same ((q.nicRecord ..).trans ((q.onFport ..).trans (queued ..))) ((q.nicRecord ..).trans ((q.onConn ..).trans (queued ..))))

/-! Turns -/

theorem turnToken (n to_ tok : Nat) : φ (s.turnToken n to_ tok) = φ s := by
  unfold State.turnToken State.turnTokenFrom State.send
  exact (q.sendBy ..).trans (q.onTurn ..)

theorem turnDecide (n : Nat) (sw : Bool) : φ (s.turnDecide n sw) = φ s := by
  unfold State.turnDecide
  exact ite_same rfl ((forAll_same (fun _ _ => q.turnToken ..) _).trans ((q.onTurn ..).trans (q.onTurn ..)))

theorem turnFail (n code : Nat) : φ (s.turnFail n code) = φ s := by
  unfold State.turnFail
  dsimp only
  refine ite_same rfl ?_
  generalize failed : State.raise _ 0xEE04 _ = t
  have same : φ t = φ s := by
    rw [← failed]
    exact (q.raise ..).trans ((q.bump ..).trans (ite_same (q.onTurn ..) ((q.onWset ..).trans (q.onTurn ..))))
  exact ite_same same (ite_same ((q.turnDecide ..).trans same) ((q.turnToken ..).trans same))

/-! Sessions -/

theorem say (m : Reply) : φ (s.say m) = φ s := q.dolli s s.sessions _ s.waits s.held

theorem closeSession (n : Nat) : φ (s.closeSession n) = φ s := by
  unfold State.closeSession
  exact ite_same (q.dolli s _ _ _ s.held) rfl

end BesideTraffic

end Sys2Proof.Proofs
end

section
/-!
PROOFS. The commands of the module and its units. O44.
-/
namespace Sys2Proof.Proofs
open Sys2Proof.Machine Sys2Proof.Laws

/-! What module flash stores stays as a partition's work is given up -/

theorem besideTraffic_stored : BesideTraffic State.stored where
  same _ _ _ _ _ _ := rfl
  power _ _ _ _ := rfl
  trigger _ _ _ _ _ := rfl
  traffic _ _ _ _ _ _ _ _ _ := rfl
  dolli _ _ _ _ _ := rfl

section
variable (s : State) (n : Nat)

theorem releaseList_stored (l : Nat) : (s.releaseList n l).stored = s.stored := by
  unfold State.releaseList
  exact forAll_same (φ := State.stored) (fun _ _ => by rfl) s

theorem dropAlloc_stored (k q a : Nat) : (s.dropAlloc k q a).stored = s.stored := by
  unfold State.dropAlloc State.decRef State.setRefs
  exact ite_same (φ := State.stored) (ite_same (φ := State.stored) rfl rfl) rfl

theorem dropHandle_stored (i : Nat) : (s.dropHandle n i).stored = s.stored := releaseList_stored ..

theorem kvDiscard_stored : (s.kvDiscard n).stored = s.stored := by
  unfold State.kvDiscard
  dsimp only
  rw [onPart_stored, forAll_same (φ := State.stored) (fun _ _ => releaseList_stored ..), forAll_same (φ := State.stored) (fun _ _ => dropHandle_stored ..),
    forAll_same (φ := State.stored) (fun _ _ => ite_same (φ := State.stored) (dropAlloc_stored ..) rfl)]
  exact forAll_same (φ := State.stored) (fun _ _ => by rfl) _

theorem discardAttempt_stored : (s.discardAttempt n).stored = s.stored := by
  have copied (l : List Nat) (f : Nat → State → Nat) (src dst : Nat → Nat) (g : Hearth → Hearth) (t : State) :
      (forAll l (fun i u => (u.copyRange (src (f i u)) (dst (f i u)) 0x8000).onHearth (f i u) g) t).stored = t.stored :=
    forAll_same (φ := State.stored) (fun _ _ => by rfl) t
  have cleared (l : List Nat) (g : ReqX → ReqX) (t : State) : (forAll l (fun i u => u.onRx i g) t).stored = t.stored :=
    forAll_same (φ := State.stored) (fun _ _ => by rfl) t
  unfold State.discardAttempt
  dsimp only
  rw [cleared, onPart_stored, copied _ (fun l u => u.phys l), kvDiscard_stored]

end

/-! Ash-out (R508) -/

section
variable (s : State) (n : Nat) (a : Ash)

/-- What ash-out needs of a partition: its ash-out and its phase. -/
theorem besideWakes_ash : BesideWakes (fun s => ((s.part n).ash, (s.part n).phase)) where
  same _ _ _ _ _ _ := rfl
  power _ _ _ _ := rfl
  trigger s m _ _ _ := by
    rw [part_onPart]
    split
    case isTrue e => rw [e]
    case isFalse => rfl

theorem ashBegin_stored : (s.ashBegin n a).stored = s.stored := by
  have q := besideTraffic_stored
  unfold State.ashBegin
  dsimp only
  rw [q.wakePart]
  generalize ends : forAll _ _ _ = t
  have same : t.stored = s.stored := by
    rw [← ends, forAll_same (φ := State.stored) (fun _ _ => q.closeSession _), q.turnFail]
    exact ite_same (φ := State.stored) (discardAttempt_stored ..) rfl
  exact ite_same (φ := State.stored) same same

/-- From its first event a partition is in the attempt, and idle. -/
theorem ashBegin_part : ((s.ashBegin n a).part n).ash = some a ∧ ((s.ashBegin n a).part n).phase = .idle := by
  rw [← Prod.mk.injEq]
  unfold State.ashBegin
  dsimp only
  rw [(besideWakes_ash n).wakePart]
  generalize begins : State.onPart _ n _ = t
  have begun : ((t.part n).ash, (t.part n).phase) = (some a, .idle) := by rw [← begins, part_onPart, if_pos rfl]
  exact ite_same (φ := fun s => ((s.part n).ash, (s.part n).phase)) begun begun

theorem ashOut_of_accepted {v : List Byte} {ok : Bool} (accepted : (s.ashOut v ok).2 = 0) :
    (s.ashOut v ok).1 = ({ s with stored := s.stored.put (E.PART_TENANT (fld v 0 1)) (.num (fld v 1 1)) } : State).ashBegin (fld v 0 1)
      { t0 := s.now, attempt := 1, event := 1, next := fld v 1 1 } := by
  revert accepted
  unfold State.ashOut
  dsimp only
  split
  · intro accepted; cases accepted
  · split
    · intro accepted; cases accepted
    · split
      · intro accepted; cases accepted
      · split
        · intro accepted; cases accepted
        · exact fun _ => rfl

end

/-! Refusals -/

section
variable {s : State} {v : List Byte} {k : Nat}

/-- An object that fails a check of Table 17-3 changes OBJ_RESULT alone. -/
theorem objInstall_of_failed {c : Nat} (serves : s.num E.BOOT_STATE ≠ 4) (code : s.objCode (s.blob E.OBJ_IMAGE) = c) (failed : c ≠ 0) :
    s.objInstall = (s.setNum E.OBJ_RESULT c, 0) := by
  simp only [State.objInstall, serves, false_and, if_false, code, if_pos failed]

theorem resetRickCmd_of_owned (inRange : leNat v < 12) (owned : (s.partOf (leNat v)).isSome = true) : s.resetRickCmd v = (s, busy) := by
  simp only [State.resetRickCmd, if_neg (Nat.not_le.mpr inRange), if_pos owned]

theorem resetHearthCmd_of_bound (rick : fld v 1 1 < 12) (hearth : fld v 0 1 < 18) (bound : (s.logical (18 * fld v 1 1 + fld v 0 1)).isSome = true) :
    s.resetHearthCmd v = (s, busy) := by
  simp only [State.resetHearthCmd, Nat.not_le.mpr rick, Nat.not_le.mpr hearth, or_self, if_false, if_pos bound]

/-- The frequency counter that judges a source serves no other measurement (R558). -/
theorem fmStart_of_judging (judge : s.num E.CLK_JUDGE = 1) (starting : (s.rick k).starting.isSome = true) : s.fmStart k = (s, busy) := by
  rw [State.fmStart, if_pos ⟨judge, starting⟩]

/-! Module reset (R580) -/

/-- With no session there is none that could see an entry change. -/
theorem setVal_sessions_nil (none : s.sessions = []) (key : Nat) (val : DVal) : (s.setVal key val).sessions = [] := by
  unfold State.setVal
  rw [none]
  exact ite_self _

theorem raise_sessions_nil (none : s.sessions = []) (code scope : Nat) (detail : List Nat) : (s.raise code scope detail).sessions = [] := by
  unfold State.raise
  exact ite_same (φ := State.sessions) (setVal_sessions_nil (setVal_sessions_nil none ..) ..) (setVal_sessions_nil none ..)

theorem fill_sessions_nil {c : Prop} [Decidable c] (none : s.sessions = []) (key : Nat) (val : DVal) : (if c then s else s.setVal key val).sessions = [] :=
  ite_same (φ := State.sessions) none (setVal_sessions_nil none ..)

theorem reborn_sessions (s : State) (on : Bool) : (s.reborn on).sessions = [] := by
  unfold State.reborn
  exact fill_sessions_nil (fill_sessions_nil (by rfl) ..) ..

theorem moduleReset_sessions (s : State) (cause : Nat) : (s.moduleReset cause).sessions = [] := by
  unfold State.moduleReset
  exact setVal_sessions_nil (setVal_sessions_nil (reborn_sessions ..) ..) ..

end

/-- Settles O44: what an admitted CMD does, the first event of an ash-out, and the checks that come first. -/
theorem moduleCommands : Obligations.ModuleCommands := by
  unfold Obligations.ModuleCommands
  intro s r k p v ok x s1 sized
  refine ⟨?rows, fun serves c code failed => objInstall_of_failed serves code failed, fun accepted => ?ashOut, resetRickCmd_of_owned, resetHearthCmd_of_bound,
    fmStart_of_judging, moduleReset_sessions ..⟩
  case rows =>
    simp only [List.forall_mem_cons, List.not_mem_nil, false_implies, implies_true, and_true]
    have noArg {key : Nat} {f : Session → State → State × Nat} (adm : Admitted s r opCmd key x) := next_command_nil_of_admitted (f := f) adm
    have withArg {arg : List Byte} {size key : Nat} {f : Session → State → State × Nat} (adm : Admitted s r opCmd key x) :=
      next_command_of_admitted (arg := arg) (size := size) (f := f) adm
    exact ⟨noArg, noArg, withArg, withArg, noArg, noArg, withArg, withArg, withArg, withArg, noArg⟩
  case ashOut =>
    intro t
    have begun : t = _ := ashOut_of_accepted s1 accepted
    rw [begun]
    exact ⟨ashBegin_stored .., ashBegin_part ..⟩

end Sys2Proof.Proofs
end

section
/-!
PROOFS. The value of an entry after other entries were set and events raised.
-/
namespace Sys2Proof.Proofs
open Sys2Proof.Machine Sys2Proof.Laws

/-- An entry that no event changes: neither EVENT_SEQ nor PART_EVENT_SEQ (R613). -/
def Eventless (key : Nat) : Prop := key ≠ E.EVENT_SEQ ∧ ∀ n, key ≠ E.PART_EVENT_SEQ n

section
variable {s t : State} {key : Nat}

theorem num_of_dval (same : s.dval key = t.dval key) : s.num key = t.num key := by rw [State.num, State.num, same]
theorem blob_of_dval (same : s.dval key = t.dval key) : s.blob key = t.blob key := by rw [State.blob, State.blob, same]

theorem dval_setVal_other {k : Nat} {v : DVal} (other : key ≠ k) : (s.setVal k v).dval key = s.dval key := (dval_setVal ..).trans (if_neg other)
theorem dval_setNum_other {k v : Nat} (other : key ≠ k) : (s.setNum k v).dval key = s.dval key := dval_setVal_other other
theorem dval_setBlob_other {k : Nat} {v : List Byte} (other : key ≠ k) : (s.setBlob k v).dval key = s.dval key := dval_setVal_other other
theorem dval_bumpBy_other {k w d : Nat} (other : key ≠ k) : (s.bumpBy k w d).dval key = s.dval key := dval_setVal_other other

/-- A count that stays within its width. -/
theorem num_bumpBy_same {w d : Nat} (fits : s.num key + d < 2 ^ w) : (s.bumpBy key w d).num key = s.num key + d := by
  rw [State.bumpBy, num_setNum, if_pos rfl, if_pos fits]

section
variable (quiet : Eventless key)
include quiet

theorem dval_raise (code scope : Nat) (detail : List Nat) : (s.raise code scope detail).dval key = s.dval key := by
  unfold State.raise
  dsimp only
  split
  · exact (dval_bumpBy_other (quiet.2 _)).trans (dval_setNum_other quiet.1)
  · exact dval_setNum_other quiet.1

theorem num_raise (code scope : Nat) (detail : List Nat) : (s.raise code scope detail).num key = s.num key := num_of_dval (dval_raise quiet ..)
theorem blob_raise (code scope : Nat) (detail : List Nat) : (s.raise code scope detail).blob key = s.blob key := blob_of_dval (dval_raise quiet ..)

theorem dval_raisePlatform : s.raisePlatform.dval key = s.dval key := by
  unfold State.raisePlatform
  refine (forAll_same (φ := fun s => s.dval key) (fun n s => ?_) _).trans (dval_raise quiet ..)
  exact dval_bumpBy_other (quiet.2 n)

end

/-- Every event takes the next number (R613). -/
theorem num_eventSeq_raise (code scope : Nat) (detail : List Nat) : (s.raise code scope detail).num E.EVENT_SEQ = s.num E.EVENT_SEQ + 1 := by
  have counted (u : State) : (u.setNum E.EVENT_SEQ (s.num E.EVENT_SEQ + 1)).num E.EVENT_SEQ = s.num E.EVENT_SEQ + 1 := by rw [num_setNum, if_pos rfl]
  unfold State.raise
  dsimp only
  split
  · refine (num_of_dval (dval_bumpBy_other ?_)).trans (counted _)
    unfold E.EVENT_SEQ E.PART_EVENT_SEQ
    omega
  · exact counted _

end

theorem BesideEvents.raisePlatform {α : Type} {φ : State → α} (q : BesideEvents φ) {s : State} : φ s.raisePlatform = φ s := by
  unfold State.raisePlatform
  exact (forAll_same (fun _ s => (q.bumpBy ..).trans (q.same s s.dict s.sessions s.events s.persisted _)) _).trans (q.raise ..)

end Sys2Proof.Proofs
end

section
/-!
PROOFS. The emergency throttle: its causes, and what it sets (R537 to R539, R645). O58.
-/
namespace Sys2Proof.Proofs
open Sys2Proof.Machine Sys2Proof.Laws

section
variable (s : State)

theorem besideTraffic_causes : BesideTraffic State.causes where
  same _ _ _ _ _ _ := rfl
  power _ _ _ _ := rfl
  trigger _ _ _ _ _ := rfl
  traffic _ _ _ _ _ _ _ _ _ := rfl
  dolli _ _ _ _ _ := rfl

theorem besideTraffic_throttleAt : BesideTraffic State.throttleAt where
  same _ _ _ _ _ _ := rfl
  power _ _ _ _ := rfl
  trigger _ _ _ _ _ := rfl
  traffic _ _ _ _ _ _ _ _ _ := rfl
  dolli _ _ _ _ _ := rfl

/-- The throttle as it begins: its instant and its count, every clock at the floor. -/
def throttled : State :=
  forAll (List.range 12) (fun n s => s.onPart n (fun p => { p with floorNow := true, clkNext := none, clkReady := none })) ({ s with throttleAt := some s.now }.bump E.EMERGENCIES)

/-- What the throttle does once it has begun is beside a view that events, ricks and free values leave alone. -/
theorem throttle_view {α : Type} {φ : State → α} (raise : ∀ (s : State) code scope detail, φ (s.raise code scope detail) = φ s)
    (platform : ∀ s : State, φ s.raisePlatform = φ s) (onRick : ∀ (s : State) k f, φ (s.onRick k f) = φ s) (free : ∀ (s : State) k, φ { s with free := k } = φ s) :
    φ s.throttle = φ (throttled s) := by
  unfold State.throttle State.draw
  dsimp only
  rw [platform, raise, free, free, forAll_same (φ := φ) (fun k s => ite_same (onRick ..) rfl), throttled]

theorem throttle_beside {α : Type} {φ : State → α} (q : BesideWakes φ) (free : ∀ (s : State) k, φ { s with free := k } = φ s) : φ s.throttle = φ (throttled s) :=
  throttle_view s (fun _ => q.raise) (fun _ => q.raisePlatform) (fun _ => q.onRick) free

theorem throttle_causes : s.throttle.causes = s.causes := by
  rw [throttle_beside s besideTraffic_causes.toBesideWakes (fun _ _ => rfl), throttled, forAll_same (φ := State.causes) (fun _ _ => besideTraffic_causes.onPart ..)]
  rfl

theorem throttle_throttleAt : s.throttle.throttleAt = some s.now := by
  rw [throttle_beside s besideTraffic_throttleAt.toBesideWakes (fun _ _ => rfl), throttled,
    forAll_same (φ := State.throttleAt) (fun _ _ => besideTraffic_throttleAt.onPart ..)]
  rfl

theorem dval_forAll_onPart {l : List Nat} {f : Part → Part} (key : Nat) : (forAll l (fun n s => s.onPart n f) s).dval key = s.dval key :=
  forAll_same (φ := fun s => s.dval key) (fun _ _ => by rfl) s

theorem throttle_dval {key : Nat} (quiet : Eventless key) (other : key ≠ E.EMERGENCIES) : s.throttle.dval key = s.dval key := by
  rw [throttle_view (φ := fun s => s.dval key) s (fun _ => dval_raise quiet) (fun _ => dval_raisePlatform quiet) (fun _ _ _ => rfl) (fun _ _ => rfl), throttled,
    dval_forAll_onPart]
  exact dval_bumpBy_other other

/-- A change made to each of a list of partitions, whatever it was made to before. -/
theorem forAll_onPart {l : List Nat} {f : Part → Part} (twice : ∀ p, f (f p) = f p) (s : State) (i : Nat) :
    (forAll l (fun n s => s.onPart n f) s).part i = if i ∈ l then f (s.part i) else s.part i := by
  unfold forAll
  induction l generalizing s with
  | nil => rfl
  | cons n r ih =>
    rw [List.foldl_cons, ih, part_onPart]
    by_cases first : i = n
    · subst first
      simp [twice]
    · simp [first]

/-- The view of a partition under the throttle: its clock at the floor, no change of it pending. -/
theorem throttle_part {j : Nat} (inRange : j < 12) : (s.throttle.part j).floorNow = true ∧ (s.throttle.part j).clkNext = none := by
  have kept : BesideWakes (fun s => ((s.part j).floorNow, (s.part j).clkNext)) :=
    { same := fun _ _ _ _ _ _ => rfl
      power := fun _ _ _ _ => rfl
      trigger := fun s m _ _ _ => by
        rw [part_onPart]
        split
        case isTrue e => rw [e]
        case isFalse => rfl }
  rw [← Prod.mk.injEq, throttle_beside s kept (fun _ _ => rfl), throttled, forAll_onPart (fun _ => by rfl), if_pos (List.mem_range.mpr inRange)]

end

/-! Causes -/

section
variable (s : State) (bit : Nat)

theorem addCause_causes : (s.addCause bit).causes = s.causes ||| 2 ^ bit := by
  unfold State.addCause
  exact ite_same (φ := State.causes) rfl (throttle_causes ..)

theorem addCause_throttleAt : (s.addCause bit).throttleAt = some (s.throttleAt.getD s.now) := by
  unfold State.addCause
  dsimp only
  split
  case isTrue begun =>
    rw [setNum_throttleAt] at begun ⊢
    obtain ⟨t0, e⟩ := Option.isSome_iff_exists.mp begun
    rw [e, Option.getD_some]
  case isFalse calm =>
    rw [setNum_throttleAt, Option.not_isSome_iff_eq_none] at calm
    rw [throttle_throttleAt, calm]
    rfl

/-- An entry that the throttle does not set. -/
theorem addCause_dval {key : Nat} (quiet : Eventless key) (count : key ≠ E.EMERGENCIES) (mask : key ≠ E.EMERGENCY) :
    (s.addCause bit).dval key = s.dval key := by
  unfold State.addCause
  exact ite_same (φ := fun s => s.dval key) (dval_setNum_other mask) ((throttle_dval _ quiet count).trans (dval_setNum_other mask))

theorem addCause_emergency : (s.addCause bit).num E.EMERGENCY = s.causes ||| 2 ^ bit := by
  have quiet : Eventless E.EMERGENCY := by
    unfold Eventless E.EMERGENCY E.EVENT_SEQ E.PART_EVENT_SEQ
    constructor <;> omega
  have other : E.EMERGENCY ≠ E.EMERGENCIES := by decide
  have set (c : Nat) (u : State) : (u.setNum E.EMERGENCY c).num E.EMERGENCY = c := (num_setNum ..).trans (if_pos rfl)
  unfold State.addCause
  exact ite_same (φ := fun s => s.num E.EMERGENCY) (set ..) ((num_of_dval (throttle_dval _ quiet other)).trans (set ..))

theorem addCause_part (begins : s.throttleAt = none) {j : Nat} (inRange : j < 12) :
    ((s.addCause bit).part j).floorNow = true ∧ ((s.addCause bit).part j).clkNext = none := by
  unfold State.addCause
  dsimp only
  split
  case isTrue held =>
    rw [setNum_throttleAt, begins] at held
    cases held
  case isFalse => exact throttle_part _ inRange

end

section
variable (s : State) (bit : Nat)

theorem dropCause_causes (i : Nat) : (s.dropCause bit).causes.testBit i = (s.causes.testBit i && decide (i ≠ bit)) := by
  unfold State.dropCause
  split
  case isTrue held =>
    rw [setNum_causes, Nat.testBit_xor, Nat.testBit_two_pow]
    by_cases same : bit = i
    · simp [← same, held]
    · simp [same, Ne.symm same]
  case isFalse clear =>
    by_cases same : i = bit
    · simp [same, clear]
    · simp [same]

theorem dropCause_throttleAt : (s.dropCause bit).throttleAt = s.throttleAt := by
  unfold State.dropCause
  exact ite_same (φ := State.throttleAt) rfl rfl

theorem dropCause_dval {key : Nat} (other : key ≠ E.EMERGENCY) : (s.dropCause bit).dval key = s.dval key := by
  unfold State.dropCause
  exact ite_same (φ := fun s => s.dval key) (dval_setNum_other other) rfl

/-- A cause that held is clear from now on. -/
theorem dropCause_of_held (held : s.causes.testBit bit = true) :
    (s.dropCause bit).num E.EMERGENCY = (s.dropCause bit).causes ∧ (s.dropCause bit).clearAt = s.now := by
  rw [State.dropCause, if_pos held, num_setNum, if_pos rfl]
  exact ⟨rfl, rfl⟩

end

/-- Settles O58: the pin's entry, then the cause of bit 5 added or dropped. -/
theorem alertPin : Obligations.AlertPin := by
  unfold Obligations.AlertPin
  intro s time s1
  have other : E.ALERT_PIN ≠ E.EMERGENCY := by decide
  have set (v : Nat) : (s1.setNum E.ALERT_PIN v).num E.ALERT_PIN = v := (num_setNum ..).trans (if_pos rfl)
  constructor
  · have quiet : Eventless E.ALERT_PIN := by
      unfold Eventless E.ALERT_PIN E.EVENT_SEQ E.PART_EVENT_SEQ
      constructor <;> omega
    refine ⟨_, exec_alertAssert .., (num_of_dval (addCause_dval _ _ quiet (by decide) other)).trans (set 1), ?_, ?_, ?_, fun i different => ?_⟩
    · rw [addCause_causes, Nat.testBit_or, Nat.testBit_two_pow_self, Bool.or_true]
    · rw [addCause_emergency, Nat.testBit_or, Nat.testBit_two_pow_self, Bool.or_true]
    · rw [addCause_throttleAt]
      rfl
    · rw [addCause_causes, Nat.testBit_or, Nat.testBit_two_pow, decide_eq_false (Ne.symm different), Bool.or_false]
      rfl
  · have cleared : ((s1.setNum E.ALERT_PIN 0).dropCause 5).causes.testBit 5 = false := by rw [dropCause_causes]; simp
    refine ⟨_, exec_alertRelease .., (num_of_dval (dropCause_dval _ _ other)).trans (set 0), cleared, dropCause_throttleAt .., fun held => ?_, fun i different => ?_⟩
    · obtain ⟨shown, since⟩ := dropCause_of_held (s1.setNum E.ALERT_PIN 0) 5 held
      exact ⟨by rw [shown]; exact cleared, since⟩
    · rw [dropCause_causes, decide_eq_true different, Bool.and_true]
      rfl

end Sys2Proof.Proofs
end

section
/-!
PROOFS. Budgets, the end of the throttle, the input and the heat (R517, R518, R535 to R539, R586, R643, R652, R653). O57.
-/
namespace Sys2Proof.Proofs
open Sys2Proof.Machine Sys2Proof.Laws

/-! The running clock (R535, R553) -/

section
variable (s : State) (n f : Nat)

/-- What the damper keeps of a partition: the clock it asked for, and the means below 95 %. -/
def damped (p : Part) : Option Nat × Nat := (p.clkNext, p.lowMeans)

theorem clockJudged_damped (i : Nat) : damped ((s.clockJudged n).part i) = damped (s.part i) := by
  unfold State.clockJudged
  split
  · split
    · rw [part_onPart]
      split
      case isTrue e => rw [e, damped, damped]
      case isFalse => rfl
    · rfl
  · rfl

theorem requestClock_damped (change : s.runClock n ≠ f) : damped ((s.requestClock n f).part n) = (some f, (s.part n).lowMeans) := by
  unfold State.requestClock
  dsimp only
  split
  case isTrue same =>
    obtain asked | ⟨-, runs⟩ := same
    · rw [damped, ← asked]
      rfl
    · exact absurd runs change
  case isFalse =>
    rw [clockJudged_damped]
    refine (forAll_same (φ := fun s => damped (s.part n)) (fun k s => ite_same (φ := fun s => damped (s.part n)) (by rfl) (by rfl)) _).trans ?_
    rw [part_onPart, if_pos rfl]
    rfl

end

/-! BUDGET_WINDOW (R535, R536) -/

section
variable {s : State} {n : Fin 12} {w time : Nat}

theorem execBudgetWindow_of_asleep (asleep : (s.at time).exists n = false ∨ (s.at time).awake n = false) : execBudgetWindow n w time s = .next (s.at time) := by
  unfold execBudgetWindow
  dsimp only
  rw [if_pos (asleep.imp_right .inl)]

section
variable (live : (s.at time).exists n = true) (awake : (s.at time).awake n = true) (own : (s.at time).kindlesHere n = false)
include live awake own

/-- Above the budget the clock falls, to the floor at most. -/
theorem execBudgetWindow_of_excess (excess : (s.at time).budget n < w) : execBudgetWindow n w time s =
    .next (let s2 := (s.at time).onPart n (fun p => { p with lowMeans := 0 })
      if (s.at time).floorClock n < (s.at time).runClock n then s2.requestClock n (max ((s.at time).floorClock n) ((s.at time).runClock n - 25)) else s2) := by
  simp only [execBudgetWindow, live, awake, own, excess, Bool.true_eq_false, Bool.false_eq_true, or_self, if_false, if_true]

/-- A mean that is no excess, and not below 95 % either. -/
theorem execBudgetWindow_of_near (within : w ≤ (s.at time).budget n) (near : 95 * (s.at time).budget n ≤ 100 * w) :
    execBudgetWindow n w time s = .next ((s.at time).onPart n (fun p => { p with lowMeans := 0 })) := by
  simp only [execBudgetWindow, live, awake, own, Nat.not_lt.mpr within, Nat.not_lt.mpr near, Bool.true_eq_false, Bool.false_eq_true, or_self, if_false]

/-- Below 95 %: one more mean, and with the tenth the clock may rise. -/
theorem execBudgetWindow_of_low (within : w ≤ (s.at time).budget n) (low : 100 * w < 95 * (s.at time).budget n) : execBudgetWindow n w time s =
    .next (if ((s.at time).part n).lowMeans + 1 < 10 then (s.at time).onPart n (fun p => { p with lowMeans := ((s.at time).part n).lowMeans + 1 })
      else
        let s2 := (s.at time).onPart n (fun p => { p with lowMeans := 0 })
        if (s.at time).runClock n < (s.at time).num (E.PART_CLOCK_MHZ n) ∧ (s.at time).throttleAt = none then
          s2.requestClock n (min ((s.at time).num (E.PART_CLOCK_MHZ n)) ((s.at time).runClock n + 25)) else s2) := by
  simp only [execBudgetWindow, live, awake, own, Nat.not_lt.mpr within, low, Bool.true_eq_false, Bool.false_eq_true, or_self, if_false, if_true]

/-- What a window does to the clock the damper asks for and to the means below 95 %. -/
theorem execBudgetWindow_damped :
    let s1 := s.at time
    let b := s1.budget n
    let f := s1.runClock n
    let low := (s1.part n).lowMeans
    let top := s1.num (E.PART_CLOCK_MHZ n)
    ∃ t, execBudgetWindow n w time s = .next t ∧
    (b < w → s1.floorClock n < f → (t.part n).clkNext = some (max (s1.floorClock n) (f - 25)) ∧ (t.part n).lowMeans = 0) ∧
    (b < w → f ≤ s1.floorClock n → (t.part n).clkNext = (s1.part n).clkNext ∧ (t.part n).lowMeans = 0) ∧
    (w ≤ b → 95 * b ≤ 100 * w → (t.part n).clkNext = (s1.part n).clkNext ∧ (t.part n).lowMeans = 0) ∧
    (w ≤ b → 100 * w < 95 * b → low < 9 → (t.part n).clkNext = (s1.part n).clkNext ∧ (t.part n).lowMeans = low + 1) ∧
    (w ≤ b → 100 * w < 95 * b → 9 ≤ low → (t.part n).lowMeans = 0 ∧ (f < top → s1.throttleAt = none → (t.part n).clkNext = some (min top (f + 25))) ∧
      ((top ≤ f ∨ s1.throttleAt.isSome = true) → (t.part n).clkNext = (s1.part n).clkNext)) := by
  intro s1 b f low top
  have means (x : Nat) : damped ((s1.onPart n (fun p => { p with lowMeans := x })).part n) = ((s1.part n).clkNext, x) := by
    rw [part_onPart, if_pos rfl]
    rfl
  have asked (g : Nat) (change : f ≠ g) : damped (((s1.onPart n (fun p => { p with lowMeans := 0 })).requestClock n g).part n) = (some g, 0) := by
    refine (requestClock_damped _ _ _ ?_).trans ?_
    · exact change
    · rw [part_onPart, if_pos rfl]
  by_cases excess : b < w
  · refine ⟨_, execBudgetWindow_of_excess live awake own excess, fun _ room => ?_, fun _ atFloor => ?_, fun within => absurd excess (Nat.not_lt.mpr within),
      fun within => absurd excess (Nat.not_lt.mpr within), fun within => absurd excess (Nat.not_lt.mpr within)⟩
    · dsimp only
      rw [if_pos room]
      exact Prod.mk.inj (asked _ (Nat.ne_of_gt (Nat.max_lt.mpr ⟨room, Nat.sub_lt (Nat.zero_lt_of_lt room) (by decide)⟩)))
    · dsimp only
      rw [if_neg (Nat.not_lt.mpr atFloor)]
      exact Prod.mk.inj (means 0)
  · have within := Nat.not_lt.mp excess
    by_cases low' : 100 * w < 95 * b
    · refine ⟨_, execBudgetWindow_of_low live awake own within low', fun high => absurd high excess, fun high => absurd high excess,
        fun _ near => absurd low' (Nat.not_lt.mpr near), fun _ _ few => ?_, fun _ _ ten => ?_⟩
      · rw [if_pos (Nat.succ_lt_succ few)]
        exact Prod.mk.inj (means _)
      · dsimp only
        rw [if_neg (by omega : ¬ low + 1 < 10)]
        by_cases rises : f < top ∧ s1.throttleAt = none
        · have both := Prod.mk.inj (asked (min top (f + 25)) (by omega))
          rw [if_pos rises]
          refine ⟨both.2, fun _ _ => both.1, ?_⟩
          rintro (atTop | held)
          · exact absurd rises.1 (Nat.not_lt.mpr atTop)
          · rw [rises.2] at held
            cases held
        · have both := Prod.mk.inj (means 0)
          rw [if_neg rises]
          exact ⟨both.2, fun below calm => absurd ⟨below, calm⟩ rises, fun _ => both.1⟩
    · exact ⟨_, execBudgetWindow_of_near live awake own within (Nat.not_lt.mp low'), fun high => absurd high excess, fun high => absurd high excess,
        fun _ _ => Prod.mk.inj (means 0), fun _ low => absurd low low', fun _ low => absurd low low'⟩

end
end

/-! OVERRUN_WINDOW (R536) -/

section
variable {s : State} {n : Fin 12} {w time : Nat}

/-- The measured power is no part of what an overrun is judged by. -/
theorem overrunJudged_setPower (s : State) (n w v : Nat) : let u := s.setNum (E.PART_POWER_W n) v
    (u.exists n && decide (u.clockMhz n ≤ u.floorClock n) && decide (u.budget n < w)) =
      (s.exists n && decide (s.clockMhz n ≤ s.floorClock n) && decide (s.budget n < w)) := by
  intro u
  have other (key : Nat) (h : key ≠ E.PART_POWER_W n) : u.num key = s.num key := (num_setNum ..).trans (if_neg h)
  have mask : u.num (E.RICK_MASK n) = s.num (E.RICK_MASK n) := other _ (by unfold E.RICK_MASK E.PART_POWER_W; omega)
  have run : u.num (E.RUN_CLOCK_MHZ n) = s.num (E.RUN_CLOCK_MHZ n) := other _ (by unfold E.RUN_CLOCK_MHZ E.PART_POWER_W; omega)
  have set : u.num (E.PART_CLOCK_MHZ n) = s.num (E.PART_CLOCK_MHZ n) := other _ (by unfold E.PART_CLOCK_MHZ E.PART_POWER_W; omega)
  have watts : u.num (E.PART_BUDGET_W n) = s.num (E.PART_BUDGET_W n) := other _ (by unfold E.PART_BUDGET_W E.PART_POWER_W; omega)
  have clock : u.clockMhz n = s.clockMhz n := by
    rw [State.clockMhz, State.clockMhz, run, set]
    rfl
  have ricks : u.ricksOf n = s.ricksOf n := by
    rw [State.ricksOf, State.ricksOf, mask]
    rfl
  have budget : u.budget n = s.budget n := by rw [State.budget, State.budget, watts, ricks]
  have floor : u.floorClock n = s.floorClock n := rfl
  rw [State.exists, mask, clock, floor, budget]
  rfl

theorem execOverrunWindow_facts :
    let s1 := s.at time
    let isOver := s1.exists n && decide (s1.clockMhz n ≤ s1.floorClock n) && decide (s1.budget n < w)
    ∃ t, execOverrunWindow n w time s = .next t ∧ t.num (E.PART_POWER_W n) = w % 2 ^ 32 ∧ (t.part n).overran = isOver ∧
      (isOver = false → t.num (E.BUDGET_OVERRUNS n) = s1.num (E.BUDGET_OVERRUNS n) ∧ t.events = s1.events) ∧
      (isOver = true → s1.num (E.BUDGET_OVERRUNS n) + 1 < 2 ^ 32 → t.num (E.BUDGET_OVERRUNS n) = s1.num (E.BUDGET_OVERRUNS n) + 1) ∧
      (isOver = true → t.num E.EVENT_SEQ = s1.num E.EVENT_SEQ + if (s1.part n).overran then 0 else 1) := by
  intro s1 isOver
  let u := s1.setNum (E.PART_POWER_W n) (w % 2 ^ 32)
  have power : u.num (E.PART_POWER_W n) = w % 2 ^ 32 := (num_setNum ..).trans (if_pos rfl)
  have overruns : u.num (E.BUDGET_OVERRUNS n) = s1.num (E.BUDGET_OVERRUNS n) :=
    (num_setNum ..).trans (if_neg (by unfold E.BUDGET_OVERRUNS E.PART_POWER_W; omega))
  have seq : u.num E.EVENT_SEQ = s1.num E.EVENT_SEQ := (num_setNum ..).trans (if_neg (by unfold E.EVENT_SEQ E.PART_POWER_W; omega))
  have judged := overrunJudged_setPower s1 n w (w % 2 ^ 32)
  unfold execOverrunWindow
  dsimp only at judged ⊢
  rw [judged]
  cases excess : isOver with
  | false =>
    rw [if_neg (Bool.eq_false_iff.mp excess)]
    refine ⟨_, rfl, power, ?_, fun _ => ⟨overruns, rfl⟩, fun no => absurd no (by decide), fun no => absurd no (by decide)⟩
    rw [part_onPart, if_pos rfl]
  | true =>
    let v := (u.bump (E.BUDGET_OVERRUNS n)).onPart n (fun p => { p with overran := true })
    have powerKept : v.num (E.PART_POWER_W n) = w % 2 ^ 32 :=
      (num_of_dval (dval_bumpBy_other (s := u) (by unfold E.BUDGET_OVERRUNS E.PART_POWER_W; omega))).trans power
    have counted (fits : s1.num (E.BUDGET_OVERRUNS n) + 1 < 2 ^ 32) : v.num (E.BUDGET_OVERRUNS n) = s1.num (E.BUDGET_OVERRUNS n) + 1 :=
      (num_bumpBy_same (s := u) (by rw [overruns]; exact fits)).trans (by rw [overruns])
    have seqKept : v.num E.EVENT_SEQ = s1.num E.EVENT_SEQ :=
      (num_of_dval (dval_bumpBy_other (s := u) (by unfold E.BUDGET_OVERRUNS E.EVENT_SEQ; omega))).trans seq
    have marked : (v.part n).overran = true := by rw [part_onPart, if_pos rfl]
    rw [if_pos excess]
    cases before : (s1.part n).overran with
    | true =>
      refine ⟨v, congrArg _ (if_pos before), powerKept, marked, fun no => absurd no (by decide), fun _ => counted, fun _ => seqKept⟩
    | false =>
      have quiet {key : Nat} (seq : key ≠ E.EVENT_SEQ) (part : ∀ m, key ≠ E.PART_EVENT_SEQ m) : (v.raise 0xE022 (scopeP n)).num key = v.num key := num_raise ⟨seq, part⟩ ..
      refine ⟨v.raise 0xE022 (scopeP n), congrArg _ (if_neg (Bool.eq_false_iff.mp before)), (quiet ?_ ?_).trans powerKept, ?_, fun no => absurd no (by decide),
        fun _ fits => (quiet ?_ ?_).trans (counted fits), fun _ => (num_eventSeq_raise ..).trans (congrArg (· + 1) seqKept)⟩
      · unfold E.PART_POWER_W E.EVENT_SEQ; omega
      · unfold E.PART_POWER_W E.PART_EVENT_SEQ; omega
      · rw [raise_part]; exact marked
      · unfold E.BUDGET_OVERRUNS E.EVENT_SEQ; omega
      · unfold E.BUDGET_OVERRUNS E.PART_EVENT_SEQ; omega

end

/-! The end of the throttle, phases, heat (R517, R539, R652) -/

section
variable {s : State} {time : Nat}

theorem execEmergencyEnd_of_held (held : (s.at time).throttleAt = none ∨ 8 ≤ (s.at time).causes ∨ (s.at time).now < (s.at time).clearAt + 100000000) :
    execEmergencyEnd time s = .next (s.at time) := by
  unfold execEmergencyEnd
  dsimp only
  split
  case h_1 begun =>
    rw [begun] at held
    rw [if_pos (held.resolve_left (by simp))]
  case h_2 => rfl

theorem execEmergencyEnd_of_clear (begun : (s.at time).throttleAt.isSome = true) (clear : (s.at time).causes < 8)
    (due : (s.at time).clearAt + 100000000 ≤ (s.at time).now) :
    ∃ t, execEmergencyEnd time s = .next t ∧ t.throttleAt = none ∧ t.causes = 0 ∧ t.num E.EMERGENCY = 0 := by
  obtain ⟨t0, e⟩ := Option.isSome_iff_exists.mp begun
  have quiet : Eventless E.EMERGENCY := by
    unfold Eventless E.EMERGENCY E.EVENT_SEQ E.PART_EVENT_SEQ
    constructor <;> omega
  unfold execEmergencyEnd
  dsimp only
  simp only [e]
  rw [if_neg (by omega)]
  refine ⟨_, rfl, ?_, ?_, ?_⟩
  · rw [besideTraffic_throttleAt.raise]; rfl
  · rw [besideTraffic_causes.raise]; rfl
  · rw [num_raise quiet, num_of_dval (dval_setBlob_other (by decide : E.EMERGENCY ≠ E.PLATFORM_EVENTS)), num_setNum, if_pos rfl]

theorem execPhaseFailure_facts (k : Fin 12) : let s1 := s.at time
    ∃ t, execPhaseFailure k time s = .next t ∧ (s1.num E.PHASES_FAILED < 255 → t.num E.PHASES_FAILED = s1.num E.PHASES_FAILED + 1) ∧
      (s1.num E.PHASES_FAILED < 2 → t.causes = s1.causes) ∧ (s1.num E.PHASES_FAILED = 2 → t.causes = s1.causes ||| 8 ∧ t.throttleAt.isSome = true) := by
  intro s1
  have quiet : Eventless E.PHASES_FAILED := by
    unfold Eventless E.PHASES_FAILED E.EVENT_SEQ E.PART_EVENT_SEQ
    constructor <;> omega
  have counted (fits : s1.num E.PHASES_FAILED < 255) : (s1.bumpBy E.PHASES_FAILED 8 1).num E.PHASES_FAILED = s1.num E.PHASES_FAILED + 1 :=
    num_bumpBy_same (by omega)
  unfold execPhaseFailure
  dsimp only
  split
  case isTrue third =>
    refine ⟨_, rfl, fun fits => (num_of_dval (addCause_dval _ _ quiet (by decide) (by decide))).trans (counted fits), fun few => ?_, fun _ => ⟨addCause_causes .., ?_⟩⟩
    · rw [counted (by omega)] at third
      exact absurd few (by omega)
    · rw [addCause_throttleAt]; rfl
  case isFalse few =>
    have two : s1.num E.PHASES_FAILED ≠ 2 := fun e => few (by rw [counted (by omega)]; omega)
    split
    · exact ⟨_, rfl, fun fits => (num_raise quiet ..).trans (counted fits), fun _ => besideTraffic_causes.raise .., fun e => absurd e two⟩
    · exact ⟨_, rfl, counted, fun _ => rfl, fun e => absurd e two⟩

end

/-! The module is held, and starts anew (R518, R586, R643, R653) -/

section
variable (s : State)

/-- A rick begins its way to state O. -/
def toOff (now : Nat) (r : Rick) : Rick := { r with move := some (4, now), waiting := none, bringup := none }

/-- A change made at its instant to each of a list of ricks, whatever it was made to before. -/
theorem forAll_onRick {l : List Nat} {f : Nat → Rick → Rick} (twice : ∀ t r, f t (f t r) = f t r) (i : Nat) :
    (forAll l (fun k s => s.onRick k (f s.now)) s).rick i = if i ∈ l then f s.now (s.rick i) else s.rick i := by
  unfold forAll
  induction l generalizing s with
  | nil => rfl
  | cons n r ih =>
    rw [List.foldl_cons, ih, rick_onRick, onRick_now]
    by_cases first : i = n
    · subst first
      simp [twice]
    · simp [first]

theorem holdModule_rick {j : Nat} (inRange : j < 12) (on : (s.rick j).pst ≠ 4) : (s.holdModule.rick j).move = some (4, s.now) := by
  unfold State.holdModule
  refine (congrArg Rick.move (forAll_onRick (f := toOff) _ (fun _ _ => by rfl) j)).trans ?_
  rw [if_pos (List.mem_filter.mpr ⟨List.mem_range.mpr inRange, by simpa using on⟩)]
  rfl

theorem besideWakes_powered : BesideWakes State.powered where
  same _ _ _ _ _ _ := rfl
  power _ _ _ _ := rfl
  trigger _ _ _ _ _ := rfl

theorem besideEvents_heldHeat : BesideEvents State.heldHeat := ⟨fun _ _ _ _ _ _ => rfl⟩
theorem besideEvents_heldInput : BesideEvents State.heldInput := ⟨fun _ _ _ _ _ _ => rfl⟩

theorem holdModule_powered : s.holdModule.powered = false := by
  unfold State.holdModule
  rw [forAll_same (φ := State.powered) (fun _ _ => besideWakes_powered.onRick ..)]

theorem holdModule_sessions : s.holdModule.sessions = [] := by
  unfold State.holdModule
  exact forAll_same (φ := State.sessions) (fun _ _ => by rfl) _

theorem hearthsLost_ricks (k : Nat) : (s.hearthsLost k).ricks = s.ricks := by
  unfold State.hearthsLost
  exact forAll_same (φ := State.ricks) (fun _ _ => by rfl) s

theorem unset_ricks (l : List Nat) : (l.foldl State.unset s).ricks = s.ricks := by
  induction l generalizing s with
  | nil => rfl
  | cons key r ih => exact ih _

theorem rickDefaults_pst (k i : Nat) : ((s.rickDefaults k).rick i).pst = (s.rick i).pst := by
  unfold State.rickDefaults
  dsimp only
  rw [rick_onRick]
  have same (j : Nat) : (([E.LIVE_SOURCE k, E.PLL_FAILED k, E.FM_SOURCE k, E.FM_GATE k, E.FM_HEARTH k, E.FM_RESULT k].foldl State.unset s).rick j).pst = (s.rick j).pst := by
    rw [State.rick, unset_ricks, State.rick]
  split
  case isTrue e =>
    have kept := same k
    rw [e]
    exact kept
  case isFalse => exact same i

theorem rickOff_pst (k i : Nat) : ((s.rickOff k).rick i).pst = if i = k then 4 else (s.rick i).pst := by
  unfold State.rickOff
  dsimp only
  have set (u : State) (key v : Nat) : (u.setNum key v).rick i = u.rick i := rfl
  rw [set, rick_onRick]
  split
  · rfl
  · refine (rickDefaults_pst ..).trans ?_
    rw [State.rick, hearthsLost_ricks, State.rick]

theorem forAll_rickOff_pst {l : List Nat} {j : Nat} (off : j ∈ l ∨ (s.rick j).pst = 4) : ((forAll l (fun k s => s.rickOff k) s).rick j).pst = 4 := by
  unfold forAll
  induction l generalizing s with
  | nil => exact off.resolve_left List.not_mem_nil
  | cons k r ih =>
    rw [List.foldl_cons]
    refine ih _ ?_
    rw [rickOff_pst]
    by_cases first : j = k
    · exact .inr (if_pos first)
    · rw [if_neg first]
      exact off.imp_left (fun mem => (List.mem_cons.mp mem).resolve_left first)

/-- A view of which nothing is a part that a rick loses in state O. -/
structure BesideRicks {α : Type} (φ : State → α) : Prop extends BesideWakes φ where
  stores : ∀ (s : State) (mem : Memory) (bad ce : List Nat) (hearths : Tab Hearth), φ { s with mem := mem, bad := bad, ce := ce, hearths := hearths } = φ s

theorem BesideRicks.zeroRange {α : Type} {φ : State → α} (q : BesideRicks φ) (a n : Nat) : φ (s.zeroRange a n) = φ s := q.stores s _ _ _ s.hearths

theorem BesideRicks.onHearth {α : Type} {φ : State → α} (q : BesideRicks φ) (g : Nat) (f : Hearth → Hearth) : φ (s.onHearth g f) = φ s :=
  q.stores s s.mem s.bad s.ce _

theorem BesideRicks.hearthsLost {α : Type} {φ : State → α} (q : BesideRicks φ) (k : Nat) : φ (s.hearthsLost k) = φ s := by
  unfold State.hearthsLost
  exact forAll_same (fun g t => (q.onHearth ..).trans ((q.zeroRange ..).trans ((q.zeroRange ..).trans ((q.zeroRange ..).trans (q.zeroRange ..))))) s

theorem BesideEvents.unset {α : Type} {φ : State → α} (q : BesideEvents φ) (l : List Nat) : φ (l.foldl State.unset s) = φ s := by
  induction l generalizing s with
  | nil => rfl
  | cons key r ih => exact (ih _).trans (q.same s _ _ s.events s.persisted s.partEvents)

theorem BesideRicks.rickOff {α : Type} {φ : State → α} (q : BesideRicks φ) (k : Nat) : φ (s.rickOff k) = φ s := by
  unfold State.rickOff State.rickDefaults
  exact (q.setNum ..).trans ((q.onRick ..).trans ((q.onRick ..).trans ((q.unset ..).trans (q.hearthsLost ..))))

theorem besideRicks_powered : BesideRicks State.powered where
  toBesideWakes := besideWakes_powered
  stores _ _ _ _ _ := rfl

/-- With a fill of an entry the module as it is born anew has the same time and holds. -/
theorem fill_now {c : Prop} [Decidable c] (key : Nat) (val : DVal) : (if c then s else s.setVal key val).now = s.now :=
  ite_same (φ := State.now) rfl rfl

theorem powerOn_now (cause : Nat) : (s.powerOn cause).now = 0 := by
  unfold State.powerOn State.reborn
  exact (fill_now ..).trans (fill_now ..)

theorem powerOn_facts (cause : Nat) : let t := s.powerOn cause
    t.powered = true ∧ t.heldHeat = false ∧ t.heldInput = false ∧ t.now = 0 ∧ t.blob E.RESET_CAUSE = causeBytes cause 0 :=
  ⟨rfl, rfl, rfl, powerOn_now .., (blob_setBlob ..).trans (if_pos rfl)⟩

/-- The switch opens: every rick is in state O at once. -/
theorem presenceOpen_facts : let u := forAll (List.range 12) (fun k s => s.rickOff k) s.holdModule
    u.powered = false ∧ ∀ j < 12, (u.rick j).pst = 4 :=
  ⟨(forAll_same (φ := State.powered) (fun k t => besideRicks_powered.rickOff t k) _).trans (holdModule_powered s),
    fun _ inRange => forAll_rickOff_pst _ (.inl (List.mem_range.mpr inRange))⟩

theorem switchOpened_facts {u : State} (powered : u.powered = false) (off : ∀ j < 12, (u.rick j).pst = 4) :
    ∃ t, (.next { u with switchOn := false, heldInput := false, heldHeat := false } : Host.Outcome State Fault Refusal) = .next t ∧ t.switchOn = false ∧
      t.powered = false ∧ ∀ j < 12, (t.rick j).pst = 4 := ⟨_, rfl, rfl, powered, off⟩

theorem execPresenceOpen_facts (s : State) (time : Nat) :
    ∃ t, execPresenceOpen time s = .next t ∧ t.switchOn = false ∧ t.powered = false ∧ ∀ j < 12, (t.rick j).pst = 4 :=
  switchOpened_facts (presenceOpen_facts (s.at time)).1 (presenceOpen_facts (s.at time)).2

end

/-- Settles O57: the damper's windows, the throttle's causes and its end, the holds and the starts of the module. -/
theorem budgetsAndInput : Obligations.BudgetsAndInput := by
  unfold Obligations.BudgetsAndInput
  intro s n k c w mv bulk time s1 b f low top
  have quiet : Eventless E.RESET_CAUSE := by
    unfold Eventless E.RESET_CAUSE E.EVENT_SEQ E.PART_EVENT_SEQ
    constructor <;> omega
  rw [exec_budgetWindow, exec_overrunWindow, exec_emergencyRaise, exec_emergencyEnd, exec_phaseFailure, exec_thermalCondition, exec_thermalCondition,
    exec_inputOutOfRange, exec_thermalShutdown, exec_thermalRestart, exec_powerValid, exec_presenceOpen, exec_presenceClose]
  refine ⟨execBudgetWindow_of_asleep, execBudgetWindow_damped, execOverrunWindow_facts, fun named => ?raise,
    fun unnamed => ?noCause, execEmergencyEnd_of_held, execEmergencyEnd_of_clear, execPhaseFailure_facts k, ?hot,
    ?cool, fun lo hi => ?inRange, fun out within => ?input, fun beyond => ?beyond, ?heat, fun held => ?noRestart, fun heat input switch => ?restart, fun held => ?noPower,
    fun switch heat starts => ?power, execPresenceOpen_facts s time, fun away below above lo hi => ?close, fun refused => ?stays⟩
  case raise =>
    refine ⟨s1.addCause c, ?_, addCause_causes .., ?_, addCause_throttleAt .., fun begins j inRange => addCause_part _ _ begins inRange⟩
    · exact congrArg _ (if_pos named)
    · rw [addCause_emergency, addCause_causes]
  case noCause =>
    exact congrArg _ (if_neg (Nat.not_lt.mpr unnamed))
  case hot => exact ⟨s1.addCause 4, rfl, addCause_causes .., by rw [addCause_throttleAt]; rfl⟩
  case cool => exact ⟨s1.dropCause 4, rfl, by rw [dropCause_causes]; simp, dropCause_throttleAt ..⟩
  case inRange =>
    rw [execInputOutOfRange, if_neg (by omega), if_pos ⟨lo, hi⟩]
  case input =>
    refine ⟨{ s1.holdModule with heldInput := true }, ?_, rfl, holdModule_powered .., holdModule_sessions .., fun j inRange on => holdModule_rick s1 inRange on⟩
    rw [execInputOutOfRange, if_neg (by omega), if_neg (by omega)]
  case beyond => rw [execInputOutOfRange, if_pos beyond]
  case heat => exact ⟨{ s1.holdModule with heldHeat := true }, rfl, rfl, holdModule_powered .., fun j inRange on => holdModule_rick s1 inRange on⟩
  case noRestart =>
    refine congrArg _ (if_neg ?_)
    rintro ⟨heat, input, switch⟩
    rw [heat, input, switch] at held
    simp at held
  case restart =>
    obtain ⟨powered, cold, -, zero, cause⟩ := powerOn_facts s1 1
    refine ⟨(s1.powerOn 1).raise 0xE025 0, ?_, ?_, ?_, (raise_now ..).trans zero, (blob_raise quiet ..).trans cause⟩
    · exact congrArg _ (if_pos ⟨heat, input, switch⟩)
    · exact (besideWakes_powered.raise ..).trans powered
    · exact (besideEvents_heldHeat.raise ..).trans cold
  case noPower =>
    rw [execPowerValid]
    refine congrArg _ ?_
    obtain away | heat | ⟨input, stays⟩ := held
    · exact if_pos (.inl away)
    · exact if_pos (.inr heat)
    · refine (ite_eq_left_iff.mpr fun _ => (if_neg (Bool.eq_false_iff.mp input)).trans ?_)
      obtain on | early := stays
      · exact if_neg (by rw [on]; decide)
      · exact ite_eq_right_iff.mpr fun _ => if_neg (Nat.not_le.mpr early)
  case power =>
    rw [execPowerValid, if_neg (by rw [switch, heat]; decide)]
    cases input : s1.heldInput with
    | true =>
      obtain ⟨powered, -, held, zero, cause⟩ := powerOn_facts s1 2
      exact ⟨(s1.powerOn 2).raise 0xE024 0, congrArg _ (if_pos rfl), (besideWakes_powered.raise ..).trans powered, (besideEvents_heldInput.raise ..).trans held,
        (raise_now ..).trans zero, (blob_raise quiet ..).trans cause⟩
    | false =>
      obtain ⟨off, due⟩ := starts.resolve_left (by rw [input]; decide)
      obtain ⟨powered, -, held, zero, cause⟩ := powerOn_facts s1 1
      exact ⟨s1.powerOn 1, congrArg _ ((if_neg Bool.false_ne_true).trans ((if_pos off).trans (if_pos due))), powered, held, zero, cause⟩
  case close =>
    exact congrArg _ (if_pos ⟨away, below, above, lo, hi⟩)
  case stays =>
    refine congrArg _ (if_neg ?_)
    rintro ⟨away, below, above, lo, hi⟩
    rw [away] at refused
    simp only [Bool.false_eq_true, false_or] at refused
    omega

end Sys2Proof.Proofs
end

section
/-!
PROOFS. References, sources of the arithmetic clock, the frequency counter (R541 to R558). O59.
-/
namespace Sys2Proof.Proofs
open Sys2Proof.Machine Sys2Proof.Laws

/-! References (R543 to R545) -/

section
variable {s : State} {time : Nat}

/-- A rick whose islands enter their safe state. -/
def safe (r : Rick) : Rick := { r with stopped := r.pst == 0, starting := none }

/-- With both references lost: before the ports follow, the time quality and the ricks. -/
def ricksSafe (s : State) : State :=
  forAll (List.range 12) (fun k s => s.onRick k (fun r => { r with stopped := r.pst == 0, starting := none })) ({ s with refsLost := 3 }.setNum E.TIME_QUALITY 1)

theorem ricksSafe_num {key : Nat} (other : key ≠ E.TIME_QUALITY) : (ricksSafe s).num key = s.num key :=
  (forAll_same (φ := fun s => s.num key) (fun _ _ => by rfl) _).trans ((num_setNum ..).trans (if_neg other))

theorem ricksSafe_rick {j : Nat} (inRange : j < 12) : (ricksSafe s).rick j = safe (s.rick j) := by
  refine (forAll_onRick (f := fun _ => safe) _ (fun _ _ => by rfl) j).trans ?_
  rw [if_pos (List.mem_range.mpr inRange)]
  rfl

/-- With no port training or UP the loss of both references changes the time quality and the ricks alone. -/
theorem loseReferences_of_quiet_ports (fabric : ∀ p < 16, s.num (E.PORT_STATE p) ≠ 1 ∧ s.num (E.PORT_STATE p) ≠ 2)
    (eth : ∀ e < 8, s.num (E.ETH_STATE e) ≠ 1 ∧ s.num (E.ETH_STATE e) ≠ 2) : s.loseReferences = ricksSafe s := by
  have noFabric : (List.range 16).filter (fun p => (ricksSafe s).num (E.PORT_STATE p) == 1 || (ricksSafe s).num (E.PORT_STATE p) == 2) = [] := by
    simp only [List.filter_eq_nil_iff, List.mem_range]
    intro p inRange
    rw [ricksSafe_num (by unfold E.PORT_STATE E.TIME_QUALITY; omega)]
    simpa using fabric p inRange
  have noEth : (List.range 8).filter (fun e => (ricksSafe s).num (E.ETH_STATE e) == 1 || (ricksSafe s).num (E.ETH_STATE e) == 2) = [] := by
    simp only [List.filter_eq_nil_iff, List.mem_range]
    intro e inRange
    rw [ricksSafe_num (by unfold E.ETH_STATE E.TIME_QUALITY; omega)]
    simpa using eth e inRange
  have portsKept (f : Nat → State → State) : forAll ((List.range 16).filter (fun p => (ricksSafe s).num (E.PORT_STATE p) == 1 || (ricksSafe s).num (E.PORT_STATE p) == 2)) f (ricksSafe s) =
      ricksSafe s := by rw [noFabric]; rfl
  have linksKept (f : Nat → State → State) : forAll ((List.range 8).filter (fun e => (ricksSafe s).num (E.ETH_STATE e) == 1 || (ricksSafe s).num (E.ETH_STATE e) == 2)) f (ricksSafe s) =
      ricksSafe s := by rw [noEth]; rfl
  unfold State.loseReferences
  rw [ricksSafe] at portsKept linksKept ⊢
  dsimp only
  rw [portsKept, linksKept]

theorem loseReferences_facts (fabric : ∀ p < 16, s.num (E.PORT_STATE p) ≠ 1 ∧ s.num (E.PORT_STATE p) ≠ 2)
    (eth : ∀ e < 8, s.num (E.ETH_STATE e) ≠ 1 ∧ s.num (E.ETH_STATE e) ≠ 2) : s.loseReferences.refsLost = 3 ∧ s.loseReferences.num E.TIME_QUALITY = 1 ∧
      ∀ j < 12, (s.loseReferences.rick j).stopped = decide ((s.rick j).pst = 0) ∧ (s.loseReferences.rick j).starting = none := by
  rw [loseReferences_of_quiet_ports fabric eth]
  refine ⟨forAll_same (φ := State.refsLost) (fun _ _ => by rfl) _, ?_, fun j inRange => ?_⟩
  · exact (forAll_same (φ := fun s => s.num E.TIME_QUALITY) (fun _ _ => by rfl) _).trans ((num_setNum ..).trans (if_pos rfl))
  · rw [ricksSafe_rick inRange]
    exact ⟨rfl, rfl⟩

section
variable {r : Fin 2}

theorem execReferenceLoss_of_active (found : (s.at time).refsLost = 0) (active : (s.at time).num E.REF_ACTIVE = r.val) :
    ∃ t, execReferenceLoss r time s = .next t ∧ t.refsLost = 2 ^ r.val ∧ t.num E.REF_ACTIVE = 1 - r.val ∧ t.parts = s.parts ∧ t.ricks = s.ricks := by
  have quiet : Eventless E.REF_ACTIVE := by
    unfold Eventless E.REF_ACTIVE E.EVENT_SEQ E.PART_EVENT_SEQ
    constructor <;> omega
  have kept : BesideEvents (fun s => (s.refsLost, s.parts, s.ricks)) := ⟨fun _ _ _ _ _ _ => rfl⟩
  have untested : ¬ (s.at time).refsLost.testBit r = true := by rw [found, Nat.zero_testBit]; decide
  let u := ({ s.at time with refsLost := 2 ^ r.val } : State).setNum E.REF_ACTIVE (1 - r.val)
  have same := (kept.raise (s := u.raise 0xE030 0) 0xE055 0 [7, 0xFF]).trans (kept.raise ..)
  simp only [Prod.mk.injEq] at same
  obtain ⟨lost, parts, ricks⟩ := same
  refine ⟨(u.raise 0xE030 0).raise 0xE055 0 [7, 0xFF], ?_, lost, ?_, parts, ricks⟩
  · rw [execReferenceLoss, if_neg untested, if_neg (not_not_intro found), if_pos active]
  · rw [num_raise quiet, num_raise quiet, num_setNum, if_pos rfl]

theorem execReferenceCompare_of_far {ppm : Int} (found : (s.at time).refsLost = 0) (far : (s.at time).num E.REF_TOL_PPM < ppm.natAbs) :
    ∃ t, execReferenceCompare ppm time s = .next t ∧ t.num E.REF_DEGRADED = 1 ∧ t.parts = s.parts ∧
      (t.num E.REF_ACTIVE = (s.at time).num E.REF_ACTIVE ∨ t.num E.REF_ACTIVE = 1 - (s.at time).num E.REF_ACTIVE) := by
  have quiet : Eventless E.REF_ACTIVE := by
    unfold Eventless E.REF_ACTIVE E.EVENT_SEQ E.PART_EVENT_SEQ
    constructor <;> omega
  have quietFlag : Eventless E.REF_DEGRADED := by
    unfold Eventless E.REF_DEGRADED E.EVENT_SEQ E.PART_EVENT_SEQ
    constructor <;> omega
  have kept : BesideEvents State.parts := ⟨fun _ _ _ _ _ _ => rfl⟩
  let u := ((s.at time).setNum E.REF_DEGRADED 1).raise 0xE031 0
  have flag : u.num E.REF_DEGRADED = 1 := by rw [num_raise quietFlag, num_setNum, if_pos rfl]
  have active : u.num E.REF_ACTIVE = (s.at time).num E.REF_ACTIVE := by rw [num_raise quiet, num_setNum, if_neg (by decide)]
  have parts : u.parts = s.parts := kept.raise ..
  have drawn : u.draw.2.num E.REF_ACTIVE = (s.at time).num E.REF_ACTIVE := active
  rw [execReferenceCompare, if_neg (by omega)]
  dsimp only
  split
  · refine ⟨_, rfl, (num_setNum ..).trans ((if_neg (by decide)).trans flag), parts, .inr ?_⟩
    rw [num_setNum, if_pos rfl]
    exact congrArg _ active
  · exact ⟨_, rfl, flag, parts, .inl active⟩

/-- A module reset tells its cause and keeps which references are lost. -/
theorem moduleReset_facts (s : State) (cause : Nat) :
    (s.moduleReset cause).refsLost = s.refsLost ∧ (s.moduleReset cause).blob E.RESET_CAUSE = causeBytes cause s.now := by
  have fill {c : Prop} [Decidable c] (u : State) (key : Nat) (val : DVal) : (if c then u else u.setVal key val).refsLost = u.refsLost :=
    ite_same (φ := State.refsLost) rfl rfl
  have born (u : State) (on : Bool) : (u.reborn on).refsLost = u.refsLost := by
    unfold State.reborn
    exact (fill ..).trans (fill ..)
  constructor
  · unfold State.moduleReset
    exact (born ..).trans (forAll_same (φ := State.refsLost) (fun _ _ => by rfl) s)
  · unfold State.moduleReset
    exact (blob_of_dval (dval_bumpBy_other (by decide))).trans ((blob_setBlob ..).trans (if_pos rfl))

theorem execReferenceRestored_of_lost (lost : (s.at time).refsLost = 3) : ∃ t, execReferenceRestored r time s = .next t ∧ t.refsLost = 3 - 2 ^ r.val ∧
    t.num E.REF_ACTIVE = r.val ∧ t.sessions = [] ∧ t.blob E.RESET_CAUSE = causeBytes 5 (s.at time).now := by
  have quiet : Eventless E.REF_ACTIVE := by
    unfold Eventless E.REF_ACTIVE E.EVENT_SEQ E.PART_EVENT_SEQ
    constructor <;> omega
  have quietCause : Eventless E.RESET_CAUSE := by
    unfold Eventless E.RESET_CAUSE E.EVENT_SEQ E.PART_EVENT_SEQ
    constructor <;> omega
  have kept : BesideEvents State.refsLost := ⟨fun _ _ _ _ _ _ => rfl⟩
  obtain ⟨refs, cause⟩ := moduleReset_facts ({ s.at time with refsLost := 3 - 2 ^ r.val }) 5
  rw [execReferenceRestored, if_pos lost]
  refine ⟨_, rfl, (kept.raise ..).trans ((kept.setNum ..).trans refs), ?_, ?_, ?_⟩
  · rw [num_raise quiet, num_setNum, if_pos rfl]
  · exact raise_sessions_nil (setVal_sessions_nil (moduleReset_sessions ..) ..) ..
  · rw [blob_raise quietCause]
    exact (blob_of_dval (dval_setNum_other (by decide))).trans cause

theorem execReferenceRestored_of_found (lost : (s.at time).refsLost = 2 ^ r.val) :
    execReferenceRestored r time s = .next { s.at time with refsLost := 0 } := by
  have notThree : ∀ q : Fin 2, 2 ^ q.val ≠ 3 := by decide
  have one : (s.at time).refsLost ≠ 3 := by
    rw [lost]
    exact notThree r
  rw [execReferenceRestored, if_neg one, if_pos (by rw [lost]; exact Nat.testBit_two_pow_self), lost, Nat.sub_self]

end

end

/-! Sources (R550 to R557) -/

section
variable {s : State} {k : Fin 12} {p t0 f count time : Nat}

/-- A PLL that has failed works no more. -/
theorem pllFails_pllWorks (s : State) (k p : Nat) : (s.pllFails k p).pllWorks k p = false := by
  have failed : (s.pllFails k p).num (E.PLL_FAILED k) = s.num (E.PLL_FAILED k) ||| 2 ^ (p - 2) := (num_setNum ..).trans (if_pos rfl)
  rw [State.pllWorks, failed, Nat.testBit_or, Nat.testBit_two_pow_self, Bool.or_true]
  rfl

/-- The judgement of a PLL: it is stable at its frequency, and its partition looks whether the change may come. -/
theorem execSourceStable_of_judged (starting : ((s.at time).rick k).starting = some (p, t0, f)) (due : t0 + (s.at time).judgeNs f ≤ (s.at time).now) :
    ∃ t, execSourceStable k time s = .next t ∧ (t.rick k).starting = none ∧ p ∈ (t.rick k).stable ∧ (t.rick k).freq.getD p 0 = f ∧
      t.num (E.LIVE_SOURCE k) = (s.at time).num (E.LIVE_SOURCE k) := by
  let u := (s.at time).onRick k (fun r => { r with starting := none, stable := r.stable.filter (fun x => x != p) ++ [p], freq := r.freq.put p f })
  have rick : (u.rick k).starting = none ∧ p ∈ (u.rick k).stable ∧ (u.rick k).freq.getD p 0 = f := by
    rw [rick_onRick, if_pos rfl]
    exact ⟨rfl, by simp, by simp⟩
  have judged (n : Nat) : (u.clockJudged n).ricks = u.ricks ∧ (u.clockJudged n).dict = u.dict := by
    unfold State.clockJudged
    split
    · split <;> exact ⟨rfl, rfl⟩
    · exact ⟨rfl, rfl⟩
  unfold execSourceStable
  simp only [starting, if_neg (Nat.not_lt.mpr due)]
  cases part : u.partOf k with
  | none => exact ⟨u, rfl, rick.1, rick.2.1, rick.2.2, rfl⟩
  | some n =>
    have same : (u.clockJudged n).rick k = u.rick k := by rw [State.rick, (judged n).1, State.rick]
    refine ⟨u.clockJudged n, rfl, ?_⟩
    rw [same, State.num, State.dval, (judged n).2]
    exact ⟨rick.1, rick.2.1, rick.2.2, rfl⟩

/-- The partition that holds a rick is a matter of the masks alone (R65). -/
theorem partOf_congr {s t : State} (masks : ∀ n, t.num (E.RICK_MASK n) = s.num (E.RICK_MASK n)) (k : Nat) : t.partOf k = s.partOf k := by
  rw [State.partOf, State.partOf]
  simp only [masks]

/-- The live PLL of a rick of no partition: the idle one takes over where it is stable at the floor clock's 500 MHz, else the floor clock does. -/
theorem liveFails_of_no_partition {live : Nat} (pll : live = 2 ∨ live = 3) (running : s.num (E.LIVE_SOURCE k) = live) (alone : s.partOf k = none) :
    (s.liveFails k).num (E.LIVE_SOURCE k) = (if (5 - live) ∈ (s.rick k).stable ∧ (s.rick k).freq.getD (5 - live) 0 = 500 then 5 - live else 4) ∧
      (s.liveFails k).num (E.PLL_FAILED k) = s.num (E.PLL_FAILED k) ||| 2 ^ (live - 2) := by
  have quiet : Eventless (E.LIVE_SOURCE k) := by
    unfold Eventless E.LIVE_SOURCE E.EVENT_SEQ E.PART_EVENT_SEQ
    constructor <;> omega
  have quietFailed : Eventless (E.PLL_FAILED k) := by
    unfold Eventless E.PLL_FAILED E.EVENT_SEQ E.PART_EVENT_SEQ
    constructor <;> omega
  have idle : s.idlePll k = 5 - live := by
    rw [State.idlePll, running]
    obtain rfl | rfl := pll <;> rfl
  have good : ((s.rick k).stable.contains (5 - live) && (s.rick k).freq.getD (5 - live) 0 == 500) = true ↔
      (5 - live) ∈ (s.rick k).stable ∧ (s.rick k).freq.getD (5 - live) 0 = 500 := by simp
  have noPll (u : State) (owner : u.partOf k = none) (key : Nat) (q : Eventless key) : (u.noPll k).num key = u.num key := by
    unfold State.noPll
    rw [owner]
    exact ite_same (φ := fun s => s.num key) rfl (num_raise q ..)
  have masks (v : Nat) : (((s.pllFails k live).setNum (E.LIVE_SOURCE k) v).raise 0xE033 0).partOf k = none := by
    refine (partOf_congr (fun n => ?_) k).trans alone
    have quietMask : Eventless (E.RICK_MASK n) := by
      unfold Eventless E.RICK_MASK E.EVENT_SEQ E.PART_EVENT_SEQ
      constructor <;> omega
    rw [num_raise quietMask, num_setNum, if_neg (by unfold E.RICK_MASK E.LIVE_SOURCE; omega)]
    exact (num_setNum ..).trans (if_neg (by unfold E.RICK_MASK E.PLL_FAILED; omega))
  unfold State.liveFails
  rw [running, idle, alone, if_neg (by omega)]
  dsimp only
  constructor
  · rw [noPll _ (masks _) _ quiet, num_raise quiet, num_setNum, if_pos rfl]
    exact ite_congr (propext good) (fun _ => rfl) (fun _ => rfl)
  · have other : E.PLL_FAILED k ≠ E.LIVE_SOURCE k := by
      unfold E.PLL_FAILED E.LIVE_SOURCE
      omega
    rw [noPll _ (masks _) _ quietFailed, num_raise quietFailed, num_setNum, if_neg other]
    exact (num_setNum ..).trans (if_pos rfl)

theorem execSourceTimeout_of_late (starting : ((s.at time).rick k).starting = some (p, t0, f)) (due : t0 + (s.at time).num E.STABLE_TIMEOUT_NS ≤ (s.at time).now) :
    execSourceTimeout k time s = .next ((((((s.at time).pllFails k p).onRick k (fun r => { r with starting := none })).raise 0xE034 0)).noPll k) := by
  unfold execSourceTimeout
  simp only [starting, if_neg (Nat.not_lt.mpr due)]

/-- The controller clock of a rick fails: the running step of its partition is discarded (R557). -/
theorem execControllerClockFailure_facts : ∃ t, execControllerClockFailure k time s = .next t ∧
    (t.rick k).ctrlDead = some (((s.at time).rick k).ctrlDead.getD (s.at time).now) ∧
    ∀ n, (s.at time).partOf k = some n → ((s.at time).part n).phase = .running → (t.part n).ueDiscard = true := by
  let u := (s.at time).onRick k (fun r => { r with ctrlDead := some (r.ctrlDead.getD (max s.now time)) })
  have dead : (u.rick k).ctrlDead = some (((s.at time).rick k).ctrlDead.getD (s.at time).now) := by
    rw [rick_onRick, if_pos rfl]
    rfl
  unfold execControllerClockFailure
  dsimp only
  split
  case h_1 n part =>
    split
    case isTrue running =>
      refine ⟨_, rfl, dead, fun m same _ => ?_⟩
      obtain rfl := Option.some.inj (part.symm.trans same)
      rw [part_onPart, if_pos rfl]
    case isFalse still =>
      refine ⟨_, rfl, dead, fun m same runs => ?_⟩
      obtain rfl := Option.some.inj (part.symm.trans same)
      exact absurd runs still
  case h_2 part => exact ⟨_, rfl, dead, fun n same => by cases part.symm.trans same⟩

/-! Sources and controller clocks before their times -/

theorem execSourceStable_of_early (starting : ((s.at time).rick k).starting = some (p, t0, f)) (early : (s.at time).now < t0 + (s.at time).judgeNs f) :
    execSourceStable k time s = .next (s.at time) := by
  unfold execSourceStable
  simp only [starting, if_pos early]

theorem execSourceTimeout_of_early (starting : ((s.at time).rick k).starting = some (p, t0, f)) (early : (s.at time).now < t0 + (s.at time).num E.STABLE_TIMEOUT_NS) :
    execSourceTimeout k time s = .next (s.at time) := by
  unfold execSourceTimeout
  simp only [starting, if_pos early]

section
variable (idle : ((s.at time).rick k).starting = none)
include idle

theorem execSourceStable_of_idle : execSourceStable k time s = .next ((s.at time).onRick k (fun r => { r with ctrlDead := none })) := by
  unfold execSourceStable
  simp only [idle]

theorem execSourceTimeout_of_sound (sound : ((s.at time).rick k).ctrlDead = none) : execSourceTimeout k time s = .next (s.at time) := by
  unfold execSourceTimeout
  simp only [idle, sound]

theorem execSourceTimeout_of_dead (dead : ((s.at time).rick k).ctrlDead = some t0) : execSourceTimeout k time s =
    .next (if (s.at time).now < t0 + (s.at time).num E.STABLE_TIMEOUT_NS then s.at time else ((s.at time).raise 0xE034 0).degrade k) := by
  unfold execSourceTimeout
  simp only [idle, dead]

end

/-! The frequency counter and the monitor (R554, R558) -/

/-- The clock a rick's monitor compares its live PLL with. -/
def monitored (s : State) (k : Nat) : Nat := (match s.partOf k with | some n => s.runClock n | none => 500) * 65536

theorem execMonitorWindow_of_busy (taken : ¬ (((s.at time).rick k).measuring = none ∧ ((s.at time).num E.CLK_JUDGE ≠ 1 ∨ ((s.at time).rick k).starting = none))) :
    execMonitorWindow k count time s = .next (s.at time) := by
  refine congrArg _ (if_pos (.inl ?_))
  simp only [Classical.not_and_iff_not_or_not, not_or, Classical.not_not, ne_eq] at taken
  simp only [Bool.or_eq_true, Bool.and_eq_true, beq_iff_eq, ← Option.ne_none_iff_isSome]
  exact taken

theorem execMonitorWindow_of_near (below : 1000 * (100 * count - monitored (s.at time) k) ≤ monitored (s.at time) k)
    (above : 1000 * (monitored (s.at time) k - 100 * count) ≤ monitored (s.at time) k) : execMonitorWindow k count time s = .next (s.at time) := by
  refine congrArg _ (if_pos (.inr ?_))
  change (if 100 * count < monitored (s.at time) k then monitored (s.at time) k - 100 * count else 100 * count - monitored (s.at time) k) * 1000 ≤ monitored (s.at time) k
  split <;> omega

theorem execMonitorWindow_of_far (free : ((s.at time).rick k).measuring = none ∧ ((s.at time).num E.CLK_JUDGE ≠ 1 ∨ ((s.at time).rick k).starting = none))
    (far : monitored (s.at time) k < 1000 * (100 * count - monitored (s.at time) k) ∨ monitored (s.at time) k < 1000 * (monitored (s.at time) k - 100 * count)) :
    execMonitorWindow k count time s = execSourceFailure k time s := by
  refine congrArg _ (if_neg ?_)
  rintro (busy | near)
  · simp only [Bool.or_eq_true, Bool.and_eq_true, beq_iff_eq, free.1, Option.isSome_none, Bool.false_eq_true, false_or] at busy
    obtain other | idle := free.2
    · exact other busy.1
    · rw [idle] at busy
      cases busy.2
  · change (if 100 * count < monitored (s.at time) k then monitored (s.at time) k - 100 * count else 100 * count - monitored (s.at time) k) * 1000 ≤
      monitored (s.at time) k at near
    split at near <;> omega

theorem execFmDone_of_due {src fin : Nat} (measuring : ((s.at time).rick k).measuring = some (src, fin)) (due : fin ≤ (s.at time).now) :
    ∃ t, execFmDone k count time s = .next t ∧ (t.rick k).measuring = none ∧ t.num (E.FM_RESULT k) = if fmExists k src then count % 2 ^ 64 else 0 := by
  unfold execFmDone
  simp only [measuring, if_neg (Nat.not_lt.mpr due)]
  refine ⟨_, rfl, ?_, (num_setNum ..).trans (if_pos rfl)⟩
  rw [rick_onRick, if_pos rfl]

theorem execFmDone_of_early {src fin : Nat} (measuring : ((s.at time).rick k).measuring = some (src, fin)) (early : (s.at time).now < fin) :
    execFmDone k count time s = .next (s.at time) := by
  unfold execFmDone
  simp only [measuring, if_pos early]

theorem execFmDone_of_none (none : ((s.at time).rick k).measuring = none) : execFmDone k count time s = .next (s.at time) := by
  unfold execFmDone
  simp only [none]

end

/-- Settles O59: each event of the clocks before its time, and what it does then. -/
theorem clocks : Obligations.Clocks := by
  unfold Obligations.Clocks
  intro s r k ppm count time s1 rk
  rw [exec_referenceLoss, exec_bothReferencesLost, exec_referenceCompare, exec_referenceRestored, exec_sourceStable, exec_sourceTimeout, exec_monitorWindow,
    exec_sourceFailure, exec_controllerClockFailure, exec_fmDone]
  refine ⟨fun lost => ?lost, fun found other => ?spare, execReferenceLoss_of_active, fun lost first => ?both, fun fabric eth => ⟨_, rfl, loseReferences_facts fabric eth⟩,
    ⟨_, rfl⟩, fun near => ?near, execReferenceCompare_of_far, execReferenceRestored_of_lost, execReferenceRestored_of_found,
    fun p t0 f starting => ⟨execSourceStable_of_early starting, execSourceStable_of_judged starting, execSourceTimeout_of_early starting,
      fun late => ⟨_, execSourceTimeout_of_late starting late, rfl, pllFails_pllWorks ..⟩⟩,
    fun idle => ⟨execSourceStable_of_idle idle, execSourceTimeout_of_sound idle, fun t0 dead => ?dead⟩,
    ⟨execMonitorWindow_of_busy, execMonitorWindow_of_near, execMonitorWindow_of_far⟩, fun notA notB => ?floor,
    fun live pll running alone => ⟨_, rfl, liveFails_of_no_partition pll running alone⟩, execControllerClockFailure_facts,
    fun src fin measuring => ⟨execFmDone_of_early measuring, execFmDone_of_due measuring⟩, execFmDone_of_none⟩
  case lost => exact congrArg _ (if_pos lost)
  case spare => rw [execReferenceLoss, if_neg (by rw [found, Nat.zero_testBit]; decide), if_neg (not_not_intro found), if_neg other]
  case both => rw [execReferenceLoss, if_neg (by rw [first]; decide), if_pos lost, execBothReferencesLost]
  case near => exact congrArg _ (if_pos near)
  case dead =>
    rw [execSourceTimeout_of_dead idle dead]
    exact ⟨fun early => congrArg _ (if_pos early), fun late => congrArg _ (if_neg (Nat.not_lt.mpr late))⟩
  case floor => exact congrArg _ (if_pos ⟨notA, notB⟩)

end Sys2Proof.Proofs
end

section
/-!
PROOFS. Slot boundaries, wakes and entries of ricks (R519 to R533). O56.
-/
namespace Sys2Proof.Proofs
open Sys2Proof.Machine Sys2Proof.Laws

/-! Slot boundaries (R530 to R533) -/

section
variable (s : State)

/-- A deferral is counted and told; ricks, time, charge and limit stay. -/
theorem defer_view {α : Type} {φ : State → α} (bump : ∀ (s : State) n, φ (s.bump (E.WAKE_DEFERRALS n)) = φ s) (onPart : ∀ (s : State) n f, φ (s.onPart n f) = φ s)
    (raise : ∀ (s : State) code scope, φ (s.raise code scope) = φ s) (k : Nat) : φ (s.defer k) = φ s := by
  unfold State.defer
  split
  · exact ite_same rfl (ite_same (bump ..) ((raise ..).trans ((onPart ..).trans (bump ..))))
  · rfl

theorem defer_rick (k j : Nat) : (s.defer k).rick j = s.rick j :=
  defer_view (φ := fun s => s.rick j) s (fun _ _ => rfl) (fun _ _ _ => rfl) (fun _ _ _ => raise_rick ..) k

theorem defer_now (k : Nat) : (s.defer k).now = s.now :=
  defer_view (φ := State.now) s (fun _ _ => rfl) (fun _ _ _ => rfl) (fun _ _ _ => raise_now ..) k

theorem defer_slewLimit (k : Nat) : (s.defer k).slewLimit = s.slewLimit := by
  have quiet : Eventless E.SLEW_LIMIT_MA := by
    unfold Eventless E.SLEW_LIMIT_MA E.EVENT_SEQ E.PART_EVENT_SEQ
    constructor <;> omega
  have other (n : Nat) : E.SLEW_LIMIT_MA ≠ E.WAKE_DEFERRALS n := by
    unfold E.SLEW_LIMIT_MA E.WAKE_DEFERRALS
    omega
  exact congrArg (· * 27720) (defer_view (φ := fun s => s.num E.SLEW_LIMIT_MA) s (fun _ n => num_of_dval (dval_bumpBy_other (other n))) (fun _ _ _ => rfl)
    (fun _ _ _ => num_raise quiet ..) k)

/-- The state in which the first of the waiting ricks has begun its wake. -/
def wakeBegun (k : Nat) : State := ({ s.defer k with slew := (s.now, s.charged + s.rickStep k) } : State).startWake k

theorem wakeBegun_now (k : Nat) : (wakeBegun s k).now = s.now := defer_now ..
theorem wakeBegun_slewLimit (k : Nat) : (wakeBegun s k).slewLimit = s.slewLimit := defer_slewLimit ..
theorem wakeBegun_rick (k j : Nat) : (wakeBegun s k).rick j = if j = k then { s.rick k with move := some (0, s.now), waiting := none } else s.rick j := by
  unfold wakeBegun State.startWake
  rw [rick_onRick]
  change (if j = k then { (s.defer k).rick k with move := some (0, (s.defer k).now), waiting := none } else (s.defer k).rick j) = _
  rw [defer_rick, defer_rick, defer_now]

/-- What the wakes of a list of ricks may do: only they start, at this instant, and what is charged stays within the limit. -/
structure WakesOf (l : List Nat) (s t : State) : Prop where
  now : t.now = s.now
  others : ∀ j, j ∉ l → t.rick j = s.rick j
  waiting : ∀ j ∈ l, t.rick j = s.rick j ∨ (t.rick j).move = some (0, s.now)
  charge : t.slew = s.slew ∨ (t.slew.1 = s.now ∧ t.slew.2 ≤ s.slewLimit)

theorem startWakes_cons (k : Nat) (r : List Nat) :
    State.startWakes (k :: r) s = if s.slewLimit < s.charged + s.rickStep k then s else State.startWakes r (wakeBegun s k) := rfl

theorem startWakes_wakesOf (l : List Nat) : WakesOf l s (State.startWakes l s) := by
  induction l generalizing s with
  | nil => exact ⟨rfl, fun _ _ => rfl, fun _ none => absurd none List.not_mem_nil, .inl rfl⟩
  | cons k r ih =>
    rw [startWakes_cons]
    split
    case isTrue full => exact ⟨rfl, fun _ _ => rfl, fun _ _ => .inl rfl, .inl rfl⟩
    case isFalse fits =>
      obtain ⟨now, others, waiting, charge⟩ := ih (wakeBegun s k)
      rw [wakeBegun_now] at now waiting charge
      rw [wakeBegun_slewLimit] at charge
      refine ⟨now, fun j out => ?_, fun j _ => ?_, .inr ?_⟩
      · rw [List.mem_cons, not_or] at out
        rw [others j out.2, wakeBegun_rick, if_neg out.1]
      · by_cases later : j ∈ r
        · obtain same | moves := waiting j later
          · rw [same, wakeBegun_rick]
            split
            · exact .inr rfl
            · exact .inl rfl
          · exact .inr moves
        · rw [others j later, wakeBegun_rick]
          split
          · exact .inr rfl
          · exact .inl rfl
      · obtain same | charged := charge
        · rw [same]
          exact ⟨rfl, Nat.not_lt.mp fits⟩
        · exact charged

/-- The first of the waiting ricks starts when its step fits. -/
theorem startWakes_first {k : Nat} {r : List Nat} (fits : s.charged + s.rickStep k ≤ s.slewLimit) :
    ((State.startWakes (k :: r) s).rick k).move = some (0, s.now) := by
  have begun : ((wakeBegun s k).rick k).move = some (0, s.now) := by rw [wakeBegun_rick, if_pos rfl]
  obtain ⟨now, others, waiting, -⟩ := startWakes_wakesOf (wakeBegun s k) r
  rw [wakeBegun_now] at waiting
  rw [startWakes_cons, if_neg (Nat.not_lt.mpr fits)]
  by_cases later : k ∈ r
  · exact (waiting k later).elim (fun same => by rw [same, begun]) id
  · rw [others k later, begun]

end

/-! Triggers and waits (R530, R531) -/

section
variable {s : State} {n k : Fin 12} {time : Nat}

/-- The sleeping ricks of a partition that do not wait yet. -/
theorem waitWake_rick (s : State) (n j : Nat) (mem : j ∈ s.ricksOf n) (lo : 2 ≤ (s.rick j).pst) (hi : (s.rick j).pst ≤ 3) (still : (s.rick j).move = none)
    (fresh : (s.rick j).waiting = none) : ((s.waitWake n).rick j).waiting = some s.now := by
  have chosen : j ∈ (s.ricksOf n).filter (fun k => decide (2 ≤ (s.rick k).pst) && decide ((s.rick k).pst ≤ 3) && (s.rick k).move.isNone && (s.rick k).waiting.isNone) :=
    List.mem_filter.mpr ⟨mem, by simp [lo, hi, still, fresh]⟩
  refine (congrArg Rick.waiting (forAll_onRick (f := fun t r => { r with waiting := some t }) s (fun _ _ => by rfl) j)).trans ?_
  rw [if_pos chosen]

theorem execStaggerExpiry_of_trigger {t0 x y : Nat} (trigger : ((s.at time).part n).trigger = some (t0, x, y)) : execStaggerExpiry n time s =
    .next (if t0 + (s.at time).num E.STAGGER_NS ≤ (s.at time).now then (s.at time).waitWake n else s.at time) := by
  unfold execStaggerExpiry
  simp only [trigger]

theorem execStaggerExpiry_of_none (trigger : ((s.at time).part n).trigger = none) : execStaggerExpiry n time s = .next (s.at time) := by
  unfold execStaggerExpiry
  simp only [trigger]

/-! Wakes of ricks (R519) -/

/-- A rick of a partition of which another is not in state A. -/
theorem rickAwake_of_company {s : State} {k : Nat} (light : (s.rick k).pst ≤ 2)
    (company : s.partOf k = none ∨ ∃ m, s.partOf k = some m ∧ ∃ j ∈ s.ricksOf m, j ≠ k ∧ (s.rick j).on = false) :
    s.rickAwake k = s.onRick k (fun r => { r with pst := 0, move := none, waiting := none }) := by
  have warm : ¬ (s.rick k).pst = 3 := by omega
  unfold State.rickAwake
  dsimp only
  split
  case h_1 => rfl
  case h_2 n part =>
    rw [if_neg warm]
    obtain none | ⟨m, owner, j, mem, other, off⟩ := company
    · cases part.symm.trans none
    · obtain rfl := Option.some.inj (part.symm.trans owner)
      have asleep : (s.onRick k (fun r => { r with pst := 0, move := none, waiting := none })).awake n = false := by
        rw [State.awake, Bool.and_eq_false_iff, List.all_eq_false]
        exact .inr ⟨j, mem, by rw [rick_onRick, if_neg other, off]; decide⟩
      rw [if_neg (Bool.eq_false_iff.mp asleep)]

section
variable {st t0 : Nat} (move : ((s.at time).rick k).move = some (st, t0))
include move

theorem execRickWakeComplete_of_early (wake : st = 0) (early : (s.at time).now < t0 + wakeNs ((s.at time).rick k).pst) :
    execRickWakeComplete k time s = .next (s.at time) := by
  subst wake
  unfold execRickWakeComplete
  simp only [move, Nat.not_le.mpr early, and_false, if_false]

/-- A rick is awake; the last one of its partition would do more. -/
theorem execRickWakeComplete_of_due (wake : st = 0) (light : ((s.at time).rick k).pst ≤ 2) (due : t0 + wakeNs ((s.at time).rick k).pst ≤ (s.at time).now)
    (company : (s.at time).partOf k = none ∨ ∃ m, (s.at time).partOf k = some m ∧ ∃ j ∈ (s.at time).ricksOf m, j ≠ k.val ∧ ((s.at time).rick j).on = false) :
    execRickWakeComplete k time s = .next ((s.at time).onRick k (fun r => { r with pst := 0, move := none, waiting := none })) := by
  subst wake
  unfold execRickWakeComplete
  simp only [move, Nat.le_succ_of_le light, due, and_self, if_true]
  rw [rickAwake_of_company light company]

theorem execStateEntryComplete_of_early (early : st = 0 ∨ (s.at time).now < t0 + entryNs st) : execStateEntryComplete k time s = .next (s.at time) := by
  unfold execStateEntryComplete
  simp only [move, if_pos early]

end

theorem execRickWakeComplete_of_still (still : ((s.at time).rick k).move = none) : execRickWakeComplete k time s = .next (s.at time) := by
  unfold execRickWakeComplete
  simp only [still]

theorem execStateEntryComplete_of_still (still : ((s.at time).rick k).move = none) : execStateEntryComplete k time s = .next (s.at time) := by
  unfold execStateEntryComplete
  simp only [still]

/-! Entries (R519, R520, R522, R580) -/

section
variable {t0 : Nat}

/-- A rick that is not in state C or O keeps the module from being cold (R452). -/
theorem cold_of_warm {s : State} {k : Fin 12} (warm : (s.rick k).pst < 3) : s.cold = false := by
  rw [State.cold, Bool.and_eq_false_iff, List.all_eq_false]
  exact .inr ⟨k, List.mem_range.mpr k.isLt, by simp [Nat.not_le.mpr warm]⟩

/-- A rick of a partition without a trigger enters state S. -/
theorem execStateEntryComplete_light (move : ((s.at time).rick k).move = some (1, t0)) (due : t0 + 2000 ≤ (s.at time).now)
    (calm : ∀ m, (s.at time).partOf k = some m → ((s.at time).part m).trigger = none) :
    execStateEntryComplete k time s = .next ((s.at time).onRick k (fun r => { r with pst := 1, move := none })) := by
  let u := (s.at time).onRick k (fun r => { r with pst := 1, move := none })
  have light : (u.rick k).pst = 1 := by rw [rick_onRick, if_pos rfl]
  have notCold : u.cold = false := cold_of_warm (by rw [light]; decide)
  have notAllOff : (List.range 12).all (fun k => (u.rick k).pst == 4) = false :=
    List.all_eq_false.mpr ⟨k, List.mem_range.mpr k.isLt, by rw [light]; decide⟩
  have early : ¬ ((1 : Nat) = 0 ∨ (s.at time).now < t0 + entryNs 1) := by
    rw [entryNs]
    omega
  unfold execStateEntryComplete
  simp only [move, if_neg early]
  rw [if_neg (by decide : ¬ (1 : Nat) = 4), if_neg (by decide : ¬ (1 : Nat) = 3), if_neg (by omega : ¬ (2 ≤ 1 ∧ 1 ≤ 3 ∧ ((s.at time).rick k).pst ≤ 1))]
  change Host.Outcome.next (if (if (u.cold && !(s.at time).cold) = true then u.parkPorts else u).descending = true then _ else _) = _
  rw [notCold, Bool.false_and, if_neg Bool.false_ne_true]
  refine congrArg _ ?_
  split
  · rw [notAllOff, if_neg Bool.false_ne_true]
  · split
    · rfl
    · next n part =>
      have still : (u.part n).trigger = none := calm n part
      split
      · rfl
      · next e => cases still.symm.trans e

/-- The ports that go into electrical idle leave ricks and time as they are. -/
theorem parkPorts_view {α : Type} {φ : State → α} (setNum : ∀ (s : State) k v, φ (s.setNum k v) = φ s) (onEport : ∀ (s : State) e f, φ (s.onEport e f) = φ s) (s : State) :
    φ s.parkPorts = φ s := by
  unfold State.parkPorts
  split
  · rfl
  · exact (forAll_same (fun _ _ => (onEport ..).trans (setNum ..)) _).trans (setNum ..)

theorem besideRicks_descending : BesideRicks (fun s => (s.descending, s.now)) where
  same _ _ _ _ _ _ := rfl
  power _ _ _ _ := rfl
  trigger _ _ _ _ _ := rfl
  stores _ _ _ _ _ := rfl

/-- The last rick of a module reset is in state O: Table 20-1 begins from event 2 (R580). -/
theorem execStateEntryComplete_last (move : ((s.at time).rick k).move = some (4, t0)) (due : t0 + 5000000 ≤ (s.at time).now) (descending : (s.at time).descending = true)
    (others : ∀ j < 12, j ≠ k.val → ((s.at time).rick j).pst = 4) :
    ∃ t, execStateEntryComplete k time s = .next t ∧ (t.rick k).pst = 4 ∧ t.descending = false ∧ t.bootT0 = (s.at time).now := by
  let u := (s.at time).rickOff k
  let v := if (u.cold && !(s.at time).cold) = true then u.parkPorts else u
  have kept := besideRicks_descending.rickOff (s.at time) k
  have parked : (v.ricks, v.descending, v.now) = (u.ricks, u.descending, u.now) :=
    ite_same (φ := fun s => (s.ricks, s.descending, s.now)) (parkPorts_view (φ := fun s => (s.ricks, s.descending, s.now)) (fun _ _ _ => rfl) (fun _ _ _ => rfl) u) rfl
  simp only [Prod.mk.injEq] at kept parked
  have off (j : Nat) (inRange : j < 12) : (v.rick j).pst = 4 := by
    rw [State.rick, parked.1]
    refine (rickOff_pst ..).trans ?_
    split
    · rfl
    · next other => exact others j inRange other
  have allOff : (List.range 12).all (fun k => (v.rick k).pst == 4) = true := by
    simp only [List.all_eq_true, List.mem_range, beq_iff_eq]
    exact off
  have early : ¬ ((4 : Nat) = 0 ∨ (s.at time).now < t0 + entryNs 4) := by
    rw [entryNs]
    · omega
    all_goals decide
  unfold execStateEntryComplete
  simp only [move, if_neg early]
  rw [if_pos trivial, if_neg (by omega : ¬ (2 ≤ 4 ∧ 4 ≤ 3 ∧ ((s.at time).rick k).pst ≤ 1))]
  change ∃ t, Host.Outcome.next (if v.descending = true then (if (List.range 12).all (fun k => (v.rick k).pst == 4) = true then { v with descending := false, bootT0 := v.now } else v) else _) = _ ∧ _
  have instant : v.now = (s.at time).now := parked.2.2.trans kept.2
  rw [parked.2.1, kept.1, if_pos descending, allOff, if_pos rfl]
  clear_value v
  exact ⟨{ v with descending := false, bootT0 := v.now }, rfl, off k k.isLt, rfl, instant⟩

end

/-! The first step after a wake, WAKE_AT (R525, R528) -/

theorem execWakeBoundReached_of_bound {f : Nat} (bound : ((s.at time).part n).firstStep = some f) : execWakeBoundReached n time s =
    .next (if f ≤ (s.at time).now ∧ ((s.at time).part n).phase = .idle then (s.at time).idleBoundary n else s.at time) := by
  unfold execWakeBoundReached
  simp only [bound]

/-- A wake sets no entry but the states of ports that were parked, and the keep-alive port. -/
theorem wakePart_dval (s : State) (n cls : Nat) {key : Nat} (eth : ∀ e, key ≠ E.ETH_STATE e) (keepalive : key ≠ E.KEEPALIVE_PORT) :
    (s.wakePart n cls).dval key = s.dval key := by
  have unpark (s : State) : s.unparkPorts.dval key = s.dval key := by
    unfold State.unparkPorts
    refine (forAll_same (φ := fun s => s.dval key) (fun e s => ?_) _).trans (dval_setNum_other keepalive)
    exact dval_setNum_other (eth e)
  exact wakePart_view (φ := fun s => s.dval key) (fun _ _ _ => rfl) (fun _ _ _ _ => rfl) unpark (fun _ _ _ _ _ => rfl) s n cls

/-- A trigger of a sleeping partition that had none. -/
theorem wakePart_trigger (s : State) (n cls : Nat) (lo : 1 ≤ s.pstate n) (hi : s.pstate n ≤ 3) (calm : (s.part n).trigger = none) :
    ((s.wakePart n cls).part n).trigger = some (s.now, cls, s.pstate n) := by
  have light (u : State) : ((u.wakeLight n cls).part n).trigger = (u.part n).trigger :=
    forAll_same (φ := fun s => (s.part n).trigger) (fun _ _ => ite_same (φ := fun s => (s.part n).trigger) (by rfl) (by rfl)) u
  have deep (u : State) : ((u.waitWake n).part n).trigger = (u.part n).trigger := forAll_same (φ := fun s => (s.part n).trigger) (fun _ _ => by rfl) u
  unfold State.wakePart
  dsimp only
  rw [if_neg (by omega)]
  split
  case h_1 other => cases calm.symm.trans other
  case h_2 =>
    generalize begins : State.onPart _ n _ = t
    have begun : (t.part n).trigger = some (s.now, cls, s.pstate n) := by rw [← begins, part_onPart, if_pos rfl]
    exact ite_same (φ := fun s => (s.part n).trigger) ((light t).trans begun) (ite_same (φ := fun s => (s.part n).trigger) ((deep t).trans begun) begun)

/-! Idle partitions (R522, R523) -/

theorem startEntry_rick (s : State) (n st : Nat) {j : Nat} (mem : j ∈ s.ricksOf n) : ((s.startEntry n st).rick j).move = some (st, s.now) := by
  refine (congrArg Rick.move (forAll_onRick (f := fun t r => { r with move := some (st, t) }) s (fun _ _ => by rfl) j)).trans ?_
  rw [if_pos mem]

/-- No sleeping state can be left in no time. -/
theorem wakeBound_pos (s : State) (n st : Nat) : 0 < s.wakeBound n st := by
  have entry : 0 < entryNs st := by
    unfold entryNs
    split <;> decide
  unfold State.wakeBound
  dsimp only
  split
  · decide
  · exact Nat.add_pos_left (Nat.add_pos_left (Nat.add_pos_left (Nat.add_pos_left entry _) _) _) _

theorem chosen_of_no_latency (s : State) (n : Nat) (none : s.num (E.WAKE_LATENCY_NS n) = 0) : s.chosen n = 0 := by
  have never (st : Nat) : decide (s.wakeBound n st ≤ s.num (E.WAKE_LATENCY_NS n)) = false := by
    rw [none, decide_eq_false (Nat.not_le.mpr (wakeBound_pos ..))]
  simp only [State.chosen, List.find?_cons, never, List.find?_nil, Option.getD_none]

theorem execIdleHoldExpiry_of_early {t0 : Nat} (idle : ((s.at time).part n).idleSince = some t0) (early : (s.at time).now < t0 + (s.at time).num (E.IDLE_HOLD_NS n)) :
    execIdleHoldExpiry n time s = .next (s.at time) := by
  unfold execIdleHoldExpiry
  simp only [idle, Nat.not_le.mpr early, false_and, if_false]

theorem execIdleHoldExpiry_of_due {t0 : Nat} (idle : ((s.at time).part n).idleSince = some t0) (due : t0 + (s.at time).num (E.IDLE_HOLD_NS n) ≤ (s.at time).now)
    (live : (s.at time).exists n = true) (phase : ((s.at time).part n).phase = .idle) (calm : ((s.at time).part n).trigger = none) (ash : ((s.at time).part n).ash = none)
    (deep : 2 ≤ (s.at time).chosen n) (deeper : (s.at time).pstate n < (s.at time).chosen n)
    (still : ∀ j ∈ (s.at time).ricksOf n, ((s.at time).rick j).move = none ∧ ((s.at time).rick j).waiting = none ∧ ((s.at time).rick j).pst ≤ 1) :
    execIdleHoldExpiry n time s = .next ((s.at time).startEntry n ((s.at time).chosen n)) := by
  have all : (s.at time).ricksOf n |>.all (fun k => ((s.at time).rick k).move.isNone && ((s.at time).rick k).waiting.isNone && decide (((s.at time).rick k).pst ≤ 1)) := by
    simpa [List.all_eq_true, and_assoc] using still
  unfold execIdleHoldExpiry
  simp only [idle, due, phase, calm, ash, deep, deeper, all, live, and_self, if_true]

theorem execIdleHoldExpiry_of_no_latency (none : (s.at time).num (E.WAKE_LATENCY_NS n) = 0) : execIdleHoldExpiry n time s = .next (s.at time) := by
  unfold execIdleHoldExpiry
  dsimp only
  split
  · rw [if_neg]
    rintro ⟨-, -, -, -, deep, -⟩
    rw [chosen_of_no_latency _ _ none] at deep
    exact absurd deep (by decide)
  · rfl

/-- WAKE_AT is cleared, and its trigger is a tenant's. -/
theorem execWakeAtReached_of_due (set : (s.at time).num (E.WAKE_AT n) ≠ 0) (due : (s.at time).num (E.WAKE_AT n) ≤ (s.at time).now) :
    ∃ t, execWakeAtReached n time s = .next t ∧ t.num (E.WAKE_AT n) = 0 ∧ (1 ≤ (s.at time).pstate n → (s.at time).pstate n ≤ 3 →
      ((s.at time).part n).trigger = none → (t.part n).trigger = some ((s.at time).now, 1, (s.at time).pstate n)) := by
  let u := (s.at time).setNum (E.WAKE_AT n) 0
  have state : u.pstate n = (s.at time).pstate n := by
    have mask : u.num (E.RICK_MASK n) = (s.at time).num (E.RICK_MASK n) := (num_setNum ..).trans (if_neg (by unfold E.RICK_MASK E.WAKE_AT; omega))
    have ricks : u.ricksOf n = (s.at time).ricksOf n := by
      rw [State.ricksOf, State.ricksOf, mask]
      rfl
    rw [State.pstate, State.pstate, ricks]
    rfl
  refine ⟨u.wakePart n 1, congrArg _ (if_pos ⟨set, due⟩), ?_, fun lo hi calm => ?_⟩
  · rw [num_of_dval (wakePart_dval u n 1 (fun e => by unfold E.WAKE_AT E.ETH_STATE; omega) (by unfold E.WAKE_AT E.KEEPALIVE_PORT; omega)), num_setNum, if_pos rfl]
  · rw [wakePart_trigger u n 1 (by rw [state]; exact lo) (by rw [state]; exact hi) calm, state]
    rfl

end

/-- Settles O56: the wakes of a slot boundary, the triggers, and each event of a wake and of an entry at its time. -/
theorem powerAndWakes : Obligations.PowerAndWakes := by
  unfold Obligations.PowerAndWakes
  intro s n k time s1 win
  rw [exec_slotBoundary, exec_staggerExpiry, exec_rickWakeComplete, exec_stateEntryComplete, exec_wakeBoundReached, exec_wakeAtReached, exec_idleHoldExpiry]
  refine ⟨fun between => congrArg _ (if_pos between), fun boundary rising => ?boundary, fun t0 x y trigger => ?stagger, execStaggerExpiry_of_none,
    fun st t0 move => ⟨execRickWakeComplete_of_early move, execRickWakeComplete_of_due move, execStateEntryComplete_of_early move, ?light, ?last⟩,
    fun still => ⟨execRickWakeComplete_of_still still, execStateEntryComplete_of_still still⟩, fun f bound => ?bound,
    ⟨fun early => ?wakeAt, execWakeAtReached_of_due⟩, fun t0 idle => ⟨execIdleHoldExpiry_of_early idle, ?hold⟩, execIdleHoldExpiry_of_no_latency⟩
  case boundary =>
    obtain ⟨now, others, waiting, charge⟩ := startWakes_wakesOf s1 s1.waiters
    refine ⟨State.startWakes s1.waiters s1, ?_, now, others, waiting, charge, fun j first fits => ?_⟩
    · rw [execSlotBoundary, if_neg (not_not_intro boundary), if_neg (Bool.eq_false_iff.mp rising)]
    · obtain ⟨r, e⟩ := List.head?_eq_some_iff.mp first
      rw [e]
      exact startWakes_first s1 fits
  case stagger =>
    rw [execStaggerExpiry_of_trigger trigger]
    exact ⟨fun early => congrArg _ (if_neg (Nat.not_le.mpr early)), fun due => ⟨_, congrArg _ (if_pos due), waitWake_rick s1 n⟩⟩
  case light =>
    rintro rfl due calm
    exact execStateEntryComplete_light move due calm
  case last =>
    rintro rfl due descending others
    exact execStateEntryComplete_last move due descending others
  case bound =>
    rw [execWakeBoundReached_of_bound bound]
    exact ⟨fun early => congrArg _ (if_neg (fun both => absurd both.1 (Nat.not_le.mpr early))), fun due phase => congrArg _ (if_pos ⟨due, phase⟩)⟩
  case wakeAt =>
    refine congrArg _ (if_neg ?_)
    rintro ⟨set, due⟩
    exact early.elim set (Nat.not_lt.mpr due)
  case hold =>
    intro due live phase calm ash deep deeper still
    exact ⟨_, execIdleHoldExpiry_of_due idle due live phase calm ash deep deeper still, fun j mem => startEntry_rick _ _ _ mem⟩

end Sys2Proof.Proofs
end

section
/-!
PROOFS. The manifest of spares: its store, and the decisions that change it (R606 to R612). O39.
-/
namespace Sys2Proof.Proofs
open Sys2Proof.Machine Sys2Proof.Laws

/-- The manifest in force, the one being stored, and memory: no event changes them. -/
def spares (s : State) : Spare × Option (Spare × Nat) × Memory := (s.spare, s.spareNext, s.mem)

theorem besideTraffic_spares : BesideTraffic spares where
  same _ _ _ _ _ _ := rfl
  power _ _ _ _ := rfl
  trigger _ _ _ _ _ := rfl
  traffic _ _ _ _ _ _ _ _ _ := rfl
  dolli _ _ _ _ _ := rfl

theorem besideTraffic_mem : BesideTraffic State.mem where
  same _ _ _ _ _ _ := rfl
  power _ _ _ _ := rfl
  trigger _ _ _ _ _ := rfl
  traffic _ _ _ _ _ _ _ _ _ := rfl
  dolli _ _ _ _ _ := rfl

section
variable {s : State} {time : Nat}

theorem lastChan_spares (s : State) (k : Nat) : spares (s.lastChan k) = spares s := by
  unfold State.lastChan
  exact ite_same (φ := spares) (besideTraffic_spares.raise ..) rfl

/-! SPARE_MANIFEST_STORE (R612) -/

section
variable {m : Spare} {t0 : Nat} (storing : (s.at time).spareNext = some (m, t0))
include storing

theorem execSpareManifestStore_ok :
    ∃ t, execSpareManifestStore true time s = .next t ∧ spares t = (m, none, s.mem) ∧ t.num E.SPARE_SVN = m.svn := by
  have quiet : Eventless E.SPARE_SVN := by
    unfold Eventless E.SPARE_SVN E.EVENT_SEQ E.PART_EVENT_SEQ
    constructor <;> omega
  unfold execSpareManifestStore
  simp only [storing, if_true]
  refine ⟨_, rfl, ?_, ?_⟩
  · exact (forAll_same (φ := spares) (fun _ _ => besideTraffic_spares.onRick ..) _).trans (forAll_same (φ := spares) (fun _ _ => besideTraffic_spares.raise ..) _)
  · refine (forAll_same (φ := fun s => s.num E.SPARE_SVN) (fun _ _ => by rfl) _).trans ((forAll_same (φ := fun s => s.num E.SPARE_SVN) (fun _ _ => num_raise quiet ..) _).trans ?_)
    rw [num_setNum, if_pos rfl]

theorem execSpareManifestStore_failed :
    ∃ t, execSpareManifestStore false time s = .next t ∧ spares t = (s.spare, some (m, (s.at time).now), s.mem) := by
  unfold execSpareManifestStore
  simp only [storing, Bool.false_eq_true, if_false]
  exact ⟨_, rfl, besideTraffic_spares.raise ..⟩

end

/-! ROW_REPAIR, CHANNEL_FAILURE, SUBSTRATE_CHANNEL_FAILURE (R606 to R608) -/

variable {k : Fin 12}

/-- The row joins the manifest to be stored. -/
theorem execRowRepair_of_due {row : List Byte} (due : ((s.at time).rick k).rowsDue.find? (fun row => !(s.at time).draft.rows.contains row) = some row) :
    ∃ t, execRowRepair k time s = .next t ∧
      spares t = (s.spare, some ({ (s.at time).draft with rows := (s.at time).draft.rows ++ [row] }, (s.at time).now), s.mem) := by
  unfold execRowRepair
  simp only [due]
  have decided : spares (((s.at time).decideSpare (fun m => { m with rows := m.rows ++ [row] })).raise 0xE054 (scopeK k) [leNat row]) =
    (s.spare, some ({ (s.at time).draft with rows := (s.at time).draft.rows ++ [row] }, (s.at time).now), s.mem) := besideTraffic_spares.raise ..
  exact ⟨_, rfl, ite_same (φ := spares) ((besideTraffic_spares.raise ..).trans decided) decided⟩

/-- A spare channel that serves nothing is marked as failed. -/
theorem execChannelFailure_of_free_spare {j : Nat} (inRange : j < 8) (unused : (s.at time).spare.chans.getD (8 * k + j) 0xFF = 0xFF) :
    ∃ t, execChannelFailure k (128 + j) time s = .next t ∧
      spares t = (s.spare, some ({ (s.at time).draft with chans := (s.at time).draft.chans.put (8 * k + j) 0xFE }, (s.at time).now), s.mem) := by
  have spare : 128 + j - 128 = j := Nat.add_sub_cancel_left ..
  unfold execChannelFailure
  dsimp only
  rw [if_neg (by omega), spare, if_pos ⟨Nat.le_add_right .., unused⟩]
  exact ⟨_, rfl, lastChan_spares ..⟩

/-- A channel that fails with no spare left degrades its rick. -/
theorem execChannelFailure_of_no_spare {ch : Nat} (bonded : ch < 128) (none : (s.at time).freeChan k = none) :
    execChannelFailure k ch time s = .next (((s.at time).raise 0xE053 (scopeK k) [k, ch, 0xFF]).degrade k) := by
  unfold execChannelFailure
  simp only [if_neg (by omega : ¬ 136 ≤ ch), Nat.not_le.mpr bonded, false_and, if_false, if_pos bonded, none]

/-- Every address of a substrate channel that its rick lists as failed is dead. -/
theorem deadAt_of_failed {ch i : Nat} (channel : ch < 4) (inside : i < 2 ^ 37) (failed : 4 * k.val + ch ∈ (s.rick k).schan) :
    s.deadAt (tierS (4 * k + ch) + i) = true := by
  have row : (tierS (4 * k + ch) + i) / 2 ^ 37 % 128 = 4 * k + ch := by unfold tierS; omega
  have tier : (tierS (4 * k + ch) + i) / 2 ^ 44 = 1 := by unfold tierS; omega
  have rick : (4 * k.val + ch) / 4 = k := by omega
  unfold State.deadAt
  dsimp only
  rw [row, tier, rick]
  simp only [Bool.and_eq_true, List.contains_iff_mem, decide_eq_true_eq, beq_self_eq_true, true_and]
  exact ⟨by omega, failed⟩

theorem execSubstrateChannelFailure_of_live {ch : Nat} (channel : ch < 4) (live : ((s.at time).rick k).schan.contains (4 * k.val + ch) = false) :
    ∃ t, execSubstrateChannelFailure k ch time s = .next t ∧ (t.rick k).schan = ((s.at time).rick k).schan ++ [4 * k.val + ch] ∧ t.mem = s.mem := by
  unfold execSubstrateChannelFailure
  simp only [Nat.mod_eq_of_lt channel, live, Bool.false_eq_true, if_false]
  refine ⟨_, rfl, ?_, besideTraffic_mem.raise ..⟩
  rw [raise_rick]
  change (((s.at time).onRick k (fun r => { r with schan := r.schan ++ [4 * k.val + ch] })).rick k).schan = _
  rw [rick_onRick, if_pos rfl]

end

/-- Settles O39: the manifest in force and the one being stored after each decision; the addresses of a failed substrate channel. -/
theorem sparesAndRepairs : Obligations.SparesAndRepairs := by
  unfold Obligations.SparesAndRepairs
  intro s k time s1
  refine ⟨fun m t0 storing => ⟨?stored, ?again⟩, fun row due => ?row, fun j inRange unused => ?marked, fun ch bonded none => ?degraded, fun ch channel live => ?dead⟩
  case stored =>
    rw [exec_spareManifestStore]
    obtain ⟨t, run, kept, svn⟩ := execSpareManifestStore_ok storing
    simp only [spares, Prod.mk.injEq] at kept
    exact ⟨t, run, kept.1, kept.2.1, svn, kept.2.2⟩
  case again =>
    rw [exec_spareManifestStore]
    obtain ⟨t, run, kept⟩ := execSpareManifestStore_failed storing
    simp only [spares, Prod.mk.injEq] at kept
    exact ⟨t, run, kept⟩
  case row =>
    rw [exec_rowRepair]
    obtain ⟨t, run, kept⟩ := execRowRepair_of_due due
    simp only [spares, Prod.mk.injEq] at kept
    exact ⟨t, _, run, kept.2.1, rfl, rfl, rfl, kept.2.2⟩
  case marked =>
    rw [exec_channelFailure]
    obtain ⟨t, run, kept⟩ := execChannelFailure_of_free_spare inRange unused
    simp only [spares, Prod.mk.injEq] at kept
    exact ⟨t, _, run, kept.2.1, by rw [getD_put, if_pos rfl], kept.2.2⟩
  case degraded =>
    rw [exec_channelFailure]
    exact execChannelFailure_of_no_spare bonded none
  case dead =>
    rw [exec_substrateChannelFailure]
    obtain ⟨t, run, schan, mem⟩ := execSubstrateChannelFailure_of_live channel live
    exact ⟨t, run, schan, fun i inside => deadAt_of_failed channel inside (by rw [schan]; simp), mem⟩

end Sys2Proof.Proofs
end

section
/-!
PROOFS. Reading entries, blocks, subscriptions, and the copies in module flash (R474 to R477, R483). O49.
-/
namespace Sys2Proof.Proofs
open Sys2Proof.Machine Sys2Proof.Laws

/-- A deleted key is not listed. -/
theorem look_del_same {α : Type} (m : Tab α) (k : Nat) : Tab.look (Tab.del m k) k = none := by
  unfold Tab.del
  induction m with
  | nil => rfl
  | cons x r ih =>
    obtain ⟨a, v⟩ := x
    by_cases same : a = k
    · simpa [same] using ih
    · simp [same, Tab.look, ih]

/-! Reading draws free values at most -/

section
variable (s : State) (x : Session) (key : Nat)

theorem foldl_draw (l : List Nat) (a : List Byte × State) :
    ∃ k, (l.foldl (fun (a : List Byte × State) _ => let y := a.2.draw; (a.1 ++ leBytes 2 y.1.toNat, y.2)) a).2 = { a.2 with free := k } := by
  induction l generalizing a with
  | nil => exact ⟨a.2.free, rfl⟩
  | cons i r ih =>
    obtain ⟨k, e⟩ := ih (a.1 ++ leBytes 2 a.2.draw.1.toNat, a.2.draw.2)
    exact ⟨k, e⟩

theorem view_state (ten : Bool) : ∃ k, (s.view ten key).2 = { s with free := k } := by
  unfold State.view
  split
  · exact ⟨s.free + 1, rfl⟩
  · split
    · exact foldl_draw ..
    · refine ⟨s.free, ?_⟩
      split
      · rfl
      · split
        · rfl
        · split
          · rfl
          · dsimp only
            split <;> rfl

theorem readBytes_state : ∃ k, (s.readBytes x key).2 = { s with free := k } := by
  obtain ⟨k, drawn⟩ := view_state s key (x.role != 1)
  unfold State.readBytes
  dsimp only
  split
  · exact ⟨s.free, rfl⟩
  · split
    · next e => rw [e] at drawn; exact ⟨k, drawn⟩
    · next e => rw [e] at drawn; exact ⟨k, drawn⟩

/-- A value that is read needs nothing more than rights. -/
theorem readNeeds_of_read {b : List Byte} (read : (s.readBytes x key).1 = .inr b) : s.readNeeds x key = 0 := by
  unfold State.readBytes at read
  refine Decidable.byContradiction fun needs => ?_
  simp [needs] at read

end

/-! Reads and blocks -/

section
variable {s : State} {r : Rq} {idx sub off len : Nat} {x : Session}

theorem execDolliRead_facts (adm : Admitted s r opRead (idx * 256 + sub) x) :
    let y := (s.arrived r).readBytes x (idx * 256 + sub)
    (∀ c, y.1 = .inl c → execDolliRead r idx sub s = .next (y.2.respond r opRead (idx * 256 + sub) (tyOf (idx * 256 + sub)) { status := c })) ∧
    (∀ b, y.1 = .inr b → execDolliRead r idx sub s = .next (y.2.respond r opRead (idx * 256 + sub) (tyOf (idx * 256 + sub))
      (if 8192 < b.length then { status := 0x0A, total := b.length } else { total := b.length, data := b }))) := by
  intro y
  unfold execDolliRead
  rw [request_of_admitted adm (by decide)]
  constructor
  all_goals
    intro v read
    have e : (s.arrived r).readBytes x (idx * 256 + sub) = (_, y.2) := Prod.ext read rfl
    rw [e]
    rfl

section
variable (adm : Admitted s r opReadBlock (idx * 256 + sub) x)
include adm

theorem execReadBlock_of_too_large {snap : Bool} (large : 8192 < len) : execReadBlock r idx sub off len snap s =
    .next ((s.arrived r).respond r opReadBlock (idx * 256 + sub) (tyOf (idx * 256 + sub)) { status := 0x0A }) := by
  unfold execReadBlock
  dsimp only
  rw [request_of_admitted adm (by decide)]
  simp only [if_pos large, Option.elim]
  rfl

/-- A later block of a frozen value. -/
theorem execReadBlock_of_frozen {snap : Bool} {u : Nat} {b : List Byte} (small : len ≤ 8192) (needs : (s.arrived r).readNeeds x (idx * 256 + sub) = 0)
    (frozen : Tab.look x.snaps (idx * 256 + sub) = some (u, b)) (later : snap = false ∨ off ≠ 0) : execReadBlock r idx sub off len snap s =
      .next ((s.arrived r).respond r opReadBlock (idx * 256 + sub) (tyOf (idx * 256 + sub)) { off := off, total := b.length, data := (b.drop off).take len }) := by
  have old : (snap && off == 0) = false := Bool.and_eq_false_iff.mpr (later.imp_right (fun other => beq_eq_false_iff_ne.mpr other))
  unfold execReadBlock
  dsimp only
  rw [request_of_admitted adm (by decide)]
  simp only [if_neg (Nat.not_lt.mpr small), needs, frozen, old, Bool.false_eq_true, if_false, Option.elim]

section
variable {b : List Byte} (small : len ≤ 8192) (read : ((s.arrived r).readBytes x (idx * 256 + sub)).1 = .inr b)
include small read

theorem execReadBlock_of_unfrozen (none : Tab.look x.snaps (idx * 256 + sub) = none) : execReadBlock r idx sub off len false s =
    .next (((s.arrived r).readBytes x (idx * 256 + sub)).2.respond r opReadBlock (idx * 256 + sub) (tyOf (idx * 256 + sub))
      { off := off, total := b.length, data := (b.drop off).take len }) := by
  have e : (s.arrived r).readBytes x (idx * 256 + sub) = (.inr b, ((s.arrived r).readBytes x (idx * 256 + sub)).2) := Prod.ext read rfl
  generalize ((s.arrived r).readBytes x (idx * 256 + sub)).2 = t at e ⊢
  unfold execReadBlock
  dsimp only
  rw [request_of_admitted adm (by decide)]
  simp only [if_neg (Nat.not_lt.mpr small), none, e, readNeeds_of_read _ _ _ read, Bool.false_and, Bool.false_eq_true, if_false, Option.elim]

/-- SNAPSHOT at OFFSET 0 freezes the value. -/
theorem execReadBlock_of_snapshot : execReadBlock r idx sub 0 len true s =
    .next ((((s.arrived r).readBytes x (idx * 256 + sub)).2.onSession r.ses
        (fun z => { z with snaps := z.snaps.put (idx * 256 + sub) ((s.arrived r).now, b) })).respond r opReadBlock (idx * 256 + sub) (tyOf (idx * 256 + sub))
      { total := b.length, data := b.take len }) := by
  have e : (s.arrived r).readBytes x (idx * 256 + sub) = (.inr b, ((s.arrived r).readBytes x (idx * 256 + sub)).2) := Prod.ext read rfl
  generalize ((s.arrived r).readBytes x (idx * 256 + sub)).2 = t at e ⊢
  unfold execReadBlock
  dsimp only
  rw [request_of_admitted adm (by decide)]
  cases Tab.look x.snaps (idx * 256 + sub) <;>
    simp only [if_neg (Nat.not_lt.mpr small), e, readNeeds_of_read _ _ _ read, beq_self_eq_true, Bool.and_self, if_true, Option.elim, List.drop_zero]

end

end

/-! WRITE_BLOCK (R474, R475) -/

section
variable (t : State) {w : Waiting} {op key : Nat} {q : State × Option Nat}

/-- A write that answers with a code. -/
theorem settleOr_of_code {c : Nat} (code : q.2 = some c) :
    (t.settleOr w q).2.elim (t.settleOr w q).1 ((t.settleOr w q).1.respond r op key (tyOf key)) = t.outcome r op key (q.1, c) := by
  simp only [State.settleOr, code]
  unfold State.settle State.outcome
  split <;> rfl

/-- A write that waits for an eviction copy. -/
theorem settleOr_of_no_code (waits : q.2 = none) :
    (t.settleOr w q).2.elim (t.settleOr w q).1 ((t.settleOr w q).1.respond r op key (tyOf key)) = { q.1 with waits := t.waits ++ [w] } := by
  simp only [State.settleOr, waits, Option.elim]

end

section
variable {first last : Bool} {v : List Byte}

theorem execWriteBlock_facts (adm : Admitted s r opWriteBlock (idx * 256 + sub) x) :
    let key := idx * 256 + sub
    let s1 := s.arrived r
    let z := s1.stageBlock r.ses x key off first last v
    (∀ c, z.2 = .inl c → execWriteBlock r idx sub off first last v s = .next (z.1.respond r opWriteBlock key (tyOf key) { status := c })) ∧
    (z.2 = .inr none → execWriteBlock r idx sub off first last v s = .next (z.1.respond r opWriteBlock key (tyOf key) {})) ∧
    (∀ w, z.2 = .inr (some w) → let q := if checkOf key w true = 0 then z.1.putEntry x key w else (z.1, some (checkOf key w true))
      (∀ c, q.2 = some c → execWriteBlock r idx sub off first last v s = .next (z.1.outcome r opWriteBlock key (q.1, c))) ∧
      (q.2 = none → execWriteBlock r idx sub off first last v s = .next { q.1 with waits := z.1.waits ++ [.region r opWriteBlock (key / 256 % 16) w] })) := by
  intro key s1 z
  have e : s1.stageBlock r.ses x key off first last v = (z.1, z.2) := rfl
  unfold execWriteBlock
  dsimp only
  rw [request_of_admitted adm (by decide)]
  simp only [key, s1] at e
  refine ⟨fun c staged => ?_, fun staged => ?_, fun w whole => ?_⟩
  · rw [staged] at e
    rw [e]
    rfl
  · rw [staged] at e
    rw [e]
    rfl
  · rw [whole] at e
    rw [e]
    have checked : z.1.putChecked x key w true = if checkOf key w true = 0 then z.1.putEntry x key w else (z.1, some (checkOf key w true)) := by
      rw [State.putChecked, ite_not]
    refine ⟨fun c code => ?_, fun waits => ?_⟩
    · rw [← checked] at code ⊢
      exact congrArg _ (settleOr_of_code z.1 code)
    · rw [← checked] at waits ⊢
      exact congrArg _ (settleOr_of_no_code z.1 waits)

end

/-- A block beyond 8,192 bytes stages nothing. -/
theorem stageBlock_of_too_large {s : State} {ses key : Nat} {first last : Bool} {v : List Byte} (large : 8192 < v.length) :
    s.stageBlock ses x key off first last v = (s, .inl 0x0A) := by
  unfold State.stageBlock
  exact if_pos (.inl large)

/-- One block that is a whole value. -/
theorem stageBlock_of_whole {s : State} {ses key : Nat} {v : List Byte} (some : v ≠ []) (small : v.length ≤ 8192) (none : x.stage = [])
    (room : s.stagedAll + v.length ≤ 2 ^ 32) : (s.stageBlock ses x key 0 true true v).2 = .inr (.some v) := by
  have nonempty : 0 < v.length := List.length_pos_iff.mpr some
  have laid (old : List (Nat × List Byte)) (empty : old = []) : layPiece old 0 v = [(0, v)] := by rw [empty]; rfl
  have nothing : x.staged = 0 := by rw [Session.staged, none]; rfl
  have staged : Session.staged { x with stage := x.stage.put key ([(0, v)], .some (0 + v.length), s.now) } = v.length := by
    rw [none]
    exact (Nat.zero_add _).trans (Nat.zero_add _)
  have whole : wholeUpTo (0 + v.length) 0 [(0, v)] = .some v := by
    simp [wholeUpTo, Nat.pos_iff_ne_zero.mp nonempty]
  unfold State.stageBlock
  simp only [none, Tab.look]
  rw [laid [] rfl]
  simp only [if_true, ← none]
  rw [staged, nothing, if_neg (by omega), Option.bind_some, whole]

/-! SUBSCRIBE (R476) -/

section
variable (adm : Admitted s r opSubscribe (idx * 256 + sub) x)
include adm

theorem execSubscribe_of_cancel : execSubscribe r idx sub true s = .next (((s.arrived r).onSession r.ses
    (fun z => { z with subs := z.subs.filter (fun b => b.key != idx * 256 + sub) })).respond r opSubscribe (idx * 256 + sub) (tyOf (idx * 256 + sub)) {}) := by
  unfold execSubscribe
  dsimp only
  rw [request_of_admitted adm (by decide)]
  rfl

theorem execSubscribe_of_room (consent : (s.arrived r).readNeeds x (idx * 256 + sub) ≠ 0x0C)
    (room : (x.subs.filter (fun b => b.key != idx * 256 + sub)).length < 256) : ∃ u val, execSubscribe r idx sub false s =
      .next ((({ s.arrived r with free := u } : State).onSession r.ses (fun z => { z with subs := (z.subs.filter (fun b => b.key != idx * 256 + sub)) ++
        [{ key := idx * 256 + sub, id := r.id, last := val }] })).respond r opSubscribe (idx * 256 + sub) (tyOf (idx * 256 + sub)) {}) := by
  obtain ⟨u, drawn⟩ := view_state (s.arrived r) (idx * 256 + sub) (x.role != 1)
  refine ⟨u, ((s.arrived r).view (x.role != 1) (idx * 256 + sub)).1, ?_⟩
  unfold execSubscribe
  dsimp only
  rw [request_of_admitted adm (by decide)]
  simp only [Bool.false_eq_true, if_false, consentErr, if_neg consent, if_neg (Nat.not_le.mpr room), Option.elim, drawn]

end

/-! STORE (R474, R483) -/

section
variable {ok : Bool}

/-- A STORE of one entry that is admitted: only the class and the flash decide. -/
theorem execStore_of_admitted (adm : Admitted s r opStore (idx * 256 + sub) x) (one : idx * 256 + sub ≠ 0xFFFFFF) : execStore r idx sub ok s =
    .next (if clsOf (idx * 256 + sub) ≠ .S then (s.arrived r).turnedAway r opStore (idx * 256 + sub) 0x06
      else if ok = false then (s.arrived r).turnedAway r opStore (idx * 256 + sub) 0x0D
      else ((s.arrived r).storeOne (idx * 256 + sub)).respond r opStore (idx * 256 + sub) (tyOf (idx * 256 + sub)) {}) := by
  obtain ⟨accepted, fresh, alone, room, rights⟩ := adm
  unfold execStore State.request
  dsimp only
  rw [accept_eq_arrived accepted]
  simp only [fresh, alone, rights, one, Nat.not_le.mpr room, and_false, Bool.false_eq_true, if_false, ne_eq, not_true_eq_false, not_false_eq_true, true_and]
  by_cases cls : clsOf (idx * 256 + sub) = .S
  · cases ok <;> simp only [cls, not_true_eq_false, Bool.true_eq_false, if_true, if_false]
    all_goals rfl
  · simp only [cls, not_false_eq_true, if_true]
    rfl

/-- The stored copy of an entry is its value in force. -/
theorem look_storeOne (s : State) (key : Nat) : Tab.look (s.storeOne key).stored key = Tab.look s.dict key := by
  unfold State.storeOne
  cases held : Tab.look s.dict key with
  | none => exact look_del_same ..
  | some v => exact (look_put ..).trans (if_pos rfl)

/-- STORE of 0xFFFF/FF by an operator on network B. -/
theorem execStore_of_all (accepted : ((s.at r.t).accept r.ses r.seq r.ok).2 = some x) (fresh : x.kept.find? (fun k => k.1 == r.id) = none)
    (alone : (s.arrived r).waits.any (fun w => w.ses == r.ses && w.id == r.id) = false) (room : (s.arrived r).unanswered r.ses < 64)
    (all : idx * 256 + sub = 0xFFFFFF) (op : x.role = 1) (net : x.net ≠ 0) (held : (s.arrived r).num E.BOOT_STATE ≠ 4) : execStore r idx sub true s =
      .next ((s.arrived r).storeAll.respond r opStore (idx * 256 + sub) (tyOf (idx * 256 + sub)) {}) := by
  unfold execStore State.request
  dsimp only
  rw [accept_eq_arrived accepted]
  simp only [fresh, alone, all, op, net, held, Nat.not_le.mpr room, Bool.true_eq_false, Bool.false_eq_true, if_false, ne_eq, not_true_eq_false, and_self, if_true,
    false_and]

end

end

/-- Settles O49: reads and blocks of an admitted session, what they answer, and the copies in module flash. -/
theorem readsBlocksAndStores : Obligations.ReadsBlocksAndStores := by
  unfold Obligations.ReadsBlocksAndStores
  intro s r idx sub off len snap first last cancel ok v x s1 key y say
  rw [exec_dolliRead, exec_readBlock, exec_readBlock, exec_writeBlock, exec_subscribe, exec_store]
  refine ⟨readBytes_state .., execDolliRead_facts, fun adm => ⟨execReadBlock_of_too_large adm, fun u b => execReadBlock_of_frozen adm, ?unfrozen, ?frozen⟩,
    execWriteBlock_facts, stageBlock_of_too_large, stageBlock_of_whole, fun adm => ⟨?removed, ?subscribe⟩, fun adm one => ⟨fun cls => ?wrong, fun cls failed => ?flash, fun cls stores => ?one⟩, ?all⟩
  case unfrozen =>
    rintro b small read none rfl
    exact execReadBlock_of_unfrozen adm small read none
  case frozen => exact fun b small read => execReadBlock_of_snapshot adm small read
  case removed =>
    rintro rfl
    exact execSubscribe_of_cancel adm
  case subscribe =>
    rintro rfl consent room
    exact execSubscribe_of_room adm consent room
  case wrong => rw [execStore_of_admitted adm one, if_pos cls]
  case flash => rw [execStore_of_admitted adm one, if_neg (not_not_intro cls), if_pos failed]
  case one =>
    rw [execStore_of_admitted adm one, if_neg (not_not_intro cls), if_neg (by rw [stores]; decide)]
    exact ⟨rfl, look_storeOne ..⟩
  case all =>
    rintro accepted fresh alone room all op net held rfl
    exact execStore_of_all accepted fresh alone room all op net held

end Sys2Proof.Proofs
end

section
/-!
PROOFS. Fabric ports: training, lanes, return entries, transit (R419 to R425, R647). O54.
-/
namespace Sys2Proof.Proofs
open Sys2Proof.Machine Sys2Proof.Laws

@[simp] theorem fport_onFport (s : State) (p : Nat) (f : FPort → FPort) (i : Nat) : (s.onFport p f).fport i = if i = p then f (s.fport p) else s.fport i := getD_put ..

theorem fport_onFport_same (s : State) (p : Nat) (f : FPort → FPort) : (s.onFport p f).fport p = f (s.fport p) := (fport_onFport ..).trans (if_pos rfl)

theorem besideEvents_fport (p : Nat) : BesideEvents (fun s => s.fport p) := ⟨fun _ _ _ _ _ _ => rfl⟩

section
variable {s : State} {p : Fin 16} {time : Nat}

theorem eventless_portState : Eventless (E.PORT_STATE p) := by
  unfold Eventless E.PORT_STATE E.EVENT_SEQ E.PART_EVENT_SEQ
  constructor <;> omega

theorem eventless_laneMap : Eventless (E.LANE_MAP p) := by
  unfold Eventless E.LANE_MAP E.EVENT_SEQ E.PART_EVENT_SEQ
  constructor <;> omega

/-- The spare lane in use changes no more than an event does. -/
theorem BesideEvents.lastLane {α : Type} {φ : State → α} (q : BesideEvents φ) (s : State) (p : Nat) : φ (s.lastLane p) = φ s := by
  unfold State.lastLane
  exact ite_same (q.raise ..) rfl

theorem num_lastLane {key : Nat} (quiet : Eventless key) (s : State) (p : Nat) : (s.lastLane p).num key = s.num key := by
  unfold State.lastLane
  exact ite_same (φ := fun s => s.num key) (num_raise quiet ..) rfl

/-! The credits granted at link-up (R421) -/

/-- A key below the first of a table of rising keys is not listed in it. -/
theorem look_grants_below (v : Nat → Nat) {a c : Nat} (below : c < a) (k : Nat) :
    Tab.look (((List.range' a k).filter (fun c => v c != 0)).map (fun c => (c, 4 * v c))) c = none := by
  induction k generalizing a with
  | zero => rfl
  | succ k ih =>
    rw [List.range'_succ, List.filter_cons]
    split
    · rw [List.map_cons, Tab.look, if_neg (Nat.ne_of_gt below), if_pos below]
    · exact ih (Nat.lt_succ_of_lt below)

theorem getD_grants (v : Nat → Nat) {a c k : Nat} (from_ : a ≤ c) (below : c < a + k) :
    Tab.getD (((List.range' a k).filter (fun c => v c != 0)).map (fun c => (c, 4 * v c))) c 0 = 4 * v c := by
  induction k generalizing a with
  | zero => omega
  | succ k ih =>
    rw [List.range'_succ, List.filter_cons]
    by_cases first : a = c
    · subst first
      by_cases none : v a = 0
      · simp [none, Tab.getD, look_grants_below v (Nat.lt_succ_self a) k]
      · simp [none, Tab.getD, Tab.look]
    · have rest := ih (a := a + 1) (by omega) (by omega)
      split
      · rw [List.map_cons, Tab.getD, Tab.look, if_neg first, if_neg (by omega)]
        exact rest
      · exact rest

/-! Training (R419, Table 15-4) -/

theorem execLinkTrainingStart_of_due (may : (s.at time).mayTrain p = true)
    (state : (s.at time).portState p = 0 ∨ ((s.at time).portState p = 1 ∧ ((s.at time).fport p).ev = 0)) (due : ((s.at time).fport p).t0 ≤ (s.at time).now) :
    ∃ t, execLinkTrainingStart p time s = .next t ∧ t.portState p = 1 ∧ (t.fport p).ev = 1 ∧ (t.fport p).t0 = (s.at time).now := by
  refine ⟨(s.at time).train p, ?_, ?_, ?_, ?_⟩
  · unfold execLinkTrainingStart
    simp only [may, due, decide_true, Bool.true_and, Bool.and_true, Bool.or_eq_true, Bool.and_eq_true, beq_iff_eq, state, if_true]
  · exact (num_setNum ..).trans (if_pos rfl)
  · rw [State.train, fport_onFport_same]
  · rw [State.train, fport_onFport_same]

theorem execLinkTrainingStart_of_not (held : (s.at time).mayTrain p = false ∨ 2 ≤ (s.at time).portState p ∨ (s.at time).now < ((s.at time).fport p).t0) :
    execLinkTrainingStart p time s = .next (s.at time) := by
  refine congrArg _ (if_neg ?_)
  simp only [Bool.and_eq_true, Bool.or_eq_true, beq_iff_eq, decide_eq_true_eq]
  rintro ⟨⟨may, state⟩, due⟩
  obtain no | state' | early := held
  · rw [may] at no
    cases no
  · omega
  · exact absurd due (Nat.not_le.mpr early)

section
variable (training : (s.at time).portState p = 1)
include training

section
variable {locked : Nat} (event : ((s.at time).fport p).ev = 1) (due : ((s.at time).fport p).t0 + 8000000 ≤ (s.at time).now)
include event due

theorem execEqualisationComplete_of_two (two : 2 ≤ ((List.range 9).filter (fun l => !locked.testBit l)).length) :
    execEqualisationComplete p locked time s = .next ((s.at time).portDown p) := by
  unfold execEqualisationComplete
  simp only [training, event, due, beq_self_eq_true, decide_true, Bool.and_self, if_true, two]

/-- One failed lane, or none: lane 8 takes its place. -/
theorem execEqualisationComplete_of_one (one : ((List.range 9).filter (fun l => !locked.testBit l)).length ≤ 1) :
    ∃ t, execEqualisationComplete p locked time s = .next t ∧ (t.fport p).ev = 2 ∧ t.portState p = 1 ∧
      t.num (E.LANE_MAP p) = match (List.range 9).filter (fun l => !locked.testBit l) with | [l] => if l < 8 then l else 0xFF | _ => 0xFF := by
  unfold execEqualisationComplete
  simp only [training, event, due, beq_self_eq_true, decide_true, Bool.and_self, if_true, Nat.not_le.mpr (Nat.lt_succ_of_le one), if_false]
  generalize (List.range 9).filter (fun l => !locked.testBit l) = failed at one
  refine ⟨_, rfl, ?_, ?_, ?_⟩
  · rw [BesideEvents.lastLane (besideEvents_fport p), BesideEvents.setNum (besideEvents_fport p), fport_onFport_same]
  · refine (num_lastLane eventless_portState ..).trans ?_
    rw [num_setNum, if_neg (by unfold E.PORT_STATE E.LANE_MAP; omega)]
    exact training
  · rw [num_lastLane eventless_laneMap, num_setNum, if_pos rfl]
    match failed with
    | [] => rfl
    | [l] => rfl
    | _ :: _ :: _ => simp at one

end

section
variable {peer : Nat} (event : ((s.at time).fport p).ev = 2) (due : ((s.at time).fport p).t0 + 8300000 ≤ (s.at time).now)
include event due

theorem execPeerIdentityExchange_of_match (known : (s.at time).num (E.EXPECT_PEER p) = 0 ∨ (s.at time).num (E.EXPECT_PEER p) = peer) :
    ∃ t, execPeerIdentityExchange p peer time s = .next t ∧ t.num (E.PEER p) = peer % 2 ^ 64 ∧ (t.fport p).ev = 4 ∧ t.portState p = 1 := by
  have admits : ((s.at time).portState p == 1 && ((s.at time).fport p).ev == 2 && decide (((s.at time).fport p).t0 + 8300000 ≤ (s.at time).now)) = true := by
    simp [training, event, due]
  refine ⟨((s.at time).setNum (E.PEER p) (peer % 2 ^ 64)).onFport p (fun f => { f with ev := 4 }), congrArg _ ((if_pos admits).trans (if_neg ?_)), ?_, ?_, ?_⟩
  · rintro ⟨want, other⟩
    exact known.elim want other
  · change ((s.at time).setNum (E.PEER p) (peer % 2 ^ 64)).num (E.PEER p) = _
    rw [num_setNum, if_pos rfl]
  · rw [fport_onFport_same]
  · refine (num_setNum ..).trans ((if_neg ?_).trans training)
    unfold E.PORT_STATE E.PEER
    omega

theorem execPeerIdentityExchange_of_mismatch (want : (s.at time).num (E.EXPECT_PEER p) ≠ 0) (other : (s.at time).num (E.EXPECT_PEER p) ≠ peer) :
    execPeerIdentityExchange p peer time s =
      .next (((((s.at time).setNum (E.PEER p) (peer % 2 ^ 64)).raise 0xEF04 (scopeF p)).onFport p (fun f => { f with blocked := true })).portDown p) := by
  unfold execPeerIdentityExchange
  simp only [training, event, due, beq_self_eq_true, decide_true, Bool.and_self, if_true]
  rw [if_pos ⟨want, other⟩]

end

theorem execLinkUp_of_due (event : ((s.at time).fport p).ev = 4) (due : ((s.at time).fport p).t0 + 8400000 ≤ (s.at time).now) :
    ∃ t, execLinkUp p time s = .next t ∧ t.portState p = 2 ∧ (t.fport p).tx = [] ∧ (t.fport p).acked = [] ∧ (t.fport p).rx = [] ∧
      ∀ c < 32, (t.fport p).credits.getD c 0 = 4 * (s.at time).positions p c := by
  unfold execLinkUp
  simp only [training, event, due, beq_self_eq_true, decide_true, Bool.and_self, if_true]
  refine ⟨_, rfl, (num_raise eventless_portState ..).trans ((num_setNum ..).trans (if_pos rfl)), ?_⟩
  rw [raise_fport, fport_onFport_same, List.range_eq_range']
  exact ⟨rfl, rfl, rfl, fun c inRange => getD_grants _ (Nat.zero_le c) (by omega)⟩

theorem execTrainingTimeout_of_due (begun : ((s.at time).fport p).ev ≠ 0) (due : ((s.at time).fport p).t0 + 100000000 ≤ (s.at time).now) :
    execTrainingTimeout p time s = .next ((s.at time).onFport p (fun f => { f with ev := 0, t0 := (s.at time).now + 1000000000 })) := by
  unfold execTrainingTimeout
  simp only [training, due, bne_iff_ne.mpr begun, beq_self_eq_true, decide_true, Bool.and_self, if_true]

end

theorem execEqualisationComplete_of_early {locked : Nat} (early : (s.at time).now < ((s.at time).fport p).t0 + 8000000) :
    execEqualisationComplete p locked time s = .next (s.at time) := by
  unfold execEqualisationComplete
  simp only [Nat.not_le.mpr early, decide_false, Bool.and_false, Bool.false_eq_true, if_false]

theorem execLinkUp_of_not (held : (s.at time).portState p ≠ 1 ∨ ((s.at time).fport p).ev ≠ 4 ∨ (s.at time).now < ((s.at time).fport p).t0 + 8400000) :
    execLinkUp p time s = .next (s.at time) := by
  refine congrArg _ (if_neg ?_)
  simp only [Bool.and_eq_true, beq_iff_eq, decide_eq_true_eq]
  rintro ⟨⟨training, event⟩, due⟩
  omega

theorem execTrainingTimeout_of_not (held : ((s.at time).fport p).ev = 0 ∨ (s.at time).now < ((s.at time).fport p).t0 + 100000000) :
    execTrainingTimeout p time s = .next (s.at time) := by
  refine congrArg _ (if_neg ?_)
  simp only [Bool.and_eq_true, bne_iff_ne, decide_eq_true_eq]
  rintro ⟨⟨-, begun⟩, due⟩
  omega

/-! Lanes (R422) -/

section
variable (up : (s.at time).portState p = 2)
include up

theorem execLaneSwap_of_free {lane : Nat} (idle : ((s.at time).fport p).swap = none) (inRange : lane < 8) (free : (s.at time).num (E.LANE_MAP p) = 0xFF) :
    execLaneSwap p lane time s = .next ((s.at time).onFport p (fun f => { f with swap := some (lane, (s.at time).now) })) := by
  unfold execLaneSwap
  simp only [up, idle, free, bne_self_eq_false, decide_eq_false (by omega : ¬ 8 < lane), Option.isSome_none, Bool.or_self, Bool.false_eq_true, if_false, ne_eq,
    not_true_eq_false, if_neg (by omega : ¬ lane = 8)]

theorem execLaneSwap_of_used {lane : Nat} (idle : ((s.at time).fport p).swap = none) (inRange : lane < 8) (used : (s.at time).num (E.LANE_MAP p) ≠ 0xFF)
    (other : (s.at time).num (E.LANE_MAP p) ≠ lane) : execLaneSwap p lane time s = .next ((s.at time).portDown p) := by
  unfold execLaneSwap
  simp only [up, idle, bne_self_eq_false, decide_eq_false (by omega : ¬ 8 < lane), Option.isSome_none, Bool.or_self, Bool.false_eq_true, if_false, if_pos used,
    if_neg (Ne.symm other)]

end

section
variable {l t0 : Nat} (swap : ((s.at time).fport p).swap = some (l, t0))
include swap

theorem execLaneSwapResume_of_early (early : (s.at time).now < t0 + 5120) : execLaneSwapResume p time s = .next (s.at time) := by
  unfold execLaneSwapResume
  simp only [swap, Nat.not_le.mpr early, decide_false, Bool.and_false, Bool.false_eq_true, if_false]

theorem execLaneSwapResume_of_due (up : (s.at time).portState p = 2) (due : t0 + 5120 ≤ (s.at time).now) :
    ∃ t, execLaneSwapResume p time s = .next t ∧ t.num (E.LANE_MAP p) = l ∧ (t.fport p).swap = none := by
  unfold execLaneSwapResume
  simp only [swap, up, due, beq_self_eq_true, decide_true, Bool.and_self, if_true]
  refine ⟨_, rfl, ?_, ?_⟩
  · rw [num_lastLane eventless_laneMap, num_raise eventless_laneMap]
    refine (num_of_dval (dval_bumpBy_other ?_)).trans ((num_setNum ..).trans (if_pos rfl))
    unfold E.LANE_MAP E.FLIT_RETRIES
    omega
  · rw [BesideEvents.lastLane (besideEvents_fport p), raise_fport, State.replay, BesideEvents.bumpBy (besideEvents_fport p), fport_onFport_same]

end

/-! MAINT_FLIT (R420) -/

theorem returnCode_injective {i j : Nat} (same : returnCode i = returnCode j) : i = j := by
  unfold returnCode at same
  split at same <;> split at same <;> omega

theorem returnEntry_fport (s : State) (p code e : Nat) : (s.returnEntry p code e).fport p =
    { s.fport p with acked := (s.fport p).acked.put code (bits e 11 0), credits := (s.fport p).credits.put code ((s.fport p).credits.getD code 0 + bits e 31 16) } := by
  unfold State.returnEntry
  refine ite_same (φ := fun s => s.fport p) ?_ (fport_onFport_same ..)
  rw [BesideEvents.bumpBy (besideEvents_fport p), fport_onFport_same]

/-- What the return entries of a list leave of a port: an owner that has sent is acknowledged and gets its credits, every other one keeps what it has. -/
theorem returnEntries_fport {l : List Nat} (once : l.Nodup) (has : Nat → Bool) (e : Nat → Nat) (s : State) (p : Nat) :
    let t := forAll l (fun i s => if has (returnCode i) then s.returnEntry p (returnCode i) (e i) else s) s
    (t.fport p).tx = (s.fport p).tx ∧ ∀ i,
      (i ∈ l → has (returnCode i) = true → (t.fport p).acked.getD (returnCode i) 0 = bits (e i) 11 0 ∧
        (t.fport p).credits.getD (returnCode i) 0 = (s.fport p).credits.getD (returnCode i) 0 + bits (e i) 31 16) ∧
      ((i ∉ l ∨ has (returnCode i) = false) → (t.fport p).acked.getD (returnCode i) 0 = (s.fport p).acked.getD (returnCode i) 0 ∧
        (t.fport p).credits.getD (returnCode i) 0 = (s.fport p).credits.getD (returnCode i) 0) := by
  unfold forAll
  induction l generalizing s with
  | nil => exact ⟨rfl, fun i => ⟨fun mem => absurd mem List.not_mem_nil, fun _ => ⟨rfl, rfl⟩⟩⟩
  | cons j r ih =>
    obtain ⟨fresh, once⟩ := List.nodup_cons.mp once
    rw [List.foldl_cons]
    obtain ⟨tx, entries⟩ := ih once (if has (returnCode j) then s.returnEntry p (returnCode j) (e j) else s)
    cases sent : has (returnCode j) with
    | false =>
      simp only [sent, Bool.false_eq_true, if_false] at tx entries ⊢
      refine ⟨tx, fun i => ⟨fun mem any => ?_, fun not => ?_⟩⟩
      · have later : i ∈ r := (List.mem_cons.mp mem).resolve_left (by rintro rfl; rw [sent] at any; cases any)
        exact (entries i).1 later any
      · exact (entries i).2 (not.imp_left (fun out mem => out (List.mem_cons_of_mem _ mem)))
    | true =>
      simp only [sent, if_true, returnEntry_fport, getD_put] at tx entries ⊢
      refine ⟨tx, fun i => ⟨fun mem any => ?_, fun not => ?_⟩⟩
      · by_cases here : i = j
        · subst here
          have kept := (entries i).2 (.inl fresh)
          simpa using kept
        · have later := (entries i).1 ((List.mem_cons.mp mem).resolve_left here) any
          rwa [if_neg (fun same => here (returnCode_injective same))] at later
      · have other : ¬ returnCode i = returnCode j := by
          intro same
          obtain rfl := returnCode_injective same
          exact not.elim (fun out => out List.mem_cons_self) (fun none => by rw [sent] at none; cases none)
        have kept := (entries i).2 (not.imp_left (fun out mem => out (List.mem_cons_of_mem _ mem)))
        rwa [if_neg other, if_neg other] at kept

theorem execMaintFlit_of_up {pay : List Byte} (up : (s.at time).portState p = 2) : execMaintFlit p pay time s =
    .next (forAll (List.range 28) (fun i t => if ((s.at time).fport p).tx.any (fun x => x.1 == returnCode i) then t.returnEntry p (returnCode i) (fld pay (6 * i) 6)
      else t) (s.at time)) := by
  unfold execMaintFlit
  simp only [up, beq_self_eq_true, if_true]

/-! TRANSIT_FLIT (R424, R425) -/

section
variable {pos : Nat} {flit : List Byte} (up : (s.at time).portState p = 2) (lo : 1 ≤ pos) (hi : pos ≤ 999)
include up lo hi

theorem execTransitFlit_of_unassigned (none : (s.at time).rxOwner p pos = 0xFF) :
    execTransitFlit p pos flit time s = .next ((s.at time).bump (E.UNASSIGNED_DROPS p)) := by
  have carried : ((s.at time).portState p != 2 || pos == 0 || decide (999 < pos)) = false := by
    simp [up]
    omega
  unfold execTransitFlit
  simp only [carried, none, Bool.false_eq_true, if_false, if_true]

/-- A flit leaves through the port that its code names. -/
theorem execTransitFlit_of_transit {q : Nat} (inRange : q < 16) (code : (s.at time).rxOwner p pos = 0x10 + q) (other : q ≠ p.val)
    (far : (s.at time).portState q = 2) (paired : (s.at time).txOwner q pos = 0x10 + p.val) :
    ∃ t, execTransitFlit p pos flit time s = .next t ∧ (t.fport q).out = ((s.at time).fport q).out ++ [(pos, flit)] ∧ t.mem = s.mem := by
  have carried : ((s.at time).portState p != 2 || pos == 0 || decide (999 < pos)) = false := by
    simp [up]
    omega
  have port : 0x10 + q - 0x10 = q := by omega
  unfold execTransitFlit
  simp only [carried, code, Bool.false_eq_true, if_false, port]
  rw [if_neg (by omega), if_pos (by omega), if_pos ⟨far, paired⟩]
  refine ⟨_, rfl, ?_, rfl⟩
  rw [fport_onFport_same, fport_onFport, if_neg other]

end

end

/-- Settles O54: each event of a port at its time, the return entries owner by owner, the way of a transit flit. -/
theorem fabricPorts : Obligations.FabricPorts := by
  unfold Obligations.FabricPorts
  intro s p peer lane pos time locked pay flit s1 f failed
  rw [exec_linkTrainingStart, exec_equalisationComplete, exec_peerIdentityExchange, exec_linkUp, exec_trainingTimeout, exec_laneSwap, exec_laneSwapResume, exec_portDown,
    exec_cablePresent, exec_cablePresent, exec_maintFlit, exec_transitFlit]
  refine ⟨execLinkTrainingStart_of_due, execLinkTrainingStart_of_not,
    fun training event due => ⟨execEqualisationComplete_of_two training event due, execEqualisationComplete_of_one training event due⟩, execEqualisationComplete_of_early,
    fun training event due => ⟨execPeerIdentityExchange_of_match training event due, execPeerIdentityExchange_of_mismatch training event due⟩, execLinkUp_of_due,
    execLinkUp_of_not, execTrainingTimeout_of_due, execTrainingTimeout_of_not, fun up idle inRange => ⟨execLaneSwap_of_free up idle inRange, execLaneSwap_of_used up idle inRange⟩,
    fun l t0 up swap => ⟨execLaneSwapResume_of_early swap, execLaneSwapResume_of_due swap up⟩, fun linked => ?down, rfl, fun notUp => ?notUp, fun up => ?maint,
    fun up lo hi => ⟨execTransitFlit_of_unassigned up lo hi, ?transit⟩⟩
  case down =>
    have linked : (s1.portState p == 1 || s1.portState p == 2) = true := by simpa using linked
    exact ⟨congrArg _ (if_pos linked), congrArg _ (if_pos linked)⟩
  case notUp =>
    have down : (s1.portState p != 2) = true := bne_iff_ne.mpr notUp
    refine ⟨congrArg _ (if_neg (by simpa using notUp)), congrArg _ (if_pos ?_)⟩
    change (s1.portState p != 2 || _ || _) = true
    rw [down, Bool.true_or, Bool.true_or]
  case maint =>
    obtain ⟨tx, entries⟩ := returnEntries_fport (List.nodup_range (n := 28)) (fun c => f.tx.any (fun x => x.1 == c)) (fun i => fld pay (6 * i) 6) s1 p
    refine ⟨_, execMaintFlit_of_up up, ?_, tx, fun i inRange => ⟨(entries i).1 (List.mem_range.mpr inRange), fun none => (entries i).2 (.inr none)⟩⟩
    refine forAll_same (φ := State.mem) (fun i t => ite_same (φ := State.mem) ?_ rfl) s1
    unfold State.returnEntry
    exact ite_same (φ := State.mem) rfl rfl
  case transit =>
    intro lo16 hi32 other
    obtain ⟨q, code⟩ := Nat.exists_eq_add_of_le lo16
    rw [code, Nat.add_sub_cancel_left]
    exact execTransitFlit_of_transit up lo hi (by omega) code (by omega)

end Sys2Proof.Proofs
end

section
/-!
PROOFS. Fabric messages at a partition (R417, R418, R424 to R436, R440, R525, R527). O52.
-/
namespace Sys2Proof.Proofs
open Sys2Proof.Machine Sys2Proof.Laws

/-! Every row of a fabric message delivers it in the one way -/

section
variable (m : FabMsg) (t : Nat)

/-- A row delivers its message under its KIND; `act` is what it does at an awake partition. -/
def Delivers (c : Instr) (row kind : Nat) : Prop := ∃ act, ∀ s, exec c s = .next ((s.at t).arrive m kind row act)

/-- A row takes its message as a token. -/
def TakesToken (c : Instr) (row : Nat) : Prop := ∃ act, ∀ s, exec c s = .next (tokenIn m row (s.at t) act)

variable {m t}

theorem TakesToken.delivers {c : Instr} {row : Nat} (takes : TakesToken m t c row) : Delivers m t c row 7 := by
  obtain ⟨act, runs⟩ := takes
  exact ⟨_, runs⟩

theorem takesToken_of_lrToken {c : Instr} {row : Nat} {act : State → Nat → Nat → Nat → State} (runs : ∀ s, exec c s = .next (lrTokenIn m row (s.at t) act)) :
    TakesToken m t c row := ⟨_, runs⟩

theorem takesToken_of_turnToken {c : Instr} {row : Nat} {act : State → Nat → State} (runs : ∀ s, exec c s = .next (turnTokenIn m row (s.at t) act)) :
    TakesToken m t c row := ⟨_, runs⟩

theorem delivers_of_reduction {c : Instr} {f32 : Bool} {kind : Nat} (runs : ∀ s, exec c s = .next (reduceIn f32 kind m (s.at t))) : Delivers m t c kind kind := ⟨_, runs⟩

variable (m t)

theorem takesToken_rows : TakesToken m t (.token m t) 7 ∧ TakesToken m t (.gateToken m t) 9 ∧ TakesToken m t (.voteRound m t) 10 ∧
    TakesToken m t (.verdictQuery m t) 11 ∧ TakesToken m t (.turnFinal m t) 13 ∧ TakesToken m t (.turnParked m t) 14 ∧ TakesToken m t (.turnFail m t) 15 ∧
    TakesToken m t (.turnSwitch m t) 16 ∧ TakesToken m t (.turnAbort m t) 17 ∧ TakesToken m t (.turnUnpark m t) 18 ∧ TakesToken m t (.turnQuery m t) 19 :=
  ⟨⟨_, exec_token m t⟩, takesToken_of_lrToken (exec_gateToken m t), takesToken_of_lrToken (exec_voteRound m t), takesToken_of_lrToken (exec_verdictQuery m t),
    takesToken_of_turnToken (exec_turnFinal m t), takesToken_of_turnToken (exec_turnParked m t), takesToken_of_turnToken (exec_turnFail m t),
    takesToken_of_turnToken (exec_turnSwitch m t), takesToken_of_turnToken (exec_turnAbort m t), takesToken_of_turnToken (exec_turnUnpark m t), ⟨_, exec_turnQuery m t⟩⟩

variable {m t}

theorem delivers_of_fabricRow {y : Instr × Nat × Nat} (row : FabricRow m t y) : Delivers m t y.1 y.2.1 y.2.2 := by
  obtain ⟨token, gate, vote, query, final, parked, fail, switch, abort, unpark, turnQuery⟩ := takesToken_rows m t
  simp only [FabricRow, List.mem_cons, List.not_mem_nil, or_false] at row
  rcases row with rfl | rfl | rfl | rfl | rfl | rfl | rfl | rfl | rfl | rfl | rfl | rfl | rfl | rfl | rfl | rfl | rfl | rfl | rfl
  · exact ⟨_, exec_put m t⟩
  · exact ⟨_, exec_getRequest m t⟩
  · exact ⟨_, exec_getResponse m t⟩
  · exact delivers_of_reduction (exec_reduceF32 m t)
  · exact delivers_of_reduction (exec_reduceI32 m t)
  · exact ⟨_, exec_counterAdd m t⟩
  · exact token.delivers
  · exact ⟨_, exec_ack m t⟩
  · exact gate.delivers
  · exact vote.delivers
  · exact query.delivers
  · exact ⟨_, exec_turnWrite m t⟩
  · exact final.delivers
  · exact parked.delivers
  · exact fail.delivers
  · exact switch.delivers
  · exact abort.delivers
  · exact unpark.delivers
  · exact turnQuery.delivers

end

/-! Messages that no partition takes, or that one holds -/

section
variable {s : State} {m : FabMsg} (kind row : Nat) (act : State → Nat → State)

theorem arrive_of_down (position : m.pos ≠ 0) (down : s.num (E.PORT_STATE m.port) ≠ 2) : s.arrive m kind row act = s := if_pos ⟨position, down⟩

theorem arrive_of_unassigned (linked : m.pos = 0 ∨ s.num (E.PORT_STATE m.port) = 2) (unassigned : s.rxCode m = 0xFF) :
    s.arrive m kind row act = s.bumpBy (E.UNASSIGNED_DROPS m.port) 32 (msgFlits m) := by
  unfold State.arrive
  dsimp only
  rw [if_neg (fun ⟨position, down⟩ => linked.elim position down), if_pos unassigned]

theorem arrive_of_nobody (assigned : s.rxCode m ≠ 0xFF)
    (nobody : 12 ≤ s.rxCode m ∨ s.exists (s.rxCode m) = false ∨ (s.part (s.rxCode m)).ash.isSome = true) : s.arrive m kind row act = s := by
  have gone : (decide (12 ≤ s.rxCode m) || !s.exists (s.rxCode m) || (s.part (s.rxCode m)).ash.isSome) = true := by
    simpa [or_assoc] using nobody
  unfold State.arrive
  dsimp only
  rw [if_neg assigned, if_pos gone, ite_self]

/-- A sleeping partition is woken and holds the message. -/
theorem arrive_of_asleep {n : Nat} (reaches : Reaches s m n) (asleep : s.stacksActive n = false) : s.arrive m kind row act =
    { s.woken m n with held := (s.woken m n).held.put n ((s.woken m n).held.getD n [] ++ [.fab row m]) } := by
  obtain ⟨up, code, part, live, ash⟩ := reaches
  have takes : (decide (12 ≤ n) || !s.exists n || (s.part n).ash.isSome) = false := by simp [live, ash, part]
  have sleeps (f : FPort → FPort) : (if m.pos = 0 then s else s.onFport m.port f).stacksActive n = false := ite_same (φ := fun s => s.stacksActive n) asleep asleep
  unfold State.arrive
  simp only [code, if_neg (by omega : ¬ (m.pos ≠ 0 ∧ s.num (E.PORT_STATE m.port) ≠ 2)), if_neg (by omega : ¬ n = 0xFF), takes, sleeps, Bool.false_eq_true, if_false]
  rfl

end

section
variable {α : Type} {φ : State → α} (q : BesideTraffic φ) {s : State}
include q

theorem BesideTraffic.woken (m : FabMsg) (n : Nat) : φ (s.woken m n) = φ s := by
  unfold State.woken
  have counted (f : FPort → FPort) : φ (if m.pos = 0 then s else s.onFport m.port f) = φ s := ite_same rfl (q.onFport ..)
  exact ite_same (counted _) ((q.wakePart ..).trans (counted _))

theorem BesideTraffic.received (m : FabMsg) (n kind : Nat) : φ (s.received m n kind) = φ s := by
  unfold State.received
  exact (q.nicRecord ..).trans (q.woken ..)

theorem BesideTraffic.refuseMsg (n : Nat) (m : FabMsg) : φ (s.refuseMsg n m) = φ s := by
  unfold State.refuseMsg State.refuseOnly State.ackTo State.sendOnly
  exact (q.raise ..).trans ((q.bump ..).trans (q.sendBy ..))

end

/-! Messages that an awake partition takes (R418, R430 to R436, R440) -/

section
variable {s : State} {m : FabMsg} {n t : Nat} (reaches : Reaches (s.at t) m n) (awake : (s.at t).stacksActive n = true)
include reaches awake

/-- A write, a reduction or a count that no live buffer accepts. -/
theorem exec_of_refused {y : Instr × Nat × Nat}
    (row : y ∈ [(Instr.put m t, 1, 1), (.reduceF32 m t, 4, 2), (.reduceI32 m t, 5, 2), (.counterAdd m t, 6, 3)])
    (none : ((s.at t).received m n y.2.1).accepts n m y.2.2 = none) : exec y.1 s = .next (((s.at t).received m n y.2.1).refuseMsg n m) := by
  simp only [List.mem_cons, List.not_mem_nil, or_false] at row
  rcases row with rfl | rfl | rfl | rfl
  · rw [exec_put, execPut, putIn, arrive_of_awake reaches awake, none]
  · rw [exec_reduceF32, execReduceF32, reduceF32In, reduceIn, arrive_of_awake reaches awake, none]
  · rw [exec_reduceI32, execReduceI32, reduceI32In, reduceIn, arrive_of_awake reaches awake, none]
  · rw [exec_counterAdd, execCounterAdd, counterAddIn, arrive_of_awake reaches awake, none]

section
variable {b : Buf}

theorem execPut_of_accepted (takes : ((s.at t).received m n 1).accepts n m 1 = some b) (plain : isPiece (payload m) = false) :
    let u := (s.at t).received m n 1
    let w := (u.writeTier n (u.bufTaddr n b m.roff) (payload m)).ackTo n m 0
    execPut m t s = .next (if m.notify then w.notify n b m.rcounter m.addv else w) := by
  rw [execPut, putIn, arrive_of_awake reaches awake, takes]
  simp only [State.landPut, plain, Bool.false_eq_true, if_false, Bool.and_true]

theorem reduceIn_of_accepted {f32 : Bool} {kind : Nat} (takes : ((s.at t).received m n kind).accepts n m 2 = some b) :
    let u := (s.at t).received m n kind
    let w := (u.reduceTier n (u.bufTaddr n b m.roff) f32 (payload m)).ackTo n m 0
    reduceIn f32 kind m (s.at t) = if m.notify then w.notify n b m.rcounter m.addv else w := by
  rw [reduceIn, arrive_of_awake reaches awake, takes]

theorem execCounterAdd_of_accepted (takes : ((s.at t).received m n 6).accepts n m 3 = some b) :
    execCounterAdd m t s = .next ((((s.at t).received m n 6).ackTo n m 0).notify n b m.rcounter m.addv) := by
  rw [execCounterAdd, counterAddIn, arrive_of_awake reaches awake, takes]

end

/-! GET and its response (R433) -/

theorem execGetRequest_of_elsewhere (elsewhere : ((s.at t).received m n 2).addressed n m = false) :
    execGetRequest m t s = .next (((s.at t).received m n 2).refuseMsg n m) := by
  rw [execGetRequest, getRequestIn, arrive_of_awake reaches awake]
  simp only [elsewhere, Bool.false_eq_true, if_false]

theorem execGetRequest_of_target {b : Buf} (here : ((s.at t).received m n 2).addressed n m = true)
    (target : ((s.at t).received m n 2).target n m.rkey m.roff m.len 0 false = some b) :
    let u := (s.at t).received m n 2
    let x := u.nicRead n (u.bufTaddr n b m.roff) m.len
    (∀ d, x.2 = some d → execGetRequest m t s =
      .next (x.1.sendOnly { path := 1, part := n, tag := 0, msgid := 0, kind := 3, dest := m.src, len := m.len, aux := m.msgid % 2 ^ 32, data := d })) ∧
    (x.2 = none → execGetRequest m t s = .next (x.1.ackTo n m 2)) := by
  intro u x
  have e : u.nicRead n (u.bufTaddr n b m.roff) m.len = (x.1, x.2) := rfl
  rw [execGetRequest, getRequestIn, arrive_of_awake reaches awake]
  simp only [here, if_true, target]
  constructor
  · intro d read
    rw [read] at e
    rw [e]
  · intro none
    rw [none] at e
    rw [e]

theorem execGetResponse_of_awake : let u := (s.at t).received m n 3
    execGetResponse m t s = .next (if !u.addressed n m then u.refuseOnly n
      else if (Tab.look u.flights (bits m.aux 31 0)).map Flight.part ≠ some n then u
      else if bits m.aux 39 32 = 0 then u.flightData (bits m.aux 31 0) (payload m) else u.flightAck (bits m.aux 31 0) (bits m.aux 39 32)) := by
  rw [execGetResponse, getResponseIn, arrive_of_awake reaches awake]

theorem execAck_of_awake : let u := (s.at t).received m n 8
    execAck m t s = .next (if !u.addressed n m then u.refuseOnly n
      else if (Tab.look u.flights (bits m.aux 31 0)).map Flight.part = some n then u.flightAck (bits m.aux 31 0) (bits m.aux 39 32) else u) := by
  rw [execAck, ackIn, arrive_of_awake reaches awake]

/-! Tokens (R427) -/

theorem tokenIn_of_elsewhere (elsewhere : ((s.at t).received m n 7).addressed n m = false) (row : Nat) (act : State → Nat → State) :
    tokenIn m row (s.at t) act = ((s.at t).received m n 7).refuseMsg n m := by
  rw [tokenIn, arrive_of_awake reaches awake, if_neg (Bool.eq_false_iff.mp elsewhere)]

theorem exec_of_token_elsewhere (elsewhere : ((s.at t).received m n 7).addressed n m = false) {c : Instr}
    (row : c ∈ [Instr.token m t, .gateToken m t, .voteRound m t, .verdictQuery m t, .turnFinal m t, .turnParked m t, .turnFail m t, .turnSwitch m t, .turnAbort m t,
      .turnUnpark m t, .turnQuery m t]) : exec c s = .next (((s.at t).received m n 7).refuseMsg n m) := by
  have takes : ∃ row, TakesToken m t c row := by
    obtain ⟨token, gate, vote, query, final, parked, fail, switch, abort, unpark, turnQuery⟩ := takesToken_rows m t
    simp only [List.mem_cons, List.not_mem_nil, or_false] at row
    rcases row with rfl | rfl | rfl | rfl | rfl | rfl | rfl | rfl | rfl | rfl | rfl
    · exact ⟨_, token⟩
    · exact ⟨_, gate⟩
    · exact ⟨_, vote⟩
    · exact ⟨_, query⟩
    · exact ⟨_, final⟩
    · exact ⟨_, parked⟩
    · exact ⟨_, fail⟩
    · exact ⟨_, switch⟩
    · exact ⟨_, abort⟩
    · exact ⟨_, unpark⟩
    · exact ⟨_, turnQuery⟩
  obtain ⟨row, act, runs⟩ := takes
  rw [runs, tokenIn_of_elsewhere reaches awake elsewhere]

omit reaches awake in
theorem besideTraffic_group (n i : Nat) : BesideTraffic (fun s => s.group n i) where
  same _ _ _ _ _ _ := rfl
  power _ _ _ _ := rfl
  trigger _ _ _ _ _ := rfl
  traffic _ _ _ _ _ _ _ _ _ := rfl
  dolli _ _ _ _ _ := rfl

theorem execToken_of_group {g : Nat} (here : ((s.at t).received m n 7).addressed n m = true)
    (group : (List.range 64).find? (fun g => (((s.at t).received m n 7).group n g).enabled &&
      fld (((s.at t).received m n 7).group n g).bytes 0 2 == Config.barrierGroup m.body) = some g) :
    execToken m t s = .next ((((s.at t).received m n 7).ackTo n m 0).barrierIn n g (Config.barrierSeq m.body) (Config.barrierMember m.body)) := by
  have acked (i : Nat) : (((s.at t).received m n 7).ackTo n m 0).group n i = ((s.at t).received m n 7).group n i := (besideTraffic_group n i).sendBy ..
  rw [execToken, barrierTokenIn, tokenIn_of_taken ⟨reaches, awake, here, rfl⟩]
  simp only [acked, group]

end

/-! BUFFER_FREED (R431) -/

theorem execBufferFreed_of_live {s : State} {p : Fin 12} {rkey t : Nat} {b : Buf} (listed : (s.at t).buffer p rkey = some b) (live : b.closed = false) :
    execBufferFreed p rkey t s = .next (s.at t) := by
  unfold execBufferFreed
  simp only [listed, live, Bool.false_eq_true, if_false]

theorem execBufferFreed_of_closed {s : State} {p : Fin 12} {rkey t : Nat} {b : Buf} (listed : (s.at t).buffer p rkey = some b) (closed : b.closed = true) :
    ∃ u, execBufferFreed p rkey t s = .next u ∧ u.buffer p rkey = none ∧ u.mem = s.mem := by
  unfold execBufferFreed
  simp only [listed, closed, if_true]
  exact ⟨_, rfl, look_del_same .., rfl⟩

/-- Settles O52: the one way a message is delivered, and what each kind does at an awake partition. -/
theorem fabricMessages : Obligations.FabricMessages := by
  unfold Obligations.FabricMessages
  intro s m n p rkey t s1
  refine ⟨fun y row => ?deliver, fun kind => (besideTraffic_mem.refuseMsg ..).trans (besideTraffic_mem.received ..), fun reaches awake => ?take, fun b listed => ?freed⟩
  case deliver =>
    obtain ⟨act, runs⟩ := delivers_of_fabricRow row
    rw [runs]
    exact ⟨fun position down => congrArg _ (arrive_of_down _ _ act position down), fun linked none => congrArg _ (arrive_of_unassigned _ _ act linked none),
      fun assigned nobody => congrArg _ (arrive_of_nobody _ _ act assigned nobody), fun reaches asleep => congrArg _ (arrive_of_asleep _ _ act reaches asleep)⟩
  case take =>
    rw [exec_put, exec_reduceF32, exec_reduceI32, exec_counterAdd, exec_getRequest, exec_getResponse, exec_ack, exec_token]
    refine ⟨fun y row => exec_of_refused reaches awake row, fun b => execPut_of_accepted reaches awake, fun b takes => congrArg _ (reduceIn_of_accepted reaches awake takes),
      fun b takes => congrArg _ (reduceIn_of_accepted reaches awake takes), fun b => execCounterAdd_of_accepted reaches awake,
      ⟨execGetRequest_of_elsewhere reaches awake, fun b => execGetRequest_of_target reaches awake⟩, ?response, ?ack,
      fun elsewhere c => exec_of_token_elsewhere reaches awake elsewhere, fun g => execToken_of_group reaches awake⟩
    case response =>
      rw [execGetResponse_of_awake reaches awake]
      refine ⟨fun elsewhere => ?_, fun here other => ?_, fun here own => ?_⟩
      · rw [if_pos (by rw [elsewhere]; rfl)]
      · rw [if_neg (by rw [here]; decide), if_pos other]
      · rw [if_neg (by rw [here]; decide), if_neg (not_not_intro own)]
    case ack =>
      rw [execAck_of_awake reaches awake]
      refine ⟨fun elsewhere => ?_, fun here => ?_⟩
      · rw [if_pos (by rw [elsewhere]; rfl)]
      · rw [if_neg (by rw [here]; decide)]
  case freed =>
    rw [exec_bufferFreed]
    exact ⟨execBufferFreed_of_live listed, execBufferFreed_of_closed listed⟩

end Sys2Proof.Proofs
end

section
/-!
PROOFS. The life of a session (R466 to R470, R474, R476, R494). O50.
-/
namespace Sys2Proof.Proofs
open Sys2Proof.Machine Sys2Proof.Laws

/-! A free number for a session (log 19) -/

theorem lowestFrom_found {p : Nat → Bool} {lo n i : Nat} (found : lowestFrom p lo n = some i) : p i = true := by
  induction n generalizing lo with
  | zero => cases found
  | succ n ih =>
    rw [lowestFrom] at found
    split at found
    · next here => cases found; exact here
    · exact ih found

theorem lowestFrom_none {p : Nat → Bool} {lo n i : Nat} (none : lowestFrom p lo n = none) (from_ : lo ≤ i) (below : i < lo + n) : p i = false := by
  induction n generalizing lo with
  | zero => omega
  | succ n ih =>
    rw [lowestFrom] at none
    split at none
    · cases none
    · next here =>
      by_cases first : i = lo
      · rw [first]; exact Bool.eq_false_iff.mpr here
      · exact ih none (by omega) (by omega)

theorem mem_keys_of_look {α : Type} {m : Tab α} {k : Nat} (listed : (Tab.look m k).isSome = true) : k ∈ m.map Prod.fst := by
  induction m with
  | nil => cases listed
  | cons x r ih =>
    obtain ⟨a, v⟩ := x
    by_cases first : a = k
    · exact List.mem_cons.mpr (.inl first.symm)
    · rw [Tab.look, if_neg first] at listed
      split at listed
      · cases listed
      · exact List.mem_cons_of_mem _ (ih listed)

/-- Keys that differ from each other are no more than those of a list that holds them all. -/
theorem length_le_of_nodup_subset {l k : List Nat} (once : l.Nodup) (within : l ⊆ k) : l.length ≤ k.length := by
  induction l generalizing k with
  | nil => exact Nat.zero_le _
  | cons x r ih =>
    obtain ⟨fresh, once⟩ := List.nodup_cons.mp once
    have here : x ∈ k := within List.mem_cons_self
    have rest : r ⊆ k.erase x := by
      intro y mem
      have other : y ≠ x := by
        rintro rfl
        exact fresh mem
      exact (List.mem_erase_of_ne other).mpr (within (List.mem_cons_of_mem _ mem))
    have count := ih once rest
    rw [List.length_erase_of_mem here] at count
    have some := List.length_pos_of_mem here
    rw [List.length_cons]
    omega

/-- A table of fewer entries than a range has keys lists not every key of it. -/
theorem exists_unlisted {α : Type} {m : Tab α} {lo n : Nat} (few : m.length < n) : ∃ k, lo ≤ k ∧ k < lo + n ∧ Tab.look m k = none := by
  refine Classical.byContradiction fun all => ?_
  have listed : List.range' lo n ⊆ m.map Prod.fst := by
    intro k inRange
    rw [List.mem_range'_1] at inRange
    refine mem_keys_of_look (Option.isSome_iff_ne_none.mpr fun none => all ⟨k, inRange.1, inRange.2, none⟩)
  have count := length_le_of_nodup_subset List.nodup_range' listed
  rw [List.length_range', List.length_map] at count
  omega

/-- The number of a new session is not 0 and no open session has it; drawing it changes nothing but the free values. -/
theorem newSession_facts {s : State} (few : s.sessions.length < 256) :
    s.newSession.1 ≠ 0 ∧ Tab.look s.sessions s.newSession.1 = none ∧ s.newSession.2 = { s with free := s.free + 1 } := by
  have free {i : Nat} (unused : (i == 0 || (Tab.look s.sessions i).isSome) = false) : i ≠ 0 ∧ Tab.look s.sessions i = none := by
    simpa using unused
  unfold State.newSession
  dsimp only
  rw [← and_assoc]
  refine ⟨?_, rfl⟩
  split
  · cases found : lowestFrom (fun i => !(i == 0 || (Tab.look s.sessions i).isSome)) 1 257 with
    | some i => exact free (by simpa using lowestFrom_found found)
    | none =>
      obtain ⟨k, lo, hi, unlisted⟩ := exists_unlisted (lo := 1) (n := 257) (Nat.lt_succ_of_lt few)
      have taken := lowestFrom_none found lo hi
      simp [unlisted] at taken
      omega
  · next unused => exact free (Bool.eq_false_iff.mpr unused)

/-! HELLO (R467 to R469) -/

section
variable {s : State} {m : HelloMsg} {t : Nat}

theorem execHello_of_down (down : (s.at t).num (E.ETH_STATE m.eport) ≠ 2) : execHello m t s = .next (s.at t) := congrArg _ (if_pos (.inl down))

section
variable (up : (s.at t).num (E.ETH_STATE m.eport) = 2 ∧ (s.at t).num E.BOOT_STATE ∈ [2, 3])
include up

/-- HELLO on a port that is UP, after the boot: the limits, the refusals, then a session. -/
theorem execHello_of_up : execHello m t s = .next (
    let tenant := if m.role = 1 then 0 else m.tenant
    if 256 ≤ (s.at t).sessions.length ∨ (tenant ≠ 0 ∧ 32 ≤ ((s.at t).sessions.filter (fun x => x.2.tenant == tenant)).length) then (s.at t).reject 0 overload
    else if (m.role = 1 ∧ m.eport.val < 4) ∨ m.role = 0 ∨ 3 < m.role then (s.at t).refuseSession 0
    else
      let id := (s.at t).newSession.1
      let x : Session := { role := m.role, net := if m.eport.val < 4 then 0 else 1, tenant := tenant, cred := m.cred, since := (s.at t).now, last := (s.at t).now }
      ({ (s.at t).newSession.2 with sessions := (s.at t).newSession.2.sessions.put id x } : State).say
        { ses := id, kind := 0x02, data := Config.acceptBody id (m.x25519 ++ m.mlkem ++ m.nonce ++ leBytes 1 m.role ++ zeros 7 ++ leBytes 16 m.tenant ++ leBytes 8 m.cred) }) := by
  obtain ⟨port, boot⟩ := up
  have booted : ([2, 3, 4] : List Nat).contains ((s.at t).num E.BOOT_STATE) = true := by
    simp only [List.mem_cons, List.not_mem_nil, or_false] at boot
    obtain e | e := boot <;> rw [e] <;> rfl
  have owned : (s.at t).num E.BOOT_STATE ≠ 4 := by
    simp only [List.mem_cons, List.not_mem_nil, or_false] at boot
    omega
  have net : (if m.eport.val < 4 then 0 else 1) = 0 ↔ m.eport.val < 4 := by
    split <;> simp [*]
  unfold execHello
  simp only [port, booted, owned, net, ne_eq, not_true_eq_false, Bool.not_true, Bool.false_eq_true, or_self, if_false, false_and, or_false]

theorem execHello_of_full (full : 256 ≤ (s.at t).sessions.length) : execHello m t s = .next ((s.at t).reject 0 0x0E) := by
  rw [execHello_of_up up]
  exact congrArg _ (if_pos (.inl full))

section
variable (few : (s.at t).sessions.length < 256)
include few

theorem execHello_of_operator (role : m.role = 1) (net : m.eport.val < 4) : execHello m t s = .next ((s.at t).refuseSession 0) := by
  rw [execHello_of_up up]
  simp only [role, if_true, ne_eq, not_true_eq_false, false_and, or_false, if_neg (Nat.not_le.mpr few), if_pos (Or.inl (And.intro trivial net))]

theorem execHello_of_tenant (role : m.role ∈ [2, 3]) (room : ((s.at t).sessions.filter (fun y => y.2.tenant == m.tenant)).length < 32) :
    ∃ u id, execHello m t s = .next u ∧ id ≠ 0 ∧ Tab.look (s.at t).sessions id = none ∧ Tab.look u.sessions id = some
      { role := m.role, net := if m.eport.val < 4 then 0 else 1, tenant := m.tenant, cred := m.cred, since := (s.at t).now, last := (s.at t).now } ∧
      ∃ a, u.replies = (s.at t).replies ++ [{ ses := id, kind := 0x02, data := a }] := by
  obtain ⟨nonzero, unlisted, drawn⟩ := newSession_facts few
  simp only [List.mem_cons, List.not_mem_nil, or_false] at role
  have notOperator : ¬ m.role = 1 := by omega
  rw [execHello_of_up up]
  dsimp only
  rw [if_neg notOperator, if_neg (by omega), if_neg (by omega), drawn]
  exact ⟨_, (s.at t).newSession.1, rfl, nonzero, unlisted, (look_put ..).trans (if_pos rfl), _, rfl⟩

end

end

end

/-! FINISH (R468, R494) -/

/-- A credential list whose first record has CRED_ID 0. -/
theorem credsIn_owned (r : List Byte) (whole : 1992 ≤ r.length) : (credsIn (zeros 8 ++ r)).any (fun c => crId c == 0) = true := by
  have count : (zeros 8 ++ r).length / 2000 = (r.length - 1992) / 2000 + 1 := by
    rw [List.length_append, length_zeros]
    omega
  have first : bytesAt (zeros 8 ++ r) 0 2000 = zeros 8 ++ (r.take 1992 ++ zeros (2000 - ((zeros 8 ++ r).take 2000).length)) := by
    rw [bytesAt, List.drop_zero, List.take_append, List.take_of_length_le (by rw [length_zeros]; omega), length_zeros, List.append_assoc]
  have owner : crId (bytesAt (zeros 8 ++ r) 0 2000) = 0 := by
    have id (l : List Byte) : bytesAt (zeros 8 ++ l) 0 8 = zeros 8 := by
      rw [bytesAt, List.drop_zero, List.take_left' (length_zeros 8), length_zeros, Nat.sub_self]
      exact List.append_nil _
    rw [crId, fld, first, id]
    rfl
  rw [credsIn, count, pieces, List.any_cons, owner]
  rfl

section
variable {s : State} {ses t : Nat} {sigs : Bool} {x : Session} (pending : Tab.look (s.at t).sessions ses = some x) (new : x.live = false)
include pending new

section
variable (timely : (s.at t).now ≤ x.since + 1000000000)
include timely

theorem execFinish_of_registered (known : (s.at t).credOk x = true) : execFinish ses 1 true t s = .next { s.at t with
    sessions := (s.at t).sessions.put ses { x with live := true, top := 1, seen := [1], last := (s.at t).now }, replies := (s.at t).replies ++ [{ ses := ses, kind := 0x11 }] } := by
  unfold execFinish
  simp only [pending, new, timely, known, Bool.false_eq_true, ne_eq, not_true_eq_false, if_false, decide_true, Bool.and_self, if_true, State.say]

/-- With CRED_ID 0 the session takes ownership: its record stands first in the list. -/
theorem execFinish_of_owner (unknown : (s.at t).credOk x = false) (role : x.role = 1) (cred : x.cred = 0) (net : x.net = 1) (free : (s.at t).owned = false) :
    ∃ u, execFinish ses 1 true t s = .next u ∧ u.owned = true ∧
      Tab.look u.sessions ses = some { x with live := true, top := 1, seen := [1], last := (s.at t).now } := by
  have quiet : Eventless E.OP_CRED_LIST := by
    unfold Eventless E.OP_CRED_LIST E.EVENT_SEQ E.PART_EVENT_SEQ
    constructor <;> omega
  unfold execFinish
  simp only [pending, new, timely, unknown, role, cred, net, free, Bool.false_eq_true, ne_eq, not_true_eq_false, if_false, decide_true, Bool.and_self, Bool.and_false,
    Bool.not_false, beq_self_eq_true, if_true]
  refine ⟨_, rfl, ?_, (look_put ..).trans (if_pos rfl)⟩
  generalize taken : State.raise _ 0xE001 0 = w
  have list : w.blob E.OP_CRED_LIST = zeros 8 ++ (leBytes 1 1 ++ zeros 7 ++ bytesAt (Config.finishKeys ses) 0 1984 ++ (s.at t).blob E.OP_CRED_LIST) := by
    rw [← taken, blob_raise quiet, blob_setBlob, if_pos rfl]
    simp only [List.append_assoc]
  change w.owned = true
  rw [State.owned, State.opCreds, list]
  refine credsIn_owned _ ?_
  simp only [List.length_append, length_leBytes, length_zeros, length_bytesAt]
  omega

end

theorem execFinish_of_failed (failed : x.since + 1000000000 < (s.at t).now ∨ sigs = false) :
    execFinish ses 1 sigs t s = .next (({ s.at t with sessions := (s.at t).sessions.del ses } : State).refuseSession ses) := by
  have bad : (decide ((s.at t).now ≤ x.since + 1000000000) && sigs) = false := by
    rw [Bool.and_eq_false_iff, decide_eq_false_iff_not, Nat.not_le]
    exact failed
  unfold execFinish
  simp only [pending, new, bad, Bool.false_eq_true, ne_eq, not_true_eq_false, if_false, Bool.false_and]

end

/-! The end of a session (R470, R474) -/

section
variable {s : State} {ses t : Nat} {x : Session} (listed : Tab.look (s.at t).sessions ses = some x)
include listed

theorem onSession_of_listed (f : Session → Session) : (s.at t).onSession ses f = { s.at t with sessions := (s.at t).sessions.put ses (f x) } := by
  simp only [State.onSession, listed]

theorem execFinishTimeout_of_due (new : x.live = false) (due : x.since + 1000000000 ≤ (s.at t).now) :
    execFinishTimeout ses t s = .next { s.at t with sessions := (s.at t).sessions.del ses } := by
  unfold execFinishTimeout
  simp only [listed, new, due, and_self, if_true]

theorem execFinishTimeout_of_not (held : x.live = true ∨ (s.at t).now < x.since + 1000000000) : execFinishTimeout ses t s = .next (s.at t) := by
  unfold execFinishTimeout
  simp only [listed]
  rw [if_neg]
  rintro ⟨new, due⟩
  exact held.elim (fun live => by rw [live] at new; cases new) (fun early => absurd due (Nat.not_le.mpr early))

theorem execSessionIdleTimeout_of_due (live : x.live = true) (due : x.last + (s.at t).num E.SESSION_IDLE_NS ≤ (s.at t).now) :
    execSessionIdleTimeout ses t s = .next { s.at t with
      replies := (s.at t).replies ++ [{ ses := ses, kind := 0x1F }], sessions := (s.at t).sessions.del ses, waits := (s.at t).waits.filter (fun w => w.ses != ses) } := by
  unfold execSessionIdleTimeout State.closeSession
  simp only [listed, live, due, and_self, if_true, Option.isSome_some]
  rfl

theorem execSessionIdleTimeout_of_early (early : (s.at t).now < x.last + (s.at t).num E.SESSION_IDLE_NS) : execSessionIdleTimeout ses t s = .next (s.at t) := by
  unfold execSessionIdleTimeout
  simp only [listed, Nat.not_le.mpr early, and_false, if_false]

/-- Staging whose LAST left bytes missing is dropped after 10 s. -/
theorem execStagingExpiry_facts {idx sub : Nat} {l : List (Nat × List Byte)} {tot u : Nat} (staged : Tab.look x.stage (idx * 256 + sub) = some (l, some tot, u)) :
    ∃ v z, execStagingExpiry ses idx sub t s = .next v ∧ Tab.look v.sessions ses = some z ∧ z.subs = x.subs ∧
      (u + 10000000000 ≤ (s.at t).now → Tab.look z.stage (idx * 256 + sub) = none) ∧ ((s.at t).now < u + 10000000000 → z.stage = x.stage) := by
  unfold execStagingExpiry
  dsimp only
  rw [onSession_of_listed listed]
  refine ⟨_, _, rfl, (look_put ..).trans (if_pos rfl), rfl, fun due => ?_, fun early => ?_⟩
  · simp only [staged, due, decide_true, if_true]
    exact look_del_same ..
  · simp only [staged, Nat.not_le.mpr early, decide_false, Bool.false_eq_true, if_false]

end

section
variable {s : State} {r : Rq} {x : Session} (accepted : ((s.at r.t).accept r.ses r.seq r.ok).2 = some x)
include accepted

theorem execDolliClose_of_accepted : execDolliClose r s = .next { s.arrived r with
    sessions := (s.arrived r).sessions.del r.ses, waits := (s.arrived r).waits.filter (fun w => w.ses != r.ses) } := by
  unfold execDolliClose
  rw [accept_eq_arrived accepted]

theorem execNotifyAck_of_accepted : execNotifyAck r s =
    .next ((s.arrived r).onSession r.ses (fun y => { y with subs := y.subs.map (fun c => if c.id = r.id then { c with acked := true } else c) })) := by
  unfold execNotifyAck
  rw [accept_eq_arrived accepted]

end

/-! STATUS_PROBE (R466) -/

section
variable {s : State} {e : Fin 8} {endpoint t : Nat}

/-- The probes of a port in the second that runs. -/
def probesOf (s : State) (e : Nat) : Nat := if s.now < (s.eport e).probes.1 + 1000000000 then (s.eport e).probes.2 else 0

variable (up : (s.at t).num (E.ETH_STATE e) = 2) (here : endpoint = 0xFE ∨ (s.at t).hasEndpoint endpoint e = true)
include up here

theorem execStatusProbe_of_up : ∃ u, execStatusProbe e endpoint t s = .next (if 1000 ≤ probesOf (s.at t) e then (s.at t).bump E.DOLLI_DROPS else u) ∧
    (let st := if endpoint = 0xFE then (s.at t).collierStatus else (s.at t).partStatus endpoint
     u.replies = (s.at t).replies ++ [{ ses := 0, kind := 0x21, data := leBytes 8 ((s.at t).num E.IDENT_REV) ++ leBytes 1 endpoint ++ leBytes 1 st ++ zeros 6 }]) := by
  have answers : (!(endpoint == 0xFE || (s.at t).hasEndpoint endpoint e)) = false := by
    rw [Bool.not_eq_false', Bool.or_eq_true, beq_iff_eq]
    exact here
  have counted : (if (s.at t).now < ((s.at t).eport e).probes.1 + 1000000000 then ((s.at t).eport e).probes else ((s.at t).now, 0)).2 = probesOf (s.at t) e := by
    rw [probesOf]
    split <;> rfl
  unfold execStatusProbe
  simp only [up, answers, counted, ne_eq, not_true_eq_false, Bool.false_eq_true, or_self, if_false]
  exact ⟨_, rfl, rfl⟩

end

/-! NOTIFY (R476) -/

section
variable {s : State} {ses idx sub t : Nat} {x : Session} {b : Sub16} (listed : Tab.look (s.at t).sessions ses = some x)
  (subscribed : x.subs.find? (fun b => b.key == idx * 256 + sub) = some b)
include listed subscribed

theorem execNotifySend_of_early {u : Nat} (sent : b.sentAt = some u) (early : (s.at t).now < u + (s.at t).num E.NOTIFY_MIN_NS) :
    execNotifySend ses idx sub t s = .next (s.at t) := by
  unfold execNotifySend
  simp only [listed, subscribed, sent, Nat.not_le.mpr early, decide_false, Bool.and_false, Bool.false_eq_true, if_false]

omit listed subscribed in
/-- What a NOTIFY says; it is made of what is read, which draws free values at most. -/
theorem notifyMsg_facts (s : State) (ses : Nat) (x : Session) (b : Sub16) (changes : Nat) : let n := s.notifyMsg ses x b changes
    (n.1.ses = ses ∧ n.1.kind = 0x12 ∧ n.1.key = b.key ∧ n.1.id = b.id ∧ n.1.off = changes) ∧ n.2.replies = s.replies := by
  obtain ⟨k, read⟩ := readBytes_state s x b.key
  unfold State.notifyMsg
  split
  · next e =>
    rw [e] at read
    cases read
    exact ⟨⟨rfl, rfl, rfl, rfl, rfl⟩, rfl⟩
  · next e =>
    rw [e] at read
    cases read
    exact ⟨⟨rfl, rfl, rfl, rfl, rfl⟩, rfl⟩

theorem execNotifySend_of_changed (live : x.live = true) (dirty : b.dirty = true) (first : b.sentAt = none) :
    ∃ u n, execNotifySend ses idx sub t s = .next u ∧ u.replies = (s.at t).replies ++ [n] ∧ n.ses = ses ∧ n.kind = 0x12 ∧ n.key = idx * 256 + sub ∧ n.id = b.id ∧
      n.off = b.changes % 2 ^ 32 := by
  obtain ⟨k, drawn⟩ := view_state (s.at t) (idx * 256 + sub) (x.role != 1)
  obtain ⟨⟨session, kind, key, id, off⟩, replies⟩ := notifyMsg_facts { s.at t with free := k } ses x b (b.changes % 2 ^ 32)
  have named : b.key = idx * 256 + sub := by simpa using List.find?_some subscribed
  have kept (u : State) (f : Session → Session) : (u.onSession ses f).replies = u.replies := by
    unfold State.onSession
    split <;> rfl
  unfold execNotifySend
  simp only [listed, subscribed, live, dirty, first, drawn, Bool.true_or, Bool.and_self, Bool.not_true, Bool.and_false, Bool.false_eq_true, if_false, if_true]
  refine ⟨_, ({ s.at t with free := k } : State).notifyMsg ses x b (b.changes % 2 ^ 32) |>.1, rfl, ?_, session, kind, key.trans named, id, off⟩
  rw [kept, State.say, replies]

section
variable {u : Nat} (sent : b.sentAt = some u)
include sent

theorem execNotifyResend_of_not (held : b.acked = true ∨ (s.at t).now < u + 100000000) : execNotifyResend ses idx sub t s = .next (s.at t) := by
  have waits : (b.acked || decide ((s.at t).now < u + 100000000)) = true := by simpa using held
  unfold execNotifyResend
  simp only [listed, subscribed, sent, waits, if_true]

section
variable (pending : b.acked = false) (due : u + 100000000 ≤ (s.at t).now)
include pending due

theorem execNotifyResend_of_tenth (many : 10 ≤ b.resends) : execNotifyResend ses idx sub t s =
    .next { s.at t with sessions := (s.at t).sessions.put ses { x with subs := x.subs.filter (fun c => c.key != idx * 256 + sub) } } := by
  unfold execNotifyResend
  simp only [listed, subscribed, sent, pending, Nat.not_lt.mpr due, decide_false, Bool.or_self, Bool.false_eq_true, if_false, many, if_true]
  rw [onSession_of_listed listed]

theorem execNotifyResend_of_few (few : b.resends < 10) : ∃ v, execNotifyResend ses idx sub t s = .next v ∧ Tab.look v.sessions ses =
    some { x with subs := x.subs.map (fun c => if c.key = idx * 256 + sub then { c with sentAt := some (s.at t).now, resends := c.resends + 1 } else c) } := by
  unfold execNotifyResend
  simp only [listed, subscribed, sent, pending, Nat.not_lt.mpr due, decide_false, Bool.or_self, Bool.false_eq_true, if_false, Nat.not_le.mpr few]
  refine ⟨_, rfl, ?_⟩
  split
  all_goals
    simp only [State.onSession, State.say, listed]
    exact (look_put ..).trans (if_pos rfl)

end

end

end

/-- Settles O50: from HELLO to the end of a session, what it stages, probes, and its NOTIFY messages. -/
theorem sessionLife : Obligations.SessionLife := by
  unfold Obligations.SessionLife
  intro s m r ses seq idx sub endpoint t sigs e x s1 key up
  rw [exec_hello, exec_finish, exec_finishTimeout, exec_sessionIdleTimeout, exec_dolliClose, exec_notifyAck, exec_statusProbe, exec_notifySend, exec_notifyResend]
  refine ⟨execHello_of_down, execHello_of_full, execHello_of_operator, execHello_of_tenant, ?finish, ?failed, fun listed => ⟨execFinishTimeout_of_due listed,
    execFinishTimeout_of_not listed, execSessionIdleTimeout_of_due listed, execSessionIdleTimeout_of_early listed, fun l tot u => execStagingExpiry_facts listed⟩,
    fun accepted => ⟨execDolliClose_of_accepted accepted, execNotifyAck_of_accepted accepted⟩, ?probe, ?notify⟩
  case finish =>
    rintro listed new rfl timely rfl
    exact ⟨execFinish_of_registered listed new timely, execFinish_of_owner listed new timely⟩
  case failed =>
    rintro listed new rfl failed
    exact execFinish_of_failed listed new failed
  case probe =>
    intro p c linked here
    obtain ⟨u, runs, replies⟩ := execStatusProbe_of_up linked here
    exact ⟨fun many => runs.trans (congrArg _ (if_pos many)), fun few => ⟨u, runs.trans (congrArg _ (if_neg (Nat.not_le.mpr few))), replies⟩⟩
  case notify =>
    intro b listed subscribed
    exact ⟨fun u => execNotifySend_of_early listed subscribed, execNotifySend_of_changed listed subscribed, fun u => execNotifyResend_of_not listed subscribed,
      fun u sent pending due => ⟨execNotifyResend_of_tenth listed subscribed sent pending due, execNotifyResend_of_few listed subscribed sent pending due⟩⟩

end Sys2Proof.Proofs
end

section
/-!
PROOFS. Views that writes of the tiers leave alone; the packet number a connection expects (R463).
-/
namespace Sys2Proof.Proofs
open Sys2Proof.Machine Sys2Proof.Laws

/-- A view of which nothing is a part that a write of the tiers changes. -/
structure BesideTiers {α : Type} (φ : State → α) : Prop extends BesideEvents φ where
  tiers : ∀ (s : State) (mem : Memory) (bad ce : List Nat) (pagePoison dirty : Tab Bool) (regions : Tab (List Byte)),
    φ { s with mem := mem, bad := bad, ce := ce, pagePoison := pagePoison, dirty := dirty, regions := regions } = φ s

namespace BesideTiers

variable {α : Type} {φ : State → α} (q : BesideTiers φ) {s : State}
include q

theorem store (a : Nat) (l : List Byte) : φ (s.store a l) = φ s := q.tiers s _ _ _ s.pagePoison s.dirty s.regions
theorem regionFlag (n r b : Nat) (on : Bool) : φ (s.regionFlag n r b on) = φ s := q.tiers s s.mem s.bad s.ce s.pagePoison s.dirty _

theorem writeSegs (l : List (Nat × Nat)) (b : List Byte) : φ (s.writeSegs l b) = φ s := by
  induction l generalizing s b with
  | nil => rfl
  | cons x r ih =>
    obtain ⟨a, n⟩ := x
    rw [State.writeSegs, ih]
    exact ite_same rfl (q.store ..)

theorem poisonPage (n r key tier off : Nat) : φ (s.poisonPage n r key tier off) = φ s := by
  unfold State.poisonPage
  exact (q.raise ..).trans ((q.regionFlag ..).trans (ite_same rfl ((q.bump ..).trans (q.tiers s s.mem s.bad s.ce _ s.dirty s.regions))))

theorem writeB (n k off : Nat) (l : List Byte) : φ (s.writeB n k off l) = φ s := by
  have stored (poison : Tab Bool) : φ { s.store (tierB k + off) l with pagePoison := poison } = φ s :=
    (q.tiers (s.store (tierB k + off) l) _ _ _ poison _ _).trans (q.store ..)
  unfold State.writeB
  dsimp only
  split
  · exact ite_same ((q.tiers { s.store (tierB k + off) l with pagePoison := _ } _ _ _ _ _ _).trans (stored _)) (stored _)
  · exact stored _

theorem writeS (n off : Nat) (l : List Byte) : φ (s.writeS n off l) = φ s := by
  unfold State.writeS
  refine (forAll_same (fun p t => ?_) _).trans ((q.tiers (s.writeSegs _ l) _ _ _ _ _ _).trans (q.writeSegs ..))
  split
  · exact q.poisonPage ..
  · rfl

theorem writeTier (n ta : Nat) (l : List Byte) : φ (s.writeTier n ta l) = φ s := by
  unfold State.writeTier
  exact ite_same (q.writeB ..) (q.writeS ..)

end BesideTiers

/-! Connections -/

@[simp] theorem conn_onConn (s : State) (n c : Nat) (f : Conn → Conn) (i d : Nat) :
    (s.onConn n c f).conn i d = if i * 1024 + d = n * 1024 + c then f (s.conn n c) else s.conn i d := getD_put ..

theorem conn_onConn_same (s : State) (n c : Nat) (f : Conn → Conn) : (s.onConn n c f).conn n c = f (s.conn n c) := (conn_onConn ..).trans (if_pos rfl)

section
variable (s : State) (i d : Nat)

/-- The packet number that a connection expects next. -/
def expected (i d : Nat) (s : State) : Nat := (s.conn i d).rq

theorem besideTiers_expected : BesideTiers (expected i d) where
  same _ _ _ _ _ _ := rfl
  tiers _ _ _ _ _ _ _ := rfl

theorem onConn_expected (n c : Nat) (f : Conn → Conn) (keeps : ∀ x, (f x).rq = x.rq) : expected i d (s.onConn n c f) = expected i d s := by
  unfold expected
  rw [conn_onConn]
  split
  · next e => rw [keeps, State.conn, State.conn, e]
  · rfl

theorem nicRecord_expected (n k typ kind peer msgid : Nat) : expected i d (s.nicRecord n k typ kind peer msgid) = expected i d s := by
  unfold State.nicRecord
  refine ite_same (φ := expected i d) ?_ rfl
  unfold State.countLoss
  have counted (u : State) (n w : Nat) (f : Part → Part) : expected i d ((u.bumpBy (E.TRACE_LOST n) 64 w).onPart n f) = expected i d u := rfl
  exact ite_same (φ := expected i d) rfl (ite_same (φ := expected i d) (counted ..) (((besideTiers_expected i d).raise ..).trans (counted ..)))

theorem sendBy_expected (slots : List Nat) (m : Msg) (use : Option Use) : expected i d (s.sendBy slots m use) = expected i d s := by
  unfold State.sendBy
  dsimp only
  cases use
  all_goals
    refine ite_same (φ := expected i d) (by rfl) (ite_same (φ := expected i d) ?_ ?_)
    · exact (nicRecord_expected ..).trans (by rfl)
    · exact (nicRecord_expected ..).trans (onConn_expected _ _ _ _ _ _ (fun _ => by rfl))

theorem pieceLanded_expected (n j : Nat) : expected i d (s.pieceLanded n j) = expected i d s := by
  unfold State.pieceLanded
  dsimp only
  split
  · exact ite_same (φ := expected i d) (((besideTiers_expected i d).writeTier ..).trans rfl) rfl
  · rfl

theorem pieceStale_expected (n j src : Nat) (b : List Byte) : expected i d (s.pieceStale n j src b) = expected i d s := by
  unfold State.pieceStale
  dsimp only
  generalize counted : (if (s.job n j).lrStale = true then s.bump (E.LR_STALE_PIECES n) else _) = t
  have same : expected i d t = expected i d s := by
    rw [← counted]
    exact ite_same (φ := expected i d) rfl ((besideTiers_expected i d).raise ..)
  split
  · unfold State.lrSendTo State.sendOnly
    split
    · exact same
    · exact (sendBy_expected ..).trans same
  · exact same

theorem landPut_expected (n src ta : Nat) (b : List Byte) : expected i d (s.landPut n src ta b).1 = expected i d s := by
  have written : expected i d (s.writeTier n ta b) = expected i d s := (besideTiers_expected i d).writeTier ..
  unfold State.landPut
  split
  · split
    · exact (pieceLanded_expected ..).trans written
    · exact pieceStale_expected ..
  · exact written

theorem reduceTier_expected (n ta : Nat) (f32 : Bool) (l : List Byte) : expected i d (s.reduceTier n ta f32 l) = expected i d s :=
  (besideTiers_expected i d).writeTier ..

theorem reduceType_expected (n : Nat) (b : Buf) : expected i d (s.reduceType n b).2 = expected i d s := by
  unfold State.reduceType
  split <;> rfl

theorem roceAnswer_expected (n c psn status : Nat) (b : List Byte) : expected i d (s.roceAnswer n c psn status b) = expected i d s := rfl

theorem refuseOnly_expected (n : Nat) : expected i d (s.refuseOnly n) = expected i d s := by
  unfold State.refuseOnly
  exact ((besideTiers_expected i d).raise ..).trans ((besideTiers_expected i d).bump ..)

/-- A write in sequence takes its packet numbers, whatever becomes of it. -/
theorem roceIn_expected {s : State} {m : RoceMsg} (ready : (s.conn m.part (m.conn % 1024)).st = 1)
    (turn : m.psn % 2 ^ 24 = (s.conn m.part (m.conn % 1024)).rq) :
    expected m.part (m.conn % 1024) (roceIn 0 m 0xFFFF 0 s) = ((m.psn + packets m.data.length - 1) % 2 ^ 24 + 1) % 2 ^ 24 := by
  unfold roceIn
  dsimp only
  rw [if_neg (not_not_intro ready), if_neg (not_not_intro turn), if_neg (by decide : ¬ (0 : Nat) = 2)]
  generalize taken : State.onConn _ m.part _ _ = t
  have sequence : expected m.part (m.conn % 1024) t = ((m.psn + packets m.data.length - 1) % 2 ^ 24 + 1) % 2 ^ 24 := by
    rw [← taken, expected, conn_onConn_same]
  split
  · exact (refuseOnly_expected ..).trans ((roceAnswer_expected ..).trans sequence)
  · rw [if_neg (by decide), if_neg (by simp)]
    refine (roceAnswer_expected ..).trans ?_
    split
    · split
      · exact (reduceTier_expected ..).trans ((reduceType_expected ..).trans sequence)
      · exact (landPut_expected ..).trans sequence
    · exact (landPut_expected ..).trans sequence

end

end Sys2Proof.Proofs
end

section
/-!
PROOFS. Ethernet ports, runs, and RoCE connections (R449, R450, R454, R460 to R463, R527, R648). O51.
-/
namespace Sys2Proof.Proofs
open Sys2Proof.Machine Sys2Proof.Laws

@[simp] theorem eport_onEport (s : State) (e : Nat) (f : EPort → EPort) (i : Nat) : (s.onEport e f).eport i = if i = e then f (s.eport e) else s.eport i := getD_put ..

/-! Frames (R450, R454, R461, R527) -/

section
variable {s : State} {e : Fin 8} {t : Nat}

/-- What arrives on a port that is not UP, or leaves by it, is lost. -/
theorem exec_of_ethDown (down : (s.at t).num (E.ETH_STATE e) ≠ 2) {frame target pay : List Byte} {fcs : Bool} {unit ready : Nat} {row : Instr}
    (mem : row ∈ ([.ethernetFrameReceive e frame fcs t, .neighbourDiscovery e target t, .echoRequest e target pay t, .runStart e unit ready t, .ethLinkDown e t] : List Instr)) :
    exec row s = .next (s.at t) := by
  simp only [List.mem_cons, List.not_mem_nil, or_false] at mem
  rcases mem with rfl | rfl | rfl | rfl | rfl
  · exact congrArg _ (if_pos down)
  · exact congrArg _ (if_pos down)
  · exact congrArg _ (if_pos down)
  · exact congrArg _ (if_pos (.inl down))
  · exact congrArg _ (if_neg down)

section
variable (up : (s.at t).num (E.ETH_STATE e) = 2)
include up

theorem execEthernetFrameReceive_of_bad (frame : List Byte) : execEthernetFrameReceive e frame false t s = .next ((s.at t).ethCount e 4 1) := by
  unfold execEthernetFrameReceive
  simp only [up, ne_eq, not_true_eq_false, Bool.not_false, if_false, if_true]

/-- The state in which a good frame has been counted. -/
def counted (s : State) (e : Nat) (frame : List Byte) : State := (s.ethCount e 1 1).ethCount e 3 frame.length

theorem execEthernetFrameReceive_of_ignored {frame : List Byte} (ignored : 9022 < frame.length ∨ frame.length < 18 ∨ frameFlow frame = true) :
    execEthernetFrameReceive e frame true t s = .next (counted (s.at t) e frame) := by
  unfold execEthernetFrameReceive
  simp only [up, ne_eq, not_true_eq_false, Bool.not_true, Bool.false_eq_true, if_false, if_pos ignored]
  rfl

/-- A RoCE frame for a partition: it wakes it; while it sleeps the frame waits in the port's buffer, to 8 MiB. -/
theorem execEthernetFrameReceive_of_roce {frame : List Byte} {n : Nat} (long : 18 ≤ frame.length) (short : frame.length ≤ 9022) (flow : frameFlow frame = false)
    (addressed : (counted (s.at t) e frame).endpointOf e (beNat (bytesAt frame 0 6)) = some (n + 1)) (warm : (counted (s.at t) e frame).cold = false)
    (kind : frameKind frame = 1) (ash : ((counted (s.at t) e frame).part n).ash = none) :
    let u := (counted (s.at t) e frame).wakePart n 1
    execEthernetFrameReceive e frame true t s = .next (if u.stacksActive n then u
      else if 2 ^ 23 < sumOf ((u.eport e).held.getD n []) List.length + frame.length then u.rxDrop n e
      else u.onEport e (fun x => { x with held := x.held.put n ((u.eport e).held.getD n [] ++ [frame]) })) := by
  have taken : ¬ (9022 < frame.length ∨ frame.length < 18 ∨ frameFlow frame = true) := by
    rw [flow]
    simp only [Bool.false_eq_true, or_false]
    omega
  unfold counted at *
  unfold execEthernetFrameReceive
  simp only [up, taken, addressed, warm, kind, ash, ne_eq, not_true_eq_false, Bool.not_true, Bool.false_eq_true, false_and, or_self, if_false, Option.isSome_none]

/-! Neighbour discovery and echo (R454) -/

theorem execNeighbourDiscovery_of_endpoint {target : List Byte} {k : Nat} (endpoint : (s.at t).endpointAt e target = some k) :
    execNeighbourDiscovery e target t s = .next ((s.at t).ethAnswer e ((leBytes 6 (macOf e k)).reverse ++ target)) := by
  unfold execNeighbourDiscovery
  simp only [up, endpoint, ne_eq, not_true_eq_false, if_false]

theorem execNeighbourDiscovery_of_nobody {target : List Byte} (nobody : (s.at t).endpointAt e target = none) :
    execNeighbourDiscovery e target t s = .next ((s.at t).ethCount e 7 1) := by
  unfold execNeighbourDiscovery
  simp only [up, nobody, ne_eq, not_true_eq_false, if_false]

theorem execEchoRequest_of_endpoint {target pay : List Byte} {k : Nat} (endpoint : (s.at t).endpointAt e target = some k) :
    execEchoRequest e target pay t s = .next ((s.at t).ethAnswer e (target ++ pay)) := by
  unfold execEchoRequest
  simp only [up, endpoint, ne_eq, not_true_eq_false, if_false]

theorem execEchoRequest_of_nobody {target pay : List Byte} (nobody : (s.at t).endpointAt e target = none) :
    execEchoRequest e target pay t s = .next ((s.at t).ethCount e 7 1) := by
  unfold execEchoRequest
  simp only [up, nobody, ne_eq, not_true_eq_false, if_false]

/-! Runs (R460) -/

section
variable {unit ready : Nat} (inRange : unit < 1000) (starts : (s.at t).runStarts e unit = true)
include inRange starts

theorem execRunStart_of_lent {b : Nat} (borrows : (s.at t).borrower e ready = some b)
    (lends : ((s.at t).runKey e unit).1 = 0xFF ∨ (((s.at t).runKey e unit).1 < 12 ∧ ((s.at t).runKey e unit).2 = 0 ∧
      (s.at t).num (E.ETH_MODE ((s.at t).runKey e unit).1) = 0 ∧ ready.testBit ((s.at t).runKey e unit).1 = false)) :
    execRunStart e unit ready t s =
      .next ((s.at t).onEport e (fun x => { x with run := some (unit, ((s.at t).runKey e unit).1, some b), robin := (b + 1) % 12 })) := by
  have lent : (((s.at t).runKey e unit).1 == 0xFF || (decide (((s.at t).runKey e unit).1 < 12) && ((s.at t).runKey e unit).2 == 0 &&
      (s.at t).num (E.ETH_MODE ((s.at t).runKey e unit).1) == 0 && !ready.testBit ((s.at t).runKey e unit).1)) = true := by
    simpa [and_assoc] using lends
  unfold execRunStart
  simp only [up, starts, lent, borrows, Nat.not_le.mpr inRange, ne_eq, not_true_eq_false, Bool.true_eq_false, or_self, if_false, if_true]

theorem execRunStart_of_kept (assigned : ((s.at t).runKey e unit).1 ≠ 0xFF) (keeps : 12 ≤ ((s.at t).runKey e unit).1 ∨ ((s.at t).runKey e unit).2 ≠ 0 ∨
      (s.at t).num (E.ETH_MODE ((s.at t).runKey e unit).1) ≠ 0 ∨ ready.testBit ((s.at t).runKey e unit).1 = true) :
    execRunStart e unit ready t s = .next ((s.at t).onEport e (fun x => { x with run := some (unit, ((s.at t).runKey e unit).1, none) })) := by
  have kept : (((s.at t).runKey e unit).1 == 0xFF || (decide (((s.at t).runKey e unit).1 < 12) && ((s.at t).runKey e unit).2 == 0 &&
      (s.at t).num (E.ETH_MODE ((s.at t).runKey e unit).1) == 0 && !ready.testBit ((s.at t).runKey e unit).1)) = false := by
    rw [beq_eq_false_iff_ne.mpr assigned, Bool.false_or]
    obtain out | claim | mode | busy := keeps
    · simp [Nat.not_lt.mpr out]
    · simp [claim]
    · simp [mode]
    · simp [busy]
  unfold execRunStart
  simp only [up, starts, kept, Nat.not_le.mpr inRange, ne_eq, not_true_eq_false, Bool.true_eq_false, Bool.false_eq_true, or_self, if_false]

end

theorem execEthLinkDown_of_up : execEthLinkDown e t s = .next (((s.at t).setNum (E.ETH_STATE e) 0).raise 0xE102 (scopeE e)) := by
  unfold execEthLinkDown State.ethDown
  simp only [up, if_true]

end

/-- A run is lent to a partition that is SHARED and has a frame ready. -/
theorem shared_of_borrower {ready b : Nat} (borrows : s.borrower e ready = some b) : s.num (E.ETH_MODE b) = 0 ∧ ready.testBit b = true := by
  have found := List.find?_some borrows
  simp only [Bool.and_eq_true, beq_iff_eq] at found
  exact ⟨found.2, found.1.2⟩

/-! Links (R449, R648) -/

theorem execEthLinkUp_of_trains (trains : (s.at t).ethTrains e = true) (down : (s.at t).num (E.ETH_STATE e) ≠ 2) :
    execEthLinkUp e t s = .next (((s.at t).setNum (E.ETH_STATE e) 2).raise 0xE101 (scopeE e)) := by
  unfold execEthLinkUp
  simp only [trains, bne_iff_ne.mpr down, Bool.and_self, if_true]

theorem execEthLinkUp_of_not (still : (s.at t).ethTrains e = false) : execEthLinkUp e t s = .next (s.at t) := by
  unfold execEthLinkUp
  simp only [still, Bool.false_and, Bool.false_eq_true, if_false]

theorem eventless_ethState : Eventless (E.ETH_STATE e) := by
  unfold Eventless E.ETH_STATE E.EVENT_SEQ E.PART_EVENT_SEQ
  constructor <;> omega

theorem eventless_ethPmd : Eventless (E.ETH_PMD e) := by
  unfold Eventless E.ETH_PMD E.EVENT_SEQ E.PART_EVENT_SEQ
  constructor <;> omega

theorem num_ethState_ethDown (s : State) (st : Nat) : (s.ethDown e st).num (E.ETH_STATE e) = st := by
  have set : (s.setNum (E.ETH_STATE e) st).num (E.ETH_STATE e) = st := (num_setNum ..).trans (if_pos rfl)
  unfold State.ethDown
  exact ite_same (φ := fun s => s.num (E.ETH_STATE e)) ((num_raise eventless_ethState ..).trans set) set

theorem num_ethPmd_ethDown (s : State) (st : Nat) : (s.ethDown e st).num (E.ETH_PMD e) = s.num (E.ETH_PMD e) := by
  have set : (s.setNum (E.ETH_STATE e) st).num (E.ETH_PMD e) = s.num (E.ETH_PMD e) :=
    num_of_dval (dval_setNum_other (by unfold E.ETH_PMD E.ETH_STATE; omega))
  unfold State.ethDown
  exact ite_same (φ := fun s => s.num (E.ETH_PMD e)) ((num_raise eventless_ethPmd ..).trans set) set

theorem ethDown_eport (s : State) (st i : Nat) : (s.ethDown e st).eport i = s.eport i := by
  unfold State.ethDown
  exact ite_same (φ := fun s => s.eport i) (BesideEvents.raise (φ := fun s => s.eport i) ⟨fun _ _ _ _ _ _ => rfl⟩ ..) rfl

/-- A module is without power exactly when it declares more than 15 W, and then its port is DOWN. -/
theorem execPluggableModuleInsert_facts (watts : Nat) : ∃ u, execPluggableModuleInsert e watts t s = .next u ∧ u.num (E.ETH_PMD e) = 2 ∧
    (u.eport e).starved = decide (15 < watts) ∧ (15 < watts → u.num (E.ETH_STATE e) = 0) := by
  have set (f : EPort → EPort) : (((s.at t).setNum (E.ETH_PMD e) 2).onEport e f).num (E.ETH_PMD e) = 2 := (num_setNum ..).trans (if_pos rfl)
  unfold execPluggableModuleInsert
  dsimp only
  split
  case isTrue hungry =>
    refine ⟨_, rfl, (num_ethPmd_ethDown ..).trans (set _), ?_, fun _ => num_ethState_ethDown ..⟩
    rw [ethDown_eport, eport_onEport, if_pos rfl, decide_eq_true hungry]
  case isFalse modest =>
    refine ⟨_, rfl, set _, ?_, fun hungry => absurd hungry modest⟩
    rw [eport_onEport, if_pos rfl, decide_eq_false modest]

end

/-! RoCE: transfers that arrive (R463, R525, R527) -/

section
variable {s : State} {op : Nat} {m : RoceMsg} {rc ad : Nat}

/-- A transfer that its connection can take, on a port that is UP, for a partition outside ash-out. -/
structure RoceReaches (s : State) (m : RoceMsg) : Prop where
  up : s.num (E.ETH_STATE m.eport) = 2
  live : s.exists m.part = true
  ash : (s.part m.part).ash = none
  ready : (s.conn m.part (m.conn % 1024)).st = 1
  port : fld (s.conn m.part (m.conn % 1024)).bytes 2 1 = m.eport.val
  warm : s.cold = false

theorem roceArrive_of_not (not : ¬ RoceReaches s m) : s.roceArrive op m rc ad = s := by
  unfold State.roceArrive
  dsimp only
  refine if_pos (Classical.byContradiction fun all => ?_)
  simp only [not_or, ne_eq, Classical.not_not, Bool.not_eq_false, Bool.not_eq_true, Option.isSome_eq_false_iff, Option.isNone_iff_eq_none] at all
  obtain ⟨up, live, ash, ready, port, warm⟩ := all
  exact not ⟨up, live, ash, ready, port, warm⟩

theorem roceArrive_of_reaches (reaches : RoceReaches s m) : s.roceArrive op m rc ad =
    (let u := s.wakePart m.part 1
     if u.stacksActive m.part then roceIn op m rc ad u else { u with held := u.held.put m.part (u.held.getD m.part [] ++ [.roce op m rc ad]) }) := by
  obtain ⟨up, live, ash, ready, port, warm⟩ := reaches
  unfold State.roceArrive
  dsimp only
  rw [if_neg]
  simp [up, live, ash, ready, port, warm]

/-- The three transfers of a connection arrive in the one way. -/
theorem exec_of_transfer {t : Nat} {y : Instr × Nat × Nat × Nat}
    (row : y ∈ ([(.rdmaWrite m t, 0, 0xFFFF, 0), (.rdmaWriteImm m rc ad t, 1, rc, ad), (.rdmaRead m t, 2, 0xFFFF, 0)] : List (Instr × Nat × Nat × Nat))) :
    exec y.1 s = .next ((s.at t).roceArrive y.2.1 m y.2.2.1 y.2.2.2) := by
  simp only [List.mem_cons, List.not_mem_nil, or_false] at row
  rcases row with rfl | rfl | rfl
  · rfl
  · rfl
  · rfl

section
variable (ready : (s.conn m.part (m.conn % 1024)).st = 1) (other : m.psn % 2 ^ 24 ≠ (s.conn m.part (m.conn % 1024)).rq)
include ready other

/-- A transfer before the one expected is acknowledged again. -/
theorem roceIn_of_before (before : ((s.conn m.part (m.conn % 1024)).rq + 2 ^ 24 - m.psn % 2 ^ 24) % 2 ^ 24 < 2 ^ 23) :
    roceIn 0 m 0xFFFF 0 s = s.roceAnswer m.part (m.conn % 1024) ((m.psn + packets m.data.length - 1) % 2 ^ 24) 0 [] := by
  unfold roceIn
  dsimp only
  rw [if_neg (not_not_intro ready), if_pos other, if_pos before, if_neg (by decide), if_neg (by decide)]

/-- One after it is refused. -/
theorem roceIn_of_after (after : 2 ^ 23 ≤ ((s.conn m.part (m.conn % 1024)).rq + 2 ^ 24 - m.psn % 2 ^ 24) % 2 ^ 24) :
    roceIn 0 m 0xFFFF 0 s = s.roceAnswer m.part (m.conn % 1024) (s.conn m.part (m.conn % 1024)).rq 4 [] := by
  unfold roceIn
  dsimp only
  rw [if_neg (not_not_intro ready), if_pos other, if_neg (Nat.not_lt.mpr after)]

end

end

/-! Acknowledgements (R463) -/

section
variable {s : State} {n : Fin 12} {c t : Nat}

section
variable {q d : Nat} (outstanding : (s.conn q d).out ≠ [])
include outstanding

theorem retransmit_of_tried (tried : fld (s.conn q d).bytes 0x2C 1 ≤ (s.conn q d).tries) : s.retransmit q d = s.connError q d := by
  unfold State.retransmit
  dsimp only
  rw [if_neg (by simpa using outstanding), if_neg (Nat.not_lt.mpr tried)]

theorem retransmit_conn (more : (s.conn q d).tries < fld (s.conn q d).bytes 0x2C 1) :
    (s.retransmit q d).conn q d = { s.conn q d with tries := (s.conn q d).tries + 1, since := s.now } := by
  unfold State.retransmit
  dsimp only
  rw [if_neg (by simpa using outstanding), if_pos more, conn_onConn_same]
  rfl

end

section
variable {psn : Nat} {data : List Byte} (ready : ((s.at t).conn n (c % 1024)).st = 1)
include ready

theorem execRoceAcknowledgement_of_nak : execRoceAcknowledgement n c psn true data t s = .next ((s.at t).retransmit n (c % 1024)) := by
  unfold execRoceAcknowledgement
  simp only [ready, ne_eq, not_true_eq_false, if_false, if_true]

/-- Nothing outstanding is acknowledged. -/
theorem execRoceAcknowledgement_of_none (none : ∀ o ∈ ((s.at t).conn n (c % 1024)).out, psnUpTo o.1 (psn % 2 ^ 24) = false) :
    execRoceAcknowledgement n c psn false data t s = .next ((s.at t).onConn n (c % 1024) (fun x => { x with since := (s.at t).now })) := by
  have done : ((s.at t).conn n (c % 1024)).out.filter (fun o => psnUpTo o.1 (psn % 2 ^ 24)) = [] := by
    rw [List.filter_eq_nil_iff]
    exact fun o mem => Bool.eq_false_iff.mp (none o mem)
  have left : ((s.at t).conn n (c % 1024)).out.filter (fun o => !psnUpTo o.1 (psn % 2 ^ 24)) = ((s.at t).conn n (c % 1024)).out := by
    rw [List.filter_eq_self]
    exact fun o mem => by rw [none o mem]; rfl
  unfold execRoceAcknowledgement
  simp only [ready, done, ne_eq, not_true_eq_false, Bool.false_eq_true, if_false, List.isEmpty_nil, if_true, forAll, List.foldl_nil]
  rw [State.onConn, State.onConn, left]

/-- The one transfer outstanding is acknowledged. -/
theorem execRoceAcknowledgement_of_one {o : Nat × Nat} (one : ((s.at t).conn n (c % 1024)).out = [o]) (acked : psnUpTo o.1 (psn % 2 ^ 24) = true) :
    execRoceAcknowledgement n c psn false data t s = .next (((s.at t).onConn n (c % 1024) (fun x => { x with out := [], tries := 0, since := (s.at t).now })).roceDone n o.2
      (if o.1 = psn % 2 ^ 24 then data else [])) := by
  have done : ((s.at t).conn n (c % 1024)).out.filter (fun o => psnUpTo o.1 (psn % 2 ^ 24)) = [o] := by
    simp only [one, List.filter_cons, List.filter_nil, acked, if_true]
  have left : ((s.at t).conn n (c % 1024)).out.filter (fun o => !psnUpTo o.1 (psn % 2 ^ 24)) = [] := by
    simp only [one, List.filter_cons, List.filter_nil, acked, Bool.not_true, Bool.false_eq_true, if_false]
  unfold execRoceAcknowledgement
  simp only [ready, done, ne_eq, not_true_eq_false, Bool.false_eq_true, if_false, List.isEmpty_cons, forAll, List.foldl_cons, List.foldl_nil]
  rw [State.onConn, State.onConn, left]

end

theorem execRoceAcknowledgement_of_not_ready {psn : Nat} {nak : Bool} {data : List Byte} (not : ((s.at t).conn n (c % 1024)).st ≠ 1) :
    execRoceAcknowledgement n c psn nak data t s = .next (s.at t) := congrArg _ (if_pos not)

end

/-- Settles O51: frames, runs and links of a port; transfers, their acknowledgements and their repeats of a connection. -/
theorem ethernetAndConnections : Obligations.EthernetAndConnections := by
  unfold Obligations.EthernetAndConnections
  intro s e n frame target pay data fcs nak unit ready watts c psn rc ad t m s1 s2 kind
  rw [exec_ethLinkUp, exec_pluggableModuleInsert, exec_roceAckTimeout, exec_roceAcknowledgement]
  refine ⟨fun down row mem => exec_of_ethDown down mem, fun up => ⟨?bad, ?ignored, ?roce, fun k endpoint => ⟨?_, ?_⟩, fun nobody => ⟨?_, ?_⟩,
    fun inRange starts => ⟨fun b borrows lends => ⟨?_, shared_of_borrower borrows⟩, fun assigned keeps => ?_⟩, ?_⟩, execEthLinkUp_of_trains, execEthLinkUp_of_not,
    execPluggableModuleInsert_facts watts, ⟨fun y row => ?transfer, fun ready turn => roceIn_expected ready turn,
      fun ready other _ => ⟨roceIn_of_before ready other, roceIn_of_after ready other⟩⟩,
    ⟨fun due => congrArg _ (if_pos due), fun early => congrArg _ (if_neg early), retransmit_of_tried, retransmit_conn, execRoceAcknowledgement_of_not_ready, ?repeated, ?none, ?one⟩⟩
  case bad =>
    rintro rfl
    exact execEthernetFrameReceive_of_bad up frame
  case ignored =>
    rintro rfl ignored
    exact execEthernetFrameReceive_of_ignored up ignored
  case roce =>
    rintro rfl long short flow addressed warm kind ash
    have runs := execEthernetFrameReceive_of_roce up long short flow addressed warm kind ash
    refine ⟨fun active => ?_, fun asleep room => ?_, fun asleep full => ?_⟩
    · exact runs.trans (congrArg _ (if_pos active))
    · refine ⟨_, runs.trans (congrArg _ ((if_neg (Bool.eq_false_iff.mp asleep)).trans (if_neg (Nat.not_lt.mpr room)))), ?_⟩
      rw [eport_onEport, if_pos rfl, getD_put, if_pos rfl]
      rfl
    · exact runs.trans (congrArg _ ((if_neg (Bool.eq_false_iff.mp asleep)).trans (if_pos full)))
  case transfer =>
    rw [exec_of_transfer row]
    refine ⟨fun not => congrArg _ (roceArrive_of_not ?_), ?_, ?_⟩
    · rintro ⟨up, live, ash, ready, port, warm⟩
      exact not ⟨up, live, ash, ready, port, warm⟩
    · rintro ⟨up, live, ash, ready, port, warm⟩ active
      rw [roceArrive_of_reaches ⟨up, live, ash, ready, port, warm⟩]
      exact congrArg _ (if_pos active)
    · rintro ⟨up, live, ash, ready, port, warm⟩ asleep
      rw [roceArrive_of_reaches ⟨up, live, ash, ready, port, warm⟩]
      exact congrArg _ (if_neg (Bool.eq_false_iff.mp asleep))
  case repeated =>
    rintro ready rfl
    exact execRoceAcknowledgement_of_nak ready
  case none =>
    rintro ready rfl none
    exact execRoceAcknowledgement_of_none ready none
  case one =>
    rintro o ready rfl one acked
    exact execRoceAcknowledgement_of_one ready one acked
  · exact execNeighbourDiscovery_of_endpoint up endpoint
  · exact execEchoRequest_of_endpoint up endpoint
  · exact execNeighbourDiscovery_of_nobody up nobody
  · exact execEchoRequest_of_nobody up nobody
  · exact execRunStart_of_lent up inRange starts borrows lends
  · exact execRunStart_of_kept up inRange starts assigned keeps
  · exact execEthLinkDown_of_up up

end Sys2Proof.Proofs
end

section
/-!
PROOFS. The instructions of the hearth core that write a register and go on: the integer, immediate and FP32 rows of Table 03-3.
-/
namespace Sys2Proof.Proofs
open Sys2Proof.Machine Sys2Proof.Laws

/-! The state in which an instruction runs -/

section
variable (s : State) (g n l : Nat)

theorem traceOnly_seen : TraceOnly s (s.seen g n l) := traceOnly_compare _ _ _ _

theorem traceOnly_watched (mode a len : Nat) : TraceOnly s (s.watched g n l mode a len) := (traceOnly_seen s g n l).trans (traceOnly_watch _ _ _ _ _ _)

end

/-- A state that differs in traces alone has the same uncorrectable words. -/
theorem uncorrectable_of_traceOnly {s t : State} (same : TraceOnly s t) (a len : Nat) : t.uncorrectable a len = s.uncorrectable a len := by
  simp only [State.uncorrectable, State.deadAt, same.bad, same.ricks]

/-- A hearth of a state that differs in traces alone, seen through anything but its trace. -/
theorem hearth_of_traceOnly {α : Type} {s t : State} (same : TraceOnly s t) (i : Nat) (φ : Hearth → α) (beside : ∀ h tr, φ { h with trace := tr } = φ h) :
    φ (t.hearth i) = φ (s.hearth i) := by
  obtain ⟨tr, e⟩ := same.hearth i
  rw [e, beside]

theorem nextPc_of_traceOnly {s t : State} (same : TraceOnly s t) (g : Nat) : (t.hearth g).nextPc = s.pcNext g :=
  hearth_of_traceOnly same g Hearth.nextPc fun _ _ => rfl

/-- The row of a core that is about to start its word does what its body says, in the state that the comparators have seen. -/
theorem coreRun_of_coreAt {s : State} {g n l : Nat} {w : W32} {m : Mn} (starts : CoreAt s g n l w m) (body : State → Nat → Nat → W32 → State) :
    coreRun s g m body = body (s.seen g n l) n l w :=
  coreRun_at starts.ready starts.word starts.sound starts.names body

/-! Retirement -/

theorem setReg_eq (h : Hearth) (a : Nat) (v : W64) : h.setReg a v = { h with regs := (h.setReg a v).regs } := by
  unfold Hearth.setReg; split <;> rfl

/-- A register is written and the instruction ends. -/
theorem retires_write (s : State) (g a : Nat) (v : W64) (pc cycles : Nat) :
    Retires s (s.setHearth g (((s.hearth g).setReg a v).retire pc cycles)) g a v pc cycles := by
  refine ⟨((s.hearth g).setReg a v).regs, (((s.hearth g).setReg a v).retire pc cycles).perfRun, ?_, fun i => ?_⟩
  · rw [setReg_eq]; rfl
  · rw [hearth_setHearth, if_pos rfl]
    exact reg_setReg ..

/-- The instruction ends and writes no register. -/
theorem retires_only (s : State) (g pc cycles : Nat) : Retires s (s.setHearth g ((s.hearth g).retire pc cycles)) g 0 0 pc cycles :=
  retires_write s g 0 0 pc cycles

section
variable {s : State} {g n l : Nat} {w : W32} {m : Mn} (starts : CoreAt s g n l w m)
include starts

theorem coreAlu_retires (c : Nat) (f : Hearth → W32 → W64) :
    Retires (s.seen g n l) (coreAlu s g m c f) g (wA w) (f ((s.seen g n l).hearth g) w) (s.pcNext g) c := by
  rw [coreAlu, coreRun_of_coreAt starts, ← nextPc_of_traceOnly (traceOnly_seen s g n l)]
  exact retires_write ..

theorem coreRR_retires (c : Nat) (f : W64 → W64 → W64) :
    Retires (s.seen g n l) (coreRR s g m c f) g (wA w) (f (s.opB g w) (s.opC g w)) (s.pcNext g) c := by
  have h := coreAlu_retires starts c (fun h w => f (h.reg (wB w)) (h.reg (wC w)))
  rwa [(traceOnly_seen s g n l).reg, (traceOnly_seen s g n l).reg] at h

theorem coreRI_retires (f : W64 → W64 → W64) :
    Retires (s.seen g n l) (coreRI s g m f) g (wA w) (f (s.opB g w) (wImm w)) (s.pcNext g) 1 := by
  have h := coreAlu_retires starts 1 (fun h w => f (h.reg (wB w)) (wImm w))
  rwa [(traceOnly_seen s g n l).reg] at h

end

/-- A row that runs `f` on B and C, where `f` is the operation `spec` of Table 03-3. -/
theorem row_of_coreRR {s : State} {g n l c : Nat} {w : W32} {m : Mn} {i : Instr} {f spec : W64 → W64 → W64} (runs : exec i s = .next (coreRR s g m c f))
    (same : ∀ b c, f b c = spec b c) (starts : CoreAt s g n l w m) :
    ∃ t, exec i s = .next t ∧ Retires (s.seen g n l) t g (wA w) (spec (s.opB g w) (s.opC g w)) (s.pcNext g) c :=
  ⟨_, runs, same .. ▸ coreRR_retires starts c f⟩

/-- A row that runs `f` on B and IMM14, where `f` is the operation `spec` of Table 03-3. -/
theorem row_of_coreRI {s : State} {g n l : Nat} {w : W32} {m : Mn} {i : Instr} {f spec : W64 → W64 → W64} (runs : exec i s = .next (coreRI s g m f))
    (same : ∀ b c, f b c = spec b c) (starts : CoreAt s g n l w m) :
    ∃ t, exec i s = .next t ∧ Retires (s.seen g n l) t g (wA w) (spec (s.opB g w) (wImm w)) (s.pcNext g) 1 :=
  ⟨_, runs, same .. ▸ coreRI_retires starts f⟩

/-! The 64-bit operations of the core as arithmetic on signed and unsigned numbers -/

theorem add_eq_ofInt (b c : W64) : b + c = BitVec.ofInt 64 (b.toInt + c.toInt) := by
  rw [BitVec.ofInt_add, BitVec.ofInt_toInt, BitVec.ofInt_toInt]

theorem sub_eq_ofInt (b c : W64) : b - c = BitVec.ofInt 64 (b.toInt - c.toInt) := by
  rw [Int.sub_eq_add_neg, BitVec.ofInt_add, BitVec.ofInt_neg, BitVec.ofInt_toInt, BitVec.ofInt_toInt, BitVec.sub_eq_add_neg]

theorem mul_eq_ofInt (b c : W64) : b * c = BitVec.ofInt 64 (b.toInt * c.toInt) := by
  rw [BitVec.ofInt_mul, BitVec.ofInt_toInt, BitVec.ofInt_toInt]

theorem shiftLeft_eq_ofNat (b : W64) (k : Nat) : b <<< k = BitVec.ofNat 64 (b.toNat * 2 ^ k) := by
  apply BitVec.eq_of_toNat_eq
  rw [BitVec.toNat_shiftLeft, Nat.shiftLeft_eq, BitVec.toNat_ofNat]

theorem shiftRight_eq_ofNat (b : W64) (k : Nat) : b >>> k = BitVec.ofNat 64 (b.toNat / 2 ^ k) := by
  rw [← Nat.shiftRight_eq_div_pow, ← BitVec.toNat_ushiftRight, BitVec.ofNat_toNat, BitVec.setWidth_eq]

theorem sshiftRight_eq_ofInt (b : W64) (k : Nat) : b.sshiftRight k = BitVec.ofInt 64 (b.toInt / 2 ^ k) := by
  have h := Int.shiftRight_eq_div_pow b.toInt k
  push_cast at h
  rw [← h, ← BitVec.toInt_sshiftRight, BitVec.ofInt_toInt]

theorem signed_min_eq_ofInt (b c : W64) : (if c.slt b then c else b) = BitVec.ofInt 64 (min b.toInt c.toInt) := by
  rw [BitVec.slt_eq_decide]
  by_cases h : c.toInt < b.toInt
  · rw [min_eq_right h.le, BitVec.ofInt_toInt]; simp [h]
  · rw [min_eq_left (not_lt.mp h), BitVec.ofInt_toInt]; simp [h]

theorem signed_max_eq_ofInt (b c : W64) : (if b.slt c then c else b) = BitVec.ofInt 64 (max b.toInt c.toInt) := by
  rw [BitVec.slt_eq_decide]
  by_cases h : b.toInt < c.toInt
  · rw [max_eq_right h.le, BitVec.ofInt_toInt]; simp [h]
  · rw [max_eq_left (not_lt.mp h), BitVec.ofInt_toInt]; simp [h]

theorem slt_bit (b c : W64) : (if b.slt c then 1 else 0 : W64) = if b.toInt < c.toInt then 1 else 0 := by
  simp only [BitVec.slt_iff_toInt_lt]

theorem ult_bit (b c : W64) : (if b.ult c then 1 else 0 : W64) = if b.toNat < c.toNat then 1 else 0 := by
  simp only [BitVec.ult_eq_decide, decide_eq_true_eq]

/-- Settles O7: each row runs a machine operation on B and C that is the operation of Table 03-3. -/
theorem coreIntegerResult : Obligations.CoreIntegerResult := by
  unfold Obligations.CoreIntegerResult
  intro s g n l w
  simp only [List.forall_mem_cons, List.not_mem_nil, false_imp_iff, implies_true, and_true]
  exact ⟨row_of_coreRR (exec_add g s) add_eq_ofInt, row_of_coreRR (exec_sub g s) sub_eq_ofInt, row_of_coreRR (exec_and g s) fun _ _ => rfl,
    row_of_coreRR (exec_or g s) fun _ _ => rfl, row_of_coreRR (exec_xor g s) fun _ _ => rfl,
    row_of_coreRR (exec_shl g s) fun b _ => shiftLeft_eq_ofNat b _, row_of_coreRR (exec_shr g s) fun b _ => shiftRight_eq_ofNat b _,
    row_of_coreRR (exec_sar g s) fun b _ => sshiftRight_eq_ofInt b _, row_of_coreRR (exec_mul g s) mul_eq_ofInt,
    row_of_coreRR (exec_mulh g s) fun _ _ => rfl, row_of_coreRR (exec_slt g s) slt_bit, row_of_coreRR (exec_sltu g s) ult_bit,
    row_of_coreRR (exec_min g s) signed_min_eq_ofInt, row_of_coreRR (exec_max g s) signed_max_eq_ofInt⟩

theorem wImm20_eq (w : W32) : wImm20 w = w.toNat % 2 ^ 20 := by
  simp [wImm20, bits]

/-- MOVH moves A up by 20 bits and lays IMM20 beneath. -/
theorem movh_retires {s : State} {g : Fin 216} {n l : Nat} {w : W32} (starts : CoreAt s g n l w .movh) :
    ∃ t, exec (.movh g) s = .next t ∧ Retires (s.seen g n l) t g (wA w)
      (BitVec.ofNat 64 ((s.opA g w).toNat * 2 ^ 20) ||| BitVec.ofNat 64 (w.toNat % 2 ^ 20)) (s.pcNext g) 1 := by
  have h := coreAlu_retires starts 1 (fun h w => (h.reg (wA w) <<< 20) ||| BitVec.ofNat 64 (wImm20 w))
  rw [(traceOnly_seen s g n l).reg, shiftLeft_eq_ofNat, wImm20_eq] at h
  exact ⟨_, exec_movh g s, h⟩

/-- Settles O8: each row runs its machine operation on B and the sign-extended IMM14; MOVH is written out. -/
theorem coreImmediateResult : Obligations.CoreImmediateResult := by
  unfold Obligations.CoreImmediateResult
  intro s g n l w
  simp only [List.forall_mem_cons, List.not_mem_nil, false_imp_iff, implies_true, and_true]
  exact ⟨row_of_coreRI (exec_addi g s) add_eq_ofInt, row_of_coreRI (exec_andi g s) fun _ _ => rfl, row_of_coreRI (exec_ori g s) fun _ _ => rfl,
    row_of_coreRI (exec_xori g s) fun _ _ => rfl, row_of_coreRI (exec_shli g s) fun b _ => shiftLeft_eq_ofNat b _,
    row_of_coreRI (exec_shri g s) fun b _ => shiftRight_eq_ofNat b _, row_of_coreRI (exec_sari g s) fun b _ => sshiftRight_eq_ofInt b _, movh_retires⟩

/-! FP32 -/

/-- An FP32 row writes the code of its result, and reports a NaN at the cycle at which the instruction ends (R114, R195). -/
theorem row_of_coreFP {s : State} {g n l : Nat} {w : W32} {m : Mn} {i : Instr} {f : FV → FV → Nat} (runs : exec i s = .next (coreFP s g m f))
    (starts : CoreAt s g n l w m) : let r := f (fpVal (s.opB g w)) (fpVal (s.opC g w))
    ∃ u, Retires (s.seen g n l) u g (wA w) (BitVec.ofNat 64 (r % 2 ^ 32)) (s.pcNext g) 4 ∧
      exec i s = .next (if (f32v r).isNan then u.nanReport n l g 0xFF (s.hearth g).pc 0 5 ((s.hearth g).cycle + 4) else u) := by
  intro r
  have same := traceOnly_seen s g n l
  refine ⟨_, retires_write (s.seen g n l) g (wA w) (fpRes r) (s.pcNext g) 4, ?_⟩
  rw [runs, coreFP, coreRun_of_coreAt starts]
  dsimp only
  rw [same.reg, same.reg, same.pc, same.cycle, nextPc_of_traceOnly same]
  rfl

/-- Settles O9: five rows are FP32 operations with their NaN report, three are plain operations on registers. -/
theorem coreFloatResult : Obligations.CoreFloatResult := by
  unfold Obligations.CoreFloatResult
  intro s g n l w
  simp only [List.forall_mem_cons, List.not_mem_nil, false_imp_iff, implies_true, and_true]
  exact ⟨⟨row_of_coreFP (exec_fadd g s), row_of_coreFP (exec_fsub g s), row_of_coreFP (exec_fmul g s), row_of_coreFP (exec_fmin g s),
      row_of_coreFP (exec_fmax g s)⟩,
    row_of_coreRR (exec_flt g s) fun _ _ => rfl, row_of_coreRR (exec_fcvti g s) fun _ _ => rfl, row_of_coreRR (exec_fcvtf g s) fun _ _ => rfl⟩

end Sys2Proof.Proofs
end

section
/-!
PROOFS. Loads and stores of scalar data memory, and the traps of an access (R92, R97).
-/
namespace Sys2Proof.Proofs
open Sys2Proof.Machine Sys2Proof.Laws

/-- Where nothing lies at the word address the fetch traps, whichever row is commanded (R97, R110). -/
theorem coreRun_of_no_word {s : State} {g n l : Nat} (ready : s.coreReady g = some (n, l)) (beyond : (s.hearth g).fetch = none) (m : Mn)
    (body : State → Nat → Nat → W32 → State) : coreRun s g m body = s.coreTrap n l g 0x04 0 := by
  simp only [coreRun, ready, beyond]

/-- Byte `i` of a number's bytes. -/
theorem getElem?_leBytes {size i : Nat} (v : Nat) (inside : i < size) : (leBytes size v)[i]? = some (BitVec.ofNat 8 (v / 256 ^ i)) := by
  induction size generalizing i v with
  | zero => omega
  | succ k ih =>
    cases i with
    | zero => simp [leBytes]
    | succ j => simp [leBytes, ih (v / 256) (Nat.lt_of_succ_lt_succ inside), Nat.div_div_eq_div_mul, Nat.pow_succ']

theorem memAddr_seen (s : State) (g n l : Nat) (w : W32) : memAddr ((s.seen g n l).hearth g) w = (s.opB g w + wImm w).toNat := by
  rw [memAddr, (traceOnly_seen s g n l).reg]; rfl

section
variable {s : State} {g n l size : Nat} {w : W32} {m : Mn} (starts : CoreAt s g n l w m)
include starts

/-! The addresses that trap -/

theorem coreLoad_of_misaligned (bad : (s.opB g w + wImm w).toNat % size ≠ 0) :
    coreLoad s g m size = (s.seen g n l).coreTrap n l g 0x02 w.toNat ((s.opB g w + wImm w).toNat % 2 ^ 32) := by
  rw [coreLoad, coreRun_of_coreAt starts]
  dsimp only
  rw [memAddr_seen, if_pos bad]

theorem coreStore_of_misaligned (bad : (s.opB g w + wImm w).toNat % size ≠ 0) :
    coreStore s g m size = (s.seen g n l).coreTrap n l g 0x02 w.toNat ((s.opB g w + wImm w).toNat % 2 ^ 32) := by
  rw [coreStore, coreRun_of_coreAt starts]
  dsimp only
  rw [memAddr_seen, if_pos bad]

section
variable (aligned : (s.opB g w + wImm w).toNat % size = 0)
include aligned

theorem coreLoad_of_beyond (beyond : 0x8000 < (s.opB g w + wImm w).toNat + size) :
    coreLoad s g m size = (s.seen g n l).coreTrap n l g 0x03 w.toNat ((s.opB g w + wImm w).toNat % 2 ^ 32) := by
  rw [coreLoad, coreRun_of_coreAt starts]
  dsimp only
  rw [memAddr_seen, if_neg (not_not.mpr aligned), if_pos beyond]

theorem coreStore_of_beyond (beyond : 0x8000 < (s.opB g w + wImm w).toNat + size) :
    coreStore s g m size = (s.seen g n l).coreTrap n l g 0x03 w.toNat ((s.opB g w + wImm w).toNat % 2 ^ 32) := by
  rw [coreStore, coreRun_of_coreAt starts]
  dsimp only
  rw [memAddr_seen, if_neg (not_not.mpr aligned), if_pos beyond]

variable (within : (s.opB g w + wImm w).toNat + size ≤ 0x8000)
include within

theorem coreLoad_of_uncorrectable (bad : s.uncorrectable (sdWork g + (s.opB g w + wImm w).toNat) size = true) :
    coreLoad s g m size = (s.seen g n l).coreTrap n l g 0x08 w.toNat := by
  rw [coreLoad, coreRun_of_coreAt starts]
  dsimp only
  rw [memAddr_seen, uncorrectable_of_traceOnly (traceOnly_seen s g n l), if_neg (not_not.mpr aligned), if_neg (not_lt.mpr within), if_pos bad]

/-! The accesses that do not trap -/

theorem coreLoad_retires (sound : s.uncorrectable (sdWork g + (s.opB g w + wImm w).toNat) size = false) :
    Retires (s.watched g n l 0 (s.opB g w + wImm w).toNat size) (coreLoad s g m size) g (wA w)
      (BitVec.ofNat 64 (leNat (s.mem.read (sdWork g + (s.opB g w + wImm w).toNat) size))) (s.pcNext g) 2 := by
  have same := traceOnly_watched s g n l 0 (s.opB g w + wImm w).toNat size
  have h := retires_write (s.watched g n l 0 (s.opB g w + wImm w).toNat size) g (wA w)
    (BitVec.ofNat 64 ((s.watched g n l 0 (s.opB g w + wImm w).toNat size).mem.num (sdWork g + (s.opB g w + wImm w).toNat) size)) (s.pcNext g) 2
  rw [coreLoad, coreRun_of_coreAt starts]
  dsimp only
  rw [memAddr_seen, uncorrectable_of_traceOnly (traceOnly_seen s g n l), if_neg (not_not.mpr aligned), if_neg (not_lt.mpr within),
    if_neg (by rw [sound]; exact Bool.false_ne_true)]
  rw [← nextPc_of_traceOnly same, same.mem] at h
  rw [← nextPc_of_traceOnly same]
  rw [← State.watched, same.mem]
  exact h

/-- The store itself: the low bytes of A in the working copy, as the watches have seen it. -/
theorem coreStore_retires :
    Retires ((s.watched g n l 1 (s.opB g w + wImm w).toNat size).store (sdWork g + (s.opB g w + wImm w).toNat) (leBytes size (s.opA g w).toNat))
      (coreStore s g m size) g 0 0 (s.pcNext g) 1 := by
  have same := traceOnly_watched s g n l 1 (s.opB g w + wImm w).toNat size
  rw [coreStore, coreRun_of_coreAt starts]
  dsimp only
  rw [memAddr_seen, if_neg (not_not.mpr aligned), if_neg (not_lt.mpr within), (traceOnly_seen s g n l).reg, ← nextPc_of_traceOnly same]
  exact retires_only ..

theorem coreStore_look (b : Nat) : (coreStore s g m size).mem.look b =
    if sdWork g + (s.opB g w + wImm w).toNat ≤ b ∧ b < sdWork g + (s.opB g w + wImm w).toNat + size
      then BitVec.ofNat 8 ((s.opA g w).toNat / 256 ^ (b - (sdWork g + (s.opB g w + wImm w).toNat))) else s.mem.look b := by
  obtain ⟨regs, perf, e, -⟩ := coreStore_retires starts aligned within
  have stored : (coreStore s g m size).mem =
      s.mem.store (sdWork g + (s.opB g w + wImm w).toNat) (leBytes size (s.opA g w).toNat) := by
    rw [e]
    exact congrArg (fun x => Memory.store x _ _) (traceOnly_watched s g n l 1 _ size).mem
  rw [stored, look_store, length_leBytes]
  split
  · next inside => rw [getElem?_leBytes _ (by omega)]; rfl
  · rfl

end

end

section
variable {s : State} {g n l size : Nat} {w : W32} {m : Mn} {i : Instr} (starts : CoreAt s g n l w m)
  (aligned : (s.opB g w + wImm w).toNat % size = 0) (within : (s.opB g w + wImm w).toNat + size ≤ 0x8000)
include starts aligned within

theorem row_of_coreLoad (runs : exec i s = .next (coreLoad s g m size))
    (sound : s.uncorrectable (sdWork g + (s.opB g w + wImm w).toNat) size = false) :
    ∃ t, exec i s = .next t ∧ Retires (s.watched g n l 0 (s.opB g w + wImm w).toNat size) t g (wA w)
      (BitVec.ofNat 64 (leNat (s.mem.read (sdWork g + (s.opB g w + wImm w).toNat) size))) (s.pcNext g) 2 :=
  ⟨_, runs, coreLoad_retires starts aligned within sound⟩

theorem row_of_coreStore (runs : exec i s = .next (coreStore s g m size)) :
    let a := (s.opB g w + wImm w).toNat
    ∃ t, exec i s = .next t ∧
      Retires ((s.watched g n l 1 a size).store (sdWork g + a) (leBytes size (s.opA g w).toNat)) t g 0 0 (s.pcNext g) 1 ∧
      ∀ b, t.mem.look b = if sdWork g + a ≤ b ∧ b < sdWork g + a + size then BitVec.ofNat 8 ((s.opA g w).toNat / 256 ^ (b - (sdWork g + a)))
        else s.mem.look b :=
  ⟨_, runs, coreStore_retires starts aligned within, coreStore_look starts aligned within⟩

end

/-- Settles O10: each row is a load of its size. -/
theorem coreLoadResult : Obligations.CoreLoadResult := by
  unfold Obligations.CoreLoadResult
  intro s g n l w
  simp only [List.forall_mem_cons, List.not_mem_nil, false_imp_iff, implies_true, and_true]
  exact ⟨fun h a b => row_of_coreLoad h a b (exec_ld64 g s), fun h a b => row_of_coreLoad h a b (exec_ld32 g s),
    fun h a b => row_of_coreLoad h a b (exec_ld16 g s), fun h a b => row_of_coreLoad h a b (exec_ld8 g s)⟩

/-- Settles O11: each row is a store of its size, whose bytes `look_store` gives back. -/
theorem coreStoreResult : Obligations.CoreStoreResult := by
  unfold Obligations.CoreStoreResult
  intro s g n l w
  simp only [List.forall_mem_cons, List.not_mem_nil, false_imp_iff, implies_true, and_true]
  exact ⟨fun h a b => row_of_coreStore h a b (exec_st64 g s), fun h a b => row_of_coreStore h a b (exec_st32 g s),
    fun h a b => row_of_coreStore h a b (exec_st16 g s), fun h a b => row_of_coreStore h a b (exec_st8 g s)⟩

/-- The traps of a load or store of `size` bytes, which is a load when `loads` holds. -/
def AccessTrapsOf (s : State) (g : Fin 216) (n l : Nat) (w : W32) (i : Instr) (size : Nat) (loads : Prop) : Prop :=
  let a := (s.opB g w + wImm w).toNat
  (a % size ≠ 0 → exec i s = .next ((s.seen g n l).coreTrap n l g 0x02 w.toNat (a % 2 ^ 32))) ∧
  (a % size = 0 → 0x8000 < a + size → exec i s = .next ((s.seen g n l).coreTrap n l g 0x03 w.toNat (a % 2 ^ 32))) ∧
  (a % size = 0 → a + size ≤ 0x8000 → s.uncorrectable (sdWork g + a) size = true → loads →
    exec i s = .next ((s.seen g n l).coreTrap n l g 0x08 w.toNat))

section
variable {s : State} {g : Fin 216} {n l size : Nat} {w : W32} {m : Mn} {i : Instr}

theorem accessTraps_of_load (runs : exec i s = .next (coreLoad s g m size)) (loads : Prop) (starts : CoreAt s g n l w m) :
    AccessTrapsOf s g n l w i size loads :=
  ⟨fun bad => by rw [runs, coreLoad_of_misaligned starts bad], fun aligned beyond => by rw [runs, coreLoad_of_beyond starts aligned beyond],
    fun aligned within bad _ => by rw [runs, coreLoad_of_uncorrectable starts aligned within bad]⟩

theorem accessTraps_of_store (runs : exec i s = .next (coreStore s g m size)) {loads : Prop} (stores : ¬ loads) (starts : CoreAt s g n l w m) :
    AccessTrapsOf s g n l w i size loads :=
  ⟨fun bad => by rw [runs, coreStore_of_misaligned starts bad], fun aligned beyond => by rw [runs, coreStore_of_beyond starts aligned beyond],
    fun _ _ _ loads => absurd loads stores⟩

end

/-- Settles O12: four rows are loads, four are stores; the fetch trap comes before the instruction of any row. -/
theorem accessTraps : Obligations.AccessTraps := by
  unfold Obligations.AccessTraps
  intro s g n l w
  refine ⟨?access, fun x row ready beyond => ?fetch⟩
  case access =>
    simp only [List.forall_mem_cons, List.not_mem_nil, false_imp_iff, implies_true, and_true]
    exact ⟨accessTraps_of_load (exec_ld64 g s) _, accessTraps_of_load (exec_ld32 g s) _, accessTraps_of_load (exec_ld16 g s) _,
      accessTraps_of_load (exec_ld8 g s) _, accessTraps_of_store (exec_st64 g s) (by decide), accessTraps_of_store (exec_st32 g s) (by decide),
      accessTraps_of_store (exec_st16 g s) (by decide), accessTraps_of_store (exec_st8 g s) (by decide)⟩
  case fetch =>
    obtain ⟨body, runs⟩ := runsCore_of_mem_coreRows g x row
    rw [runs, coreRun_of_no_word ready beyond]

end Sys2Proof.Proofs
end

section
/-!
PROOFS. Branches, jumps and reads of the summary registers (R101 to R103, R116).
-/
namespace Sys2Proof.Proofs
open Sys2Proof.Machine Sys2Proof.Laws

/-! Jumps -/

section
variable {s x : State} {g n a op pc cycles : Nat} {v : W64}

/-- From a state `x` in which the hearth has written its register, and that is else like `s` but for traces, the jump itself
moves the program counter, the cycle and the counters, and adds a trace record. -/
theorem jumps_of_written (own : ∃ regs tr, x.hearth g = { s.hearth g with regs := regs, trace := tr })
    (reg : ∀ i, (x.hearth g).reg i = if i = a ∧ i ≠ 0 then v else (s.hearth g).reg i)
    (others : ∀ i, i ≠ g → ∃ tr, x.hearth i = { s.hearth i with trace := tr }) (mem : x.mem = s.mem) (ricks : x.ricks = s.ricks)
    (jobs : x.jobs = s.jobs) (remap : x.remap = s.remap) (now : x.now = s.now) (pending : x.pending = s.pending) :
    Jumps s (x.jump n g op pc cycles) g a v pc cycles := by
  obtain ⟨regs, tr0, own⟩ := own
  have same := traceOnly_coreRecord x n g 0x03 op (x.hearth g).pc pc
  obtain ⟨tr1, here⟩ := same.hearth g
  have jumped : (x.jump n g op pc cycles).hearth g =
      (({ x.hearth g with trace := tr1 } : Hearth).retire pc cycles).count 2 1 := by
    rw [State.jump, hearth_onHearth, if_pos rfl, here]
  refine ⟨⟨regs, ((x.jump n g op pc cycles).hearth g).perfRun, tr1, ?_⟩, fun i => ?_, fun i other => ?_, same.mem.trans mem, same.ricks.trans ricks,
    same.jobs.trans jobs, same.remap.trans remap, same.now.trans now, same.pending.trans pending⟩
  · rw [jumped, own]; rfl
  · rw [jumped, ← reg i]; rfl
  · obtain ⟨tr2, there⟩ := same.hearth i
    obtain ⟨tr3, before⟩ := others i other
    exact ⟨tr2, by rw [State.jump, hearth_onHearth, if_neg other, there, before]⟩

/-- A jump that writes no register. -/
theorem jumps_of_traceOnly (same : TraceOnly s x) : Jumps s (x.jump n g op pc cycles) g 0 0 pc cycles := by
  refine jumps_of_written ?_ (fun i => ?_) (fun i _ => same.hearth i) same.mem same.ricks same.jobs same.remap same.now same.pending
  · obtain ⟨tr, e⟩ := same.hearth g
    exact ⟨(s.hearth g).regs, tr, e⟩
  · rw [same.reg, if_neg (by rintro ⟨zero, nonzero⟩; exact nonzero zero)]

/-- A jump that writes the return address. -/
theorem jumps_of_call (same : TraceOnly s x) : Jumps s ((x.setHearth g ((x.hearth g).setReg a v)).jump n g op pc cycles) g a v pc cycles := by
  have written : (x.setHearth g ((x.hearth g).setReg a v)).hearth g = (x.hearth g).setReg a v := by rw [hearth_setHearth, if_pos rfl]
  refine jumps_of_written ?_ (fun i => ?_) (fun i other => ?_) same.mem same.ricks same.jobs same.remap same.now same.pending
  · obtain ⟨tr, e⟩ := same.hearth g
    refine ⟨((x.hearth g).setReg a v).regs, tr, ?_⟩
    rw [written, setReg_eq, e]
  · rw [written, reg_setReg, same.reg]
  · rw [hearth_setHearth, if_neg other]
    exact same.hearth i

end

/-- A conditional branch jumps when its condition holds of A and B, and goes on otherwise. -/
theorem row_of_coreBranch {s : State} {g n l : Nat} {w : W32} {m : Mn} {i : Instr} {c spec : W64 → W64 → Bool} (runs : exec i s = .next (coreBranch s g m c))
    (same : ∀ a b, c a b = spec a b) (starts : CoreAt s g n l w m) :
    (spec (s.opA g w) (s.opB g w) = true → ∃ t, exec i s = .next t ∧ Jumps s t g 0 0 (wTarget w (s.hearth g).pc) 3) ∧
    (spec (s.opA g w) (s.opB g w) = false → ∃ t, exec i s = .next t ∧ Retires (s.seen g n l) t g 0 0 (s.pcNext g) 1) := by
  have u := traceOnly_seen s g n l
  rw [runs, coreBranch, coreRun_of_coreAt starts]
  dsimp only
  rw [u.reg, u.reg, u.pc, same]
  refine ⟨fun taken => ⟨_, rfl, ?_⟩, fun fails => ⟨_, rfl, ?_⟩⟩
  · rw [← State.opA, ← State.opB, if_pos taken]
    exact jumps_of_traceOnly u
  · rw [← State.opA, ← State.opB, if_neg (by rw [fails]; exact Bool.false_ne_true), ← nextPc_of_traceOnly u]
    exact retires_only ..

theorem bne_decide (a b : W64) : (a != b) = decide (a ≠ b) := by
  rw [bne, beq_eq_decide, decide_not]

theorem not_slt_decide (a b : W64) : (!a.slt b) = decide (b.toInt ≤ a.toInt) := by
  rw [BitVec.slt_eq_decide, ← decide_not]
  exact decide_eq_decide.mpr not_lt

theorem not_ult_decide (a b : W64) : (!a.ult b) = decide (b.toNat ≤ a.toNat) := by
  rw [BitVec.ult_eq_decide, ← decide_not]
  exact decide_eq_decide.mpr not_lt

/-- Settles O13: six rows are conditional branches; JMP and JR write the return address and jump. -/
theorem coreBranchResult : Obligations.CoreBranchResult := by
  unfold Obligations.CoreBranchResult
  intro s g n l w
  have same := traceOnly_seen s g n l
  refine ⟨?branches, fun starts => ?jmp, fun starts => ?jr⟩
  case branches =>
    simp only [List.forall_mem_cons, List.not_mem_nil, false_imp_iff, implies_true, and_true]
    exact ⟨row_of_coreBranch (exec_beq g s) fun a b => beq_eq_decide a b, row_of_coreBranch (exec_bne g s) bne_decide,
      row_of_coreBranch (exec_blt g s) fun a b => BitVec.slt_eq_decide,
      row_of_coreBranch (exec_bge g s) not_slt_decide,
      row_of_coreBranch (exec_bltu g s) fun a b => BitVec.ult_eq_decide,
      row_of_coreBranch (exec_bgeu g s) not_ult_decide⟩
  case jmp =>
    refine ⟨_, (exec_jmp g s).trans (congrArg Host.Outcome.next (coreRun_of_coreAt starts _)), ?_⟩
    dsimp only
    rw [nextPc_of_traceOnly same, show wTgt w = w.toNat % 2 ^ 14 by simp [wTgt, bits]]
    exact jumps_of_call same
  case jr =>
    refine ⟨_, (exec_jr g s).trans (congrArg Host.Outcome.next (coreRun_of_coreAt starts _)), ?_⟩
    dsimp only
    rw [nextPc_of_traceOnly same, same.reg]
    exact jumps_of_call same

/-! Summary registers -/

/-- No integer or FP32 word reads a summary register. -/
theorem mnRR_ne_read (fn : Nat) {m : Mn} (read : m ∈ [Mn.bsum, .srd, .sflg]) : mnRR fn ≠ some m := by
  unfold mnRR
  split <;> rintro ⟨⟩ <;> simp at read

/-- The OP of a word that reads a summary register (Table 03-3). -/
theorem wOp_of_read {w : W32} {m : Mn} {op : Nat} (names : mnOf w = some m) (read : (m, op) ∈ [(Mn.bsum, 0x20), (.srd, 0x21), (.sflg, 0x22)]) :
    wOp w = op := by
  simp only [List.mem_cons, Prod.mk.injEq, List.not_mem_nil, or_false] at read
  unfold mnOf at names
  split at names
  case h_1 => exact absurd names (mnRR_ne_read _ (by rcases read with ⟨rfl, -⟩ | ⟨rfl, -⟩ | ⟨rfl, -⟩ <;> decide))
  case h_38 => cases names
  all_goals rcases read with ⟨rfl, rfl⟩ | ⟨rfl, rfl⟩ | ⟨rfl, rfl⟩ <;> simp_all

theorem y_of_traceOnly {s t : State} (same : TraceOnly s t) (g i : Nat) : (t.hearth g).y i = (s.hearth g).y i :=
  hearth_of_traceOnly same g (fun h => h.y i) fun _ _ => rfl

section
variable {s : State} {g n l : Nat} {w : W32} {m : Mn} {yOf : W32 → Nat} (starts : CoreAt s g n l w m)
include starts

theorem coreSummary_of_valid (valid : ((s.hearth g).y (yOf w)).valid = true) :
    coreSummary s g m yOf = (s.seen g n l).readSummary n g w := by
  rw [coreSummary, coreRun_of_coreAt starts]
  dsimp only
  rw [y_of_traceOnly (traceOnly_seen s g n l), if_pos valid]

section
variable (invalid : ((s.hearth g).y (yOf w)).valid = false)
include invalid

theorem coreSummary_of_pending (pending : ((s.hearth g).y (yOf w)).writer.isSome = true) :
    coreSummary s g m yOf = (s.seen g n l).setHearth g { (s.seen g n l).hearth g with stall := .summary (yOf w) (s.hearth g).cycle } := by
  rw [coreSummary, coreRun_of_coreAt starts]
  dsimp only
  rw [y_of_traceOnly (traceOnly_seen s g n l), if_neg (by rw [invalid]; exact Bool.false_ne_true), if_pos pending, (traceOnly_seen s g n l).cycle]

theorem coreSummary_of_none (none : ((s.hearth g).y (yOf w)).writer = none) :
    coreSummary s g m yOf = (s.seen g n l).coreTrap n l g 0x05 w.toNat := by
  rw [coreSummary, coreRun_of_coreAt starts]
  dsimp only
  rw [y_of_traceOnly (traceOnly_seen s g n l), if_neg (by rw [invalid]; exact Bool.false_ne_true), if_neg (by simp [none])]

end

end

/-- A summary register that is not valid: the core waits for its pending writer, or traps where there is none (R101). -/
theorem row_of_invalid_summary {s : State} {g n l : Nat} {w : W32} {m : Mn} {i : Instr} {yOf : W32 → Nat} (runs : exec i s = .next (coreSummary s g m yOf))
    (starts : CoreAt s g n l w m) (invalid : ((s.hearth g).y (yOf w)).valid = false) : let u := s.seen g n l
    (((s.hearth g).y (yOf w)).writer.isSome = true →
      exec i s = .next (u.setHearth g { u.hearth g with stall := .summary (yOf w) (s.hearth g).cycle })) ∧
    (((s.hearth g).y (yOf w)).writer = none → exec i s = .next (u.coreTrap n l g 0x05 w.toNat)) :=
  ⟨fun pending => by rw [runs, coreSummary_of_pending starts invalid pending], fun none => by rw [runs, coreSummary_of_none starts invalid none]⟩

section
variable {s : State} {n g : Nat} {w : W32}

theorem readSummary_of_register (other : wOp w ≠ 0x20) : s.readSummary n g w = s.setHearth g (((s.hearth g).setReg (wA w)
    (BitVec.ofNat 64 (if wOp w = 0x21 then ((s.hearth g).y (wYsr w)).value else ((s.hearth g).y (wYsr w)).flags))).retire (s.hearth g).nextPc 1) :=
  if_neg other

theorem readSummary_of_bsum (bsum : wOp w = 0x20) : s.readSummary n g w =
    if bsumTaken w ((s.hearth g).y (wYsb w)).flags then s.jump n g 0x20 (wTarget w (s.hearth g).pc) 3
    else s.setHearth g ((s.hearth g).retire (s.hearth g).nextPc 1) :=
  if_pos bsum

end

/-- BSUM branches when SENSE is 1 and a flag of MASK is set, or SENSE is 0 and every flag of MASK is clear (R102). -/
theorem bsumTaken_iff (w : W32) (flags : Nat) :
    bsumTaken w flags = true ↔ (wSense w = true ∧ wMaskSb w &&& flags ≠ 0) ∨ (wSense w = false ∧ wMaskSb w &&& flags = 0) := by
  unfold bsumTaken
  cases wSense w <;> simp

theorem bsumTaken_eq_false_iff (w : W32) (flags : Nat) :
    bsumTaken w flags = false ↔ (wSense w = true ∧ wMaskSb w &&& flags = 0) ∨ (wSense w = false ∧ wMaskSb w &&& flags ≠ 0) := by
  unfold bsumTaken
  cases wSense w <;> simp

/-- Settles O14: a valid register is read or branched on, an invalid one is waited for or is the summary trap. -/
theorem summaryRead : Obligations.SummaryRead := by
  unfold Obligations.SummaryRead
  intro s g n l w
  have same := traceOnly_seen s g n l
  refine ⟨fun starts valid => ⟨_, exec_srd g s, ?srd⟩, fun starts valid => ⟨_, exec_sflg g s, ?sflg⟩, fun starts valid => ?bsum, ?invalid⟩
  case srd =>
    have op := wOp_of_read (op := 0x21) starts.names (by decide)
    rw [coreSummary_of_valid starts valid, readSummary_of_register (by rw [op]; decide), if_pos op, y_of_traceOnly same, nextPc_of_traceOnly same]
    exact retires_write ..
  case sflg =>
    have op := wOp_of_read (op := 0x22) starts.names (by decide)
    rw [coreSummary_of_valid starts valid, readSummary_of_register (by rw [op]; decide), if_neg (by rw [op]; decide), y_of_traceOnly same,
      nextPc_of_traceOnly same]
    exact retires_write ..
  case bsum =>
    have op := wOp_of_read (op := 0x20) starts.names (by decide)
    have reads := (exec_bsum g s).trans (congrArg Host.Outcome.next ((coreSummary_of_valid starts valid).trans (readSummary_of_bsum op)))
    rw [y_of_traceOnly same, same.pc, nextPc_of_traceOnly same] at reads
    refine ⟨fun taken => ⟨_, reads, ?_⟩, fun fails => ⟨_, reads, ?_⟩⟩
    · rw [if_pos ((bsumTaken_iff ..).mpr taken)]
      exact jumps_of_traceOnly same
    · rw [if_neg (Bool.eq_false_iff.mp ((bsumTaken_eq_false_iff ..).mpr fails))]
      exact retires_only ..
  case invalid =>
    simp only [List.forall_mem_cons, List.not_mem_nil, false_imp_iff, implies_true, and_true]
    exact ⟨row_of_invalid_summary (exec_srd g s), row_of_invalid_summary (exec_sflg g s), row_of_invalid_summary (exec_bsum g s)⟩

end Sys2Proof.Proofs
end

section
/-!
PROOFS. The waiting instructions of the hearth core and the barriers of a partition (R104, R105, R107).
-/
namespace Sys2Proof.Proofs
open Sys2Proof.Machine Sys2Proof.Laws

/-! A schedule fault at a hearth -/

/-- A schedule fault leaves every hearth as it was but for the steps counted against it and its trace. -/
theorem scheduleFault_hearth (s : State) (n g i : Nat) : ∃ steps tr,
    (s.scheduleFault n (some g)).hearth i = { s.hearth i with faultSteps := steps, trace := tr } := by
  have counted (l : List Nat) : ∃ steps, (s.onHearth g (fun h => { h with faultSteps := l })).hearth i = { s.hearth i with faultSteps := steps } := by
    rw [hearth_onHearth]
    split
    case isTrue e => exact ⟨l, by rw [e]⟩
    case isFalse => exact ⟨(s.hearth i).faultSteps, rfl⟩
  have later {t : State} (steps : List Nat) (l : List Nat) (same : TraceOnly (s.onHearth g (fun h => { h with faultSteps := l })) t) :
      ∃ steps tr, t.hearth i = { s.hearth i with faultSteps := steps, trace := tr } := by
    obtain ⟨tr, e⟩ := same.hearth i
    obtain ⟨steps, c⟩ := counted l
    exact ⟨steps, tr, by rw [e, c]⟩
  have sched : ∃ l, TraceOnly (s.onHearth g (fun h => { h with faultSteps := l })) (s.hearthSched n g) := by
    unfold State.hearthSched
    extract_lets old l s1
    refine ⟨l, ?_⟩
    split
    · exact traceOnly_hearthDue ..
    · exact .refl _
  obtain ⟨l, same⟩ := sched
  unfold State.scheduleFault
  dsimp only
  split
  · exact later l l same
  · exact later l l (same.trans ((traceOnly_onPart ..).trans (traceOnly_raise ..)))

theorem nextPc_scheduleFault (s : State) (n g i : Nat) : ((s.scheduleFault n (some g)).hearth i).nextPc = (s.hearth i).nextPc := by
  obtain ⟨_, _, e⟩ := scheduleFault_hearth s n g i
  rw [e]; rfl

/-! The end barrier -/

/-- The kind that a core in the end barrier has named. -/
def endedKind : Stall → Option Nat
  | .ended k => some k
  | _ => none

theorem endedKind_eq_some_iff {x : Stall} {k : Nat} : endedKind x = some k ↔ x = .ended k := by
  cases x <;> simp [endedKind]

section
variable {s : State} {n l g kind w : Nat}

/-- The checks of the end barrier, one after another (R107). -/
theorem enterEnd_eq : s.enterEnd n l g kind w =
    if cdStepKinds (s.job n (s.part n).job).img ≤ kind then s.coreTrap n l g 0x07 w kind
    else if ((s.hearthsOf n).filterMap (fun m => endedKind (s.hearth (s.phys m)).stall)).any (fun k => k != kind) then
      s.trapAll n 0x07 kind (s.hearth g).cycle
    else s.onHearth g (fun h => ({ h with stall := .ended kind }).count 1 1) := rfl

theorem another_kind_iff : ((s.hearthsOf n).filterMap (fun m => endedKind (s.hearth (s.phys m)).stall)).any (fun k => k != kind) = true ↔
    ∃ m ∈ s.hearthsOf n, ∃ k, (s.hearth (s.phys m)).stall = .ended k ∧ k ≠ kind := by
  simp only [List.any_eq_true, List.mem_filterMap, endedKind_eq_some_iff, bne_iff_ne]
  constructor
  · rintro ⟨k, ⟨m, member, named⟩, other⟩
    exact ⟨m, member, k, named, other⟩
  · rintro ⟨m, member, k, named, other⟩
    exact ⟨k, ⟨m, member, named⟩, other⟩

theorem enterEnd_of_beyond (beyond : cdStepKinds (s.job n (s.part n).job).img ≤ kind) : s.enterEnd n l g kind w = s.coreTrap n l g 0x07 w kind :=
  if_pos beyond

section
variable (known : kind < cdStepKinds (s.job n (s.part n).job).img)
include known

theorem enterEnd_of_agreed (agreed : ∀ m ∈ s.hearthsOf n, ∀ k, (s.hearth (s.phys m)).stall = .ended k → k = kind) :
    s.enterEnd n l g kind w = s.onHearth g (fun h => ({ h with stall := .ended kind }).count 1 1) := by
  rw [enterEnd_eq, if_neg (not_le.mpr known), if_neg]
  rw [another_kind_iff]
  rintro ⟨m, member, k, named, other⟩
  exact other (agreed m member k named)

theorem enterEnd_of_other_kind (other : ∃ m ∈ s.hearthsOf n, ∃ k, (s.hearth (s.phys m)).stall = .ended k ∧ k ≠ kind) :
    s.enterEnd n l g kind w = s.trapAll n 0x07 kind (s.hearth g).cycle := by
  rw [enterEnd_eq, if_neg (not_le.mpr known), if_pos (another_kind_iff.mpr other)]

end

end

theorem idleMask_of_traceOnly {s t : State} (same : TraceOnly s t) (g mask : Nat) : (t.hearth g).idleMask mask = (s.hearth g).idleMask mask :=
  hearth_of_traceOnly same g (fun h => h.idleMask mask) fun _ _ => rfl

/-! The waiting rows -/

section
variable {s : State} {g : Fin 216} {n l : Nat} {w : W32}

theorem execFence_of_idle (starts : CoreAt s g n l w .fence) (idle : (s.hearth g).idleMask (wMaskFc w) = true) :
    execFence g s = .next ((s.seen g n l).setHearth g (((s.seen g n l).hearth g).retire (s.pcNext g) 1)) := by
  have same := traceOnly_seen s g n l
  rw [execFence, coreRun_of_coreAt starts, State.onHearth, idleMask_of_traceOnly same, if_pos idle, nextPc_of_traceOnly same]

theorem execFence_of_busy (starts : CoreAt s g n l w .fence) (busy : (s.hearth g).idleMask (wMaskFc w) = false) :
    execFence g s = .next ((s.seen g n l).setHearth g { (s.seen g n l).hearth g with stall := .fence (wMaskFc w) (s.hearth g).cycle }) := by
  have same := traceOnly_seen s g n l
  rw [execFence, coreRun_of_coreAt starts, State.onHearth, idleMask_of_traceOnly same, if_neg (Bool.eq_false_iff.mp busy), ← same.cycle]

theorem execWaitc_at (starts : CoreAt s g n l w .waitc) : execWaitc g s = .next (
    if wCycle w < (s.hearth g).cycle then ((s.seen g n l).scheduleFault n (some g.val)).onHearth g (fun h => h.retire h.nextPc 1)
    else if (s.hearth g).cycle + 1 < wCycle w then (s.seen g n l).setHearth g { (s.seen g n l).hearth g with stall := .waitc (wCycle w) (s.hearth g).cycle }
    else (s.seen g n l).setHearth g (((s.seen g n l).hearth g).retire (s.pcNext g) 1)) := by
  have same := traceOnly_seen s g n l
  rw [execWaitc, coreRun_of_coreAt starts, ← same.cycle, ← nextPc_of_traceOnly same]

section
variable (starts : CoreAt s g n l w .waitc)
include starts

theorem execWaitc_of_early (early : (s.hearth g).cycle + 1 < wCycle w) :
    execWaitc g s = .next ((s.seen g n l).setHearth g { (s.seen g n l).hearth g with stall := .waitc (wCycle w) (s.hearth g).cycle }) := by
  rw [execWaitc_at starts, if_neg (by omega), if_pos early]

theorem execWaitc_of_due (due : (s.hearth g).cycle = wCycle w ∨ (s.hearth g).cycle + 1 = wCycle w) :
    execWaitc g s = .next ((s.seen g n l).setHearth g (((s.seen g n l).hearth g).retire (s.pcNext g) 1)) := by
  rw [execWaitc_at starts, if_neg (by omega), if_neg (by omega)]

theorem execWaitc_of_late (late : wCycle w < (s.hearth g).cycle) : execWaitc g s = .next (((s.seen g n l).scheduleFault n (some g.val)).setHearth g
    ((((s.seen g n l).scheduleFault n (some g.val)).hearth g).retire (s.pcNext g) 1)) := by
  rw [execWaitc_at starts, if_pos late, State.onHearth, nextPc_scheduleFault, nextPc_of_traceOnly (traceOnly_seen s g n l)]

end

/-- Another hearth waits in another barrier. -/
def barClash (s : State) (n c : Nat) : Bool :=
  (s.hearthsOf n).any (fun m => match (s.hearth (s.phys m)).stall with | .bar b _ _ _ _ => b != c | _ => false)

theorem execBar_at (starts : CoreAt s g n l w .bar) : execBar g s = .next (
    if barClash (s.seen g n l) n (wC w) then (s.seen g n l).trapAll n 0x06 (wC w) (s.hearth g).cycle
    else (s.seen g n l).setHearth g { (s.seen g n l).hearth g with stall := .bar (wC w) (wFn w) (wA w) (s.opB g w).toNat (s.hearth g).cycle }) := by
  have same := traceOnly_seen s g n l
  rw [execBar, coreRun_of_coreAt starts, ← same.cycle, State.opB, ← same.reg]
  rfl

theorem execStepend_at (starts : CoreAt s g n l w .stepend) (closed : (s.hearth g).chainDesc = none) : execStepend g s = .next (
    if (s.hearth g).idleMask 511 then (s.seen g n l).enterEnd n l g ((s.opB g w).toNat % 64) w.toNat
    else (s.seen g n l).setHearth g { (s.seen g n l).hearth g with stall := .stepend ((s.opB g w).toNat % 64) (s.hearth g).cycle }) := by
  have same := traceOnly_seen s g n l
  have chain : ((s.seen g n l).hearth g).chainDesc = none := (hearth_of_traceOnly same g Hearth.chainDesc fun _ _ => rfl).trans closed
  rw [execStepend, coreRun_of_coreAt starts]
  dsimp only
  rw [chain, idleMask_of_traceOnly same, same.reg, ← same.cycle]
  rfl

/-- WAITC_RELEASE at exactly the cycle awaited (R105). -/
theorem execWaitcRelease_of_waiting {c since : Nat} (part : s.partOf (g / 18) = some n) (going : s.haltedNow n = false)
    (waits : (s.hearth g).stall = .waitc c since) : ∃ t perf, execWaitcRelease g s = .next t ∧
      OnlyTraces (s.setHearth g { s.hearth g with stall := .none, pc := s.pcNext g, cycle := c, perfRun := perf }) t := by
  unfold execWaitcRelease
  simp only [part, waits, going, Bool.false_eq_true, if_false]
  exact ⟨_, _, rfl, onlyTraces_of_traceOnly (traceOnly_coreRecord ..)⟩

end

/-- Settles O15: the comparators see each instruction start; then each waiting instruction goes on, stalls or traps by its own condition. -/
theorem coreWaiting : Obligations.CoreWaiting := by
  unfold Obligations.CoreWaiting
  intro s g n l w u h
  have same := traceOnly_seen s g n l
  refine ⟨fun starts => ⟨fun idle => ?fenceGoes, fun busy => ?fenceWaits⟩, fun starts => ⟨fun early => ?waits, fun due => ?goes, fun late => ?faults⟩,
    fun c since part going waits => ?released, fun starts => ?bar, fun starts closed => ?stepend⟩
  case fenceGoes => exact ⟨_, (exec_fence g s).trans (execFence_of_idle starts idle), retires_only ..⟩
  case fenceWaits => exact execFence_of_busy starts busy
  case waits => exact execWaitc_of_early starts early
  case goes => exact ⟨_, (exec_waitc g s).trans (execWaitc_of_due starts due), retires_only ..⟩
  case faults => exact ⟨_, (exec_waitc g s).trans (execWaitc_of_late starts late), retires_only ..⟩
  case released => exact execWaitcRelease_of_waiting part going waits
  case bar =>
    exact ⟨fun free => (execBar_at starts).trans (congrArg Host.Outcome.next (if_neg (Bool.eq_false_iff.mp free))),
      fun clashes => (execBar_at starts).trans (congrArg Host.Outcome.next (if_pos clashes))⟩
  case stepend =>
    rw [exec_stepend, execStepend_at starts closed]
    refine ⟨fun busy => ?_, fun idle beyond => ?_, fun idle known agreed => ?_, fun idle known other => ?_⟩
    · rw [if_neg (Bool.eq_false_iff.mp busy)]
    · rw [if_pos idle, enterEnd_of_beyond beyond]
    · rw [if_pos idle, enterEnd_of_agreed known agreed]
    · rw [if_pos idle, enterEnd_of_other_kind known other, same.cycle]

/-! A barrier that completes -/

/-- What a hearth in a barrier brings to it: its number, its combine, its register A, its value, and the cycle of its arrival. -/
def barWait (s : State) (g : Nat) : Option (Nat × Nat × Nat × Nat × Nat) :=
  match (s.hearth g).stall with
  | .bar c fn a v since => some (c, fn, a, v, since)
  | _ => none

/-- A hearth leaves its barrier at the latest arrival with the combined value. -/
def leaveBarrier (n cyc : Nat) (r : W64) (g : Nat) (s : State) : State :=
  match (s.hearth g).stall with
  | .bar c _ a _ since =>
    let s1 := s.onHearth g (fun h => { h with cycle := cyc })
    (s1.coreRecord n g 0x05 c (s.hearth g).pc r.toNat).onHearth g (fun h => ((({ h with stall := .none }).setReg a r).retire h.nextPc 1).count 6 (cyc - since))
  | _ => s

/-- The hearth has left its barrier: its core stands at the next word, and its register A holds the combined value. -/
structure LeftBarrier (s : State) (cyc a : Nat) (r : W64) (g : Nat) (t : State) : Prop where
  stall : (t.hearth g).stall = .none
  pc : (t.hearth g).pc = s.pcNext g
  cycle : (t.hearth g).cycle = cyc + 1
  reg : ∀ i, (t.hearth g).reg i = if i = a ∧ i ≠ 0 then r else (s.hearth g).reg i

section
variable {s t : State} {n cyc c fn a v since g : Nat} {r : W64}

theorem leaveBarrier_of_bar (waits : (t.hearth g).stall = .bar c fn a v since) : leaveBarrier n cyc r g t =
    ((t.onHearth g (fun h => { h with cycle := cyc })).coreRecord n g 0x05 c (t.hearth g).pc r.toNat).onHearth g (fun h =>
      ((({ h with stall := .none }).setReg a r).retire h.nextPc 1).count 6 (cyc - since)) := by
  simp only [leaveBarrier, waits]

/-- Another hearth's leaving only writes trace records. -/
theorem leaveBarrier_other {i : Nat} (other : i ≠ g) : ∃ tr, (leaveBarrier n cyc r g t).hearth i = { t.hearth i with trace := tr } := by
  unfold leaveBarrier
  split
  · obtain ⟨tr, e⟩ := (traceOnly_coreRecord (t.onHearth g (fun h => { h with cycle := cyc })) n g 0x05 _ (t.hearth g).pc r.toNat).hearth i
    refine ⟨tr, ?_⟩
    rw [hearth_onHearth, if_neg other, e, hearth_onHearth, if_neg other]
  · exact ⟨(t.hearth i).trace, rfl⟩

/-- A hearth that waits, as it did in `s`, leaves. -/
theorem leaveBarrier_leaves {tr0 : TraceBuf} (waits : (s.hearth g).stall = .bar c fn a v since) (like : t.hearth g = { s.hearth g with trace := tr0 }) :
    LeftBarrier s cyc a r g (leaveBarrier n cyc r g t) := by
  have stalled : (t.hearth g).stall = .bar c fn a v since := by rw [like]; exact waits
  obtain ⟨tr, e⟩ := (traceOnly_coreRecord (t.onHearth g (fun h => { h with cycle := cyc })) n g 0x05 c (t.hearth g).pc r.toNat).hearth g
  have gone : (leaveBarrier n cyc r g t).hearth g =
      ((({ s.hearth g with cycle := cyc, stall := .none, trace := tr } : Hearth).setReg a r).retire (s.pcNext g) 1).count 6 (cyc - since) := by
    rw [leaveBarrier_of_bar stalled, hearth_onHearth, if_pos rfl, e, hearth_onHearth, if_pos rfl, like]
    rfl
  refine ⟨?_, ?_, ?_, fun i => ?_⟩ <;> rw [gone]
  · rw [setReg_eq]; rfl
  · rfl
  · rw [setReg_eq]; rfl
  · exact reg_setReg ..

/-- A hearth that has left, or is named again, stays where it is. -/
theorem leaveBarrier_keeps {i : Nat} (left : LeftBarrier s cyc a r i t) : LeftBarrier s cyc a r i (leaveBarrier n cyc r g t) := by
  by_cases mine : i = g
  · subst mine
    have stays : leaveBarrier n cyc r i t = t := by simp only [leaveBarrier, left.stall]
    rwa [stays]
  · obtain ⟨tr, e⟩ := leaveBarrier_other (t := t) (n := n) (cyc := cyc) (r := r) mine
    refine ⟨?_, ?_, ?_, fun j => ?_⟩ <;> rw [e]
    · exact left.stall
    · exact left.pc
    · exact left.cycle
    · exact left.reg j

end

/-- One hearth after another leaves the barrier, also where the list names one twice. -/
theorem forAll_leaveBarrier {s t : State} {n c fn cyc : Nat} {a v since : Nat → Nat} {r : W64} (l : List Nat)
    (waits : ∀ g ∈ l, (s.hearth g).stall = .bar c fn (a g) (v g) (since g))
    (start : ∀ g ∈ l, (∃ tr, t.hearth g = { s.hearth g with trace := tr }) ∨ LeftBarrier s cyc (a g) r g t) :
    ∀ g ∈ l, LeftBarrier s cyc (a g) r g (forAll l (leaveBarrier n cyc r) t) := by
  have stays {t : State} {g : Nat} (k : List Nat) (left : LeftBarrier s cyc (a g) r g t) : LeftBarrier s cyc (a g) r g (forAll k (leaveBarrier n cyc r) t) :=
    forAll_invariant (fun _ _ left => leaveBarrier_keeps left) left
  induction l generalizing t with
  | nil => simp
  | cons x rest ih =>
    have first : LeftBarrier s cyc (a x) r x (leaveBarrier n cyc r x t) := by
      rcases start x (List.mem_cons_self ..) with ⟨tr, like⟩ | left
      · exact leaveBarrier_leaves (waits x (List.mem_cons_self ..)) like
      · exact leaveBarrier_keeps left
    have next : ∀ g ∈ rest, (∃ tr, (leaveBarrier n cyc r x t).hearth g = { s.hearth g with trace := tr }) ∨ LeftBarrier s cyc (a g) r g (leaveBarrier n cyc r x t) := by
      intro g member
      rcases start g (List.mem_cons_of_mem _ member) with ⟨tr, like⟩ | left
      · by_cases mine : g = x
        · exact .inr (mine ▸ first)
        · obtain ⟨tr1, e⟩ := leaveBarrier_other (t := t) (n := n) (cyc := cyc) (r := r) mine
          exact .inl ⟨tr1, by rw [e, like]⟩
      · exact .inr (leaveBarrier_keeps left)
    intro g member
    rcases List.mem_cons.mp member with rfl | later
    · exact stays rest first
    · exact ih (fun g m => waits g (List.mem_cons_of_mem _ m)) next g later

theorem barCombine_free {fn : Nat} {l : List W64} (nonempty : l ≠ []) (lo : 1 ≤ fn) (hi : fn ≤ 5) (x y : W64) : barCombine fn x l = barCombine fn y l := by
  obtain ⟨v, r, rfl⟩ := List.exists_cons_of_ne_nil nonempty
  interval_cases fn <;> rfl

/-- The barrier completes when every active hearth has brought something to it. -/
theorem execBarComplete_eq (n : Fin 12) (s : State) : execBarComplete n s = .next (
    let hs := (s.hearthsOf n).map (fun l => s.phys l)
    let waits := hs.filterMap (barWait s)
    if hs.isEmpty || waits.length != hs.length || (s.part n).phase != .running || s.haltedNow n then s else
    let cyc := waits.foldl (fun m x => max m x.2.2.2.2) 0
    let fns := waits.map (fun x => x.2.1)
    let fn := if fns.all (fun f => fns.head? == some f) then (fns.head?).getD 0 else 0
    forAll hs (leaveBarrier n cyc (barCombine fn s.draw.1 (waits.map (fun x => BitVec.ofNat 64 x.2.2.2.1)))) s.draw.2) := by
  unfold execBarComplete leaveBarrier barWait
  rfl

/-- BAR_COMPLETE where every hearth waits in one barrier with one combine. -/
theorem execBarComplete_of_waiting {s : State} {n : Fin 12} {hs : List Nat} {c fn : Nat} {a v since : Nat → Nat}
    (active : (s.hearthsOf n).map (fun l => s.phys l) = hs) (nonempty : hs ≠ []) (lo : 1 ≤ fn) (hi : fn ≤ 5) (running : (s.part n).phase = .running)
    (going : s.haltedNow n = false) (waits : ∀ g ∈ hs, (s.hearth g).stall = .bar c fn (a g) (v g) (since g)) :
    execBarComplete n s = .next (forAll hs (leaveBarrier n ((hs.map since).foldl max 0) (barCombine fn 0 (hs.map (fun g => BitVec.ofNat 64 (v g)))))
      s.draw.2) := by
  have brought : hs.filterMap (barWait s) = hs.map (fun g => (c, fn, a g, v g, since g)) := by
    rw [← List.filterMap_eq_map]
    exact List.filterMap_congr fun g member => by simp only [barWait, waits g member]; rfl
  have one : (hs.map (fun _ => fn)).head? = some fn := by
    obtain ⟨g, r, rfl⟩ := List.exists_cons_of_ne_nil nonempty
    rfl
  rw [execBarComplete_eq, active]
  simp only [brought, List.length_map, running, going, List.map_map, Function.comp_def, List.foldl_map, one]
  rw [if_neg (by simp [nonempty]), if_pos (by simp), Option.getD_some, barCombine_free (by simpa using nonempty) lo hi s.draw.1 0]

/-- Settles O16: every hearth in turn leaves the barrier, and none of them touches another's registers. -/
theorem barrierCompletes : Obligations.BarrierCompletes := by
  unfold Obligations.BarrierCompletes
  intro s n c fn a v since hs nonempty lo hi running going waits r
  have start : ∀ g ∈ hs, (∃ tr, s.draw.2.hearth g = { s.hearth g with trace := tr }) ∨
      LeftBarrier s ((hs.map since).foldl max 0) (a g) r g s.draw.2 := fun g _ => .inl ⟨(s.hearth g).trace, rfl⟩
  refine ⟨_, (exec_barComplete n s).trans (execBarComplete_of_waiting rfl nonempty lo hi running going waits), fun g member => ?_⟩
  obtain ⟨stall, pc, cycle, reg⟩ := forAll_leaveBarrier (n := n) hs waits start g member
  exact ⟨stall, pc, cycle, reg⟩

end Sys2Proof.Proofs
end

section
/-!
PROOFS. Control registers, notes, polls, and the issue of descriptors (R83, R98 to R101, R109, R113).
-/
namespace Sys2Proof.Proofs
open Sys2Proof.Machine Sys2Proof.Laws

/-! Control registers -/

theorem csrNumber_eq (w : W32) : bits w.toNat 13 0 = w.toNat % 2 ^ 14 := by
  simp [bits]

theorem csr_of_unlisted {num : Nat} (unlisted : 7 ≤ num) (s : State) (n l g : Nat) : s.csr n l g num = none := by
  obtain ⟨k, rfl⟩ := Nat.exists_eq_add_of_le' unlisted
  rfl

section
variable {s : State} {g : Fin 216} {n l : Nat} {w : W32}

theorem execCsrr_of_listed {v : Nat} (starts : CoreAt s g n l w .csrr) (listed : (s.seen g n l).csr n l g (w.toNat % 2 ^ 14) = some v) :
    execCsrr g s = .next ((s.seen g n l).setHearth g ((((s.seen g n l).hearth g).setReg (wA w) (BitVec.ofNat 64 v)).retire (s.pcNext g) 1)) := by
  rw [execCsrr, coreRun_of_coreAt starts]
  rw [csrNumber_eq, listed, ← nextPc_of_traceOnly (traceOnly_seen s g n l)]
  rfl

theorem execCsrr_of_unlisted (starts : CoreAt s g n l w .csrr) (unlisted : 7 ≤ w.toNat % 2 ^ 14) :
    execCsrr g s = .next ((s.seen g n l).coreTrap n l g 0x01 w.toNat) := by
  rw [execCsrr, coreRun_of_coreAt starts]
  rw [csrNumber_eq, csr_of_unlisted unlisted]

section
variable (starts : CoreAt s g n l w .csrw)
include starts

theorem execCsrw_of_nanstat (nanstat : w.toNat % 2 ^ 14 = 6) : ∃ perf, execCsrw g s = .next ((s.seen g n l).setHearth g { (s.seen g n l).hearth g with
    nan0 := (s.hearth g).nan0 && !(s.opB g w).getLsbD 0, nan1 := (s.hearth g).nan1 && !(s.opB g w).getLsbD 1,
    pc := s.pcNext g, cycle := (s.hearth g).cycle + 1, perfRun := perf }) := by
  have same := traceOnly_seen s g n l
  refine ⟨(((s.seen g n l).hearth g).count 1 1).perfRun, ?_⟩
  rw [execCsrw, coreRun_of_coreAt starts, if_pos ((csrNumber_eq w).trans nanstat), ← same.cycle, ← nextPc_of_traceOnly same, State.opB, ← same.reg,
    ← hearth_of_traceOnly same g Hearth.nan0 fun _ _ => rfl, ← hearth_of_traceOnly same g Hearth.nan1 fun _ _ => rfl]
  simp only [← BitVec.testBit_toNat]
  rfl

theorem execCsrw_of_other (other : w.toNat % 2 ^ 14 ≠ 6) : execCsrw g s = .next ((s.seen g n l).coreTrap n l g 0x01 w.toNat) := by
  rw [execCsrw, coreRun_of_coreAt starts, if_neg (by rwa [csrNumber_eq])]

end

/-! Notes -/

/-- The note is posted or counted, and the instruction ends. -/
theorem execNote_at (starts : CoreAt s g n l w .note) : ∃ perf,
    let v := (s.seen g n l).setHearth g { (s.seen g n l).hearth g with noted := true, pc := s.pcNext g, cycle := (s.hearth g).cycle + 1, perfRun := perf }
    execNote g s = .next (if (s.hearth g).noted then v.bump (E.NOTES_DROPPED n)
      else v.raise 0xE302 (scopeP n) [w.toNat % 2 ^ 14, l, (s.hearth g).pc, v.num (E.STEP_COUNT n)]) := by
  have same := traceOnly_seen s g n l
  refine ⟨(((s.seen g n l).hearth g).count 1 1).perfRun, ?_⟩
  dsimp only
  rw [execNote, coreRun_of_coreAt starts, ← csrNumber_eq, ← same.cycle, ← same.pc, ← nextPc_of_traceOnly same,
    ← hearth_of_traceOnly same g Hearth.noted fun _ _ => rfl]
  rfl

end

/-! Polls -/

/-- A slot gives a poll one message at most. -/
theorem length_pollNext (n q c : Nat) (l : List (List Byte)) (y : State × Option (List Byte)) : (pollNext n q c l y).2.1.length ≤ l.length + 1 := by
  unfold pollNext
  split <;> simp

theorem length_pollOnce (n q : Nat) (a : State × List (List Byte) × Bool) : (State.pollOnce n q a).2.1.length ≤ a.2.1.length + 1 := by
  unfold State.pollOnce
  split
  · exact Nat.le_succ _
  · split
    · exact Nat.le_succ _
    · split
      · exact Nat.le_succ _
      · exact length_pollNext ..

/-- A poll takes as many messages as it may at most (R83). -/
theorem length_poll (s : State) (n q k : Nat) : (s.poll n q k).2.length ≤ k := by
  have turns (l : List Nat) (a : State × List (List Byte) × Bool) : (l.foldl (fun a _ => State.pollOnce n q a) a).2.1.length ≤ a.2.1.length + l.length := by
    induction l generalizing a with
    | nil => simp
    | cons x r ih =>
      have first := length_pollOnce n q a
      have rest := ih (State.pollOnce n q a)
      rw [List.foldl_cons, List.length_cons]
      omega
  simpa [State.poll] using turns (List.range k) (s, [], false)

section
variable {s : State} {g : Fin 216} {n l : Nat} {w : W32} (starts : CoreAt s g n l w .poll)
include starts

theorem execPoll_of_point {p slots cycles : Nat}
    (point : Config.pollPoint (cdPoll ((s.seen g n l).job n ((s.seen g n l).part n).job).img) l (s.hearth g).pc = some (p, slots, cycles)) :
    let x := (s.seen g n l).poll n (wC w % 16) (min (wFn w) slots)
    let b := x.1.onPart n (fun p => { p with polled := p.polled || !x.2.isEmpty })
    execPoll g s = .next (b.setHearth g (((b.hearth g).setReg (wA w) (BitVec.ofNat 64 x.2.length)).retire (b.pcNext g) cycles)) := by
  intro x b
  rw [execPoll, coreRun_of_coreAt starts]
  dsimp only
  rw [(traceOnly_seen s g n l).pc, point]
  rfl

theorem execPoll_of_no_point
    (none : Config.pollPoint (cdPoll ((s.seen g n l).job n ((s.seen g n l).part n).job).img) l (s.hearth g).pc = none) :
    execPoll g s = .next ((s.seen g n l).coreTrap n l g 0x01 w.toNat) := by
  rw [execPoll, coreRun_of_coreAt starts]
  dsimp only
  rw [(traceOnly_seen s g n l).pc, none]

end

/-- Settles O17: the number of a control register, the first note, and the poll point decide what each row does. -/
theorem coreRegisters : Obligations.CoreRegisters := by
  unfold Obligations.CoreRegisters
  intro s g n l w u h num
  have same := traceOnly_seen s g n l
  refine ⟨fun starts => ⟨?listed, execCsrr_of_unlisted starts⟩, fun starts => ⟨execCsrw_of_nanstat starts, execCsrw_of_other starts⟩,
    fun starts => ?note, fun starts => ⟨fun p slots cycles point => ?point, execPoll_of_no_point starts⟩⟩
  case listed =>
    have read {k v : Nat} (value : u.csr n l g k = some v) (number : num = k) :
        ∃ t, exec (.csrr g) s = .next t ∧ Retires u t g (wA w) (BitVec.ofNat 64 v) (s.pcNext g) 1 :=
      ⟨_, execCsrr_of_listed starts ((congrArg (fun k => u.csr n l g k) number).trans value), retires_write ..⟩
    have own {α : Type} (φ : Hearth → α) (beside : ∀ h tr, φ { h with trace := tr } = φ h) : φ (u.hearth g) = φ h := hearth_of_traceOnly same g φ beside
    have cycle := own Hearth.cycle fun _ _ => rfl
    simp only [List.forall_mem_cons, List.not_mem_nil, false_imp_iff, implies_true, and_true]
    exact ⟨read (congrArg some cycle), read (congrArg (fun c => some (micro (max u.now (u.cycleTime n c)))) cycle), read rfl, read rfl,
      read (congrArg some (own Hearth.kind fun _ _ => rfl)), read rfl,
      read (congrArg some (own (fun h => (if h.nan0 then 1 else 0) + (if h.nan1 then 2 else 0)) fun _ _ => rfl))⟩
  case note =>
    obtain ⟨perf, runs⟩ := execNote_at starts
    exact ⟨perf, fun first => runs.trans (congrArg Host.Outcome.next (if_neg (Bool.eq_false_iff.mp first))),
      fun later => runs.trans (congrArg Host.Outcome.next (if_pos later))⟩
  case point =>
    exact ⟨_, execPoll_of_point starts point, (length_poll ..).trans (min_le_left ..), retires_write ..⟩

end Sys2Proof.Proofs
end

section
/-!
PROOFS. ISSUE: a descriptor passes to an engine's queue (R98 to R101).
-/
namespace Sys2Proof.Proofs
open Sys2Proof.Machine Sys2Proof.Laws

/-! The issued operation -/

/-- What the hearth remembers of an issued descriptor are the tile, the accumulator rows and the open chain. -/
theorem noteIssue_eq (h : Hearth) (e : Nat) (d : List Byte) : ∃ tile rows chain,
    h.noteIssue e d = { h with tileKey := tile, accRows := rows, chainDesc := chain } := by
  unfold Hearth.noteIssue
  split
  · exact ⟨_, _, _, rfl⟩
  · split <;> exact ⟨_, _, _, rfl⟩

@[simp] theorem ops_put (h : Hearth) (e : Nat) (l : List Op) (i : Nat) : (h.setOps e l).ops i = if i = e then l else h.ops i := getD_put ..

theorem ops_of_traceOnly {s t : State} (same : TraceOnly s t) (g e : Nat) : (t.hearth g).ops e = (s.hearth g).ops e :=
  hearth_of_traceOnly same g (fun h => h.ops e) fun _ _ => rfl

/-- The operation that an ISSUE of descriptor `d` queues on a hearth. -/
def issuedOp (h : Hearth) (w : W32) (d : List Byte) : Op := { desc := d, seq := h.opSeq, iaddr := h.pc, word := w.toNat, issued := h.cycle }

/-- The hearth with the operation queued, and its summary register waiting for it where the descriptor asks for a summary. -/
def withOp (h : Hearth) (e : Nat) (w : W32) (d : List Byte) : Hearth :=
  let h1 := { h.setOps e (h.ops e ++ [issuedOp h w d]) with opSeq := h.opSeq + 1 }
  if dSumOn d then { h1 with ys := h1.ys.put (dSumY d) { value := (h1.y (dSumY d)).value, writer := some h.opSeq } } else h1

section
variable (h : Hearth) (e : Nat) (w : W32) (d : List Byte)

theorem withOp_eq : ∃ engs ys, withOp h e w d = { h with opSeq := h.opSeq + 1, engs := engs, ys := ys } := by
  unfold withOp
  dsimp only
  split <;> exact ⟨_, _, rfl⟩

theorem withOp_ops (i : Nat) : (withOp h e w d).ops i = if i = e then h.ops e ++ [issuedOp h w d] else h.ops i := by
  rw [← ops_put]
  unfold withOp
  dsimp only
  split <;> rfl

theorem withOp_y (i : Nat) : (withOp h e w d).y i =
    if dSumOn d = true ∧ i = dSumY d then { value := (h.y i).value, writer := some h.opSeq } else h.y i := by
  unfold withOp
  dsimp only
  by_cases asks : dSumOn d = true
  · rw [if_pos asks]
    refine (getD_put ..).trans ?_
    by_cases named : i = dSumY d
    · rw [if_pos named, if_pos ⟨asks, named⟩, named]; rfl
    · rw [if_neg named, if_neg fun c => named c.2]; rfl
  · rw [if_neg asks, if_neg fun c => asks c.1]; rfl

end

section
variable (s : State) (n g e : Nat) (w : W32) (d : List Byte)

theorem issueOp_eq : s.issueOp n g e w d = (s.coreRecord n g 0x04 e (s.hearth g).pc (dOp d + 2 ^ 16 * fld d 2 1 + 2 ^ 32 * dTensor d)).onHearth g (fun b =>
    { (((withOp (s.hearth g) e w d).noteIssue e d).retire (s.hearth g).nextPc 1).count 3 1 with trace := b.trace }) := rfl

/-- The hearth that issues: the operation is queued, and the instruction has ended. -/
theorem issueOp_hearth : ∃ tile rows chain perf tr, (s.issueOp n g e w d).hearth g =
    { withOp (s.hearth g) e w d with tileKey := tile, accRows := rows, chainDesc := chain, pc := (s.hearth g).nextPc,
                                             cycle := (s.hearth g).cycle + 1, perfRun := perf, trace := tr } := by
  obtain ⟨tile, rows, chain, noted⟩ := noteIssue_eq (withOp (s.hearth g) e w d) e d
  obtain ⟨engs, ys, queued⟩ := withOp_eq (s.hearth g) e w d
  rw [issueOp_eq, hearth_onHearth_same, noted, queued]
  exact ⟨tile, rows, chain, _, _, rfl⟩

theorem issueOp_others {i : Nat} (other : i ≠ g) : ∃ tr, (s.issueOp n g e w d).hearth i = { s.hearth i with trace := tr } := by
  obtain ⟨tr, e⟩ := (traceOnly_coreRecord s n g 0x04 e (s.hearth g).pc (dOp d + 2 ^ 16 * fld d 2 1 + 2 ^ 32 * dTensor d)).hearth i
  exact ⟨tr, by rw [issueOp_eq, hearth_onHearth, if_neg other, e]⟩

theorem issueOp_mem : (s.issueOp n g e w d).mem = s.mem := (traceOnly_coreRecord ..).mem

end

/-! The row -/

section
variable {s : State} {g : Fin 216} {n l : Nat} {w : W32} (starts : CoreAt s g n l w .issue)
include starts

theorem execIssue_of_misaligned (bad : (s.opB g w).toNat % 64 ≠ 0) :
    execIssue g s = .next ((s.seen g n l).coreTrap n l g 0x02 w.toNat ((s.opB g w).toNat % 2 ^ 32)) := by
  rw [execIssue, coreRun_of_coreAt starts]
  dsimp only
  rw [(traceOnly_seen s g n l).reg, ← State.opB, if_pos bad]

variable (aligned : (s.opB g w).toNat % 64 = 0)
include aligned

theorem execIssue_of_beyond (beyond : 0x8000 < (s.opB g w).toNat + 64) :
    execIssue g s = .next ((s.seen g n l).coreTrap n l g 0x03 w.toNat ((s.opB g w).toNat % 2 ^ 32)) := by
  rw [execIssue, coreRun_of_coreAt starts]
  dsimp only
  rw [(traceOnly_seen s g n l).reg, ← State.opB, if_neg (not_not.mpr aligned), if_pos beyond]

/-- A sound descriptor: a full queue is a schedule fault, a descriptor that its engine rejects an engine trap. -/
theorem execIssue_of_sound (within : (s.opB g w).toNat + 64 ≤ 0x8000) (sound : s.uncorrectable (sdWork g + (s.opB g w).toNat) 64 = false) :
    let u := s.watched g n l 2 (s.opB g w).toNat 64
    let d := u.descriptor g w (s.opB g w).toNat
    execIssue g s = .next (
      if 4 ≤ (((s.hearth g).ops (wEng w)).filter (fun o => !o.started)).length then
        (u.scheduleFault n (some g.val)).onHearth g (fun h => h.retire h.nextPc 1)
      else if u.descOk n l g (wEng w) d then u.issueOp n g (wEng w) w d
      else u.fatalTrap n l g 0x09 (wEng w) (s.hearth g).pc w.toNat 0 (s.hearth g).cycle) := by
  intro u d
  have same := traceOnly_seen s g n l
  rw [execIssue, coreRun_of_coreAt starts]
  dsimp only
  rw [same.reg, ← State.opB, if_neg (not_not.mpr aligned), if_neg (not_lt.mpr within), uncorrectable_of_traceOnly same,
    if_neg (by rw [sound]; exact Bool.false_ne_true), ops_of_traceOnly same, same.pc, same.cycle]
  rfl

end

/-- Settles O18: the address is checked first, then the queue, then the descriptor; only then is an operation queued. -/
theorem issueResult : Obligations.IssueResult := by
  unfold Obligations.IssueResult
  intro s g n l w starts a e u d free
  have same := traceOnly_watched s g n l 2 a 64
  refine ⟨execIssue_of_misaligned starts, execIssue_of_beyond starts, fun aligned within sound => ?_⟩
  have runs := (exec_issue g s).trans (execIssue_of_sound starts aligned within sound)
  refine ⟨fun room accepted => ?issued, fun full => ⟨_, runs.trans (congrArg Host.Outcome.next (if_pos full)), ?fault⟩,
    fun room rejected => runs.trans (congrArg Host.Outcome.next ((if_neg (not_le.mpr room)).trans (if_neg (Bool.eq_false_iff.mp rejected))))⟩
  case fault =>
    rw [State.onHearth, nextPc_scheduleFault, nextPc_of_traceOnly same]
    exact retires_only ..
  case issued =>
    have own {α : Type} (φ : Hearth → α) (beside : ∀ h tr, φ { h with trace := tr } = φ h) : φ (u.hearth g) = φ (s.hearth g) :=
      hearth_of_traceOnly same g φ beside
    obtain ⟨tile, rows, chain, perf, tr, after⟩ := issueOp_hearth u n g e w d
    obtain ⟨engs, ys, queued⟩ := withOp_eq (u.hearth g) e w d
    refine ⟨_, issuedOp (u.hearth g) w d, runs.trans (congrArg Host.Outcome.next ((if_neg (not_le.mpr room)).trans (if_pos accepted))), rfl, rfl,
      own Hearth.cycle fun _ _ => rfl, own Hearth.pc fun _ _ => rfl, own Hearth.opSeq fun _ _ => rfl, ?ops, fun e' other => ?others, fun y => ?ys,
      ?pc, ?cycle, fun i => ?reg, (issueOp_mem ..).trans same.mem, fun i other => ?hearths⟩
    case ops => rw [after]; exact (withOp_ops ..).trans ((if_pos rfl).trans (by rw [ops_of_traceOnly same]))
    case others => rw [after]; exact (withOp_ops ..).trans ((if_neg other).trans (ops_of_traceOnly same ..))
    case ys =>
      rw [after]
      refine (withOp_y ..).trans ?_
      rw [y_of_traceOnly same]
      rfl
    case pc => rw [after]; exact nextPc_of_traceOnly same g
    case cycle => rw [after]; exact congrArg (· + 1) (same.cycle g)
    case reg => rw [after, queued]; exact same.reg g i
    case hearths =>
      obtain ⟨tr1, e1⟩ := issueOp_others u n g e w d other
      obtain ⟨tr2, e2⟩ := same.hearth i
      exact ⟨tr1, by rw [e1, e2]⟩

end Sys2Proof.Proofs
end

section
/-!
PROOFS. A fatal trap (R110, R112, Table 03-9).
-/
namespace Sys2Proof.Proofs
open Sys2Proof.Machine Sys2Proof.Laws

/-! Entries that records of a trace leave alone -/

/-- An entry that neither an event nor the loss of trace records changes: the scope of an event names one of 16 partitions (R613, R626). -/
structure Recordless (key : Nat) : Prop where
  seq : key ≠ E.EVENT_SEQ
  part : ∀ m < 16, key ≠ E.PART_EVENT_SEQ m
  lost : ∀ n, key ≠ E.TRACE_LOST n

section
variable {key : Nat} (quiet : Recordless key)
include quiet

theorem dval_raise_of_recordless (s : State) (code scope : Nat) (detail : List Nat) : (s.raise code scope detail).dval key = s.dval key := by
  unfold State.raise
  dsimp only
  split
  · exact (dval_bumpBy_other (quiet.part _ (Nat.mod_lt _ (by decide)))).trans (dval_setNum_other quiet.seq)
  · exact dval_setNum_other quiet.seq

theorem dval_countLoss (s : State) (n d : Nat) : (s.countLoss n d).dval key = s.dval key := by
  unfold State.countLoss
  have counted : ((s.bumpBy (E.TRACE_LOST n) 64 d).onPart n (fun p => { p with lossEvent := true, perfLost := p.perfLost + d })).dval key = s.dval key :=
    dval_bumpBy_other (quiet.lost n)
  split
  · rfl
  · dsimp only
    split
    · exact counted
    · exact (dval_raise_of_recordless quiet ..).trans counted

theorem dval_coreRecord (s : State) (n g typ info iaddr data : Nat) : (s.coreRecord n g typ info iaddr data).dval key = s.dval key := by
  unfold State.coreRecord State.hearthRecord
  split
  · split
    · rfl
    · exact dval_countLoss quiet ..
  · rfl

theorem dval_trigger (s : State) (n source data cycle : Nat) : (s.trigger n source data cycle).dval key = s.dval key := by
  unfold State.trigger
  split
  · exact dval_raise_of_recordless quiet ..
  · rfl

end

/-! The trap -/

/-- CORE_TRAP keeps the record of trap cycle `c`: it is the earlier one, or at equal cycles that of a hearth not above `l`. -/
def keepsTrap (old : List Byte) (l c cyc : Nat) : Bool := decide (c < cyc) || (c == cyc && decide (fld old 2 2 ≤ l))

theorem keepsTrap_iff (old : List Byte) (l c cyc : Nat) : keepsTrap old l c cyc = true ↔ c < cyc ∨ (c = cyc ∧ fld old 2 2 ≤ l) := by
  simp [keepsTrap]

/-- A trap is counted, its event raised, its record written, and the trace triggered where TRACE_SELECT asks for it. -/
def logTrap (s : State) (n g cause iaddr detail cyc : Nat) (triggers : Bool) : State :=
  let s2 := ((s.bump (E.CORE_TRAPS n)).raise 0xE301 (scopeP n)).coreRecord n g 0x07 cause iaddr detail
  if triggers then s2.trigger n 3 cause cyc else s2

theorem dval_logTrap {key : Nat} (quiet : Recordless key) (s : State) (n g cause iaddr detail cyc : Nat) (triggers : Bool) :
    (logTrap s n g cause iaddr detail cyc triggers).dval key = (s.bump (E.CORE_TRAPS n)).dval key := by
  have recorded : (((s.bump (E.CORE_TRAPS n)).raise 0xE301 (scopeP n)).coreRecord n g 0x07 cause iaddr detail).dval key = (s.bump (E.CORE_TRAPS n)).dval key :=
    (dval_coreRecord quiet ..).trans (dval_raise_of_recordless quiet ..)
  unfold logTrap
  dsimp only
  split
  · exact (dval_trigger quiet ..).trans recorded
  · exact recorded

section
variable {s : State} {n l g cause engine iaddr w detail cyc : Nat}

/-- The first trap of a step stops the partition and ends its step. -/
theorem fatalTrap_part_of_first (first : (s.part n).trapAt = none) : let p := (s.fatalTrap n l g cause engine iaddr w detail cyc).part n
    p.trapAt = some cyc ∧ p.phase = .idle := by
  unfold State.fatalTrap
  simp only [first, part_onPart, if_true, and_self]

/-- A later trap of the step that is no memory trap: CORE_TRAP keeps one of the two records, and the trap is logged. -/
theorem fatalTrap_of_later {c : Nat} (later : (s.part n).trapAt = some c) (cause_ : cause ≠ 8) :
    s.fatalTrap n l g cause engine iaddr w detail cyc =
      (logTrap (if keepsTrap (s.blob (E.CORE_TRAP n)) l c cyc then s
          else s.setBlob (E.CORE_TRAP n) (trapRecord s n l g cause engine iaddr w detail cyc))
        n g cause iaddr detail cyc ((s.num (E.TRACE_SELECT n)).testBit 4)).onPart n (fun p => { p with trapAt := some (min c cyc) }) := by
  unfold State.fatalTrap
  simp only [later, if_neg cause_]
  rfl

end

section
variable (n : Fin 12)

theorem recordless_coreTrap : Recordless (E.CORE_TRAP n) := by
  constructor <;> intros <;> unfold E.CORE_TRAP <;> simp only [E.EVENT_SEQ, E.PART_EVENT_SEQ, E.TRACE_LOST] <;> omega

theorem recordless_coreTraps : Recordless (E.CORE_TRAPS n) := by
  constructor <;> intros <;> unfold E.CORE_TRAPS <;> simp only [E.EVENT_SEQ, E.PART_EVENT_SEQ, E.TRACE_LOST] <;> omega

end

theorem coreTrap_ne_coreTraps (n : Nat) : E.CORE_TRAP n ≠ E.CORE_TRAPS n := by
  unfold E.CORE_TRAP E.CORE_TRAPS
  omega

/-- Settles O21: the first trap ends the step; a later one leaves the earlier record in CORE_TRAP and is counted. -/
theorem fatalTrapStops : Obligations.FatalTrapStops := by
  unfold Obligations.FatalTrapStops
  intro s n l g cause engine iaddr w detail cyc
  refine ⟨fatalTrap_part_of_first, fun c later other => ?_⟩
  rw [fatalTrap_of_later later other]
  generalize chosen : (if keepsTrap (s.blob (E.CORE_TRAP n)) l c cyc then s
    else s.setBlob (E.CORE_TRAP n) (trapRecord s n l g cause engine iaddr w detail cyc)) = u
  have record : u.blob (E.CORE_TRAP n) = if c < cyc ∨ (c = cyc ∧ fld (s.blob (E.CORE_TRAP n)) 2 2 ≤ l) then s.blob (E.CORE_TRAP n)
      else trapRecord s n l g cause engine iaddr w detail cyc := by
    rw [← chosen]
    by_cases kept : keepsTrap (s.blob (E.CORE_TRAP n)) l c cyc = true
    · rw [if_pos kept, if_pos ((keepsTrap_iff ..).mp kept)]
    · rw [if_neg kept, if_neg (mt (keepsTrap_iff ..).mpr kept), blob_setBlob, if_pos rfl]
  have count : u.num (E.CORE_TRAPS n) = s.num (E.CORE_TRAPS n) := by
    rw [← chosen]
    split
    · rfl
    · exact num_of_dval (dval_setBlob_other (coreTrap_ne_coreTraps n).symm)
  refine ⟨congrArg Part.trapAt ((part_onPart ..).trans (if_pos rfl)), ?_, fun fits => ?_⟩
  · rw [← record]
    exact (blob_of_dval (dval_logTrap (recordless_coreTrap n) ..)).trans (blob_of_dval (dval_bumpBy_other (coreTrap_ne_coreTraps n)))
  · rw [← count] at fits ⊢
    exact (num_of_dval (dval_logTrap (recordless_coreTraps n) ..)).trans (num_bumpBy_same fits)

end Sys2Proof.Proofs
end

section
/-!
PROOFS. A discarded attempt: scalar data returns to its committed copy, reports and staged counts are dropped (R92, R198, R225, R248).
-/
namespace Sys2Proof.Proofs
open Sys2Proof.Machine Sys2Proof.Laws

/-- What one member of a list brings about, and every member keeps, holds after all of them; `P` is what they may rely on. -/
theorem forAll_establishes {α : Type} {P Q : State → Prop} {f : α → State → State} {l : List α} {x : α} (member : x ∈ l)
    (brings : ∀ s, P s → Q (f x s)) (keeps : ∀ y ∈ l, ∀ s, P s → Q s → Q (f y s)) (relies : ∀ y ∈ l, ∀ s, P s → P (f y s)) {s : State} (start : P s) :
    Q (forAll l f s) := by
  have after {s : State} (k : List α) (within : ∀ y ∈ k, y ∈ l) (p : P s) (q : Q s) : Q (forAll k f s) := by
    unfold forAll
    induction k generalizing s with
    | nil => exact q
    | cons y r ih =>
      have here := within y (List.mem_cons_self ..)
      exact ih (fun z hz => within z (List.mem_cons_of_mem _ hz)) (relies y here s p) (keeps y here s p q)
  have reaches (k : List α) (within : ∀ y ∈ k, y ∈ l) (mine : x ∈ k) {s : State} (p : P s) : Q (forAll k f s) := by
    induction k generalizing s with
    | nil => exact absurd mine List.not_mem_nil
    | cons y r ih =>
      have here := relies y (within y (List.mem_cons_self ..)) s p
      have rest : ∀ z ∈ r, z ∈ l := fun z hz => within z (List.mem_cons_of_mem _ hz)
      rcases List.mem_cons.mp mine with rfl | later
      · exact after r rest here (brings s p)
      · exact ih rest later here
  exact reaches l (fun _ h => h) member start

/-! A copy within the byte memory -/

theorem look_shifted {r : Memory} {src dst x : Nat} (above : ∀ c ∈ r, src ≤ c.1) (reached : dst ≤ x) :
    Memory.look (r.map (fun c => (c.1 - src + dst, c.2))) x = r.look (x - dst + src) := by
  induction r with
  | nil => rfl
  | cons c r ih =>
    have low := above c (List.mem_cons_self ..)
    have same : (c.1 - src + dst = x) = (c.1 = x - dst + src) := propext ⟨fun h => by omega, fun h => by omega⟩
    simp only [List.map_cons, Memory.look, ih fun d hd => above d (List.mem_cons_of_mem _ hd), same]

/-- Copied bytes read as their source did; every other address reads as before. -/
theorem look_copy (m : Memory) (src dst n x : Nat) :
    (m.copy src dst n).look x = if dst ≤ x ∧ x < dst + n then m.look (x - dst + src) else m.look x := by
  unfold Memory.copy
  rw [look_splice]
  · split
    case isFalse => rfl
    case isTrue inside =>
      rw [look_shifted (fun c hc => by simp only [List.mem_filter, decide_eq_true_eq] at hc; exact hc.2.1) inside.1]
      have source := look_filter (m := m) (fun k => decide (src ≤ k ∧ k < src + n)) (x - dst + src)
      rwa [if_pos (by simp only [decide_eq_true_eq]; omega)] at source
  · simp only [List.mem_map, List.mem_filter, decide_eq_true_eq]
    rintro _ ⟨c, ⟨-, inside⟩, rfl⟩
    simp only
    omega

/-! The hearths of a discarded attempt -/

/-- A hearth's working copy returns to the committed one, and its reports are dropped. -/
def restoreHearth (l : Nat) (s : State) : State :=
  (s.copyRange (sdComm (s.phys l)) (sdWork (s.phys l)) 0x8000).onHearth (s.phys l) (fun h => { h with nanRep := none, mism := [] })

theorem discardAttempt_eq (s : State) (n : Nat) : s.discardAttempt n =
    let s3 := (forAll ((s.kvDiscard n).hearthsOf n) restoreHearth (s.kvDiscard n)).onPart n (fun p => { p with emptyRows := 0, evidence := 0, scoreOps := 0, badRows := 0 })
    forAll (s3.entriesOf n) (fun i s => s.onRx i (fun x => { x with handle := 0, attachBad := false })) s3 := rfl

/-- Of a view of which what the device remembers of requests is no part, only the hearths' restoring and the counts matter. -/
theorem discardAttempt_same {α : Type} (φ : State → α) (beside : ∀ s i f, φ (State.onRx s i f) = φ s) (s : State) (n : Nat) : φ (s.discardAttempt n) =
    φ ((forAll ((s.kvDiscard n).hearthsOf n) restoreHearth (s.kvDiscard n)).onPart n (fun p =>
      { p with emptyRows := 0, evidence := 0, scoreOps := 0, badRows := 0 })) := by
  rw [discardAttempt_eq]
  exact forAll_same (fun i s => beside s i _) _

theorem phys_of_remap {s t : State} (same : t.remap = s.remap) (l : Nat) : t.phys l = s.phys l := by rw [State.phys, State.phys, same]

theorem restoreHearth_look (l : Nat) (s : State) (a : Nat) : (restoreHearth l s).mem.look a =
    if sdWork (s.phys l) ≤ a ∧ a < sdWork (s.phys l) + 0x8000 then s.mem.look (a - sdWork (s.phys l) + sdComm (s.phys l)) else s.mem.look a :=
  look_copy ..

/-- While hearths of a state `u` are restored, bindings and committed copies are as in `u`. -/
structure Restoring (u s : State) : Prop where
  remap : s.remap = u.remap
  committed : ∀ a, 2 ^ 31 + 2 ^ 24 ≤ a → s.mem.look a = u.mem.look a

section
variable {u s : State} {l : Nat}

theorem restoring_restoreHearth (bound : u.phys l < 216) (now : Restoring u s) : Restoring u (restoreHearth l s) := by
  refine ⟨now.remap, fun a above => ?_⟩
  rw [restoreHearth_look, phys_of_remap now.remap, if_neg (by unfold sdWork; omega)]
  exact now.committed a above

/-- The working copy of a hearth holds what the committed copy of `u` held. -/
def workRestored (u : State) (g : Nat) (s : State) : Prop := ∀ i < 0x8000, s.mem.look (sdWork g + i) = u.mem.look (sdComm g + i)

theorem workRestored_own (now : Restoring u s) : workRestored u (u.phys l) (restoreHearth l s) := by
  intro i inside
  rw [restoreHearth_look, phys_of_remap now.remap, if_pos (by omega), now.committed _ (by unfold sdComm; omega)]
  exact congrArg u.mem.look (by omega)

theorem workRestored_kept {g : Nat} (now : Restoring u s) (done : workRestored u g s) : workRestored u g (restoreHearth l s) := by
  by_cases mine : u.phys l = g
  · exact mine ▸ workRestored_own now
  · intro i inside
    rw [restoreHearth_look, phys_of_remap now.remap, if_neg (by unfold sdWork; omega)]
    exact done i inside

/-- The hearth has no report of the attempt. -/
def unreported (g : Nat) (s : State) : Prop := (s.hearth g).nanRep = none ∧ (s.hearth g).mism = []

theorem restoreHearth_hearth (i : Nat) : (restoreHearth l s).hearth i =
    if i = s.phys l then { s.hearth (s.phys l) with nanRep := none, mism := [] } else s.hearth i := hearth_onHearth ..

theorem unreported_own (now : Restoring u s) : unreported (u.phys l) (restoreHearth l s) := by
  rw [unreported, restoreHearth_hearth, phys_of_remap now.remap, if_pos rfl]
  exact ⟨rfl, rfl⟩

theorem unreported_kept {g : Nat} (done : unreported g s) : unreported g (restoreHearth l s) := by
  rw [unreported, restoreHearth_hearth]
  split
  · exact ⟨rfl, rfl⟩
  · exact done

/-- An address outside the working copies of the hearths restored reads as before. -/
theorem forAll_restoreHearth_look {ls : List Nat} {a : Nat} (outside : ∀ l ∈ ls, a < sdWork (u.phys l) ∨ sdWork (u.phys l) + 0x8000 ≤ a)
    (remap : s.remap = u.remap) : (forAll ls restoreHearth s).mem.look a = s.mem.look a := by
  unfold forAll
  induction ls generalizing s with
  | nil => rfl
  | cons l r ih =>
    have mine := outside l (List.mem_cons_self ..)
    have kept : (restoreHearth l s).remap = u.remap := remap
    refine (ih (s := restoreHearth l s) (fun x hx => outside x (List.mem_cons_of_mem _ hx)) kept).trans ?_
    rw [restoreHearth_look, phys_of_remap remap, if_neg (by omega)]

end

/-- Settles O34: hearth after hearth is restored; working copies lie below the committed ones and do not meet one another. -/
theorem discardRestoresScalarData : Obligations.DiscardRestoresScalarData := by
  unfold Obligations.DiscardRestoresScalarData
  intro s n u t bound
  have mem : t.mem = (forAll (u.hearthsOf n) restoreHearth u).mem := discardAttempt_same State.mem (fun _ _ _ => rfl) s n
  have hearth (g : Nat) : t.hearth g = (forAll (u.hearthsOf n) restoreHearth u).hearth g := discardAttempt_same (fun s => s.hearth g) (fun _ _ _ => rfl) s n
  have part : t.part n = _ := discardAttempt_same (fun s => s.part n) (fun _ _ _ => rfl) s n
  rw [part_onPart, if_pos rfl] at part
  have start : Restoring u u := ⟨rfl, fun _ _ => rfl⟩
  have relies : ∀ l ∈ u.hearthsOf n, ∀ s, Restoring u s → Restoring u (restoreHearth l s) := fun l member _ now => restoring_restoreHearth (bound l member) now
  refine ⟨fun l member => ?working, fun a outside => ?others, fun l member => ?reports, by rw [part], by rw [part], by rw [part]⟩
  case working =>
    rw [mem]
    exact forAll_establishes member (fun _ now => workRestored_own now) (fun _ _ _ now done => workRestored_kept now done) relies start
  case others =>
    rw [mem]
    exact forAll_restoreHearth_look outside rfl
  case reports =>
    rw [hearth]
    exact forAll_establishes (Q := unreported (u.phys l)) member (fun _ now => unreported_own now) (fun _ _ _ _ done => unreported_kept done) relies start

end Sys2Proof.Proofs
end

section
/-!
PROOFS. The start barrier of a step (R94, R106, Table 03-10).
-/
namespace Sys2Proof.Proofs
open Sys2Proof.Machine Sys2Proof.Laws

/-! A hearth at the start barrier -/

/-- The hearth is at the start barrier of a kind: to bring it there changes nothing. -/
def AtStart (kind : Nat) (h : Hearth) : Prop := h.atStart kind = h

theorem atStart_atStart (kind : Nat) (h : Hearth) : AtStart kind (h.atStart kind) := rfl

theorem atStart_traced {kind : Nat} {h : Hearth} {tr : TraceBuf} (there : AtStart kind h) : AtStart kind { h with trace := tr } :=
  congrArg (β := Hearth) (fun x => { x with trace := tr }) (a₁ := h.atStart kind) there

section
variable {n k l g : Nat} {s : State}

/-- The records of a hearth's start: the step's kind and number, and the time (R623). -/
def recordStart (n k g : Nat) (s : State) : State :=
  (s.coreRecord n g 0x01 k 0 (s.num (E.STEP_COUNT n))).coreRecord n g 0x02 0 0 (micro s.now)

/-- A logical hearth of the partition comes to the start barrier. -/
def startHearth (n k l : Nat) (s : State) : State := recordStart n k (s.phys l) (s.onHearth (s.phys l) (fun h => h.atStart k))

theorem traceOnly_recordStart : TraceOnly s (recordStart n k g s) := (traceOnly_coreRecord ..).trans (traceOnly_coreRecord ..)

theorem atStart_of_traceOnly {t : State} (same : TraceOnly s t) (there : AtStart k (s.hearth g)) : AtStart k (t.hearth g) := by
  obtain ⟨tr, e⟩ := same.hearth g
  exact e ▸ atStart_traced there

theorem startHearth_own : AtStart k ((startHearth n k l s).hearth (s.phys l)) := by
  refine atStart_of_traceOnly traceOnly_recordStart ?_
  rw [hearth_onHearth, if_pos rfl]
  exact atStart_atStart ..

theorem startHearth_kept (there : AtStart k (s.hearth g)) : AtStart k ((startHearth n k l s).hearth g) := by
  refine atStart_of_traceOnly traceOnly_recordStart ?_
  rw [hearth_onHearth]
  split
  · exact atStart_atStart ..
  · exact there

theorem startHearth_mem : (startHearth n k l s).mem = s.mem := traceOnly_recordStart.mem
theorem startHearth_remap : (startHearth n k l s).remap = s.remap := traceOnly_recordStart.remap

/-! The partition's phase -/

theorem phase_onPart {m i : Nat} {f : Part → Part} (same : (f (s.part m)).phase = (s.part m).phase) : ((s.onPart m f).part i).phase = (s.part i).phase := by
  rw [part_onPart]
  split
  · next e => rw [same, e]
  · rfl

theorem phase_countLoss (i d : Nat) : ((s.countLoss n d).part i).phase = (s.part i).phase := by
  have counted : (((s.bumpBy (E.TRACE_LOST n) 64 d).onPart n (fun p => { p with lossEvent := true, perfLost := p.perfLost + d })).part i).phase = (s.part i).phase :=
    phase_onPart (s := s.bumpBy (E.TRACE_LOST n) 64 d) rfl
  unfold State.countLoss
  dsimp only
  split
  · rfl
  · split
    · exact counted
    · rw [raise_part, counted]

theorem phase_coreRecord (i typ info iaddr data : Nat) : ((s.coreRecord n g typ info iaddr data).part i).phase = (s.part i).phase := by
  unfold State.coreRecord State.hearthRecord
  split
  · split
    · rfl
    · exact phase_countLoss ..
  · rfl

theorem startHearth_phase (i : Nat) : ((startHearth n k l s).part i).phase = (s.part i).phase := (phase_coreRecord ..).trans (phase_coreRecord ..)

end

/-! What follows the hearths' start -/

/-- Hearths, memory and the partition's phase. -/
def barrierView (n : Nat) (s : State) : Tab Hearth × Memory × Phase := (s.hearths, s.mem, (s.part n).phase)

theorem besideEvents_barrierView (n : Nat) : BesideEvents (barrierView n) := ⟨fun _ _ _ _ _ _ => rfl⟩

section
variable {n j : Nat} {s : State}

theorem barrierView_onPart {f : Part → Part} (same : (f (s.part n)).phase = (s.part n).phase) : barrierView n (s.onPart n f) = barrierView n s :=
  congrArg (fun p => (s.hearths, s.mem, p)) (phase_onPart same)

theorem barrierView_kindledStep : barrierView n (s.kindledStep n j) = barrierView n s := by
  have q := besideEvents_barrierView n
  unfold State.kindledStep
  exact ite_same ((q.raise ..).trans ((q.setBlob ..).trans (q.setBlob ..))) rfl

theorem barrierView_unavailable (cause start : Nat) : barrierView n (s.unavailable n cause start) = barrierView n s := by
  have q := besideEvents_barrierView n
  exact (q.raise ..).trans ((barrierView_onPart rfl).trans (q.bumpBy ..))

theorem barrierView_turnAttempt (tstep : Nat) : barrierView n (s.turnAttempt n j tstep) = barrierView n s := ite_same rfl rfl

end

/-- The partition's marks at the start of a step. -/
def stepMarked (s : State) (n j : Nat) : State :=
  s.onPart n (fun p => { p with
    phase := .running, job := j, kind := (s.job n j).kind, stepT0 := s.now, firstT0 := if (s.part n).attempt = 0 then s.now else p.firstT0, schedFault := false,
    trapAt := none, halt := none, lossEvent := false, pieces := 0, inPiece := false, ueDiscard := false, refill := [], lostData := false, again := false,
    halted := false, haltNs := 0, kv := {}, trigger := none, firstStep := none, idleSince := none, lostHearth := false,
    sliceAt := some (p.sliceAt.getD s.now) })

/-- The state once every hearth of the partition is at the start barrier. -/
def hearthsStarted (s : State) (n j : Nat) : State :=
  forAll (s.hearthsOf n) (startHearth n (s.job n j).kind) (stepMarked s n j)

theorem barrierView_startStep (s : State) (n j : Nat) : barrierView n (s.startStep n j) = barrierView n (hearthsStarted s n j) := by
  unfold State.startStep
  extract_lets p k s1 s2 s3 s4 s5 s6
  have streamed : barrierView n s3 = barrierView n s2 := ite_same rfl rfl
  have attempted : barrierView n s5 = barrierView n s4 := ite_same (barrierView_turnAttempt _) rfl
  have kindled : barrierView n s6 = barrierView n s2 := barrierView_kindledStep.trans (attempted.trans streamed)
  split
  · exact (barrierView_onPart rfl).trans ((barrierView_unavailable ..).trans kindled)
  · exact kindled

theorem hearthsStarted_mem (s : State) (n j : Nat) : (hearthsStarted s n j).mem = s.mem :=
  forAll_same (φ := State.mem) (fun _ _ => startHearth_mem) (stepMarked s n j)

theorem hearthsStarted_phase (s : State) (n j : Nat) : ((hearthsStarted s n j).part n).phase = .running := by
  refine (forAll_same (φ := fun s => (s.part n).phase) (fun _ _ => startHearth_phase n) (stepMarked s n j)).trans ?_
  rw [stepMarked, part_onPart, if_pos rfl]

theorem hearthsStarted_atStart {s : State} {n j l : Nat} (member : l ∈ s.hearthsOf n) :
    AtStart (s.job n j).kind ((hearthsStarted s n j).hearth (s.phys l)) :=
  forAll_establishes (P := fun t => t.remap = s.remap) (Q := fun t => AtStart _ (t.hearth (s.phys l))) member
    (fun _ remap => phys_of_remap remap l ▸ startHearth_own) (fun _ _ _ _ there => startHearth_kept there) (fun _ _ _ remap => startHearth_remap.trans remap) rfl

/-- Settles O33: every hearth is brought to the start barrier, and nothing after that touches hearths, memory or the phase. -/
theorem stepStartsClean : Obligations.StepStartsClean := by
  unfold Obligations.StepStartsClean
  intro s n j t
  obtain ⟨hearths, rest⟩ := Prod.mk.inj (barrierView_startStep s n j)
  obtain ⟨mem, phase⟩ := Prod.mk.inj rest
  refine ⟨phase.trans (hearthsStarted_phase s n j), mem.trans (hearthsStarted_mem s n j), fun l member => ?_⟩
  have same : t.hearth (s.phys l) = (hearthsStarted s n j).hearth (s.phys l) := congrArg (fun h => h.getD (s.phys l) {}) hearths
  intro h
  have there : AtStart (s.job n j).kind h := (congrArg _ same).mpr (hearthsStarted_atStart member)
  rw [← show h.atStart (s.job n j).kind = h from there]
  exact ⟨rfl, rfl, rfl, rfl, rfl, rfl, fun _ => ite_self _, fun _ => ⟨rfl, rfl⟩, fun _ => rfl⟩

end Sys2Proof.Proofs
end

section
/-!
PROOFS. What a starting operation of an engine leaves as it is: cores, registers, summaries, engine queues and the queue of commands (R100, R153).
-/
namespace Sys2Proof.Proofs
open Sys2Proof.Machine Sys2Proof.Laws

/-! Views of a hearth -/

/-- What of a hearth a starting operation leaves as it is. -/
def coreView (h : Hearth) : Nat × Nat × Tab W64 × Tab YReg × Stall × Tab (List Op) × Tab Nat := (h.pc, h.cycle, h.regs, h.ys, h.stall, h.engs, h.busy)

theorem sameCores_iff {s t : State} : SameCores s t ↔ ∀ i, coreView (t.hearth i) = coreView (s.hearth i) := by
  simp only [SameCores, coreView, Prod.mk.injEq]

/-- From `s` to `t` no core, register, summary, engine queue or command that waits has changed. -/
structure Aside (s t : State) : Prop where
  cores : SameCores s t
  pending : t.pending = s.pending

namespace Aside

variable {s t u : State}

theorem trans (h : Aside s t) (k : Aside t u) : Aside s u :=
  ⟨sameCores_iff.mpr fun i => (sameCores_iff.mp k.cores i).trans (sameCores_iff.mp h.cores i), k.pending.trans h.pending⟩

theorem ite {c : Prop} [Decidable c] (h : Aside s t) (k : Aside s u) : Aside s (if c then t else u) := by
  split <;> assumption

theorem onHearth (g : Nat) {f : Hearth → Hearth} (keeps : ∀ h, coreView (f h) = coreView h) : Aside s (s.onHearth g f) := by
  refine ⟨sameCores_iff.mpr fun i => ?_, rfl⟩
  rw [hearth_onHearth]
  split
  · next e => rw [keeps, e]
  · rfl

theorem of_traceOnly (h : TraceOnly s t) : Aside s t := by
  refine ⟨sameCores_iff.mpr fun i => ?_, h.pending⟩
  obtain ⟨_, e⟩ := h.hearth i
  rw [e]; rfl

/-- The check of the words an operation reads counts and raises events, no more (R142, R593). -/
theorem hreadCheck (n g code : Nat) (ranges : List (Nat × Nat)) : Aside s (s.hreadCheck n g code ranges) := by
  have ports : Aside s (s.onHearth g (fun h => h.count 17 (portBlocks ranges))) := .onHearth g fun _ => rfl
  unfold State.hreadCheck
  extract_lets ces s0 s1
  have read : Aside s s1 := .ite ports (ports.trans (.onHearth g fun _ => rfl))
  exact .ite (read.trans (.of_traceOnly (traceOnly_ueDiscard ..))) read

end Aside

/-! A view of all hearths and of the queue of commands, which reads of the tiers, messages and the KV cache leave alone -/

/-- Every hearth, and the commands that wait. -/
def hearthsView (s : State) : Tab Hearth × List Instr := (s.hearths, s.pending)

theorem aside_of_view {s t : State} (same : hearthsView t = hearthsView s) : Aside s t := by
  obtain ⟨hearths, pending⟩ := Prod.mk.inj same
  refine ⟨sameCores_iff.mpr fun i => ?_, pending⟩
  unfold State.hearth
  rw [hearths]

theorem besideTraffic_hearthsView : BesideTraffic hearthsView where
  same _ _ _ _ _ _ := rfl
  power _ _ _ _ := rfl
  trigger _ _ _ _ _ := rfl
  traffic _ _ _ _ _ _ _ _ _ := rfl
  dolli _ _ _ _ _ := rfl

theorem besideTiers_hearthsView : BesideTiers hearthsView where
  same _ _ _ _ _ _ := rfl
  tiers _ _ _ _ _ _ _ := rfl

section
variable {s : State}

/-! Reads of the tiers (Table 09-8) -/

theorem hold_view (n w : Nat) : hearthsView (s.hold n w) = hearthsView s := ite_same rfl rfl

theorem poisonShard_view (n w i tier : Nat) : hearthsView (s.poisonShard n w i tier) = hearthsView s := by
  have held (x : WSet) (detail : List Nat) : hearthsView (((s.onWset n w (fun _ => x)).raise 0xEA04 (scopeP n) detail).hold n w) = hearthsView s :=
    (hold_view ..).trans (besideTraffic_hearthsView.raise ..)
  unfold State.poisonShard
  exact ite_same (ite_same (held ..) (held ..)) rfl

theorem tierPageError_view (n r tier off : Nat) : hearthsView (s.tierPageError n r tier off) = hearthsView s := by
  have poisoned (key : Nat) : hearthsView (s.poisonPage n r key tier off) = hearthsView s := besideTiers_hearthsView.poisonPage ..
  unfold State.tierPageError
  refine ite_same (poisoned _) (ite_same ?shard (ite_same (poisoned _) (poisoned _)))
  split
  · exact (poisonShard_view ..).trans (poisoned _)
  · exact poisoned _

theorem readTier_view (n ta len : Nat) : hearthsView (s.readTier n ta len).1 = hearthsView s := by
  unfold State.readTier
  dsimp only
  split
  · rfl
  · exact forAll_same (φ := hearthsView) (fun _ _ => tierPageError_view ..) s

theorem readRows_view (n ta stride len rows : Nat) : hearthsView (s.readRows n ta stride len rows).1 = hearthsView s := by
  induction rows generalizing s ta with
  | zero => rfl
  | succ rows ih => exact (ih ..).trans (readTier_view ..)

theorem fst_view {β : Type} {x : State × β} {t : State} {b : β} (e : x = (t, b)) (same : hearthsView x.1 = hearthsView s) : hearthsView t = hearthsView s := by
  rwa [e] at same

theorem foldl_view {α β : Type} {f : State × β → α → State × β} (same : ∀ x a, hearthsView (f x a).1 = hearthsView x.1) (l : List α) (x : State × β) :
    hearthsView (l.foldl f x).1 = hearthsView x.1 := by
  induction l generalizing x with
  | nil => rfl
  | cons a l ih => exact (ih _).trans (same x a)

theorem burst_view (n ta : Nat) (x : State × List Byte) : hearthsView (State.burst n ta x).1 = hearthsView x.1 := readTier_view ..

theorem streamBytes_view (n l start len : Nat) : hearthsView (s.streamBytes n l start len).1 = hearthsView s := by
  unfold State.streamBytes
  dsimp only
  split
  · rfl
  · exact foldl_view (fun _ _ => burst_view ..) _ (s, [])

/-! Messages of a layout operation (R433) -/

theorem sendRow_view (n g seq ta haddr len : Nat) (put : Option (List Byte)) : hearthsView (s.sendRow n g seq ta haddr len put) = hearthsView s := by
  have drawn : hearthsView s.draw.2 = hearthsView s := rfl
  unfold State.sendRow State.send
  exact (besideTraffic_hearthsView.sendBy ..).trans drawn

theorem sendRows_view (n g : Nat) (o : Op) (put : Bool) : hearthsView (s.sendRows n g o put).1 = hearthsView s :=
  foldl_view (fun _ _ => sendRow_view ..) _ (s, [])

/-! The KV cache (R236, R247, R250) -/

theorem setRefs_view (k q v : Nat) : hearthsView (s.setRefs k q v) = hearthsView s := ite_same rfl rfl

theorem poisonKvPage_view (n k q : Nat) : hearthsView (s.poisonKvPage n k q) = hearthsView s :=
  ite_same rfl (besideTraffic_hearthsView.raise ..)

theorem cacheLost_view (n list : Nat) : hearthsView (s.cacheLost n list) = hearthsView s := by
  unfold State.cacheLost
  split <;> rfl

theorem lostPage_view (n k q list : Nat) : hearthsView ((s.poisonKvPage n k q).cacheLost n list) = hearthsView s :=
  (cacheLost_view ..).trans (poisonKvPage_view ..)

theorem readDir_view (n k src list : Nat) : hearthsView (s.readDir n k src list) = hearthsView s :=
  ite_same ((cacheLost_view ..).trans (ite_same rfl (besideTraffic_hearthsView.raise ..))) rfl

theorem readPage_view (n k q off len list : Nat) : hearthsView (s.readPage n k q off len list) = hearthsView s :=
  ite_same (lostPage_view ..) rfl

theorem kvEntry_view (n k list m l p : Nat) (r : List Byte) : hearthsView (s.kvEntry n k list m l p r).1 = hearthsView s := by
  unfold State.kvEntry
  dsimp only
  split
  · rfl
  split
  · rfl
  split
  · exact lostPage_view ..
  split
  · rfl
  split
  · exact lostPage_view ..
  · rfl

theorem kvEntries_view (n k list m l : Nat) (r : List Byte) (p count : Nat) : hearthsView (s.kvEntries n k list m l r p count).1 = hearthsView s := by
  induction count generalizing s p with
  | zero => rfl
  | succ count ih =>
    have entry := kvEntry_view (s := s) n k list m l p r
    unfold State.kvEntries
    split
    · next e => exact fst_view e entry
    · next s1 _ e =>
      have first : hearthsView s1 = hearthsView s := fst_view e entry
      split
      · next f => exact fst_view f ((ih ..).trans first)
      · next f => exact fst_view f ((ih ..).trans first)

theorem incRefs_view {α : Type} (k : Nat) (l : List α) (page : α → Nat) : hearthsView (forAll l (fun e s => s.incRef k (page e)) s) = hearthsView s :=
  forAll_same (φ := hearthsView) (fun _ _ => setRefs_view ..) s

theorem privateMap_view (n k list di : Nat) : hearthsView (s.privateMap n k list di).1 = hearthsView s := by
  unfold State.privateMap
  dsimp only
  split
  · exact setRefs_view ..
  · rfl
  · split
    · rfl
    · split
      · rfl
      · exact (setRefs_view ..).trans ((setRefs_view ..).trans (incRefs_view ..))

theorem privatePage_view (n k list m l p : Nat) (r : List Byte) : hearthsView (s.privatePage n k list m l p r).1 = hearthsView s := by
  unfold State.privatePage
  extract_lets tpp x s0
  have read : hearthsView s0 = hearthsView s := by
    unfold s0
    split
    · exact readPage_view ..
    · rfl
  have mapped := (privateMap_view n k list x.1).trans read
  split
  · next e => exact fst_view e mapped
  next s1 mp a e =>
  have page : hearthsView s1 = hearthsView s := fst_view e mapped
  extract_lets es take
  have taken (t : State) (copy : Option Nat) : hearthsView (take t copy).1 = hearthsView t := by
    unfold take
    split
    · rfl
    · next q _ =>
      have counted : hearthsView (t.setRefs k q 1) = hearthsView t := setRefs_view ..
      cases copy <;> exact counted
  split
  · exact (taken s1 none).trans page
  · split
    · split
      · next f => exact (setRefs_view ..).trans (fst_view f ((taken s1 none).trans page))
      · exact (taken s1 none).trans page
    · split
      · next o _ _ _ =>
        have copied := (taken (s1.readPage n k o 0 (p % tpp * kmEntry r) list) (some o)).trans ((readPage_view ..).trans page)
        split
        · next f => exact (setRefs_view ..).trans (fst_view f copied)
        · exact copied
      · exact page

theorem kvWrite_view (n k list m l : Nat) (r : List Byte) (fuel p : Nat) (bs : List (List Byte)) (a : Nat) :
    hearthsView (s.kvWrite n k list m l r fuel p bs a).1 = hearthsView s := by
  induction fuel generalizing s p bs a with
  | zero => unfold State.kvWrite; rfl
  | succ fuel ih =>
    cases bs with
    | nil => unfold State.kvWrite; rfl
    | cons b bs =>
      have opened := privatePage_view (s := s) n k list m l p r
      unfold State.kvWrite
      dsimp only
      split
      · next e => exact fst_view e opened
      · next e => exact (ih ..).trans ((besideTiers_hearthsView.store ..).trans (fst_view e opened))

end

end Sys2Proof.Proofs
end

section
/-!
PROOFS. The operations of the engines start (R100, R153, Tables 04-12, 05-4 to 05-10, 07-3, 08-4).
-/
namespace Sys2Proof.Proofs
open Sys2Proof.Machine Sys2Proof.Laws

/-! When no operation of the OPCODE is next -/

section
variable {s : State} {g e opc : Nat} {f : State → Nat → Nat → Op → Nat → Started}

theorem engStart_of_started (all : ∀ o ∈ (s.hearth g).ops e, o.started = true) : engStart s g e opc f = s := by
  have none_waits : ((s.hearth g).ops e).span (fun o => o.started) = ((s.hearth g).ops e, []) := by
    rw [List.span_eq_takeWhile_dropWhile, List.takeWhile_eq_self_iff.mpr all, List.dropWhile_eq_nil_iff.mpr all]
  unfold engStart
  split
  · simp only [none_waits]
  · rfl

theorem engStart_of_other {n l : Nat} {before : List Op} {o : Op} {rest : List Op} (waits : Waits s g e n l before o rest) (other : dOp o.desc ≠ opc) :
    engStart s g e opc f = s := by
  obtain ⟨part, bound, queue, ahead, fresh⟩ := waits
  simp only [engStart, part, bound, queue, span_append_cons ahead fresh, if_pos other]

end

/-! A row that starts an operation -/

/-- A row starts the next operation of its engine when that is of its OPCODE, and else changes nothing. -/
def StartsNext (s : State) (g : Fin 216) (x : Instr × Nat × Nat) : Prop :=
  (∀ n l before o rest, Waits s g x.2.1 n l before o rest → dOp o.desc = x.2.2 →
    (x.2.2 = 0x0403 → (s.hearth g).slotPending (dArg o.desc) o.seq = false) →
    ∃ base busy lat slat res, SameCores s base ∧ base.pending = s.pending ∧
      exec x.1 s = .next (base.startedAs g x.2.1 before o rest (s.startCycle g x.2.1 o) busy lat slat res)) ∧
  ((∀ o ∈ (s.hearth g).ops x.2.1, o.started = true) → exec x.1 s = .next s) ∧
  (∀ n l before o rest, Waits s g x.2.1 n l before o rest → dOp o.desc ≠ x.2.2 → exec x.1 s = .next s)

section
variable {s : State} {g : Fin 216} {i : Instr} {opc : Nat}

/-- So does every row whose operation leaves cores and queues aside as it reads its operands. -/
theorem startsNext_of_engStart {e : Nat} {f : State → Nat → Nat → Op → Nat → Started} (runs : exec i s = .next (engStart s g e opc f))
    (aside : ∀ n l o start, Aside s (f s n l o start).st) : StartsNext s g (i, e, opc) := by
  refine ⟨fun n l before o rest waits op _ => ?_, fun all => ?_, fun n l before o rest waits other => ?_⟩
  · obtain ⟨cores, pending⟩ := aside n l o (s.startCycle g e o)
    exact ⟨_, _, _, _, _, cores, pending, runs.trans (congrArg _ (engStart_of_waits waits op f))⟩
  · exact runs.trans (congrArg _ (engStart_of_started all))
  · exact runs.trans (congrArg _ (engStart_of_other waits other))

/-! The vector, reduction and conversion engines (Tables 05-4 to 05-6) -/

theorem startsNext_of_vecOp {trans hasB : Bool} {f : Nat → Nat → FV → FV → FV → FV → FV} (runs : exec i s = .next (vecOp s g opc trans hasB f)) :
    StartsNext s g (i, 1, opc) := startsNext_of_engStart runs fun _ _ _ _ => .hreadCheck ..

theorem startsNext_of_reduceOp {line : Bool → List FV → FV} {all : List FV → FV} (runs : exec i s = .next (reduceOp s g opc line all)) :
    StartsNext s g (i, 2, opc) := startsNext_of_engStart runs fun _ _ _ _ => .hreadCheck ..

theorem startsNext_of_quantOp {row : List Byte → (Nat → RM) → Nat → List FV → RowOut} (runs : exec i s = .next (quantOp s g opc row)) :
    StartsNext s g (i, 3, opc) := startsNext_of_engStart runs fun _ _ _ _ => .hreadCheck ..

theorem argmax_startsNext : StartsNext s g (.argmax g, 2, 0x0205) := startsNext_of_engStart (exec_argmax g s) fun _ _ _ _ => .hreadCheck ..
theorem topk_startsNext : StartsNext s g (.topk g, 2, 0x0206) := startsNext_of_engStart (exec_topk g s) fun _ _ _ _ => .hreadCheck ..
theorem cast_startsNext : StartsNext s g (.cast g, 3, 0x0301) := startsNext_of_engStart (exec_cast g s) fun _ _ _ _ => .hreadCheck ..
theorem expand_startsNext : StartsNext s g (.expand g, 3, 0x0305) := startsNext_of_engStart (exec_expand g s) fun _ _ _ _ => .hreadCheck ..
theorem constFill_startsNext : StartsNext s g (.constFill g, 3, 0x0306) := startsNext_of_engStart (exec_constFill g s) fun _ _ _ _ => aside_of_view rfl

theorem aside_readAfter {t : State} {n code : Nat} {ranges : List (Nat × Nat)} (same : hearthsView t = hearthsView s) : Aside s (t.hreadCheck n g code ranges) :=
  (aside_of_view same).trans (.hreadCheck ..)

/-! The statistics unit (Table 05-9); SOUT waits for the feeds of its slot (R172) -/

theorem sinit_startsNext : StartsNext s g (.sinit g, 4, 0x0401) := startsNext_of_engStart (exec_sinit g s) fun _ _ _ _ => aside_of_view rfl

theorem sacc_startsNext : StartsNext s g (.sacc g, 4, 0x0402) :=
  startsNext_of_engStart (exec_sacc g s) fun _ _ _ _ => aside_readAfter (s := s) rfl

/-- How SOUT starts, its slot free of pending feeds. -/
def soutStarted (g : Nat) (s : State) (_ _ : Nat) (o : Op) (start : Nat) : Started :=
  { st := (freeSummary s).2, res := { sum := (freeSummary s).1, sout := some (dArg o.desc) },
    busy := max start ((s.hearth g).stat (dArg o.desc)).added - start + 32, lat := 0 }

/-- The next operation of the statistics unit names a slot with pending feeds. -/
def soutWaits (h : Hearth) : Bool :=
  match (h.ops 4).find? (fun o => !o.started) with
  | some o => h.slotPending (dArg o.desc) o.seq
  | none => false

theorem exec_sout_eq : exec (.sout g) s = .next (if soutWaits (s.hearth g) = true then s else engStart s g 4 0x0403 (soutStarted g)) := rfl

theorem soutWaits_of_waits {n l : Nat} {before : List Op} {o : Op} {rest : List Op} (waits : Waits s g 4 n l before o rest) :
    soutWaits (s.hearth g) = (s.hearth g).slotPending (dArg o.desc) o.seq := by
  obtain ⟨-, -, queue, ahead, fresh⟩ := waits
  have next : ((s.hearth g).ops 4).find? (fun o => !o.started) = some o := by
    rw [queue, List.find?_append, List.find?_eq_none.mpr fun b member => by simp [ahead b member]]
    simp [fresh]
  unfold soutWaits
  rw [next]

theorem sout_startsNext : StartsNext s g (.sout g, 4, 0x0403) := by
  have runs := exec_sout_eq (s := s) (g := g)
  refine ⟨fun n l before o rest waits op free => ?_, fun all => ?_, fun n l before o rest waits other => ?_⟩
  · rw [if_neg (by rw [soutWaits_of_waits waits, free rfl]; decide), engStart_of_waits waits op] at runs
    obtain ⟨cores, pending⟩ := aside_of_view (s := s) (t := (freeSummary s).2) rfl
    exact ⟨_, _, _, _, _, cores, pending, runs⟩
  · rwa [engStart_of_started all, ite_self] at runs
  · rwa [engStart_of_other waits other, ite_self] at runs

/-! Sampling and attention (Tables 05-10, 07-3) -/

theorem startsNext_of_sampOp {good : SampRow → List Byte} (runs : exec i s = .next (sampOp s g opc good)) : StartsNext s g (i, 5, opc) :=
  startsNext_of_engStart runs fun _ _ _ _ => aside_readAfter (s := s) rfl

theorem penalize_startsNext : StartsNext s g (.penalize g, 5, 0x0501) := startsNext_of_engStart (exec_penalize g s) fun _ _ _ _ => .hreadCheck ..

theorem attn_startsNext : StartsNext s g (.attn g, 6, 0x0601) := by
  refine startsNext_of_engStart (exec_attn g s) fun n _ o _ => ?_
  have read : Aside s (s.hreadCheck n g 0xE701 (atReads o.desc)) := .hreadCheck ..
  refine read.trans ?_
  dsimp only
  exact .onHearth g fun _ => rfl

/-! The KV engine (Table 08-4) -/

/-- An operation of the KV engine first reads the directory of its list (R250); one on a padded slot draws its summary. -/
theorem startsNext_of_kvStart {busy : List Byte → List Byte → Nat} {lat : Nat} {f : State → Nat → Nat → Op → State × Result}
    (runs : exec i s = .next (kvStart s g opc busy lat f)) (aside : ∀ s n l o, Aside s (f s n l o).1) : StartsNext s g (i, 7, opc) := by
  refine startsNext_of_engStart runs fun n l o _ => ?_
  dsimp only
  split
  · exact aside_of_view rfl
  · exact (aside_of_view (readDir_view ..)).trans (aside ..)

theorem gather_startsNext : StartsNext s g (.gather g, 7, 0x0701) := by
  refine startsNext_of_kvStart (exec_gather g s) fun s n l o => aside_of_view ?_
  extract_lets d k r lim
  have entries := kvEntries_view (s := s) n k (kvList d) (kvModel d) (kvLayer d) r (kvPos d) (kvCount d)
  split
  · rfl
  · split
    · next e => exact fst_view e entries
    · next e => exact fst_view e entries

theorem kvAppend_startsNext : StartsNext s g (.kvAppend g, 7, 0x0702) := by
  refine startsNext_of_kvStart (exec_kvAppend g s) fun s n l o => ?_
  extract_lets d k r p c list m g rows s0
  have read : Aside s s0 := .hreadCheck ..
  have written := kvWrite_view (s := s0) n k list m (kvLayer d) r (c + 1) p rows 0
  split
  · exact aside_of_view rfl
  · split
    · next e => exact read.trans (aside_of_view (fst_view e written))
    · next s1 _ e =>
      have same : hearthsView s1 = hearthsView s0 := fst_view e written
      exact read.trans (aside_of_view same)

theorem accept_startsNext : StartsNext s g (.accept g, 7, 0x0703) := by
  refine startsNext_of_kvStart (exec_accept g s) fun s n l o => aside_of_view ?_
  dsimp only
  split <;> rfl

theorem attach_startsNext : StartsNext s g (.attach g, 7, 0x0704) := by
  refine startsNext_of_kvStart (exec_attach g s) fun s n l o => aside_of_view ?_
  extract_lets d k list s0 v slot
  split
  · rfl
  split
  · have read : hearthsView (s0.readDir n k (s.handleList n slot) list) = hearthsView s := readDir_view ..
    split
    · exact (incRefs_view k _ Prod.snd).trans read
    · split <;> exact read
  · split <;> rfl

theorem snap_startsNext : StartsNext s g (.snap g, 7, 0x0705) := by
  refine startsNext_of_kvStart (exec_snap g s) fun s n l o => aside_of_view ?_
  extract_lets d k list src cur s0
  split
  · rfl
  split
  · rfl
  extract_lets check h s1 s2 s3 j hs s4 s5
  have handled : hearthsView s1 = hearthsView s := ite_same rfl rfl
  have shared : hearthsView s2 = hearthsView s := (incRefs_view k _ Prod.snd).trans handled
  unfold s5
  split <;> exact shared

/-! The layout engine (Table 04-12) -/

theorem startsNext_of_laStart {f : State → Nat → Nat → Op → Nat → State × Result} (runs : exec i s = .next (laStart s g opc f))
    (aside : ∀ n l o start, Aside s (f s n l o start).1) : StartsNext s g (i, 8, opc) := startsNext_of_engStart runs aside

theorem linIn_startsNext : StartsNext s g (.linIn g, 8, 0x0001) := by
  refine startsNext_of_laStart (exec_linIn g s) fun n l o start => aside_of_view ?_
  dsimp only
  split
  · exact sendRows_view ..
  · exact readRows_view ..

theorem linOut_startsNext : StartsNext s g (.linOut g, 8, 0x0002) := by
  refine startsNext_of_laStart (exec_linOut g s) fun n l o start => ?_
  dsimp only
  split
  · exact .trans (.hreadCheck ..) (aside_of_view (sendRows_view ..))
  · exact .hreadCheck ..

theorem skewIn_startsNext : StartsNext s g (.skewIn g, 8, 0x0003) :=
  startsNext_of_laStart (exec_skewIn g s) fun _ _ _ _ => aside_of_view (readRows_view ..)

theorem skewLocal_startsNext : StartsNext s g (.skewLocal g, 8, 0x0004) := startsNext_of_laStart (exec_skewLocal g s) fun _ _ _ _ => .hreadCheck ..

theorem weightIn_startsNext : StartsNext s g (.weightIn g, 8, 0x0005) :=
  startsNext_of_laStart (exec_weightIn g s) fun _ _ _ _ => aside_of_view (streamBytes_view ..)

theorem fill_startsNext : StartsNext s g (.fill g, 8, 0x0006) := startsNext_of_laStart (exec_fill g s) fun _ _ _ _ => aside_of_view rfl

end

/-- Settles O23: row by row; each operation reads its operands and leaves cores and queues aside, and the frame `engStart` does the rest. -/
theorem engineOperationStarts : Obligations.EngineOperationStarts := by
  unfold Obligations.EngineOperationStarts
  intro s g
  change ∀ x ∈ startRows g, StartsNext s g x
  unfold startRows
  simp only [List.forall_mem_append, List.forall_mem_cons, List.not_mem_nil, false_implies, implies_true, and_true]
  refine ⟨⟨⟨⟨?elementwise, ?transcendental⟩, ?reduceConvert⟩, ?statsSampleAttend⟩, ?kvLayout⟩
  case elementwise =>
    exact ⟨startsNext_of_vecOp (exec_vectorAdd g s), startsNext_of_vecOp (exec_vectorSub g s), startsNext_of_vecOp (exec_vectorMul g s),
      startsNext_of_vecOp (exec_vectorMax g s), startsNext_of_vecOp (exec_vectorMin g s), startsNext_of_vecOp (exec_axpy g s),
      startsNext_of_vecOp (exec_affine g s), startsNext_of_vecOp (exec_muls g s), startsNext_of_vecOp (exec_sel g s), startsNext_of_vecOp (exec_abs g s)⟩
  case transcendental =>
    exact ⟨startsNext_of_vecOp (exec_exp g s), startsNext_of_vecOp (exec_log g s), startsNext_of_vecOp (exec_recip g s),
      startsNext_of_vecOp (exec_rsqrt g s), startsNext_of_vecOp (exec_sigm g s), startsNext_of_vecOp (exec_silu g s)⟩
  case reduceConvert =>
    exact ⟨startsNext_of_reduceOp (exec_reduceSum g s), startsNext_of_reduceOp (exec_sumsq g s), startsNext_of_reduceOp (exec_reduceMax g s),
      startsNext_of_reduceOp (exec_reduceMin g s), argmax_startsNext, topk_startsNext, cast_startsNext, startsNext_of_quantOp (exec_quantMx g s),
      startsNext_of_quantOp (exec_quantG16 g s), startsNext_of_quantOp (exec_compress g s), expand_startsNext, constFill_startsNext⟩
  case statsSampleAttend =>
    exact ⟨sinit_startsNext, sacc_startsNext, sout_startsNext, penalize_startsNext, startsNext_of_sampOp (exec_select g s),
      startsNext_of_sampOp (exec_probof g s), attn_startsNext⟩
  case kvLayout =>
    exact ⟨gather_startsNext, kvAppend_startsNext, accept_startsNext, attach_startsNext, snap_startsNext, linIn_startsNext, linOut_startsNext,
      skewIn_startsNext, skewLocal_startsNext, weightIn_startsNext, fill_startsNext⟩

end Sys2Proof.Proofs
end
